-- ==== Sys2Proof/Word.lean ====
section
/-! DEFINITION. The word types of the model: octets, 32-bit window registers and tables keyed by a number. -/

namespace Sys2Proof

/-- One octet of a wire value, a key or a frame. -/
abbrev Byte := BitVec 8

/-- One 32-bit register of a window or of the vault (R331, R520). -/
abbrev Word := BitVec 32

/-- A sparse table keyed by a number, kept sorted with rising keys. -/
abbrev Tab (α : Type) := List (Nat × α)

end Sys2Proof
end

