-- ==== Sys2Proof/Syntax.lean ====
section
/-! DEFINITION. The commands and events of the TZM (rows of the opcode table) and the operands they carry. Every command's
first operand `dt` is the number of 2 ns ticks of the time clock that passed since the command before it (R55). -/

namespace Sys2Proof

/-- A Jalyn request as it reached the module: its session, its SEQ and its REQ_ID, and whether its body agrees with its LENGTH field
(R140, R143). -/
structure Req where
  sess : Nat
  seq : Nat
  reqId : Nat
  lenOk : Bool := true
  parts : Nat := 1                        -- messages that carry its body, all but the last under MORE; seq is the last one's
  cut : Nat := 64                         -- entries of a READ or WRITE handled before another session's (R147)
  deriving DecidableEq, Repr

/-- A Jalyn address AA.OOOO/s (R109). -/
structure Addr where
  area : Nat
  obj : Nat
  sub : Nat
  deriving DecidableEq, Repr

/-- One entry of a WRITE, or the argument of an EXEC: type code and value octets (R112, R141). -/
structure WEntry where
  addr : Addr
  typ : Nat
  bytes : List Byte
  deriving DecidableEq, Repr

/-- One field of an object's value. -/
inductive Fld where
  | n (v : Nat)
  | i (v : Int)
  | o (bs : List Byte)
  deriving DecidableEq, Repr

/-- A value: its fields in the order of the object's layout; a scalar has one. -/
abbrev Val := List Fld

/-- What the vault's signature engine finds in a signed object (R494, R495): the trailer's fields and, for each check that
rests on a cryptographic primitive of another standard, whether it holds. -/
structure SignedObj where
  magic : List Byte
  version : Nat
  kind : Nat
  rsaAnchor : Nat
  slhAnchor : Nat
  svn : Nat
  contentLength : Nat
  digest : List Byte                        -- CONTENT_DIGEST
  rsaN : List Byte
  rsaE : Nat
  slhPk : List Byte
  running : List Byte                       -- the hub's running digest of the content
  sigsOk : Bool                             -- do RSA_SIG and SLH_SIG verify over bytes 0x0000 to 0x01F3
  fcl : Nat := 1                            -- a firmware image's compatibility level, and the lowest it can pair with (R432)
  fclMin : Nat := 1
  deriving DecidableEq, Repr

/-- One seat of an SV ASDU (R241). -/
structure Asdu where
  svidHash : Nat
  confRev : Nat
  smpCnt : Nat
  smpSynch : Nat
  smpRate : Option Nat
  values : List Int
  quality : List Nat
  deriving DecidableEq, Repr

/-- An SV frame's savPdu (R241, R242): well-formedness, APPID, simulate bit, authentication facts and ASDUs. -/
structure SvPdu where
  wellFormed : Bool
  appid : Nat
  sim : Bool
  keyId : Nat
  tagOk : Bool
  asdus : List Asdu
  deriving DecidableEq, Repr

/-- A GOOSE frame's PDU (R309): header strings as hashes with their equality facts, and the member slots. -/
structure GoosePdu where
  wellFormed : Bool
  appid : Nat
  sim : Bool
  keyId : Nat
  tagOk : Bool
  gocbHash : Nat
  gocbRef : List Byte
  datSet : List Byte
  goId : List Byte
  confRev : Nat
  ndsCom : Bool
  tal : Nat
  stNum : Nat
  sqNum : Nat
  t : Int
  layout : List (Nat × Nat)
  slots : List Nat
  deriving DecidableEq, Repr

/-- A claim beacon (R455). -/
structure Beacon where
  unitB : Bool
  pairId : Nat
  boot : Nat
  seq : Nat
  time : Int
  entries : List (Nat × Bool × Nat)   -- domain, HANDOVER_PENDING, claim
  tagOk : Bool
  deriving DecidableEq, Repr

/-- The dataset a PTP Announce carries. -/
structure Announce where
  gmIdentity : List Byte
  gmClass : Nat
  gmAccuracy : Nat
  gmVariance : Nat
  priority1 : Nat
  priority2 : Nat
  stepsRemoved : Nat
  utcOffset : Int
  utcValid : Bool
  leap : Nat                          -- 0 none, 1 insert, 2 delete
  inacc : Option Nat := none          -- totalTimeInaccuracy of an IEEE_C37_238 TLV, in ns
  ato : List Byte := []               -- an ALTERNATE_TIME_OFFSET_INDICATOR TLV
  sender : List Byte := []            -- the sourcePortIdentity of the message
  deriving DecidableEq, Repr

/-- A PTP message (R214), times in ns: the origin of a two-step Sync comes with its Follow_Up; a Pdelay_Resp carries the responder's
turnaround, a two-step one leaves it to its follow-up. `sender` is the sourcePortIdentity. -/
inductive PtpMsg where
  | sync (domain : Nat) (origin corr : Int) (twoStep : Bool) (sender : List Byte)
  | followUp (domain : Nat) (origin corr : Int) (sender : List Byte)
  | announce (domain : Nat) (a : Announce)
  | pdelayReq
  | pdelayResp (turn : Option Int)
  | pdelayRespFollowUp (turn : Int)
  | delayReq
  deriving DecidableEq, Repr

/-- The content of a frame a partition sends (R478, R480): what the Prefect judges and the octets it digests. -/
structure OutFrame where
  len : Nat
  dst : Nat
  etype : Nat
  vid : Nat                           -- 0 untagged
  appid : Nat
  bytes : List Byte
  deriving DecidableEq, Repr

/-- A TX ring request form (chapter 5, Transmit). -/
structure TxReq where
  bufAddr : Nat
  len : Nat
  dest : Nat
  cls : Nat
  launch : Bool
  dropLate : Bool
  tsReq : Bool
  cookie : Nat
  launchTime : Int
  frame : OutFrame
  deriving DecidableEq, Repr

/-- A work item descriptor (R355). -/
structure ItemDesc where
  arg0 : Nat
  arg1 : Nat
  tag : Nat
  flow : Nat
  prio : Nat
  complete : Bool
  budget : Nat
  compRing : Nat
  flags : Nat := 0                        -- IFLAGS[7:1], reserved
  rsv : Nat := 0                          -- byte 0x1D, reserved
  stat : Nat := 0                         -- STATUS as the descriptor held it
  deriving DecidableEq, Repr

/-- Are a work item descriptor's reserved fields zero (R355). -/
def ItemDesc.reservedOk (d : ItemDesc) : Bool := d.flags == 0 && d.rsv == 0

/-- A DMA descriptor (R382). -/
structure DmaDesc where
  src : Nat
  dst : Nat
  tag : Nat
  len : Nat
  op : Nat
  complete : Bool
  fence : Bool
  compRing : Nat
  flags : Nat := 0                        -- DFLAGS[7:2], reserved
  rsv : Nat := 0                          -- byte 0x1B, reserved
  rsv2 : Nat := 0                         -- half-word 0x1E, reserved
  deriving DecidableEq, Repr

/-- Are a DMA descriptor's reserved fields zero (R382). -/
def DmaDesc.reservedOk (d : DmaDesc) : Bool := d.flags == 0 && d.rsv == 0 && d.rsv2 == 0

/-- A GOOSE publish request (chapter 9) with the value image it points at. -/
structure GReq where
  dataAddr : Nat
  block : Nat
  launch : Bool
  dropLate : Bool
  cookie : Nat
  launchTime : Int
  image : List Nat
  deriving DecidableEq, Repr

/-- A Bolpel board request (R467). -/
structure BReq where
  board : Nat
  mask : Nat
  out : Nat
  cookie : Nat
  deriving DecidableEq, Repr

/-- A pickup-word entry (R548). -/
structure PReq where
  row : Nat
  mask : Nat
  value : Nat
  cookie : Nat
  deriving DecidableEq, Repr

/-- A receive buffer posted on an RX ring (chapter 5, POST form). -/
structure RxPost where
  bufAddr : Nat
  bufLen : Nat
  cookie : Nat
  deriving DecidableEq, Repr

/-- What a ring slot holds: a request form, a posted buffer, or what the hardware wrote there. -/
inductive Entry where
  | rx (p : RxPost)
  | tx (r : TxReq)
  | item (d : ItemDesc)
  | dma (d : DmaDesc)
  | goose (r : GReq)
  | bolpel (r : BReq)
  | pickup (r : PReq)
  | rxDone (p : RxPost) (bytes : Nat) (first last : Bool) (flags : Nat) (time : Int) (frameLen port steer vid pcp : Nat)
  | txDone (r : TxReq) (status cflags : Nat) (time : Int)
  | itemDone (d : ItemDesc) (status : Nat)
  | dmaDone (d : DmaDesc) (status : Nat)
  | gooseDone (r : GReq) (status stNum cflags : Nat) (time : Int)
  | bolpelDone (r : BReq) (status : Nat) (sent : Int) (readback seq : Nat)
  | pickupDone (r : PReq) (status : Nat)
  | completion (tag status source : Nat) (start finish : Int) (result ring : Nat)
  | image (row flags subst lost missed bodyAddr bodyLen items configSeq wSteps base condNs : Nat) (rowTime relTime : Int)
  | event (entry kind flags stNum sqNum tal : Nat) (rxTime t : Int) (claim missed bodyAddr members : Nat)
  deriving DecidableEq, Repr

/-- Where an item came from: the register port, a SUBMIT ring slot, a ring's trigger, the bell, a logic task. -/
inductive ItemSrc where
  | port
  | ring (q idx : Nat)
  | trigger (q first last : Nat)
  | bell
  | logic (task : Nat) (body : Bool)
  deriving DecidableEq, Repr

/-- A work item in the ready list or in service. -/
structure Item where
  num : Nat                               -- order of making ready, module-wide (R363)
  part : Nat
  d : ItemDesc
  src : ItemSrc
  row : Nat := 0                          -- origin row (R444)
  atNow : Nat := 0                        -- local time at which it was made ready
  budget : Nat := 0                       -- the budget it runs under (R355)
  deriving DecidableEq, Repr

/-- A held commit of an ORDERED item (R371). -/
structure Held where
  item : Nat
  part : Nat
  q : Nat
  comp : Option Nat
  entry : Entry
  row : Nat
  deriving DecidableEq, Repr

/-- An item of an ORDERED flow that has ended and whose completion waits for its turn (R373). -/
structure Ended where
  item : Item
  status : Nat
  start : Int
  finish : Int
  result : Nat
  deriving DecidableEq, Repr

/-- A flow (R367): type 1 ATOMIC, 2 ORDERED. -/
structure Flow where
  owner : Nat
  typ : Nat
  closing : Bool := false
  closeDue : Option Nat := none           -- when the rest of a flow being closed is fenced (R342)
  logic : Bool := false                   -- held by the hub for a logic task (R405)
  order : List Nat := []                  -- ORDERED: items not yet completed in order, oldest first
  ended : List Ended := []
  fin : List Ended := []                  -- ended in turn, their completions waiting until their commits are copied
  deriving DecidableEq, Repr

/-- A ring (R374, R375): indices, slots, pending triggers, reserved completion slots. -/
structure Ring where
  prod : Nat := 0
  done : Nat := 0
  cons : Nat := 0
  slots : Tab Entry := []
  res : Nat := 0                          -- reserved completion slots
  taken : Nat := 0                        -- the next entry the engine takes
  pend : List (Nat × Nat × Nat) := []     -- pending triggers: first, last index and origin row
  newFrom : Nat := 0                      -- first entry no trigger item has covered (mode ONE)
  comps : Tab Nat := []                   -- PORT rings: completion ring of a slot
  rows : Tab Nat := []                    -- origin row of a slot's entry
  items : Tab Nat := []                   -- the item that committed a slot's entry (R478)
  at_ : Tab Nat := []                     -- local time at which a slot's entry was committed (R23)
  takenAt : Nat := 0                      -- local time at which the engine last took an entry
  deriving DecidableEq, Repr

/-- A station (R412, R413): 0 UNUSED, 1 WAITING, 2 OK, 3 SUBSTITUTED. -/
structure Station where
  st : Nat := 0
  stNum : Nat := 0
  deriving DecidableEq, Repr

/-- A logic task's run (R406 to R424). -/
structure Task where
  flow : Nat := 0xFFFF
  cycle : Nat := 0
  started : Bool := false                 -- a cycle has started in this run
  ever : Bool := false                    -- a cycle has ever started (R407)
  body : Bool := false                    -- the body item is ready or in service
  err : Bool := false
  snapAt : Nat := 0
  stepped : Bool := false
  first : Bool := true
  restart : Nat := 0
  midRun : Bool := false                  -- the run began with MID_CYCLE
  seen : Nat := 0                         -- number of the last boundary judged, or stepped over (R407)
  wait : List (Bool × ItemDesc) := []     -- items that wait under R360: body or error
  prev : Tab Station := []                -- its stations at its previous snapshot
  online : List (Nat × Nat × Nat × Nat) := []  -- pending ONLINE_WRITEs: offset, size, value, local time they may take effect from
  onlineNow : Bool := false
  substs : Nat := 0
  overrun : Nat := 0
  overrunSat : Bool := false
  forcedNow : Bool := false
  boards : Tab (Nat × Nat) := []          -- board: OUT_MASK and OUT_STATE of the previous commit
  timeMax : Nat := 0
  deriving DecidableEq, Repr

/-- A GOOSE publish block (R301 to R308). -/
structure GBlock where
  has : Bool := false
  slots : List Nat := []
  st : Nat := 0
  sq : Nat := 0                           -- sqNum the next frame of this state carries
  sqLast : Nat := 0
  t : Int := 0
  tq : Nat := 0                           -- its time-quality octet
  gap : Nat := 0
  due : Option Int := none
  held : Option Nat := none               -- job of the launch frame not yet sent
  heldSlots : List Nat := []
  heldT : Int := 0
  deriving DecidableEq, Repr

/-- What a partition's migration carries besides its image (R350): its memory, by address, and its contexts. -/
structure MigCtx where
  spans : List (Nat × Nat) := []          -- the final marked granules: addresses and lengths
  cells : List (Nat × Byte) := []         -- their octets that are not zero
  dmaUsed : Nat := 0                      -- DMA tags in use
  profiles : List (Nat × Nat × Nat × Nat) := [] -- as in MigFit
  rings : Tab Ring := []
  ready : List Item := []
  held : List Held := []
  flows : Tab Flow := []
  holdRes : Nat := 0                      -- hold slots in use
  blocks : Tab GBlock := []
  tasks : Tab Task := []                  -- by SLOT; the times of their online writes are spans still to run
  forces : List (Nat × Val) := []         -- force rows of the partition
  lastRow : Nat := 0                      -- row of its last image
  deriving DecidableEq, Repr

/-- What a migration's handshake tells of the destination (R344). -/
structure MigFit where
  digest : List Byte                      -- of the partition's image
  alloc : List Byte                       -- its allowances and regions
  rate : Nat                              -- BASE_RATE in samples/s
  profiles : List (Nat × Nat × Nat × Nat) -- mapped profiles: number, active bank, state, swap row
  rows : List (Nat × Nat)                 -- mapped groups: number, rows since the last history restart
  deriving DecidableEq, Repr

/-- What an end of a migration agrees a key with: its random nonce and its ephemeral P-384 public key (R508). -/
structure MigEph where
  nonce : List Byte
  pub : List Byte
  deriving DecidableEq, Repr, Inhabited

/-- What a disable drains (R341): a partition, a unit, a flow. -/
inductive Drain where
  | part (p : Nat)
  | unit (n : Nat)
  | flow (f : Nat)
  deriving DecidableEq, Repr

/-- A migration message of EtherType 0x88B6 (R345, R350). -/
inductive MigMsg where
  | handshake (p : Nat) (fit : MigFit) (eph : MigEph)
  | round (p : Nat) (spans : List (Nat × Nat)) (cells : List (Nat × Byte))  -- a pre-copy round's granules (R346)
  | finalSet (p rowF rowR ctxBytes : Nat) (ctx : MigCtx)
  | restored (p : Nat)
  | image (p : Nat) (digest : List Byte)  -- the image a partition runs, told to the partner of a pair (R449)
  | abort (p reason : Nat)
  | handover (d claim row : Nat) (tagOk : Bool)
  | handoverAck (d : Nat) (ok : Bool)
  deriving DecidableEq, Repr

/-- What a received frame carries after its headers (R179). -/
inductive Body where
  | sv (p : SvPdu)
  | goose (p : GoosePdu)
  | ptp (m : PtpMsg)
  | supervision (src : Nat)
  | beacon (b : Beacon)
  | iul
  | mig (m : MigMsg) (tagOk : Bool)
  | pause (quanta : Nat)
  | control (opcode : Nat)
  | arp (target : Nat)
  | ipv4 (dst : Nat) (proto dstPort : Nat)             -- of ICMP, the type and code in place of the port
  | raw (bytes : List Byte)
  deriving DecidableEq, Repr

/-- A frame as a port receives it, headers parsed (R175 to R184). `len` counts from the destination address to the FCS. -/
structure Frame where
  len : Nat
  fcsOk : Bool
  dst : Nat
  src : Nat
  tag : Option (Nat × Nat)            -- VID, PCP
  etype : Nat
  rct : Option (Nat × Nat × Bool)     -- SeqNr, LanId, LSDUsize agrees
  hsr : Option (Nat × Nat)            -- PathId, SeqNr
  body : Body
  deriving DecidableEq, Repr

/-- What memory holds where a committed entry points (R370). -/
inductive MemAt where
  | none
  | frame (f : OutFrame)
  | image (slots : List Nat)
  deriving DecidableEq, Repr

/-- The control functions of an IRIG-B frame (R222, R231): local time offset, TAI less UTC, leap second, time quality. -/
structure IrigCf where
  localOffset : Int
  utcOffset : Int
  utcValid : Bool
  leap : Nat                          -- 0 none, 1 insert, 2 delete
  timeQuality : Nat
  deriving DecidableEq, Repr

/-- An IRIG-B frame (R231): whether it decodes, the x of B00x, BCD_YEAR and the control functions where the code has them, and the second
of the year it names, UTC or local. -/
structure IrigFrame where
  ok : Bool
  code : Nat
  year : Option Nat
  second : Nat
  cf : Option IrigCf
  deriving DecidableEq, Repr

/-- SFF-8472 page A0h as the module uses it (R169 to R171). -/
structure SfpId where
  identifier : Nat
  connector : Nat
  compliance : List Byte
  vendor : List Byte
  part : List Byte
  serial : List Byte
  wavelength : Nat
  ccBaseOk : Bool
  tenGig : Bool                       -- byte 3 [7:4] announces 10GBASE-SR, -LR, -LRM or -ER
  oneGig : Bool                       -- byte 6 announces a 1000BASE code
  ddm : Bool                          -- byte 92 bit 6
  deriving DecidableEq, Repr

/-- Diagnostic page A2h (10.0007). -/
structure SfpDdm where
  temp : Int
  vcc : Nat
  bias : Nat
  txPower : Nat
  rxPower : Nat
  deriving DecidableEq, Repr

/-- A client certificate's claims (R136, R150). -/
structure Cert where
  chainsToAnchor : Bool
  roles : List Nat
  partition : Nat
  deriving DecidableEq, Repr

/-- A ClientHello: does the cookie check pass, the suites and key-exchange groups offered, whether it takes the module's signature scheme,
the certificate presented and whether the client signs under one of the two schemes admitted (R135, R136). -/
structure ClientHello where
  cookieOk : Bool
  offers256 : Bool
  offers128 : Bool
  cert : Cert
  group384 : Bool := true
  group256 : Bool := true
  takesPss : Bool := true
  signsOk : Bool := true
  deriving DecidableEq, Repr

/-- The HELLO message: its SEQ and REQ_ID, and the request body (R140, R148). -/
structure HelloReq where
  versMin : Nat
  versMax : Nat
  role : Nat
  partition : Nat
  name : List Byte
  seq : Nat := 1
  reqId : Nat := 0
  deriving DecidableEq, Repr

/-- One row a configuration bundle stages (the bundle's own format is not in the manual). -/
structure BundleRow where
  addr : Addr
  row : Nat
  typ : Nat
  bytes : List Byte
  deriving DecidableEq, Repr

/-- What a vault operation found that rests on a cryptographic primitive (R495 to R509). -/
structure VaultFacts where
  signed : SignedObj
  unwrapOk : Bool
  key : List Byte
  bundle : List BundleRow
  prefectDigest : List Byte
  hasPrefect : Bool
  deriving DecidableEq, Repr

/-- PAIR_HELLO as received (R431). -/
structure PairHello where
  pairId : Nat
  unitB : Bool
  rank : Nat
  serial : List Byte
  units : Nat
  seatCap : Nat
  partCap : Nat
  fcl : Nat
  fclMin : Nat
  baseRate : Nat
  configDigest : List Byte
  rates : List Nat := []              -- rates of lanes 0 and 1 in Mbit/s, 0 a lane that is down
  deriving DecidableEq, Repr

/-- A seat unit as SEATS carries it (R436): unit number, values, quality, SMPCNT, flags, SMPSYNCH, RX_NS. -/
structure SeatCopy where
  unit : Nat
  values : List Int
  quality : List Nat
  smpCnt : Nat
  flags : Nat
  smpSynch : Nat
  rxNs : Nat
  deriving DecidableEq, Repr

/-- A TAGS record (R436). -/
structure TagRec where
  unit : Nat
  auth : Bool
  convFill : Bool
  sim : Bool
  vtag : Nat
  quality : List Nat
  deriving DecidableEq, Repr

/-- One stream's state in ALIGN (R450): entry, state, substitution count, good count, remembered rows. -/
structure AlignRec where
  entry : Nat
  state : Nat
  subst : Nat
  good : Nat
  remembered : List (Nat × List Int)
  deriving DecidableEq, Repr

/-- A Bolpel echo as received (R465). -/
structure Echo where
  sync : Nat := 0xAAAB
  board : Nat
  domain : Nat
  latch : Nat
  seq : Nat
  readback : Nat
  status : Nat
  crc : Nat
  deriving DecidableEq, Repr

/-- A mirrored operation (R433). -/
inductive MirrorOp where
  | commit (values : List (Nat × Val))
  | bundle (values : List (Nat × Val))      -- BUNDLE_APPLY, with the values its bundle stages
  | write (addr : Addr) (row : Nat) (v : Val)
  | seal (bank : Nat)
  | swap (profile row mode xfade : Nat)
  | disarm (profile : Nat)
  | online (p task offset size value : Nat)
  | force (row : Nat) (v : Val)
  | clearForces
  deriving DecidableEq, Repr

/-- A register write's place: the partition window, or the vault's own registers (R331, R520). -/
inductive RegSpace where
  | window
  | vault
  deriving DecidableEq, Repr

/-- The commands and events of the block, one constructor for each row of spec/opcode_table.json. -/
inductive Instr where
  /-- SUPPLY_GOOD (R76). -/
  | supplyGood (dt : Nat)
  /-- HUB_RELEASE (R76). -/
  | hubRelease (dt : Nat) (ga : Nat) (gap : Bool) (selB : Bool)
  /-- FIRMWARE_IMAGE_READ (R78). -/
  | firmwareImageRead (dt : Nat)
  /-- FIRMWARE_VERIFIED (R80). -/
  | firmwareVerified (dt : Nat) (obj : SignedObj)
  /-- UNIT_START_COMPLETE (R79). -/
  | unitStartComplete (dt : Nat) (sub : Nat)
  /-- HOLDUP_READY (R49). -/
  | holdupReady (dt : Nat)
  /-- OSC_READY (R54). -/
  | oscReady (dt : Nat)
  /-- PART_IMAGE_READ (R84). -/
  | partImageRead (dt : Nat)
  /-- PART_IMAGE_VERIFIED (R84). -/
  | partImageVerified (dt : Nat) (obj : SignedObj)
  /-- DIE_POWER_UP_DONE (R20). -/
  | diePowerUpDone (dt : Nat) (die : Nat)
  /-- D2D_LINK_FAIL (R14). -/
  | d2dLinkFail (dt : Nat) (die link : Nat)
  /-- CC_LOCKSTEP_MISMATCH (R13). -/
  | ccLockstepMismatch (dt : Nat) (pair : Nat)
  /-- WDT_SERVICE (R96). -/
  | wdtService (dt : Nat) (pair : Nat)
  /-- WDT_LAPSE (R98). -/
  | wdtLapse (dt : Nat)
  /-- FATAL_ERROR (R102). -/
  | fatalError (dt : Nat) (cause : Nat)
  /-- DUMP_WRITE_DONE (R102). -/
  | dumpWriteDone (dt : Nat)
  /-- DUMP_PROTECT (R105). -/
  | dumpProtect (dt : Nat) (rq : Req) (slot : Nat)
  /-- DUMP_RELEASE (R105). -/
  | dumpRelease (dt : Nat) (rq : Req) (slot : Nat)
  /-- RESTART (R107). -/
  | restart (dt : Nat) (rq : Req)
  /-- FW_IMAGE_APPLY (R83). -/
  | fwImageApply (dt : Nat) (rq : Req) (slot : Nat)
  /-- FW_APPLY_DONE (R83). -/
  | fwApplyDone (dt : Nat) (obj : SignedObj)
  /-- FW_ACTIVATE (R83). -/
  | fwActivate (dt : Nat) (rq : Req) (slot : Nat)
  /-- UNIT_DISABLE (R91). -/
  | unitDisable (dt : Nat) (rq : Req) (sub : Nat)
  /-- UNIT_ENABLE (R91). -/
  | unitEnable (dt : Nat) (rq : Req) (sub : Nat)
  /-- UNIT_DRAINED (R90). -/
  | unitDrained (dt : Nat) (sub : Nat)
  /-- COMMISSION (R94). -/
  | commission (dt : Nat) (rq : Req)
  /-- QUARANTINE_ENTER (R94). -/
  | quarantineEnter (dt : Nat) (rq : Req)
  /-- QUARANTINE_LEAVE (R516). -/
  | quarantineLeave (dt : Nat) (rq : Req)
  /-- DECOMMISSION (R94). -/
  | decommission (dt : Nat) (rq : Req) (serial : List Byte)
  /-- MODULE_INSERT (R35). -/
  | moduleInsert (dt : Nat)
  /-- MODULE_REMOVE (R35). -/
  | moduleRemove (dt : Nat)
  /-- TRANSCEIVER_INSERT (R39). -/
  | transceiverInsert (dt : Nat) (cage : Nat)
  /-- CAGE_POWER_ON (R39). -/
  | cagePowerOn (dt : Nat) (cage : Nat)
  /-- TRANSCEIVER_REMOVE (R39). -/
  | transceiverRemove (dt : Nat) (cage : Nat)
  /-- CAGE_OVERCURRENT (R38). -/
  | cageOvercurrent (dt : Nat) (cage : Nat)
  /-- CAGE_RESTORE (R38). -/
  | cageRestore (dt : Nat) (rq : Req) (cage : Nat)
  /-- SFP_ID_READ (R169). -/
  | sfpIdRead (dt : Nat) (cage : Nat) (id : SfpId)
  /-- SFP_DDM_POLL (R169). -/
  | sfpDdmPoll (dt : Nat) (cage : Nat) (ddm : SfpDdm)
  /-- LAMP_TEST (R44). -/
  | lampTest (dt : Nat) (rq : Req)
  /-- LAMP_TEST_END (R44). -/
  | lampTestEnd (dt : Nat)
  /-- PF_ASSERT (R46). -/
  | pfAssert (dt : Nat) (overV : Bool)
  /-- PF_CLEAR (R47). -/
  | pfClear (dt : Nat)
  /-- RIDE_THROUGH_EXPIRY (R48). -/
  | rideThroughExpiry (dt : Nat)
  /-- VIN_LOSS_CHARGING (R49). -/
  | vinLossCharging (dt : Nat)
  /-- TEMP_WARNING (R69). -/
  | tempWarning (dt : Nat) (die : Nat) (milliC : Int)
  /-- TEMP_FATAL (R69). -/
  | tempFatal (dt : Nat) (die : Nat) (milliC : Int)
  /-- PPS_IN_EDGE (R58). -/
  | ppsInEdge (dt : Nat) (held : Nat)
  /-- IRIG_FRAME (R231). -/
  | irigFrame (dt : Nat) (held : Nat) (f : IrigFrame)
  /-- PPS_ABSENT (R230). -/
  | ppsAbsent (dt : Nat)
  /-- PPS_OUT_RISE (R233). -/
  | ppsOutRise (dt : Nat)
  /-- PPS_OUT_FALL (R233). -/
  | ppsOutFall (dt : Nat)
  /-- TAMPER_SAMPLE (R68). -/
  | tamperSample (dt : Nat) (enclOpen loopOpen : Bool)
  /-- TAMPER_SENSOR_EVENT (R511). -/
  | tamperSensorEvent (dt : Nat) (source : Nat)
  /-- SERVICE_WINDOW (R512). -/
  | serviceWindow (dt : Nat) (rq : Req) (secs : Nat)
  /-- SERVICE_WINDOW_EXPIRY (R512). -/
  | serviceWindowExpiry (dt : Nat)
  /-- DTLS_CLIENT_HELLO (R136). -/
  | dtlsClientHello (dt : Nat) (port : Nat) (h : ClientHello)
  /-- JALYN_DATAGRAM (R137). -/
  | jalynDatagram (dt : Nat) (sess : Nat) (size : Nat) (version : Nat) (seq : Nat) (ackValid : Bool) (ackNo : Nat)
  /-- HELLO (R148). -/
  | hello (dt : Nat) (assoc : Nat) (h : HelloReq)
  /-- READ (R142). -/
  | readMsg (dt : Nat) (rq : Req) (staged : Bool) (addrs : List Addr)
  /-- WRITE (R142). -/
  | writeMsg (dt : Nat) (rq : Req) (es : List WEntry)
  /-- EXEC (R146). -/
  | execMsg (dt : Nat) (rq : Req) (e : WEntry)
  /-- TABLE_READ (R115). -/
  | tableRead (dt : Nat) (rq : Req) (addr : Addr) (first rows : Nat)
  /-- TABLE_WRITE (R144). -/
  | tableWrite (dt : Nat) (rq : Req) (addr : Addr) (first : Nat) (rows : List (List Byte))
  /-- BULK (R145). -/
  | bulk (dt : Nat) (rq : Req) (addr : Addr) (isWrite : Bool) (offset count : Nat) (data : List Byte)
  /-- SUBSCRIBE (R155). -/
  | subscribe (dt : Nat) (rq : Req) (addr : Addr) (mode minInterval period deadband : Nat)
  /-- ACK (R151). -/
  | ack (dt : Nat) (sess ackNo : Nat)
  /-- JALYN_ACK_DUE (R151). -/
  | jalynAckDue (dt : Nat) (sess : Nat)
  /-- JALYN_RETRANSMIT (R152). -/
  | jalynRetransmit (dt : Nat) (sess seq : Nat)
  /-- SESSION_IDLE_NOTICE (R158). -/
  | sessionIdleNotice (dt : Nat) (sess : Nat)
  /-- SESSION_IDLE_EXPIRY (R154). -/
  | sessionIdleExpiry (dt : Nat) (sess : Nat)
  /-- SESSION_CLOSE (R158). -/
  | sessionClose (dt : Nat) (rq : Req) (n : Nat)
  /-- NOTIFY_PERIODIC (R155). -/
  | notifyPeriodic (dt : Nat) (sess subId : Nat)
  /-- NOTIFY_MIN_INTERVAL_END (R156). -/
  | notifyMinIntervalEnd (dt : Nat) (sess subId : Nat)
  /-- EXEC_DONE (R146). -/
  | execDone (dt : Nat) (sess reqId : Nat)
  /-- NOTIFY_LOST (R159). -/
  | notifyLost (dt : Nat) (sess : Nat)
  /-- RELAY_DATAGRAM (R138). -/
  | relayDatagram (dt : Nat) (fromPartner : Bool) (bytes : List Byte)
  /-- GATEWAY_REPLY (R163): the reply as the partition posts it, where its channel holds none yet. -/
  | gatewayReply (dt : Nat) (p code len : Nat) (words : List (BitVec 32))
  /-- GATEWAY_TIMEOUT (R163). -/
  | gatewayTimeout (dt : Nat) (p : Nat)
  /-- STAGE_COMMIT (R126). -/
  | stageCommit (dt : Nat) (rq : Req)
  /-- STAGE_APPLY (R126). -/
  | stageApply (dt : Nat)
  /-- STAGE_DISCARD (R128). -/
  | stageDiscard (dt : Nat) (rq : Req)
  /-- BUNDLE_APPLY (R495). -/
  | bundleApply (dt : Nat) (rq : Req)
  /-- PATH_RESET (R30). -/
  | pathReset (dt : Nat) (rq : Req)
  /-- LINK_DOWN (R173). -/
  | linkDown (dt : Nat) (port : Nat)
  /-- LINK_UP (R173). -/
  | linkUp (dt : Nat) (port speed partner : Nat)
  /-- TX_DISABLE_HOLD_END (R173). -/
  | txDisableHoldEnd (dt : Nat) (port : Nat)
  /-- PORT_ADMIN_WRITE (R173). -/
  | portAdminWrite (dt : Nat) (rq : Req) (port : Nat) (on : Bool)
  /-- PORT_MODE_WRITE (R166). -/
  | portModeWrite (dt : Nat) (rq : Req) (port mode : Nat)
  /-- RX_FRAME (R176). -/
  | rxFrame (dt : Nat) (port : Nat) (f : Frame)
  /-- PAUSE_END (R199). -/
  | pauseEnd (dt : Nat) (port : Nat)
  /-- PAUSE_CEILING_REACHED (R199). -/
  | pauseCeilingReached (dt : Nat) (port : Nat)
  /-- PAUSE_LOCKOUT_END (R199). -/
  | pauseLockoutEnd (dt : Nat) (port : Nat)
  /-- NODE_AGE_OUT (R182). -/
  | nodeAgeOut (dt : Nat) (group mac : Nat)
  /-- SUPERVISION_TX (R181). -/
  | supervisionTx (dt : Nat) (group : Nat)
  /-- TX_FRAME_DONE (R194). -/
  | txFrameDone (dt : Nat) (port : Nat)
  /-- PORT_COUNTERS_RESET (R30). -/
  | portCountersReset (dt : Nat) (rq : Req) (port : Nat)
  /-- GROUP_COUNTERS_RESET (R30). -/
  | groupCountersReset (dt : Nat) (rq : Req) (group : Nat)
  /-- SERVO_FREQ_WRITE (R202). -/
  | servoFreqWrite (dt : Nat) (incr : Nat)
  /-- SLEW_COMPLETE (R203). -/
  | slewComplete (dt : Nat)
  /-- SECOND_ROLLOVER (R201). -/
  | secondRollover (dt : Nat)
  /-- SYNC_RECEIPT_TIMEOUT (R208). -/
  | syncReceiptTimeout (dt : Nat)
  /-- HOLDOVER_LIMIT_EXPIRY (R211). -/
  | holdoverLimitExpiry (dt : Nat)
  /-- ANNOUNCE_RECEIPT_TIMEOUT (R217). -/
  | announceReceiptTimeout (dt : Nat) (port : Nat) (also : List Nat)
  /-- PTP_SYNC_TX (R214). -/
  | ptpSyncTx (dt : Nat) (port : Nat)
  /-- PTP_ANNOUNCE_TX (R215). -/
  | ptpAnnounceTx (dt : Nat) (port : Nat)
  /-- PDELAY_REQ_TX (R216). -/
  | pdelayReqTx (dt : Nat) (port : Nat)
  /-- PTP_FAULTY_RETRY (R216). -/
  | ptpFaultyRetry (dt : Nat) (port : Nat)
  /-- TIME_SET (R213). -/
  | timeSet (dt : Nat) (rq : Req) (t : Int)
  /-- TIME_ADJUST (R213). -/
  | timeAdjust (dt : Nat) (rq : Req) (delta : Int)
  /-- STEP_CONFIRM (R485). -/
  | stepConfirm (dt : Nat) (rq : Req) (maxOffset : Int)
  /-- PTP_PROFILE_WRITE (R214). -/
  | ptpProfileWrite (dt : Nat) (rq : Req) (profile : Nat)
  /-- LEAP_SECOND (R222). -/
  | leapSecond (dt : Nat)
  /-- TIME_COUNTERS_RESET (R30). -/
  | timeCountersReset (dt : Nat) (rq : Req)
  /-- LAUNCH_TIME_REACHED (R225). -/
  | launchTimeReached (dt : Nat) (port : Nat)
  /-- LAUNCH_LATE (R226). -/
  | launchLate (dt : Nat) (port : Nat)
  /-- LEARNED_RATE_UPDATE (R245). -/
  | learnedRateUpdate (dt : Nat) (entry : Nat)
  /-- ROW_CLOSE (R252). -/
  | rowClose (dt : Nat)
  /-- ROW_RELEASE (R256). -/
  | rowRelease (dt : Nat)
  /-- STREAM_COUNTERS_RESET (R30). -/
  | streamCountersReset (dt : Nat) (rq : Req) (entry : Nat)
  /-- SV_PORT_COUNTERS_RESET (R30). -/
  | svPortCountersReset (dt : Nat) (rq : Req)
  /-- PLAN_COUNTERS_RESET (R30). -/
  | planCountersReset (dt : Nat) (rq : Req)
  /-- CONDITIONING_COMPLETE (R280). -/
  | conditioningComplete (dt : Nat)
  /-- BANK_SEAL (R281). -/
  | bankSeal (dt : Nat) (rq : Req) (bank : Nat)
  /-- PROFILE_SWAP (R282). -/
  | profileSwap (dt : Nat) (rq : Req) (profile row mode xfade : Nat)
  /-- PROFILE_DISARM (R285). -/
  | profileDisarm (dt : Nat) (rq : Req) (profile : Nat)
  /-- FILTER_KAT (R294). -/
  | filterKat (dt : Nat) (array : Nat) (idle pass : Bool)
  /-- COND_COUNTERS_RESET (R30). -/
  | condCountersReset (dt : Nat) (rq : Req)
  /-- GOOSE_REQUEST (R301). -/
  | gooseRequest (dt : Nat) (ring : Nat)
  /-- GOOSE_RETRANSMIT (R304). -/
  | gooseRetransmit (dt : Nat) (block : Nat)
  /-- GOOSE_TAL_EXPIRY (R312). -/
  | gooseTalExpiry (dt : Nat) (entry : Nat)
  /-- LATCH_LISTEN_END (R310). -/
  | latchListenEnd (dt : Nat) (latch : Nat)
  /-- GO_COUNTERS_RESET (R30). -/
  | goCountersReset (dt : Nat) (rq : Req)
  /-- OS_COUNTERS_RESET (R30). -/
  | osCountersReset (dt : Nat) (rq : Req)
  /-- GSUB_COUNTERS_RESET (R30). -/
  | gsubCountersReset (dt : Nat) (rq : Req)
  /-- PART_START (R323). -/
  | partStart (dt : Nat) (rq : Req) (p : Nat)
  /-- PART_STOP (R341). -/
  | partStop (dt : Nat) (rq : Req) (p : Nat)
  /-- PART_RESET (R336). -/
  | partReset (dt : Nat) (rq : Req) (p : Nat)
  /-- PART_FAULT (R333). -/
  | partFault (dt : Nat) (p cause core detail : Nat)
  /-- PW_ABORT_WRITE (R333). -/
  | pwAbortWrite (dt : Nat) (p core : Nat) (w : Word)
  /-- FENCE_COMPLETE (R336). -/
  | fenceComplete (dt : Nat) (p : Nat)
  /-- FENCE_TIMEOUT (R339). -/
  | fenceTimeout (dt : Nat) (p : Nat)
  /-- PARTITION_DRAINED (R341). -/
  | partitionDrained (dt : Nat) (p : Nat)
  /-- DISABLE_TIMEOUT_EXPIRY (R342). -/
  | disableTimeoutExpiry (dt : Nat) (d : Drain)
  /-- RESTART_DELAY_EXPIRY (R335). -/
  | restartDelayExpiry (dt : Nat) (p : Nat)
  /-- PART_IMAGE_APPLY (R490). -/
  | partImageApply (dt : Nat) (rq : Req) (p : Nat)
  /-- PARTITION_ZEROED (R329). -/
  | partitionZeroed (dt : Nat) (p : Nat)
  /-- MIG_PREPARE (R343). -/
  | migPrepare (dt : Nat) (rq : Req) (p : Nat)
  /-- MIG_START (R344). -/
  | migStart (dt : Nat) (rq : Req) (p path peer dest : Nat) (force : Bool)
  /-- MIG_ROUND_END (R346). -/
  | migRoundEnd (dt : Nat) (p round : Nat) (marked : List Nat)
  /-- MIG_RESTORE_COMPLETE (R351). -/
  | migRestoreComplete (dt : Nat) (p : Nat)
  /-- MIG_ABORT (R354). -/
  | migAbort (dt : Nat) (rq : Req) (p : Nat)
  /-- MIG_PATH_FAIL (R354). -/
  | migPathFail (dt : Nat) (p : Nat)
  /-- TT_SUBMIT (R358). -/
  | ttSubmit (dt : Nat) (p core : Nat)
  /-- SUBMIT_RING_ENTRY (R359). -/
  | submitRingEntry (dt : Nat) (ring : Nat)
  /-- TRIGGER_PENDING_RELEASE (R360). -/
  | triggerPendingRelease (dt : Nat) (ring : Nat)
  /-- TT_DISPATCH (R363). -/
  | ttDispatch (dt : Nat)
  /-- TT_DONE (R356). -/
  | ttDone (dt : Nat) (core : Nat) (result : Word) (outputs : List (List Nat))
  /-- TT_COMMIT (R370). -/
  | ttCommit (dt : Nat) (core : Nat) (w : Word) (mem : MemAt)
  /-- COMMIT_SLOT_FREE (R371). -/
  | commitSlotFree (dt : Nat) (ring : Nat)
  /-- TT_CANCEL (R366). -/
  | ttCancel (dt : Nat) (p core : Nat) (tag : Word)
  /-- TT_FLOW_OPEN (R367). -/
  | ttFlowOpen (dt : Nat) (p core : Nat) (w : Word)
  /-- TT_FLOW_CLOSE (R367). -/
  | ttFlowClose (dt : Nat) (p core : Nat) (w : Word)
  /-- TT_RESULT_READ (R359). -/
  | ttResultRead (dt : Nat) (core : Nat)
  /-- BUDGET_STOP (R357). -/
  | budgetStop (dt : Nat) (core : Nat)
  /-- RING_PROD_WRITE (R376). -/
  | ringProdWrite (dt : Nat) (p ring : Nat) (value : Word) (entries : List Entry)
  /-- RING_CONS_WRITE (R376). -/
  | ringConsWrite (dt : Nat) (p ring : Nat) (value : Word)
  /-- DMA_ENTRY (R383). -/
  | dmaEntry (dt : Nat) (ring : Nat)
  /-- DMA_COMPLETE (R384). -/
  | dmaComplete (dt : Nat) (dmaId : Nat)
  /-- DMA_ENGINE_FAULT (R385). -/
  | dmaEngineFault (dt : Nat) (engine : Nat)
  /-- TT_COUNTERS_RESET (R30). -/
  | ttCountersReset (dt : Nat) (rq : Req)
  /-- SNAPSHOT_LO_READ (R129). -/
  | snapshotLoRead (dt : Nat) (p core offset : Nat)
  /-- CF_MISSED_READ (R292). -/
  | cfMissedRead (dt : Nat) (p core : Nat)
  /-- PF_DENIED_READ (R491). -/
  | pfDeniedRead (dt : Nat) (p core : Nat)
  /-- LG_OVERRUN_READ (R406). -/
  | lgOverrunRead (dt : Nat) (p core slot : Nat)
  /-- REGISTER_WRITE (R331). -/
  | registerWrite (dt : Nat) (space : RegSpace) (p core offset : Nat) (w : Word)
  /-- PH_POST (R393). -/
  | phPost (dt : Nat) (ep core : Nat) (w : Word)
  /-- PH_STAGE_HEADER (R393). -/
  | phStageHeader (dt : Nat) (ep core : Nat) (w : Word)
  /-- PH_TAKE (R394). -/
  | phTake (dt : Nat) (ep core : Nat) (w : Word)
  /-- PH_BELL_RING (R402). -/
  | phBellRing (dt : Nat) (ep core : Nat) (w : Word)
  /-- PH_ACK_TIMEOUT (R400). -/
  | phAckTimeout (dt : Nat) (chan : Nat)
  /-- PH_COUNTERS_RESET (R30). -/
  | phCountersReset (dt : Nat) (rq : Req)
  /-- CYCLE_BOUNDARY (R406). -/
  | cycleBoundary (dt : Nat) (task : Nat)
  /-- LOGIC_SHADOW_COPY_DONE (R421). -/
  | logicShadowCopyDone (dt : Nat) (p : Nat)
  /-- ONLINE_WRITE (R424). -/
  | onlineWrite (dt : Nat) (rq : Req) (p task offset size value : Nat)
  /-- LOGIC_RESTART (R422). -/
  | logicRestart (dt : Nat) (rq : Req) (p mode : Nat) (clear : Bool)
  /-- FORCE_TABLE_WRITE (R420). -/
  | forceTableWrite (dt : Nat) (rq : Req) (row : Nat) (bytes : List Byte)
  /-- FORCE_CLEAR_ALL (R420). -/
  | forceClearAll (dt : Nat) (rq : Req)
  /-- FORCE_NOTIFY_PERIODIC (R419). -/
  | forceNotifyPeriodic (dt : Nat)
  /-- FORCE_NOTICE_MISSED (R488). -/
  | forceNoticeMissed (dt : Nat)
  /-- LOGIC_UNIT_FAULT (R426). -/
  | logicUnitFault (dt : Nat)
  /-- LOGIC_COUNTERS_RESET (R30). -/
  | logicCountersReset (dt : Nat) (rq : Req)
  /-- LANE_TRAIN_SWITCH (R429). -/
  | laneTrainSwitch (dt : Nat) (lane : Nat)
  /-- LANE_UP (R429). -/
  | laneUp (dt : Nat) (lane : Nat)
  /-- PAIR_HELLO_TX (R431). -/
  | pairHelloTx (dt : Nat)
  /-- PAIR_HELLO (R431). -/
  | pairHello (dt : Nat) (h : PairHello)
  /-- PAIR_ENABLE_WRITE (R434). -/
  | pairEnableWrite (dt : Nat) (rq : Req) (on : Bool)
  /-- MIRROR (R433). -/
  | mirror (dt : Nat) (op : MirrorOp) (mid : Nat)
  /-- MIRROR_ACK (R433): the partner's status and the TAI at which it judged the operation. -/
  | mirrorAck (dt : Nat) (mid status : Nat) (at_ : Int)
  /-- PRESENCE (R438). -/
  | presence (dt : Nat) (row : Nat) (present : List Nat) (digest : List Byte)
  /-- SEATS (R438). -/
  | seats (dt : Nat) (row : Nat) (seats : List SeatCopy)
  /-- TAGS (R439). -/
  | tags (dt : Nat) (row : Nat) (tags : List TagRec)
  /-- AGREE (R438). -/
  | agree (dt : Nat) (row : Nat) (final : List Byte)
  /-- EQ_LOST (R443). -/
  | eqLost (dt : Nat) (row : Nat)
  /-- EQ_DEADLINE_EXPIRY (R440). -/
  | eqDeadlineExpiry (dt : Nat)
  /-- DIGEST (R446). -/
  | digest (dt : Nat) (p row digest : Nat)
  /-- DIGEST_WAIT_EXPIRY (R446). -/
  | digestWaitExpiry (dt : Nat) (p row : Nat)
  /-- ALIGN (R450). -/
  | align (dt : Nat) (row : Nat) (recs : List AlignRec)
  /-- IMPORT_CHECKPOINT (R451). -/
  | importCheckpoint (dt : Nat) (p : Nat)
  /-- BEACON_TX (R455). -/
  | beaconTx (dt : Nat)
  /-- TAKEOVER_EVAL (R457). -/
  | takeoverEval (dt : Nat)
  /-- ISOLATION_TIME_EXPIRY (R454). -/
  | isolationTimeExpiry (dt : Nat)
  /-- CLAIM_RAISE (R458). -/
  | claimRaise (dt : Nat) (d : Nat)
  /-- HANDOVER (R460). -/
  | handover (dt : Nat) (rq : Req) (d : Nat)
  /-- HANDOVER_RX (R460). -/
  | handoverRx (dt : Nat) (d claim row : Nat) (tagOk : Bool)
  /-- HANDOVER_ACK (R460). -/
  | handoverAck (dt : Nat) (d : Nat) (accepted : Bool)
  /-- HANDOVER_ACK_TIMEOUT (R460). -/
  | handoverAckTimeout (dt : Nat) (d : Nat)
  /-- BOLPEL_CYCLE (R466). -/
  | bolpelCycle (dt : Nat)
  /-- BOLPEL_REQUEST (R467). -/
  | bolpelRequest (dt : Nat) (ring : Nat)
  /-- BOLPEL_FRAME_END (R465). -/
  | bolpelFrameEnd (dt : Nat)
  /-- BOLPEL_ECHO (R470). -/
  | bolpelEcho (dt : Nat) (e : Echo)
  /-- BOLPEL_ECHO_TIMEOUT (R467). -/
  | bolpelEchoTimeout (dt : Nat)
  /-- REPORT_TX (R471). -/
  | reportTx (dt : Nat)
  /-- REPORT (R471). -/
  | report (dt : Nat) (card : List Byte)
  /-- IUL_DOWN (R473). -/
  | iulDown (dt : Nat)
  /-- TIME_XCHECK (R474). -/
  | timeXcheck (dt : Nat) (offset : Int)
  /-- SELFTEST_CHECK (R472). -/
  | selftestCheck (dt : Nat) (bit : Nat) (pass : Bool)
  /-- PAIR_COUNTERS_RESET (R30). -/
  | pairCountersReset (dt : Nat) (rq : Req)
  /-- PF_TOKEN_REFILL (R481). -/
  | pfTokenRefill (dt : Nat) (p : Nat)
  /-- PF_COUNTERS_RESET (R30). -/
  | pfCountersReset (dt : Nat) (rq : Req)
  /-- IMAGE_LOADER_WRITE_REFUSED (R490). -/
  | imageLoaderWriteRefused (dt : Nat) (region : Nat)
  /-- KEY_WRITE (R500). -/
  | keyWrite (dt : Nat) (rq : Req) (slot kind use world masters life wrapSlot kcv : Nat) (key : List Byte)
  /-- KEY_COMMIT (R500). -/
  | keyCommit (dt : Nat) (rq : Req) (slot : Nat)
  /-- KEY_DISCARD (R500). -/
  | keyDiscard (dt : Nat) (rq : Req)
  /-- KEY_INVALIDATE (R501). -/
  | keyInvalidate (dt : Nat) (rq : Req) (slot : Nat)
  /-- KEY_ERASE (R501). -/
  | keyErase (dt : Nat) (rq : Req) (slot : Nat)
  /-- KEY_SLOT_INTEGRITY_CHECK (R499). -/
  | keySlotIntegrityCheck (dt : Nat) (bad : List Nat)
  /-- VAULT_OP_COMPLETE (R502). -/
  | vaultOpComplete (dt : Nat) (facts : VaultFacts)
  /-- VAULT_SEGMENT_END (R502). -/
  | vaultSegmentEnd (dt : Nat)
  /-- TRAFFIC_KEY_DERIVED (R505). -/
  | trafficKeyDerived (dt : Nat) (idx : Nat)
  /-- VAULT_MAC_REQUEST (R498). -/
  | vaultMacRequest (dt : Nat) (chan : Nat)
  /-- ATTEST (R509). -/
  | attest (dt : Nat) (rq : Req) (nonce : List Byte)
  /-- FW_SVN_CONFIRM (R496). -/
  | fwSvnConfirm (dt : Nat) (rq : Req)
  /-- IMAGE_SVN_CONFIRM (R496). -/
  | imageSvnConfirm (dt : Nat) (rq : Req) (p : Nat)
  /-- CLAIM_REARM (R517). -/
  | claimRearm (dt : Nat) (rq : Req) (d : Nat)
  /-- RTC_SECOND_BOUNDARY (R522). -/
  | rtcSecondBoundary (dt : Nat)
  /-- RTC_COMMIT (R522). -/
  | rtcCommit (dt : Nat)
  /-- RTC_COMMIT_IMMEDIATE (R522). -/
  | rtcCommitImmediate (dt : Nat)
  /-- ALARM_ARM (R524). -/
  | alarmArm (dt : Nat)
  /-- RTC_SET (R532). -/
  | rtcSet (dt : Nat) (rq : Req) (year month day hour min sec wday : Nat) (immediate : Bool)
  /-- RTC_OSF_CLEAR (R527). -/
  | rtcOsfClear (dt : Nat) (rq : Req)
  /-- RTC_ALARM_ACK (R524). -/
  | rtcAlarmAck (dt : Nat) (rq : Req)
  /-- RTC_LATCH_READ (R521). -/
  | rtcLatchRead (dt : Nat) (offset : Nat)
  /-- RTC_LATCH_EXPIRY (R521). -/
  | rtcLatchExpiry (dt : Nat)
  /-- RTC_TRIM_WINDOW (R523). -/
  | rtcTrimWindow (dt : Nat)
  /-- RTC_OSC_STOP (R526). -/
  | rtcOscStop (dt : Nat)
  /-- RTC_DISCIPLINE (R531). -/
  | rtcDiscipline (dt : Nat) (off : Int)
  /-- VAULT_LOCKOUT (R528). -/
  | vaultLockout (dt : Nat)
  /-- VBAK_SWITCH (R529). -/
  | vbakSwitch (dt : Nat) (toBackup : Bool)
  /-- LOG_RECORD_INTAKE (R536). -/
  | logRecordIntake (dt : Nat)
  /-- LOG_MIRROR_WRITE (R537). -/
  | logMirrorWrite (dt : Nat)
  /-- LOG_TOKEN_RETURN (R544). -/
  | logTokenReturn (dt : Nat) (code : Nat)
  /-- LOG_CLEAR (R542). -/
  | logClear (dt : Nat) (rq : Req)
  /-- LOG_WRITE_MSG (R541). -/
  | logWriteMsg (dt : Nat) (chan : Nat)
  /-- LOG_READ_MSG (R541). -/
  | logReadMsg (dt : Nat) (chan : Nat)
  /-- LOG_CLEAR_MSG (R542). -/
  | logClearMsg (dt : Nat) (chan : Nat)
  /-- LOG_COUNTERS_RESET (R30). -/
  | logCountersReset (dt : Nat) (rq : Req)
  /-- PICKUP_ENTRY (R548). -/
  | pickupEntry (dt : Nat) (ring : Nat)
  /-- CAPTURE_TRIGGER (R552). -/
  | captureTrigger (dt : Nat) (rq : Req) (k : Nat)
  /-- CAPTURE_REARM (R555). -/
  | captureRearm (dt : Nat) (k : Nat)
  /-- TREND_RATE_RESTORE (R558). -/
  | trendRateRestore (dt : Nat)
  /-- RECORD_PROTECT (R556). -/
  | recordProtect (dt : Nat) (rq : Req) (k number : Nat)
  /-- RECORD_RELEASE (R556). -/
  | recordRelease (dt : Nat) (rq : Req) (k number : Nat)
  /-- CAPTURE_EXPORT (R559). -/
  | captureExport (dt : Nat) (rq : Req) (k number : Nat) (t0 t1 : Int)
  /-- CAPTURE_EXPORT_DONE (R561). -/
  | captureExportDone (dt : Nat)
  /-- CAPTURE_COUNTERS_RESET (R30). -/
  | captureCountersReset (dt : Nat) (rq : Req)
  /-- INTERNAL_CHECK_FAIL (R88). -/
  | internalCheckFail (dt : Nat) (sub : Nat)
  /-- VAULT_SUPPLY_LOW (R51). -/
  | vaultSupplyLow (dt : Nat) (below12 : Bool)
  /-- CRYSTAL_RESTART (R527). -/
  | crystalRestart (dt : Nat)
  /-- SESSION_CLOSE_NOTICE_EXPIRY (R158). -/
  | sessionCloseNoticeExpiry (dt : Nat) (n : Nat)
  deriving DecidableEq, Repr

end Sys2Proof
end

