-- ==== Sys2Proof/Config.lean ====
section
/-! DEFINITION. What the manual leaves open: free values (DESIGN CHOICE, safe: log entries 8, 12, 13 and those that name them). -/

namespace Sys2Proof

/-- A value the manual leaves open (a sensor reading no event reports, a signature's octets): nothing is known of it. -/
opaque Config.freeValue : Nat → BitVec 64

/-- The retention layout digest of a partition image of this content digest (R422): the image's format is not in the manual. -/
opaque Config.layoutDigest : List Byte → BitVec 64

/-- The SHA-384 hashes of the two firmware-signing keys in the boot ROM (chapter 16): 0 RSA-3072, 1 SLH-DSA; the manual names no value. -/
opaque Config.romKey : Nat → List Byte

/-- The DATA octets of a logbook record whose chapter gives its content but no layout. -/
opaque Config.logData : Nat → List Int → List Byte

/-- What an export holds, by the table of R559. -/
structure Comtrade where
  station : List Byte                     -- station_name
  device : List Byte                      -- rec_dev_id
  analogs : List (Val × Nat × Nat)        -- CAPTURE_ANALOG of each channel (a = MULT / 2^F), F, and 0 the value or MEAN, 1 MIN, 2 MAX
  digitals : List (List Byte × Nat)       -- name, y
  rates : List (Nat × Nat × Nat)          -- BASE_RATE, its divisor, the first sample it holds for
  start : Int                             -- UTC of the first sample, in microseconds
  trigger : Int                           -- UTC of the TRIGGER sample, in microseconds
  tmq : Nat                               -- tmq_code
  leapsec : Nat
  dat : List (Nat × List Int × List Bool) -- of each sample: microseconds from the first, values, digitals
  config : Val                            -- HDR: RECORDER
  flags : Nat                             -- HDR: the record's flags
  sflags : List (Nat × Nat)               -- HDR: SFLAGS of the samples in which they differ from zero
  deriving DecidableEq, Repr

/-- The octets of an export file (0 CFG, 1 DAT, 2 HDR) of what it holds: IEEE C37.111-2013 gives the format, not the manual. -/
opaque Config.exportFile : Nat → Comtrade → List Byte

/-- The octets of an identity certificate (48.0031), written at provisioning. -/
opaque Config.identityCert : Nat → List Byte

/-- Does an identity certificate parse (R518): its octets are not in the manual. -/
opaque Config.certOk : List Byte → Bool

/-- Does a key slot's integrity tag fail as the slot is loaded into the working key register at a local time (R499). -/
opaque Config.keyTagBad : Nat → Nat → Bool

/-- The hash of the client certificate authority that provisioning wrote into anchor row 0 (R492). -/
opaque Config.ownerCa : List Byte

/-- The nonce and the ephemeral P-384 public key an end draws at random for a migration (R508), by the draw. -/
opaque Config.migEph : Nat → MigEph

/-- The P-384 ECDH secret of an end's draw with the other end's public key (R508), which the model does not compute. -/
opaque Config.ecdh : Nat → List Byte → List Byte

/-- The two signatures that end attestation evidence (R509), of identity slots 0 and 1. -/
opaque Config.attestSigs : List Byte → List Byte

/-- The octets of a dump after its header's fields, by the BOOT_COUNT it was taken under: the sections' sizes and order are not in the manual. -/
opaque Config.dumpByte : Nat → Nat → Byte

/-- Is a platform firmware image, by its content digest, one of Carbuoc's factory images (R93); the manual names no mark of them. -/
opaque Config.factoryImage : List Byte → Bool

/-- Does the integrity check of a kept value (by its key) fail as the platform firmware starts under this BOOT_COUNT (R123). -/
opaque Config.keptBad : Nat → Nat → Bool

/-- Does the history of a kind (0 input, 1 stage 2) and key show an uncorrectable ECC error as a row is conditioned at an instant (R278). -/
opaque Config.histEcc : Nat → Nat → Nat → Bool

/-- The initial value of the octet at an offset of an image's logic data area, by the image's digest: the manual gives no image format. -/
opaque Config.imageByte : List Byte → Nat → Byte

/-- Is the octet at an offset of an image's logic data area a retained variable's (R422, TZM-8). -/
opaque Config.imageKeeps : List Byte → Nat → Bool

/-- The partner's inter-unit address, by the serial number it settled with: the manual does not say how a unit learns it. -/
opaque Config.iulPeer : List Byte → BitVec 48

/-- FLAGS of the inter-unit frame of a SEQ (R430), whose bits the manual does not name. -/
opaque Config.iulFlags : Nat → BitVec 8

/-- ROW of the inter-unit frame of a SEQ whose message has no row (R430, R436). -/
opaque Config.iulRow : Nat → BitVec 64

/-- The TAG octets of a beacon sent without a usable key, which the partner judges invalid (R455, R506). -/
opaque Config.beaconTag : List Byte → BitVec 128

/-- How many of a trim's corrections have fallen, by the second of the window and the pulses of that second that have passed (R523). -/
opaque Config.trimSpread : Nat → Nat → Nat

/-- What a sensor reads at a local time (60.0100 to 60.0105), which no row reports: the object, its sub and the time. -/
opaque Config.sensor : Nat → Nat → Nat → Int

/-- Does the check of a partition's saved data fail as they are restored (R422), by the local time and the partition. -/
opaque Config.retainBad : Nat → Nat → Bool

/-- The value that a channel of a seat decided invalid takes at both units (R439 rule 4, which states none): by row, entry and channel. -/
opaque Config.disputeValue : Nat → Nat → Nat → BitVec 32

end Sys2Proof
end

