-- ==== Sys2Proof/Machine/Arith.lean ====
section
/-! DEFINITION. Arithmetic shared by the units: sparse tables, octet and bit fields, the cyclic redundancy checks, SHA-256, the integer
rules of R263 to R266 and the calendar of R519. -/

namespace Sys2Proof.Machine

/-! ## Sparse tables, kept with rising keys -/

/-- The entry of a key. -/
def tabGet {α : Type} (t : Tab α) (k : Nat) : Option α :=
  match t with
  | [] => none
  | (j, a) :: r => if j == k then some a else tabGet r k

/-- The entry of a key, or a default. -/
def tabGetD {α : Type} (t : Tab α) (k : Nat) (d : α) : α := (tabGet t k).getD d

/-- The table with a key removed. -/
def tabDel {α : Type} (t : Tab α) (k : Nat) : Tab α :=
  match t with
  | [] => []
  | (j, a) :: r => if j == k then tabDel r k else (j, a) :: tabDel r k

/-- The table with a key inserted before the first larger one. -/
def tabIns {α : Type} (t : Tab α) (k : Nat) (a : α) : Tab α :=
  match t with
  | [] => [(k, a)]
  | (j, b) :: r => if k < j then (k, a) :: (j, b) :: r else (j, b) :: tabIns r k a

/-- The table with a key set. -/
def tabPut {α : Type} (t : Tab α) (k : Nat) (a : α) : Tab α := tabIns (tabDel t k) k a

/-- The keys of a table. -/
def tabKeys {α : Type} (t : Tab α) : List Nat := t.map Prod.fst

/-- A table with every entry changed. -/
def tabMap {α β : Type} (f : Nat → α → β) (t : Tab α) : Tab β := t.map fun (k, a) => (k, f k a)

/-- Sets a key, leaving out an entry equal to the default. -/
def tabSet {α : Type} [BEq α] (t : Tab α) (k : Nat) (a d : α) : Tab α :=
  if a == d then tabDel t k else tabPut t k a

/-! ## Lists -/

/-- Element n of a list, or a default. -/
def nth {α : Type} (l : List α) (n : Nat) (d : α) : α := (l[n]?).getD d

/-- A list with element n replaced. -/
def setNth {α : Type} (l : List α) (n : Nat) (a : α) : List α := l.set n a

/-- The first n naturals. -/
def upto (n : Nat) : List Nat := List.range n

/-- Sum of a list. -/
def sumN (l : List Nat) : Nat := l.foldl (· + ·) 0

/-- The largest of a list, 0 for none. -/
def maxN (l : List Nat) : Nat := l.foldl max 0

/-- A list without an element. -/
def without (l : List Nat) (n : Nat) : List Nat := l.filter (· != n)

/-- A list with an element once. -/
def adjoin (l : List Nat) (n : Nat) : List Nat := if l.contains n then l else l ++ [n]

/-- A rising list with a number put in its place. -/
def insN (n : Nat) : List Nat → List Nat
  | [] => [n]
  | m :: r => if n ≤ m then n :: m :: r else m :: insN n r

/-- A list in ascending order. -/
def sortN (l : List Nat) : List Nat := l.foldr insN []

/-- The last n elements. -/
def lastN {α : Type} (l : List α) (n : Nat) : List α := l.drop (l.length - n)

/-! ## Bits and octets -/

/-- Bits lo to lo + n - 1 of a number. -/
def bits (v lo n : Nat) : Nat := (v / 2 ^ lo) % 2 ^ n

/-- Bit i of a number. -/
def bit (v i : Nat) : Bool := (v / 2 ^ i) % 2 == 1

/-- 1 for true. -/
def b2n (b : Bool) : Nat := if b then 1 else 0

/-- A number with bit i set. -/
def setBit (v i : Nat) : Nat := v ||| 2 ^ i

/-- A number with bit i clear. -/
def clrBit (v i : Nat) : Nat := if bit v i then v - 2 ^ i else v

/-- The number of set bits among the lowest n. -/
def popCount (v n : Nat) : Nat := (upto n).foldl (fun a i => a + b2n (bit v i)) 0

/-- Numbers of the set bits among the lowest n. -/
def setBits (v n : Nat) : List Nat := (upto n).filter (bit v ·)

/-- A bit mask of the numbers of a list. -/
def maskOf (l : List Nat) : Nat := l.foldl (fun a i => setBit a i) 0

/-- A number's two's complement in n bits. -/
def toBits (v : Int) (n : Nat) : Nat := (v % (2 ^ n : Int)).toNat

/-- The signed value of n bits. -/
def ofBits (v n : Nat) : Int := if v % 2 ^ n < 2 ^ (n - 1) then (v % 2 ^ n : Nat) else ((v % 2 ^ n : Nat) : Int) - (2 ^ n : Nat)

/-- n octets, little-endian (R112). -/
def leN (n v : Nat) : List Byte := (upto n).map fun i => BitVec.ofNat 8 (v / 2 ^ (8 * i))

/-- A signed value's n octets. -/
def leI (n : Nat) (v : Int) : List Byte := leN n (toBits v (8 * n))

/-- The number of little-endian octets. -/
def ofLe : List Byte → Nat
  | [] => 0
  | b :: r => b.toNat + 256 * ofLe r

/-- n octets, most significant first. -/
def beN (n v : Nat) : List Byte := (leN n v).reverse

/-- A list of octets cut or zero-padded to n. -/
def padTo (n : Nat) (l : List Byte) : List Byte := (l ++ List.replicate n 0).take n

/-- Exclusive or of two octet strings. -/
def xorBytes (a b : List Byte) : List Byte := List.zipWith (· ^^^ ·) a b

/-! ## Cyclic redundancy checks -/

/-- Eight reflected steps of a check of polynomial p on a register. -/
def crcSteps (p : Nat) : Nat → Nat → Nat
  | 0, c => c
  | n + 1, c => crcSteps p n (if c % 2 == 1 then (c / 2) ^^^ p else c / 2)

/-- A reflected check over octets, from a register value. -/
def crcRef (p : Nat) (c : Nat) (l : List Byte) : Nat := l.foldl (fun c b => crcSteps p 8 (c ^^^ b.toNat)) c

/-- CRC-32C (Castagnoli). -/
def crc32c (l : List Byte) : Nat := crcRef 0x82F63B78 0xFFFFFFFF l ^^^ 0xFFFFFFFF

/-- CRC-64/XZ (R445). -/
def crc64 (l : List Byte) : Nat := crcRef 0xC96C5795D7870F42 0xFFFFFFFFFFFFFFFF l ^^^ 0xFFFFFFFFFFFFFFFF

/-- Eight unreflected steps of R464's check. -/
def crcMsb : Nat → Nat → Nat
  | 0, c => c
  | n + 1, c => crcMsb n (if c / 2 ^ 31 == 1 then ((c * 2) % 2 ^ 32) ^^^ 0x04C11DB7 else c * 2)

/-- The Bolpel CRC-32 of R464, over octets sent most significant bit first. -/
def crcBolpel (l : List Byte) : Nat :=
  (l.foldl (fun c b => crcMsb 8 (c ^^^ (b.toNat * 2 ^ 24))) 0xFFFFFFFF) ^^^ 0xFFFFFFFF

/-! ## SHA-256 and SHA-384 (R435, R437, R477, R492, R498, R509), HMAC and HKDF over them -/

/-- Is a number prime. -/
def isPrime (n : Nat) : Bool := 2 ≤ n && (upto n).all fun d => d < 2 || n % d != 0

/-- The first 80 primes: the 80th is 409. -/
def primes80 : List Nat := (upto 410).filter isPrime

/-- The largest r + x, x below 2^b, whose k-th power does not pass n. -/
def rootBits (k n : Nat) : Nat → Nat → Nat
  | 0, r => r
  | b + 1, r => rootBits k n b (if (r + 2 ^ b) ^ k ≤ n then r + 2 ^ b else r)

/-- The first w bits of the fraction of a number's k-th root. -/
def rootFrac (w k p : Nat) : BitVec w := BitVec.ofNat w (rootBits k (p * 2 ^ (w * k)) (w + 6) 0)

/-- A member of the SHA-2 family at a word width: its rounds, and the rotations of its four functions (of the last two the third amount
is a shift). -/
structure Sha2 (w : Nat) where
  rounds : Nat
  up0 : Nat × Nat × Nat
  up1 : Nat × Nat × Nat
  low0 : Nat × Nat × Nat
  low1 : Nat × Nat × Nat

/-- SHA-256's words. -/
def sha32 : Sha2 32 := ⟨64, (2, 13, 22), (6, 11, 25), (7, 18, 3), (17, 19, 10)⟩

/-- SHA-384's and SHA-512's words. -/
def sha64 : Sha2 64 := ⟨80, (28, 34, 39), (14, 18, 41), (1, 8, 7), (19, 61, 6)⟩

/-- Three rotations combined. -/
def shaUp {w : Nat} (r : Nat × Nat × Nat) (x : BitVec w) : BitVec w := x.rotateRight r.1 ^^^ x.rotateRight r.2.1 ^^^ x.rotateRight r.2.2

/-- Two rotations and a shift combined. -/
def shaLow {w : Nat} (r : Nat × Nat × Nat) (x : BitVec w) : BitVec w := x.rotateRight r.1 ^^^ x.rotateRight r.2.1 ^^^ (x >>> r.2.2)

/-- The message schedule grown by n words; the list is newest first. -/
def shaGrow {w : Nat} (c : Sha2 w) : Nat → List (BitVec w) → List (BitVec w)
  | 0, l => l
  | n + 1, l => shaGrow c n ((nth l 15 0 + shaLow c.low0 (nth l 14 0) + nth l 6 0 + shaLow c.low1 (nth l 1 0)) :: l)

/-- One round. -/
def shaRound {w : Nat} (r : Sha2 w) (v : List (BitVec w)) (kw : BitVec w) : List (BitVec w) :=
  match v with
  | [a, b, c, d, e, f, g, h] =>
    let t1 := h + shaUp r.up1 e + ((e &&& f) ^^^ (~~~e &&& g)) + kw
    [t1 + shaUp r.up0 a + ((a &&& b) ^^^ (a &&& c) ^^^ (b &&& c)), a, b, c, d + t1, e, f, g]
  | _ => v

/-- The round constants: from the cube roots of the first primes. -/
def shaK {w : Nat} (c : Sha2 w) : List (BitVec w) := (primes80.take c.rounds).map (rootFrac w 3)

/-- The sixteen big-endian words of a block. -/
def shaWords (w : Nat) (blk : List Byte) : List (BitVec w) :=
  (upto 16).map fun i => BitVec.ofNat w (ofLe ((blk.drop (w / 8 * i)).take (w / 8)).reverse)

/-- The compression of one block. -/
def shaBlock {w : Nat} (c : Sha2 w) (h : List (BitVec w)) (blk : List Byte) : List (BitVec w) :=
  let l := (shaGrow c (c.rounds - 16) (shaWords w blk).reverse).reverse
  List.zipWith (· + ·) h ((List.zipWith (· + ·) (shaK c) l).foldl (shaRound c) h)

/-- The compression of n blocks. -/
def shaBlocks {w : Nat} (c : Sha2 w) : Nat → List (BitVec w) → List Byte → List (BitVec w)
  | 0, h, _ => h
  | n + 1, h, l => shaBlocks c n (shaBlock c h (l.take (2 * w))) (l.drop (2 * w))

/-- The SHA-2 of octets from an initial hash: a block is 2w octets, the length field w / 4. -/
def sha2 {w : Nat} (c : Sha2 w) (init : List (BitVec w)) (l : List Byte) : List Byte :=
  let pad := l ++ [0x80] ++ List.replicate ((4 * w - 1 - w / 4 - l.length % (2 * w)) % (2 * w)) 0 ++ beN (w / 4) (8 * l.length)
  (shaBlocks c (pad.length / (2 * w)) init pad).flatMap fun x => beN (w / 8) x.toNat

/-- The SHA-256 of octets: its initial hash comes from the square roots of the first eight primes. -/
def sha256 (l : List Byte) : List Byte := sha2 sha32 ((primes80.take 8).map (rootFrac 32 2)) l

/-- The SHA-384 of octets (FIPS 180-4): its initial hash comes from the square roots of the ninth to the sixteenth prime. -/
def sha384 (l : List Byte) : List Byte := (sha2 sha64 (((primes80.drop 8).take 8).map (rootFrac 64 2)) l).take 48

/-- HMAC over a hash of a block length. -/
def hmac (hash : List Byte → List Byte) (block : Nat) (key msg : List Byte) : List Byte :=
  let k := padTo block (if key.length > block then hash key else key)
  hash (k.map (· ^^^ 0x5C) ++ hash (k.map (· ^^^ 0x36) ++ msg))

/-- HMAC-SHA-256. -/
def hmac256 (key msg : List Byte) : List Byte := hmac sha256 64 key msg

/-- HMAC-SHA-384. -/
def hmac384 (key msg : List Byte) : List Byte := hmac sha384 128 key msg

/-- HKDF-SHA-384 (RFC 5869) of at most 48 octets. -/
def hkdf384 (salt secret info : List Byte) (n : Nat) : List Byte := (hmac384 (hmac384 salt secret) (info ++ [0x01])).take n

/-! ## Integer rules of conditioning (R263 to R266) -/

/-- A shift that rounds half away from zero (R263). -/
def shiftRound (acc : Int) (s : Nat) : Int :=
  if s == 0 then acc
  else
    let h : Int := 2 ^ (s - 1)
    if acc ≥ 0 then (acc + h) / 2 ^ s else -((-acc + h) / 2 ^ s)

/-- An addition held at the limits of the accumulator (R264), with a flag that it was held. -/
def satAdd (a : Int × Bool) (p : Int) : Int × Bool :=
  let m : Int := 2 ^ 63 - 1
  let s := a.1 + p
  if s > m then (m, true) else if s < -m then (-m, true) else (s, a.2)

/-- The clip to INT32 (R265), with a flag that it clipped. -/
def sat32 (v : Int) : Int × Bool :=
  if v > 2147483647 then (2147483647, true) else if v < -2147483648 then (-2147483648, true) else (v, false)

/-- A division by a count, rounded half away from zero (R266). -/
def divRound (n : Int) (x : Nat) : Int :=
  let q : Nat := if x % 2 == 0 then (n.natAbs + x / 2) / x else (2 * n.natAbs + x) / (2 * x)
  if n < 0 then -(q : Int) else q

/-- Rounding half away from zero of a quotient of integers (R257). -/
def ratRound (n d : Int) : Int :=
  let q : Nat := (2 * n.natAbs + d.natAbs) / (2 * d.natAbs)
  if (n < 0) != (d < 0) then -(q : Int) else q

/-- The ceiling of a quotient. -/
def ceilDiv (a b : Nat) : Nat := (a + b - 1) / b

/-! ## Calendar (R519) -/

/-- A year is a leap year when divisible by 4, except 2100, 2200 and 2300. -/
def isLeap (y : Nat) : Bool := y % 4 == 0 && y != 2100 && y != 2200 && y != 2300

/-- The length of a month. -/
def monthLen (y m : Nat) : Nat :=
  if m == 2 then (if isLeap y then 29 else 28)
  else if m == 4 || m == 6 || m == 9 || m == 11 then 30 else 31

/-- Days from 1970-01-01 to the first of January of a year from 2000 on. -/
def daysTo (y : Nat) : Nat := (upto (y - 2000)).foldl (fun a i => a + (if isLeap (2000 + i) then 366 else 365)) 10957

/-- Days of a year before a month. -/
def daysBefore (y m : Nat) : Nat := (upto (m - 1)).foldl (fun a i => a + monthLen y (i + 1)) 0

/-- The year and day of the year of a day number, within n years from y. -/
def yearOf : Nat → Nat → Nat → Nat × Nat
  | 0, y, d => (y, d)
  | n + 1, y, d =>
    let l := if isLeap y then 366 else 365
    if d < l then (y, d) else yearOf n (y + 1) (d - l)

/-- The month and day of a day of the year. -/
def monthOf (y : Nat) : Nat → Nat → Nat → Nat × Nat
  | 0, m, d => (m, d + 1)
  | n + 1, m, d => if d < monthLen y m then (m, d + 1) else monthOf y n (m + 1) (d - monthLen y m)

end Sys2Proof.Machine
end

