-- ==== Sys2Proof/Machine/DictTypes.lean ====
section
/-! DEFINITION. What a row of the Jalyn object dictionary says of an object (R109 to R120). -/

namespace Sys2Proof.Machine

/-- The type of one field (R112). -/
inductive FT where
  | bool | u8 | u16 | u32 | u64 | i16 | i32 | i64 | f32 | f64 | time | dur | enum8 | bits32
  | oct (n : Nat)
  | str (n : Nat)
  deriving DecidableEq, Repr

/-- The type of an object (R112, R115): no value, one scalar, a record, or a table of records with its largest row count. -/
inductive OTyp where
  | none
  | one (t : FT)
  | record (fs : List FT)
  | tbl (fs : List FT) (rows : Nat)
  deriving DecidableEq, Repr

/-- Access codes (R116). -/
inductive Acc where
  | ro | rw | wo | cmd | rws
  deriving DecidableEq, Repr

/-- Session roles, which are also the Role column's words (R118, R148). -/
inductive Role where
  | obs | opr | eng | sec | mgr | ptn
  deriving DecidableEq, Repr

/-- Persistence classes (R120). -/
inductive Pers where
  | v | k | f | s
  deriving DecidableEq, Repr

/-- One row of the dictionary. `lims` gives each field's least and largest value where the chapter states them. -/
structure Desc where
  obj : Nat
  typ : OTyp
  acc : Acc
  role : Role
  pers : Pers
  cnt : Nat
  dflt : Val
  lims : List (Option (Int × Int))
  deriving DecidableEq, Repr

/-- n octets of zero. -/
def zeros (n : Nat) : List Byte := List.replicate n 0

end Sys2Proof.Machine
end

