-- ==== Sys2Proof/Machine/DictA.lean ====
section
/-! DEFINITION. The Jalyn object dictionary, areas 00, 01, 02, 10, 11, 18: one descriptor for each row of the chapters' object tables
(address, type, access, role, persistence, instances, default, field limits). -/

namespace Sys2Proof.Machine

/-- Area 00, part 1. -/
def dict00p1 : List Desc := [
  /- 00.0001 PART_NUMBER -/ ⟨0x0001, .one (.str 20), .ro, .obs, .f, 1, [.o []], []⟩,
  /- 00.0002 SERIAL -/ ⟨0x0002, .one (.str 16), .ro, .obs, .f, 1, [.o []], []⟩,
  /- 00.0010 VARIANT -/ ⟨0x0010, .one .enum8, .ro, .obs, .f, 1, [.n 0], []⟩,
  /- 00.0011 GRADE -/ ⟨0x0011, .one .enum8, .ro, .obs, .f, 1, [.n 0], []⟩,
  /- 00.0020 UNITS_PRESENT -/ ⟨0x0020, .one .bits32, .ro, .obs, .f, 1, [.n 0], []⟩,
  /- 00.0021 SEAT_UNIT_CAP -/ ⟨0x0021, .one .u16, .ro, .obs, .f, 1, [.n 0], []⟩,
  /- 00.0022 PARTITION_CAP -/ ⟨0x0022, .one .u8, .ro, .obs, .f, 1, [.n 0], []⟩]

/-- The objects of area 00. -/
def dict00 : List Desc := dict00p1

/-- Area 01, part 1. -/
def dict01p1 : List Desc := [
  /- 01.0001 LIFECYCLE -/ ⟨0x0001, .one .enum8, .ro, .obs, .f, 1, [.n 0], []⟩,
  /- 01.0003 COMMISSION -/ ⟨0x0003, .none, .cmd, .sec, .k, 1, [], []⟩,
  /- 01.0004 QUARANTINE_ENTER -/ ⟨0x0004, .none, .cmd, .sec, .k, 1, [], []⟩,
  /- 01.0005 QUARANTINE_LEAVE -/ ⟨0x0005, .none, .cmd, .sec, .k, 1, [], []⟩,
  /- 01.0006 DECOMMISSION -/ ⟨0x0006, .one (.str 16), .cmd, .sec, .f, 1, [.o []], []⟩,
  /- 01.0010 RESET_CAUSE -/ ⟨0x0010, .one .enum8, .ro, .obs, .v, 1, [.n 0], []⟩,
  /- 01.0011 BOOT_COUNT -/ ⟨0x0011, .one .u32, .ro, .obs, .k, 1, [.n 0], []⟩,
  /- 01.0012 BOOT_SLOT -/ ⟨0x0012, .one .enum8, .ro, .obs, .v, 1, [.n 0], []⟩,
  /- 01.0013 FW_SVN_MIN -/ ⟨0x0013, .one .u32, .ro, .obs, .f, 1, [.n 0], []⟩,
  /- 01.0014 RESTART -/ ⟨0x0014, .none, .cmd, .eng, .v, 1, [], []⟩,
  /- 01.0015 FATAL_RESTART -/ ⟨0x0015, .one .enum8, .rw, .eng, .k, 1, [.n 0], [some (0, 1)]⟩,
  /- 01.0020 FW_IMAGE -/ ⟨0x0020, .one (.oct 33571540), .wo, .eng, .v, 1, [.o []], []⟩,
  /- 01.0021 FW_IMAGE_APPLY -/ ⟨0x0021, .one .enum8, .cmd, .eng, .k, 1, [.n 0], [some (0, 1)]⟩,
  /- 01.0022 FW_ACTIVATE -/ ⟨0x0022, .one .enum8, .cmd, .eng, .k, 1, [.n 0], [some (0, 1)]⟩,
  /- 01.0023 FW_SLOT_INFO -/ ⟨0x0023, .record [.enum8, .bool, .u32, (.oct 48)], .ro, .obs, .k, 2, [.n 0, .n 0, .n 0, .o (zeros 48)], []⟩,
  /- 01.0100 ROLL_CALL -/ ⟨0x0100, .one .enum8, .ro, .obs, .v, 31, [.n 0], []⟩,
  /- 01.0101 ROLL_CALL_SINCE -/ ⟨0x0101, .one .time, .ro, .obs, .v, 31, [.i 0], []⟩,
  /- 01.0102 UNIT_DISABLE -/ ⟨0x0102, .none, .cmd, .eng, .v, 31, [], []⟩,
  /- 01.0103 UNIT_ENABLE -/ ⟨0x0103, .none, .cmd, .eng, .v, 31, [], []⟩]

/-- The objects of area 01. -/
def dict01 : List Desc := dict01p1

/-- Area 02, part 1. -/
def dict02p1 : List Desc := [
  /- 02.0001 JALYN_UDP_PORT -/ ⟨0x0001, .one .u16, .rw, .eng, .k, 1, [.n 48771], [some (1024, 65535)]⟩,
  /- 02.0002 RELAY_UDP_PORT -/ ⟨0x0002, .one .u16, .rw, .eng, .k, 1, [.n 48772], [some (1024, 65535)]⟩,
  /- 02.0003 PORT_ENABLE -/ ⟨0x0003, .one .bool, .rw, .eng, .k, 3, [.n 1], []⟩,
  /- 02.0004 SESSION_IDLE -/ ⟨0x0004, .one .u32, .rw, .eng, .k, 1, [.n 60], [some (10, 3600)]⟩,
  /- 02.0005 GATEWAY_TIMEOUT -/ ⟨0x0005, .one .dur, .rw, .eng, .k, 1, [.n 100000000], [some (1000000, 1000000000)]⟩,
  /- 02.0006 SUITE_MIN -/ ⟨0x0006, .one .enum8, .rw, .sec, .k, 1, [.n 0], [some (0, 1)]⟩,
  /- 02.0007 VERSIONS -/ ⟨0x0007, .one .bits32, .ro, .obs, .f, 1, [.n 3], []⟩,
  /- 02.0010 SESSION_COUNT -/ ⟨0x0010, .one .u8, .ro, .obs, .v, 1, [.n 0], []⟩,
  /- 02.0011 SESSION_INFO -/ ⟨0x0011, .record [.u8, .u8, .u8, .u8, .u16, (.str 32), .time], .ro, .obs, .v, 16, [.n 0, .n 0, .n 0, .n 0, .n 0, .o [], .i 0], []⟩,
  /- 02.0012 SESSION_CLOSE -/ ⟨0x0012, .none, .cmd, .sec, .v, 16, [], []⟩,
  /- 02.0013 NOTIFY_LOST_COUNT -/ ⟨0x0013, .one .u32, .ro, .obs, .v, 16, [.n 0], []⟩,
  /- 02.0014 HELLO_REJECT_COUNT -/ ⟨0x0014, .one .u32, .ro, .obs, .v, 1, [.n 0], []⟩,
  /- 02.0015 BAD_DATAGRAM_COUNT -/ ⟨0x0015, .one .u32, .ro, .obs, .v, 1, [.n 0], []⟩,
  /- 02.0020 STAGE_HOLDER -/ ⟨0x0020, .one .u8, .ro, .obs, .v, 1, [.n 255], []⟩,
  /- 02.0021 STAGE_COUNT -/ ⟨0x0021, .one .u16, .ro, .obs, .v, 1, [.n 0], []⟩,
  /- 02.0022 STAGE_COMMIT -/ ⟨0x0022, .none, .cmd, .eng, .k, 1, [], []⟩,
  /- 02.0023 STAGE_DISCARD -/ ⟨0x0023, .none, .cmd, .eng, .v, 1, [], []⟩,
  /- 02.0024 STAGE_LAST_COMMIT_ROW -/ ⟨0x0024, .one .u64, .ro, .obs, .k, 1, [.n 0], []⟩,
  /- 02.0030 BUNDLE_DATA -/ ⟨0x0030, .one (.oct 16777216), .wo, .eng, .v, 1, [.o []], []⟩,
  /- 02.0031 BUNDLE_APPLY -/ ⟨0x0031, .none, .cmd, .eng, .v, 1, [], []⟩]

/-- The objects of area 02. -/
def dict02 : List Desc := dict02p1

/-- Area 10, part 1. -/
def dict10p1 : List Desc := [
  /- 10.0001 PORT_ADMIN -/ ⟨0x0001, .one .bool, .rw, .eng, .k, 9, [.n 1], []⟩,
  /- 10.0002 PORT_MODE -/ ⟨0x0002, .one .enum8, .rw, .eng, .k, 9, [.n 0], [some (0, 2)]⟩,
  /- 10.0003 LINK_STATE -/ ⟨0x0003, .one .enum8, .ro, .obs, .v, 9, [.n 0], []⟩,
  /- 10.0004 LINK_SPEED -/ ⟨0x0004, .one .u16, .ro, .obs, .v, 9, [.n 0], []⟩,
  /- 10.0005 LINK_PARTNER -/ ⟨0x0005, .one .bits32, .ro, .obs, .v, 9, [.n 0], []⟩,
  /- 10.0006 SFP_ID -/ ⟨0x0006, .record [.u8, .u8, (.oct 8), (.str 16), (.str 16), (.str 16), .u16, .bool], .ro, .obs, .v, 8, [.n 0, .n 0, .o (zeros 8), .o [], .o [], .o [], .n 0, .n 0], []⟩,
  /- 10.0007 SFP_DDM -/ ⟨0x0007, .record [.i32, .u16, .u16, .u16, .u16], .ro, .obs, .v, 8, [.i 0, .n 0, .n 0, .n 0, .n 0], []⟩,
  /- 10.0010 MAC_ADDR -/ ⟨0x0010, .one (.oct 6), .ro, .obs, .f, 9, [.o []], []⟩,
  /- 10.0011 UNICAST_FILTER -/ ⟨0x0011, .tbl [.bool, (.oct 6)] 16, .rw, .mgr, .k, 9, [.n 0, .o (zeros 6)], []⟩,
  /- 10.0012 BROADCAST_ACCEPT -/ ⟨0x0012, .one .bool, .rw, .eng, .k, 9, [.n 0], []⟩,
  /- 10.0013 PVID -/ ⟨0x0013, .one .u16, .rw, .eng, .k, 9, [.n 0], [some (0, 4094)]⟩,
  /- 10.0014 VLAN_MEMBER -/ ⟨0x0014, .tbl [.u16] 32, .rw, .eng, .k, 9, [.n 0], []⟩,
  /- 10.0015 DEFAULT_PCP -/ ⟨0x0015, .one .u8, .rw, .eng, .k, 9, [.n 4], [some (0, 7)]⟩,
  /- 10.0016 PAUSE_ENABLE -/ ⟨0x0016, .one .bool, .rw, .eng, .k, 9, [.n 0], []⟩,
  /- 10.0017 SHAPER -/ ⟨0x0017, .tbl [.u32, .u32] 8, .rw, .eng, .k, 9, [.n 0, .n 0], []⟩,
  /- 10.0020 RX_FRAMES -/ ⟨0x0020, .one .u64, .ro, .obs, .v, 9, [.n 0], []⟩,
  /- 10.0021 RX_OCTETS -/ ⟨0x0021, .one .u64, .ro, .obs, .v, 9, [.n 0], []⟩,
  /- 10.0022 RX_RUNT -/ ⟨0x0022, .one .u64, .ro, .obs, .v, 9, [.n 0], []⟩,
  /- 10.0023 RX_OVERSIZE -/ ⟨0x0023, .one .u64, .ro, .obs, .v, 9, [.n 0], []⟩,
  /- 10.0024 RX_FCS_ERROR -/ ⟨0x0024, .one .u64, .ro, .obs, .v, 9, [.n 0], []⟩]

/-- Area 10, part 2. -/
def dict10p2 : List Desc := [
  /- 10.0025 RX_FILTERED -/ ⟨0x0025, .one .u64, .ro, .obs, .v, 9, [.n 0], []⟩,
  /- 10.0026 RX_VLAN_DROP -/ ⟨0x0026, .one .u64, .ro, .obs, .v, 9, [.n 0], []⟩,
  /- 10.0027 RX_NO_BUFFER -/ ⟨0x0027, .one .u64, .ro, .obs, .v, 9, [.n 0], []⟩,
  /- 10.0028 RX_UNSTEERED -/ ⟨0x0028, .one .u64, .ro, .obs, .v, 9, [.n 0], []⟩,
  /- 10.0029 TX_FRAMES -/ ⟨0x0029, .one .u64, .ro, .obs, .v, 9, [.n 0], []⟩,
  /- 10.002A TX_OCTETS -/ ⟨0x002A, .one .u64, .ro, .obs, .v, 9, [.n 0], []⟩,
  /- 10.002B TX_LINK_DOWN -/ ⟨0x002B, .one .u64, .ro, .obs, .v, 9, [.n 0], []⟩,
  /- 10.002C PAUSE_RX -/ ⟨0x002C, .one .u64, .ro, .obs, .v, 9, [.n 0], []⟩,
  /- 10.002D PAUSE_CAPPED -/ ⟨0x002D, .one .u64, .ro, .obs, .v, 9, [.n 0], []⟩,
  /- 10.002E PAUSE_IGNORED -/ ⟨0x002E, .one .u64, .ro, .obs, .v, 9, [.n 0], []⟩,
  /- 10.002F LINK_DOWN_EVENTS -/ ⟨0x002F, .one .u64, .ro, .obs, .v, 9, [.n 0], []⟩,
  /- 10.0030 PORT_COUNTERS_RESET -/ ⟨0x0030, .none, .cmd, .eng, .v, 9, [], []⟩,
  /- 10.0100 STEER_TABLE -/ ⟨0x0100, .tbl [.bool, .u8, .u16, (.oct 6), .u16, .u8, .u8] 256, .rw, .mgr, .s, 1, [.n 0, .n 0, .n 0, .o (zeros 6), .n 0, .n 0, .n 0], []⟩,
  /- 10.0110 IP_ADDR -/ ⟨0x0110, .one .u32, .rw, .eng, .k, 3, [.n 0], []⟩,
  /- 10.0111 IP_PREFIX -/ ⟨0x0111, .one .u8, .rw, .eng, .k, 3, [.n 24], [some (8, 30)]⟩,
  /- 10.0112 IP_GATEWAY -/ ⟨0x0112, .one .u32, .rw, .eng, .k, 3, [.n 0], []⟩]

/-- The objects of area 10. -/
def dict10 : List Desc := dict10p1 ++ dict10p2

/-- Area 11, part 1. -/
def dict11p1 : List Desc := [
  /- 11.0001 GROUP_MODE -/ ⟨0x0001, .one .enum8, .rw, .eng, .s, 3, [.n 1], [some (0, 2)]⟩,
  /- 11.0002 SUPERVISION_ADDR -/ ⟨0x0002, .one .u8, .rw, .eng, .k, 1, [.n 0], []⟩,
  /- 11.0010 NODE_COUNT -/ ⟨0x0010, .one .u16, .ro, .obs, .v, 1, [.n 0], []⟩,
  /- 11.0011 NODE_TABLE -/ ⟨0x0011, .tbl [(.oct 6), .u8, .u8, .time, .time] 4096, .ro, .obs, .v, 1, [.o (zeros 6), .n 0, .n 0, .i 0, .i 0], []⟩,
  /- 11.0020 DUP_DISCARD -/ ⟨0x0020, .one .u64, .ro, .obs, .v, 3, [.n 0], []⟩,
  /- 11.0021 WRONG_LAN -/ ⟨0x0021, .one .u64, .ro, .obs, .v, 3, [.n 0], []⟩,
  /- 11.0022 OUT_OF_WINDOW -/ ⟨0x0022, .one .u64, .ro, .obs, .v, 3, [.n 0], []⟩,
  /- 11.0023 UNLEARNED -/ ⟨0x0023, .one .u64, .ro, .obs, .v, 3, [.n 0], []⟩,
  /- 11.0024 HSR_FORWARDED -/ ⟨0x0024, .one .u64, .ro, .obs, .v, 3, [.n 0], []⟩,
  /- 11.0025 HSR_FORWARD_DROP -/ ⟨0x0025, .one .u64, .ro, .obs, .v, 3, [.n 0], []⟩,
  /- 11.0026 OWN_REMOVED -/ ⟨0x0026, .one .u64, .ro, .obs, .v, 3, [.n 0], []⟩,
  /- 11.0027 SUPERVISION_RX -/ ⟨0x0027, .one .u64, .ro, .obs, .v, 3, [.n 0], []⟩,
  /- 11.0030 GROUP_COUNTERS_RESET -/ ⟨0x0030, .none, .cmd, .eng, .v, 3, [], []⟩]

/-- The objects of area 11. -/
def dict11 : List Desc := dict11p1

/-- Area 18, part 1. -/
def dict18p1 : List Desc := [
  /- 18.0001 TIME_NOW -/ ⟨0x0001, .one .time, .ro, .obs, .v, 1, [.i 0], []⟩,
  /- 18.0002 TIME_QUALITY -/ ⟨0x0002, .one .enum8, .ro, .obs, .v, 1, [.n 2], []⟩,
  /- 18.0003 TIME_SOURCE -/ ⟨0x0003, .one .enum8, .ro, .obs, .v, 1, [.n 0], []⟩,
  /- 18.0004 INCREMENT -/ ⟨0x0004, .one .u64, .ro, .obs, .v, 1, [.n 8589934592], []⟩,
  /- 18.0005 UTC_OFFSET -/ ⟨0x0005, .one .i32, .rw, .eng, .k, 1, [.i 37], []⟩,
  /- 18.0006 LEAP_PENDING -/ ⟨0x0006, .one .enum8, .ro, .obs, .v, 1, [.n 0], []⟩,
  /- 18.0007 HOLDOVER_SINCE -/ ⟨0x0007, .one .time, .ro, .obs, .v, 1, [.i 0], []⟩,
  /- 18.0008 HOLDOVER_LIMIT -/ ⟨0x0008, .one .u32, .rw, .eng, .k, 1, [.n 0], [some (1, 3600)]⟩,
  /- 18.0009 STEP_COUNT -/ ⟨0x0009, .one .u32, .ro, .obs, .v, 1, [.n 0], []⟩,
  /- 18.000A LAST_STEP -/ ⟨0x000A, .one .i64, .ro, .obs, .v, 1, [.i 0], []⟩,
  /- 18.000B STEP_THRESHOLD -/ ⟨0x000B, .one .dur, .rw, .eng, .k, 1, [.n 10000], [some (1000, 1000000000)]⟩,
  /- 18.000C LOCK_THRESHOLD -/ ⟨0x000C, .one .dur, .rw, .eng, .k, 1, [.n 250], [some (50, 1000)]⟩,
  /- 18.000D UNLOCK_THRESHOLD -/ ⟨0x000D, .one .dur, .rw, .eng, .k, 1, [.n 1000], [some (50, 10000)]⟩,
  /- 18.000E SLEW_MAX -/ ⟨0x000E, .one .u32, .rw, .eng, .k, 1, [.n 100000], [some (1000, 200000)]⟩,
  /- 18.000F TIME_SET -/ ⟨0x000F, .one .time, .cmd, .eng, .v, 1, [.i 0], []⟩,
  /- 18.0010 TIME_ADJUST -/ ⟨0x0010, .one .i64, .cmd, .eng, .v, 1, [.i 0], []⟩,
  /- 18.0011 SOURCE_FALLBACK -/ ⟨0x0011, .one .bool, .rw, .eng, .k, 1, [.n 0], []⟩,
  /- 18.0020 PTP_ENABLE -/ ⟨0x0020, .one .bool, .rw, .eng, .k, 1, [.n 1], []⟩,
  /- 18.0021 PTP_PROFILE -/ ⟨0x0021, .one .enum8, .rw, .eng, .k, 1, [.n 0], [some (0, 1)]⟩,
  /- 18.0022 PTP_DOMAIN -/ ⟨0x0022, .one .u8, .rw, .eng, .k, 1, [.n 0], []⟩]

/-- Area 18, part 2. -/
def dict18p2 : List Desc := [
  /- 18.0023 PTP_PRIORITY1 -/ ⟨0x0023, .one .u8, .rw, .eng, .k, 1, [.n 255], []⟩,
  /- 18.0024 PTP_PRIORITY2 -/ ⟨0x0024, .one .u8, .rw, .eng, .k, 1, [.n 255], []⟩,
  /- 18.0025 PTP_TWO_STEP -/ ⟨0x0025, .one .bool, .rw, .eng, .k, 1, [.n 0], []⟩,
  /- 18.0026 CLOCK_IDENTITY -/ ⟨0x0026, .one (.oct 8), .ro, .obs, .f, 1, [.o []], []⟩,
  /- 18.0027 PARENT_DS -/ ⟨0x0027, .record [(.oct 8), .u8, .u8, .u16, .u8, .u8, .u16, .u8], .ro, .obs, .v, 1, [.o (zeros 8), .n 0, .n 0, .n 0, .n 0, .n 0, .n 0, .n 0], []⟩,
  /- 18.0028 OFFSET_FROM_MASTER -/ ⟨0x0028, .one .i64, .ro, .obs, .v, 1, [.i 0], []⟩,
  /- 18.0030 PTP_PORT_ROLE -/ ⟨0x0030, .one .enum8, .rw, .eng, .k, 6, [.n 0], [some (0, 3)]⟩,
  /- 18.0031 PTP_PORT_STATE -/ ⟨0x0031, .one .enum8, .ro, .obs, .v, 6, [.n 1], []⟩,
  /- 18.0032 MEAN_LINK_DELAY -/ ⟨0x0032, .one .dur, .ro, .obs, .v, 6, [.n 0], []⟩,
  /- 18.0033 INGRESS_LATENCY -/ ⟨0x0033, .one .i32, .rw, .eng, .k, 6, [.i 0], []⟩,
  /- 18.0034 EGRESS_LATENCY -/ ⟨0x0034, .one .i32, .rw, .eng, .k, 6, [.i 0], []⟩,
  /- 18.0035 DELAY_ASYMMETRY -/ ⟨0x0035, .one .i32, .rw, .eng, .k, 6, [.i 0], []⟩,
  /- 18.0036 TS_OVERFLOW -/ ⟨0x0036, .one .u64, .ro, .obs, .v, 6, [.n 0], []⟩,
  /- 18.0037 PDELAY_MISSED -/ ⟨0x0037, .one .u64, .ro, .obs, .v, 6, [.n 0], []⟩,
  /- 18.0040 IRIG_STATE -/ ⟨0x0040, .one .enum8, .ro, .obs, .v, 1, [.n 0], []⟩,
  /- 18.0041 IRIG_CODE -/ ⟨0x0041, .one .enum8, .ro, .obs, .v, 1, [.n 0], []⟩,
  /- 18.0042 IRIG_TIME_BASE -/ ⟨0x0042, .one .enum8, .rw, .eng, .k, 1, [.n 0], [some (0, 1)]⟩,
  /- 18.0043 PPS_STATE -/ ⟨0x0043, .one .enum8, .ro, .obs, .v, 1, [.n 0], []⟩,
  /- 18.0044 PPS_OFFSET -/ ⟨0x0044, .one .i32, .ro, .obs, .v, 1, [.i 0], []⟩,
  /- 18.0045 PPS_ALARM_LIMIT -/ ⟨0x0045, .one .dur, .rw, .eng, .k, 1, [.n 2000], [some (100, 1000000)]⟩]

/-- Area 18, part 3. -/
def dict18p3 : List Desc := [
  /- 18.0050 PPS_OUT_MODE -/ ⟨0x0050, .one .enum8, .rw, .eng, .k, 1, [.n 0], [some (0, 2)]⟩,
  /- 18.0051 PPS_OUT_WIDTH -/ ⟨0x0051, .one .dur, .rw, .eng, .k, 1, [.n 100000000], [some (1000, 500000000)]⟩,
  /- 18.0060 LATE_TOLERANCE -/ ⟨0x0060, .one .dur, .rw, .eng, .k, 6, [.n 1000], [some (0, 100000)]⟩,
  /- 18.0061 LAUNCH_HORIZON -/ ⟨0x0061, .one .dur, .rw, .eng, .k, 1, [.n 100000000], [some (1000000, 1000000000)]⟩,
  /- 18.0062 LAUNCH_LATE -/ ⟨0x0062, .one .u64, .ro, .obs, .v, 6, [.n 0], []⟩,
  /- 18.0063 LAUNCH_OUT_OF_WINDOW -/ ⟨0x0063, .one .u64, .ro, .obs, .v, 6, [.n 0], []⟩,
  /- 18.0070 TIME_COUNTERS_RESET -/ ⟨0x0070, .none, .cmd, .eng, .v, 1, [], []⟩]

/-- The objects of area 18. -/
def dict18 : List Desc := dict18p1 ++ dict18p2 ++ dict18p3

end Sys2Proof.Machine
end

