-- ==== Sys2Proof/Machine/DictB.lean ====
section
/-! DEFINITION. The Jalyn object dictionary, areas 20, 21, 24, 28, 29: one descriptor for each row of the chapters' object tables
(address, type, access, role, persistence, instances, default, field limits). -/

namespace Sys2Proof.Machine

/-- Area 20, part 1. -/
def dict20p1 : List Desc := [
  /- 20.0100 SUB_ENTRY -/ ⟨0x0100, .record [.bool, .u8, (.oct 6), .u16, .u16, .u32, .u16, .u8, .u16, .enum8, .u8, .u8, .enum8, .enum8, .enum8, .u8, .bool, .u16], .rw, .eng, .s, 2048, [.n 0, .n 15, .o (zeros 6), .n 0, .n 4095, .n 0, .n 4800, .n 8, .n 0, .n 0, .n 2, .n 4, .n 2, .n 0, .n 0, .n 0, .n 0, .n 0], [none, some (1, 15), none, none, some (0, 4095), none, some (0, 65535), some (1, 24), some (0, 1023), some (0, 2), some (1, 8), some (1, 64), some (0, 2), some (0, 1), some (0, 2), some (0, 31), none, none]⟩,
  /- 20.0101 SVID -/ ⟨0x0101, .one (.str 129), .rw, .eng, .s, 2048, [.o []], []⟩,
  /- 20.0102 SUB_IMAGE -/ ⟨0x0102, .one (.oct 32), .ro, .obs, .v, 2048, [.o []], []⟩,
  /- 20.0110 STREAM_STATE -/ ⟨0x0110, .one .enum8, .ro, .obs, .v, 2048, [.n 0], []⟩,
  /- 20.0111 STREAM_SINCE -/ ⟨0x0111, .one .time, .ro, .obs, .v, 2048, [.i 0], []⟩,
  /- 20.0112 LEARNED_RATE -/ ⟨0x0112, .one .u16, .ro, .obs, .v, 2048, [.n 0], []⟩,
  /- 20.0113 LEARNED_CHANNELS -/ ⟨0x0113, .one .u8, .ro, .obs, .v, 2048, [.n 0], []⟩,
  /- 20.0114 LAST_SMPSYNCH -/ ⟨0x0114, .one .u8, .ro, .obs, .v, 2048, [.n 255], []⟩,
  /- 20.0120 ASDU_SEATED -/ ⟨0x0120, .one .u64, .ro, .obs, .v, 2048, [.n 0], []⟩,
  /- 20.0121 LATE -/ ⟨0x0121, .one .u64, .ro, .obs, .v, 2048, [.n 0], []⟩,
  /- 20.0122 EARLY -/ ⟨0x0122, .one .u64, .ro, .obs, .v, 2048, [.n 0], []⟩,
  /- 20.0123 DUPLICATE -/ ⟨0x0123, .one .u64, .ro, .obs, .v, 2048, [.n 0], []⟩,
  /- 20.0124 DUP_CONFLICT -/ ⟨0x0124, .one .u64, .ro, .obs, .v, 2048, [.n 0], []⟩,
  /- 20.0125 SUBSTITUTED -/ ⟨0x0125, .one .u64, .ro, .obs, .v, 2048, [.n 0], []⟩,
  /- 20.0126 LOST_ROWS -/ ⟨0x0126, .one .u64, .ro, .obs, .v, 2048, [.n 0], []⟩,
  /- 20.0127 LOST_EVENTS -/ ⟨0x0127, .one .u64, .ro, .obs, .v, 2048, [.n 0], []⟩,
  /- 20.0128 AUTH_FAIL -/ ⟨0x0128, .one .u64, .ro, .obs, .v, 2048, [.n 0], []⟩,
  /- 20.0129 AUTH_KEY_STALE -/ ⟨0x0129, .one .u64, .ro, .obs, .v, 2048, [.n 0], []⟩,
  /- 20.012A SVID_MISMATCH -/ ⟨0x012A, .one .u64, .ro, .obs, .v, 2048, [.n 0], []⟩,
  /- 20.012B CONFREV_MISMATCH -/ ⟨0x012B, .one .u64, .ro, .obs, .v, 2048, [.n 0], []⟩]

/-- Area 20, part 2. -/
def dict20p2 : List Desc := [
  /- 20.012C CHAN_MISMATCH -/ ⟨0x012C, .one .u64, .ro, .obs, .v, 2048, [.n 0], []⟩,
  /- 20.012D RATE_MISMATCH -/ ⟨0x012D, .one .u64, .ro, .obs, .v, 2048, [.n 0], []⟩,
  /- 20.012E SYNCH_DISCARD -/ ⟨0x012E, .one .u64, .ro, .obs, .v, 2048, [.n 0], []⟩,
  /- 20.012F SYNCH_CHANGES -/ ⟨0x012F, .one .u64, .ro, .obs, .v, 2048, [.n 0], []⟩,
  /- 20.0130 SIM_DISCARD -/ ⟨0x0130, .one .u64, .ro, .obs, .v, 2048, [.n 0], []⟩,
  /- 20.0131 CONV_FILLED -/ ⟨0x0131, .one .u64, .ro, .obs, .v, 2048, [.n 0], []⟩,
  /- 20.0132 COPIED -/ ⟨0x0132, .one .u64, .ro, .obs, .v, 2048, [.n 0], []⟩,
  /- 20.0140 STREAM_COUNTERS_RESET -/ ⟨0x0140, .none, .cmd, .eng, .v, 2048, [], []⟩,
  /- 20.0200 SV_FORMAT_ERROR -/ ⟨0x0200, .one .u64, .ro, .obs, .v, 4, [.n 0], []⟩,
  /- 20.0201 SV_UNMATCHED -/ ⟨0x0201, .one .u64, .ro, .obs, .v, 4, [.n 0], []⟩,
  /- 20.0202 CONVERTED_COUNT -/ ⟨0x0202, .one .u16, .ro, .obs, .v, 1, [.n 0], []⟩,
  /- 20.0203 SV_PORT_COUNTERS_RESET -/ ⟨0x0203, .none, .cmd, .eng, .v, 1, [], []⟩]

/-- The objects of area 20. -/
def dict20 : List Desc := dict20p1 ++ dict20p2

/-- Area 21, part 1. -/
def dict21p1 : List Desc := [
  /- 21.0001 BASE_RATE -/ ⟨0x0001, .one .enum8, .rws, .eng, .k, 1, [.n 0], [some (0, 1)]⟩,
  /- 21.0002 ALIGN_WINDOW -/ ⟨0x0002, .one .dur, .rw, .eng, .s, 1, [.n 800000], [some (50000, 4000000)]⟩,
  /- 21.0003 SEAT_UNITS_CAP -/ ⟨0x0003, .one .u16, .ro, .obs, .v, 1, [.n 0], []⟩,
  /- 21.0004 SEAT_UNITS_USED -/ ⟨0x0004, .one .u16, .ro, .obs, .v, 1, [.n 0], []⟩,
  /- 21.0010 CURRENT_ROW -/ ⟨0x0010, .one .u64, .ro, .obs, .v, 1, [.n 0], []⟩,
  /- 21.0011 LAST_RELEASED_ROW -/ ⟨0x0011, .one .u64, .ro, .obs, .v, 1, [.n 0], []⟩,
  /- 21.0012 ROWS_CLOSED -/ ⟨0x0012, .one .u64, .ro, .obs, .v, 1, [.n 0], []⟩,
  /- 21.0013 ROWS_WITH_FILL -/ ⟨0x0013, .one .u64, .ro, .obs, .v, 1, [.n 0], []⟩,
  /- 21.0014 ROWS_GAPPED -/ ⟨0x0014, .one .u64, .ro, .obs, .v, 1, [.n 0], []⟩,
  /- 21.0015 STEP_CLOSES -/ ⟨0x0015, .one .u64, .ro, .obs, .v, 1, [.n 0], []⟩,
  /- 21.0020 PLAN_COUNTERS_RESET -/ ⟨0x0020, .none, .cmd, .eng, .v, 1, [], []⟩]

/-- The objects of area 21. -/
def dict21 : List Desc := dict21p1

/-- Area 24, part 1. -/
def dict24p1 : List Desc := [
  /- 24.0001 COND_LOAD -/ ⟨0x0001, .one .u32, .ro, .obs, .v, 1, [.n 0], []⟩,
  /- 24.0002 COND_BUDGET -/ ⟨0x0002, .one .u32, .ro, .obs, .v, 1, [.n 2621440], []⟩,
  /- 24.0003 ARRAY_STATE -/ ⟨0x0003, .one .bits32, .ro, .obs, .v, 1, [.n 0], []⟩,
  /- 24.0004 KAT_RUNS -/ ⟨0x0004, .one .u64, .ro, .obs, .v, 1, [.n 0], []⟩,
  /- 24.0005 KAT_FAIL -/ ⟨0x0005, .one .u64, .ro, .obs, .v, 1, [.n 0], []⟩,
  /- 24.0006 KAT_DEFERRED -/ ⟨0x0006, .one .u64, .ro, .obs, .v, 1, [.n 0], []⟩,
  /- 24.0007 COND_TIME_MAX -/ ⟨0x0007, .one .dur, .ro, .obs, .v, 1, [.n 0], []⟩,
  /- 24.0008 HISTORIES_USED -/ ⟨0x0008, .one .u16, .ro, .obs, .v, 1, [.n 0], []⟩,
  /- 24.0010 PROFILE_CFG -/ ⟨0x0010, .record [.u8, .u8], .rw, .eng, .s, 64, [.n 1, .n 1], [some (1, 8), some (1, 4)]⟩,
  /- 24.0011 BANK_HEADER -/ ⟨0x0011, .record [.u16, .u16, .u8, .u8, .u32, .u32], .rw, .eng, .k, 128, [.n 1, .n 0, .n 0, .n 0, .n 0, .n 0], [some (1, 256), some (0, 512), some (0, 47), some (0, 47), none, none]⟩,
  /- 24.0012 BANK_COEF -/ ⟨0x0012, .tbl [.i32] 768, .rw, .eng, .k, 128, [.i 0], [some (-8388608, 8388607)]⟩,
  /- 24.0013 BANK_STATE -/ ⟨0x0013, .one .enum8, .ro, .obs, .k, 128, [.n 0], []⟩,
  /- 24.0014 BANK_SEAL -/ ⟨0x0014, .none, .cmd, .eng, .k, 128, [], []⟩,
  /- 24.0015 PROFILE_SWAP -/ ⟨0x0015, .record [.u64, .enum8, .u16], .cmd, .eng, .k, 64, [.n 0, .n 0, .n 0], [none, some (0, 1), none]⟩,
  /- 24.0016 PROFILE_DISARM -/ ⟨0x0016, .none, .cmd, .eng, .k, 64, [], []⟩,
  /- 24.0017 PROFILE_STATE -/ ⟨0x0017, .one .enum8, .ro, .obs, .k, 64, [.n 0], []⟩,
  /- 24.0018 ACTIVE_BANK -/ ⟨0x0018, .one .enum8, .ro, .obs, .k, 64, [.n 0], []⟩,
  /- 24.0019 SWAP_ROW -/ ⟨0x0019, .one .u64, .ro, .obs, .k, 64, [.n 0], []⟩,
  /- 24.001A PROFILE_SATURATED -/ ⟨0x001A, .one .u64, .ro, .obs, .v, 64, [.n 0], []⟩,
  /- 24.0020 GROUP_CFG -/ ⟨0x0020, .record [.bool, .u8], .rw, .eng, .s, 256, [.n 0, .n 0], [none, some (0, 63)]⟩]

/-- Area 24, part 2. -/
def dict24p2 : List Desc := [
  /- 24.0021 GROUP_CHANNELS -/ ⟨0x0021, .tbl [.u16, .u8] 256, .rw, .eng, .s, 256, [.n 0, .n 0], [some (0, 2047), some (0, 23)]⟩,
  /- 24.0022 GROUP_RESTARTS -/ ⟨0x0022, .one .u64, .ro, .obs, .v, 256, [.n 0], []⟩,
  /- 24.0030 IMAGE_MAP -/ ⟨0x0030, .tbl [.u8, .u16] 128, .rw, .mgr, .s, 64, [.n 0, .n 0], [some (0, 1), none]⟩,
  /- 24.0031 IMAGE_RING -/ ⟨0x0031, .record [.u16, .u64], .rw, .mgr, .s, 64, [.n 65535, .n 0], [none, none]⟩,
  /- 24.0032 IMAGE_BYTES -/ ⟨0x0032, .one .u32, .ro, .obs, .v, 64, [.n 0], []⟩,
  /- 24.0033 IMAGES_WRITTEN -/ ⟨0x0033, .one .u64, .ro, .obs, .v, 64, [.n 0], []⟩,
  /- 24.0034 IMAGES_MISSED -/ ⟨0x0034, .one .u64, .ro, .obs, .v, 64, [.n 0], []⟩,
  /- 24.0100 CONV_TABLE -/ ⟨0x0100, .tbl [.u8, .u8, .i32] 4096, .ro, .obs, .f, 5, [.n 0, .n 0, .i 0], []⟩,
  /- 24.0101 CONV_INFO -/ ⟨0x0101, .record [.u8, .u8, .u8, .u8, .dur], .ro, .obs, .f, 5, [.n 0, .n 0, .n 0, .n 0, .n 0], []⟩,
  /- 24.0110 CONV_SATURATED -/ ⟨0x0110, .one .u64, .ro, .obs, .v, 2048, [.n 0], []⟩,
  /- 24.0200 COND_COUNTERS_RESET -/ ⟨0x0200, .none, .cmd, .eng, .v, 1, [], []⟩]

/-- The objects of area 24. -/
def dict24 : List Desc := dict24p1 ++ dict24p2

/-- Area 28, part 1. -/
def dict28p1 : List Desc := [
  /- 28.0100 GO_BLOCK -/ ⟨0x0100, .record [.bool, .u8, .u8, (.oct 6), .u16, .u16, .u8, .u32, .bool, .bool, .u8, .dur, .u8, .u32, .u8, .enum8, .u8], .rw, .eng, .s, 512, [.n 0, .n 0, .n 0, .o (zeros 6), .n 0, .n 0, .n 0, .n 0, .n 0, .n 0, .n 0, .n 2000000, .n 2, .n 1000, .n 2, .n 0, .n 0], [none, some (0, 63), some (0, 5), none, none, some (0, 4095), some (0, 7), none, none, none, some (0, 127), some (500000, 100000000), none, none, none, some (0, 2), some (0, 31)]⟩,
  /- 28.0101 GO_STRINGS -/ ⟨0x0101, .record [(.str 129), (.str 129), (.str 129)], .rw, .eng, .s, 512, [.o [], .o [], .o []], []⟩,
  /- 28.0102 GO_LAYOUT -/ ⟨0x0102, .tbl [.u8, .u8] 160, .rw, .eng, .s, 512, [.n 0, .n 0], [some (1, 14), none]⟩,
  /- 28.0103 GO_MEMBER_NAMES -/ ⟨0x0103, .tbl [(.str 64)] 160, .rw, .eng, .s, 512, [.o []], []⟩,
  /- 28.0110 GO_ST_NUM -/ ⟨0x0110, .one .u32, .ro, .obs, .v, 512, [.n 0], []⟩,
  /- 28.0111 GO_SQ_NUM -/ ⟨0x0111, .one .u32, .ro, .obs, .v, 512, [.n 0], []⟩,
  /- 28.0112 GO_FRAMES -/ ⟨0x0112, .one .u64, .ro, .obs, .v, 512, [.n 0], []⟩,
  /- 28.0113 GO_LATE -/ ⟨0x0113, .one .u64, .ro, .obs, .v, 512, [.n 0], []⟩,
  /- 28.0114 GO_KEY_STALE -/ ⟨0x0114, .one .u64, .ro, .obs, .v, 512, [.n 0], []⟩,
  /- 28.0120 GOOSE_RING -/ ⟨0x0120, .one .u16, .rw, .mgr, .s, 64, [.n 65535], []⟩,
  /- 28.0130 GO_COUNTERS_RESET -/ ⟨0x0130, .none, .cmd, .eng, .v, 1, [], []⟩,
  /- 28.0200 OS_STREAM -/ ⟨0x0200, .record [.bool, .u8, (.oct 6), .u16, .u16, .u8, .u32, .u16, .u8, .u8, .bool, .bool, .bool, .bool, .dur, .enum8, .enum8, .u8, .enum8, .u8], .rw, .eng, .s, 128, [.n 0, .n 0, .o (zeros 6), .n 0, .n 0, .n 0, .n 0, .n 0, .n 0, .n 0, .n 0, .n 0, .n 0, .n 0, .n 0, .n 0, .n 0, .n 0, .n 0, .n 0], [none, some (0, 5), none, none, some (0, 4094), some (0, 7), none, none, some (1, 24), none, none, none, none, none, none, some (0, 1), some (0, 1), some (0, 63), some (0, 2), some (0, 31)]⟩,
  /- 28.0201 OS_SVID -/ ⟨0x0201, .one (.str 129), .rw, .eng, .s, 128, [.o []], []⟩,
  /- 28.0202 OS_TERMS -/ ⟨0x0202, .tbl [.u8, .u8, .u16, .u8, .i32] 408, .rw, .eng, .s, 128, [.n 0, .n 0, .n 0, .n 0, .i 0], [some (0, 23), none, none, none, some (-8388608, 8388607)]⟩,
  /- 28.0210 OS_FRAMES -/ ⟨0x0210, .one .u64, .ro, .obs, .v, 128, [.n 0], []⟩,
  /- 28.0211 OS_SATURATED -/ ⟨0x0211, .one .u64, .ro, .obs, .v, 128, [.n 0], []⟩,
  /- 28.0212 OS_LATE -/ ⟨0x0212, .one .u64, .ro, .obs, .v, 128, [.n 0], []⟩,
  /- 28.0213 OS_KEY_STALE -/ ⟨0x0213, .one .u64, .ro, .obs, .v, 128, [.n 0], []⟩,
  /- 28.0220 OS_TERMS_USED -/ ⟨0x0220, .one .u16, .ro, .obs, .v, 1, [.n 0], []⟩,
  /- 28.0230 OS_COUNTERS_RESET -/ ⟨0x0230, .none, .cmd, .eng, .v, 1, [], []⟩]

/-- The objects of area 28. -/
def dict28 : List Desc := dict28p1

/-- Area 29, part 1. -/
def dict29p1 : List Desc := [
  /- 29.0100 GSUB_ENTRY -/ ⟨0x0100, .record [.bool, .u8, (.oct 6), (.oct 6), .u16, .u16, .u32, .bool, .enum8, .u8, .bool, .u8, .u8, .u8, .u16, .bool], .rw, .eng, .s, 4096, [.n 0, .n 0, .o (zeros 6), .o (zeros 6), .n 0, .n 0, .n 0, .n 0, .n 0, .n 0, .n 0, .n 0, .n 0, .n 255, .n 65535, .n 0], [none, some (0, 63), none, none, none, some (0, 4095), none, none, some (0, 2), some (0, 31), none, some (0, 63), some (0, 127), none, none, none]⟩,
  /- 29.0101 GSUB_STRINGS -/ ⟨0x0101, .record [(.str 129), (.str 129), (.str 129)], .rw, .eng, .s, 4096, [.o [], .o [], .o []], []⟩,
  /- 29.0102 GSUB_LAYOUT -/ ⟨0x0102, .tbl [.u8, .u8] 160, .rw, .eng, .s, 4096, [.n 0, .n 0], [some (1, 14), none]⟩,
  /- 29.0110 GSUB_STATE -/ ⟨0x0110, .one .enum8, .ro, .obs, .v, 4096, [.n 0], []⟩,
  /- 29.0111 GSUB_VALUES -/ ⟨0x0111, .one (.oct 1024), .ro, .obs, .v, 4096, [.o []], []⟩,
  /- 29.0112 GSUB_LAST -/ ⟨0x0112, .record [.u32, .u32, .time, .time, .u32], .ro, .obs, .v, 4096, [.n 0, .n 0, .i 0, .i 0, .n 0], []⟩,
  /- 29.0120 GO_CONFIG_MISMATCH -/ ⟨0x0120, .one .u64, .ro, .obs, .v, 4096, [.n 0], []⟩,
  /- 29.0121 GO_CLAIM_BELOW -/ ⟨0x0121, .one .u64, .ro, .obs, .v, 4096, [.n 0], []⟩,
  /- 29.0122 GO_DUPLICATE -/ ⟨0x0122, .one .u64, .ro, .obs, .v, 4096, [.n 0], []⟩,
  /- 29.0123 GO_OUT_OF_ORDER -/ ⟨0x0123, .one .u64, .ro, .obs, .v, 4096, [.n 0], []⟩,
  /- 29.0124 GO_STATE_SKIPPED -/ ⟨0x0124, .one .u64, .ro, .obs, .v, 4096, [.n 0], []⟩,
  /- 29.0125 PUB_RESTART -/ ⟨0x0125, .one .u64, .ro, .obs, .v, 4096, [.n 0], []⟩,
  /- 29.0126 GO_LOST_EVENTS -/ ⟨0x0126, .one .u64, .ro, .obs, .v, 4096, [.n 0], []⟩,
  /- 29.0127 GO_SIM_DISCARD -/ ⟨0x0127, .one .u64, .ro, .obs, .v, 4096, [.n 0], []⟩,
  /- 29.0128 GO_AUTH_FAIL -/ ⟨0x0128, .one .u64, .ro, .obs, .v, 4096, [.n 0], []⟩,
  /- 29.0129 GO_AUTH_KEY_STALE -/ ⟨0x0129, .one .u64, .ro, .obs, .v, 4096, [.n 0], []⟩,
  /- 29.0200 GO_FORMAT_ERROR -/ ⟨0x0200, .one .u64, .ro, .obs, .v, 6, [.n 0], []⟩,
  /- 29.0201 GO_UNMATCHED -/ ⟨0x0201, .one .u64, .ro, .obs, .v, 6, [.n 0], []⟩,
  /- 29.0210 GO_EVENT_RING -/ ⟨0x0210, .record [.u16, .u64], .rw, .mgr, .s, 64, [.n 65535, .n 0], []⟩,
  /- 29.0211 GO_EVENTS_MISSED -/ ⟨0x0211, .one .u64, .ro, .obs, .v, 64, [.n 0], []⟩]

/-- Area 29, part 2. -/
def dict29p2 : List Desc := [
  /- 29.0220 LATCH_VALUE -/ ⟨0x0220, .one .u32, .ro, .obs, .v, 64, [.n 0], []⟩,
  /- 29.0230 GSUB_COUNTERS_RESET -/ ⟨0x0230, .none, .cmd, .eng, .v, 1, [], []⟩]

/-- The objects of area 29. -/
def dict29 : List Desc := dict29p1 ++ dict29p2

end Sys2Proof.Machine
end

