-- ==== Sys2Proof/Machine/DictC.lean ====
section
/-! DEFINITION. The Jalyn object dictionary, areas 30, 31, 34, 38, 40: one descriptor for each row of the chapters' object tables
(address, type, access, role, persistence, instances, default, field limits). -/

namespace Sys2Proof.Machine

/-- Area 30, part 1. -/
def dict30p1 : List Desc := [
  /- 30.0001 POOL_FREE -/ ⟨0x0001, .record [.u32, .u32, .u32, .u32, .u32, .u32, .u32, .u32, .u32, .u32, .u32, .u32, .u32, .u32], .ro, .obs, .v, 1, [.n 0, .n 0, .n 0, .n 0, .n 0, .n 0, .n 0, .n 0, .n 0, .n 0, .n 0, .n 0, .n 0, .n 0], []⟩,
  /- 30.0002 CORE_FAILED -/ ⟨0x0002, .one (.oct 13), .ro, .obs, .v, 1, [.o []], []⟩,
  /- 30.0003 DISABLE_TIMEOUT -/ ⟨0x0003, .one .dur, .rw, .eng, .k, 1, [.n 10000000], [some (1000000, 1000000000)]⟩,
  /- 30.0010 PART_CONFIG -/ ⟨0x0010, .record [.bool, (.oct 13), .u8, .u16, .u8, .u16, .u16, .u16, .u16, .u8, .u16, .u8, .u16, .u16, .u8], .rw, .mgr, .s, 64, [.n 0, .o (zeros 13), .n 0, .n 0, .n 0, .n 0, .n 0, .n 0, .n 0, .n 0, .n 0, .n 0, .n 0, .n 0, .n 0], [none, none, some (1, 64), some (1, 4096), some (0, 64), some (0, 16384), some (0, 256), some (0, 1024), some (0, 512), some (0, 64), some (0, 256), some (1, 64), some (0, 4095), some (0, 256), some (0, 63)]⟩,
  /- 30.0011 PART_REGIONS -/ ⟨0x0011, .tbl [.u64, .u64, .u8, .u8, .u8, .bool] 16, .rw, .mgr, .s, 64, [.n 0, .n 0, .n 0, .n 0, .n 0, .n 0], [none, some (4096, 536870912), some (0, 1), none, some (0, 7), none]⟩,
  /- 30.0012 PART_IMAGE -/ ⟨0x0012, .one (.oct 268435456), .wo, .mgr, .v, 64, [.o []], []⟩,
  /- 30.0013 PART_IMAGE_APPLY -/ ⟨0x0013, .none, .cmd, .mgr, .k, 64, [], []⟩,
  /- 30.0014 START_ORDER -/ ⟨0x0014, .one .u8, .rw, .mgr, .k, 64, [.n 0], []⟩,
  /- 30.0015 AUTOSTART -/ ⟨0x0015, .one .bool, .rw, .mgr, .k, 64, [.n 0], []⟩,
  /- 30.0016 FAULT_ACTION -/ ⟨0x0016, .one .enum8, .rw, .mgr, .k, 64, [.n 0], [some (0, 1)]⟩,
  /- 30.0017 RESTART_DELAY -/ ⟨0x0017, .one .dur, .rw, .mgr, .k, 64, [.n 100000000], [some (10000000, 4000000000)]⟩,
  /- 30.0020 PART_STATE -/ ⟨0x0020, .one .enum8, .ro, .obs, .v, 64, [.n 0], []⟩,
  /- 30.0021 PART_FAULT -/ ⟨0x0021, .record [.u16, .u8, .u32, .time], .ro, .obs, .v, 64, [.n 0, .n 0, .n 0, .i 0], []⟩,
  /- 30.0022 PART_FAULT_COUNT -/ ⟨0x0022, .one .u32, .ro, .obs, .k, 64, [.n 0], []⟩,
  /- 30.0023 PART_RESET_COUNT -/ ⟨0x0023, .one .u32, .ro, .obs, .k, 64, [.n 0], []⟩,
  /- 30.0024 PART_FILL -/ ⟨0x0024, .record [.u16, .u16, .u16], .ro, .obs, .v, 64, [.n 0, .n 0, .n 0], []⟩,
  /- 30.0030 PART_START -/ ⟨0x0030, .none, .cmd, .mgr, .v, 64, [], []⟩,
  /- 30.0031 PART_STOP -/ ⟨0x0031, .none, .cmd, .mgr, .v, 64, [], []⟩,
  /- 30.0032 PART_RESET -/ ⟨0x0032, .none, .cmd, .mgr, .v, 64, [], []⟩,
  /- 30.0040 MIG_FINAL_MAX -/ ⟨0x0040, .one .u32, .rw, .mgr, .k, 1, [.n 2097152], [some (65536, 67108864)]⟩]

/-- Area 30, part 2. -/
def dict30p2 : List Desc := [
  /- 30.0041 MIG_ROUNDS_MAX -/ ⟨0x0041, .one .u8, .rw, .mgr, .k, 1, [.n 16], [some (2, 64)]⟩,
  /- 30.0042 MIG_PB_RATE -/ ⟨0x0042, .one .u32, .rw, .mgr, .k, 1, [.n 2000000], [some (100000, 8000000)]⟩,
  /- 30.0050 MIG_PREPARE -/ ⟨0x0050, .none, .cmd, .mgr, .v, 64, [], []⟩,
  /- 30.0051 MIG_START -/ ⟨0x0051, .record [.u8, (.oct 6), .u8, .bool], .cmd, .mgr, .v, 64, [.n 0, .o (zeros 6), .n 0, .n 0], [some (0, 4), none, some (0, 63), none]⟩,
  /- 30.0052 MIG_STATE -/ ⟨0x0052, .one .enum8, .ro, .obs, .v, 64, [.n 0], []⟩,
  /- 30.0053 MIG_LAST -/ ⟨0x0053, .record [.u64, .u64, .u8, .u64, .u32, .u16], .ro, .obs, .v, 64, [.n 0, .n 0, .n 0, .n 0, .n 0, .n 0], []⟩,
  /- 30.0054 MIG_ABORT -/ ⟨0x0054, .none, .cmd, .mgr, .v, 64, [], []⟩]

/-- The objects of area 30. -/
def dict30 : List Desc := dict30p1 ++ dict30p2

/-- Area 31, part 1. -/
def dict31p1 : List Desc := [
  /- 31.0001 READY_USED -/ ⟨0x0001, .one .u16, .ro, .obs, .v, 1, [.n 0], []⟩,
  /- 31.0002 DISPATCH_LATENCY_MAX -/ ⟨0x0002, .one .dur, .ro, .obs, .v, 1, [.n 0], []⟩,
  /- 31.0003 DISPATCHED -/ ⟨0x0003, .one .u64, .ro, .obs, .v, 1, [.n 0], []⟩,
  /- 31.0004 CANCELLED -/ ⟨0x0004, .one .u64, .ro, .obs, .v, 1, [.n 0], []⟩,
  /- 31.0005 BUDGET_STOPS -/ ⟨0x0005, .one .u64, .ro, .obs, .v, 1, [.n 0], []⟩,
  /- 31.0006 TT_COUNTERS_RESET -/ ⟨0x0006, .none, .cmd, .eng, .v, 1, [], []⟩,
  /- 31.0010 RING_CFG -/ ⟨0x0010, .record [.u8, .enum8, .u8, .u32, .u64, .enum8, .enum8, .bool, .enum8, .u16, .u8, .dur, .u32, .u8], .rw, .mgr, .s, 256, [.n 254, .n 0, .n 0, .n 0, .n 0, .n 0, .n 0, .n 0, .n 0, .n 65535, .n 0, .n 0, .n 0, .n 255], [none, some (0, 4), none, none, none, some (0, 1), some (0, 4), none, some (0, 1), none, none, none, none, none]⟩,
  /- 31.0011 RING_STATE -/ ⟨0x0011, .record [.u32, .u32, .u32, .u32], .ro, .obs, .v, 256, [.n 0, .n 0, .n 0, .n 0], []⟩,
  /- 31.0012 RING_ERRORS -/ ⟨0x0012, .one .u64, .ro, .obs, .v, 256, [.n 0], []⟩,
  /- 31.0013 TRIG_REFUSED -/ ⟨0x0013, .one .u64, .ro, .obs, .v, 256, [.n 0], []⟩,
  /- 31.0020 TT_PART_CFG -/ ⟨0x0020, .record [.u64, .dur, .u64, .u16], .rw, .mgr, .s, 64, [.n 0, .n 0, .n 0, .n 0], [none, some (1000, 9223372036854775807), none, some (16, 4096)]⟩,
  /- 31.0021 HOLD_USED -/ ⟨0x0021, .one .u16, .ro, .obs, .v, 64, [.n 0], []⟩,
  /- 31.0022 COMMIT_REFUSED -/ ⟨0x0022, .one .u64, .ro, .obs, .v, 64, [.n 0], []⟩,
  /- 31.0030 FLOW_STATE -/ ⟨0x0030, .record [.u8, .enum8, .u8, .u16, .u16], .ro, .obs, .v, 16384, [.n 0, .n 0, .n 0, .n 0, .n 0], []⟩,
  /- 31.0040 DMA_IN_FLIGHT -/ ⟨0x0040, .one .u16, .ro, .obs, .v, 1, [.n 0], []⟩,
  /- 31.0041 DMA_ENGINE_STATE -/ ⟨0x0041, .one .bits32, .ro, .obs, .v, 1, [.n 0], []⟩,
  /- 31.0042 DMA_BYTES -/ ⟨0x0042, .one .u64, .ro, .obs, .v, 8, [.n 0], []⟩,
  /- 31.0050 D2D_STATE -/ ⟨0x0050, .record [.u8, .dur, .u64, .u64], .ro, .obs, .v, 6, [.n 0, .n 0, .n 0, .n 0], []⟩]

/-- The objects of area 31. -/
def dict31 : List Desc := dict31p1

/-- Area 34, part 1. -/
def dict34p1 : List Desc := [
  /- 34.0100 PH_CHANNEL -/ ⟨0x0100, .record [.bool, .u8, .u8, .u16, .u16, .u8, .u8, .dur], .rw, .mgr, .s, 1024, [.n 0, .n 0, .n 0, .n 0, .n 0, .n 255, .n 255, .n 20000], [none, some (0, 65), some (0, 65), none, none, none, none, none]⟩,
  /- 34.0101 PH_CHAN_STATE -/ ⟨0x0101, .record [.u8, .u8, .u8, .bool, .bool], .ro, .obs, .v, 1024, [.n 0, .n 0, .n 0, .n 0, .n 0], []⟩,
  /- 34.0102 PH_POSTED -/ ⟨0x0102, .one .u64, .ro, .obs, .v, 1024, [.n 0], []⟩,
  /- 34.0103 PH_FULL -/ ⟨0x0103, .one .u64, .ro, .obs, .v, 1024, [.n 0], []⟩,
  /- 34.0104 PH_ABORTED -/ ⟨0x0104, .one .u64, .ro, .obs, .v, 1024, [.n 0], []⟩,
  /- 34.0105 PH_ORPHANED -/ ⟨0x0105, .one .u64, .ro, .obs, .v, 1024, [.n 0], []⟩,
  /- 34.0106 PH_ACK_TIMEOUTS -/ ⟨0x0106, .one .u64, .ro, .obs, .v, 1024, [.n 0], []⟩,
  /- 34.0110 PH_BELL_ITEM -/ ⟨0x0110, .record [.bool, .u16, .u8, .dur, .u32], .rw, .mgr, .s, 64, [.n 0, .n 65535, .n 0, .n 0, .n 0], []⟩,
  /- 34.0111 BELL_REFUSED -/ ⟨0x0111, .one .u64, .ro, .obs, .v, 64, [.n 0], []⟩,
  /- 34.0120 PH_COUNTERS_RESET -/ ⟨0x0120, .none, .cmd, .eng, .v, 1, [], []⟩]

/-- The objects of area 34. -/
def dict34 : List Desc := dict34p1

/-- Area 38, part 1. -/
def dict38p1 : List Desc := [
  /- 38.0001 LOGIC_AREA_CAP -/ ⟨0x0001, .one .u32, .ro, .obs, .f, 1, [.n 0], []⟩,
  /- 38.0010 LOGIC_CFG -/ ⟨0x0010, .record [.bool, .u64, .u32, .u32, .u32, .u32], .rw, .mgr, .s, 64, [.n 0, .n 0, .n 0, .n 0, .n 0, .n 0], [none, none, none, none, none, some (0, 65536)]⟩,
  /- 38.0011 LOGIC_TASK -/ ⟨0x0011, .record [.bool, .u8, .u8, .dur, .dur, .u8, .dur, .dur, .u32, .u32, .u64, .u64], .rw, .mgr, .s, 64, [.n 0, .n 0, .n 0, .n 0, .n 0, .n 0, .n 0, .n 0, .n 0, .n 0, .n 0, .n 0], [none, some (0, 63), some (0, 3), none, none, none, none, none, none, none, none, none]⟩,
  /- 38.0012 CHANGE_RANGES -/ ⟨0x0012, .tbl [.u32, .u32] 16, .rw, .mgr, .s, 64, [.n 0, .n 0], []⟩,
  /- 38.0013 TASK_INPUTS -/ ⟨0x0013, .tbl [.u8] 64, .rw, .eng, .s, 64, [.n 0], []⟩,
  /- 38.0014 TASK_OUTPUTS -/ ⟨0x0014, .tbl [.u8, .u16] 32, .rw, .eng, .s, 64, [.n 0, .n 0], [some (0, 1), none]⟩,
  /- 38.0015 CYCLE_NUMBER -/ ⟨0x0015, .one .u64, .ro, .obs, .v, 64, [.n 0], []⟩,
  /- 38.0016 CYCLE_OVERRUN -/ ⟨0x0016, .one .u64, .ro, .obs, .v, 64, [.n 0], []⟩,
  /- 38.0017 CYCLE_TIME_MAX -/ ⟨0x0017, .one .dur, .ro, .obs, .v, 64, [.n 0], []⟩,
  /- 38.0020 STATION_CFG -/ ⟨0x0020, .record [.bool, .u8], .rw, .eng, .s, 256, [.n 0, .n 0], [none, some (0, 63)]⟩,
  /- 38.0021 STATION_SUBST -/ ⟨0x0021, .tbl [.u8, .u8, .u64] 128, .rw, .eng, .s, 256, [.n 0, .n 0, .n 0], [some (0, 127), some (0, 1), none]⟩,
  /- 38.0022 STATION_STATE -/ ⟨0x0022, .one .enum8, .ro, .obs, .v, 256, [.n 0], []⟩,
  /- 38.0023 STATION_SUBST_EVENTS -/ ⟨0x0023, .one .u64, .ro, .obs, .v, 256, [.n 0], []⟩,
  /- 38.0030 ONLINE_WRITE -/ ⟨0x0030, .record [.u8, .u32, .u8, .u64], .cmd, .eng, .v, 64, [.n 0, .n 0, .n 0, .n 0], [some (0, 63), none, some (1, 8), none]⟩,
  /- 38.0031 LOGIC_RESTART -/ ⟨0x0031, .record [.enum8, .bool], .cmd, .mgr, .v, 64, [.n 0, .n 0], [some (0, 1), none]⟩,
  /- 38.0032 RETAIN_STATE -/ ⟨0x0032, .one .enum8, .ro, .obs, .k, 64, [.n 0], []⟩,
  /- 38.0040 FORCE_INDICATION -/ ⟨0x0040, .record [.u16, .u32, .time], .ro, .obs, .v, 1, [.n 0, .n 0, .i 0], []⟩,
  /- 38.0041 FORCE_TABLE -/ ⟨0x0041, .tbl [.bool, .u8, .u8, .u16, .u8, .u8, .u64] 1024, .rw, .eng, .k, 1, [.n 0, .n 0, .n 0, .n 0, .n 0, .n 0, .n 0], [none, some (0, 63), some (0, 2), none, none, none, none]⟩,
  /- 38.0042 FORCE_CLEAR_ALL -/ ⟨0x0042, .none, .cmd, .eng, .k, 1, [], []⟩,
  /- 38.0050 LOGIC_COUNTERS_RESET -/ ⟨0x0050, .none, .cmd, .eng, .v, 1, [], []⟩]

/-- The objects of area 38. -/
def dict38 : List Desc := dict38p1

/-- Area 40, part 1. -/
def dict40p1 : List Desc := [
  /- 40.0001 PAIR_ENABLE -/ ⟨0x0001, .one .bool, .rw, .eng, .k, 1, [.n 0], []⟩,
  /- 40.0002 PAIR_ID -/ ⟨0x0002, .one .u32, .rw, .sec, .k, 1, [.n 0], [some (1, 4294967295)]⟩,
  /- 40.0003 PAIR_UNIT -/ ⟨0x0003, .one .enum8, .rws, .eng, .k, 1, [.n 0], [some (0, 1)]⟩,
  /- 40.0004 UNIT_RANK -/ ⟨0x0004, .one .u8, .rw, .sec, .k, 1, [.n 0], [some (1, 255)]⟩,
  /- 40.0005 EQ_DEADLINE -/ ⟨0x0005, .one .dur, .rw, .eng, .s, 1, [.n 30000], [some (10000, 500000)]⟩,
  /- 40.0006 CLAIM_WINDOW -/ ⟨0x0006, .one .dur, .rw, .eng, .s, 1, [.n 12000000], [some (4000000, 100000000)]⟩,
  /- 40.0007 BEACON_MAC -/ ⟨0x0007, .one (.oct 6), .rw, .eng, .s, 1, [.o [0x03, 0x00, 0x5A, 0x4C, 0x00, 0x01]], []⟩,
  /- 40.0008 BEACON_VID -/ ⟨0x0008, .one .u16, .rw, .eng, .s, 1, [.n 0], [some (0, 4094)]⟩,
  /- 40.0009 DOMAIN_PREFERENCE -/ ⟨0x0009, .one .u64, .rw, .eng, .s, 1, [.n 0], []⟩,
  /- 40.000A AUTO_BALANCE -/ ⟨0x000A, .one .bool, .rw, .eng, .s, 1, [.n 0], []⟩,
  /- 40.000B ISOLATION_TIME -/ ⟨0x000B, .one .dur, .rw, .eng, .s, 1, [.n 20000000], [some (5000000, 100000000)]⟩,
  /- 40.000C XCHECK_LIMIT -/ ⟨0x000C, .one .dur, .rw, .eng, .s, 1, [.n 1000], [some (100, 100000)]⟩,
  /- 40.000D IMPORT_METHOD -/ ⟨0x000D, .one .enum8, .rw, .mgr, .s, 1, [.n 0], [some (0, 1)]⟩,
  /- 40.000E CONVERGE_ROWS -/ ⟨0x000E, .one .u32, .rw, .mgr, .s, 1, [.n 4800], [some (100, 1000000)]⟩,
  /- 40.000F DIGEST_WAIT -/ ⟨0x000F, .one .dur, .rw, .eng, .s, 1, [.n 2000000], [some (500000, 50000000)]⟩,
  /- 40.0010 PAIR_STATE -/ ⟨0x0010, .one .enum8, .ro, .obs, .v, 1, [.n 0], []⟩,
  /- 40.0011 DETACH_REASON -/ ⟨0x0011, .one .enum8, .ro, .obs, .v, 1, [.n 0], []⟩,
  /- 40.0012 PAIR_FAIL_REASON -/ ⟨0x0012, .one .enum8, .ro, .obs, .v, 1, [.n 0], []⟩,
  /- 40.0013 SETTLED -/ ⟨0x0013, .record [.u16, .bits32, (.str 16), .u32], .ro, .obs, .v, 1, [.n 0, .n 0, .o [], .n 0], []⟩,
  /- 40.0014 LANE_STATE -/ ⟨0x0014, .one .enum8, .ro, .obs, .v, 2, [.n 0], []⟩]

/-- Area 40, part 2. -/
def dict40p2 : List Desc := [
  /- 40.0015 OWN_REPORT -/ ⟨0x0015, .one (.oct 256), .ro, .obs, .v, 1, [.o []], []⟩,
  /- 40.0016 PARTNER_REPORT -/ ⟨0x0016, .one (.oct 256), .ro, .obs, .v, 1, [.o []], []⟩,
  /- 40.0017 HANDOVER_BLOCK -/ ⟨0x0017, .one .bits32, .rw, .eng, .s, 1, [.n 1023], []⟩,
  /- 40.0020 CLAIM_STATE -/ ⟨0x0020, .record [.u32, .u32, .bool, .bool, .time, .bool], .ro, .obs, .v, 64, [.n 0, .n 0, .n 0, .n 0, .i 0, .n 0], []⟩,
  /- 40.0021 HANDOVER -/ ⟨0x0021, .none, .cmd, .eng, .v, 64, [], []⟩,
  /- 40.0022 HANDOVER_FORCE -/ ⟨0x0022, .one .bool, .rw, .eng, .v, 64, [.n 0], []⟩,
  /- 40.0023 RAISE_COUNT -/ ⟨0x0023, .one .u64, .ro, .obs, .v, 64, [.n 0], []⟩,
  /- 40.0024 STEP_STATE -/ ⟨0x0024, .one .enum8, .ro, .obs, .v, 64, [.n 0], []⟩,
  /- 40.0025 DIGEST_MISMATCH -/ ⟨0x0025, .one .u64, .ro, .obs, .v, 64, [.n 0], []⟩,
  /- 40.0026 DIGEST_LATE -/ ⟨0x0026, .one .u64, .ro, .obs, .v, 64, [.n 0], []⟩,
  /- 40.0030 ROWS_EQUALISED -/ ⟨0x0030, .one .u64, .ro, .obs, .v, 1, [.n 0], []⟩,
  /- 40.0031 ROWS_UNEQUALISED -/ ⟨0x0031, .one .u64, .ro, .obs, .v, 1, [.n 0], []⟩,
  /- 40.0032 SEATS_COPIED_IN -/ ⟨0x0032, .one .u64, .ro, .obs, .v, 1, [.n 0], []⟩,
  /- 40.0033 SEATS_DISPUTED -/ ⟨0x0033, .one .u64, .ro, .obs, .v, 1, [.n 0], []⟩,
  /- 40.0034 EQ_TIME_MAX -/ ⟨0x0034, .one .dur, .ro, .obs, .v, 1, [.n 0], []⟩,
  /- 40.0035 BEACON_INVALID -/ ⟨0x0035, .one .u64, .ro, .obs, .v, 1, [.n 0], []⟩,
  /- 40.0040 BOLPEL_BOARD -/ ⟨0x0040, .record [.bool, .u8, .u32], .rw, .eng, .s, 16, [.n 0, .n 0, .n 0], [none, some (0, 63), none]⟩,
  /- 40.0041 BOLPEL_BOARD_STATE -/ ⟨0x0041, .record [.u32, .u32, .u8, .time], .ro, .obs, .v, 16, [.n 0, .n 0, .n 0, .i 0], []⟩,
  /- 40.0042 BOLPEL_ECHO_FAIL -/ ⟨0x0042, .one .u64, .ro, .obs, .v, 16, [.n 0], []⟩,
  /- 40.0043 BOLPEL_FRAMES -/ ⟨0x0043, .one .u64, .ro, .obs, .v, 1, [.n 0], []⟩]

/-- Area 40, part 3. -/
def dict40p3 : List Desc := [
  /- 40.0050 PAIR_COUNTERS_RESET -/ ⟨0x0050, .none, .cmd, .eng, .v, 1, [], []⟩]

/-- The objects of area 40. -/
def dict40 : List Desc := dict40p1 ++ dict40p2 ++ dict40p3

end Sys2Proof.Machine
end

