-- ==== Sys2Proof/Machine/DictD.lean ====
section
/-! DEFINITION. The Jalyn object dictionary, areas 44, 48, 4C, 50, 58, 5C, 60, 70: one descriptor for each row of the chapters' object tables
(address, type, access, role, persistence, instances, default, field limits). -/

namespace Sys2Proof.Machine

/-- Area 44, part 1. -/
def dict44p1 : List Desc := [
  /- 44.0100 WDT_TIMEOUT -/ ⟨0x0100, .one .dur, .rw, .eng, .k, 1, [.n 50000000], [some (10000000, 500000000)]⟩,
  /- 44.0101 WDT_LAPSE_COUNT -/ ⟨0x0101, .one .u32, .ro, .obs, .k, 1, [.n 0], []⟩,
  /- 44.0001 PF_SECTION_DIGEST -/ ⟨0x0001, .one (.oct 32), .ro, .obs, .k, 1, [.o []], []⟩,
  /- 44.0010 PAUSE_CEILING -/ ⟨0x0010, .one .dur, .rw, .eng, .s, 6, [.n 2000000], [some (100000, 10000000)]⟩,
  /- 44.0020 STEP_BOUND -/ ⟨0x0020, .one .dur, .rw, .sec, .s, 1, [.n 1000000], [some (10000, 4000000000)]⟩,
  /- 44.0021 STEP_CONFIRM -/ ⟨0x0021, .one .i64, .cmd, .sec, .v, 1, [.i 0], []⟩,
  /- 44.0022 STEP_PENDING -/ ⟨0x0022, .one .i64, .ro, .obs, .v, 1, [.i 0], []⟩,
  /- 44.0030 ALLOW_LIST -/ ⟨0x0030, .tbl [.bool, .u8, .u16, (.oct 6), .u16, .u16, .u16] 16, .rw, .eng, .s, 64, [.n 0, .n 0, .n 0, .o (zeros 6), .n 0, .n 0, .n 0], []⟩,
  /- 44.0031 RATE_CAP -/ ⟨0x0031, .record [.u32, .u16], .rw, .eng, .s, 64, [.n 2000, .n 32], [some (1, 1000000), some (1, 4096)]⟩,
  /- 44.0032 BUDGET_CEILING -/ ⟨0x0032, .one .dur, .rw, .mgr, .s, 64, [.n 1000000], [some (1000, 100000000)]⟩,
  /- 44.0033 DENIED_STATE -/ ⟨0x0033, .one .u64, .ro, .obs, .v, 64, [.n 0], []⟩,
  /- 44.0034 DENIED_ALLOW -/ ⟨0x0034, .one .u64, .ro, .obs, .v, 64, [.n 0], []⟩,
  /- 44.0035 DENIED_RATE -/ ⟨0x0035, .one .u64, .ro, .obs, .v, 64, [.n 0], []⟩,
  /- 44.0040 BOARD_CAP -/ ⟨0x0040, .one .u8, .rw, .eng, .s, 16, [.n 4], [some (1, 16)]⟩,
  /- 44.0041 BOARD_DENIED -/ ⟨0x0041, .one .u64, .ro, .obs, .v, 16, [.n 0], []⟩,
  /- 44.0050 SVR_ALLOW_LIST -/ ⟨0x0050, .tbl [.bool, .u8, .u16, (.oct 6), .u16, .u16, .u16] 16, .rw, .eng, .s, 1, [.n 0, .n 0, .n 0, .o (zeros 6), .n 0, .n 0, .n 0], []⟩,
  /- 44.0051 SVR_DENIED -/ ⟨0x0051, .one .u64, .ro, .obs, .v, 1, [.n 0], []⟩,
  /- 44.0060 BOOT_WRITE_REFUSED -/ ⟨0x0060, .one .u64, .ro, .obs, .k, 1, [.n 0], []⟩,
  /- 44.0061 FORCE_NOTICE_MISSED -/ ⟨0x0061, .one .u64, .ro, .obs, .k, 1, [.n 0], []⟩,
  /- 44.0070 PF_COUNTERS_RESET -/ ⟨0x0070, .none, .cmd, .eng, .v, 1, [], []⟩]

/-- The objects of area 44. -/
def dict44 : List Desc := dict44p1

/-- Area 48, part 1. -/
def dict48p1 : List Desc := [
  /- 48.0010 KEY_SLOT_INFO -/ ⟨0x0010, .record [.enum8, .u16, .u8, .u16, .u8, .u8, .u64, .u8, .u32], .ro, .obs, .k, 64, [.n 0, .n 0, .n 0, .n 0, .n 0, .n 0, .n 0, .n 0, .n 0], []⟩,
  /- 48.0011 KEY_WRITE -/ ⟨0x0011, .record [.u8, .u8, .u8, .u8, .u64, .u8, .u8, .u32, (.oct 72)], .cmd, .sec, .v, 1, [.n 0, .n 0, .n 0, .n 0, .n 0, .n 0, .n 0, .n 0, .o (zeros 72)], [some (0, 63), some (0, 3), some (0, 63), some (0, 2), none, some (0, 31), none, none, none]⟩,
  /- 48.0012 KEY_COMMIT -/ ⟨0x0012, .one .u8, .cmd, .sec, .k, 1, [.n 0], [some (0, 63)]⟩,
  /- 48.0013 KEY_DISCARD -/ ⟨0x0013, .none, .cmd, .sec, .v, 1, [], []⟩,
  /- 48.0014 KEY_INVALIDATE -/ ⟨0x0014, .none, .cmd, .sec, .k, 64, [], []⟩,
  /- 48.0015 KEY_ERASE -/ ⟨0x0015, .none, .cmd, .sec, .k, 64, [], []⟩,
  /- 48.0020 TRAFFIC_KEY -/ ⟨0x0020, .record [.bool, .u8, .u8, .u8, .u8, .u32, (.oct 32)], .rw, .sec, .s, 32, [.n 0, .n 0, .n 0, .n 0, .n 0, .n 0, .o (zeros 32)], [none, some (0, 63), some (0, 1), some (0, 31), some (0, 1), none, none]⟩,
  /- 48.0021 TRAFFIC_KEY_STATE -/ ⟨0x0021, .record [.enum8, .u16, .time], .ro, .obs, .v, 32, [.n 0, .n 0, .i 0], []⟩,
  /- 48.0030 ANCHOR -/ ⟨0x0030, .record [.bool, .u8, .u8, (.oct 48)], .rw, .sec, .k, 8, [.n 0, .n 0, .n 0, .o (zeros 48)], [none, some (0, 7), some (0, 2), none]⟩,
  /- 48.0031 IDENTITY_CERT -/ ⟨0x0031, .one (.oct 24576), .ro, .obs, .f, 2, [.o []], []⟩,
  /- 48.0032 ATTEST -/ ⟨0x0032, .one (.oct 64), .cmd, .obs, .v, 1, [.o []], []⟩,
  /- 48.0033 ATTEST_EVIDENCE -/ ⟨0x0033, .one (.oct 40960), .ro, .obs, .v, 1, [.o []], []⟩,
  /- 48.0040 FW_SVN_CONFIRM -/ ⟨0x0040, .none, .cmd, .sec, .k, 1, [], []⟩,
  /- 48.0041 BUNDLE_SVN_MIN -/ ⟨0x0041, .one .u32, .ro, .obs, .k, 1, [.n 0], []⟩,
  /- 48.0042 IMAGE_SVN_MIN -/ ⟨0x0042, .one .u32, .ro, .obs, .k, 64, [.n 0], []⟩,
  /- 48.0043 IMAGE_SVN_CONFIRM -/ ⟨0x0043, .none, .cmd, .sec, .k, 64, [], []⟩,
  /- 48.0050 CLAIM_REARM -/ ⟨0x0050, .none, .cmd, .sec, .k, 64, [], []⟩,
  /- 48.0060 VERIFY_FAIL -/ ⟨0x0060, .one .u64, .ro, .obs, .k, 1, [.n 0], []⟩,
  /- 48.0061 VAULT_QUEUE -/ ⟨0x0061, .record [.u8, .u8, .u8, .u8], .ro, .obs, .v, 1, [.n 0, .n 0, .n 0, .n 0], []⟩]

/-- The objects of area 48. -/
def dict48 : List Desc := dict48p1

/-- Area 4C, part 1. -/
def dict4Cp1 : List Desc := [
  /- 4C.0001 TAMPER_ACTIVE -/ ⟨0x0001, .one .bits32, .ro, .obs, .v, 1, [.n 0], []⟩,
  /- 4C.0002 TAMPER_ENABLE -/ ⟨0x0002, .one .bool, .rw, .sec, .k, 6, [.n 1], []⟩,
  /- 4C.0003 SERVICE_WINDOW -/ ⟨0x0003, .one .u32, .cmd, .sec, .k, 1, [.n 0], []⟩,
  /- 4C.0004 SERVICE_WINDOW_LEFT -/ ⟨0x0004, .one .u32, .ro, .obs, .v, 1, [.n 0], []⟩,
  /- 4C.0010 TAMPER_RECORD -/ ⟨0x0010, .record [.u32, .u64, .u8, .u8, .u8, .u8, .u16, (.oct 14)], .ro, .obs, .k, 32, [.n 0, .n 0, .n 0, .n 0, .n 0, .n 0, .n 0, .o (zeros 14)], []⟩,
  /- 4C.0011 TAMPER_RECORD_COUNT -/ ⟨0x0011, .one .u32, .ro, .obs, .k, 1, [.n 0], []⟩]

/-- The objects of area 4C. -/
def dict4C : List Desc := dict4Cp1

/-- Area 50, part 1. -/
def dict50p1 : List Desc := [
  /- 50.0001 RTC_NOW -/ ⟨0x0001, .record [.u16, .u8, .u8, .u8, .u8, .u8, .u8, .u16], .ro, .obs, .v, 1, [.n 0, .n 0, .n 0, .n 0, .n 0, .n 0, .n 0, .n 0], []⟩,
  /- 50.0002 RTC_SET -/ ⟨0x0002, .record [.u16, .u8, .u8, .u8, .u8, .u8, .u8, .bool], .cmd, .eng, .k, 1, [.n 0, .n 0, .n 0, .n 0, .n 0, .n 0, .n 0, .n 0], [some (2000, 2399), some (1, 12), some (1, 31), some (0, 23), some (0, 59), some (0, 59), some (0, 6), none]⟩,
  /- 50.0003 RTC_STATUS -/ ⟨0x0003, .one .bits32, .ro, .obs, .v, 1, [.n 0], []⟩,
  /- 50.0004 RTC_OSF_CLEAR -/ ⟨0x0004, .none, .cmd, .eng, .k, 1, [], []⟩,
  /- 50.0005 RTC_TRIM -/ ⟨0x0005, .one .i32, .rw, .eng, .k, 1, [.i 0], [some (-2048, 2047)]⟩,
  /- 50.0006 RTC_ALARM -/ ⟨0x0006, .record [.bool, .u16, .u8, .u8, .u8, .u8, .u8], .rw, .eng, .k, 1, [.n 0, .n 2000, .n 1, .n 1, .n 0, .n 0, .n 0], [none, some (2000, 2399), some (1, 12), some (1, 31), some (0, 23), some (0, 59), some (0, 59)]⟩,
  /- 50.0007 RTC_ALARM_ACK -/ ⟨0x0007, .none, .cmd, .opr, .v, 1, [], []⟩,
  /- 50.0010 BACKUP_MODE -/ ⟨0x0010, .one .enum8, .rw, .eng, .k, 1, [.n 0], [some (0, 1)]⟩,
  /- 50.0011 TRICKLE -/ ⟨0x0011, .record [.bool, .enum8, .enum8], .rw, .eng, .k, 1, [.n 0, .n 0, .n 2], [none, some (0, 3), some (0, 2)]⟩,
  /- 50.0012 BACKUP_SWITCH_COUNT -/ ⟨0x0012, .one .u32, .ro, .obs, .k, 1, [.n 0], []⟩,
  /- 50.0020 RTC_DISCIPLINE -/ ⟨0x0020, .one .bool, .rw, .eng, .k, 1, [.n 1], []⟩,
  /- 50.0021 RTC_LAST_DISCIPLINE -/ ⟨0x0021, .record [.time, .i32, .i16, .i16, .bool], .ro, .obs, .v, 1, [.i 0, .i 0, .i 0, .i 0, .n 0], []⟩]

/-- The objects of area 50. -/
def dict50 : List Desc := dict50p1

/-- Area 58, part 1. -/
def dict58p1 : List Desc := [
  /- 58.0001 LOG_NEWEST_SEQ -/ ⟨0x0001, .one .u64, .ro, .obs, .k, 1, [.n 0], []⟩,
  /- 58.0002 LOG_OLDEST_SEQ -/ ⟨0x0002, .one .u64, .ro, .obs, .k, 1, [.n 0], []⟩,
  /- 58.0003 LOG_USED -/ ⟨0x0003, .one .u16, .ro, .obs, .v, 1, [.n 0], []⟩,
  /- 58.0004 LOG_PROTECTED -/ ⟨0x0004, .one .u16, .ro, .obs, .v, 1, [.n 0], []⟩,
  /- 58.0005 LOG_OVERWRITTEN -/ ⟨0x0005, .one .u64, .ro, .obs, .k, 1, [.n 0], []⟩,
  /- 58.0006 LOG_SUPPRESSED -/ ⟨0x0006, .one .u64, .ro, .obs, .k, 1, [.n 0], []⟩,
  /- 58.0007 LOG_INTAKE_LOST -/ ⟨0x0007, .one .u64, .ro, .obs, .k, 1, [.n 0], []⟩,
  /- 58.0008 LOG_TORN -/ ⟨0x0008, .one .u32, .ro, .obs, .k, 1, [.n 0], []⟩,
  /- 58.0010 LOG_RECORDS -/ ⟨0x0010, .tbl [.time, .u32, .u16, .u8, .u8, (.oct 16)] 32768, .ro, .obs, .k, 1, [.i 0, .n 0, .n 0, .n 0, .n 0, .o (zeros 16)], []⟩,
  /- 58.0011 LOG_CLEAR -/ ⟨0x0011, .none, .cmd, .obs, .k, 1, [], []⟩,
  /- 58.0020 LOG_CODE_RATE -/ ⟨0x0020, .record [.u16, .u16], .rw, .eng, .k, 4096, [.n 20, .n 32], [some (1, 10000), some (1, 1024)]⟩,
  /- 58.0021 LOG_CODE_PROTECT -/ ⟨0x0021, .one .bool, .rw, .sec, .k, 4096, [.n 0], []⟩,
  /- 58.0022 LOG_CODE_STATE -/ ⟨0x0022, .record [.u16, .u32], .ro, .obs, .v, 4096, [.n 0, .n 0], []⟩,
  /- 58.0030 LOG_COUNTERS_RESET -/ ⟨0x0030, .none, .cmd, .eng, .v, 1, [], []⟩]

/-- The objects of area 58. -/
def dict58 : List Desc := dict58p1

/-- Area 5C, part 1. -/
def dict5Cp1 : List Desc := [
  /- 5C.0001 CAPTURE_AREA -/ ⟨0x0001, .one .u64, .rw, .eng, .k, 1, [.n 268435456], [some (0, 4294967296)]⟩,
  /- 5C.0002 CAPTURE_AREA_FREE -/ ⟨0x0002, .one .u64, .ro, .obs, .v, 1, [.n 0], []⟩,
  /- 5C.0003 STATION_NAME -/ ⟨0x0003, .one (.str 64), .rw, .eng, .k, 1, [.o []], []⟩,
  /- 5C.0010 CAPTURE_ANALOG -/ ⟨0x0010, .record [.bool, .u8, .u16, .u8, (.str 32), (.str 8), .f64, .f64, .f32, .f32], .rw, .eng, .s, 512, [.n 0, .n 0, .n 0, .n 0, .o [], .o [], .n 0, .n 0, .n 0, .n 0], [none, some (0, 1), none, none, none, none, none, none, none, none]⟩,
  /- 5C.0011 CAPTURE_BINARY -/ ⟨0x0011, .record [.bool, .u8, .u16, .u8, .u8, (.str 32), .u8], .rw, .eng, .s, 256, [.n 0, .n 0, .n 0, .n 0, .n 0, .o [], .n 0], [none, some (0, 2), none, some (0, 127), some (0, 63), none, some (0, 1)]⟩,
  /- 5C.0020 RECORDER -/ ⟨0x0020, .record [.bool, .enum8, .u8, .u8, .u64, .u32, .u32, .u32, .bool, .enum8, .enum8, .u16, .u32, .u8, .bool, .bool], .rw, .eng, .s, 16, [.n 0, .n 0, .n 0, .n 0, .n 0, .n 0, .n 0, .n 0, .n 0, .n 0, .n 0, .n 0, .n 0, .n 0, .n 0, .n 0], [none, some (0, 1), some (1, 48), some (0, 16), none, none, none, none, none, some (0, 1), some (0, 2), none, some (16, 4800000), some (0, 8), none, none]⟩,
  /- 5C.0021 RECORDER_ANALOG -/ ⟨0x0021, .tbl [.u16] 128, .rw, .eng, .s, 16, [.n 0], [some (0, 511)]⟩,
  /- 5C.0022 RECORDER_BINARY -/ ⟨0x0022, .tbl [.u8] 256, .rw, .eng, .s, 16, [.n 0], []⟩,
  /- 5C.0023 TRIGGER -/ ⟨0x0023, .record [(.oct 32), (.oct 32)], .rw, .eng, .s, 16, [.o (zeros 32), .o (zeros 32)], []⟩,
  /- 5C.0024 RECORDER_STATE -/ ⟨0x0024, .record [.enum8, .u16, .u32], .ro, .obs, .v, 16, [.n 0, .n 0, .n 0], []⟩,
  /- 5C.0025 CAPTURE_TRIGGER -/ ⟨0x0025, .none, .cmd, .opr, .v, 16, [], []⟩,
  /- 5C.0030 RECORD_LIST -/ ⟨0x0030, .tbl [.u32, .u64, .u64, .u32, .u16, .time] 65536, .ro, .obs, .v, 16, [.n 0, .n 0, .n 0, .n 0, .n 0, .i 0], []⟩,
  /- 5C.0031 RECORD_PROTECT -/ ⟨0x0031, .one .u32, .cmd, .eng, .v, 16, [.n 0], []⟩,
  /- 5C.0032 RECORD_RELEASE -/ ⟨0x0032, .one .u32, .cmd, .eng, .v, 16, [.n 0], []⟩,
  /- 5C.0040 CAPTURE_EXPORT -/ ⟨0x0040, .record [.u8, .u32, .time, .time], .cmd, .eng, .v, 1, [.n 0, .n 0, .i 0, .i 0], []⟩,
  /- 5C.0041 EXPORT_FILE -/ ⟨0x0041, .one (.oct 268435456), .ro, .obs, .v, 3, [.o []], []⟩,
  /- 5C.0050 TRIGGERS_IGNORED -/ ⟨0x0050, .one .u64, .ro, .obs, .v, 16, [.n 0], []⟩,
  /- 5C.0051 TRIGGERS_LOST -/ ⟨0x0051, .one .u64, .ro, .obs, .v, 16, [.n 0], []⟩,
  /- 5C.0052 CAPTURE_OVERFLOWS -/ ⟨0x0052, .one .u64, .ro, .obs, .v, 16, [.n 0], []⟩,
  /- 5C.0053 TREND_HALVINGS -/ ⟨0x0053, .one .u64, .ro, .obs, .v, 16, [.n 0], []⟩]

/-- Area 5C, part 2. -/
def dict5Cp2 : List Desc := [
  /- 5C.0054 PICKUP_LATE -/ ⟨0x0054, .one .u64, .ro, .obs, .v, 1, [.n 0], []⟩,
  /- 5C.0060 CAPTURE_COUNTERS_RESET -/ ⟨0x0060, .none, .cmd, .eng, .v, 1, [], []⟩]

/-- The objects of area 5C. -/
def dict5C : List Desc := dict5Cp1 ++ dict5Cp2

/-- Area 60, part 1. -/
def dict60p1 : List Desc := [
  /- 60.0200 PATH_CLOSE_DISPATCH_MAX -/ ⟨0x0200, .one .dur, .ro, .obs, .v, 1, [.n 0], []⟩,
  /- 60.0201 PATH_COMMIT_WIRE_MAX -/ ⟨0x0201, .one .dur, .ro, .obs, .v, 1, [.n 0], []⟩,
  /- 60.0202 PATH_BUDGET_EXCEED -/ ⟨0x0202, .one .u64, .ro, .obs, .v, 1, [.n 0], []⟩,
  /- 60.0203 PATH_STAGE_LAST -/ ⟨0x0203, .one .u8, .ro, .obs, .v, 1, [.n 0], []⟩,
  /- 60.0204 PATH_RESET -/ ⟨0x0204, .none, .cmd, .eng, .v, 1, [], []⟩,
  /- 60.0100 SUPPLY_MAIN -/ ⟨0x0100, .one .u16, .ro, .obs, .v, 1, [.n 0], []⟩,
  /- 60.0101 SUPPLY_BACKUP -/ ⟨0x0101, .one .u16, .ro, .obs, .v, 1, [.n 0], []⟩,
  /- 60.0102 HOLDUP_STATE -/ ⟨0x0102, .one .enum8, .ro, .obs, .v, 1, [.n 0], []⟩,
  /- 60.0103 POWER_FAIL_COUNT -/ ⟨0x0103, .one .u32, .ro, .obs, .k, 1, [.n 0], []⟩,
  /- 60.0104 TEMP_COLD_WALL -/ ⟨0x0104, .one .i32, .ro, .obs, .v, 1, [.i 0], []⟩,
  /- 60.0105 TEMP_DIE -/ ⟨0x0105, .one .i32, .ro, .obs, .v, 8, [.i 0], []⟩,
  /- 60.0110 CAGE_POWER -/ ⟨0x0110, .one .u16, .ro, .obs, .v, 8, [.n 0], []⟩,
  /- 60.0111 CAGE_STATE -/ ⟨0x0111, .one .enum8, .ro, .obs, .v, 8, [.n 0], []⟩,
  /- 60.0112 CAGE_RESTORE -/ ⟨0x0112, .none, .cmd, .eng, .v, 8, [], []⟩,
  /- 60.0120 PPS_IN_MODE -/ ⟨0x0120, .one .enum8, .rw, .eng, .k, 1, [.n 0], [some (0, 1)]⟩,
  /- 60.0121 PPS_IN_FILTER -/ ⟨0x0121, .one .u16, .rw, .eng, .k, 1, [.n 100], [some (0, 1000)]⟩,
  /- 60.0122 IRIG_IN_MODE -/ ⟨0x0122, .one .enum8, .rw, .eng, .k, 1, [.n 0], [some (0, 1)]⟩,
  /- 60.0123 IRIG_IN_FILTER -/ ⟨0x0123, .one .u16, .rw, .eng, .k, 1, [.n 1000], [some (0, 1000)]⟩,
  /- 60.0124 INPUT_GLITCH_COUNT -/ ⟨0x0124, .one .u32, .ro, .obs, .v, 2, [.n 0], []⟩,
  /- 60.0130 BOLPEL_ROUTE -/ ⟨0x0130, .one .enum8, .rws, .eng, .k, 1, [.n 0], [some (0, 1)]⟩]

/-- Area 60, part 2. -/
def dict60p2 : List Desc := [
  /- 60.0131 BOLPEL_TERM -/ ⟨0x0131, .one .bool, .rws, .eng, .k, 1, [.n 1], []⟩,
  /- 60.0140 LAMP_TEST -/ ⟨0x0140, .none, .cmd, .opr, .v, 1, [], []⟩,
  /- 60.0141 LAMP_STATE -/ ⟨0x0141, .record [.u8, .u8, .u8, .u8, .u8, .u8, .u8, .u8, .u8], .ro, .obs, .v, 1, [.n 0, .n 0, .n 0, .n 0, .n 0, .n 0, .n 0, .n 0, .n 0], []⟩,
  /- 60.0150 GEO_ADDR -/ ⟨0x0150, .one .u8, .ro, .obs, .v, 1, [.n 0], []⟩,
  /- 60.0151 UNIT_STRAP -/ ⟨0x0151, .one .enum8, .ro, .obs, .v, 1, [.n 0], []⟩,
  /- 60.0160 OSC_STATE -/ ⟨0x0160, .one .enum8, .ro, .obs, .v, 1, [.n 0], []⟩]

/-- The objects of area 60. -/
def dict60 : List Desc := dict60p1 ++ dict60p2

/-- Area 70, part 1. -/
def dict70p1 : List Desc := [
  /- 70.0010 DUMP_SLOT_STATE -/ ⟨0x0010, .one .enum8, .ro, .obs, .k, 5, [.n 0], []⟩,
  /- 70.0011 DUMP_SLOT_TIME -/ ⟨0x0011, .one .time, .ro, .obs, .k, 5, [.i 0], []⟩,
  /- 70.0012 DUMP_SLOT_CAUSE -/ ⟨0x0012, .one .u16, .ro, .obs, .k, 5, [.n 0], []⟩,
  /- 70.0013 DUMP_SLOT_LENGTH -/ ⟨0x0013, .one .u64, .ro, .obs, .k, 5, [.n 0], []⟩,
  /- 70.0014 DUMP_DATA -/ ⟨0x0014, .one (.oct 4294967295), .ro, .eng, .k, 5, [.o []], []⟩,
  /- 70.0015 DUMP_PROTECT -/ ⟨0x0015, .none, .cmd, .eng, .k, 5, [], []⟩,
  /- 70.0016 DUMP_RELEASE -/ ⟨0x0016, .none, .cmd, .eng, .k, 5, [], []⟩,
  /- 70.0020 FATAL_CAUSE_LAST -/ ⟨0x0020, .one .u16, .ro, .obs, .k, 1, [.n 0], []⟩]

/-- The objects of area 70. -/
def dict70 : List Desc := dict70p1

end Sys2Proof.Machine
end

