-- ==== Sys2Proof/Machine/StBase.lean ====
section
/-! DEFINITION. The parts of the state of chapters 00 to 04, 17 and the logbook of chapter 18: identity, supply and front panel,
start-up and life cycle, the Jalyn sessions and stage set, the RTC, the logbook. Each field's default is its reset value. -/

namespace Sys2Proof.Machine

/-- Factory identity and fused capacities (R2 to R4); F objects of area 00. -/
structure Identity where
  variant : Nat := 8
  optP : Bool := true
  optC : Bool := true
  optM : Bool := true
  optV : Bool := true
  optO : Bool := true
  serial : List Byte := []
  romRsa : List Byte := Config.romKey 0   -- SHA-384 hashes of the firmware-signing keys in the boot ROM (chapter 16)
  romSlh : List Byte := Config.romKey 1
  macBase : Nat := 0x02005A000000
  calRx : Tab Int := []                   -- factory calibration of a port at a speed (port * 65536 + speed), in ns, on receipt (R220)
  calTx : Tab Int := []                   -- on transmission
  deriving DecidableEq, Repr

/-- A statistics counter with its sticky SAT bit (R30). -/
structure Ctr where
  v : Nat := 0
  sat : Bool := false
  deriving DecidableEq, Repr

/-- Roll-call states (chapter 03, Roll call). -/
inductive USt where
  | off | starting | ready | degraded | fault | absent
  deriving DecidableEq, Repr

/-- A unit's roll-call entry: state, TAI of its last change, and whether a disable is draining it (R86, R90). -/
structure Roll where
  st : USt := .off
  since : Int := 0
  draining : Bool := false
  drainDue : Option Nat := none           -- when what is left is fenced (R342)
  deriving DecidableEq, Repr

/-- One transceiver cage (R38 to R40): MOD_ABS, power, the tripped fuse and the instant it is to be powered. -/
structure Cage where
  present : Bool := false
  powered : Bool := false
  tripped : Bool := false
  onDue : Option Nat := none
  deriving DecidableEq, Repr

/-- Supply, hold-up store, inputs, lamps and straps (chapter 02). -/
structure Hw where
  seated : Bool := true
  vinGood : Bool := false
  hubDue : Option Nat := none
  pf : Bool := false
  pfAt : Nat := 0
  rideDue : Option Nat := none
  pfSeq : Option Nat := none              -- end of the power-fail sequence under way (R101)
  holdup : Nat := 0
  cages : Tab Cage := []
  lampEnd : Option Nat := none
  geo : Nat := 0
  strapB : Bool := false
  osc : Nat := 0
  loopOpen : Bool := false
  enclOpen : Bool := false
  temps : Tab Int := []                   -- junction temperatures reported, in m°C
  deriving DecidableEq, Repr

/-- Where the hub stands between reset and running firmware (R76 to R82, R93, R102, R107). -/
inductive Phase where
  | reset       -- held in reset
  | rom         -- boot ROM reading a firmware slot
  | verify      -- the vault verifying that slot
  | run         -- platform firmware started
  | recovery    -- boot recovery
  | gateway     -- QUARANTINE or DECOMMISSIONED: ROM-resident gateway only
  | dump        -- frozen after a fatal error, dump being written
  | halt        -- halted after a fatal error
  deriving DecidableEq, Repr

/-- A firmware slot (01.0023): 0 EMPTY, 1 VALID, 2 INVALID. -/
structure FwSlot where
  st : Nat := 0
  active : Bool := false
  svn : Nat := 0
  digest : List Byte := []
  deriving DecidableEq, Repr

/-- One control-core pair's watchdog service (R96): the last service and the period running since. -/
structure WdtPair where
  last : Option Nat := none
  deriving DecidableEq, Repr

/-- A dump slot (area 70, R105): 0 EMPTY, 1 VALID, 2 PROTECTED, 3 INCOMPLETE, and the header fields of its dump. -/
structure Dump where
  st : Nat := 0
  cause : Nat := 0
  writer : Nat := 0
  time : Int := 0
  quality : Nat := 0
  lifecycle : Nat := 0
  svn : Nat := 0
  boots : Nat := 0
  length : Nat := 0
  deriving DecidableEq, Repr

/-- Start-up, life cycle, watchdog and fatal error (chapter 03). -/
structure Boot where
  phase : Phase := .reset
  slotTry : Nat := 0
  triedOther : Bool := false
  bootSlot : Nat := 0
  runFcl : Nat := 0                       -- FCL and FCL_MIN of the firmware image that runs (R432)
  runFclMin : Nat := 0
  slots : Tab FwSlot := []
  fwBuf : List Byte := []
  fwApply : Option (Nat × Nat × Nat) := none    -- slot, session, REQ_ID
  svnMin : Nat := 0
  runSvn : Nat := 0
  roll : Tab Roll := []
  fuseProv : Bool := true
  fuseComm : Bool := false
  fuseDecom : Bool := false
  qLatch : Bool := false
  wdtBoot : Option Nat := none
  wdtPeriod : Nat := 50000000
  wdt0 : WdtPair := {}
  wdt1 : WdtPair := {}
  wdtFrom : Nat := 0                      -- local time of the firmware's first service
  partsUp : Bool := false                 -- the kept partitions have been started (R84)
  lapsed : Bool := false
  cause : Nat := 0
  resetCause : Nat := 0
  fatalRestarts : List Nat := []
  dumps : Tab Dump := []
  dumpNow : Option Nat := none
  d2dFailed : List (Nat × Nat) := []
  pathClose : Nat := 0
  pathWire : Nat := 0
  pathStage : Nat := 0
  deriving DecidableEq, Repr

/-- One entry of a response: status, type code, VFLAGS, value octets (R141). -/
structure RespE where
  status : Nat
  typ : Nat := 0
  vflags : Nat := 0
  bytes : List Byte := []
  deriving DecidableEq, Repr

/-- A stored response (R153). -/
structure Resp where
  seq : Nat
  reqId : Nat
  op : Nat
  mstatus : Nat := 0
  aux : List Nat := []
  entries : List RespE := []
  wait : List Nat := []                   -- entries not answered yet; the response leaves when none is left
  msgSeq : Nat := 0                       -- the SEQ of the message it left in
  sent : Bool := false
  deriving DecidableEq, Repr

/-- A notification (R158): kind 0 VALUE, 1 EXEC_DONE, 2 NOTIFY_LOST, 3 SESSION. -/
structure Notif where
  kind : Nat
  seq : Nat
  reqId : Nat := 0
  addr : Addr := ⟨0, 0, 0⟩
  status : Nat := 0
  time : Int := 0
  typ : Nat := 0
  vflags : Nat := 0
  bytes : List Byte := []
  reason : Nat := 0
  lost : Nat := 0
  firstTime : Int := 0
  lastTime : Int := 0
  deriving DecidableEq, Repr

/-- A subscription (R155 to R157): 0 ON_CHANGE, 1 PERIODIC. -/
structure Sub where
  addr : Addr
  mode : Nat
  minNs : Nat
  periodNs : Nat
  deadband : Nat              -- the F64's bits
  seen : List Byte := []      -- the value last compared
  held : Option Nat := none   -- end of the MIN_INTERVAL after the last notification
  merged : Bool := false      -- a change waits for that end
  due : Option Nat := none
  deriving DecidableEq, Repr

/-- A message sent and not yet acknowledged (R152), with its octets (R140); one that waits for the window has gap 0. -/
structure Unacked where
  seq : Nat
  tries : Nat
  gap : Nat
  due : Nat
  bytes : List Byte := []
  deriving DecidableEq, Repr

/-- What a request asks (R141). -/
inductive ReqBody where
  | read (staged : Bool) (addrs : List Addr)
  | write (es : List WEntry)
  | exec (e : WEntry)
  | cmd (ob sub : Nat) (arg : Val)
  | tableRead (addr : Addr) (first rows : Nat)
  | tableWrite (addr : Addr) (first : Nat) (rows : List (List Byte))
  | bulk (addr : Addr) (isWrite : Bool) (offset count : Nat) (data : List Byte)
  | subscribe (addr : Addr) (mode minInterval period deadband : Nat)
  | hello (role : Nat)
  deriving DecidableEq, Repr

/-- A request held until its turn comes (R147, R151). -/
structure HeldReq where
  rq : Req
  body : ReqBody
  deriving DecidableEq, Repr

/-- The rows of a TABLE_WRITE that wait for the partner's answer to the row before them (R144). -/
structure RowsLeft where
  rq : Req
  addr : Addr
  first : Nat
  idx : Nat
  rows : List (List Byte)
  deriving DecidableEq, Repr

/-- The entries of a READ or WRITE that are still to be handled, from entry idx on (R142, R147). -/
structure RestReq where
  rq : Req
  body : ReqBody
  idx : Nat
  deriving DecidableEq, Repr

/-- An open Jalyn session. -/
structure Sess where
  role : Role
  part : Nat := 0xFF
  port : Nat := 0
  version : Nat := 0x11
  suite : Nat := 0x1302
  name : List Byte := []
  since : Int := 0
  idleNs : Nat := 0
  lastRx : Nat := 0
  rxSeq : Nat := 1
  rxHeld : List Nat := []
  txSeq : Nat := 1
  unacked : List Unacked := []
  ackDue : Option Nat := none
  reqSeq : Nat := 1
  held : List HeldReq := []               -- received and not yet handled, by rising SEQ
  left : Option RowsLeft := none
  rest : Option RestReq := none
  out : List (List Byte) := []            -- messages handed to transmission, oldest first
  resps : List Resp := []
  subs : Tab Sub := []
  nextSub : Nat := 0
  nq : List Notif := []
  lost : Nat := 0
  lostFirst : Int := 0
  lostLast : Int := 0
  noticed : Bool := false
  closeDue : Option Nat := none
  execs : List (Nat × Addr) := []         -- pending commands: REQ_ID and object
  doneQ : List (Nat × Addr × Nat × List Byte) := []   -- ended ones whose EXEC_DONE is still to be sent: with status and result
  bulk : List Addr := []                  -- the objects whose partial BULK content the session writes
  deriving DecidableEq, Repr

/-- A DTLS association (R136, R148). -/
structure Assoc where
  port : Nat
  suite : Nat
  cert : Cert
  ready : Bool := false
  sess : Option Nat := none               -- the session its HELLO opened
  group384 : Bool := true                 -- the key-exchange group: secp384r1, or secp256r1 (R135)
  txSeq : Nat := 1                        -- the SEQ of the module's next message before HELLO
  unacked : List Unacked := []            -- its messages before HELLO that are not acknowledged (R152)
  deriving DecidableEq, Repr

/-- A request on its way to a partition through the gateway (R162, R163). -/
structure GwReq where
  sess : Nat
  seq : Nat
  idx : Nat
  role : Nat
  op : Nat                    -- 1 READ, 2 WRITE, 3 EXEC
  addr : Addr
  typ : Nat
  bytes : List Byte
  due : Option Nat := none
  posted : Bool := false                  -- its message has entered the channel
  deriving DecidableEq, Repr

/-- Sessions, stage set, bundle, gateway and relay (chapter 04). -/
structure Jal where
  sess : Tab Sess := []
  assocs : Tab Assoc := []
  gwLate : List (Nat × GwReq) := []       -- by partition: requests whose time has passed and whose replies are to be discarded (R163)
  nextAssoc : Nat := 0
  stage : List (Nat × Val) := []          -- in the order staged
  holder : Option Nat := none
  commitRow : Option Nat := none
  commitMid : Option Nat := none
  commitSet : List (Nat × Val) := []      -- the values that take effect at the commit row
  commitOwn : Bool := true                -- the commit is this unit's, not the partner's
  lastCommitRow : Nat := 0
  heldParts : List Nat := []              -- partitions kept STOPPED, FAULT or NONE until the commit row (R328)
  bundle : List Byte := []
  bundleRq : Option (Nat × Nat) := none   -- session, REQ_ID of a pending BUNDLE_APPLY
  zeroRqs : List (Nat × Nat × Nat) := []  -- session, SEQ and row of commits that answer when a removal is overwritten (R329)
  commitRq : Option (Nat × Nat) := none   -- session, SEQ of the STAGE_COMMIT to be answered
  gw : Tab (List GwReq) := []
  lostCtr : Tab Ctr := []                 -- NOTIFY_LOST_COUNT of each session number
  relayBack : List (List Byte) := []      -- the partner's datagrams returned from the relay port, oldest first
  orphans : List (Nat × Nat × Addr) := [] -- commands still running whose session has closed: session, REQ_ID, object (R146)
  out : List (Nat × List Byte) := []      -- messages handed to transmission outside an open session: port, octets
  deriving DecidableEq, Repr

/-- A calendar date and time (R519). -/
structure Cal where
  year : Nat := 2000
  month : Nat := 1
  day : Nat := 1
  hour : Nat := 0
  min : Nat := 0
  sec : Nat := 0
  wday : Nat := 0
  deriving DecidableEq, Repr

/-- The RTC and the vault's supply (chapter 17). -/
structure Rtc where
  cal : Cal := {}
  secBase : Nat := 0                      -- local time at which the present second began
  latch : Option (Cal × Nat) := none      -- latched calendar and PRESCALE
  latchDue : Nat := 0
  latchRead : List Nat := []
  stTime : Word := 0
  stDate : Word := 0x07D00101
  staged : Option Cal := none
  trim : Int := 0
  trimNext : Int := 0
  trimBase : Nat := 0
  trimSecs : Nat := 0                     -- seconds of the present trim window that have ended
  alTime : Word := 0
  alDate : Word := 0x07D00101
  alarm : Option Cal := none              -- the armed alarm
  fired : Bool := false
  skipped : Bool := false
  onBackup : Bool := false
  oscRun : Bool := true
  stopped : Option Nat := none            -- PRESCALE held while the crystal is stopped
  lockAt : Nat := 0                       -- local time of the last lockout
  osf : Bool := true
  lockout : Bool := true
  vbak : Bool := false                    -- running from VBAK
  vbakSince : Nat := 0
  pendFire : Option Cal := none           -- firing on backup supply, to be logged at the hub start
  pendOsf : Bool := true                  -- a setting of OSF (at first the power-up's), to be logged at the hub start
  pendSwitch : Option Nat := none
  lastDisc : Option (Nat × Int × Int × Int × Int × Bool) := none  -- local time, TIME, ERROR, TRIM_BEFORE, TRIM_AFTER, ALIGNED
  discLeft : Int := 0                     -- error the last discipline left
  engWrite : Bool := false                -- an ENG write of time or TRIM since that discipline
  deriving DecidableEq, Repr

/-- A record offered to the intake and not yet judged (R536). -/
structure LogOffer where
  code : Nat
  src : Nat
  data : List Int
  deriving DecidableEq, Repr

/-- A logbook record (R533). -/
structure LogRec where
  num : Nat                               -- LOG_SEQ; the record's SEQ is its low 32 bits
  time : Int
  code : Nat
  src : Nat
  prot : Bool
  rtcTime : Bool
  rtcOsf : Bool
  data : List Int
  deriving DecidableEq, Repr

/-- A code's token bucket and suppressed count (R543, R544). -/
structure LogCode where
  tokens : Nat
  next : Option Nat := none               -- when the next token returns
  supp : Nat := 0
  suppSrc : Nat := 0
  suppFirst : Int := 0
  deriving DecidableEq, Repr

/-- The logbook (chapter 18). -/
structure Logb where
  offered : List LogOffer := []
  offerAt : List Nat := []                -- local time at which each was offered
  nextAt : Nat := 0                       -- local time from which the intake takes the next (R536)
  recs : List LogRec := []                -- oldest first
  mirror : List LogRec := []
  intake : List Nat := []                 -- numbers taken in and not yet mirrored
  seq : Nat := 0                          -- LOG_SEQ of the newest record
  codes : Tab LogCode := []
  deriving DecidableEq, Repr

end Sys2Proof.Machine
end

