-- ==== Sys2Proof/Machine/StPath.lean ====
section
/-! DEFINITION. The parts of the state of chapters 05 to 09: ports and frame handling, the time unit, the sampled-value ingest and
seating plan, conditioning, and publishing. Each field's default is its reset value. -/

namespace Sys2Proof.Machine

/-! ## Time unit (chapter 06) -/

/-- A foreign master of a port: what it last announced and when, and whether it is qualified. -/
structure Foreign where
  ann : Announce
  last : Nat
  qual : Bool := false
  deriving DecidableEq, Repr

/-- A PTP port (18.0031, R216): portState, Pdelay_Req answered, consecutive misses, peer delay, retry instant. -/
structure PtpPort where
  st : Nat := 1
  waiting : Bool := false
  missed : Nat := 0
  delay : Nat := 0
  retry : Option Nat := none
  lastAnn : Option Nat := none
  silent : Bool := false                  -- its announce receipt has timed out
  foreign : List Foreign := []            -- the masters heard on it
  t1 : Option Int := none                 -- transmit stamp of its last Pdelay_Req
  t4 : Option Int := none                 -- receive stamp of a two-step Pdelay_Resp
  sync : Option Int := none               -- receive stamp of a two-step Sync less its correction and the asymmetry
  fwdRes : Tab Int := []                  -- what a source's last two-step Sync forwarded on it adds to its Follow_Up (R218)
  syncDue : Nat := 0                      -- local time of the next Sync, Announce and Pdelay_Req
  annDue : Nat := 0
  reqDue : Nat := 0
  deriving DecidableEq, Repr

/-- The time counter, its steering and the timing inputs (R201 to R234). -/
structure Tm where
  run : Bool := false
  sec : Nat := 0
  ns : Nat := 0
  frac : Nat := 0
  incr : Nat := 0x200000000
  incrAns : Nat := 0                      -- what the last write of the increment answered (R202)
  slew : Int := 0                         -- what a slew has still to add, in 2^-32 ns
  slewing : Bool := false
  quality : Nat := 2
  source : Nat := 0
  offset : Int := 0
  lockRun : Nat := 0
  unlockRun : Nat := 0
  holdSince : Int := 0
  holdAt : Nat := 0                       -- local time at which the holdover began
  everLocked : Bool := false
  freeSince : Bool := true                -- FREE_RUN without interruption since the unit started (R212)
  first : Bool := true                    -- the next measurement is a parent's or source's first (R209)
  held : Bool := false
  heldAmt : Int := 0
  heldCmd : Bool := false
  lastStep : Int := 0
  lastMeas : Nat := 0
  measSec : Option Int := none            -- the second of PPS_IRIG last measured (R232)
  utcValid : Bool := false
  leap : Nat := 0
  leapAt : Int := 0
  leapWas : Option (Int × Nat) := none    -- TAI at which the last leap second took effect, and its sign as in `leap`
  parent : Option (Nat × Announce) := none
  ports : Tab PtpPort := []
  irigSt : Nat := 0
  irigCode : Nat := 0
  irigGood : Nat := 0
  irigBad : Nat := 0
  irigLast : Int := 0                     -- UTC second of the last decoded frame
  irigAt : Nat := 0                       -- local time of its on-time edge
  synch : Nat := 1                        -- SmpSynch as before the holdover (R234)
  irigTq : Nat := 15
  ppsSt : Nat := 0
  ppsOff : Int := 0
  ppsRun : Nat := 0
  ppsLast : Option Int := none
  ppsSeen : Nat := 0
  ppsOut : Bool := false
  ppsFall : Int := 0
  ppsRise : Nat := 0
  deriving DecidableEq, Repr

/-! ## Ports (chapter 05) -/

/-- A claim beacon as it is sent (R455): addressed to BEACON_MAC with EtherType 0x88B5, under BEACON_VID's tag when that is not 0. -/
structure BcnFrame where
  dst : Nat
  vid : Nat
  etype : Nat := 0x88B5
  b : Beacon
  bytes : List Byte                       -- its payload
  deriving DecidableEq, Repr

/-- What a queued frame is. -/
inductive TxWhat where
  | ring (f : OutFrame)
  | goose (block st sq tal : Nat) (t : Int) (tq claim : Nat) (slots : List Nat)
  | sv (stream : Nat) (samples : List (Nat × Nat × List Int × List Nat)) (gm : Option (List Byte)) -- SmpCnt, SmpSynch, values, quality
  | ptp (kind dst domain : Nat) (time : Int) (a : Option Announce) -- 0 Sync, 1 Announce, 2 Pdelay_Req, 3 Pdelay_Resp, 4 Follow_Up, 5 Pdelay_Resp_Follow_Up
  | beacon (f : BcnFrame)
  | supervision (version tlv : Nat)        -- IEC 62439-3's version and TLV type: 20 in PRP, 23 in HSR
  | forward (f : Frame) (rx : Int)
  | jalyn (bytes : List Byte)              -- a Jalyn message of the platform, in its DTLS record and UDP datagram
  | mig (dst : Nat) (m : Option MigMsg)   -- unicast to a migration's peer; a message's last frame completes it
  | answer (etype target : Nat)
  deriving DecidableEq, Repr

/-- A frame queued on, held at or leaving one port. -/
structure TxFrame where
  job : Nat
  lanB : Bool := false
  cls : Nat
  len : Nat
  launch : Option Int := none
  dropLate : Bool := false
  late : Bool := false
  seqNr : Option Nat := none
  ts : Bool := false
  took : Option Nat := none               -- a partition's commit: ns from it to the Prefect's pass (R23 stage 11)
  ready : Option Nat := none              -- local time from which stage 12 runs: at the head of its class, the wire free (R24)
  src : Nat := 0                          -- source address, written in as the frame starts (R168, R483)
  stamp : Bool := false                   -- it holds a transmit stamp entry (R223)
  part : Nat := 64                        -- the partition it belongs to, 64 none
  tag : Option (Nat × Nat) := none        -- VID and PCP of a publication built with a VLAN tag (R297)
  what : TxWhat
  deriving DecidableEq, Repr

/-- Where a transmitted frame's completion goes: nowhere, a TX ring slot, a GOOSE request, an outbound stream. -/
inductive TxOwner where
  | none
  | ring (q idx : Nat)
  | goose (block : Nat) (req : Option (Nat × Nat)) (change : Bool)
  | os (stream : Nat)
  deriving DecidableEq, Repr

/-- A transmission whose copies are not all resolved (R197, R224, R229). -/
structure TxJob where
  owner : TxOwner
  copies : Nat
  sentA : Bool := false
  sentB : Bool := false
  lateSent : Bool := false
  lateDrop : Bool := false
  tsReq : Bool := false
  tsLost : Bool := false
  noUnit : Bool := false                  -- a copy left because its port's unit entered FAULT (R88)
  timeA : Int := 0
  timeB : Int := 0
  sq : Nat := 0                           -- GOOSE: the sqNum its copies carry, fixed when the first starts
  st : Nat := 0                           -- and their stNum
  t : Int := 0                            -- GOOSE: the t field of their state
  cls : Nat := 0
  stampPorts : List Nat := []             -- ports whose stamp entries it holds
  deriving DecidableEq, Repr

/-- One port (10.0003 to 10.0007, R166 to R200). -/
structure Port where
  st : Nat := 1
  speed : Nat := 0
  partner : Nat := 0
  hold : Option Nat := none               -- end of the commanded transmitter disable
  sfp : Option SfpId := none
  ddm : Option SfpDdm := none
  ddmAt : Option Nat := none              -- local time page A2h was last read (R169)
  q : List TxFrame := []
  lq : List TxFrame := []
  wire : Option TxFrame := none
  tokens : Tab (Nat × Nat) := []          -- shaper class: bits held, local time of the last refill
  stamps : Nat := 0
  rxAt : Option Nat := none               -- local time of the last frame received (R42)
  pauseFrom : Option Nat := none
  pauseEnd : Nat := 0
  lockEnd : Option Nat := none
  migNext : Nat := 0                      -- local time from which MIG_PB_RATE lets the next migration frame start (R345)
  deriving DecidableEq, Repr

/-- An entry of the node table (R182). -/
structure Node where
  high : Nat := 0
  win : Nat := 0
  last : Nat := 0                         -- its last frame judged by SeqNr
  seen : Nat := 0                         -- its last frame of any kind
  lastA : Int := 0
  lastB : Int := 0
  typ : Nat := 4
  judged : Bool := false                  -- a SeqNr has been accepted
  deriving DecidableEq, Repr

/-- Ports, groups and transmissions. -/
structure Net where
  ports : Tab Port := []
  seqNr : Tab Nat := []
  superDue : Tab Nat := []
  nodes : Tab Node := []
  nodesFull : Bool := false
  jobs : Tab TxJob := []
  nextJob : Nat := 1
  deriving DecidableEq, Repr

/-! ## Sampled values and the seating plan (chapter 07) -/

/-- One seat of one row (R236): values and quality of every channel, and the seat-unit metadata. -/
structure Seat where
  recv : Bool := false
  copied : Bool := false
  filled : Bool := false
  conv : Bool := false
  lanB : Bool := false
  sim : Bool := false
  values : List Int := []
  quality : List Nat := []
  smpCnt : Nat := 0
  synch : Nat := 0xFF
  rxNs : Nat := 0
  subst : Nat := 0
  state : Nat := 0
  auth : Bool := false                    -- taken from an authenticated frame (for TAGS)
  tag : Nat := 0                          -- its VTAG as the partner's copy carries it
  deriving DecidableEq, Repr

/-- A row of the plan (R235 to R254). -/
structure Row where
  seats : Tab Seat := []
  closed : Bool := false
  closeAt : Int := 0
  closeNow : Nat := 0
  tq : Nat := 2
  synch : Nat := 0                        -- SmpSynch of what is published from it (R234)
  stepped : Bool := false
  gapped : Bool := false
  uneq : Bool := false
  late : Bool := false
  relTime : Int := 0
  relNow : Nat := 0
  wSteps : Nat := 80
  released : Bool := false
  eqRan : Bool := false                   -- its equalisation has run (R28)
  agreed : Bool := false                  -- and ended with agreement
  disp : Bool := false                    -- its first item has been dispatched (R23)
  disputed : Bool := false
  deriving DecidableEq, Repr

/-- One input held by a rate converter (R251): absolute input number, values, quality, filled by repetition. -/
structure ConvIn where
  n : Nat
  values : List Int
  quality : List Nat
  filled : Bool
  sim : Bool := false
  lanB : Bool := false
  synch : Nat := 0xFF
  rxNs : Nat := 0
  auth : Bool := false
  deriving DecidableEq, Repr

/-- A subscribed stream (R240 to R258). -/
structure Stream where
  st : Nat := 0
  since : Int := 0
  subst : Nat := 0
  good : Nat := 0
  mem : List (Nat × List Int × List Bool) := []   -- last two received rows: row, values, test bits; newest first
  simRows : List Nat := []                -- rows by whose banks a simulated frame has been accepted (R241)
  authLogged : Bool := false
  mapped : Option Nat := none
  rawSynch : Nat := 0xFF
  learnedRate : Nat := 0
  learnedCh : Nat := 0
  learnSec : Nat := 0
  learnMax : Option Nat := none
  prevMax : Option (Nat × Nat) := none
  carried : Option Nat := none
  loggedRate : Nat := 0
  loggedCh : Nat := 0
  hist : List ConvIn := []                -- newest first
  histAs : Nat × Nat × Nat := (0, 0, 0)   -- RATE, CHANNELS and SEAT_BASE of the entry that filled it (R272)
  deriving DecidableEq, Repr

/-- The seating plan. -/
structure Plan where
  streams : Tab Stream := []
  rows : Tab Row := []
  lastClosed : Option Nat := none
  lastReleased : Nat := 0
  everReleased : Bool := false
  stepped : Bool := false
  gapAt : List Nat := []                  -- the first row after each gap whose GAPPED is still to be carried (R254)
  w : Nat := 800000                       -- W in force for the next close
  wCuts : List (Nat × Nat) := []          -- commit rows still to close, rising, and W from each onward (R252)
  wLast : Nat := 80                       -- W_STEPS of the last released row
  lastUneq : Bool := false
  lastGapped : Bool := false
  banks : List (Nat × List (Nat × Val)) := []   -- banks that rows still need, by commit row, rising: the values of the rows before it (R240)
  deriving DecidableEq, Repr

/-! ## Conditioning (chapter 08) -/

/-- A value with its quality word. -/
structure VQ where
  v : Int := 0
  q : Nat := 0x41
  r : Bool := true                        -- a restarted entry, or computed from one (R290 RESTARTED)
  deriving DecidableEq, Repr

/-- A filter profile's run-time state (R282 to R285). -/
structure Profile where
  st : Nat := 0
  active : Nat := 0
  swapRow : Nat := 0
  fade : Bool := false
  x : Nat := 0
  k : Nat := 0
  deriving DecidableEq, Repr

/-- A channel group's standing output (R274, R290). -/
structure GOut where
  vals : List VQ := []
  prod : Nat := 0                         -- the row that produced the output, or the restart that stands in for it
  fresh : Bool := false
  xfade : Bool := false
  swapped : Bool := false
  restarted : Bool := true
  since : Nat := 0                        -- row of the last history restart
  deriving DecidableEq, Repr

/-- A partition's row images (R288 to R292). -/
structure ImgSt where
  missed : Nat := 0
  cfMissed : Nat := 0
  cfSat : Bool := false
  lastRow : Nat := 0
  full : Bool := false                    -- the row ring had no free entry at the last release
  configSeq : Nat := 0
  latePrev : Bool := false
  deriving DecidableEq, Repr

/-- The conditioning pipeline. -/
structure Cond where
  banks : Tab Nat := []                   -- bank states that differ from R564's
  profiles : Tab Profile := []
  hist : Tab (List VQ) := []              -- input histories by seat channel, newest first; what is missing reads 0, 0x41
  hist2 : Tab (List VQ) := []             -- stage-2 histories by bank and group channel
  outs : Tab GOut := []
  queue : List Nat := []                  -- rows released and not yet conditioned
  down : List Nat := []                   -- rows released behind them while the unit refuses new work (R91)
  failed : List Nat := []
  failOnce : List Nat := []
  katAt : Tab Nat := []                   -- array: local time its next known-answer test is due (R294)
  imgs : Tab ImgSt := []
  timeMax : Nat := 0
  restart : Bool := false                 -- every history restarts at the next row
  oldCfg : List (Nat × List (Nat × Option Val)) := []  -- commit rows still ahead of the pipeline, with the values before them
  deriving DecidableEq, Repr

/-! ## Publishing (chapter 09) -/

/-- A GOOSE subscription entry (R309 to R312). -/
structure GSub where
  st : Nat := 0
  seqOk : Bool := false
  stNum : Nat := 0
  sqNum : Nat := 0
  rxTime : Int := 0
  deadline : Int := 0
  claim : Nat := 0
  slots : List Nat := []
  tal : Nat := 0
  t : Int := 0
  simLatch : Bool := false
  authLogged : Bool := false
  deriving DecidableEq, Repr

/-- A GOOSE claim latch (R310). -/
structure Latch where
  v : Nat := 0
  listen : Option Nat := none
  deriving DecidableEq, Repr

/-- An outbound SV stream (R315 to R320). -/
structure OsSt where
  hist : List ConvIn := []
  frame : List (Nat × Nat × List Int × List Nat) := []  -- samples gathered for the present frame, in order: number, SmpSynch, values, quality
  reset : Option Nat := none              -- the commit row from which it starts anew
  deriving DecidableEq, Repr

/-- The GOOSE engine and the SV republisher. -/
structure Pub where
  blocks : Tab GBlock := []
  subs : Tab GSub := []
  latches : Tab Latch := []
  missed : Tab Nat := []                  -- events missed since the last written one, per partition
  os : Tab OsSt := []
  deriving DecidableEq, Repr

end Sys2Proof.Machine
end

