-- ==== Sys2Proof/Machine/StSw.lean ====
section
/-! DEFINITION. The parts of the state of chapters 10 to 13: partitions and migration, the timetable, rings and DMA engines, pigeonholes
and bells, cyclic logic. Each field's default is its reset value. -/

namespace Sys2Proof.Machine

/-! ## Partitions (chapter 10) -/

/-- A partition's state (R322). -/
inductive PSt where
  | none | stopped | starting | running | stopping | resetting | fault | frozen | restoring
  deriving DecidableEq, Repr

/-- A fault's record (30.0021). -/
structure FaultRec where
  cause : Nat := 0
  core : Nat := 0xFF
  detail : Nat := 0
  time : Int := 0
  deriving DecidableEq, Repr

/-- A migration (R343 to R354), at the source or at the destination. -/
structure Mig where
  st : Nat := 0                           -- MIG_STATE
  path : Nat := 0
  peer : Nat := 0
  dest : Nat := 0
  force : Bool := false
  rounds : Nat := 0
  hand : Bool := false                    -- the handshake of R344 is under way
  sent : Bool := false                    -- the final set and the contexts are all sent
  freeze : Bool := false                  -- the freeze condition holds; F is the next released row
  rowF : Nat := 0
  rowR : Nat := 0
  finalBytes : Nat := 0
  ctxBytes : Nat := 0
  restored : Bool := false
  reason : Nat := 0
  rq : Option (Nat × Nat) := none         -- session and REQ_ID of MIG_START
  import_ : Bool := false                 -- it re-imports a standby (R451)
  blackout : Nat := 0
  ctx : Option MigCtx := none             -- at the destination: memory and contexts received, taken over at the resume
  serving : List Nat := []                -- the items in service at freeze (R350, R478)
  mute : Bool := false                    -- the source's repetitions of R352 have stopped
  deriving DecidableEq, Repr

/-- One partition (R322 to R342). -/
structure Part where
  st : PSt := .none
  image : List Byte := []                 -- BULK buffer of PART_IMAGE
  digest : List Byte := []                -- content digest of the verified image kept in eMMC and DRAM
  stored : Bool := false
  verified : Bool := false                -- a verified copy is kept in DRAM
  svn : Nat := 0
  svnMin : Nat := 0
  fault : FaultRec := {}
  faultTimes : List Nat := []
  restartDue : Option Nat := none
  fence : Option (Nat × Nat) := none      -- fence under way: local time of its limit; 0 reset, 1 fault, 2 timeout, 3 while FROZEN
  drainDue : Option Nat := none
  stopSeq : Nat := 0                      -- items below this number were ready before the stop
  zeroing : Nat := 0                      -- 1 creation, 2 removal: its regions are being overwritten
  restarted : Bool := false
  migrated : Bool := false
  away : Bool := false                    -- it has migrated away and runs nowhere here (R19)
  resume : Option Nat := none
  runFault : Nat := 0
  faults : Nat := 0
  mig : Mig := {}
  journal : List (Nat × Entry × List Byte) := []  -- the migration unit's journal of an import (R451)
  deriving DecidableEq, Repr

/-- The partitions and failed cores. -/
structure Parts where
  ps : Tab Part := []
  coreFailed : List Nat := []
  reading : List Nat := []                -- partitions whose images wait to be read, in order (R84)
  verifying : List Nat := []              -- partitions whose images are read and being verified
  deriving DecidableEq, Repr

/-! ## Timetable, rings, DMA (chapter 11) -/

/-- An item in service on a core. -/
structure Run where
  item : Item
  start : Int
  startNow : Nat
  commits : Nat := 0
  reserved : Bool := false                -- it reserved 16 hold slots (R372)
  pc : Nat := 0                           -- where the core entered the guest, and a0 to a3 at entry (R356)
  args : List Nat := []
  deriving DecidableEq, Repr

/-- A core's port registers (per core, R358, R359, R370, R388). -/
structure CorePort where
  regs : List Word := List.replicate 8 0
  result : Word := 0
  stall : Option (Nat × Option Nat × Entry × Nat) := none  -- a commit waiting for a free slot: ring, completion ring, entry, row
  deriving DecidableEq, Repr

/-- A DMA operation in flight (R383). -/
structure DmaOp where
  part : Nat
  q : Nat
  idx : Nat
  d : DmaDesc
  start : Int
  engine : Nat
  faulted : Bool := false                 -- its addresses lie outside the partition's regions
  suppressed : Bool := false              -- fenced: writes suppressed, completion withheld
  deriving DecidableEq, Repr

/-- The timetable, rings and shared engines. -/
structure Tt where
  nextItem : Nat := 1
  ready : List Item := []                 -- in the order of making ready
  run : Tab Run := []                     -- by core
  awake : Tab Nat := []                   -- core: local time at which it became idle
  lastPart : Tab Nat := []
  flows : Tab Flow := []
  held : List Held := []
  waitRel : List Held := []               -- released, waiting for a slot of their ring
  holdRes : Tab Nat := []                 -- hold slots reserved per partition
  rings : Tab Ring := []
  cores : Tab CorePort := []
  dma : Tab DmaOp := []
  nextDma : Nat := 1
  dmaFailed : List Nat := []
  latMax : Nat := 0
  snaps : Tab (Nat × Nat) := []           -- snapshot pairs: core and register, latched high half, latched status (R129)
  deriving DecidableEq, Repr

/-! ## Pigeonholes and bells (chapter 12) -/

/-- A message (R392). -/
structure Msg where
  code : Nat := 0
  len : Nat := 0
  words : List Word := []
  orphan : Bool := false
  postedAt : Nat := 0
  deriving DecidableEq, Repr

/-- A channel (R389 to R400). -/
structure Chan where
  q : List Msg := []
  epoch : Nat := 0
  aborted : Bool := false
  timeout : Bool := false
  timed : Bool := false                   -- the oldest message has timed out already
  wait : List Msg := []                   -- an answer of the module's firmware that waits for space (R399)
  deriving DecidableEq, Repr

/-- A core's message registers and outcome (per core). -/
structure PhCore where
  regs : List Word := List.replicate 16 0
  result : Word := 0
  deriving DecidableEq, Repr

/-- The bells of an endpoint (R401, R403). -/
structure Bell where
  pend : Nat := 0
  mask : Nat := 0xFFFFFFFFFFFFFFFF
  deriving DecidableEq, Repr

/-- The pigeonhole fabric. -/
structure Ph where
  chans : Tab Chan := []
  cores : Tab PhCore := []                -- endpoint * 256 + core
  bells : Tab Bell := []
  deriving DecidableEq, Repr

/-! ## Cyclic logic (chapter 13) -/

/-- A partition's retained data (R421 to R425). -/
structure Retain where
  st : Nat := 0
  copying : Bool := false
  shadow : List Byte := []
  shadowOk : Bool := false
  mode : Option (Nat × Bool) := none      -- LOGIC_RESTART: mode and CLEAR for the next start
  layout : List Byte := []                -- digest of the image in force when the data were saved
  inBody : Bool := false                  -- the run ended inside a body item
  deriving DecidableEq, Repr

/-- A force-table change waiting for its common boundary (R420). -/
structure ForcePend where
  row : Nat
  v : Val
  at_ : Nat
  deriving DecidableEq, Repr

/-- The logic I/O unit. -/
structure Lg where
  tasks : Tab Task := []
  stations : Tab Station := []
  retain : Tab Retain := []
  mram : Tab (List Byte × List Byte) := []  -- the retentive copies: 2 * partition + copy: shadow and layout
  mramValid : Nat := 0                    -- the copy marked valid: 0 none, 1 the first, 2 the second
  committed : Bool := false               -- a cyclic program has committed since start-up
  forcePend : List ForcePend := []
  forceChanges : Nat := 0
  forceLast : Int := 0
  forceDue : Option Nat := none
  noticeOut : List (Nat × Nat × Nat) := []  -- force notices: session, SEQ (0 none queued), local time of the limit (R488)
  deriving DecidableEq, Repr

end Sys2Proof.Machine
end

