-- ==== Sys2Proof/Machine/StPair.lean ====
section
/-! DEFINITION. The parts of the state of chapters 14, 15, 16 and of the capture engine of chapter 18: the pair, claims and Bolpel, the
Prefect, the vault and tamper, the recorders. Each field's default is its reset value. -/

namespace Sys2Proof.Machine

/-! ## The pair and the claims (chapter 14) -/

/-- A message that the unit sends its partner (R430, R436). -/
inductive IulMsg where
  | hello (h : PairHello)
  | report (bytes : List Byte)
  | presence (row : Nat) (units : List Nat) (digest : List Byte)
  | seats (row : Nat) (copies : List SeatCopy)
  | tags (row : Nat) (recs : List TagRec)
  | agree (row : Nat) (final : List Byte)
  | eqLost (row : Nat)
  | digest (p row d : Nat)
  | handover (d claim row : Nat)
  | handoverAck (d : Nat) (ok : Bool)
  | mirror (id : Nat) (op : MirrorOp)
  | mirrorAck (id status : Nat) (at_ : Int)
  | align (row : Nat) (recs : List AlignRec)
  | mig (m : MigMsg)
  | relay (bytes : List Byte)
  | xcheck
  | beacon (f : BcnFrame)
  deriving DecidableEq, Repr

/-- A frame of the inter-unit link (R430): addresses, EtherType, its 16-byte header — none in a beacon — and length from the destination
address to the FCS. The last frame of a message completes it. -/
structure IulFrame where
  dst : Nat
  src : Nat
  etype : Nat := 0x88B6
  head : List Byte := []
  len : Nat
  prio : Nat
  msg : Option IulMsg := none
  deriving DecidableEq, Repr

/-- An IUL lane (R429): 0 DOWN, 1 TRAINING, 2 UP_10G, 3 UP_25G. -/
structure Lane where
  st : Nat := 0
  try25 : Bool := true
  due : Option Nat := none
  q : List IulFrame := []                 -- in the order they leave (R430)
  busy : Option IulFrame := none
  deriving DecidableEq, Repr

/-- What settlement agreed (40.0013). -/
structure Settled where
  fcl : Nat := 0
  units : Nat := 0
  serial : List Byte := []
  deriving DecidableEq, Repr

/-- Equalisation of one closed row (R436 to R440). -/
structure Eq where
  due : Nat := 0
  own : List Nat := []                    -- seat units presented
  part : Option (List Nat × List Byte) := none
  want : List Nat := []                   -- units still to come in SEATS
  copies : List SeatCopy := []
  wins : List Nat := []                   -- units whose winning copy is still to come (R439)
  decided : Tab Seat := []                -- seats decided under R439
  disputed : Nat := 0
  asked : Bool := false                   -- the digests differed: TAGS exchanged
  tags : Option (List TagRec) := none
  final : Option (List Byte) := none      -- own AGREE digest, once sent
  agree : Option (List Byte) := none      -- the partner's AGREE
  deriving DecidableEq, Repr

/-- A partition's part in the pair (40.0024): 0 NOT_PAIRED, 1 OUT, 2 IMPORTING, 3 CONVERGING, 4 IN_STEP. -/
structure StepSt where
  st : Nat := 0
  conv : Nat := 0
  tries : Nat := 0
  importEnd : Nat := 0
  from_ : Nat := 0                        -- row the present attempt began at
  live : Nat := 0                         -- commits of earlier origin rows are discarded (R451)
  hold : Bool := false                    -- the holder holds dispatch for a checkpoint (R451)
  dug : List Nat := []                    -- the last rows whose digest has closed (R445)
  differ : Bool := false                  -- an import found that the units' partitions differ (R344, R449 step 4)
  image : Option (List Byte) := none      -- the digest of the image the partner's partition runs, as it last told
  deriving DecidableEq, Repr

/-- An output digest (R445, R446): value, rows open, the instant of closing, the partner's digest. -/
structure OutDig where
  sum : Nat := 0
  closed : Option Nat := none
  judged : Bool := false
  theirs : Option Nat := none
  deriving DecidableEq, Repr

/-- A claim domain (R453 to R461). -/
structure Claim where
  epoch : Nat := 0                        -- the unit's own epoch
  counter : Nat := 0                      -- the vault's counter (R12)
  seen : Option (Nat × Nat) := none       -- last beaconed claim: claim, local time of arrival
  above : Option Nat := none              -- arrival of the last beacon with a claim above own
  heard : Option Nat := none              -- arrival of the last claim above own from any source (R453, R458)
  highest : Nat := 0                      -- highest claim seen (beacon, echo or latch)
  lastTime : Int := 0
  sat : Bool := false
  fitSince : Option Nat := none
  raising : Bool := false
  raiseTo : Nat := 0                      -- the epoch of a raise under way
  holding : Bool := false                 -- HOLDER as last judged
  heldAt : Int := 0                       -- TAI at which HOLDER last changed
  handover : Option (Nat × Option Nat × Nat × Nat) := none  -- row, ack limit, session, REQ_ID: outgoing
  acked : Bool := false
  hoIn : Option Nat := none               -- accepted incoming handover's row
  hoPending : Bool := false
  deriving DecidableEq, Repr

/-- A mirrored operation (R433) waiting for the partner's answer or for its common row. -/
structure Mirrored where
  id : Nat
  op : MirrorOp
  sess : Nat := 0
  seq : Nat := 0                          -- SEQ of the request it answers
  idx : Nat := 0                          -- and the entry; of a bundle its SVN
  own : Bool := true                      -- sent by this unit
  acked : Bool := false
  row : Nat := 0
  deriving DecidableEq, Repr

/-- A command queued for, or on, the Bolpel bus. -/
structure BolCmd where
  board : Nat                             -- 0xFF for a keepalive
  domain : Nat
  mask : Nat
  out : Nat
  req : Option (Nat × Nat) := none        -- PORT ring and slot
  part : Nat := 64
  poll : Bool := false
  seq : Nat := 0
  claim : Nat := 0
  sent : Int := 0
  took : Option Nat := none               -- a ring's commit: ns from it to the Prefect's pass (R23 stage 11)
  passAt : Nat := 0                       -- local time of that pass
  must : Bool := false                    -- a frame of the cycle that an earlier cycle has left over (R466)
  deriving DecidableEq, Repr

/-- A board as the driver knows it (40.0041, R466, R470). -/
structure Board where
  state : Nat := 0                        -- accepted output states
  latch : Nat := 0
  readback : Nat := 0
  status : Nat := 0
  lastEcho : Int := 0
  fails : Nat := 0
  ok : Bool := true
  cmds : List Nat := []                   -- local times of the change commands accepted in the last 1 ms
  deriving DecidableEq, Repr

/-- The Bolpel driver. -/
structure Bolpel where
  due : Nat := 0
  seq : Nat := 0
  freeAt : Nat := 0                       -- local time from which the bus is free (R462, R465)
  slotEnd : Nat := 0                      -- end of the last frame or echo slot (R24)
  endDue : Nat := 0                       -- end of the frame on the bus
  q : List BolCmd := []
  bus : Option BolCmd := none
  line : List Bool := []                  -- line levels of the frame on the bus in 50 ns steps, true BP_A positive; idle reads high (R462)
  echo : Option BolCmd := none
  echoDue : Nat := 0
  poll : Nat := 0
  boards : Tab Board := []
  deriving DecidableEq, Repr

/-- The redundant pair. -/
structure Pair where
  st : Nat := 0
  reason : Nat := 0
  outReason : Nat := 6                    -- reason while settled and not in step
  allIn : Bool := false                   -- every partition with a domain has re-entered
  fail : Nat := 0
  unitB : Bool := false                   -- unit letter and rank in force (40.0003, 40.0004)
  rank : Nat := 1
  link : Bool := false                    -- the IUL is up (R473)
  helloSent : Bool := false
  iulSeq : Nat := 0                       -- SEQ of the next frame (R430)
  heard : Bool := false                   -- the partner's PAIR_HELLO has come in this round
  round : Bool := false                   -- settlement is complete in this round
  lanes : Tab Lane := []
  helloDue : Nat := 0
  settled : Option Settled := none
  partner : Option PairHello := none
  mismatch : Bool := false
  eq : Tab Eq := []
  eqOn : Bool := false
  held : List (Nat × Instr) := []         -- messages for rows not yet closed (R436)
  upOnce : List Nat := []                 -- lanes that have been up since pairing was enabled (R472 bit 9)
  reentry : Nat := 0                      -- 0 none, 2 aligning, 3 running rows, 4 importing
  reRows : Nat := 0
  reFrom : Nat := 0                       -- the aligned row
  serdesBad : Bool := false               -- sub 5 failed before PAIR_ENABLE was cleared (R476)
  resetRow : Option Nat := none           -- the row the lead unit has named for a reset (R452)
  rePart : Option Nat := none             -- the partition that is re-entering
  eqdRows : List Nat := []                -- rows lately released equalised
  uneqRows : List Nat := []               -- rows lately released UNEQUALISED by either unit
  common : Nat := 0                       -- UNITS_PRESENT intersection
  alignRow : Option Nat := none
  alignIn : Option (Nat × List AlignRec) := none
  steps : Tab StepSt := []
  digs : Tab OutDig := []                 -- partition * 2^64 + row
  claims : Tab Claim := []
  bootSeen : Nat := 0
  seqSeen : Tab Nat := []                 -- path: last SEQ
  bcnSeq : Tab Nat := []
  bcnDue : Nat := 0
  bcnOut : List (Nat × Beacon) := []      -- the last beacon sent on each path
  evalDue : Nat := 0
  mirrors : List Mirrored := []
  nextMirror : Nat := 1
  bol : Bolpel := {}
  rptSeq : Nat := 0
  rptDue : Nat := 0
  ownRpt : List Byte := []
  partRpt : Option (List Byte) := none
  rptAt : Nat := 0
  xcheck : Int := 0
  xcheckOk : Bool := false
  xcheckDue : Nat := 0
  selfFail : List Nat := []
  selfAt : Tab Nat := []
  pbUp : Option Nat := none               -- local time at which the last PB link was lost
  uneqCount : Nat := 0                    -- rows released UNEQUALISED and digest mismatches since start
  digCount : Nat := 0
  eqTimeMax : Nat := 0
  deriving DecidableEq, Repr

/-! ## The Prefect (chapter 15) -/

/-- A partition's egress bounds (R478 to R482, R491). -/
structure PfPart where
  tokens : Nat := 32
  next : Option Nat := none               -- when the next token returns, in whole ns,
  nextN : Nat := 0                        -- and nextN / nextD ns more
  nextD : Nat := 1
  lastKind : Nat := 0
  denied : Nat := 0
  deniedSat : Bool := false
  lastRef : Tab Nat := []                 -- kind: local time of the last refusal
  deriving DecidableEq, Repr

/-- The Prefect. -/
structure Pf where
  blocked : Bool := false                 -- lapse, power fail or fatal block
  beaconsOff : Bool := false
  bolpelOff : Bool := false
  parts : Tab PfPart := []
  digest : List Byte := []
  bundle : List (Nat × Val) := []         -- values of the last verified bundle's Prefect section
  deriving DecidableEq, Repr

/-! ## The vault (chapter 16) -/

/-- A key's attributes (R497). -/
structure KeyAttr where
  kind : Nat := 0
  use : Nat := 0
  world : Nat := 0
  masters : Nat := 0
  life : Nat := 0
  deriving DecidableEq, Repr

/-- A key slot (48.0010): 0 EMPTY, 1 VALID, 2 INVALIDATED, 3 BAD. -/
structure KeySlot where
  st : Nat := 0
  gen : Nat := 0
  attr : KeyAttr := {}
  key : List Byte := []
  kcv : Nat := 0
  deriving DecidableEq, Repr

/-- The shadow register (R500). -/
structure Shadow where
  slot : Nat
  attr : KeyAttr
  key : List Byte
  kcv : Nat
  sess : Nat
  deriving DecidableEq, Repr

/-- A traffic-key entry (48.0021): 0 EMPTY, 1 READY, 2 STALE, 3 DERIVING. -/
structure TKey where
  st : Nat := 0
  gen : Nat := 0
  at_ : Int := 0
  key : List Byte := []
  deriving DecidableEq, Repr

/-- What a queued vault operation is for. -/
inductive VOp where
  | handoverSign (d : Nat)
  | handoverVerify (d claim row : Nat) (ok : Bool)
  | derive (i : Nat)
  | mac (chan : Nat) (verify : Bool) (part slot : Nat) (input tag : List Byte)
  | verifyImage (p sess reqId : Nat)
  | verifyBundle (sess seq : Nat)
  | verifyMirror (mid : Nat)             -- a bundle that the partner's BUNDLE_APPLY mirrors
  | keyWrite (sess seq slot wrap : Nat) (attr : KeyAttr) (kcv : Nat) (plain : List Byte)
  | handshake (assoc : Nat)
  | migAgree (p : Nat)
  | attest (sess reqId : Nat) (nonce : List Byte)
  deriving DecidableEq, Repr

/-- A vault operation with its class, and the GEN and the key of the slot it has loaded (R502). -/
structure VReq where
  cls : Nat
  op : VOp
  gen : Option Nat := none
  key : List Byte := []
  deriving DecidableEq, Repr

/-- A tamper record (R515). -/
structure TamperRec where
  seq : Nat
  utc : Int
  sources : Nat
  moment : Nat
  action : Nat
  life : Nat
  op : Nat
  copied : Bool
  deriving DecidableEq, Repr

/-- The vault. -/
structure Vault where
  slots : Tab KeySlot := []
  shadow : Option Shadow := none
  tkeys : Tab TKey := []
  migDraw : Option Nat := none            -- this end's draw of a nonce and an ephemeral key (R508)
  migPeer : Option MigEph := none         -- the other end's
  migKey : Option (List Byte) := none     -- the migration unit's key register
  work : Option VReq := none              -- the operation in the working key register
  suspended : List VReq := []
  q : List VReq := []
  bundleSvn : Nat := 0
  bundlePend : Option (Nat × List Nat) := none  -- SVN and keys of the staged bundle, until its commit
  anchorsInUse : List (Nat × Val) := []
  tamper : Nat := 0                       -- sources active
  openEncl : Nat := 0                     -- consecutive open samples
  openLoop : Nat := 0
  sampleAt : Nat := 0                     -- local time the next sample of the lines is due (R67)
  recs : List TamperRec := []
  recCount : Nat := 0
  service : Option Nat := none            -- RTC seconds left in the service window
  evidence : List Byte := []
  attesting : Bool := false
  gap : Bool := false                     -- sensing stopped below 1.7 V (R515)
  deriving DecidableEq, Repr

/-! ## The capture engine (chapter 18) -/

/-- One sample in the capture area (R550). -/
structure Sample where
  row : Nat
  flags : Nat
  interval : Nat
  vals : List Int
  qbits : List Bool
  bins : List Bool
  deriving DecidableEq, Repr

/-- A retained record (5C.0030). -/
structure CapRec where
  num : Nat
  samples : List Sample
  trigRow : Nat
  trigTime : Int
  flags : Nat
  prot : Bool := false
  held : Bool := false
  deriving DecidableEq, Repr

/-- A recorder (5C.0024): 0 OFF, 1 ARMED, 2 RECORDING, 3 FULL. -/
structure Recorder where
  st : Nat := 0
  pre : List (Option Sample) := []        -- pre-trigger samples, newest first; none where one was lost (R555)
  cur : List Sample := []                 -- the record in progress, newest first
  trigRow : Nat := 0
  trigTime : Int := 0
  left : Nat := 0
  flags : Nat := 0
  recs : List CapRec := []
  nextNum : Nat := 1
  prevC : Bool := false
  linked : Bool := false
  manual : Bool := false
  gap : Bool := false
  ovf : Bool := false
  ovfWait : Bool := false                 -- re-arms when the buffer falls below half full (R555)
  interval : Nat := 0
  newInterval : Option Nat := none
  newAfter : Nat := 0                     -- the boundary row at which it was decided (R558)
  acc : List (Nat × Nat × List (Int × Nat) × List Bool) := []  -- the present interval's samples, newest first: row, flags, values with quality, binaries
  last : Option Nat := none               -- the last row sampled, or passed over
  trend : List Sample := []               -- newest first
  deriving DecidableEq, Repr

/-- An export under way (R559). -/
structure Export where
  rec_ : Nat
  num : Nat
  t0 : Int
  t1 : Int
  sess : Nat
  reqId : Nat
  deriving DecidableEq, Repr

/-- The capture engine. -/
structure Cap where
  area : Nat := 268435456
  recs : Tab Recorder := []
  pickup : Tab Nat := []
  fill : Nat := 0                         -- bytes in the staging buffer
  lowSince : Option Nat := none
  sampled : Option Nat := none            -- last row sampled
  export_ : Option Export := none
  gvals : List (Nat × Tab (Nat × List VQ)) := []  -- flags and outputs of the captured groups at the last rows, newest first
  files : Option Comtrade := none         -- what the last export holds
  deriving DecidableEq, Repr

end Sys2Proof.Machine
end

