-- ==== Sys2Proof/Machine/State.lean ====
section
/-! DEFINITION. The machine's state: the waiting commands and everything the manual gives the module, and its reset value. -/

namespace Sys2Proof.Machine

/-- Faults: none. Every command and event of the table has an effect the manual gives (safe: nothing stops). -/
inductive Fault where
  deriving DecidableEq, Repr

/-- Refusals. -/
inductive Refusal where
  /-- Raised by exec's arm of a command that has no meaning yet (safe: the machine stops). -/
  | notModelled (mnemonic : String)
  deriving DecidableEq, Repr

/-- The state of the module. -/
structure State where
  pending : List Instr := []      -- commands waiting, first in first out
  now : Nat := 0                  -- local time in ns, never stepped (DESIGN CHOICE, safe: log entry 4)
  freeCtr : Nat := 0              -- the model's own: how many free values have been taken (DESIGN CHOICE, safe: log entry 8)
  ident : Identity := {}
  store : Tab Val := []           -- the configuration store: object values that differ from their Default
  ctrs : Tab Ctr := []            -- statistics counters that are not zero
  hw : Hw := {}
  boot : Boot := {}
  jal : Jal := {}
  tm : Tm := {}
  net : Net := {}
  plan : Plan := {}
  cond : Cond := {}
  pub : Pub := {}
  parts : Parts := {}
  tt : Tt := {}
  ph : Ph := {}
  lg : Lg := {}
  pair : Pair := {}
  pf : Pf := {}
  vault : Vault := {}
  rtc : Rtc := {}
  logb : Logb := {}
  cap : Cap := {}
  mem : List Host.Cell := []      -- guest memory that does not read zero (DESIGN CHOICE, unsafe: log entry 3)
  dirty : List Nat := []          -- the dirty map (R346): marked granules, partition * 2^52 + address / 4096
  deriving DecidableEq, Repr

/-- The module as delivered, before supply: PROVISIONED, the hub in reset (DESIGN CHOICE where the manual states no value, unsafe: log
entries 5 and 6). -/
def State.reset : State := {}

end Sys2Proof.Machine
end

