-- ==== Sys2Proof/Machine/Ops.lean ====
section
/-! DEFINITION. Named operations every unit uses: the passing of time, the configuration store and the statistics counters, the
logbook's input, the roll call, free values. An object AA.OOOO is written as the number 0xAAOOOO. -/

namespace Sys2Proof.Machine

/-! ## Free values -/

/-- Takes a value the manual leaves open. -/
def fresh (s : State) : Nat × State := ((Config.freeValue s.freeCtr).toNat, { s with freeCtr := s.freeCtr + 1 })

/-! ## The dictionary and its store (R109 to R123) -/

/-- The rows of an area's tables. -/
def areaDict (area : Nat) : List Desc :=
  match area with
  | 0x00 => dict00 | 0x01 => dict01 | 0x02 => dict02 | 0x10 => dict10 | 0x11 => dict11 | 0x18 => dict18
  | 0x20 => dict20 | 0x21 => dict21 | 0x24 => dict24 | 0x28 => dict28 | 0x29 => dict29
  | 0x30 => dict30 | 0x31 => dict31 | 0x34 => dict34 | 0x38 => dict38 | 0x40 => dict40
  | 0x44 => dict44 | 0x48 => dict48 | 0x4C => dict4C | 0x50 => dict50 | 0x58 => dict58 | 0x5C => dict5C
  | 0x60 => dict60 | 0x70 => dict70
  | _ => []

/-- An object's number within its area. -/
def obOf (ob : Nat) : Nat := ob % 65536

/-- An object's area. -/
def arOf (ob : Nat) : Nat := ob / 65536

/-- The number of an address's object. -/
def obAddr (a : Addr) : Nat := a.area * 65536 + a.obj

/-- The address of an instance of an object. -/
def addrOf (ob sub : Nat) : Addr := ⟨arOf ob, obOf ob, sub⟩

/-- The dictionary's row for an object. -/
def descOf (ob : Nat) : Option Desc := (areaDict (arOf ob)).find? fun d => d.obj == obOf ob

/-- The store's key of a row of an instance. -/
def okey (ob sub row : Nat) : Nat := (ob * 65536 + sub) * 65536 + row

/-- The kept PAIR_UNIT, or the strap it starts from (R37, R427): is the unit letter B. -/
def unitB (s : State) : Bool :=
  match tabGet s.store (okey 0x400003 0 0) with
  | some (.n v :: _) => v == 1
  | _ => s.hw.strapB

/-- The Default of an instance (R123), for the objects whose tables give it by instance or by variant. -/
def dfl (s : State) (ob sub : Nat) : Val :=
  match ob with
  | 0x100012 => [.n (if sub < 4 || sub == 6 || sub == 7 then 0 else 1)]
  | 0x100016 => [.n (if sub < 4 || sub == 6 || sub == 7 then 0 else 1)]
  | 0x180008 => [.n (if s.ident.optO then 3600 else 20)]
  | 0x480030 => if sub == 0 then [.n 1, .n 1, .n 2, .o Config.ownerCa] else [.n 0, .n 0, .n 0, .o (zeros 48)]
  | 0x310010 => match descOf 0x310010 with
    | some d => d.dflt.set 0 (.n (if sub < 240 then 0xFE else 0xFF))
    | none => []
  | 0x400003 => [.n (b2n s.hw.strapB)]
  | 0x400004 => [.n (if unitB s then 2 else 1)]
  | _ => match descOf ob with
    | some d => d.dflt
    | none => []

/-- The kept value of a row of an instance. -/
def State.val (s : State) (ob sub row : Nat) : Val := tabGetD s.store (okey ob sub row) (dfl s ob sub)

/-- A value's field i. -/
def vAt (v : Val) (i : Nat) : Fld := nth v i (.n 0)

/-- A field as a natural number. -/
def fldN : Fld → Nat
  | .n v => v
  | .i v => v.toNat
  | .o _ => 0

/-- A field as an integer. -/
def fldI : Fld → Int
  | .n v => v
  | .i v => v
  | .o _ => 0

/-- A field as octets. -/
def fldO : Fld → List Byte
  | .o b => b
  | _ => []

/-- Field i of a value, as a natural number. -/
def vN (v : Val) (i : Nat) : Nat := fldN (vAt v i)

/-- Field i of a value, as an integer. -/
def vI (v : Val) (i : Nat) : Int := fldI (vAt v i)

/-- Field i of a value, as octets. -/
def vO (v : Val) (i : Nat) : List Byte := fldO (vAt v i)

/-- Field i of a value, as a truth value. -/
def vB (v : Val) (i : Nat) : Bool := vN v i != 0

/-- The scalar object ob/sub as a natural number. -/
def State.vn (s : State) (ob sub : Nat) : Nat := vN (s.val ob sub 0) 0

/-- The scalar object ob/sub as an integer. -/
def State.vi (s : State) (ob sub : Nat) : Int := vI (s.val ob sub 0) 0

/-- The scalar object ob/sub as a truth value. -/
def State.vb (s : State) (ob sub : Nat) : Bool := s.vn ob sub != 0

/-- Field i of the record ob/sub, as a natural number. -/
def State.fn (s : State) (ob sub i : Nat) : Nat := vN (s.val ob sub 0) i

/-- Field i of the record ob/sub, as a truth value. -/
def State.fb (s : State) (ob sub i : Nat) : Bool := s.fn ob sub i != 0

/-- The value that needs no entry in the store: the Default; a table row that holds no VALID flag is in use once it is written, and a
written PAIR_UNIT or UNIT_RANK no longer follows the strap (R37, R427). -/
def putDfl (s : State) (ob sub : Nat) : Val :=
  if ob == 0x400003 || ob == 0x400004 then [] else match descOf ob with
  | some d => (match d.typ with
    | .tbl (.bool :: _) _ => dfl s ob sub
    | .tbl _ _ => []
    | _ => dfl s ob sub)
  | none => dfl s ob sub

/-- Stores a value; a value equal to the Default needs no entry. -/
def State.put (s : State) (ob sub row : Nat) (v : Val) : State :=
  { s with store := tabSet s.store (okey ob sub row) v (putDfl s ob sub) }

/-- The numbers of the rows in use of a table, in order. -/
def State.rowsOf (s : State) (ob sub : Nat) : List Nat :=
  (s.store.filter fun (k, _) => k / 65536 == ob * 65536 + sub).map fun (k, _) => k % 65536

/-- The rows in use of a table. -/
def State.rows (s : State) (ob sub : Nat) : List Val :=
  (s.store.filter fun (k, _) => k / 65536 == ob * 65536 + sub).map Prod.snd

/-- The instances of an object that hold a value other than the Default, in order. -/
def State.subsOf (s : State) (ob : Nat) : List Nat :=
  (s.store.filter fun (k, _) => k / 4294967296 == ob && k % 65536 == 0).map fun (k, _) => k / 65536 % 65536

/-! ## Statistics counters (R30) -/

/-- The largest value of a counter. -/
def ctrMax (ob : Nat) : Nat :=
  match descOf ob with
  | some d => if d.typ == .one .u64 then 18446744073709551615 else 4294967295
  | none => 4294967295

/-- A counter's value. -/
def State.ctr (s : State) (ob sub : Nat) : Nat := (tabGetD s.ctrs (okey ob sub 0) {}).v

/-- A counter raised by n: it saturates at its maximum m and then sets SAT. -/
def Ctr.up (c : Ctr) (n m : Nat) : Ctr := if c.v + n > m then ⟨m, true⟩ else ⟨c.v + n, c.sat⟩

/-- Raises a counter by n. -/
def bumpBy (s : State) (ob sub n : Nat) : State :=
  { s with ctrs := tabSet s.ctrs (okey ob sub 0) ((tabGetD s.ctrs (okey ob sub 0) {}).up n (ctrMax ob)) {} }

/-- Raises a counter by one. -/
def bump (s : State) (ob sub : Nat) : State := bumpBy s ob sub 1

/-- Clears the counters of a range of objects of an instance, SAT with them. -/
def clearCtrs (s : State) (lo hi : Nat) (sub : Option Nat) : State :=
  { s with ctrs := s.ctrs.filter fun (k, _) =>
      !(lo ≤ k / 4294967296 && k / 4294967296 ≤ hi && (sub == none || sub == some (k / 65536 % 65536))) }

/-! ## Time (R55, R201, R203) -/

/-- Nanoseconds of the time counter. -/
def tai (s : State) : Int := s.tm.sec * 1000000000 + s.tm.ns

/-- What a slew may add on one tick, in 2^-32 ns (R203): SLEW_MAX parts in 10^9 of 2 ns. -/
def slewTick (s : State) : Nat := s.vn 0x18000E 0 * 8589934592 / 1000000000

/-- The amount a slew of remainder r adds in dt ticks. -/
def slewPart (r : Int) (lim : Nat) : Int := if r < 0 then -(min (-r) lim) else min r lim

/-- The counter after adding d, in 2^-32 ns, to {SEC, NS, FRAC}. -/
def addFrac (t : Tm) (d : Int) : Tm :=
  let tot : Int := (t.sec * 1000000000 + t.ns : Nat) * 4294967296 + t.frac + d
  let whole : Int := tot / 4294967296
  { t with
    sec := (whole / 1000000000).toNat
    ns := (whole % 1000000000).toNat
    frac := (tot % 4294967296).toNat }

/-- The counter and its slew after dt ticks (R201, R203): the carry into SEC falls in the same tick. -/
def tickTm (t : Tm) (dt lim : Nat) : Tm :=
  if t.run then
    let e := slewPart t.slew (dt * lim)
    let u := addFrac t (dt * t.incr + e)
    { u with slew := t.slew - e }
  else t

/-- dt ticks of the 500 MHz time clock pass (R55). -/
def advance (dt : Nat) (s : State) : State :=
  { s with now := s.now + 2 * dt, tm := tickTm s.tm dt (slewTick s) }

/-! ## Logbook input (R533, R536) -/

/-- Offers a record to the logbook's intake: code, SOURCE, the values its DATA holds, and when. -/
def logRec (s : State) (code src : Nat) (data : List Int) : State :=
  { s with logb := { s.logb with offered := s.logb.offered ++ [⟨code, src, data⟩], offerAt := s.logb.offerAt ++ [s.now] } }

/-- A list of natural numbers as log data. -/
def ints (l : List Nat) : List Int := l.map fun (n : Nat) => (n : Int)

/-! ## Roll call (R4, R9, R86 to R90) -/

/-- The units-present map (00.0020). -/
def unitsPresent (s : State) : Nat :=
  b2n s.ident.optP + 2 * b2n s.ident.optC + 4 * b2n s.ident.optM + 8 * b2n s.ident.optV + 16 * b2n s.ident.optO
    + (if s.ident.variant == 8 then 0x3F00 else if s.ident.variant == 4 then 0x0300 else 0)

/-- The number of compute dies (R3). -/
def dieCount (s : State) : Nat := if s.ident.variant == 8 then 6 else if s.ident.variant == 4 then 2 else 0

/-- The number of application cores (R3). -/
def coreCount (s : State) : Nat := 8 + 16 * dieCount s

/-- The fused partition capacity (R3). -/
def partCap (s : State) : Nat := if s.ident.variant == 8 then 64 else if s.ident.variant == 4 then 32 else 8

/-- The fused seat-unit capacity at 4800 samples/s (R3). -/
def seatCap (s : State) : Nat := if s.ident.variant == 8 then 1024 else if s.ident.variant == 4 then 512 else 128

/-- Is a roll-call unit present. -/
def unitPresent (s : State) (n : Nat) : Bool :=
  if n == 5 then s.ident.optP
  else if n == 11 then s.ident.optV
  else if n == 16 then s.ident.optC
  else if n == 17 then s.ident.optM
  else if 24 ≤ n && n ≤ 29 then n - 24 < dieCount s
  else n ≤ 30

/-- A unit's roll-call entry. -/
def rollOf (s : State) (n : Nat) : Roll := tabGetD s.boot.roll n {}

/-- A unit's roll-call state. -/
def unitSt (s : State) (n : Nat) : USt := if unitPresent s n then (rollOf s n).st else .absent

/-- The code of a roll-call state. -/
def USt.code : USt → Nat
  | .off => 0 | .starting => 1 | .ready => 2 | .degraded => 3 | .fault => 4 | .absent => 5

/-- Does a unit accept requests (R87). -/
def unitOk (s : State) (n : Nat) : Bool := unitSt s n == .ready || unitSt s n == .degraded

/-- Does a unit accept new work: it is READY or DEGRADED and no disable drains it (R87, R91). -/
def unitTakes (s : State) (n : Nat) : Bool := unitOk s n && !(rollOf s n).draining

/-- A present unit's roll-call entry draining or not (R90, R342). -/
def setDraining (s : State) (n : Nat) (b : Bool) : State :=
  let due := if b then some (s.now + s.vn 0x300003 0) else none
  { s with boot := { s.boot with roll := tabPut s.boot.roll n { rollOf s n with draining := b, drainDue := due } } }

/-! ## Life cycle (R92) -/

/-- LIFECYCLE: 0 MANUFACTURE, 1 PROVISIONED, 2 OPERATIONAL, 3 QUARANTINE, 4 DECOMMISSIONED. -/
def life (s : State) : Nat :=
  if s.boot.fuseDecom then 4
  else if s.boot.qLatch then 3
  else if s.boot.fuseComm then 2
  else if s.boot.fuseProv then 1 else 0

/-- Does the platform firmware run. -/
def running (s : State) : Bool := s.boot.phase == .run

/-- Do the hub's units work: firmware runs and no power-fail sequence or freeze has stopped them. -/
def hubLive (s : State) : Bool := running s

/-! ## Tables of the state -/

/-- The state of partition p. -/
def partOf (s : State) (p : Nat) : Part := tabGetD s.parts.ps p {}

/-- A partition's state as the engines see it: while it is fenced nothing of it moves, whatever PART_STATE shows (R336). -/
def pst (s : State) (p : Nat) : PSt := if (partOf s p).fence.isSome then .resetting else (partOf s p).st

/-- Partition p set. -/
def setPart (s : State) (p : Nat) (x : Part) : State := { s with parts := { s.parts with ps := tabPut s.parts.ps p x } }

/-- The state of port n. -/
def portOf (s : State) (n : Nat) : Port := tabGetD s.net.ports n {}

/-- Port n set. -/
def setPort (s : State) (n : Nat) (x : Port) : State := { s with net := { s.net with ports := tabPut s.net.ports n x } }

/-- Bounds an optional due time: has it come. -/
def dueBy (s : State) (d : Option Nat) : Bool :=
  match d with
  | some t => t ≤ s.now
  | none => false

/-- Has the pair settled. -/
def settled (s : State) : Bool := s.pair.settled.isSome

/-- Is pairing enabled. -/
def pairOn (s : State) : Bool := s.ident.optP && s.vb 0x400001 0

/-- May a unit be used, by its bit of the units-present map: while two modules are paired, only one that both have (R11). -/
def pairUses (s : State) (n : Nat) : Bool := !(pairOn s && settled s) || bit s.pair.common n

end Sys2Proof.Machine
end

