-- ==== Sys2Proof/Machine/Sess.lean ====
section
/-! DEFINITION. Jalyn values, checks, responses and sessions (R109 to R159): the encoding of values, the order of checks of R132, the
answer to a request and its storing, messages and acknowledgements, notifications, the closing of a session. -/

namespace Sys2Proof.Machine

/-! ## Status codes (R133) -/

/-- OK. -/
def okS : Nat := 0x0000
/-- NO_OBJECT. -/
def noObject : Nat := 0x0001
/-- UNIT_ABSENT. -/
def unitAbsent : Nat := 0x0002
/-- UNIT_NOT_READY. -/
def notReady : Nat := 0x0003
/-- ACCESS. -/
def accessS : Nat := 0x0004
/-- ROLE. -/
def roleS : Nat := 0x0005
/-- TYPE. -/
def typeS : Nat := 0x0006
/-- RANGE. -/
def rangeS : Nat := 0x0007
/-- BUSY. -/
def busyS : Nat := 0x0008
/-- QUOTA. -/
def quotaS : Nat := 0x0009
/-- STATE. -/
def stateS : Nat := 0x000A
/-- TAMPER_ABORT. -/
def tamperAbort : Nat := 0x000B
/-- LENGTH. -/
def lengthS : Nat := 0x000C
/-- LIFECYCLE. -/
def lifecycleS : Nat := 0x000D
/-- VERIFY. -/
def verifyS : Nat := 0x000E
/-- UNSUPPORTED. -/
def unsupported : Nat := 0x000F
/-- PARTITION_TIMEOUT. -/
def partTimeout : Nat := 0x0010
/-- SESSION_LIMIT. -/
def sessionLimit : Nat := 0x0011
/-- ABORTED. -/
def abortedS : Nat := 0x0012
/-- SEQUENCE. -/
def sequenceS : Nat := 0x0013
/-- PENDING. -/
def pendingS : Nat := 0x0100
/-- The model's mark of an answer that comes later. -/
def deferS : Nat := 0xFFFF

/-! ## Values (R112 to R114) -/

/-- A field type's code. -/
def ftCode : FT → Nat
  | .bool => 1 | .u8 => 2 | .u16 => 3 | .u32 => 4 | .u64 => 5 | .i16 => 3 | .i32 => 6 | .i64 => 7
  | .f32 => 8 | .f64 => 9 | .time => 10 | .dur => 11 | .enum8 => 12 | .bits32 => 13
  | .oct _ => 14 | .str _ => 15

/-- An object type's code. -/
def typCode : OTyp → Nat
  | .none => 0
  | .one t => ftCode t
  | .record _ => 0x10
  | .tbl _ _ => 0x11

/-- A field type's length in octets; the largest for OCT and STR. -/
def ftLen : FT → Nat
  | .bool => 1 | .u8 => 1 | .u16 => 2 | .u32 => 4 | .u64 => 8 | .i16 => 2 | .i32 => 4 | .i64 => 8
  | .f32 => 4 | .f64 => 8 | .time => 8 | .dur => 4 | .enum8 => 1 | .bits32 => 4
  | .oct n => n | .str n => n

/-- Is a field of variable length outside a record. -/
def ftVar : FT → Bool
  | .oct _ => true
  | .str _ => true
  | _ => false

/-- The octets of a field. -/
def encF (t : FT) (f : Fld) : List Byte :=
  match t with
  | .oct _ => fldO f
  | .str _ => fldO f
  | .i16 => leI 2 (fldI f)
  | .i32 => leI 4 (fldI f)
  | .i64 => leI 8 (fldI f)
  | .time => leI 8 (fldI f)
  | _ => leN (ftLen t) (fldN f)

/-- The octets of a record: its fields without padding, OCT and STR fields at their full length. -/
def encRec (fs : List FT) (v : Val) : List Byte :=
  ((fs.zip v).map fun (t, f) => padTo (ftLen t) (encF t f)).flatten

/-- The octets of a value. -/
def encVal (ty : OTyp) (v : Val) : List Byte :=
  match ty with
  | .none => []
  | .one t => encF t (vAt v 0)
  | .record fs => encRec fs v
  | .tbl fs _ => encRec fs v

/-- One octet of a UTF-8 text: the state counts and bounds the octets still to come; 9 is an error. -/
def utf8Step (st : Nat) (b : Byte) : Nat :=
  let v := b.toNat
  let cont (lo hi nx : Nat) : Nat := if lo ≤ v && v ≤ hi then nx else 9
  match st with
  | 0 => if v < 0x80 then 0 else if v < 0xC2 then 9 else if v ≤ 0xDF then 1 else if v == 0xE0 then 2
         else if v == 0xED then 4 else if v ≤ 0xEF then 3 else if v == 0xF0 then 5 else if v ≤ 0xF3 then 6
         else if v == 0xF4 then 7 else 9
  | 1 => cont 0x80 0xBF 0
  | 2 => cont 0xA0 0xBF 1
  | 3 => cont 0x80 0xBF 1
  | 4 => cont 0x80 0x9F 1
  | 5 => cont 0x90 0xBF 3
  | 6 => cont 0x80 0xBF 3
  | 7 => cont 0x80 0x8F 3
  | _ => 9

/-- Are the octets valid UTF-8. -/
def utf8Ok (l : List Byte) : Bool := l.foldl utf8Step 0 == 0

/-- Text without the zero octets that fill a record's STR field. -/
def trimZ (l : List Byte) : List Byte := (l.reverse.dropWhile (· == 0)).reverse

/-- A field's octets decoded: the status of check 8 when they are not its encoding. -/
def decF (t : FT) (bs : List Byte) : Except Nat Fld :=
  if bs.length > ftLen t || (!ftVar t && bs.length != ftLen t) then .error lengthS
  else match t with
    | .bool => if ofLe bs ≤ 1 then .ok (.n (ofLe bs)) else .error typeS
    | .oct _ => .ok (.o bs)
    | .str _ => if utf8Ok bs then .ok (.o bs) else .error typeS
    | .i16 => .ok (.i (ofBits (ofLe bs) 16))
    | .i32 => .ok (.i (ofBits (ofLe bs) 32))
    | .i64 => .ok (.i (ofBits (ofLe bs) 64))
    | .time => .ok (.i (ofBits (ofLe bs) 64))
    | _ => .ok (.n (ofLe bs))

/-- A field's octets within a record: the zero octets that fill an STR field to its full length are no part of its text (DEDUCED, entry 86). -/
def recOct (t : FT) (bs : List Byte) : List Byte :=
  match t with
  | .str _ => trimZ bs
  | _ => bs

/-- A record's octets decoded. -/
def decRec : List FT → List Byte → Except Nat Val
  | [], bs => if bs.isEmpty then .ok [] else .error lengthS
  | t :: fs, bs =>
    if bs.length < ftLen t then .error lengthS
    else match decF t (recOct t (bs.take (ftLen t))), decRec fs (bs.drop (ftLen t)) with
      | .ok f, .ok r => .ok (f :: r)
      | .error e, _ => .error e
      | _, .error e => .error e

/-- A value's type code and octets decoded against the declared type (R113). -/
def decVal (ty : OTyp) (typ : Nat) (bs : List Byte) : Except Nat Val :=
  if typ != typCode ty then .error typeS
  else match ty with
    | .none => if bs.isEmpty then .ok [] else .error lengthS
    | .one t => (decF t bs).map fun f => [f]
    | .record fs => decRec fs bs
    | .tbl fs _ => decRec fs bs

/-- Is a floating-point field finite (R114). -/
def finiteF (t : FT) (f : Fld) : Bool :=
  match t with
  | .f32 => bits (fldN f) 23 8 != 255
  | .f64 => bits (fldN f) 52 11 != 2047
  | _ => true

/-- The field types of a value. -/
def ftsOf : OTyp → List FT
  | .none => []
  | .one t => [t]
  | .record fs => fs
  | .tbl fs _ => fs

/-- Does a record or row say, by a VALID that is clear, that it describes nothing. -/
def isVoid (d : Desc) (v : Val) : Bool :=
  match ftsOf d.typ with
  | .bool :: _ :: _ => !vB v 0
  | _ => false

/-- Is a value within the limits its table states and every floating-point field finite (check 9); of a record whose VALID is clear only
the codes are judged (DEDUCED, entry 20). -/
def inLims (d : Desc) (v : Val) : Bool :=
  ((ftsOf d.typ).zip v).all (fun (t, f) => finiteF t f) &&
    (d.lims.zip ((ftsOf d.typ).zip v)).all fun (l, t, f) => match l with
      | some (lo, hi) => (isVoid d v && t != .enum8) || (lo ≤ fldI f && fldI f ≤ hi)
      | none => true

/-! ## The checks of R132 -/

/-- What a request does to an object. -/
inductive JOp where
  | read | write | exec | tableRead | tableWrite | bulkRead | bulkWrite | subscribe
  deriving DecidableEq, Repr

/-- Does an operation only read. -/
def JOp.reads : JOp → Bool
  | .read => true | .tableRead => true | .bulkRead => true | .subscribe => true
  | _ => false

/-- The unit that owns an instance (R110, R111). -/
def ownerOf (ob sub : Nat) : Nat :=
  let a := arOf ob
  let o := obOf ob
  match a with
  | 0x00 => 0
  | 0x01 => 1
  | 0x02 => 1
  | 0x10 => if o == 0x100 then 2 else if 0x110 ≤ o && o ≤ 0x112 then (if sub == 2 then 4 else 3)
            else if sub < 4 then 2 else if sub < 6 then 3 else if sub < 8 then 5 else 4
  | 0x11 => if (o == 1 || (0x20 ≤ o && o ≤ 0x30)) && sub == 2 then 3 else 2
  | 0x18 => 6
  | 0x20 => 7
  | 0x21 => 8
  | 0x24 => 9
  | 0x28 => if 0x200 ≤ o then 11 else 10
  | 0x29 => 10
  | 0x30 => if 0x40 ≤ o then 17 else 1
  | 0x31 => 12
  | 0x34 => 14
  | 0x38 => 20
  | 0x40 => if 0x40 ≤ o && o < 0x50 then 19 else 5
  | 0x44 => 18
  | 0x48 => 0
  | 0x4C => 0
  | 0x50 => 0
  | 0x58 => 15
  | 0x5C => 16
  | 0x60 => if 0x110 ≤ o && o ≤ 0x112 then (if sub < 4 then 2 else if sub < 6 then 3 else 5)
            else if 0x120 ≤ o && o ≤ 0x124 then 6 else if 0x130 ≤ o && o ≤ 0x131 then 19
            else if o == 0x160 then 30 else 1
  | 0x70 => 23
  | _ => 31

/-- Is an object's sub a partition number (R119). -/
def perPart (ob : Nat) : Bool :=
  let o := obOf ob
  match arOf ob with
  | 0x24 => 0x30 ≤ o && o ≤ 0x34
  | 0x28 => o == 0x120
  | 0x29 => o == 0x210 || o == 0x211
  | 0x30 => (0x10 ≤ o && o ≤ 0x32) || 0x50 ≤ o
  | 0x31 => 0x20 ≤ o && o ≤ 0x22
  | 0x34 => o == 0x110 || o == 0x111
  | 0x38 => o == 0x10 || o == 0x12 || 0x30 ≤ o && o ≤ 0x32
  | 0x40 => 0x24 ≤ o && o ≤ 0x26
  | 0x44 => 0x30 ≤ o && o ≤ 0x35
  | 0x48 => o == 0x42 || o == 0x43
  | _ => false

/-- The partition an instance is assigned to (R119). -/
def instOwner (s : State) (ob sub : Nat) : Option Nat :=
  if perPart ob then some sub
  else
    let own := match arOf ob with
      | 0x28 => if obOf ob < 0x120 && s.fb 0x280100 sub 0 then s.fn 0x280100 sub 1 else 64
      | 0x31 => if 0x10 ≤ obOf ob && obOf ob ≤ 0x13 then s.fn 0x310010 sub 0
                else if obOf ob == 0x30 then (match tabGet s.tt.flows sub with
                  | some f => f.owner
                  | none => 64) else 64
      | 0x38 => if 0x11 ≤ obOf ob && obOf ob ≤ 0x17 && s.fb 0x380011 sub 0 then s.fn 0x380011 sub 1
                else if 0x20 ≤ obOf ob && obOf ob ≤ 0x23 && s.fb 0x380020 sub 0 then s.fn 0x380020 sub 1 else 64
      | _ => 64
    if own < 64 then some own else none

/-- May a PTN session of partition q reach an instance (R119): of a channel, which two partitions share, when q is an endpoint. -/
def ptnMay (s : State) (ob sub q : Nat) : Bool :=
  if arOf ob == 0x34 && 0x100 ≤ obOf ob && obOf ob ≤ 0x106 then
    s.fb 0x340100 sub 0 && (s.fn 0x340100 sub 1 == q || s.fn 0x340100 sub 2 == q)
  else match instOwner s ob sub with
    | some p => p == q
    | none => true

/-- Does a session role satisfy a Role column (R118); the partition of PTN is judged by R119. -/
def roleSat (need have_ : Role) : Bool :=
  match need with
  | .obs => true
  | .opr => have_ == .opr || have_ == .eng || have_ == .mgr
  | .eng => have_ == .eng || have_ == .mgr
  | .sec => have_ == .sec
  | .mgr => have_ == .mgr
  | .ptn => have_ == .ptn || have_ == .mgr

/-- Does the access code permit an operation (R116). -/
def accPermits (a : Acc) (op : JOp) : Bool :=
  match a with
  | .ro => op.reads
  | .rw => op != .exec
  | .rws => op != .exec
  | .wo => op == .write || op == .tableWrite || op == .bulkWrite
  | .cmd => op == .exec

/-- The role an operation needs (R117). -/
def needRole (d : Desc) (op : JOp) : Role :=
  if (d.acc == .rw || d.acc == .rws) && op.reads then .obs else d.role

/-- The number of instances within the fused capacity (R6). -/
def instances (s : State) (ob : Nat) (d : Desc) : Nat :=
  if perPart ob then min d.cnt (partCap s)
  else if ob == 0x600105 then 2 + dieCount s
  else if ob == 0x310050 then dieCount s
  else d.cnt

/-- Check 5: does the present life-cycle state serve the object (R82, R93, R107, R164, R542). -/
def lifeCheck (s : State) (se : Sess) (ob : Nat) (op : JOp) : Nat :=
  let a := arOf ob
  match s.boot.phase with
  | .run => if life s == 0 then lifecycleS else okS
  | .gateway =>
    if life s == 4 then (if a == 0 && op.reads && se.port == 2 then okS else lifecycleS)
    else if op.reads && (a == 0 || a == 1 || a == 0x58) then okS
    else if a == 1 && op == .exec && (match descOf ob with | some d => d.role == .sec | none => false) then okS
    else lifecycleS
  | .recovery =>
    if op.reads && (a == 0 || a == 1 || a == 0x58) then okS
    else if se.port == 2 && (ob == 0x010020 || ob == 0x010021 || ob == 0x010022) then okS
    else notReady
  | .halt =>
    if (op.reads && (a == 0 || a == 1)) || (a == 0x58 && ob != 0x580011) || a == 0x70 then okS
    else if ob == 0x010014 then okS
    else notReady
  | _ => notReady

/-- Is a row, or an instance, read-only in an object that is written: the port's own address, the unshaped classes, the client anchor of
provisioning (check 7). -/
def lockedRow (ob sub row : Nat) : Bool :=
  (ob == 0x100011 && row == 0) || (ob == 0x100017 && (row == 6 || row == 7)) || (ob == 0x480030 && sub == 0)

/-- Checks 2 to 7 of R132 for an entry; while the partner has no option M the migration objects answer UNIT_ABSENT too (chapter 10). -/
def objCheck (s : State) (se : Sess) (ad : Addr) (op : JOp) : Nat :=
  let ob := obAddr ad
  match descOf ob with
  | none => noObject
  | some d =>
    if !unitPresent s (ownerOf ob ad.sub) then unitAbsent
    else if ownerOf ob ad.sub == 17 && !pairUses s 2 then unitAbsent
    else if ad.sub ≥ instances s ob d then noObject
    else if lifeCheck s se ob op != okS then lifeCheck s se ob op
    else if !roleSat (needRole d op) se.role then roleS
    else if se.role == .ptn && !ptnMay s ob ad.sub se.part then roleS
    else if !accPermits d.acc op then accessS
    else okS

/-- Checks 10 and 11 of R132 that hold for every object: the owning unit's readiness (R87, R122; a unit being disabled refuses new work,
R91, and is still read) and the RWS condition (R116). -/
def unitCheck (s : State) (ad : Addr) (d : Desc) (op : JOp) : Nat :=
  let u := ownerOf (obAddr ad) ad.sub
  let req := (op == .exec) || (d.pers == .v && d.acc != .cmd)
  let up := if op.reads then ad.area == 0x60 || unitOk s u else unitTakes s u
  if s.boot.phase == .run && req && !up then notReady
  else if d.acc == .rws && !op.reads && unitSt s u != .off then stateS
  else okS

/-! ## Messages (R151, R152, R159) -/

/-- A session's entry. -/
def sessOf (s : State) (n : Nat) : Option Sess := tabGet s.jal.sess n

/-- A session set. -/
def setSess (s : State) (n : Nat) (x : Sess) : State := { s with jal := { s.jal with sess := tabPut s.jal.sess n x } }

/-- A message's octets (R140): the header with FLAGS RESP and ACK_VALID (a response never needs MORE), then the body. -/
def msgBytes (version op : Nat) (resp : Bool) (seq ack reqId : Nat) (body : List Byte) : List Byte :=
  leN 1 version ++ leN 1 op ++ leN 1 (4 + b2n resp) ++ [0] ++ leN 4 seq ++ leN 4 ack ++ leN 2 reqId ++ leN 2 body.length ++ body

/-- Marks the messages that fall within the window of 32 as sent at local time t; the rest wait. -/
def openWindow (t : Nat) : Nat → List Unacked → List Unacked
  | _, [] => []
  | 0, l => l
  | n + 1, m :: r => (if m.gap == 0 then { m with gap := 250000000, due := t + 250000000 } else m) :: openWindow t n r

/-- A message with its ACK field as it is when it leaves (R140, R151). -/
def withAck (m : List Byte) (ack : Nat) : List Byte := m.take 8 ++ leN 4 ack ++ m.drop 12

/-- The messages of a list that enter the window now. -/
def leaving (l : List Unacked) : List Unacked := (l.take 32).filter fun m => m.gap == 0

/-- The messages waiting that now fall within the window go out; one that leaves carries the acknowledgement that is due (R151). -/
def windowOut (t : Nat) (se : Sess) (l : List Unacked) : Sess :=
  { se with unacked := openWindow t 32 l, out := se.out ++ (leaving l).map fun m => withAck m.bytes (se.rxSeq - 1)
            ackDue := if (leaving l).isEmpty then se.ackDue else none }

/-- A message of the session takes the next SEQ and joins the messages not acknowledged. -/
def pushMsg (t op : Nat) (resp : Bool) (reqId : Nat) (body : List Byte) (se : Sess) : Sess :=
  let m : Unacked := ⟨se.txSeq, 0, 0, 0, msgBytes se.version op resp se.txSeq (se.rxSeq - 1) reqId body⟩
  windowOut t { se with txSeq := se.txSeq + 1 } (se.unacked ++ [m])

/-- The peer has everything up to SEQ n: the messages and notifications are done with and waiting ones enter the window. -/
def ackTo (t n : Nat) (se : Sess) : Sess :=
  windowOut t { se with nq := se.nq.filter fun m => m.seq > n } (se.unacked.filter fun m => m.seq > n)

/-- A NOTIFY's body (Notifications, R158, R159): one entry. -/
def notifBody (m : Notif) : List Byte :=
  leN 1 m.kind ++ [0] ++ leN 2 1 ++ match m.kind with
    | 2 => leN 4 m.lost ++ leI 8 m.firstTime ++ leI 8 m.lastTime
    | 3 => leN 1 m.reason ++ zeros 7
    | _ => leN 1 m.addr.area ++ [0] ++ leN 2 m.addr.obj ++ leN 2 m.addr.sub ++ leN 2 m.status ++ leI 8 m.time ++ leN 1 m.typ ++
        leN 1 m.vflags ++ leN 2 m.bytes.length ++ m.bytes

/-- A notification joins its session's queue and is sent. -/
def pushNotif (t : Nat) (se : Sess) (m : Notif) : Sess :=
  let m := { m with seq := se.txSeq }
  pushMsg t 9 false m.reqId (notifBody m) { se with nq := se.nq ++ [m] }

/-- The NOTIFY_LOST of R159, when notifications were discarded and space has returned: it takes the place kept for it. -/
def flushLost (s : State) (n : Nat) : State :=
  match sessOf s n with
  | none => s
  | some se =>
    if se.lost == 0 || se.nq.length ≥ 255 then s
    else
      let m : Notif := { kind := 2, seq := 0, lost := se.lost, firstTime := se.lostFirst, lastTime := se.lostLast }
      let c := (tabGetD s.jal.lostCtr n {}).up se.lost 4294967295
      let s := { s with jal := { s.jal with lostCtr := tabPut s.jal.lostCtr n c } }
      setSess s n (pushNotif s.now { se with lost := 0, lostFirst := 0, lostLast := 0 } m)

/-- Queues a notification on a session, behind the NOTIFY_LOST that is due: one place of 256 is kept for NOTIFY_LOST; beyond, it is
discarded and counted. -/
def notify (s : State) (n : Nat) (m : Notif) : State :=
  let s := flushLost s n
  match sessOf s n with
  | none => s
  | some se =>
    if se.nq.length < 255 then setSess s n (pushNotif s.now se { m with time := tai s })
    else
      setSess s n { se with lost := se.lost + 1, lostFirst := if se.lost == 0 then tai s else se.lostFirst, lostLast := tai s }

/-! ## Answers (R141, R146, R153) -/

/-- The answer of a command or write: the state after it, its status, and the type and octets of its result. -/
structure Res where
  s : State
  status : Nat := 0
  typ : Nat := 0
  bytes : List Byte := []

/-- A refusal: nothing changes but the answer. -/
def deny (s : State) (status : Nat) : Res := ⟨s, status, 0, []⟩

/-- A done command without result. -/
def good (s : State) : Res := ⟨s, okS, 0, []⟩

/-- A response's body (R141): MSTATUS, and when it is OK what the operation carries. -/
def respBody (r : Resp) : List Byte :=
  let es := r.entries
  let a (i : Nat) : Nat := nth r.aux i 0
  leN 2 r.mstatus ++ if r.mstatus != okS then [] else match r.op with
    | 2 => leN 2 es.length ++ (es.map fun e => leN 2 e.status ++ leN 1 e.typ ++ leN 1 e.vflags ++ leN 2 e.bytes.length ++ e.bytes).flatten
    | 3 => leN 2 es.length ++ (es.map fun e => leN 2 e.status).flatten
    | 4 => (es.map fun e => leN 2 e.status ++ leN 1 e.typ ++ [0] ++ leN 2 e.bytes.length ++ e.bytes).flatten
    | 5 => leN 4 (a 0) ++ leN 2 (a 1) ++ leN 2 (a 2) ++ (es.map RespE.bytes).flatten
    | 6 => leN 2 (es.takeWhile fun e => e.status == okS).length ++ leN 2 ((es.map RespE.status).getLastD okS)
    | 7 => leN 8 (a 0) ++ leN 2 (a 1) ++ leN 1 (a 2) ++ (es.map RespE.bytes).flatten
    | 8 => leN 2 (a 0)
    | _ => (es.map RespE.bytes).flatten

/-- Sends the responses that may leave: each takes the SEQ of its message. -/
def sendGo (t : Nat) : List Resp → Sess → List Resp × Sess
  | [], se => ([], se)
  | r :: l, se =>
    if r.sent then
      let (k, se) := sendGo t l se
      (r :: k, se)
    else if r.wait.isEmpty then
      let (k, x) := sendGo t l (pushMsg t r.op true r.reqId (respBody r) se)
      ({ r with sent := true, msgSeq := se.txSeq } :: k, x)
    else (r :: l, se)

/-- The responses that may leave, in the order of the requests: none passes one still to be answered (R147). -/
def sendResps (t : Nat) (se : Sess) : Sess :=
  let (k, x) := sendGo t se.resps se
  { x with resps := k }

/-- Stores a response and sends it unless an entry is still to be answered; a request seen is not executed again. -/
def respond (s : State) (n : Nat) (r : Resp) : State :=
  match sessOf s n with
  | none => s
  | some se =>
    let se := { se with reqSeq := max se.reqSeq (r.seq + 1), resps := lastN (se.resps ++ [r]) 32 }
    setSess s n (sendResps s.now se)

/-- Entry idx of a stored response is answered; the response leaves when every entry is. -/
def answerLate (s : State) (n seq idx : Nat) (e : RespE) : State :=
  match sessOf s n with
  | none => s
  | some se =>
    match se.resps.find? fun r => r.seq == seq && r.wait.contains idx with
    | none => s
    | some r =>
      let r' := { r with entries := r.entries.set idx e, wait := without r.wait idx }
      let se := { se with resps := se.resps.map fun x => if x.seq == seq then r' else x }
      setSess s n (sendResps s.now se)

/-- Does Jalyn run: the platform firmware, or the ROM-resident gateway in its place (R164). -/
def jalynUp (s : State) : Bool :=
  s.boot.phase == .run || s.boot.phase == .gateway || s.boot.phase == .recovery || s.boot.phase == .halt

/-- Does the ROM-resident gateway serve the module. -/
def romServes (s : State) : Bool := jalynUp s && s.boot.phase != .run

/-- The message numbers held out of order that now follow. -/
def drainHeld : Nat → Nat → List Nat → Nat × List Nat
  | 0, n, l => (n, l)
  | k + 1, n, l => if l.contains n then drainHeld k (n + 1) (without l n) else (n, l)

/-- A message number received: the next in order, one held, or one already received. -/
def rxNumber (se : Sess) (q : Nat) : Sess :=
  if q == se.rxSeq then
    let (n, l) := drainHeld 32 (q + 1) se.rxHeld
    { se with rxSeq := n, rxHeld := l }
  else if q > se.rxSeq && se.rxHeld.length < 32 then { se with rxHeld := adjoin se.rxHeld q }
  else se

/-- A request's operation code (R141). -/
def ReqBody.op : ReqBody → Nat
  | .read .. => 2 | .write .. => 3 | .exec .. => 4 | .cmd .. => 4 | .tableRead .. => 5 | .tableWrite .. => 6 | .bulk .. => 7
  | .subscribe .. => 8 | .hello _ => 1

/-- An operation before HELLO answers SEQUENCE (R148): on the association that has not sent its HELLO, under version 1.0. The answer is
sent again until it is acknowledged as any message is (R152). -/
def early (s : State) (rq : Req) (op : Nat) : State :=
  match s.jal.assocs.find? fun (_, a) => a.ready && a.sess.isNone with
  | some (k, a) =>
    let m : Unacked := ⟨a.txSeq, 0, 0, 0, msgBytes 0x10 op true a.txSeq rq.seq rq.reqId (leN 2 sequenceS)⟩
    let l := a.unacked ++ [m]
    if jalynUp s then
      { s with jal := { s.jal with
        assocs := tabPut s.jal.assocs k { a with txSeq := a.txSeq + 1, unacked := openWindow s.now 32 l }
        out := s.jal.out ++ (leaving l).map fun m => (a.port, m.bytes) } }
    else s
  | none => s

/-- The stored response to a request that comes again is sent again (R153). -/
def again (se : Sess) (q : Nat) : Sess :=
  match se.resps.find? fun r => r.seq == q && r.sent with
  | some r => { se with ackDue := none
                        out := se.out ++ [msgBytes se.version r.op true r.msgSeq (se.rxSeq - 1) r.reqId (respBody r)] }
  | none => se

/-- Has a session a request of its own still to be handled before one of SEQ q (R147): one held, or one that is not answered yet. -/
def behind (se : Sess) (q : Nat) : Bool := (se.held.any fun h => h.rq.seq < q) || (se.resps.any fun r => !r.sent) || se.left.isSome ||
  se.rest.isSome

/-- Puts a held request in the order of SEQ. -/
def heldPut (h : HeldReq) : List HeldReq → List HeldReq
  | [] => [h]
  | g :: r => if h.rq.seq < g.rq.seq then h :: g :: r else g :: heldPut h r

/-- A request whose turn it is runs; one whose body disagrees with its LENGTH answers LENGTH (R143). -/
def runReq (s : State) (rq : Req) (op : Nat) (run : State → Sess → State) : State :=
  match sessOf s rq.sess with
  | none => s
  | some se =>
    if rq.lenOk then run s se
    else respond s rq.sess { seq := rq.seq, reqId := rq.reqId, op := op, mstatus := lengthS }

/-- The numbers of the messages that carry a request's body are received (R140, R151). -/
def rxParts (se : Sess) (rq : Req) : Sess :=
  rxNumber ((upto (rq.parts - 1)).foldl (fun se k => rxNumber se (rq.seq + 1 - rq.parts + k)) se) rq.seq

/-- A request arrives, its body in one message or more: one handled before is answered from its stored response (R153); one that comes ahead
of its turn is held (R147, R151), out of order only when its number is; otherwise it runs. -/
def onRequest (s : State) (rq : Req) (b : ReqBody) (run : State → Sess → State) : State :=
  match sessOf s rq.sess with
  | none => early s rq b.op
  | some se =>
    if !jalynUp s then s
    else
      let se := { se with lastRx := s.now, noticed := false }
      if rq.seq < se.reqSeq then setSess s rq.sess (again se rq.seq)
      else
        let se := rxParts se rq
        if rq.seq < se.rxSeq && !behind se rq.seq then runReq (setSess s rq.sess se) rq b.op run
        else if (rq.seq < se.rxSeq || se.rxHeld.contains rq.seq) && !(se.held.any fun h => h.rq.seq == rq.seq) then
          setSess s rq.sess { se with held := heldPut ⟨rq, b⟩ se.held }
        else setSess s rq.sess se

/-- Does a command run already (R146). -/
def execRuns (s : State) (ad : Addr) : Bool :=
  (s.jal.sess.any fun (_, se) => se.execs.any fun (_, a) => a == ad) || s.jal.orphans.any fun (_, _, a) => a == ad

/-- Is a status that of a check before the twelfth (R132). -/
def beforeBusy (st : Nat) : Bool :=
  [lengthS, noObject, unitAbsent, lifecycleS, roleS, accessS, typeS, rangeS, notReady, stateS].contains st

/-- The module's answer to EXEC: the checks of R132 and then the command itself, whose own RANGE stands at its place among them. A pending
command is entered as running. -/
def runExec (s : State) (rq : Req) (se : Sess) (ad : Addr) (op : State → Res) (arg : Val) : Res :=
  let c := objCheck s se ad .exec
  if c != okS then deny s c
  else match descOf (obAddr ad) with
    | none => deny s noObject
    | some d =>
      let u := unitCheck s ad d .exec
      let r := op s
      let runs := execRuns s ad
      if !inLims d arg || (r.status == rangeS && (u != okS || runs)) then deny s rangeS
      else if u != okS then deny s u
      else if runs && !beforeBusy r.status then deny s busyS
      else
        if r.status == pendingS then
          match sessOf r.s rq.sess with
          | none => r
          | some se => { r with s := setSess r.s rq.sess { se with execs := se.execs ++ [(rq.reqId, ad)] } }
        else r

/-- The entry of a response that carries an answer. -/
def resE (r : Res) : RespE := ⟨r.status, r.typ, 0, r.bytes⟩

/-- Responds to a one-entry request with its answer. -/
def answer (rq : Req) (op : Nat) (r : Res) : State :=
  respond r.s rq.sess { seq := rq.seq, reqId := rq.reqId, op := op, entries := [resE r],
                        wait := if r.status == deferS then [0] else [] }

/-- A command object executed by a session: the request's own duplicate handling, checks, effect and response. -/
def doExec (s : State) (rq : Req) (ob sub : Nat) (op : State → Res) (arg : Val := []) : State :=
  onRequest s rq (.cmd ob sub arg) fun s se => answer rq 4 (runExec s rq se (addrOf ob sub) op arg)

/-- The result of a command whose session has closed is recorded (R146): object, sub, session, REQ_ID and status. The manual gives the
record no code: a free value (entry 87). -/
def orphanEnd (s : State) (n reqId status : Nat) : State :=
  match s.jal.orphans.find? fun (m, r, _) => m == n && r == reqId with
  | none => s
  | some (_, _, ad) =>
    let (v, s) := fresh { s with jal := { s.jal with orphans := s.jal.orphans.filter fun (m, r, _) => !(m == n && r == reqId) } }
    logRec s (v % 65536) 65 (ints [obAddr ad, ad.sub, n, reqId, status])

/-- A pending command ends: its EXEC_DONE is to be sent on its session (R146). -/
def execEnd (s : State) (n reqId status : Nat) (bytes : List Byte) : State :=
  match sessOf s n with
  | none => orphanEnd s n reqId status
  | some se =>
    match se.execs.find? fun (r, _) => r == reqId with
    | none => orphanEnd s n reqId status
    | some (_, ad) =>
      setSess s n { se with execs := se.execs.filter (fun (r, _) => r != reqId), doneQ := se.doneQ ++ [(reqId, ad, status, bytes)] }

/-! ## Writes (R116, R121, R124) -/

/-- Stages a value of an S object (R124): the first writer becomes the holder; a later value replaces an earlier one. -/
def stageVal (s : State) (n ob sub row : Nat) (v : Val) : Res :=
  if s.jal.commitRow.isSome || s.jal.commitMid.isSome then deny s busyS
  else if s.jal.holder.isSome && s.jal.holder != some n then deny s busyS
  else
    let k := okey ob sub row
    let st := if s.jal.stage.any (fun (j, _) => j == k) then s.jal.stage.map (fun (j, w) => if j == k then (j, v) else (j, w))
              else s.jal.stage ++ [(k, v)]
    good { s with jal := { s.jal with stage := st, holder := some n } }

/-- The value of an S object a STAGED read returns. -/
def stagedVal (s : State) (ob sub row : Nat) : Val :=
  match s.jal.stage.find? fun (j, _) => j == okey ob sub row with
  | some (_, v) => v
  | none => s.val ob sub row

/-- One decoded value written by session n: the unit's readiness, the RWS condition, staging or the object's own write. -/
def writeVal (s : State) (n : Nat) (ad : Addr) (row : Nat) (d : Desc) (v : Val)
    (hook : State → Nat → Nat → Nat → Nat → Val → Res) : Res :=
  if !inLims d v then deny s rangeS
  else
    let u := unitCheck s ad d .write
    if u != okS then deny s u
    else if d.pers == .s then stageVal s n (obAddr ad) ad.sub row v
    else hook s n (obAddr ad) ad.sub row v

/-- One WRITE entry; `put` writes the decoded value. -/
def writeEntry (s : State) (se : Sess) (e : WEntry) (put : State → Desc → Val → Res) : Res :=
  let c := objCheck s se e.addr .write
  if c != okS then deny s c
  else if lockedRow (obAddr e.addr) e.addr.sub 0 && (obAddr e.addr == 0x480030) then deny s accessS
  else match descOf (obAddr e.addr) with
    | none => deny s noObject
    | some d =>
      match d.typ with
      | .one (.oct m) => if m > 1024 then deny s lengthS else
        match decVal d.typ e.typ e.bytes with
        | .error x => deny s x
        | .ok v => put s d v
      | .tbl _ _ => deny s lengthS
      | ty =>
        match decVal ty e.typ e.bytes with
        | .error x => deny s x
        | .ok v => put s d v

/-- The WRITE entry that carries a value of an object. -/
def entryFor (ob sub : Nat) (v : Val) : WEntry :=
  match descOf ob with
  | some d => ⟨addrOf ob sub, typCode d.typ, encVal d.typ v⟩
  | none => ⟨addrOf ob sub, 0, []⟩

/-- A WRITE of one entry by a session; the ROM-resident gateway provides none (R164). -/
def doWrite (s : State) (rq : Req) (ob sub : Nat) (v : Val) (hook : State → Nat → Nat → Nat → Nat → Val → Res) : State :=
  onRequest s rq (.write [entryFor ob sub v]) fun s se =>
    if romServes s then respond s rq.sess { seq := rq.seq, reqId := rq.reqId, op := 3, mstatus := unsupported }
    else answer rq 3 (writeEntry s se (entryFor ob sub v) fun s d v => writeVal s rq.sess (addrOf ob sub) 0 d v hook)

/-- A write that only stores. -/
def plainHook (s : State) (_n ob sub row : Nat) (v : Val) : Res := good (s.put ob sub row v)

/-! ## The stage set and the end of a session (R128, R154) -/

/-- Empties the stage set without effect. -/
def stageDrop (s : State) : State :=
  logRec { s with jal := { s.jal with stage := [], holder := none }, vault := { s.vault with bundlePend := none } } 0x0134 65 []

/-- The content that BULK has written into an object is discarded. -/
def bulkDrop (s : State) (ad : Addr) : State :=
  if obAddr ad == 0x010020 then { s with boot := { s.boot with fwBuf := [] } }
  else if obAddr ad == 0x020030 then { s with jal := { s.jal with bundle := [] } }
  else if obAddr ad == 0x300012 then setPart s ad.sub { partOf s ad.sub with image := [] }
  else s

/-- BULK content taken over whole: no session's close discards it any more (R145). -/
def bulkEnd (s : State) (ad : Addr) : State :=
  { s with jal := { s.jal with sess := tabMap (fun _ (x : Sess) => { x with bulk := x.bulk.filter (· != ad) }) s.jal.sess } }

/-- Closes a session for a reason: its subscriptions, queue, partial BULK content and stage set go with it; its pending commands run on
(R146). The holder's own commit once accepted runs to its end, as R126 and R146 have it, with the set it takes (R128; DESIGN CHOICE,
entry 88). -/
def closeSess (s : State) (n reason : Nat) : State :=
  match sessOf s n with
  | none => s
  | some se =>
    let s := { s with jal := { s.jal with
      sess := tabDel s.jal.sess n
      orphans := s.jal.orphans ++ se.execs.map fun (r, a) => (n, r, a)
      out := s.jal.out ++ se.out.map fun m => (se.port, m) } }
    let s := logRec s 0x0131 65 (ints [n, reason])
    let s := if s.jal.holder == some n && !((s.jal.commitOwn && s.jal.commitRow.isSome) || s.jal.commitMid.isSome) then stageDrop s else s
    let s := { s with jal := { s.jal with assocs := s.jal.assocs.filter fun (_, a) => a.sess != some n } }
    let s := se.bulk.foldl bulkDrop s
    match s.vault.shadow with
    | some h => if h.sess == n then { s with vault := { s.vault with shadow := none } } else s
    | none => s

end Sys2Proof.Machine
end

