-- ==== Sys2Proof/Machine/Query.lean ====
section
/-! DEFINITION. What the units compute from the state without changing it: the values that reads, windows and checks share. -/

namespace Sys2Proof.Machine

/-- A ring's state. -/
def ringOf (s : State) (q : Nat) : Ring := tabGetD s.tt.rings q {}

/-- A ring's OWNER: 0 to 63, 0xFF the platform, 0xFE none. -/
def rOwner (s : State) (q : Nat) : Nat := s.fn 0x310010 q 0

/-- Ring indices are 32 bits wide. -/
def w32 (n : Nat) : Nat := n % 4294967296

/-- The distance from index a up to index b. -/
def idxDist (a b : Nat) : Nat := w32 (b + 4294967296 - w32 a)

/-- PART_CONFIG's field i of partition p. -/
def pcfg (s : State) (p i : Nat) : Nat := s.fn 0x300010 p i

/-- A flow. -/
def flowOf (s : State) (f : Nat) : Option Flow := tabGet s.tt.flows f

/-- Items of a partition in the ready list. -/
def readyCount (s : State) (p : Nat) : Nat := (s.tt.ready.filter fun i => i.part == p).length

/-- A key slot. -/
def slotOfKey (s : State) (k : Nat) : KeySlot := tabGetD s.vault.slots k {}

/-- A traffic key's state: 0 EMPTY, 1 READY, 2 STALE, 3 DERIVING (R506). -/
def tkState (s : State) (i : Nat) : Nat :=
  let t := tabGetD s.vault.tkeys i {}
  if t.st == 1 && t.gen != (slotOfKey s (s.fn 0x480020 i 1)).gen then 2 else t.st

/-- Is a traffic key VALID and READY. -/
def tkReady (s : State) (i : Nat) : Bool := s.fb 0x480020 i 0 && tkState s i == 1

/-- Is a traffic key provisioned for a use bit (R504). -/
def tkFor (s : State) (i use : Nat) : Bool := tkReady s i && bit (s.fn 0x480020 i 3) use

/-- Does the life cycle admit the use of a slot: its attribute names the state, and the state is none in which no slot is used (R510). -/
def keyLife (s : State) (x : KeySlot) : Bool := life s < 3 && bit x.attr.life (life s)

/-- Is a slot usable. -/
def keyOk (s : State) (x : KeySlot) : Bool := x.st == 1 && keyLife s x

/-- The lowest usable WORLD 0 slot with a USE bit (R507, R508; of several the lowest: DESIGN CHOICE, entry 105). -/
def hubSlot (s : State) (use : Nat) : Option Nat :=
  (upto 64).find? fun n => let k := slotOfKey s n
    keyOk s k && k.attr.world == 0 && bit k.attr.use use

/-- Is there such a slot. -/
def hubKey (s : State) (use : Nat) : Bool := (hubSlot s use).isSome

/-- "tzm-beacon". -/
def beaconInfo : List Byte := [0x74, 0x7A, 0x6D, 0x2D, 0x62, 0x65, 0x61, 0x63, 0x6F, 0x6E]

/-- The traffic entry that is the beacon key (R507): READY, of USE BEACON, derived by HKDF with INFO "tzm-beacon" from a usable WORLD 0 slot
of USE BEACON. -/
def beaconEntryOf (s : State) : Option Nat :=
  (upto 32).find? fun i =>
    let k := slotOfKey s (s.fn 0x480020 i 1)
    tkFor s i 4 && s.fn 0x480020 i 2 == 1 && trimZ (vO (s.val 0x480020 i 0) 6) == beaconInfo &&
      keyOk s k && k.attr.world == 0 && bit k.attr.use 4

/-- Is the beacon key usable (R507). -/
def beaconKey (s : State) : Bool := (beaconEntryOf s).isSome

/-- Are the beacon and handover keys usable (R507). -/
def pairKeys (s : State) : Bool := hubKey s 3 && beaconKey s

/-- A claim domain. -/
def claimOf (s : State) (d : Nat) : Claim := tabGetD s.pair.claims d {}

/-- Does the unit hold a domain: no claim above its own has been seen within the last claim window (R453). -/
def holder (s : State) (d : Nat) : Bool :=
  match (claimOf s d).heard with
  | some t => decide (t + s.vn 0x400006 0 < s.now)
  | none => true

/-- Is bit n of the partner's last valid report card's 64-bit field at an offset set: 0x28 FIT, 0x30 HOLDING, 0x38 RUNNING, 0x40 IN_STEP
(R471). -/
def partnerBit (s : State) (off n : Nat) : Bool :=
  match s.pair.partRpt with
  | some card => bit (ofLe ((card.drop off).take 8)) n
  | none => false

/-- The unit's claim number for a domain: epoch and rank (R453). -/
def claimNo (s : State) (d : Nat) : Nat := (claimOf s d).epoch * 256 + s.pair.rank

/-- The claim domain of a partition. -/
def domainOf (s : State) (p : Nat) : Nat := pcfg s p 14

/-- Octets most significant first as a number. -/
def ofBe (l : List Byte) : Nat := ofLe l.reverse

/-- A board as the driver knows it. -/
def boardOf (s : State) (b : Nat) : Board := tabGetD s.pair.bol.boards b {}

/-- The group of a port; 3 for none. -/
def groupOf (n : Nat) : Nat := if n < 6 then n / 2 else 3

/-- GROUP_MODE of a group: 0 INDEPENDENT, 1 PRP, 2 HSR. -/
def gmode (s : State) (g : Nat) : Nat := if g < 3 then s.vn 0x110001 g else 0

/-- Is a port's link UP. -/
def linkUp (s : State) (n : Nat) : Bool := (portOf s n).st == 2

/-- A port's own MAC address (R168): in a PRP or HSR group that of the lower port. -/
def ownMac (s : State) (n : Nat) : Nat :=
  s.ident.macBase + (if n < 6 then (if gmode s (groupOf n) != 0 then 2 * groupOf n else n) else if n == 8 then 6 else 7)

/-- A publish block. -/
def gbOf (s : State) (b : Nat) : GBlock := tabGetD s.pub.blocks b {}

/-- A cage. -/
def cageOf (s : State) (n : Nat) : Cage := tabGetD s.hw.cages n {}

/-- PORT_ADMIN. -/
def adminOn (s : State) (n : Nat) : Bool := s.vb 0x100001 n

/-- LINK_STATE: 0 DISABLED, 1 DOWN, 2 UP, 3 NO_TRANSCEIVER, 4 UNSUPPORTED. -/
def linkState (s : State) (n : Nat) : Nat :=
  if !adminOn s n then 0
  else if linkUp s n then 2
  else if n < 8 && !(cageOf s n).present then 3
  else (portOf s n).st

/-- BASE_RATE in samples/s. -/
def baseHz (s : State) : Nat := if s.vn 0x210001 0 == 1 then 14400 else 4800

/-- L, M, K and F of a converter (R267). -/
def convPar (c : Nat) : Nat × Nat × Nat × Nat :=
  match c with
  | 0 => (6, 5, 7, 3)
  | 1 => (9, 8, 9, 4)
  | 2 => (15, 16, 9, 4)
  | 3 => (1, 3, 11, 5)
  | _ => (3, 1, 5, 2)

/-- The input rate of a converter. -/
def convRate (c : Nat) : Nat := match c with
  | 0 => 4000 | 1 => 12800 | 2 => 15360 | 3 => 14400 | _ => 4800

/-- The look-ahead A of a converter in ns, to the nearest. -/
def convA (c : Nat) : Nat := ((convPar c).2.2.2 * 2000000000 + convRate c) / (2 * convRate c)

/-- A product over a list. -/
def prodI (l : List Int) : Int := l.foldl (· * ·) 1

/-- The index of the first element of largest magnitude. -/
def bigIdx (l : List Int) : Nat :=
  let m := maxN (l.map Int.natAbs)
  l.findIdx fun c => c.natAbs == m

/-- The rounded coefficients of a Lagrange phase before their correction (R269 steps 1 and 2): x = num / L. -/
def lagRaw (k l : Nat) (num : Int) : List Int :=
  (upto k).map fun n =>
    let others := (upto k).filter (· != n)
    ratRound (8388608 * prodI (others.map fun (m : Nat) => num - ((m * l : Nat) : Int)))
      (prodI (others.map fun (m : Nat) => (l : Int) * ((n : Int) - (m : Int))))

/-- The coefficients of converter c's phase p, oldest input first (R269, R270). -/
def convCoef (c p : Nat) : List Int :=
  if c == 3 then [-65129, -178367, 0, 886005, 2160234, 2783122, 2160234, 886005, 0, -178367, -65129]
  else
    let (l, _, k, f) := convPar c
    let num : Nat := if p == 0 then (k - 1 - f) * l else (k - 2 - f) * l + p
    let raw := lagRaw k l num
    let i := bigIdx raw
    raw.set i (nth raw i 0 + (8388608 - raw.foldl (· + ·) 0))

/-- The counter with its fraction, in 2^-32 ns. -/
def tai32 (s : State) : Int := tai s * 4294967296 + s.tm.frac

/-- The newest row whose time is at or before a time in 2^-32 ns. -/
def rowAt (s : State) (t : Int) : Nat := (t * (baseHz s : Int) / (1000000000 * 4294967296)).toNat

/-- The current row c. -/
def curRow (s : State) : Nat := rowAt s (tai32 s)

/-- An entry's CHANNELS. -/
def subCh (v : Val) : Nat := vN v 7

/-- The number of seat units of an entry. -/
def subUnits (v : Val) : Nat := ceilDiv (subCh v) 8

/-- A stream. -/
def streamOf (s : State) (e : Nat) : Stream := tabGetD s.plan.streams e {}

/-- An IUL lane. -/
def laneOf (s : State) (n : Nat) : Lane := tabGetD s.pair.lanes n {}

/-- The lanes that are up. -/
def lanesUp (s : State) : List Nat := [0, 1].filter fun n => (laneOf s n).st ≥ 2

/-- V, the IUL rate in Mbit/s (R429). -/
def iulRate (s : State) : Nat := sumN ((lanesUp s).map fun n => if (laneOf s n).st == 3 then 25000 else 10000)

/-- A partition's part in the pair. -/
def stepOf (s : State) (p : Nat) : StepSt := tabGetD s.pair.steps p {}

/-- STEP_STATE (40.0024): NOT_PAIRED while the unit is STANDALONE or unsettled or the partition is not created. -/
def stepState (s : State) (p : Nat) : Nat :=
  if s.pair.st == 0 || !settled s || (partOf s p).st == .none then 0 else max 1 (stepOf s p).st

/-- The created partitions. -/
def created (s : State) : List Nat := (s.parts.ps.filter fun (_, x) => x.st != .none).map Prod.fst

/-- A PTP port. -/
def ptpOf (s : State) (p : Nat) : PtpPort := tabGetD s.tm.ports p {}

/-- An address's octets on the wire. -/
def macBytes (a : Nat) : List Byte := (leN 6 a).reverse

/-- SmpSynch of republished samples (R234). -/
def smpSynch (s : State) : Nat :=
  if s.tm.quality == 2 then 0
  else if s.tm.quality == 1 then s.tm.synch
  else match s.tm.source, s.tm.parent with
    | 1, some (_, a) => if a.gmClass == 6 || a.gmClass == 7 then 2 else 1
    | 2, _ => if s.tm.irigTq == 0 then 2 else 1
    | _, _ => 1

/-- The time-quality octet of GOOSE t (R234): LeapSecondsKnown, ClockFailure, ClockNotSynchronized and TimeAccuracy. -/
def timeOctet (s : State) : Nat :=
  128 * b2n s.tm.utcValid + 64 * b2n (s.hw.osc == 2) + (if s.tm.quality == 2 then 32 + 31 else 20)

/-- CLOCK_IDENTITY: the EUI-64 of MAC_BASE. -/
def clockIdentity (s : State) : List Byte :=
  let m := macBytes s.ident.macBase
  m.take 3 ++ [0xFF, 0xFE] ++ m.drop 3

/-- The factory calibration of a port for the mode its link runs in. -/
def portCal (s : State) (cal : Tab Int) (n : Nat) : Int := tabGetD cal (n * 65536 + (portOf s n).speed) 0

/-- The stamp of a frame whose first bit passes port n now, on receipt (R220, R221). -/
def rxStamp (s : State) (n : Nat) : Int := tai s - portCal s s.ident.calRx n - (if n < 6 then s.vi 0x180033 n else 0)

/-- The stamp of a frame whose first bit passes port n now, on transmission. -/
def txStamp (s : State) (n : Nat) : Int := tai s - portCal s s.ident.calTx n - (if n < 6 then s.vi 0x180034 n else 0)

/-- A subscription entry's state. -/
def gsOf (s : State) (e : Nat) : GSub := tabGetD s.pub.subs e {}

/-- A claim latch. -/
def latchOf (s : State) (k : Nat) : Latch := tabGetD s.pub.latches k {}

/-- The created partitions that name a domain. -/
def domParts (s : State) (d : Nat) : List Nat := (created s).filter fun p => domainOf s p == d

/-- A process-bus port has had its link up within ISOLATION_TIME. -/
def pbOk (s : State) : Bool :=
  [0, 1, 2, 3].any (linkUp s) || match s.pair.pbUp with
    | some t => decide (s.now < t + s.vn 0x40000B 0)
    | none => false

/-- Fitness but for the isolation condition (R454, R507). -/
def fitBut (s : State) (d : Nat) : Bool :=
  life s == 2 && running s && !s.boot.lapsed && !s.pf.blocked && pairKeys s && !(domParts s d).isEmpty &&
    (domParts s d).all fun p => match pst s p with
      | .running => true
      | .stopping => true
      | .frozen => true
      | _ => false

/-- Is the unit fit for a domain. -/
def fit (s : State) (d : Nat) : Bool := fitBut s d && pbOk s

/-- BANK_STATE codes: 0 EMPTY, 1 WRITING, 2 LOADED, 3 BAD, 4 ACTIVE, 5 ARMED, 6 FADING_IN, 7 FADING_OUT; bank A is ACTIVE and bank B EMPTY
at provisioning (R564). -/
def bankSt (s : State) (b : Nat) : Nat := tabGetD s.cond.banks b (if b % 2 == 0 then 4 else 0)

/-- A profile's run-time state: 0 IDLE, 1 ARMED, 2 FADING. -/
def profOf (s : State) (p : Nat) : Profile := tabGetD s.cond.profiles p {}

/-- The active bank of a profile, as a bank number. -/
def actBank (s : State) (p : Nat) : Nat := 2 * p + (profOf s p).active

/-- The other bank. -/
def othBank (s : State) (p : Nat) : Nat := 2 * p + (1 - (profOf s p).active)

/-- N1 of a bank. -/
def bN1 (s : State) (b : Nat) : Nat := s.fn 0x240011 b 0

/-- N2 of a bank. -/
def bN2 (s : State) (b : Nat) : Nat := s.fn 0x240011 b 1

/-- The valid groups. -/
def groups (s : State) : List Nat := (s.subsOf 0x240020).filter fun g => s.fb 0x240020 g 0

/-- A group's profile. -/
def gProf (s : State) (g : Nat) : Nat := s.fn 0x240020 g 1

/-- A group's channels: subscription entry and channel. -/
def gChans (s : State) (g : Nat) : List (Nat × Nat) := (s.rows 0x240021 g).map fun v => (vN v 0, vN v 1)

/-- The stage-2 histories in use. -/
def histUsed (s : State) : Nat :=
  sumN ((groups s).map fun g =>
    let p := gProf s g
    let n := (gChans s g).length
    n * (b2n (bN2 s (actBank s p) != 0) + b2n ((profOf s p).st != 0 && bN2 s (othBank s p) != 0)))

/-- LOAD: multiply-accumulates in the worst row. -/
def condLoad (s : State) : Nat :=
  sumN ((groups s).map fun g =>
    let p := gProf s g
    let n := (gChans s g).length
    let a := actBank s p
    let o := othBank s p
    n * (bN1 s a + bN2 s a) +
      (if (profOf s p).st == 1 && bN2 s o != 0 then n * bN1 s o else if (profOf s p).st == 2 then n * (bN1 s o + bN2 s o) else 0))

/-- The budget for the working arrays. -/
def condBudget (s : State) : Nat :=
  if unitSt s 9 == .fault then 0 else if s.cond.failed.isEmpty then 2621440 else if s.cond.failed.length == 1 then 1966080 else 0

/-- A partition's map. -/
def imgMap (s : State) (t : Nat) : List (Nat × Nat) := (s.rows 0x240030 t).map fun v => (vN v 0, vN v 1)

/-- IMAGE_BYTES of a map. -/
def imgBytes (s : State) (t : Nat) : Nat :=
  sumN ((imgMap s t).map fun (k, i) =>
    if k == 0 then 80 * ceilDiv (s.fn 0x200100 i 7) 8 else 16 + 8 * (gChans s i).length)

/-- DMA operations of a partition in flight; a fence frees the tags of those it suppresses (R337). -/
def dmaCount (s : State) (p : Nat) : Nat := (s.tt.dma.filter fun (_, o) => o.part == p && !o.suppressed).length

/-- A channel's state. -/
def chanOf (s : State) (c : Nat) : Chan := tabGetD s.ph.chans c {}

/-- A task. -/
def taskOf (s : State) (j : Nat) : Task := tabGetD s.lg.tasks j {}

/-- A partition's retained data. -/
def retainOf (s : State) (p : Nat) : Retain := tabGetD s.lg.retain p {}

/-- The number of valid force rows. -/
def forcesAll (s : State) : Nat := ((s.rows 0x380041 0).filter fun v => vB v 0).length

/-- The code of a state. -/
def PSt.code : PSt → Nat
  | .none => 0 | .stopped => 1 | .starting => 2 | .running => 3 | .stopping => 4 | .resetting => 5 | .fault => 6 | .frozen => 7
  | .restoring => 8

/-- Is a partition valid. -/
def partValid (s : State) (p : Nat) : Bool := p < 64 && s.fb 0x300010 p 0

/-- The partitions valid after the commit. -/
def partsIn (n : State) : List Nat := (n.subsOf 0x300010).filter fun p => partValid n p

/-- The pool of an allowance. -/
def poolOf (n : State) (i : Nat) : Nat :=
  match i with
  | 3 => 32768 | 4 => 240 | 5 => 16384 | 6 => 1024 | 7 => if baseHz n == 4800 then seatCap n else seatCap n / 3
  | 8 => 512 | 9 => 64 | 10 => 256 | 11 => 256 | 13 => 2048 | _ => 4294967295

/-- The SRAM pool of a die, as DIE names it (R16): the hub's less its fixed regions. -/
def sramPool (n : State) (die : Nat) : Nat :=
  if die == 1 then 33554432 - 64 * 80 * seatCap n - 1048576 - 4194304 else if die ≤ dieCount n + 1 then 16777216 else 0

/-- The LPDDR5 that partitions and the capture engine share (R3, R18). -/
def dramTotal (n : State) : Nat := (if n.ident.variant == 2 then 8 else 16) * 1073741824 - 67108864

/-- The LPDDR5 pool (R18). -/
def dramPool (n : State) : Nat := dramTotal n - (if n.ident.optC then n.cap.area else 0)

/-- The LPDDR5 a commit may give partitions: what the capture area in force, and the one the next hub start puts in force, leave (R3; log
entry 80). -/
def dramCap (n : State) : Nat := dramTotal n - (if n.ident.optC then max n.cap.area (n.vn 0x5C0001 0) else 0)

/-- The bytes valid partitions take of a kind and die. -/
def regionSum (n : State) (kind die : Nat) : Nat :=
  sumN ((partsIn n).map fun p => sumN ((n.rows 0x300011 p).map fun v => if vN v 2 == kind && vN v 3 == die then vN v 1 else 0))

/-- The valid recorders. -/
def recorders (s : State) : List Nat := (s.subsOf 0x5C0020).filter fun k => k < 16 && s.fb 0x5C0020 k 0

/-- A field of a recorder. -/
def rcF (s : State) (k i : Nat) : Nat := s.fn 0x5C0020 k i

/-- Is the power-fail sequence under way (R101). -/
def pfRuns (s : State) : Bool :=
  match s.hw.pfSeq with
  | some t => decide (s.now < t)
  | none => false

/-- Does the engine run recorders (R562); one that only this module of a pair has is not used (R11). -/
def capOn (s : State) : Bool := unitOk s 16 && hubLive s && pairUses s 1

/-- A recorder's run. -/
def recOf (s : State) (k : Nat) : Recorder := tabGetD s.cap.recs k {}

/-- The analog channels of a recorder, in list order. -/
def rcAnalog (s : State) (k : Nat) : List Nat := (s.rows 0x5C0021 k).map fun v => vN v 0

/-- The binary channels of a recorder, in list order. -/
def rcBinary (s : State) (k : Nat) : List Nat := (s.rows 0x5C0022 k).map fun v => vN v 0

/-- RECORDER_STATE's STATE (R553): a valid recorder of a working engine that has not sampled yet is ARMED. -/
def recState (s : State) (k : Nat) : Nat := if rcF s k 0 == 0 || !capOn s then 0 else max 1 (recOf s k).st

/-- The length of a sample of a recorder (R550, R557). -/
def rcLen (s : State) (k : Nat) : Nat :=
  let na := (rcAnalog s k).length
  let nb := (rcBinary s k).length
  let per := if rcF s k 1 == 1 && rcF s k 14 != 0 then 12 else 4
  (16 + per * na + 4 * ceilDiv na 32 + 4 * ceilDiv nb 32 + 7) / 8 * 8

/-- The trim's corrections that have fallen once so many pulses of the present second have passed (R523): the second receives
floor(|TRIM| / 64) or ceil(|TRIM| / 64) of them; which, and where in it they fall, R523 leaves open. -/
def trimDone (s : State) (pulses : Nat) : Nat :=
  let n := s.rtc.trim.natAbs
  let i := s.rtc.trimSecs % 64
  min ((i + 1) * n / 64 - i * n / 64) (Config.trimSpread i pulses)

/-- PRESCALE: crystal pulses within the second with the trim's corrections; held while the crystal is stopped (R519, R523). -/
def prescale (s : State) : Nat :=
  match s.rtc.stopped with
  | some p => p
  | none =>
    let n := (s.now - s.rtc.secBase) * 32768 / 1000000000
    min 32767 (if s.rtc.trim < 0 then n - trimDone s n else n + trimDone s n)

/-- A Jalyn read of RTC_NOW reads each of the three registers: a latch that served it is released (R521). -/
def nowRead (s : State) (ob : Nat) : State :=
  if ob == 0x500001 then { s with rtc := { s.rtc with latch := none, latchRead := [] } } else s

/-- The trickle charger: the current in microamperes that it sources and the limit in millivolts at VBAK at which it stops, none while it
is held off (R52, R529, R530). -/
def trickle (s : State) : Option (Nat × Nat) :=
  if !s.hw.vinGood || s.vn 0x500010 0 == 1 || s.fn 0x500011 0 0 == 0 then none
  else some ([100, 250, 500, 1000].getD (s.fn 0x500011 0 1) 0, [2800, 3000, 3300].getD (s.fn 0x500011 0 2) 0)

/-- RTC_STAT (R520). -/
def rtcStat (s : State) : Nat :=
  let r := s.rtc
  b2n r.osf + 2 * b2n r.oscRun + 4 * b2n r.fired + 8 * b2n r.skipped + 16 * b2n r.staged.isSome + 32 * b2n r.onBackup +
    64 * b2n (s.vn 0x500010 0 == 1)

/-- A code's bucket, full until it loses a token. -/
def codeOf (s : State) (c : Nat) : LogCode := tabGetD s.logb.codes c { tokens := s.fn 0x580020 c 1 }

/-- The records at or after a 32-bit SEQ, ordered against LOG_NEWEST_SEQ. -/
def logFrom (s : State) (q : Nat) : List LogRec :=
  let d := idxDist q s.logb.seq
  if d < 2147483648 then s.logb.recs.filter fun r => r.num + d ≥ s.logb.seq else []

/-- A firmware slot. -/
def fwOf (s : State) (k : Nat) : FwSlot := tabGetD s.boot.slots k {}

/-- A dump slot. -/
def dumpOf (s : State) (k : Nat) : Dump := tabGetD s.boot.dumps k {}

/-- A latch still held. -/
def latchNow (s : State) : Option (Cal × Nat) := if s.now ≥ s.rtc.latchDue then none else s.rtc.latch

end Sys2Proof.Machine
end

