-- ==== Sys2Proof/Machine/Reads.lean ====
section
/-! DEFINITION. What a read of an object returns: the live values of the units, the kept values, the counters. -/

namespace Sys2Proof.Machine

/-- An unsigned number's field. -/
def nv (n : Nat) : Option Val := some [.n n]

/-- A signed number's field. -/
def iv (i : Int) : Option Val := some [.i i]

/-- An octet string's field. -/
def ov (l : List Byte) : Option Val := some [.o l]

/-- PART_NUMBER (R2): TZM-, the variant, the fitted options, -E. -/
def partNumber (d : Identity) : List Byte :=
  [0x54, 0x5A, 0x4D, 0x2D, BitVec.ofNat 8 (0x30 + d.variant)] ++ (if d.optP then [0x50] else []) ++ (if d.optC then [0x43] else []) ++
    (if d.optM then [0x4D] else []) ++ (if d.optV then [0x56] else []) ++ (if d.optO then [0x4F] else []) ++ [0x2D, 0x45]

/-- Area 00: identity. -/
def live00 (s : State) (obj : Nat) : Option Val :=
  match obj with
  | 0x0001 => ov (partNumber s.ident)
  | 0x0002 => ov s.ident.serial
  | 0x0010 => nv s.ident.variant
  | 0x0011 => nv 0
  | 0x0020 => nv (unitsPresent s)
  | 0x0021 => nv (seatCap s)
  | 0x0022 => nv (partCap s)
  | _ => none

/-- Area 01: start-up and life cycle. -/
def live01 (s : State) (obj sub : Nat) : Option Val :=
  match obj with
  | 0x0001 => nv (life s)
  | 0x0010 => nv s.boot.resetCause
  | 0x0012 => nv s.boot.bootSlot
  | 0x0013 => nv s.boot.svnMin
  | 0x0023 => let x := fwOf s sub
    some [.n x.st, .n (b2n x.active), .n x.svn, .o (padTo 48 x.digest)]
  | 0x0100 => nv (unitSt s sub).code
  | 0x0101 => iv (rollOf s sub).since
  | _ => none

/-- Area 02: Jalyn. -/
def live02 (s : State) (obj sub : Nat) : Option Val :=
  match obj with
  | 0x0007 => nv 3
  | 0x0010 => nv s.jal.sess.length
  | 0x0011 => (match sessOf s sub with
    | some x => some [.n (match x.role with | .obs => 0 | .opr => 1 | .eng => 2 | .sec => 3 | .mgr => 4 | .ptn => 5), .n x.part, .n x.port,
        .n x.version, .n x.suite, .o x.name, .i x.since]
    | none => none)
  | 0x0013 => nv (tabGetD s.jal.lostCtr sub {}).v
  | 0x0020 => nv (s.jal.holder.getD 0xFF)
  | 0x0021 => nv s.jal.stage.length
  | 0x0024 => nv s.jal.lastCommitRow
  | _ => none

/-- Areas 10 and 11: ports and groups. -/
def live10 (s : State) (obj sub : Nat) : Option Val :=
  let x := portOf s sub
  match obj with
  | 0x0003 => nv (linkState s sub)
  | 0x0004 => nv (if linkUp s sub then x.speed else 0)
  | 0x0005 => nv (if !linkUp s sub then 0 else if sub == 6 || sub == 7 then 1 else if sub < 4 && x.speed == 10000 then 1 + 8 * b2n (s.vb 0x100016 sub) else x.partner)
  | 0x0006 => x.sfp.map fun i => [.n i.identifier, .n i.connector, .o (padTo 8 i.compliance), .o i.vendor, .o i.part, .o i.serial, .n i.wavelength,
      .n (b2n i.ccBaseOk)]
  | 0x0007 => x.ddm.map fun d => [.i d.temp, .n d.vcc, .n d.bias, .n d.txPower, .n d.rxPower]
  | 0x0010 => ov (macBytes (ownMac s sub))
  | _ => none

/-- An announced grandmaster's fields in PARENT_DS, and the port it is heard on. -/
def parentDs (a : Announce) (p : Nat) : Val :=
  [.o (padTo 8 a.gmIdentity), .n a.gmClass, .n a.gmAccuracy, .n a.gmVariance, .n a.priority1, .n a.priority2, .n a.stepsRemoved, .n p]

/-- Area 18: time. -/
def live18 (s : State) (obj sub : Nat) : Option Val :=
  match obj with
  | 0x0001 => iv (tai s)
  | 0x0002 => nv s.tm.quality
  | 0x0003 => nv s.tm.source
  | 0x0004 => nv s.tm.incr
  | 0x0006 => nv s.tm.leap
  | 0x0007 => iv s.tm.holdSince
  | 0x000A => iv s.tm.lastStep
  | 0x0026 => ov (clockIdentity s)
  | 0x0027 => s.tm.parent.map fun (p, a) => parentDs a p
  | 0x0028 => iv s.tm.offset
  | 0x0031 => nv (ptpOf s sub).st
  | 0x0032 => nv (ptpOf s sub).delay
  | 0x0040 => nv s.tm.irigSt
  | 0x0041 => nv s.tm.irigCode
  | 0x0043 => nv s.tm.ppsSt
  | 0x0044 => iv (max (-2147483648) (min s.tm.ppsOff 2147483647))
  | _ => none

/-- The code of a stream's rate in the hardware image. -/
def rateCode (r : Nat) : Nat := if r == 4000 then 0 else if r == 4800 then 1 else if r == 12800 then 2 else if r == 14400 then 3 else 4

/-- SUB_IMAGE: the hardware image of the active entry (20.0102). -/
def subImage (s : State) (e : Nat) : List Byte :=
  let f i := s.fn 0x200100 e i
  let d := vO (s.val 0x200100 e 0) 2
  leN 32 (f 1 % 16 * 2 ^ 3 + f 7 % 32 * 2 ^ 7 + rateCode (f 6) * 2 ^ 12 + (f 10 - 1) % 8 * 2 ^ 15 + f 9 % 4 * 2 ^ 18 + f 12 % 4 * 2 ^ 20 +
    f 13 % 2 * 2 ^ 22 + f 15 % 32 * 2 ^ 23 + f 14 % 4 * 2 ^ 28 + f 16 % 2 * 2 ^ 30 + f 0 % 2 * 2 ^ 31 + f 4 % 4096 * 2 ^ 32 +
    f 3 % 65536 * 2 ^ 48 + f 8 % 1024 * 2 ^ 64 + ofBe (padTo 6 d) * 2 ^ 80 + crc32c (vO (s.val 0x200101 e 0) 0) * 2 ^ 128 +
    f 5 % 4294967296 * 2 ^ 160 + f 17 % 65536 * 2 ^ 192 + (f 11 - 1) % 64 * 2 ^ 218)

/-- The valid subscription entries. -/
def validSubs (s : State) : List Nat := (s.subsOf 0x200100).filter fun e => s.fb 0x200100 e 0

/-- Areas 20 and 21: ingest and seating plan. -/
def live20 (s : State) (obj sub : Nat) : Option Val :=
  match obj with
  | 0x0102 => ov (subImage s sub)
  | 0x0110 => nv (streamOf s sub).st
  | 0x0111 => iv (streamOf s sub).since
  | 0x0112 => nv (streamOf s sub).learnedRate
  | 0x0113 => nv (streamOf s sub).learnedCh
  | 0x0114 => nv (streamOf s sub).rawSynch
  | 0x0202 => nv ((validSubs s).filter fun e => s.fn 0x200100 e 6 != baseHz s).length
  | _ => none

/-- Area 21. -/
def live21 (s : State) (obj : Nat) : Option Val :=
  match obj with
  | 0x0003 => nv (poolOf s 7)
  | 0x0004 => nv (sumN ((validSubs s).map fun e => subUnits (s.val 0x200100 e 0)))
  | 0x0010 => nv (curRow s)
  | 0x0011 => nv s.plan.lastReleased
  | _ => none

/-- Area 24: conditioning. -/
def live24 (s : State) (obj sub : Nat) : Option Val :=
  match obj with
  | 0x0001 => nv (condLoad s)
  | 0x0002 => nv (condBudget s)
  | 0x0003 => nv (sumN ((upto 4).map fun n => if s.cond.failed.contains n then 2 ^ n else 0))
  | 0x0007 => nv s.cond.timeMax
  | 0x0008 => nv (histUsed s)
  | 0x0013 => nv (bankSt s sub)
  | 0x0017 => nv (profOf s sub).st
  | 0x0018 => nv (profOf s sub).active
  | 0x0019 => nv (profOf s sub).swapRow
  | 0x0032 => nv (imgBytes s sub)
  | 0x0101 => let (l, m, k, f) := convPar sub
    some [.n l, .n m, .n k, .n f, .n (convA sub)]
  | _ => none

/-- The rows of CONV_TABLE (R269, R270): each phase's coefficients in node order. -/
def convTable (c : Nat) : List (Nat × Val) :=
  let (l, _, k, _) := convPar c
  (upto (l * k)).map fun i => (i, [.n (i / k), .n (i % k), .i (nth (convCoef c (i / k)) (i % k) 0)])

/-- Terms per row of the valid outbound streams (28.0220). -/
def osTermsUsed (s : State) : Nat :=
  sumN (((s.subsOf 0x280200).filter fun k => s.fb 0x280200 k 0).map fun k => ((s.rows 0x280202 k).filter fun t => vN t 1 != 0xFF).length)

/-- Areas 28 and 29: publishing. -/
def live28 (s : State) (obj sub : Nat) : Option Val :=
  match obj with
  | 0x0110 => nv (gbOf s sub).st
  | 0x0111 => nv (gbOf s sub).sqLast
  | 0x0220 => nv (osTermsUsed s)
  | _ => none

/-- Area 29. -/
def live29 (s : State) (obj sub : Nat) : Option Val :=
  let x := gsOf s sub
  match obj with
  | 0x0110 => nv x.st
  | 0x0111 => ov (padTo 1024 (x.slots.flatMap (leN 8)))
  | 0x0112 => some [.n x.stNum, .n x.sqNum, .i x.rxTime, .i x.deadline, .n x.claim]
  | 0x0220 => nv (latchOf s sub).v
  | _ => none

/-- The free amount of each pool of R324 in table order: memory as LPDDR5, then SRAM, in 4 KiB units; D0 to D63 no valid partition names. -/
def poolFree (s : State) : Val :=
  let ps := partsIn s
  let left (pool i : Nat) : Fld := .n (pool - sumN (ps.map fun p => s.fn 0x300010 p i))
  let cores := ps.foldl (fun m p => m ||| ofLe (vO (s.val 0x300010 p 0) 1)) 0
  let dies := upto (dieCount s + 1)
  let sram := sumN (dies.map fun d => sramPool s (d + 1)) - sumN (dies.map fun d => regionSum s 1 (d + 1))
  let dram := dramPool s - sumN ((upto 8).map fun d => regionSum s 0 d)
  [.n ((upto (coreCount s)).filter fun c => !bit cores c).length, left 32768 3, left 240 4, left 16384 5, left 1024 6,
    .n (dram / 4096), .n (sram / 4096), left (poolOf s 7) 7, left 512 8, left 64 9, left 256 10, left 256 11, left 2048 13,
    .n ((upto 64).filter fun d => ps.all fun p => domainOf s p != d).length]

/-- Area 30: partitions. -/
def live30 (s : State) (obj sub : Nat) : Option Val :=
  let x := partOf s sub
  match obj with
  | 0x0001 => some (poolFree s)
  | 0x0002 => ov (leN 13 (sumN ((upto 104).map fun c => if s.parts.coreFailed.contains c then 2 ^ c else 0)))
  | 0x0020 => nv x.st.code
  | 0x0021 => some [.n x.fault.cause, .n x.fault.core, .n x.fault.detail, .i x.fault.time]
  | 0x0022 => nv x.faults
  | 0x0024 => some [.n (readyCount s sub), .n (s.tt.flows.filter fun (_, f) => f.owner == sub).length, .n (dmaCount s sub)]
  | 0x0052 => nv x.mig.st
  | 0x0053 => some [.n x.mig.rowF, .n x.mig.rowR, .n x.mig.rounds, .n x.mig.finalBytes, .n x.mig.ctxBytes, .n x.mig.reason]
  | _ => none

/-- FLOW_STATE. -/
def flowState (s : State) (f : Nat) : Val :=
  match flowOf s f with
  | none => [.n 0, .n 0, .n 0, .n 0, .n 0]
  | some x => [.n x.owner, .n x.typ, .n (s.tt.run.filter fun (_, r) => r.item.d.flow == f).length, .n (s.tt.ready.filter fun i => i.d.flow == f).length,
      .n (s.tt.held.filter fun h => x.order.contains h.item).length]

/-- Area 31: timetable. D2D waits, stalls and replays are what the links report, which no row tells. -/
def live31 (s : State) (obj sub : Nat) : Option Val :=
  let r := ringOf s sub
  let d2d (i : Nat) : Fld := .n ((Config.sensor 0x310050 (8 * sub + i) s.now).natAbs % 18446744073709551616)
  match obj with
  | 0x0001 => nv s.tt.ready.length
  | 0x0002 => nv s.tt.latMax
  | 0x0011 => some [.n r.prod, .n (if s.fn 0x310010 sub 1 ≥ 3 then r.prod else r.done), .n r.cons, .n r.pend.length]
  | 0x0021 => nv (s.tt.held.filter fun h => h.part == sub).length
  | 0x0030 => some (flowState s sub)
  | 0x0040 => nv (s.tt.dma.filter fun (_, o) => !o.suppressed).length
  | 0x0041 => nv (sumN ((upto 8).map fun k => if s.tt.dmaFailed.contains k then 2 ^ k else 0))
  | 0x0050 => some [.n (2 - (s.boot.d2dFailed.filter fun (d, _) => d == sub).length), d2d 0, d2d 1, d2d 2]
  | _ => none

/-- Areas 34 and 38: channels, logic. -/
def live34 (s : State) (obj sub : Nat) : Option Val :=
  let x := chanOf s sub
  match obj with
  | 0x0101 => some [.n (x.q.filter fun m => !m.orphan).length, .n (x.q.filter fun m => m.orphan).length, .n x.epoch, .n (b2n x.timeout),
      .n (b2n x.aborted)]
  | _ => none

/-- Area 38. -/
def live38 (s : State) (obj sub : Nat) : Option Val :=
  match obj with
  | 0x0001 => nv (if s.ident.variant == 8 then 67108864 else 1048576)
  | 0x0015 => nv (taskOf s sub).cycle
  | 0x0017 => nv (taskOf s sub).timeMax
  | 0x0022 => nv (tabGetD s.lg.stations sub {}).st
  | 0x0032 => nv (retainOf s sub).st
  | 0x0040 => some [.n (forcesAll s), .n s.lg.forceChanges, .i s.lg.forceLast]
  | _ => none

/-- Area 40: the pair. SETTLED.V is the IUL's rate. -/
def live40 (s : State) (obj sub : Nat) : Option Val :=
  match obj with
  | 0x0010 => nv s.pair.st
  | 0x0011 => nv s.pair.reason
  | 0x0012 => nv s.pair.fail
  | 0x0013 => s.pair.settled.map fun x => [.n x.fcl, .n x.units, .o x.serial, .n (iulRate s)]
  | 0x0014 => nv (laneOf s sub).st
  | 0x0015 => ov (padTo 256 s.pair.ownRpt)
  | 0x0016 => ov (padTo 256 (s.pair.partRpt.getD []))
  | 0x0020 => let c := claimOf s sub
    some [.n (claimNo s sub), .n c.highest, .n (b2n (holder s sub)), .n (b2n (fit s sub)), .i c.lastTime, .n (b2n c.sat)]
  | 0x0024 => nv (stepState s sub)
  | 0x0034 => nv s.pair.eqTimeMax
  | 0x0041 => let b := boardOf s sub
    some [.n b.latch, .n b.readback, .n b.status, .i b.lastEcho]
  | _ => none

/-- Areas 44, 48 and 4C: Prefect, vault, tamper. -/
def live44 (s : State) (obj : Nat) : Option Val :=
  match obj with
  | 0x0001 => ov (padTo 32 s.pf.digest)
  | 0x0022 => iv (if s.tm.held then s.tm.heldAmt else 0)
  | _ => none

/-- Area 48. -/
def live48 (s : State) (obj sub : Nat) : Option Val :=
  match obj with
  | 0x0010 => let x := slotOfKey s sub
    some [.n x.st, .n x.gen, .n x.attr.kind, .n (8 * x.key.length), .n x.attr.use, .n x.attr.world, .n x.attr.masters, .n x.attr.life, .n x.kcv]
  | 0x0021 => let x := tabGetD s.vault.tkeys sub {}
    some [.n (tkState s sub), .n x.gen, .i x.at_]
  | 0x0041 => nv s.vault.bundleSvn
  | 0x0042 => nv (partOf s sub).svnMin
  | 0x0061 => some ((upto 4).map fun c => .n (s.vault.q.filter fun r => r.cls == c).length)
  | _ => none

/-- Area 4C. -/
def live4C (s : State) (obj sub : Nat) : Option Val :=
  match obj with
  | 0x0001 => nv s.vault.tamper
  | 0x0002 => if sub ≥ 2 then nv 1 else none
  | 0x0004 => nv (s.vault.service.getD 0)
  | 0x0010 => (s.vault.recs.drop sub).head?.map fun r => [.n r.seq, .n (toBits r.utc 64), .n r.sources, .n r.moment, .n r.action, .n r.life, .n r.op, .o (zeros 14)]
  | 0x0011 => nv s.vault.recCount
  | _ => none

/-- Area 50: the RTC; a latch that is held serves the read (R521). RTC_TRIM and RTC_ALARM show the vault's own registers, ARM while an
alarm is armed (entry 73). -/
def live50 (s : State) (obj : Nat) : Option Val :=
  let (c, p) := (latchNow s).getD (s.rtc.cal, prescale s)
  match obj with
  | 0x0001 => some [.n c.year, .n c.month, .n c.day, .n c.hour, .n c.min, .n c.sec, .n c.wday, .n p]
  | 0x0003 => nv (rtcStat s)
  | 0x0005 => some [.i s.rtc.trimNext]
  | 0x0006 =>
    let (t, d) := (s.rtc.alTime.toNat, s.rtc.alDate.toNat)
    some [.n (b2n s.rtc.alarm.isSome), .n (bits d 16 12), .n (bits d 8 4), .n (bits d 0 5), .n (bits t 16 5), .n (bits t 8 6), .n (bits t 0 6)]
  | 0x0021 => s.rtc.lastDisc.map fun (_, t, e, b, a, al) => [.i t, .i e, .i b, .i a, .n (b2n al)]
  | _ => none

/-- Areas 58 and 5C: logbook and capture. -/
def live58 (s : State) (obj sub : Nat) : Option Val :=
  match obj with
  | 0x0001 => nv s.logb.seq
  | 0x0002 => nv (match s.logb.recs with
    | r :: _ => r.num
    | [] => 0)
  | 0x0003 => nv s.logb.recs.length
  | 0x0004 => nv (s.logb.recs.filter (·.prot)).length
  | 0x0022 => let c := codeOf s sub
    some [.n c.tokens, .n c.supp]
  | _ => none

/-- Area 5C. -/
def live5C (s : State) (obj sub : Nat) : Option Val :=
  match obj with
  | 0x0002 => nv (s.cap.area - sumN ((recorders s).map fun k => s.fn 0x5C0020 k 4))
  | 0x0024 => let x := recOf s sub
    some [.n (recState s sub), .n x.recs.length, .n x.interval]
  | _ => none

/-- Does the module run from the hold-up store. -/
def onStore (s : State) : Bool := s.hw.pf || (pfRuns s && !s.hw.vinGood)

/-- Do both control-core pairs service the watchdog (R42, R96). -/
def serviced (s : State) : Bool := s.boot.wdt0.last.isSome && s.boot.wdt1.last.isSome

/-- Is the RUN lamp red: a lapse, a fatal error and its halt (R42), or boot recovery (R82). -/
def runRed (s : State) : Bool :=
  s.boot.lapsed || match s.boot.phase with
    | .dump => true
    | .halt => true
    | .recovery => true
    | _ => false

/-- The lamps in R42's order, in their true state. The table gives SYNC no state while the time unit does not work, and RUN none in
reset and in the ROM-resident gateway: SYNC is off there and RUN amber (DESIGN CHOICE, entry 16). -/
def lampsTrue (s : State) : List Nat :=
  let us := (upto 31).map (unitSt s)
  let pwr := if onStore s then 0x11 else if s.hw.vinGood then 1 else 0
  let run := if runRed s then 3 else if running s && unitOk s 1 && serviced s then 1 else 2
  let pair := match s.pair.st with
    | 0 => 0 | 1 => 3 | 2 => 0x12 | _ => 1
  let claim := b2n ((upto 64).any fun d => !(domParts s d).isEmpty && holder s d)
  [pwr, run, if unitOk s 6 then 1 + s.tm.quality else 0, pair, claim, if forcesAll s > 0 || unitSt s 20 == .fault then 2 else 0,
    if us.contains .fault then 3 else if us.contains .degraded then 0x13 else 0, if life s == 3 then 3 else 0, 0]

/-- The lamps in R42's order. During LAMP_TEST every lamp is lit (R44): FORCE, QRT and TST in their one colour, the others in every
colour; which of them LAMP_STATE reads at an instant is open and a free value (entry 16). -/
def lamps (s : State) : Val :=
  if s.hw.lampEnd.isNone then (lampsTrue s).map Fld.n
  else (upto 9).map fun k =>
    .n (if k == 5 || k == 8 then 2 else if k == 7 then 3 else 1 + (Config.sensor 0x600141 k s.now).natAbs % 3)

/-- The green lamp of a cage (R42): 0 off, 1 steady, 2 flickering, lit while its link is up; during LAMP_TEST it is lit (R44). The
traffic that flickers it is a frame on the wire or one received at this instant. No object reads it. -/
def cageLamp (s : State) (n : Nat) : Nat :=
  let busy := (portOf s n).wire.isSome || (portOf s n).rxAt == some s.now || (n ≥ 6 && (laneOf s (n - 6)).busy.isSome)
  if s.hw.lampEnd.isSome then 1 else if !linkUp s n then 0 else if busy then 2 else 1

/-- Area 60: hardware and the latency path. What no row reports is a free value. In the 50 ms before a transceiver is powered its cage
reads EMPTY: the codes of 60.0111 give this time none (DESIGN CHOICE, entry 81). -/
def live60 (s : State) (obj sub : Nat) : Option Val :=
  let sense (n : Nat) := nv ((Config.sensor (0x600000 + obj) sub s.now).natAbs % n)
  match obj with
  | 0x0100 => sense 65536
  | 0x0101 => sense 65536
  | 0x0102 => nv s.hw.holdup
  | 0x0104 => iv (ofBits (Config.sensor 0x600104 sub s.now).natAbs 32)
  | 0x0105 => iv (tabGetD s.hw.temps sub (ofBits (Config.sensor 0x600105 sub s.now).natAbs 32))
  | 0x0110 => sense 65536
  | 0x0111 => let c := cageOf s sub
    nv (if c.tripped then 2 else if c.powered then 1 else 0)
  | 0x0141 => some (lamps s)
  | 0x0150 => nv s.hw.geo
  | 0x0151 => nv (b2n s.hw.strapB)
  | 0x0160 => nv s.hw.osc
  | 0x0200 => nv s.boot.pathClose
  | 0x0201 => nv s.boot.pathWire
  | 0x0203 => nv s.boot.pathStage
  | _ => none

/-- Area 70: dump slots. -/
def live70 (s : State) (obj sub : Nat) : Option Val :=
  let x := dumpOf s sub
  match obj with
  | 0x0010 => nv x.st
  | 0x0011 => iv (if x.st == 0 then 0 else x.time)
  | 0x0012 => nv (if x.st == 0 then 0 else x.cause)
  | 0x0013 => nv (if x.st == 0 then 0 else x.length)
  | 0x0020 => some (s.val 0x700020 0 0)
  | _ => none

/-- The live value of an object whose value is a unit's state; none where the store or a counter holds it. -/
def readLive (s : State) (ob sub : Nat) : Option Val :=
  let o := obOf ob
  match arOf ob with
  | 0x00 => live00 s o
  | 0x01 => live01 s o sub
  | 0x02 => live02 s o sub
  | 0x10 => live10 s o sub
  | 0x11 => if o == 0x0010 then nv s.net.nodes.length else none
  | 0x18 => live18 s o sub
  | 0x20 => live20 s o sub
  | 0x21 => live21 s o
  | 0x24 => live24 s o sub
  | 0x28 => live28 s o sub
  | 0x29 => live29 s o sub
  | 0x30 => live30 s o sub
  | 0x31 => live31 s o sub
  | 0x34 => live34 s o sub
  | 0x38 => live38 s o sub
  | 0x40 => live40 s o sub
  | 0x44 => live44 s o
  | 0x48 => live48 s o sub
  | 0x4C => live4C s o sub
  | 0x50 => live50 s o
  | 0x58 => live58 s o sub
  | 0x5C => live5C s o sub
  | 0x60 => live60 s o sub
  | 0x70 => live70 s o sub
  | _ => none

/-- The value of an instance. -/
def curVal (s : State) (ob sub : Nat) : Val :=
  match readLive s ob sub with
  | some v => v
  | none => match descOf ob with
    | none => []
    | some d => match d.acc, d.typ with
      | .ro, .one _ => [.n (s.ctr ob sub)]
      | _, _ => s.val ob sub 0

/-- The rows of NODE_TABLE. -/
def nodeRows (s : State) : List (Nat × Val) :=
  (upto s.net.nodes.length).zip (s.net.nodes.map fun (k, e) =>
    [.o (macBytes (k % 281474976710656)), .n (k / 281474976710656), .n e.typ, .i e.lastA, .i e.lastB])

/-- A row of RECORD_LIST. -/
def recordRow (r : CapRec) : Val :=
  [.n r.num, .n (match r.samples with
    | y :: _ => y.row
    | [] => r.trigRow), .n r.trigRow, .n r.samples.length, .n (r.flags % 16 + 16 * b2n r.prot + r.flags / 32 % 2 * 32), .i r.trigTime]

/-- The rows of a table whose rows are a unit's state, or begin with the port's own address (R177): their numbers and values; none where
the store holds the table. -/
def liveRows (s : State) (ob sub : Nat) : Option (List (Nat × Val)) :=
  match ob with
  | 0x100011 => some ((0, [.n 1, .o (macBytes (ownMac s sub))]) :: ((s.rowsOf ob sub).filter (· != 0)).map fun r => (r, s.val ob sub r))
  | 0x110011 => some (nodeRows s)
  | 0x240100 => some (convTable sub)
  | 0x580010 => some (s.logb.recs.map fun r => (r.num % 4294967296, []))
  | 0x5C0030 => some ((upto (recOf s sub).recs.length).zip ((recOf s sub).recs.map recordRow))
  | _ => none

/-- The number of rows in use of a table (R115). -/
def tblRows (s : State) (ob sub : Nat) : Nat :=
  match liveRows s ob sub with
  | some l => l.length
  | none => (s.rowsOf ob sub).length

/-- The rows a table at its Default has: UNICAST_FILTER its row 0. -/
def dflRows (ob : Nat) : Nat := b2n (ob == 0x100011)

/-- One more than the number of a table's last row in use. -/
def tblEnd (s : State) (ob sub : Nat) : Nat :=
  let l := match liveRows s ob sub with
    | some l => l.map Prod.fst
    | none => s.rowsOf ob sub
  l.foldl (fun m k => max m (k + 1)) 0

/-- A row of a table. -/
def tblRow (s : State) (ob sub row : Nat) : Val :=
  match liveRows s ob sub with
  | some l => (match l.find? fun (k, _) => k == row with
    | some (_, v) => v
    | none => dfl s ob sub)
  | none => s.val ob sub row

/-- The SAT bit a read of an instance carries. -/
def curSat (s : State) (ob sub : Nat) : Bool :=
  if ob == 0x020013 then (tabGetD s.jal.lostCtr sub {}).sat else (tabGetD s.ctrs (okey ob sub 0) {}).sat

/-- The octets of an instance's value. -/
def curBytes (s : State) (ob sub : Nat) : List Byte :=
  match descOf ob with
  | none => []
  | some d => (match d.typ with
    | .tbl _ _ => leN 4 (tblRows s ob sub)
    | _ => encVal d.typ (curVal s ob sub))

end Sys2Proof.Machine
end

