-- ==== Sys2Proof/Machine/Done.lean ====
section
/-! DEFINITION. The end of every command: the ON_CHANGE subscriptions see the new values (R155 to R157), and the state is answered. -/

namespace Sys2Proof.Machine

/-- Has an S object a staged value that differs from its active one (R125). -/
def stagedDiffers (s : State) (ob sub : Nat) : Bool :=
  s.jal.stage.any fun (k, v) => k / 65536 == ob * 65536 + sub && v != s.val ob sub (k % 65536)

/-- Is the distance of two values below an F64 deadband; none is below a negative one. -/
def belowBand (d : Nat) (band : Nat) : Bool :=
  let e := bits band 52 11
  let m := if e == 0 then bits band 0 52 else bits band 0 52 + 4503599627370496
  let x := if e == 0 then 1 else e
  !bit band 63 && if x ≥ 1075 then d < m * 2 ^ (x - 1075) else d * 2 ^ (1075 - x) < m

/-- The value of a numeric object's octets. -/
def numOf (t : FT) (bs : List Byte) : Option Int :=
  match t with
  | .i16 => some (ofBits (ofLe bs) 16)
  | .i32 => some (ofBits (ofLe bs) 32)
  | .i64 => some (ofBits (ofLe bs) 64)
  | .time => some (ofBits (ofLe bs) 64)
  | .u8 => some (ofLe bs) | .u16 => some (ofLe bs) | .u32 => some (ofLe bs) | .u64 => some (ofLe bs) | .dur => some (ofLe bs)
  | _ => none

/-- Does a value lie far enough from the one last notified (R156): a numeric object's change below DEADBAND does not, under version 1.1. -/
def passBand (d : Desc) (v10 : Bool) (band : Nat) (old new : List Byte) : Bool :=
  v10 || match d.typ with
    | .one t => (match numOf t old, numOf t new with
      | some a, some b => !belowBand (a - b).natAbs band
      | _, _ => true)
    | _ => true

/-- Does a change of value call for a notification. -/
def changed (d : Desc) (v10 : Bool) (band : Nat) (old new : List Byte) : Bool := old != new && passBand d v10 band old new

/-- Do subscriptions to an object notify every change individually (R157). -/
def everyChange (a : Addr) : Bool := a.area == 1 || obAddr a == 0x380040

/-- VFLAGS of an instance's value (R141): SAT, STAGED where a staged value differs from the active one (R125), DEFAULT where the kept value
is that of R123. -/
def curFlags (s : State) (ob sub : Nat) : Nat :=
  b2n (curSat s ob sub) + match descOf ob with
    | some d =>
      let kept := d.pers == .k || d.pers == .s
      let base := match d.typ with
        | .tbl _ _ => tblRows s ob sub == dflRows ob
        | _ => curVal s ob sub == dfl s ob sub
      2 * b2n (d.pers == .s && stagedDiffers s ob sub) + 4 * b2n (kept && base)
    | none => 0

/-- A VALUE notification of a subscription. -/
def valueNotif (s : State) (a : Addr) (bs : List Byte) : Notif :=
  { kind := 0, seq := 0, addr := a, bytes := bs, vflags := curFlags s (obAddr a) a.sub
    typ := match descOf (obAddr a) with
      | some d => typCode d.typ
      | none => 0 }

/-- One subscription sees the present value: ON_CHANGE ones, and those whose every change is notified in any mode (R157). -/
def subSees (s : State) (n id : Nat) (x : Sub) : State :=
  match sessOf s n, descOf (obAddr x.addr) with
  | some se, some d =>
    if x.mode != 0 && !everyChange x.addr then s
    else
      let bs := curBytes s (obAddr x.addr) x.addr.sub
      let all := everyChange x.addr
      if !changed d (all || se.version == 0x10) x.deadband x.seen bs then s
      else if !all && x.held.isSome && !dueBy s x.held then
        setSess s n { se with subs := tabPut se.subs id { x with merged := true } }
      else
        let h := if all || x.minNs == 0 then none else some (s.now + x.minNs)
        let s := setSess s n { se with subs := tabPut se.subs id { x with seen := bs, held := h, merged := false } }
        notify s n (valueNotif s x.addr bs)
  | _, _ => s

/-- The subscriptions of every session that a test picks out see the present values; only the sessions change. -/
def settleOf (pick : Addr → Bool) (s : State) : State :=
  { s with jal := (s.jal.sess.foldl (fun s (n, se) => se.subs.foldl (fun s (id, x) => if pick x.addr then subSees s n id x else s) s) s).jal }

/-- Every subscription of every session sees the present values. -/
def settle (s : State) : State := settleOf (fun _ => true) s

/-- An instance has changed within a command that may change it again: its subscriptions see each value (R157, R258, R323). -/
def seeNow (s : State) (ob sub : Nat) : State := settleOf (· == addrOf ob sub) s

/-- A present unit's state set, with the record of its change and a notification of it (R89, R157). -/
def setUnit (s : State) (n : Nat) (st : USt) : State :=
  if !unitPresent s n || unitSt s n == st then s
  else
    let x := { rollOf s n with st := st, since := tai s, draining := (rollOf s n).draining && st != .off }
    seeNow (logRec { s with boot := { s.boot with roll := tabPut s.boot.roll n x } } 0x0120 64 (ints [n, (unitSt s n).code, st.code])) 0x010100 n

/-- A running unit judged anew: DEGRADED when bad, READY otherwise; a unit in another state keeps it. -/
def judgeUnit (s : State) (n : Nat) (bad : Bool) : State :=
  if unitOk s n then setUnit s n (if bad then .degraded else .ready) else s

/-- A command's answer: the next state. -/
def done (s : State) : Host.Outcome State Fault Refusal := .next (settle s)

end Sys2Proof.Machine
end

