-- ==== Sys2Proof/Machine/Mem.lean ====
section
/-! DEFINITION. Guest memory (R326, R329): octets by partition and guest-physical address, in one canonical list. An address no entry
lists reads zero, which is what a created partition's overwritten regions hold. -/

namespace Sys2Proof.Machine

/-- The key of a partition's address. -/
def memKey (p a : Nat) : Nat := p * 18446744073709551616 + a

/-- The byte an address reads. -/
def cellGet : List Host.Cell → Nat → Byte
  | [], _ => 0
  | (a, x) :: r, k => if a = k then x else cellGet r k

/-- An address written: zero needs no entry. -/
def cellSet : List Host.Cell → Nat → Byte → List Host.Cell
  | [], k, b => if b = 0 then [] else [(k, b)]
  | (a, x) :: r, k, b =>
    if k < a then (if b = 0 then (a, x) :: r else (k, b) :: (a, x) :: r)
    else if k = a then (if b = 0 then r else (k, b) :: r)
    else (a, x) :: cellSet r k b

/-- The canonical form: addresses rise strictly and no entry is zero. -/
def cellsWf : List Host.Cell → Bool
  | [] => true
  | [(_, x)] => x != 0
  | (a, x) :: (b, y) :: r => decide (a < b) && x != 0 && cellsWf ((b, y) :: r)

/-- Is guest memory in canonical form. -/
def Memory.wf (m : List Host.Cell) : Bool := cellsWf m

/-- The byte at address a of partition p. -/
def memByte (s : State) (p a : Nat) : Byte := cellGet s.mem (memKey p a)

/-- n bytes from address a of partition p. -/
def memRead (s : State) (p a n : Nat) : List Byte := (upto n).map fun i => memByte s p (a + i)

/-- Bytes written from address a of partition p. -/
def cellsPut : List Host.Cell → Nat → List Byte → List Host.Cell
  | m, _, [] => m
  | m, k, b :: r => cellsPut (cellSet m k b) (k + 1) r

/-- Is a partition the source of a migration or an import whose granules are being copied. -/
def mapOn (s : State) (p : Nat) : Bool := (partOf s p).mig.st == 2 || (partOf s p).mig.st == 3

/-- The granules of n bytes from address a of partition p, as the dirty map numbers them. -/
def granules (p a n : Nat) : List Nat :=
  if n == 0 then [] else (upto ((a + n - 1) / 4096 - a / 4096 + 1)).map fun k => p * 4503599627370496 + a / 4096 + k

/-- Bytes written from address a of partition p; while the partition is being copied the write marks its granules (R346). -/
def memWrite (s : State) (p a : Nat) (l : List Byte) : State :=
  { s with mem := cellsPut s.mem (memKey p a) l
           dirty := if mapOn s p then (granules p a l.length).foldl adjoin s.dirty else s.dirty }

/-- The dirty map of a partition is cleared. -/
def dirtyClear (s : State) (p : Nat) : State := { s with dirty := s.dirty.filter fun k => k / 4503599627370496 != p }

/-- The marked granules of a partition, in ascending order: addresses and lengths. -/
def dirtySpans (s : State) (p : Nat) : List (Nat × Nat) :=
  (sortN (s.dirty.filter fun k => k / 4503599627370496 == p)).map fun k => (k % 4503599627370496 * 4096, 4096)

/-- Does an address lie in one of the spans. -/
def inSpans (l : List (Nat × Nat)) (a : Nat) : Bool := l.any fun (b, n) => b ≤ a && a < b + n

/-- The octets of a partition in spans, as cells: those that are not zero. -/
def memCells (s : State) (p : Nat) (spans : List (Nat × Nat)) : List (Nat × Byte) :=
  (s.mem.filter fun (k, _) => k / 18446744073709551616 == p && inSpans spans (k % 18446744073709551616)).map fun (k, b) =>
    (k % 18446744073709551616, b)

/-- Every address of a partition reads zero (R329). -/
def memZero (s : State) (p : Nat) : State :=
  { s with mem := s.mem.filter fun (k, _) => k / 18446744073709551616 != p }

/-- Spans of a partition's memory become the given cells, zero where none is listed. -/
def memTake (s : State) (p : Nat) (spans : List (Nat × Nat)) (cells : List (Nat × Byte)) : State :=
  let kept := s.mem.filter fun (k, _) => !(k / 18446744073709551616 == p && inSpans spans (k % 18446744073709551616))
  { s with mem := (cells.filter fun (a, _) => inSpans spans a && a < 18446744073709551616).foldl (fun m (a, b) => cellSet m (memKey p a) b) kept }

end Sys2Proof.Machine
end

