-- ==== Sys2Proof/Machine/Rings.lean ====
section
/-! DEFINITION. Work items, bells and rings (R355 to R360, R374 to R381, R401, R403): the checks of a submission, the ready list, ring
indices and space, what an advance of an index by the hardware causes, completions. -/

namespace Sys2Proof.Machine

/-! ## Rings (R374 to R376) -/

/-- A ring set. -/
def setRing (s : State) (q : Nat) (r : Ring) : State := { s with tt := { s.tt with rings := tabPut s.tt.rings q r } }

/-- A ring's TYPE: 0 RX, 1 TX, 2 SUBMIT, 3 COMPLETE, 4 EVENT. -/
def rType (s : State) (q : Nat) : Nat := s.fn 0x310010 q 1
/-- A ring's ENTRY size. -/
def rEntry (s : State) (q : Nat) : Nat := s.fn 0x310010 q 2
/-- A ring's SIZE. -/
def rSize (s : State) (q : Nat) : Nat := s.fn 0x310010 q 3
/-- A ring's BASE. -/
def rBase (s : State) (q : Nat) : Nat := s.fn 0x310010 q 4
/-- Is a ring's PRODUCER the commit port. -/
def rPort (s : State) (q : Nat) : Bool := s.fb 0x310010 q 5
/-- A ring's ENGINE: 0 TIMETABLE, 1 DMA, 2 GOOSE, 3 BOLPEL, 4 CAPTURE. -/
def rEngine (s : State) (q : Nat) : Nat := s.fn 0x310010 q 6

/-- The slot of an index. -/
def slotOf (s : State) (q i : Nat) : Nat := if rSize s q == 0 then 0 else i % rSize s q

/-- The number of slots the producer may still fill (R375). -/
def rSpace (s : State) (q : Nat) : Nat :=
  let r := ringOf s q
  rSize s q - (if rPort s q && (rType s q == 1 || rType s q == 2) then idxDist r.done r.prod else idxDist r.cons r.prod)

/-- Slots of a COMPLETE ring no one has reserved (R378). -/
def rUnreserved (s : State) (q : Nat) : Nat := rSpace s q - (ringOf s q).res

/-- Is q a COMPLETE ring of partition p. -/
def isComp (s : State) (p q : Nat) : Bool := rOwner s q == p && rType s q == 3 && rSize s q != 0

/-- Reserves a slot of a completion ring. -/
def reserveSlot (s : State) (q : Nat) : State := setRing s q { ringOf s q with res := (ringOf s q).res + 1 }

/-- Writes a slot. -/
def putSlot (r : Ring) (k : Nat) (e : Entry) : Ring := { r with slots := tabPut r.slots k e }

/-- A work item descriptor's octets with its STATUS (R355). -/
def itemBytes (d : ItemDesc) (status : Nat) : List Byte :=
  leN 8 d.arg0 ++ leN 8 d.arg1 ++ leN 4 d.tag ++ leN 2 d.flow ++ leN 1 d.prio ++ leN 1 (b2n d.complete + 2 * d.flags) ++ leN 4 d.budget ++
    leN 1 d.compRing ++ leN 1 d.rsv ++ leN 2 status

/-- A DMA descriptor's octets with its STATUS (R382). -/
def dmaBytes (d : DmaDesc) (status : Nat) : List Byte :=
  leN 8 d.src ++ leN 8 d.dst ++ leN 4 d.tag ++ leN 4 d.len ++ leN 1 d.op ++ leN 1 (b2n d.complete + 2 * b2n d.fence + 4 * d.flags) ++
    leN 1 d.compRing ++ leN 1 d.rsv ++ leN 2 status ++ leN 2 d.rsv2

/-- A Bolpel entry's octets (R467). -/
def bolBytes (r : BReq) (status : Nat) (sent : Int) (readback seq : Nat) : List Byte :=
  leN 1 r.board ++ zeros 1 ++ leN 2 status ++ leN 4 r.mask ++ leN 4 r.out ++ leN 4 r.cookie ++ leI 8 sent ++ leN 4 readback ++ leN 2 seq ++ zeros 2

/-- A pickup entry's octets (R548). -/
def pickupBytes (r : PReq) (status : Nat) : List Byte :=
  leN 8 r.row ++ leN 8 r.mask ++ leN 8 r.value ++ leN 4 r.cookie ++ leN 2 status ++ zeros 2

/-- An entry's octets in ring memory, little-endian: the request and completion forms of chapters 5, 9, 11, 14 and 18, the completion of
R380, the row image header of R289 and the event of R313. -/
def entryBytes : Entry → List Byte
  | .rx p => leN 8 p.bufAddr ++ leN 2 p.bufLen ++ zeros 2 ++ leN 4 p.cookie ++ zeros 16
  | .rxDone p bytes first last flags time frameLen port steer vid pcp =>
    leN 8 p.bufAddr ++ leN 2 bytes ++ leN 2 (b2n first + 2 * b2n last + flags) ++ leN 4 p.cookie ++ leI 8 time ++ leN 2 frameLen ++
      leN 1 port ++ leN 1 steer ++ leN 2 vid ++ leN 1 pcp ++ zeros 1
  | .tx r => leN 8 r.bufAddr ++ leN 2 r.len ++ leN 1 r.dest ++ leN 1 r.cls ++ leN 2 (b2n r.launch + 2 * b2n r.dropLate + 4 * b2n r.tsReq) ++
      zeros 2 ++ leN 4 r.cookie ++ zeros 4 ++ leI 8 r.launchTime
  | .txDone r status cflags time => leN 8 r.bufAddr ++ leN 2 r.len ++ leN 1 r.dest ++ leN 1 r.cls ++ leN 2 status ++ leN 2 cflags ++
      leN 4 r.cookie ++ zeros 4 ++ leI 8 time
  | .item d => itemBytes d d.stat
  | .itemDone d status => itemBytes d status
  | .dma d => dmaBytes d 0
  | .dmaDone d status => dmaBytes d status
  | .goose r => leN 8 r.dataAddr ++ leN 2 r.block ++ leN 2 (b2n r.launch + 2 * b2n r.dropLate) ++ leN 4 r.cookie ++ zeros 8 ++ leI 8 r.launchTime
  | .gooseDone r status stNum cflags time => leN 8 r.dataAddr ++ leN 2 r.block ++ leN 2 status ++ leN 4 r.cookie ++ leN 4 stNum ++
      leN 2 cflags ++ zeros 2 ++ leI 8 time
  | .bolpel r => bolBytes r 0 0 0 0
  | .bolpelDone r status sent readback seq => bolBytes r status sent readback seq
  | .pickup r => pickupBytes r 0
  | .pickupDone r status => pickupBytes r status
  | .completion tag status source start finish result ring => leN 4 tag ++ leN 2 status ++ leN 1 source ++ zeros 1 ++ leI 8 start ++
      leI 8 finish ++ leN 4 result ++ leN 1 ring ++ zeros 3
  | .image row flags subst lost missed bodyAddr bodyLen items configSeq wSteps base condNs rowTime relTime =>
    leN 8 row ++ leI 8 rowTime ++ leN 4 flags ++ leN 2 subst ++ leN 2 lost ++ leI 8 relTime ++ leN 4 missed ++ leN 2 wSteps ++ leN 1 base ++
      zeros 1 ++ leN 8 bodyAddr ++ leN 4 bodyLen ++ leN 2 items ++ leN 2 configSeq ++ leN 4 condNs ++ zeros 4
  | .event entry kind flags stNum sqNum tal rxTime t claim missed bodyAddr members =>
    leN 2 entry ++ leN 1 kind ++ leN 1 flags ++ leN 4 stNum ++ leN 4 sqNum ++ leN 4 tal ++ leI 8 rxTime ++ leI 8 t ++ leN 4 claim ++
      leN 4 missed ++ leN 8 bodyAddr ++ leN 2 members ++ zeros 14

/-- An entry written by the hardware at slot k of a partition's ring, as memory holds it (R289, R371, R377, R380). -/
def slotWrite (s : State) (q k : Nat) (e : Entry) : State :=
  if rOwner s q < 64 then memWrite s (rOwner s q) (rBase s q + k * rEntry s q) (entryBytes e) else s

/-! ## Flows and items -/

/-- The budget an item runs under: 0 selects DEFAULT_BUDGET (R355). -/
def effBudget (s : State) (p b : Nat) : Nat := if b == 0 then s.fn 0x310020 p 1 else b

/-- Check 1 of R358. -/
def descOk (s : State) (p flow prio budget : Nat) : Bool :=
  (flow == 0xFFFF || (match flowOf s flow with
    | some f => f.owner == p && !f.closing
    | none => false)) && prio ≤ 63 &&
    1000 ≤ effBudget s p budget && effBudget s p budget ≤ s.vn 0x440032 p

/-- Check 2 of R358: the timetable works and the partition is RUNNING. -/
def takesItems (s : State) (p : Nat) : Bool := unitOk s 12 && pst s p == .running

/-- Check 3 of R358. -/
def quotaOk (s : State) (p : Nat) : Bool := readyCount s p < pcfg s p 3

/-- The row of a partition's last image. -/
def lastImg (s : State) (p : Nat) : Nat := (tabGetD s.cond.imgs p {}).lastRow

/-- Makes an item ready; an ORDERED flow numbers it. Row 0 stands for the row of the partition's last image (R444). -/
def makeReady (s : State) (p row : Nat) (d : ItemDesc) (src : ItemSrc) : State :=
  let it : Item := { num := s.tt.nextItem, part := p, d := d, src := src
                     row := if row == 0 then lastImg s p else row, atNow := s.now, budget := effBudget s p d.budget }
  let fl := match flowOf s d.flow with
    | some f => if f.typ == 2 then tabPut s.tt.flows d.flow { f with order := f.order ++ [it.num] } else s.tt.flows
    | none => s.tt.flows
  { s with tt := { s.tt with ready := s.tt.ready ++ [it], nextItem := s.tt.nextItem + 1, flows := fl } }

/-- The outcome of a submission by R358 and R381: 0 OK, 2 NOT_READY, 4 QUOTA, 5 BAD_DESC, 6 NO_COMPLETION_SPACE. -/
def submitCheck (s : State) (p : Nat) (d : ItemDesc) : Nat :=
  if !(d.reservedOk && descOk s p d.flow d.prio d.budget) then 5
  else if !takesItems s p then 2
  else if !quotaOk s p then 4
  else if d.complete && !(isComp s p d.compRing && rUnreserved s d.compRing != 0) then 6
  else 0

/-- A submission: its outcome, and the item made ready with its completion slot reserved when nothing refuses it. -/
def submitItem (s : State) (p row : Nat) (d : ItemDesc) (src : ItemSrc) : Nat × State :=
  let c := submitCheck s p d
  if c != 0 then (c, s)
  else (0, makeReady (if d.complete then reserveSlot s d.compRing else s) p row d src)

/-- Is an item of which src holds ready or in service. -/
def itemLives (s : State) (f : ItemSrc → Bool) : Bool :=
  s.tt.ready.any (fun i => f i.src) || s.tt.run.any fun (_, r) => f r.item.src

/-! ## Bells (R401, R403, R404) -/

/-- An endpoint's bells. -/
def bellOf (s : State) (ep : Nat) : Bell := tabGetD s.ph.bells ep {}

/-- An endpoint's bells set. -/
def setBell (s : State) (ep : Nat) (b : Bell) : State := { s with ph := { s.ph with bells := tabPut s.ph.bells ep b } }

/-- Is a bell item of p ready or in service. -/
def bellItemLives (s : State) (p : Nat) : Bool :=
  s.tt.ready.any (fun i => i.part == p && i.src == .bell) || s.tt.run.any fun (_, r) => r.item.part == p && r.item.src == .bell

/-- The bell item of partition p, made ready when a pending bit is unmasked and no bell item lives (R403). -/
def bellItem (s : State) (p : Nat) : State :=
  let b := bellOf s p
  let due := b.pend &&& b.mask
  let v := s.val 0x340110 p 0
  if p ≥ 64 || due == 0 || !vB v 0 || bellItemLives s p then s
  else if !descOk s p (vN v 1) (vN v 2) (vN v 3) then bump s 0x340111 p
  else if !(takesItems s p && quotaOk s p) then s
  else
    let s := setBell s p { b with pend := b.pend ^^^ due }
    makeReady s p 0 { arg0 := due, arg1 := 0, tag := vN v 4, flow := vN v 1, prio := vN v 2, complete := false, budget := vN v 3,
                      compRing := 0 } .bell

/-- The control cores' interrupt at endpoint 64 or 65: it stands while an unmasked bit is pending (R403); what firmware does on it are
commands. -/
def bellIrq (s : State) (ep : Nat) : Bool := (ep == 64 || ep == 65) && (bellOf s ep).pend &&& (bellOf s ep).mask != 0

/-- Raises a bell bit at an endpoint; nothing is raised while the fabric is in FAULT (R404). -/
def bellRaise (s : State) (ep bitNo : Nat) : State :=
  if unitSt s 14 == .fault then s
  else bellItem (setBell s ep { bellOf s ep with pend := setBit (bellOf s ep).pend bitNo }) ep

/-! ## Triggers (R360) -/

/-- Is an item of ring q's trigger ready or in service. -/
def trigLives (s : State) (q : Nat) : Bool :=
  itemLives s fun src => match src with
    | .trigger r _ _ => r == q
    | _ => false

/-- The item of ring q's trigger for the entries from index i to j. -/
def trigDesc (s : State) (q i : Nat) : ItemDesc :=
  { arg0 := rBase s q + slotOf s q i * rEntry s q, arg1 := i, tag := s.fn 0x310010 q 12, flow := s.fn 0x310010 q 9
    prio := s.fn 0x310010 q 10, complete := false, budget := s.fn 0x310010 q 11, compRing := 0 }

/-- One trigger item: refused by check 1 and counted, pending under checks 2 and 3 or behind triggers that wait, or made ready. -/
def trigItem (s : State) (q i j row : Nat) : State :=
  let p := rOwner s q
  let d := trigDesc s q i
  if !descOk s p d.flow d.prio d.budget then bump s 0x310013 q
  else
    let s := setRing s q { ringOf s q with newFrom := w32 (j + 1) }
    if (ringOf s q).pend.isEmpty && takesItems s p && quotaOk s p then makeReady s p row d (.trigger q i j)
    else setRing s q { ringOf s q with pend := (ringOf s q).pend ++ [(i, j, row)] }

/-- The last index handed to the owner: PROD of COMPLETE and EVENT rings, DONE of the others. -/
def rHanded (s : State) (q : Nat) : Nat :=
  if rType s q == 3 || rType s q == 4 then (ringOf s q).prod else (ringOf s q).done

/-- Under TRIG_MODE ONE: an item covering every new entry when none lives or waits. -/
def trigOne (s : State) (q row : Nat) : State :=
  let r := ringOf s q
  if trigLives s q || !r.pend.isEmpty || idxDist r.newFrom (rHanded s q) == 0 then s
  else trigItem s q r.newFrom (w32 (rHanded s q + 4294967295)) row

/-- The trigger of a ring whose index moved over n entries from index i. -/
def trigAdvance (s : State) (q i n row : Nat) : State :=
  if !s.fb 0x310010 q 7 || !(rType s q == 0 || rType s q == 3 || rType s q == 4) then
    setRing s q { ringOf s q with newFrom := w32 (i + n) }
  else if s.fn 0x310010 q 8 == 0 then (upto n).foldl (fun s k => trigItem s q (w32 (i + k)) (w32 (i + k)) row) s
  else trigOne s q row

/-- The hardware handed n entries from index i of ring q to its owner: the bell of R379 and the trigger of R360. -/
def handed (s : State) (q i n row : Nat) : State :=
  let b := s.fn 0x310010 q 13
  let s := if b < 64 then bellRaise s (if rOwner s q < 64 then rOwner s q else 64) b else s
  trigAdvance s q i n row

/-- Pending triggers of ring q that checks 2 and 3 now admit are made ready, in order; under ONE the item covers every entry that is new
by then; one that check 1 now refuses is counted and not made (R360). -/
def releasePending : Nat → State → Nat → State
  | 0, s, _ => s
  | n + 1, s, q =>
    match (ringOf s q).pend with
    | [] => s
    | (i, j, row) :: r =>
      if takesItems s (rOwner s q) && quotaOk s (rOwner s q) then
        let one := s.fn 0x310010 q 8 == 1
        let d := trigDesc s q i
        if !descOk s (rOwner s q) d.flow d.prio d.budget then
          releasePending n (setRing (bump s 0x310013 q) q { ringOf s q with pend := r, newFrom := if one then i else (ringOf s q).newFrom }) q
        else
        let j := if one then w32 (rHanded s q + 4294967295) else j
        let s := setRing s q { ringOf s q with pend := r, newFrom := if one then rHanded s q else (ringOf s q).newFrom }
        releasePending n (makeReady s (rOwner s q) row (trigDesc s q i) (.trigger q i j)) q
      else s

/-! ## Hardware producers -/

/-- Writes an entry to a hardware-filled ring (COMPLETE, EVENT) and advances PROD. -/
def ringPost (s : State) (q : Nat) (e : Entry) (row : Nat) : State :=
  let r := ringOf s q
  let s := slotWrite s q (slotOf s q r.prod) e
  let s := setRing s q { putSlot r (slotOf s q r.prod) e with prod := w32 (r.prod + 1) }
  handed s q r.prod 1 row

/-- Writes a completion into its reserved slot (R378). -/
def complete (s : State) (q : Nat) (e : Entry) (row : Nat) : State :=
  ringPost (setRing s q { ringOf s q with res := (ringOf s q).res - 1 }) q e row

/-- DONE of a ring moves past its next n entries. -/
def ringDone (s : State) (q n row : Nat) : State :=
  let r := ringOf s q
  let done := w32 (r.done + n)
  let s := setRing s q { r with done := done, cons := if rPort s q then done else r.cons }
  handed s q r.done n row

/-- Entries taken by an engine end out of order: DONE passes every entry at its front whose slot holds a completion form. -/
def doneForm : Entry → Bool
  | .txDone .. => true
  | .itemDone .. => true
  | .dmaDone .. => true
  | .gooseDone .. => true
  | .bolpelDone .. => true
  | .pickupDone .. => true
  | _ => false

/-- DONE moves past completed entries at its front, n at most. -/
def sweepDone : Nat → State → Nat → State
  | 0, s, _ => s
  | n + 1, s, q =>
    let r := ringOf s q
    if r.done == r.taken then s
    else match tabGet r.slots (slotOf s q r.done) with
      | some e => if doneForm e then sweepDone n (ringDone s q 1 0) q else s
      | none => s

/-- An engine's completion form of the entry at index i: in place, or to the completion ring a PORT entry names (R377). -/
def entryDone (s : State) (q i : Nat) (e : Entry) : State :=
  let k := slotOf s q i
  let s := setRing s q (putSlot (ringOf s q) k e)
  let s :=
    if rPort s q then
      match tabGet (ringOf s q).comps k with
      | some c => complete (setRing s q { ringOf s q with comps := tabDel (ringOf s q).comps k }) c e 0
      | none => s
    else slotWrite s q k e
  sweepDone (idxDist (ringOf s q).done (ringOf s q).taken) s q

/-- An entry discarded: DONE passes it and no completion is written (R337). -/
def entryDrop (s : State) (q i : Nat) (e : Entry) : State :=
  let r := ringOf s q
  let k := slotOf s q i
  let s := match tabGet r.comps k with
    | some c => setRing s c { ringOf s c with res := (ringOf s c).res - 1 }
    | none => s
  let r := ringOf s q
  let s := setRing s q { putSlot r k e with comps := tabDel r.comps k }
  sweepDone (idxDist (ringOf s q).done (ringOf s q).taken) s q

/-- The next entry a ring's engine has not taken. -/
def nextEntry (s : State) (q : Nat) : Option (Nat × Entry) :=
  let r := ringOf s q
  if rSize s q == 0 || r.taken == r.prod then none
  else (tabGet r.slots (slotOf s q r.taken)).map fun e => (r.taken, e)

/-- The engine takes a ring's next entry. -/
def takeEntry (s : State) (q : Nat) : State := setRing s q { ringOf s q with taken := w32 ((ringOf s q).taken + 1), takenAt := s.now }

/-! ## The path's bounds (R23, R26) -/

/-- A stage exceeded its bound: counted, recorded. -/
def stageOver (s : State) (stage : Nat) : State :=
  logRec (bump { s with boot := { s.boot with pathStage := stage } } 0x600202 0) 0x0101 64 (ints [stage])

/-- How long the entry at index i has stood committed at the front of its ring: stage 11 runs while an entry is next to be taken, and what
it waits for the entries ahead of it is no part of the bound (R24). -/
def commitTook (s : State) (q i : Nat) : Nat :=
  match tabGet (ringOf s q).at_ (slotOf s q i) with
  | some t => s.now - max t (ringOf s q).takenAt
  | none => 0

/-- A stage behind a row's dispatch exceeded its bound: the next image of partition p, if there is one, shows it (R26, R289). -/
def commitOver (s : State) (stage p : Nat) : State :=
  let s := stageOver s stage
  if p ≥ 64 then s
  else { s with cond := { s.cond with imgs := tabPut s.cond.imgs p { tabGetD s.cond.imgs p {} with latePrev := true } } }

/-- A commit of partition p passes the Prefect, so many ns after it was made: beyond 1.5 µs stage 11 is exceeded (R23, R26). -/
def commitPass (s : State) (p took : Nat) : State := if took ≤ 1500 then s else commitOver s 11 p

/-- The first bit of a commit of partition p leaves, t11 ns from commit to pass and t12 behind it without the additions of R24: beyond
6.5 µs stage 12 is exceeded (R23, R24, R26). -/
def commitWire (s : State) (p t11 t12 : Nat) : State :=
  let s := { s with boot := { s.boot with pathWire := max s.boot.pathWire (t11 + t12) } }
  if t12 ≤ 6500 then s else commitOver s 12 p

/-- Was the entry at index i of a ring committed by an item that was in service when its partition froze (R478 check 1). -/
def servedEntry (s : State) (q i : Nat) : Bool :=
  (partOf s (rOwner s q)).mig.serving.contains (tabGetD (ringOf s q).items (slotOf s q i) 0)

/-- The completion of R380. -/
def compE (tag status source : Nat) (start finish : Int) (result ring : Nat) : Entry :=
  .completion tag status source start finish result ring

/-- The ring an item's descriptor came from, as RING of its completion. -/
def srcRing : ItemSrc → Nat
  | .ring q _ => q
  | .trigger q _ _ => q
  | _ => 0xFF

/-- An item's completion, when its descriptor asks for one. -/
def itemComplete (s : State) (it : Item) (status : Nat) (start finish : Int) (result : Nat) : State :=
  if it.d.complete then complete s it.d.compRing (compE it.d.tag status 0 start finish result (srcRing it.src)) it.row else s

end Sys2Proof.Machine
end

