-- ==== Sys2Proof/Machine/Prefect.lean ====
section
/-! DEFINITION. The traffic keys' readiness (R504 to R507), the Prefect's pass (R477 to R483, R486, R491) and its commands. -/

namespace Sys2Proof.Machine

/-! ## Traffic keys -/

/-- A traffic key's KEY_ID. -/
def tkId (s : State) (i : Nat) : Nat := s.fn 0x480020 i 5

/-! ## The pass -/

/-- A partition's egress bounds. -/
def pfOf (s : State) (p : Nat) : PfPart := tabGetD s.pf.parts p {}

/-- A partition's egress bounds set. -/
def setPf (s : State) (p : Nat) (x : PfPart) : State := { s with pf := { s.pf with parts := tabPut s.pf.parts p x } }

/-- A claim domain set. -/
def setClaim (s : State) (d : Nat) (c : Claim) : State := { s with pair := { s.pair with claims := tabPut s.pair.claims d c } }

/-- A claim for a domain has been seen (R453): one above the unit's own counts from now. -/
def hearClaim (s : State) (d c : Nat) : State :=
  if d < 64 && c > claimNo s d then setClaim s d { claimOf s d with heard := some s.now } else s

/-- The claim the Prefect inserts for a partition (R483). -/
def claimFor (s : State) (p : Nat) : Nat := claimNo s (domainOf s p)

/-- Check 1 of R478; `inService` admits the commits of an item that was in service at freeze and the repetitions of R352. -/
def pfState (s : State) (p : Nat) (inService : Bool) : Bool :=
  life s == 2 && running s && !s.pf.blocked &&
    match pst s p with
    | .running => true
    | .stopping => true
    | .frozen => inService
    | _ => false

/-- An egress as the allow-lists see it: ports, EtherType, destination, APPID, VID. -/
structure Egress where
  ports : List Nat
  etype : Nat
  dst : Nat
  appid : Nat
  vid : Nat

/-- Does a frame agree with an allow-list row (R480). -/
def rowMatch (v : Val) (e : Egress) : Bool :=
  vB v 0 && e.ports.any (bit (vN v 1) ·) && vN v 2 == e.etype && (ofBe (vO v 3) == 0 || ofBe (vO v 3) == e.dst) &&
    (if e.etype == 0x88B8 || e.etype == 0x88B9 || e.etype == 0x88BA then vN v 4 ≤ e.appid && e.appid ≤ vN v 5
     else vN v 4 == 0xFFFF && vN v 5 == 0xFFFF) &&
    (vN v 6 == 0xFFFF || vN v 6 == e.vid)

/-- EtherTypes no partition may send (R479). -/
def reservedType (t : Nat) : Bool := [0x8808, 0x88B5, 0x88B6, 0x88F7, 0x88FB, 0x892F].contains t

/-- Check 2 of R478 for a frame. -/
def pfAllow (s : State) (p : Nat) (e : Egress) : Bool :=
  !reservedType e.etype && (s.rows 0x440030 p).any fun v => rowMatch v e

/-- Check 2 of R478 for a Bolpel command. -/
def pfAllowBoard (s : State) (p b : Nat) : Bool :=
  (s.rows 0x440030 p).any fun v => vB v 0 && vN v 2 == 0 && bit (vN v 4) b

/-- The republisher's list (R480). -/
def svrAllow (s : State) (e : Egress) : Bool := (s.rows 0x440050 0).any fun v => rowMatch v e

/-- The return of a token 1 / FRAMES s after the instant t + n / d ns, exactly (R481). -/
def tokenClock (s : State) (p t n d : Nat) (x : PfPart) : PfPart :=
  let f := max 1 (s.fn 0x440031 p 0)
  let num := n * f + 1000000000 * d
  let g := Nat.gcd (num % (d * f)) (d * f)
  { x with next := some (t + num / (d * f)), nextN := num % (d * f) / g, nextD := d * f / g }

/-- The instant a token has returned by, in whole ns. -/
def tokenDue (x : PfPart) : Option Nat := x.next.map fun t => t + (if x.nextN == 0 then 0 else 1)

/-- Check 3 of R478: takes a token; none when the bucket is empty (R481). -/
def pfToken (s : State) (p : Nat) : Option State :=
  let x := pfOf s p
  if x.tokens == 0 then none
  else some (setPf s p { (if x.next.isSome then x else tokenClock s p s.now 0 1 x) with tokens := x.tokens - 1 })

/-- Refusals: 1 STATE, 2 ALLOW, 3 RATE, 4 BOARD; counted, shown, and the first of a kind after 1 s without one logged (R491). -/
def pfRefuse (s : State) (p kind dest : Nat) : State :=
  let s := bump s (if kind == 1 then 0x440033 else if kind == 2 then 0x440034 else 0x440035) p
  let s := if kind == 4 then bump s 0x440041 dest else s
  let x := pfOf s p
  let lone : Bool := match tabGet x.lastRef kind with
    | some t => decide (s.now - t ≥ 1000000000)
    | none => true
  let s := setPf s p { x with
    lastKind := kind
    lastRef := tabPut x.lastRef kind s.now
    denied := min (x.denied + 1) 2147483647
    deniedSat := x.deniedSat || x.denied == 2147483647 }
  if lone then logRec s 0x01D0 (0x80 + 18) (ints [p, kind, dest]) else s

/-- A partition's frame before the Prefect (R478): the state after its verdict, and whether it passed. -/
def pfFrame (s : State) (p : Nat) (inService : Bool) (e : Egress) : Bool × State :=
  if !pfState s p inService then (false, pfRefuse s p 1 e.dst)
  else if !pfAllow s p e then (false, pfRefuse s p 2 e.dst)
  else match pfToken s p with
    | none => (false, pfRefuse s p 3 e.dst)
    | some s => (true, s)

/-- A board set. -/
def setBoard (s : State) (b : Nat) (x : Board) : State :=
  { s with pair := { s.pair with bol := { s.pair.bol with boards := tabPut s.pair.bol.boards b x } } }

/-- The change commands of a board accepted in the 1 ms that ends now, its start excluded (R482). -/
def boardRecent (s : State) (b : Nat) : List Nat := (boardOf s b).cmds.filter fun t => t + 1000000 > s.now

/-- A partition's Bolpel command before the Prefect. -/
def pfBoard (s : State) (p b : Nat) (inService : Bool) : Bool × State :=
  if !pfState s p inService then (false, pfRefuse s p 1 b)
  else if !pfAllowBoard s p b then (false, pfRefuse s p 2 b)
  else if (boardRecent s b).length ≥ s.vn 0x440040 b then (false, pfRefuse s p 4 b)
  else (true, setBoard s b { boardOf s b with cmds := boardRecent s b ++ [s.now] })

/-- PF_TOKEN_REFILL: a token returns to a partition's bucket when its time has come (R481). -/
def execPfTokenRefill (dt p : Nat) (s : State) : Host.Outcome State Fault Refusal :=
  let s := advance dt s
  let x := pfOf s p
  match x.next with
  | none => done s
  | some t =>
    if !dueBy s (tokenDue x) then done s
    else
      let n := min (x.tokens + 1) (s.fn 0x440031 p 1)
      let y := if n < s.fn 0x440031 p 1 then tokenClock s p t x.nextN x.nextD x else { x with next := none, nextN := 0, nextD := 1 }
      done (setPf s p { y with tokens := n })

/-- The counters Pf clears (R30). -/
def opPfReset (s : State) : Res :=
  good (clearCtrs (clearCtrs s 0x440033 0x440035 none) 0x440041 0x440051 none)

/-- PF_COUNTERS_RESET: clears the V counters of area 44 (R30). -/
def execPfCountersReset (dt : Nat) (rq : Req) (s : State) : Host.Outcome State Fault Refusal :=
  done (doExec (advance dt s) rq 0x440070 0 opPfReset)

/-- IMAGE_LOADER_WRITE_REFUSED: a write to a protected region outside the image loader is refused, counted and recorded (R490). -/
def execImageLoaderWriteRefused (dt region : Nat) (s : State) : Host.Outcome State Fault Refusal :=
  let s := advance dt s
  done (logRec (bump s 0x440060 0) 0x01D4 (0x80 + 18) (ints [region]))

end Sys2Proof.Machine
end

