-- ==== Sys2Proof/Machine/Tx.lean ====
section
/-! DEFINITION. Transmission (R167, R181, R186, R194 to R200, R223 to R229): groups, class and launch queues, the wire, completions; and
what the start of a frame means for a GOOSE block or an outbound stream (R301 to R307). -/

namespace Sys2Proof.Machine

/-! ## Ports and groups -/

/-- Is a port LAN B of its group. -/
def isLanB (n : Nat) : Bool := n < 6 && n % 2 == 1

/-- The roll-call unit of a port. -/
def portUnit (n : Nat) : Nat := if n < 4 then 2 else if n < 6 then 3 else if n < 8 then 5 else 4

/-- The ports a destination port names: both of a PRP or HSR group, itself otherwise. -/
def destPorts (s : State) (n : Nat) : List Nat :=
  if n < 6 && gmode s (groupOf n) != 0 then [2 * groupOf n, 2 * groupOf n + 1] else [n]

/-! ## Jobs -/

/-- A transmission's job. -/
def jobOf (s : State) (j : Nat) : TxJob := tabGetD s.net.jobs j { owner := .none, copies := 0 }

/-- A job set. -/
def setJob (s : State) (j : Nat) (x : TxJob) : State := { s with net := { s.net with jobs := tabPut s.net.jobs j x } }

/-- A publish block set. -/
def setGb (s : State) (b : Nat) (x : GBlock) : State := { s with pub := { s.pub with blocks := tabPut s.pub.blocks b x } }

/-- The next stNum or sqNum (R302). -/
def nextNum (n : Nat) : Nat := if n ≥ 4294967295 then 1 else n + 1

/-- Every copy of a job leaves its queue. -/
def dropJob (s : State) (j : Nat) : State :=
  { s with net := { s.net with
      ports := tabMap (fun _ x => { x with q := x.q.filter (fun f => f.job != j), lq := x.lq.filter fun f => f.job != j }) s.net.ports
      jobs := tabDel s.net.jobs j } }

/-- A block's retransmissions not yet started are withdrawn (R304). -/
def gbWithdraw (s : State) (b : Nat) : State :=
  let js := s.net.jobs.filterMap fun (j, x) =>
    if x.owner == .goose b none false && !(x.sentA || x.sentB) then some j else none
  js.foldl dropJob s

/-- A block adopts a new state with time t = E: stNum advances, sqNum is 0, what is still to be repeated of the old state is
withdrawn and the schedule restarts from E (R301, R303, R304). -/
def gbAdopt (s : State) (b : Nat) (slots : List Nat) (t : Int) : State :=
  let s := gbWithdraw s b
  let g := gbOf s b
  let t1 := s.fn 0x280100 b 11
  setGb s b { g with has := true, slots := slots, st := nextNum g.st, sq := 0, t := t, tq := timeOctet s, gap := t1, due := some (t + t1),
                     held := none, heldSlots := [], heldT := 0 }

/-- A GOOSE request's completion form in its ring, with the stNum and t in force after it. -/
def gooseReqAt (s : State) (q i status cflags st : Nat) (t : Int) : State :=
  match tabGet (ringOf s q).slots (slotOf s q i) with
  | some (.goose r) => entryDone s q i (.gooseDone r status st cflags t)
  | _ => s

/-- A GOOSE request completes under the state its block has now. -/
def gooseReqDone (s : State) (b q i status cflags : Nat) : State := gooseReqAt s q i status cflags (gbOf s b).st (gbOf s b).t

/-- CFLAGS of a GOOSE completion. -/
def gooseFlags (changed late a b : Bool) : Nat := b2n changed + 2 * b2n late + 4 * b2n a + 8 * b2n b

/-- The last copy of a job is resolved: its completion is written (R197, R224, R229, R306, R307). -/
def jobEnd (s : State) (j : Nat) : State :=
  let x := jobOf s j
  let sent := x.sentA || x.sentB
  let status := if sent then 0 else if x.lateDrop then 2 else if x.noUnit then 6 else 1
  let s := x.stampPorts.foldl (fun s n => setPort s n { portOf s n with stamps := (portOf s n).stamps - 1 }) s
  let s := { s with net := { s.net with jobs := tabDel s.net.jobs j } }
  match x.owner with
  | .none => s
  | .ring q i =>
    let time := if !x.tsReq then 0 else if x.timeA != 0 then x.timeA else x.timeB
    match tabGet (ringOf s q).slots (slotOf s q i) with
    | some (.tx r) =>
      entryDone s q i (.txDone r status (b2n x.sentA + 2 * b2n x.sentB + 4 * b2n x.lateSent + 8 * b2n x.tsLost) time)
    | _ => s
  | .goose b (some (q, i)) change =>
    if (gbOf s b).held == some j then
      if status == 2 then
        let s := setGb s b { gbOf s b with held := none, heldSlots := [] }
        gooseReqDone (bump s 0x280113 b) b q i 2 0
      else
        let g := gbOf s b
        gooseReqDone (gbAdopt s b g.heldSlots g.heldT) b q i status (gooseFlags true false false false)
    else gooseReqAt s q i status (gooseFlags change x.lateSent x.sentA x.sentB) x.st x.t
  | .goose _ none _ => s
  | .os o => if x.lateDrop && !sent then bump s 0x280212 o else s

/-- One copy of a job is resolved. -/
def copyEnd (s : State) (j : Nat) : State :=
  let x := jobOf s j
  if x.copies ≤ 1 then jobEnd (setJob s j { x with copies := 0 }) j else setJob s j { x with copies := x.copies - 1 }

/-- A copy leaves its queue unsent because its link is down. -/
def copyDown (s : State) (n j : Nat) : State :=
  if (tabGet s.net.jobs j).isNone then s else copyEnd (bump s 0x10002B n) j

/-- A copy is dropped late. -/
def copyLate (s : State) (j : Nat) : State := copyEnd (setJob s j { jobOf s j with lateDrop := true }) j

/-! ## The wire -/

/-- Transmission time of a frame with preamble and inter-frame gap, in ns. -/
def wireNs (speed len : Nat) : Nat := if speed == 0 then 0 else ceilDiv ((len + 20) * 8000) speed

/-- Shaper tokens of a class in bits, refilled up to now (R195). -/
def shapeBits (s : State) (n c : Nat) : Nat :=
  let v := s.val 0x100017 n c
  let cap := vN v 1 * 8
  match tabGet (portOf s n).tokens c with
  | none => cap
  | some (b, t) => min cap (b + (s.now - t) * vN v 0 / 1000000)

/-- Is class c of port n shaped. -/
def shaped (s : State) (n c : Nat) : Bool := c < 6 && vN (s.val 0x100017 n c) 0 != 0

/-- Is a frame one of a migration's. -/
def isMig : TxWhat → Bool
  | .mig .. => true
  | _ => false

/-- The ns that a migration frame of so many octets takes of MIG_PB_RATE, in kbit/s (R345). -/
def migNs (s : State) (len : Nat) : Nat := if s.vn 0x300042 0 == 0 then 0 else ceilDiv (len * 8000000) (s.vn 0x300042 0)

/-- May the head frame of a class start now: its tokens and MIG_PB_RATE, and no launch frame of its class or a higher one would find the wire taken
(R195, R225). -/
def mayStart (s : State) (n : Nat) (f : TxFrame) : Bool :=
  (!shaped s n f.cls || shapeBits s n f.cls ≥ f.len * 8) && (!isMig f.what || (portOf s n).migNext ≤ s.now) &&
    (portOf s n).lq.all fun g => match g.launch with
      | some l => f.cls > g.cls || tai s + (wireNs (portOf s n).speed f.len : Int) ≤ l
      | none => true

/-- The head frame of a class queue. -/
def headOf (p : Port) (c : Nat) : Option TxFrame := p.q.find? fun f => f.cls == c

/-- The frame the transmitter starts next: strict priority, 7 highest (R194). -/
def pickFrame (s : State) (n : Nat) : Option TxFrame :=
  [7, 6, 5, 4, 3, 2, 1, 0].findSome? fun c => match headOf (portOf s n) c with
    | some f => if mayStart s n f then some f else none
    | none => none

/-- What a frame's start means for its job: SENT, LATE_SENT, the stamp entry and time (R220, R223, R224). -/
def jobStart (s : State) (n : Nat) (f : TxFrame) : State :=
  let x := jobOf s f.job
  let wants := f.ts
  let room := (portOf s n).stamps < 64
  let s := if wants && !room then bump s 0x180036 n else s
  let keep := wants && room && x.tsReq
  let s := if keep then setPort s n { portOf s n with stamps := (portOf s n).stamps + 1 } else s
  setJob s f.job { x with
    sentA := x.sentA || !f.lanB
    sentB := x.sentB || f.lanB
    lateSent := x.lateSent || f.late
    tsLost := x.tsLost || (wants && !room)
    timeA := if keep && !f.lanB then txStamp s n else x.timeA
    timeB := if keep && f.lanB then txStamp s n else x.timeB
    stampPorts := if keep then x.stampPorts ++ [n] else x.stampPorts }

/-- The first copy of a GOOSE frame starts: a held change frame becomes the block's state, sqNum advances, a change request without
launch completes (R301, R304, R306). -/
def gooseStart (s : State) (j b : Nat) (req : Option (Nat × Nat)) : State :=
  let g := gbOf s b
  let s := bump s 0x280112 b
  if g.held == some j then
    let s := gbAdopt s b g.heldSlots g.heldT
    let s := if (jobOf s j).lateSent then bump s 0x280113 b else s
    setGb (setJob s j { jobOf s j with sq := 0, st := (gbOf s b).st, t := (gbOf s b).t }) b { gbOf s b with sqLast := 0, sq := 1 }
  else
    let old := (jobOf s j).st != 0 && (jobOf s j).st != g.st
    let s := if old then s
      else setGb (setJob s j { jobOf s j with sq := g.sq }) b { g with sqLast := g.sq, sq := nextNum g.sq }
    match req with
    | none => s
    | some (q, i) =>
      let x := jobOf s j
      let s := gooseReqAt s q i 0 (gooseFlags true x.lateSent x.sentA x.sentB) x.st x.t
      setJob s j { x with owner := .goose b none true }

/-- A PTP port set. -/
def setPtp (s : State) (p : Nat) (x : PtpPort) : State := { s with tm := { s.tm with ports := tabPut s.tm.ports p x } }

/-- A PTP message of a kind (R214): its destination, the domain, and its time: the origin of a one-step Sync, the receipt of the request in
a Pdelay_Resp until it leaves and then the turnaround, what a follow-up carries; 0 otherwise. -/
def ptpMsg (s : State) (kind : Nat) (time : Int) (a : Option Announce) : TxWhat :=
  .ptp kind (if kind == 2 || kind == 3 || kind == 5 then 0x0180C200000E else 0x011B19000000) (s.vn 0x180022 0) time a

/-- The next SeqNr of a group (R181). -/
def takeSeq (s : State) (g : Nat) : Nat × State :=
  let n := tabGetD s.net.seqNr g 0
  (n, { s with net := { s.net with seqNr := tabPut s.net.seqNr g ((n + 1) % 65536) } })

/-- Are PTP messages of a kind link-local: the Pdelay messages carry no HSR tag (R218). -/
def ptpLocal (kind : Nat) : Bool := kind == 2 || kind == 3 || kind == 5

/-- The SeqNr of a frame sent on some ports of one group: both ports of a PRP or HSR group share one; what leaves on one ring port carries
one of its own (R181, R186; DEDUCED from R187, entry 55). -/
def tagSeq (s : State) (ports : List Nat) : Option Nat × State :=
  let g := groupOf (nth ports 0 8)
  if ports.length == 2 || gmode s g == 2 then (let (n, s) := takeSeq s g; (some n, s)) else (none, s)

/-- A frame of the time unit's own placed behind what waits on port n. -/
def pushPtp (s : State) (n len kind : Nat) (time : Int) : State :=
  let j := s.net.nextJob
  let s := setJob { s with net := { s.net with nextJob := j + 1 } } j { owner := .none, copies := 1, cls := 7 }
  let (sq, s) := if ptpLocal kind then (none, s) else tagSeq s [n]
  setPort s n { portOf s n with q := (portOf s n).q ++ [{ job := j, cls := 7, len := if sq.isSome then len + 6 else len, seqNr := sq
                                                          what := ptpMsg s kind time none }] }

/-- What a forwarded Sync adds to correctionField on ring port n (R218): its residence time and the ingress port's meanLinkDelay. -/
def fwdAdd (s : State) (n : Nat) (rx : Int) : Int :=
  txStamp s n - rx + (ptpOf s (if n % 2 == 0 then n + 1 else n - 1)).delay

/-- The start of a PTP message: its stamp is taken, or lost, and a two-step message is followed by its follow-up (R214, R218, R223). -/
def ptpStart (s : State) (n : Nat) (f : TxFrame) (room : Bool) : State :=
  match f.what with
  | .ptp 0 .. => if f.ts && room then pushPtp s n 64 4 (txStamp s n) else s
  | .ptp 2 .. => setPtp s n { ptpOf s n with t1 := if room then some (txStamp s n) else none }
  | .ptp 3 _ _ t _ => if f.ts && room then pushPtp s n 72 5 (txStamp s n - t) else s
  | .forward g rx => (match g.body with
    | .ptp (.sync _ _ _ true _) => setPtp s n { ptpOf s n with fwdRes := tabPut (ptpOf s n).fwdRes g.src (fwdAdd s n rx) }
    | _ => s)
  | _ => s

/-- A frame as it leaves: with the port's own source address, unless it is forwarded (R168, R483); a GOOSE frame carries the numbers its job
fixed, a partition's frame its octets with that address, a one-step Sync its origin, a one-step Pdelay_Resp its turnaround, a forwarded Sync
or Follow_Up its correction. -/
def onWire (s : State) (n : Nat) (f : TxFrame) : TxFrame :=
  let f := { f with src := match f.what with
    | .forward g _ => g.src
    | _ => ownMac s n }
  match f.what with
  | .ring o => { f with what := .ring { o with bytes := if o.bytes.length < 12 then o.bytes else o.bytes.take 6 ++ macBytes f.src ++ o.bytes.drop 12 } }
  | .ptp 0 d m _ a => { f with what := .ptp 0 d m (if f.ts then 0 else txStamp s n) a }
  | .ptp 3 d m t a => { f with what := .ptp 3 d m (if f.ts then 0 else txStamp s n - t) a }
  | .forward g rx => (match g.body with
    | .ptp (.sync d o c false b) => { f with what := .forward { g with body := .ptp (.sync d o (c + fwdAdd s n rx) false b) } rx }
    | .ptp (.followUp d o c b) => { f with what := .forward { g with body := .ptp (.followUp d o (c + tabGetD (ptpOf s n).fwdRes g.src 0) b) } rx }
    | _ => f)
  | .goose b st _ tal t tq c sl =>
    let x := jobOf s f.job
    let n := if x.st == 0 then st else x.st
    { f with what := .goose b n x.sq tal t (if n == (gbOf s b).st then (gbOf s b).tq else tq) c sl }
  | _ => f

/-- A frame starts on the wire of port n. -/
def startFrame (s : State) (n : Nat) (f : TxFrame) : State :=
  let first := !((jobOf s f.job).sentA || (jobOf s f.job).sentB)
  let p := portOf s n
  let toks := if shaped s n f.cls then tabPut p.tokens f.cls (shapeBits s n f.cls - f.len * 8, s.now) else p.tokens
  let s := setPort s n { p with
    q := p.q.erase f
    tokens := toks
    migNext := if isMig f.what then s.now + migNs s f.len else p.migNext }
  let s := match first, f.took with
    | true, some t => commitWire s f.part t (s.now - f.ready.getD s.now)
    | _, _ => s
  let room := decide ((portOf s n).stamps < 64)
  let s := ptpStart (jobStart s n f) n f room
  let s := match (jobOf s f.job).owner with
    | .goose b req _ => if first then gooseStart s f.job b req else s
    | .os o => if first then (let s := bump s 0x280210 o
                              if f.late then bump s 0x280212 o else s) else s
    | _ => s
  setPort s n { portOf s n with wire := some (onWire s n f) }

/-- The policy of a launch frame judged late or outside the launch window: removed, or sent at the first opportunity. -/
def latePolicy (s : State) (n : Nat) (f : TxFrame) (ctr : Nat) : State :=
  let p := portOf s n
  let s := bump (setPort s n { p with lq := p.lq.erase f, q := p.q.erase f }) ctr n
  if f.dropLate then copyLate s f.job
  else
    let p := portOf s n
    setPort s n { p with q := { f with late := true, launch := none } :: p.q }

/-- Is a launch frame that has not begun late: it may still begin at L + LATE_TOLERANCE itself, where `by_` says it has not. -/
def isLate (s : State) (n : Nat) (by_ : Bool) (f : TxFrame) : Bool :=
  match f.launch with
  | some l => l + (s.vn 0x180060 n : Int) < tai s || (by_ && l + (s.vn 0x180060 n : Int) == tai s)
  | none => false

/-- Every launch frame of port n that has not begun and is late follows its policy (R226). -/
def lateSweep (s : State) (n : Nat) (by_ : Bool) : State :=
  ((portOf s n).q ++ (portOf s n).lq).foldl (fun s f => if isLate s n by_ f then latePolicy s n f 0x180062 else s) s

/-- Is a port's transmitter paused. -/
def paused (s : State) (n : Nat) : Bool := (portOf s n).pauseFrom.isSome

/-- The counter of a frame whose traffic key, judged as its first copy would start, is stale or unusable (R506). -/
def staleCtr (s : State) (f : TxFrame) : Option (Nat × Nat) :=
  let x := jobOf s f.job
  if x.sentA || x.sentB then none
  else match x.owner with
    | .goose b _ _ => if s.fn 0x280100 b 15 != 0 && !tkFor s (s.fn 0x280100 b 16) 3 then some (0x280114, b) else none
    | .os o => if s.fn 0x280200 o 18 != 0 && !tkFor s (s.fn 0x280200 o 19) 1 then some (0x280213, o) else none
    | _ => none

/-- A frame is not sent because its key is stale: a change it carries is adopted, and its request completes with KEY_STALE (R307). -/
def staleDrop (s : State) (f : TxFrame) (ctr : Nat × Nat) : State :=
  let x := jobOf s f.job
  let s := dropJob (bump s ctr.1 ctr.2) f.job
  match x.owner with
  | .goose b req _ =>
    let g := gbOf s b
    let s := if g.held == some f.job then gbAdopt s b g.heldSlots g.heldT else s
    (match req with
    | some (q, i) => (if g.held == some f.job then gooseReqDone s b q i 8 (gooseFlags true false false false)
        else gooseReqAt s q i 8 (gooseFlags true false false false) x.st x.t)
    | none => s)
  | _ => s

/-- Starts the next frame of an idle transmitter; frames of stale keys fall out on the way. -/
def kickN : Nat → State → Nat → State
  | 0, s, _ => s
  | k + 1, s, n =>
    match pickFrame s n with
    | none => s
    | some f => match staleCtr s f with
      | some c => kickN k (staleDrop s f c) n
      | none => startFrame s n f

/-- The head of each class is ready from now on, unless it has been before. -/
def headsReady (now : Nat) : List Nat → List TxFrame → List TxFrame
  | _, [] => []
  | seen, f :: r => (if seen.contains f.cls then f else { f with ready := some (f.ready.getD now) }) :: headsReady now (f.cls :: seen) r

/-- The transmitter of port n is free: stage 12 of the frames at the heads of its classes runs (R24). -/
def wireFree (s : State) (n : Nat) : State := setPort s n { portOf s n with q := headsReady s.now [] (portOf s n).q }

/-- Starts the next frame of an idle transmitter. -/
def kick (s : State) (n : Nat) : State :=
  if (portOf s n).wire.isSome || !linkUp s n || paused s n then s
  else
    let s := wireFree (lateSweep s n false) n
    kickN ((portOf s n).q.length + 1) s n

/-! ## Queueing -/

/-- Puts a launch frame in order of launch time, then class, then submission. -/
def lqInsert (f : TxFrame) : List TxFrame → List TxFrame
  | [] => [f]
  | g :: r => if f.launch.getD 0 < g.launch.getD 0 || (f.launch == g.launch && f.cls > g.cls) then f :: g :: r else g :: lqInsert f r

/-- A launch frame is judged against the counter (R227). -/
def launchJudge (s : State) (n : Nat) (f : TxFrame) : State :=
  match f.launch with
  | none => s
  | some l =>
    if l < tai s - (s.vn 0x180060 n : Int) then latePolicy s n f 0x180062
    else if l > tai s + (s.vn 0x180061 0 : Int) then latePolicy s n f 0x180063
    else setPort s n { portOf s n with lq := lqInsert f ((portOf s n).lq.erase f) }

/-- A copy joins its port: the launch queue when it holds a launch time, its class queue otherwise. -/
def enqueue (s : State) (n : Nat) (f : TxFrame) : State :=
  let s := if f.launch.isSome then launchJudge s n f else setPort s n { portOf s n with q := (portOf s n).q ++ [f] }
  kick s n

/-- Does the life cycle let a frame of the module's own leave on port n (R93): on the PB and SB ports everything in OPERATIONAL, PTP,
Jalyn and what carries it in PROVISIONED, only the latter two in QUARANTINE. -/
def lifeLets (s : State) (n : Nat) (w : TxWhat) : Bool :=
  n ≥ 6 || life s == 2 || match w with
    | .ptp .. => life s == 1
    | .forward .. => life s == 1
    | .answer .. => life s == 1 || life s == 3
    | .jalyn .. => life s == 1 || life s == 3
    | _ => false

/-- Sends a frame on a list of ports as one job: the copies of ports whose links are down are removed at once (R197); copies to a
PRP or HSR group share one SeqNr, and what leaves on one ring port alone has its own. -/
def sendJob (s : State) (ports : List Nat) (tag : Bool) (owner : TxOwner) (f : TxFrame) (tsReq : Bool) : State :=
  let j := s.net.nextJob
  let s := { s with net := { s.net with nextJob := j + 1 } }
  let s := setJob s j { owner := owner, copies := ports.length, tsReq := tsReq, cls := f.cls }
  let s := match f.what with
    | .goose _ st _ _ t .. => setJob s j { jobOf s j with st := st, t := t }
    | _ => s
  let s := match owner with
    | .goose b (some _) _ => if f.launch.isSome then setGb s b { gbOf s b with held := some j } else s
    | _ => s
  let (sq, s) := if tag then tagSeq s ports else (none, s)
  ports.foldl (fun s n =>
    if linkUp s n then
      enqueue s n { f with job := j, lanB := isLanB n && ports.length == 2, seqNr := sq
                           len := if sq.isSome then f.len + 6 else f.len }
    else copyDown s n j) s

/-- Sends a frame to a port or the group it stands for. -/
def sendTo (s : State) (n : Nat) (owner : TxOwner) (f : TxFrame) (tsReq : Bool) : State :=
  if lifeLets s n f.what then sendJob s (destPorts s n) true owner f tsReq else s

/-- The octets of a migration message (R345, R350) under AES-256-GCM's 16-octet tag: memory by its spans, the contexts by their size.
PRESUMED (entry 60): the manual gives the other messages no layout. -/
def migLen : MigMsg → Nat
  | .handshake _ f _ => 193 + f.digest.length + f.alloc.length + 13 * f.profiles.length + 10 * f.rows.length
  | .round _ spans _ => 16 + sumN (spans.map fun (_, n) => 16 + n)
  | .finalSet _ _ _ c x => 48 + c + sumN (x.spans.map fun (_, n) => 16 + n)
  | .handover .. => 77
  | _ => 32

/-- A migration message leaves a process-bus port in unicast frames of class 5 (R345), 1,496 octets of it in each (PRESUMED, entry 60). -/
def sendPb (s : State) (n peer : Nat) (m : MigMsg) : State :=
  let k := max 1 (ceilDiv (migLen m) 1496)
  (upto k).foldl (fun s i =>
    sendTo s n .none { job := 0, cls := 5, len := max 64 (18 + min 1496 (migLen m - 1496 * i))
                       what := .mig peer (if i + 1 == k then some m else none) } false) s

/-- Sends a frame of the module's own on one port: without a PRP trailer, with a tag of its own in an HSR ring. -/
def sendOne (s : State) (n cls len : Nat) (what : TxWhat) : State :=
  if linkUp s n && lifeLets s n what then sendJob s [n] true .none { job := 0, cls := cls, len := len, what := what } false else s

/-- Has the launch queue of every port a destination names room (R227). -/
def launchRoom (s : State) (n : Nat) : Bool := (destPorts s n).all fun m => !linkUp s m || (portOf s m).lq.length < 128

/-! ## TX rings (R376, R478) -/

/-- One request taken from a TX ring by partition p, so many ns after its commit. -/
def txRequest (s : State) (q i p : Nat) (r : TxReq) (took : Nat) : State :=
  let fail (s : State) (st : Nat) : State := entryDone s q i (.txDone r st 0 0)
  if r.dest ≥ 6 then fail s 4
  else if r.len < 60 || r.len > 1518 then fail s 5
  else if !unitOk s (portUnit r.dest) then fail s 6
  else
    let (ok, s) := pfFrame s p (servedEntry s q i) ⟨destPorts s r.dest, r.frame.etype, r.frame.dst, r.frame.appid, r.frame.vid⟩
    if !ok then fail s 3
    else sendTo (commitPass s p took) r.dest (.ring q i)
      { job := 0, cls := min r.cls 6, len := r.len + 4, launch := if r.launch then some r.launchTime else none
        dropLate := r.dropLate, ts := r.tsReq, part := p, took := some took, what := .ring r.frame } r.tsReq

/-- Takes the entries a TX ring holds, in order, until a launch queue is full (R227). What an entry waits for a full launch queue is launch
hold, which `waited` leaves out of stage 11 (R24; DEDUCED, entry 58). -/
def txTake : Nat → State → Nat → Bool → State
  | 0, s, _, _ => s
  | n + 1, s, q, waited =>
    match nextEntry s q with
    | some (i, .tx r) =>
      if r.launch && r.dest < 6 && !launchRoom s r.dest then s
      else txTake n (txRequest (takeEntry s q) q i (rOwner s q) r (if waited then 0 else commitTook s q i)) q waited
    | some (_, _) => txTake n (takeEntry s q) q waited
    | none => s

/-- Every TX ring that waited for a launch queue goes on. -/
def txResume (s : State) : State :=
  s.tt.rings.foldl (fun s (q, r) => if rType s q == 1 && r.taken != r.prod then txTake (idxDist r.taken r.prod) s q true else s) s

/-! ## Links going down -/

/-- Every frame queued on a port is removed with LINK_DOWN (R197); rings that waited for its launch queue go on (R227). -/
def flushPort (s : State) (n : Nat) : State :=
  let p := portOf s n
  let fs := p.q ++ p.lq
  let s := setPort s n { p with q := [], lq := [], wire := none, pauseFrom := none }
  let s := fs.foldl (fun s f => copyDown s n f.job) s
  txResume (match p.wire with
    | some f => copyEnd s f.job
    | none => s)

/-- Every frame on a port whose unit enters FAULT is removed; what it carries completes with NOT_READY (R88). -/
def flushFault (s : State) (n : Nat) : State :=
  let p := portOf s n
  let fs := p.q ++ p.lq ++ p.wire.toList
  let s := setPort s n { p with q := [], lq := [], wire := none, pauseFrom := none }
  txResume (fs.foldl (fun s f => copyEnd (setJob s f.job { jobOf s f.job with noUnit := true }) f.job) s)

/-- Removes a partition's queued frames without completion; a frame on the wire is finished (R337). -/
def dropPartFrames (s : State) (p : Nat) : State :=
  let queued := (s.net.ports.flatMap fun (_, x) => (x.q ++ x.lq).filter fun f => f.part == p).map fun f => f.job
  let wired := (s.net.ports.filterMap fun (_, x) => x.wire).filterMap fun f => if f.part == p then some f.job else none
  { s with net := { s.net with
      ports := tabMap (fun _ x => { x with q := x.q.filter (fun f => f.part != p), lq := x.lq.filter fun f => f.part != p }) s.net.ports
      jobs := (s.net.jobs.filter fun (j, _) => wired.contains j || !queued.contains j).map fun (j, x) =>
        (j, if queued.contains j then { x with owner := .none, copies := 1 }
            else if wired.contains j then { x with owner := .none } else x) } }

end Sys2Proof.Machine
end

