-- ==== Sys2Proof/Machine/Ports.lean ====
section
/-! DEFINITION. Cages, transceivers and links (R38 to R40, R166 to R174), PAUSE's ends (R199), the node table's ageing and the
supervision frames (R181 to R183, R186). -/

namespace Sys2Proof.Machine

/-! ## Cages and link state -/

/-- A cage set. -/
def setCage (s : State) (n : Nat) (c : Cage) : State := { s with hw := { s.hw with cages := tabPut s.hw.cages n c } }

/-- Does a cage exist: eight, IU0 and IU1 only with option P (R40). -/
def cageFits (s : State) (n : Nat) : Bool := n < 6 || (n < 8 && s.ident.optP)

/-- The ports a roll-call unit covers (R174). -/
def unitPorts (u : Nat) : List Nat := if u == 2 then [0, 1, 2, 3] else if u == 3 then [4, 5] else if u == 4 then [8] else []

/-- Subs 2, 3 and 4 judged by their ports (R174). -/
def judgePorts (s : State) (u : Nat) : State :=
  let ps := (unitPorts u).filter fun n => adminOn s n
  let rom := s.boot.phase == .gateway || s.boot.phase == .recovery || s.boot.phase == .halt
  if !((running s && (unitOk s u || unitSt s u == .off)) || (rom && unitOk s u)) || (unitPorts u).isEmpty then s
  else if ps.isEmpty then setUnit s u .off
  else setUnit s u (if ps.any fun n => linkState s n != 2 then .degraded else .ready)

/-- The speed an AUTO port would come up at by its transceiver's codes (R170); none when it is UNSUPPORTED. -/
def autoSpeed (n : Nat) (id : SfpId) : Option Nat :=
  if !id.ccBaseOk then none
  else if n < 4 && id.tenGig then some 10000
  else if id.oneGig then some 1000
  else none

/-- The speed a cage's port comes up at under its PORT_MODE (R170, R171). -/
def modeSpeed (s : State) (n : Nat) : Option Nat :=
  match s.vn 0x100002 n with
  | 0 => (portOf s n).sfp.bind (autoSpeed n)
  | 1 => some 10000
  | _ => some 1000

/-- Does the resolution with a partner, by its LINK_PARTNER bits, grant reception of PAUSE where PAUSE_ENABLE is set (R172, R198). -/
def pauseResolved (partner : Nat) : Bool := bit partner 0 && !bit partner 4 && (bit partner 1 || bit partner 2)

/-- Do a transceiver's codes disagree with an explicit PORT_MODE, or its checksum fail (R171). -/
def modeDisagrees (mode : Nat) (id : SfpId) : Bool :=
  !id.ccBaseOk || (mode == 1 && !id.tenGig) || (mode == 2 && !id.oneGig)

/-- A link that was UP is down: the transition is recorded and counted, its queued frames are removed (R173, R197). -/
def linkLost (s : State) (n : Nat) : State :=
  if !linkUp s n then s
  else
    let s := bump (logRec (setPort s n { portOf s n with st := 1, speed := 0, partner := 0 }) 0x0140 (0x80 + portUnit n) (ints [n, 0]))
      0x10002F n
    let s := flushPort s n
    if n < 4 && !([0, 1, 2, 3] : List Nat).any (linkUp s) then { s with pair := { s.pair with pbUp := some s.now } } else s

/-- A port drops its link by command: its transmitter stays disabled for 10 ms (R173). -/
def dropByCommand (s : State) (n : Nat) : State :=
  let s := linkLost s n
  judgePorts (setPort s n { portOf s n with hold := some (s.now + 10000000) }) (portUnit n)

/-- Is a port held down because its group's other port is UP at another speed (R166). -/
def speedClash (s : State) (n speed : Nat) : Bool :=
  let m := if n % 2 == 0 then n + 1 else n - 1
  n < 6 && gmode s (groupOf n) != 0 && linkUp s m && (portOf s m).speed != speed

/-- The negotiation of a port ends with its link-up condition met (R170, R173). -/
def linkRise (s : State) (n speed partner : Nat) : State :=
  if !adminOn s n || linkUp s n || (portOf s n).hold.isSome || n > 8 || n == 6 || n == 7 then s
  else if n < 8 && !(cageOf s n).powered then s
  else if n < 8 && modeSpeed s n != some speed then s
  else if speedClash s n speed then
    judgePorts (logRec (setPort s n { portOf s n with st := 4 }) 0x0141 (0x80 + portUnit n) (ints [n])) (portUnit n)
  else
    let part := partner % 8 + 8 * b2n (s.vb 0x100016 n && pauseResolved partner) + 16 * b2n (bit partner 4)
    let s := setPort s n { portOf s n with st := 2, speed := speed, partner := part }
    kick (judgePorts (logRec s 0x0140 (0x80 + portUnit n) (ints [n, 1])) (portUnit n)) n

/-- TRANSCEIVER_INSERT: MOD_ABS goes low; the cage is powered 50 ms later (R39). -/
def execTransceiverInsert (dt cage : Nat) (s : State) : Host.Outcome State Fault Refusal :=
  let s := advance dt s
  if cageFits s cage && !(cageOf s cage).present then
    done (setCage s cage { present := true, powered := false, tripped := false, onDue := some (s.now + 50000000) })
  else if cage < 8 && !(cageOf s cage).present then done (setCage s cage { present := true })
  else done s

/-- SFP_ID_READ: page A0h is read after power-on (R169 to R171). -/
def execSfpIdRead (dt cage : Nat) (id : SfpId) (s : State) : Host.Outcome State Fault Refusal :=
  let s := advance dt s
  if !(cageOf s cage).powered then done s
  else
    let mode := s.vn 0x100002 cage
    let s := setPort s cage { portOf s cage with sfp := some id, ddmAt := none }
    if cage ≥ 6 then done s
    else if mode == 0 then
      if linkUp s cage then done s
      else
        let st := if autoSpeed cage id == none then 4 else 1
        done (judgePorts (setPort s cage { portOf s cage with st := st }) (portUnit cage))
    else if modeDisagrees mode id then done (logRec s 0x0141 (0x80 + portUnit cage) (ints [cage]))
    else done s

/-- SFP_DDM_POLL: page A2h is read every second where it is announced (R169). -/
def execSfpDdmPoll (dt cage : Nat) (ddm : SfpDdm) (s : State) : Host.Outcome State Fault Refusal :=
  let s := advance dt s
  match (portOf s cage).sfp with
  | some id =>
    let due := match (portOf s cage).ddmAt with
      | some t => decide (t + 1000000000 ≤ s.now)
      | none => true
    if id.ddm && (cageOf s cage).powered && due then
      done (setPort s cage { portOf s cage with ddm := some ddm, ddmAt := some s.now })
    else done s
  | none => done s

/-- A write of PORT_ADMIN (R173, R174). -/
def putPortAdmin (s : State) (n : Nat) (v : Val) : Res :=
  let was := adminOn s n
  let s := s.put 0x100001 n 0 v
  if was == adminOn s n then good s
  else if adminOn s n then good (judgePorts (setPort s n { portOf s n with hold := some (s.now + 10000000) }) (portUnit n))
  else good (judgePorts (setPort (linkLost s n) n { portOf (linkLost s n) n with hold := none }) (portUnit n))

/-- The codes a port's PORT_MODE accepts. -/
def modeOk (n m : Nat) : Bool := m == 0 || (n < 4 && m ≤ 2) || (n < 6 && m == 2)

/-- A write of PORT_MODE: its codes per port, the equal modes of a PRP or HSR group, and the restart of the link (R166, R173). -/
def putPortMode (s : State) (n : Nat) (v : Val) : Res :=
  let other := if n % 2 == 0 then n + 1 else n - 1
  if !modeOk n (vN v 0) then deny s rangeS
  else if n < 6 && gmode s (groupOf n) != 0 && s.vn 0x100002 other != vN v 0 then deny s rangeS
  else if s.vn 0x100002 n == vN v 0 then good s
  else
    let s := s.put 0x100002 n 0 v
    let s := match (portOf s n).sfp with
      | some id => if vN v 0 != 0 && modeDisagrees (vN v 0) id then logRec s 0x0141 (0x80 + portUnit n) (ints [n]) else s
      | none => s
    let s := dropByCommand s n
    let st := match (portOf s n).sfp with
      | some id => if vN v 0 == 0 && n < 6 && autoSpeed n id == none then 4 else 1
      | none => 1
    good (judgePorts (setPort s n { portOf s n with st := st }) (portUnit n))

/-- TX_DISABLE_HOLD_END: the commanded transmitter disable ends and the negotiation of the port's mode starts (R173). -/
def execTxDisableHoldEnd (dt port : Nat) (s : State) : Host.Outcome State Fault Refusal :=
  let s := advance dt s
  if dueBy s (portOf s port).hold then done (setPort s port { portOf s port with hold := none }) else done s

/-- A group's GROUP_MODE is applied: both ports drop their links and renegotiate; its node entries are removed (R167). -/
def groupApply (s : State) (g : Nat) : State :=
  let l := s.net.nodes.filter fun (k, _) => k / 281474976710656 != g
  let s := { s with net := { s.net with nodes := l, nodesFull := s.net.nodesFull && l.length ≥ 4096 } }
  dropByCommand (dropByCommand s (2 * g)) (2 * g + 1)

/-! ## PAUSE's ends (R199) -/

/-- Transmission resumes; the pause is no part of stage 12 of the frames that waited (R24). -/
def pauseOff (s : State) (n : Nat) : State :=
  let p := portOf s n
  let held := s.now - p.pauseFrom.getD s.now
  txResume (kick (setPort s n { p with pauseFrom := none, q := p.q.map fun f => { f with ready := f.ready.map (· + held) } }) n)

/-- PAUSE_END: the pause time elapses. -/
def execPauseEnd (dt port : Nat) (s : State) : Host.Outcome State Fault Refusal :=
  let s := advance dt s
  let p := portOf s port
  if p.pauseFrom.isSome && p.pauseEnd ≤ s.now then done (pauseOff s port) else done s

/-- PAUSE_CEILING_REACHED: the pause has lasted for C: transmission resumes, the event is counted and logged, and the lockout runs. -/
def execPauseCeilingReached (dt port : Nat) (s : State) : Host.Outcome State Fault Refusal :=
  let s := advance dt s
  let c := s.vn 0x440010 port
  match (portOf s port).pauseFrom with
  | none => done s
  | some t =>
    if s.now < t + c then done s
    else
      let s := setPort s port { portOf s port with lockEnd := some (t + 2 * c) }
      done (pauseOff (logRec (bump s 0x10002D port) 0x0143 (0x80 + portUnit port) (ints [port])) port)

/-- PAUSE_LOCKOUT_END: PAUSE is honoured again. -/
def execPauseLockoutEnd (dt port : Nat) (s : State) : Host.Outcome State Fault Refusal :=
  let s := advance dt s
  if dueBy s (portOf s port).lockEnd then done (setPort s port { portOf s port with lockEnd := none }) else done s

/-! ## Node table and supervision -/

/-- The node table's key of a source in a group. -/
def nodeKey (g mac : Nat) : Nat := g * 281474976710656 + mac

/-- NODE_AGE_OUT: an entry from which no frame came for 60 s is removed (R182). -/
def execNodeAgeOut (dt group mac : Nat) (s : State) : Host.Outcome State Fault Refusal :=
  let s := advance dt s
  match tabGet s.net.nodes (nodeKey group mac) with
  | none => done s
  | some e =>
    if s.now < e.seen + 60000000000 then done s
    else done { s with net := { s.net with nodes := tabDel s.net.nodes (nodeKey group mac), nodesFull := false } }

/-- SUPERVISION_TX: every 2,000 ms a supervision frame, version 1 with TLV type 20 in PRP and 23 in HSR, leaves on each port of a group, tagged
as every frame to the group, in OPERATIONAL (R93, R181, R186). -/
def execSupervisionTx (dt group : Nat) (s : State) : Host.Outcome State Fault Refusal :=
  let s := advance dt s
  if group > 2 || gmode s group == 0 || life s != 2 || !hubLive s || !unitOk s (portUnit (2 * group)) ||
      s.now < tabGetD s.net.superDue group 0 then done s
  else
    let s := { s with net := { s.net with superDue := tabPut s.net.superDue group (s.now + 2000000000) } }
    done (sendTo s (2 * group) .none { job := 0, cls := 7, len := 70, what := .supervision 1 (if gmode s group == 2 then 23 else 20) } false)

/-- The counters Port clears (R30). -/
def opPortReset (s : State) (port : Nat) : Res := good (clearCtrs s 0x100020 0x10002F (some port))

/-- PORT_COUNTERS_RESET (R30). -/
def execPortCountersReset (dt : Nat) (rq : Req) (port : Nat) (s : State) : Host.Outcome State Fault Refusal :=
  done (doExec (advance dt s) rq 0x100030 port fun s => opPortReset s port)

/-- The counters Group clears (R30). -/
def opGroupReset (s : State) (group : Nat) : Res := good (clearCtrs s 0x110020 0x110027 (some group))

/-- GROUP_COUNTERS_RESET (R30). -/
def execGroupCountersReset (dt : Nat) (rq : Req) (group : Nat) (s : State) : Host.Outcome State Fault Refusal :=
  done (doExec (advance dt s) rq 0x110030 group fun s => opGroupReset s group)

/-- Puts a frame whose launch time has come ahead of its class, behind launch frames that came before it. -/
def headInsert (f : TxFrame) : List TxFrame → List TxFrame
  | [] => [f]
  | g :: r => if g.launch.isSome then g :: headInsert f r else f :: g :: r

/-- LAUNCH_TIME_REACHED: at L a frame goes to the head of its class queue (R225). -/
def execLaunchTimeReached (dt port : Nat) (s : State) : Host.Outcome State Fault Refusal :=
  let s := advance dt s
  match (portOf s port).lq with
  | [] => done s
  | f :: r =>
    if f.launch.getD 0 ≤ tai s then
      done (txResume (kick (setPort s port { portOf s port with lq := r, q := headInsert f (portOf s port).q }) port))
    else done s

/-- LAUNCH_LATE: every frame not begun by L + LATE_TOLERANCE follows its policy (R226); one that can begin at that instant does. -/
def execLaunchLate (dt port : Nat) (s : State) : Host.Outcome State Fault Refusal :=
  let s := advance dt s
  done (txResume (kick (lateSweep (kick s port) port true) port))

/-- Each frame in the launch queues is judged again after a step (R228). -/
def launchRejudge (s : State) : State :=
  txResume ((upto 6).foldl (fun s n => kick ((portOf s n).lq.foldl (fun s f => launchJudge s n f) s) n) s)

end Sys2Proof.Machine
end

