-- ==== Sys2Proof/Machine/Conv.lean ====
section
/-! DEFINITION. Quality words (R259), and the rate converters' tables and arithmetic (R267 to R271). -/

namespace Sys2Proof.Machine

/-! ## Quality (R259) -/

/-- The rank of a validity: good, questionable, invalid; the received 0b10 ranks as invalid. -/
def vRank (q : Nat) : Nat := if q % 4 == 0 then 0 else if q % 4 == 3 then 1 else 2

/-- The validity of a rank. -/
def vCode (r : Nat) : Nat := if r == 0 then 0 else if r == 1 then 3 else 1

/-- The merge of two quality words: the worse validity, the detail bits of both. -/
def mergeQ (a b : Nat) : Nat := vCode (max (vRank a) (vRank b)) + 4 * ((a / 4) ||| (b / 4))

/-- A received quality word: bits [26:14] and [31:27] are discarded, validity 0b10 becomes invalid. -/
def recvQ (q : Nat) : Nat := mergeQ (q % 16384) 0

/-- The marks of R259's table. -/
def qQuestion : Nat := 0x00000003
/-- SYNCH_ACTION MARK: questionable, inaccurate, SYNCH_MISMATCH. -/
def qMark : Nat := 0x20000203
/-- FREE_RUN: questionable, SYNCH_MISMATCH. -/
def qFree : Nat := 0x20000003
/-- CONV_FILL: questionable, inaccurate, CONV_FILL. -/
def qConv : Nat := 0x10000203
/-- HOLD or EXTRAPOLATE fill: questionable, oldData, SUBSTITUTED. -/
def qHold : Nat := 0x80000083
/-- MARK fill, or nothing remembered: invalid, oldData, SUBSTITUTED. -/
def qNone : Nat := 0x80000081
/-- Lost fill: invalid, failure, oldData, SUBSTITUTED. -/
def qLost : Nat := 0x800000C1
/-- SATURATED and overflow (R265). -/
def qSat : Nat := 0x40000004
/-- A dispute decided invalid: invalid, inconsistent, DISPUTED. -/
def qDispute : Nat := 0x08000101
/-- DISPUTED. -/
def qDisputed : Nat := 0x08000000
/-- The history's restart value: invalid, failure. -/
def qRestart : Nat := 0x00000041
/-- Unused channel slots of a seat unit. -/
def qUnused : Nat := 0x00000001

/-! ## Rates and rows (R235, R249) -/

/-- The converter a rate needs at a base rate: none where no conversion exists, some none for the native rate. -/
def convFor (base rate : Nat) : Option (Option Nat) :=
  if rate == base then some none
  else if base == 4800 then (if rate == 4000 then some (some 0) else if rate == 14400 then some (some 3) else none)
  else if rate == 12800 then some (some 1)
  else if rate == 15360 then some (some 2)
  else if rate == 4800 then some (some 4) else none

/-- j_last of output row r: the first input at or after the row's time plus A (R268). -/
def convLast (c r : Nat) : Nat :=
  let (l, m, _, f) := convPar c
  r * m / l + f + (if r * m % l == 0 then 0 else 1)

/-- The number of output rows whose j_last is input n or one before it. -/
def rowsUpTo (c n : Nat) : Nat :=
  let (l, m, _, f) := convPar c
  (n - f) * l / m

/-- The output rows whose j_last is input n, oldest first. -/
def convRows (c n : Nat) : List Nat :=
  let (l, m, _, f) := convPar c
  if n ≤ f then []
  else
    let lo := (n - f - 1) * l / m + 1
    let hi := (n - f) * l / m
    (upto (hi + 1 - lo)).map (· + lo)

/-- The sum of products of R264, lowest index first. -/
def macSum (cs xs : List Int) : Int × Bool := (cs.zip xs).foldl (fun a (c, x) => satAdd a (c * x)) (0, false)

/-- A shifted and clipped sum, with whether it saturated (R265). -/
def macOut (cs xs : List Int) (sh : Nat) : Int × Bool :=
  let (a, h) := macSum cs xs
  let (v, k) := sat32 (shiftRound a sh)
  (v, h || k)

/-- A converter output of one channel: value, quality and clip (R271). `xs` and `qs` are the support, oldest first. -/
def convOne (cs xs : List Int) (qs : List Nat) (fill : Bool) : Int × Nat × Bool :=
  let (v, k) := macOut cs xs 23
  let q := (cs.zip qs).foldl (fun a (c, q) => if c == 0 then a else mergeQ a q) 0
  let q := if fill then mergeQ q qConv else q
  (v, if k then q ||| qSat else q, k)

/-- A converter output of every channel from a history, newest first, whose head is the output's last input: values, quality words,
CONV_FILL, and the number of channels that clipped. -/
def convOut (c p : Nat) (h : List ConvIn) (ch : Nat) : List Int × List Nat × Bool × Nat :=
  let (_, _, k, _) := convPar c
  let sup := (h.take k).reverse
  let fill := sup.any (·.filled)
  let cs := convCoef c p
  let outs := (upto ch).map fun i =>
    convOne cs (sup.map fun x => nth x.values i 0) (sup.map fun x => nth x.quality i 0) fill
  (outs.map (·.1), outs.map (·.2.1), fill, (outs.filter (·.2.2)).length)

/-- A history primed with its first input (R251): the older entries repeat it and count as filled. -/
def convPrime (k : Nat) (x : ConvIn) : List ConvIn :=
  x :: (upto (k - 1)).map fun i => { x with n := x.n - (i + 1), filled := true }

/-- A history with the inputs up to n filled by repeating the previous one. -/
def convFill (k : Nat) : Nat → List ConvIn → Nat → List ConvIn
  | 0, h, _ => h
  | m + 1, h, n =>
    match h with
    | [] => h
    | y :: _ => if y.n < n then convFill k m (({ y with n := y.n + 1, filled := true } :: h).take k) n else h

/-- A history whose every input up to n repeats its newest: a gap longer than what it holds. -/
def convJump (k : Nat) (h : List ConvIn) (n : Nat) : List ConvIn :=
  match h with
  | [] => []
  | y :: _ => (upto k).map fun i => { y with n := n - i, filled := true }

end Sys2Proof.Machine
end

