-- ==== Sys2Proof/Machine/Plan.lean ====
section
/-! DEFINITION. Sampled-value subscription and the seating plan (R235 to R262): the two banks of the subscription table, acceptance,
placing, converters, row close, substitution and stream states. -/

namespace Sys2Proof.Machine

/-! ## Rows (R235, R246, R252) -/

/-- The nominal instant of a row, whole ns. -/
def rowTime (s : State) (r : Nat) : Int := (r * 1000000000 / baseHz s : Nat)

/-- The first row whose time is at or after t ns. -/
def rowFrom (s : State) (t : Int) : Nat := ceilDiv (t.toNat * baseHz s) 1000000000

/-- The alignment window of a row. -/
def wOf (s : State) (r : Nat) : Nat :=
  match (s.plan.wCuts.filter fun (c, _) => c ≤ r).getLast? with
  | some (_, w) => w
  | none => s.plan.w

/-- A row's own close instant, in ns times the base rate. -/
def closeAtOwn (s : State) (r : Nat) : Nat := r * 1000000000 + wOf s r * baseHz s

/-- Has the counter reached a row's close instant, which is never before that of a row before it (R252). -/
def closeDue (s : State) (r : Nat) : Bool :=
  let due (q : Nat) : Bool := ((closeAtOwn s q : Nat) : Int) * 4294967296 ≤ tai32 s * (baseHz s : Int)
  due r && s.plan.wCuts.all fun (c, _) => c > r || c == 0 || due (c - 1)

/-- The newest row of the stretches of constant W from the first on whose close instant the counter has passed. -/
def newestIn (s : State) : Nat → List (Nat × Nat) → Nat
  | acc, [] => acc
  | acc, (c, w) :: rest =>
    let n := rowAt s (tai32 s - (w : Int) * 4294967296)
    match rest with
    | (d, _) :: _ => if n + 1 ≥ d then newestIn s (d - 1) rest else if n ≥ c then n else acc
    | [] => if n ≥ c then n else acc

/-- The newest row whose close instant the counter has passed. -/
def newestDue (s : State) : Nat := newestIn s 0 ((0, s.plan.w) :: s.plan.wCuts)

/-- The absolute number of a sample by its count, the rate and the receive stamp (R246). -/
def rowOf (smpCnt rate : Nat) (t : Int) : Nat :=
  let sec : Int := t / 1000000000
  let r : Int := rate
  let d : Int := (sec * r + smpCnt) * 1000000000 - t * r
  let sec := if d > 500000000 * r then sec - 1 else if d < -500000000 * r then sec + 1 else sec
  (sec * r + smpCnt).toNat

/-! ## Subscription entries and their banks (R239, R240) -/

/-- The value of an S object for the rows from r on: the bank of row r. -/
def bankVal (s : State) (r ob sub : Nat) : Val :=
  let k := okey ob sub 0
  let next := if (match s.jal.commitRow with | some c => decide (r ≥ c) | none => false) then tabGet s.jal.commitSet k else none
  match next, s.plan.banks.findSome? fun (c, l) => if r < c then tabGet l k else none with
  | some v, _ => v
  | none, some v => v
  | none, none => s.val ob sub 0

/-- The row by which an ASDU's bank is chosen: an old bank is retired when the last of its rows closes, so a row that has closed is judged
with the first that has not (R240). -/
def openRow (s : State) (r : Nat) : Nat :=
  match s.plan.lastClosed with
  | some l => max r (l + 1)
  | none => r

/-- The rows at which a bank begins: those of banks not retired and of a commit accepted, rising. -/
def bankCuts (s : State) : List Nat := (s.plan.banks.map Prod.fst).filter (· > openRow s 0) ++ s.jal.commitRow.toList

/-- The banks that rows after r, or rows on their way through conditioning, still need. -/
def banksFrom (s : State) (r : Nat) : List (Nat × List (Nat × Val)) :=
  s.plan.banks.filter fun (c, _) => c > r || s.cond.queue.any (· < c) || s.cond.down.any (· < c)

/-- Do two rows fall into the same bank. -/
def sameBank (s : State) (r q : Nat) : Bool := (bankCuts s).all fun c => decide (r ≥ c) == decide (q ≥ c)

/-- A subscription entry in the bank of row r. -/
def subOf (s : State) (r e : Nat) : Val := bankVal s r 0x200100 e

/-- Is an entry valid in the bank of row r. -/
def subValid (s : State) (r e : Nat) : Bool := vB (subOf s r e) 0

/-- Entry numbers with anything configured, in either bank. -/
def subKeys (s : State) : List Nat :=
  let extra := (s.jal.commitSet ++ s.plan.banks.flatMap Prod.snd).filterMap fun (k, _) =>
    if k / 4294967296 == 0x200100 then some (k / 65536 % 65536) else none
  let all := s.subsOf 0x200100
  sortN (extra.foldl adjoin all)

/-- The valid entries of the bank of row r, in order. -/
def subsAt (s : State) (r : Nat) : List Nat := (subKeys s).filter fun e => subValid s r e

/-- An entry's RATE. -/
def subRate (v : Val) : Nat := vN v 6
/-- The first seat unit of an entry. -/
def subBase (v : Val) : Nat := vN v 8

/-- SVID_HASH of an entry in the bank of row r. -/
def subHash (s : State) (r e : Nat) : Nat := crc32c (vO (bankVal s r 0x200101 e) 0)

/-- What check 2 of R241 compares. -/
structure SvKey where
  port : Nat
  dst : Nat
  appid : Nat
  vid : Nat

/-- Does an entry match a frame and an svID hash in the bank of row r. -/
def subMatch (s : State) (r e : Nat) (k : SvKey) (hash : Nat) (any : Bool) : Bool :=
  let v := subOf s r e
  vB v 0 && bit (vN v 1) k.port && ofBe (vO v 2) == k.dst && vN v 3 == k.appid && subHash s r e == hash &&
    (if any then vN v 4 == 0xFFF else vN v 4 == k.vid && k.vid != 0xFFF)

/-- The entry a frame and an svID hash match in the bank of row r: an equal VID goes before VID 0xFFF. -/
def subFind (s : State) (r : Nat) (k : SvKey) (hash : Nat) : Option Nat :=
  match (subKeys s).find? fun e => subMatch s r e k hash false with
  | some e => some e
  | none => (subKeys s).find? fun e => subMatch s r e k hash true

/-- The row that decides an ASDU's bank under an entry's RATE (R240). -/
def asduRow (s : State) (rate : Nat) (a : Asdu) (t : Int) : Nat :=
  if rate == 0 then 0 else rowOf a.smpCnt rate t * baseHz s / rate

/-- The row of an ASDU's bank: by the RATE of the entry it matches in the newest bank, else in an older one; none where none matches. -/
def asduBankRow (s : State) (k : SvKey) (a : Asdu) (t : Int) : Option Nat :=
  ((bankCuts s).reverse ++ [openRow s 0]).findSome? fun r =>
    (subFind s r k a.svidHash).map fun e => openRow s (asduRow s (subRate (subOf s r e)) a t)

/-! ## Rows of the plan -/

/-- A row of the plan. -/
def planRow (s : State) (r : Nat) : Row := tabGetD s.plan.rows r {}

/-- A row set. -/
def setRow (s : State) (r : Nat) (x : Row) : State := { s with plan := { s.plan with rows := tabPut s.plan.rows r x } }

/-- A stream set. -/
def setStream (s : State) (e : Nat) (x : Stream) : State :=
  { s with plan := { s.plan with streams := tabPut s.plan.streams e x } }

/-- What a frame gives every seat it fills. -/
structure RxMeta where
  lanB : Bool
  sim : Bool
  auth : Bool
  synch : Nat
  rxNs : Nat

/-- Is the plan in service: READY or DEGRADED, and not being disabled. -/
def planOn (s : State) : Bool := unitTakes s 8 && hubLive s

/-- Is a row closed: at or below the last closed row. -/
def rowClosed (s : State) (r : Nat) : Bool :=
  match s.plan.lastClosed with
  | some l => decide (r ≤ l)
  | none => false

/-- Is a row's slot still taken by an earlier row that has not been released and fetched (R237). -/
def slotTaken (s : State) (r : Nat) : Bool :=
  s.plan.rows.any fun (q, x) => q < r && q % 64 == r % 64 && (!x.released || s.cond.queue.contains q || s.cond.down.contains q)

/-- Is a row open for the seat of an entry: within the plan's eight rows ahead, its close instant not reached, the seat empty. -/
def seatOpen (s : State) (e r : Nat) : Bool :=
  planOn s && r ≤ curRow s + 8 && !rowClosed s r && !closeDue s r && !slotTaken s r && !(tabGetD (planRow s r).seats e {}).recv

/-- Seats values in a row, or counts them early, late or duplicate (R246); at the close instant the close goes first (R247); one whose slot
is still taken counts as early (DESIGN CHOICE, entry 94). -/
def placeSeat (s : State) (e r : Nat) (vals : List Int) (quals : List Nat) (smpCnt : Nat) (conv : Bool) (m : RxMeta) : State :=
  if !planOn s then s
  else if r > curRow s + 8 then bump s 0x200122 e
  else if rowClosed s r || closeDue s r then bump s 0x200121 e
  else if slotTaken s r then bump s 0x200122 e
  else
    let row := planRow s r
    let old := tabGetD row.seats e {}
    if old.recv then
      if old.values == vals && old.quality == quals then bump s 0x200123 e
      else logRec (bump s 0x200124 e) 0x0162 (0x80 + 7) (ints [e, smpCnt])
    else
      let seat : Seat := { recv := true, conv := conv, lanB := m.lanB, sim := m.sim, values := vals, quality := quals, smpCnt := smpCnt
                           synch := m.synch, rxNs := m.rxNs, auth := m.auth }
      bump (setRow s r { row with seats := tabPut row.seats e seat }) 0x200120 e

/-- The FREE_RUN mark of R259. -/
def freeMark (s : State) (mapped : Nat) (q : Nat) : Nat := if s.tm.quality == 2 && mapped ≥ 1 then mergeQ q qFree else q

/-! ## Converted streams (R250, R251, R271) -/

/-- SmpSynch mapped (R243). -/
def mapSynch (v : Nat) : Nat := if v == 0 || v == 3 || v == 4 || v == 255 then 0 else if v == 1 then 1 else 2

/-- The outputs that wait for the input at the head of a history are produced and placed; each channel that clips is counted (R265). -/
def convEmit (s : State) (e c ch : Nat) (h : List ConvIn) (m : RxMeta) : State :=
  match h with
  | [] => s
  | x :: _ => (convRows c x.n).foldl (fun s r =>
      let (l, mm, _, _) := convPar c
      let (vs, qs, fill, clips) := convOut c (r * mm % l) h ch
      let s := if fill && seatOpen s e r then bump s 0x200131 e else s
      let s := bumpBy s 0x240110 e clips
      placeSeat s e r vs (qs.map (freeMark s (mapSynch m.synch))) (r % baseHz s) true m) s

/-- The inputs before n that have not come are filled one by one, k at most, and their outputs placed in the rows still open; the output of
a row that has closed leaves its seat empty (R251). -/
def convCatch (e c ch : Nat) : Nat → State → Nat → State
  | 0, s, _ => s
  | k + 1, s, n =>
    let h := (streamOf s e).hist
    match h with
    | [] => s
    | y :: _ =>
      if y.n + 1 ≥ n then s
      else
        let h' := convFill (convPar c).2.2.1 1 h (y.n + 1)
        let s := setStream s e { streamOf s e with hist := h' }
        let open_ := (convRows c (y.n + 1)).any fun r => !rowClosed s r
        convCatch e c ch k (if open_ then convEmit s e c ch h' ⟨y.lanB, y.sim, y.auth, y.synch, y.rxNs⟩ else s) n

/-- A history moved on to its newest input n at once, each input that has not come a repetition of the one before. -/
def convSkip (s : State) (e c n : Nat) : State :=
  let h := (streamOf s e).hist
  match h with
  | [] => s
  | y :: _ =>
    let k := (convPar c).2.2.1
    if n ≤ y.n then s
    else setStream s e { streamOf s e with hist := if n > y.n + k then convJump k h n else convFill k (n - y.n) h n }

/-- Every input before n that has not come is filled (R251): what only closed rows needed at once, then, input by input, what open rows
need; outputs of rows more than 8 ahead count as early (R246), and the inputs behind them are filled at once. -/
def convFillTo (s : State) (e c ch n : Nat) : State :=
  let s := convSkip s e c (min (n - 1) (convLast c (openRow s 0) - 1))
  let top := convLast c (curRow s + 8) + (convPar c).2.2.1
  let s := match (streamOf s e).hist with
    | [] => s
    | y :: _ => convCatch e c ch (min n (top + 1) - 1 - y.n) s (min n (top + 1))
  if n ≤ top + 1 then s else convSkip (bumpBy s 0x200122 e (rowsUpTo c (n - 1) - rowsUpTo c top)) e c (n - 1)

/-- A converter takes input n of an entry with RATE, CHANNELS and SEAT_BASE `as`. A change of one of these empties the history (R272), from
the first input judged by the new bank on; one of the old bank that comes after it is older than the newest taken. -/
def convInput (s : State) (e c ch n : Nat) (as : Nat × Nat × Nat) (old : Bool) (vals : List Int) (quals : List Nat) (m : RxMeta) : State :=
  let st := streamOf s e
  let k := (convPar c).2.2.1
  let fits := st.histAs == as
  let st := if fits then st else { st with hist := [], histAs := as }
  let x : ConvIn := { n := n, values := vals, quality := quals, filled := false, sim := m.sim, lanB := m.lanB, synch := m.synch
                      rxNs := m.rxNs, auth := m.auth }
  if !planOn s then s else if !fits && old && !(streamOf s e).hist.isEmpty then bump s 0x200121 e else match st.hist with
  | [] =>
    let h := convPrime k x
    convEmit (setStream s e { st with hist := h }) e c ch h m
  | y :: _ =>
    if n < y.n || (n == y.n && y.filled) then bump s 0x200121 e
    else if n == y.n then
      if y.values == vals && y.quality == quals then bump s 0x200123 e
      else logRec (bump s 0x200124 e) 0x0162 (0x80 + 7) (ints [e, n % convRate c])
    else
      let s := convFillTo s e c ch n
      let h := (x :: (streamOf s e).hist).take k
      convEmit (setStream s e { streamOf s e with hist := h }) e c ch h m

/-- What an entry's history hangs on (R272). -/
def histAs (v : Val) : Nat × Nat × Nat := (subRate v, subCh v, subBase v)

/-- Row r has closed: the inputs it needed and that have not come are filled, and outputs of other rows that waited for them are placed
(R251). -/
def convClose (s : State) (r : Nat) : State :=
  (subsAt s r).foldl (fun s e =>
    let v := subOf s r e
    match convFor (baseHz s) (subRate v) with
    | some (some c) => if (streamOf s e).histAs == histAs v then convFillTo s e c (subCh v) (convLast c r + 1) else s
    | _ => s) s

/-! ## Learned values (R245) -/

/-- A new learned rate; a change that differs from the entry is recorded. -/
def learnRate (s : State) (e want v : Nat) : State :=
  let st := streamOf s e
  if st.learnedRate == v then s
  else
    let s := setStream s e { st with learnedRate := v, loggedRate := v }
    if v != want then logRec s 0x0164 (0x80 + 7) (ints [e, 0, v]) else s

/-- A new learned channel count. -/
def learnCh (s : State) (e want v : Nat) : State :=
  let st := streamOf s e
  if st.learnedCh == v then s
  else
    let s := setStream s e { st with learnedCh := v, loggedCh := v }
    if v != want then logRec s 0x0164 (0x80 + 7) (ints [e, 1, v]) else s

/-- The largest SmpCnt of a second, entered. -/
def learnCnt (s : State) (e sec cnt : Nat) : State :=
  let st := streamOf s e
  if sec == st.learnSec then
    setStream s e { st with learnMax := some (match st.learnMax with | some m => max m cnt | none => cnt) }
  else if sec > st.learnSec then
    let prev := match st.learnMax with
      | some m => some (st.learnSec, m)
      | none => st.prevMax
    setStream s e { st with prevMax := prev, learnSec := sec, learnMax := some cnt }
  else match st.prevMax with
    | some (q, m) => if q == sec then setStream s e { st with prevMax := some (q, max m cnt) } else s
    | none => s

/-- An ASDU that passed check 6 teaches the entry. -/
def learn (s : State) (e : Nat) (v : Val) (a : Asdu) (t : Int) : State :=
  let s := learnCh s e (subCh v) a.values.length
  match a.smpRate with
  | some r => learnRate (setStream s e { streamOf s e with carried := some r }) e (subRate v) r
  | none =>
    let s := setStream s e { streamOf s e with carried := none }
    if subRate v == 0 then s else learnCnt s e (rowOf a.smpCnt (subRate v) t / subRate v) a.smpCnt

/-! ## Acceptance (R241 to R244) -/

/-- A failed authentication: counted, and the first since a commit or a success recorded (R242). -/
def authFail (s : State) (e ctr : Nat) : State :=
  let s := bump s ctr e
  if (streamOf s e).authLogged then s
  else logRec (setStream s e { streamOf s e with authLogged := true }) 0x0163 (0x80 + 7) (ints [e])

/-- Has a simulated frame been accepted under an entry whose SIM_ACCEPT no bank between has clear: row r takes simulated frames only. -/
def simOnly (s : State) (r e : Nat) : Bool :=
  (streamOf s e).simRows.any fun q =>
    vB (subOf s (min q r) e) 16 && (bankCuts s).all fun c => !(min q r < c && c ≤ max q r) || vB (subOf s c e) 16

/-- What a commit row that has closed leaves of the entries' simulated frames: a cleared SIM_ACCEPT ends their hold. -/
def simKeep (s : State) : State :=
  let kept (e : Nat) (x : Stream) : Stream := { x with simRows := x.simRows.filter fun q => vB (subOf s (openRow s q) e) 16 }
  { s with plan := { s.plan with streams := tabMap kept s.plan.streams } }

/-- Checks 3 and 4 for a frame under an entry in the bank of row r. -/
def svFrameOk (s : State) (r e : Nat) (p : SvPdu) : Bool × State :=
  let st := streamOf s e
  let v := subOf s r e
  if (p.sim && !vB v 16) || (!p.sim && vB v 16 && simOnly s r e) then (false, bump s 0x200130 e)
  else
    let key := vN v 15
    if vN v 14 != 0 && p.keyId != tkId s key then (false, authFail s e 0x200128)
    else if vN v 14 != 0 && !tkReady s key then (false, authFail s e 0x200129)
    else if vN v 14 != 0 && !p.tagOk then (false, authFail s e 0x200128)
    else (true, setStream s e { st with
      simRows := if p.sim && !simOnly s r e then st.simRows ++ [r] else st.simRows
      authLogged := st.authLogged && vN v 14 == 0 })

/-- Check 9's comparison with the ASDU before (R243). -/
def synchSeen (s : State) (e raw : Nat) : State :=
  let st := streamOf s e
  let m := mapSynch raw
  let s := setStream s e { st with mapped := some m, rawSynch := raw }
  match st.mapped with
  | some o => if o == m then s else logRec (bump s 0x20012F e) 0x0161 (0x80 + 7) (ints [e, o, m])
  | none => s

/-- Checks 5 to 9 of one ASDU, and its placing (R241, R246, R250). `r` is the row of its bank. -/
def svAsdu (s : State) (r e : Nat) (a : Asdu) (t : Int) (lanB sim auth : Bool) : State :=
  let v := subOf s r e
  if a.svidHash != subHash s r e then bump s 0x20012A e
  else if a.confRev != vN v 5 then bump s 0x20012B e
  else
    let s := learn s e v a t
    if a.values.length != subCh v then bump s 0x20012C e
    else if (match a.smpRate with | some x => x != subRate v | none => false) || a.smpCnt ≥ subRate v
      || (convFor (baseHz s) (subRate v)).isNone then bump s 0x20012D e
    else
      let s := synchSeen s e a.smpSynch
      let m := mapSynch a.smpSynch
      let below := m < vN v 12
      if below && vN v 13 == 0 then bump s 0x20012E e
      else
        let qs := a.quality.map fun q => if below then mergeQ (recvQ q) qMark else recvQ q
        let info : RxMeta := ⟨lanB, sim, auth, a.smpSynch, (t % 1000000000).toNat⟩
        let n := rowOf a.smpCnt (subRate v) t
        match convFor (baseHz s) (subRate v) with
        | some (some c) =>
          let next := (bankCuts s).any fun b => b > r && (streamOf s e).histAs == histAs (subOf s b e)
          convInput s e c (subCh v) n (histAs v) next a.values qs info
        | _ => placeSeat s e n a.values (qs.map (freeMark s m)) a.smpCnt false info

/-- The later ASDUs of a frame, each judged by the bank of its own row; `e0` is the entry the frame matched in the bank of row r0. -/
def svRest (k : SvKey) (p : SvPdu) (t : Int) (lanB : Bool) (r0 e0 : Nat) (s : State) (a : Asdu) : State :=
  let r := match asduBankRow s k a t with
    | some r => r
    | none => openRow s (asduRow s (subRate (subOf s r0 e0)) a t)
  if sameBank s r r0 then svAsdu s r e0 a t lanB p.sim (vN (subOf s r0 e0) 14 != 0)
  else match subFind s r k a.svidHash with
    | none => bump s 0x200201 k.port
    | some e =>
      let (ok, s) := svFrameOk s r e p
      if ok then svAsdu s r e a t lanB p.sim (vN (subOf s r e) 14 != 0) else s

/-- An SV frame at the ingest (R241): `vid` is its effective VID. -/
def svFrame (s : State) (port dst vid : Nat) (lanB : Bool) (p : SvPdu) : State :=
  let t := rxStamp s port
  if !unitTakes s 7 then s
  else if !p.wellFormed || p.asdus.isEmpty || p.asdus.length > 8 || p.asdus.any (fun a => a.values.length != a.quality.length) then
    bump s 0x200200 port
  else match p.asdus with
    | [] => s
    | a :: _ =>
      let k : SvKey := ⟨port, dst, p.appid, vid⟩
      match asduBankRow s k a t with
      | none => bump s 0x200201 port
      | some r =>
        match subFind s r k a.svidHash with
        | none => bump s 0x200201 port
        | some e =>
          let (ok, s) := svFrameOk s r e p
          if ok then p.asdus.foldl (svRest k p t lanB r e) s else s

/-- Does a valid entry name a traffic key that is stale or unusable. -/
def ingestBad (s : State) : Bool :=
  (subKeys s).any fun e =>
    let v := s.val 0x200100 e 0
    vB v 0 && vN v 14 != 0 && !tkFor s (vN v 15) 0

/-- The SV ingest is DEGRADED while a valid entry names a traffic key that is stale or unusable (R262). -/
def judgeIngest (s : State) : State := judgeUnit s 7 (ingestBad s)

/-! ## Missing samples and stream state (R256 to R258) -/

/-- A stream changes state: the time of change, the record and the notification (R258). -/
def streamTo (s : State) (e new r : Nat) : State :=
  let st := streamOf s e
  if st.st == new then s
  else seeNow (logRec (setStream s e { st with st := new, since := tai s }) 0x0160 (0x80 + 8) (ints [e, st.st, new, r])) 0x200110 e

/-- A seat filled by the plan (R236, R257). -/
def fillSeat (s : State) (r : Nat) (vs : List Int) (qs : List Nat) : Seat :=
  { filled := true, values := vs, quality := qs, smpCnt := r % baseHz s, synch := 0xFF, rxNs := 0 }

/-- A lost fill. -/
def lostSeat (s : State) (r ch : Nat) : Seat := fillSeat s r (List.replicate ch 0) (List.replicate ch qLost)

/-- One channel filled by policy (R257): value and quality. -/
def fillChan (policy r : Nat) (mem : List (Nat × List Int × List Bool)) (k : Nat) : Int × Nat :=
  let tst (b : List Bool) : Nat := if nth b k false then 2048 else 0
  match mem with
  | (r1, v1, b1) :: (r0, v0, _) :: _ =>
    let a := nth v1 k 0
    if policy == 1 && r1 - r0 ≤ 8 && r1 > r0 then
      let (v, clip) := sat32 (a + ratRound (((r : Int) - r1) * (a - nth v0 k 0)) ((r1 : Int) - r0))
      (v, qHold ||| tst b1 ||| (if clip then 4 else 0))
    else if policy ≤ 1 then (a, qHold ||| tst b1)
    else (0, qNone ||| tst b1)
  | (_, v1, b1) :: [] => if policy ≤ 1 then (nth v1 k 0, qHold ||| tst b1) else (0, qNone ||| tst b1)
  | [] => (0, qNone)

/-- A seat filled by policy. -/
def policySeat (s : State) (r ch policy : Nat) (mem : List (Nat × List Int × List Bool)) : Seat :=
  let cs := (upto ch).map fun k => fillChan policy r mem k
  fillSeat s r (cs.map (·.1)) (cs.map (·.2))

/-- Puts the seat of entry e into row r with the stream's count and state. -/
def seatIn (s : State) (r e : Nat) (x : Seat) : State :=
  let st := streamOf s e
  let row := planRow s r
  setRow s r { row with seats := tabPut row.seats e { x with subst := st.subst, state := st.st } }

/-- The release procedure of one entry in one row (R256). -/
def releaseSeat (s : State) (r e : Nat) : State :=
  let v := subOf s r e
  let ch := subCh v
  let s := if (streamOf s e).st == 0 then
      streamTo (setStream s e { streamOf s e with subst := 0, good := 0, mem := [], hist := [] }) e 3 r else s
  let st := streamOf s e
  let x := tabGetD (planRow s r).seats e {}
  let away := st.st == 3 || st.st == 4
  if x.recv || x.copied then
    let good := if away then st.good + 1 else st.good
    let back := away && good < vN v 11
    let x := if back then { x with quality := x.quality.map fun q => mergeQ q qQuestion } else x
    let mem := ((r, x.values, x.quality.map fun q => bit q 11) :: st.mem).take 2
    let s := setStream s e { st with subst := 0, good := good, mem := mem }
    let s := if x.copied then bump s 0x200132 e else s
    seatIn (streamTo s e (if back then 4 else 1) r) r e x
  else if away then
    let s := bump (setStream s e { st with good := 0, hist := if st.st == 4 then [] else st.hist }) 0x200126 e
    seatIn (streamTo s e 3 r) r e (lostSeat s r ch)
  else if st.subst + 1 > vN v 10 then
    let s := setStream s e { st with subst := st.subst + 1, good := 0, mem := [], hist := [] }
    let s := bump (bump s 0x200126 e) 0x200127 e
    seatIn (streamTo s e 3 r) r e (lostSeat s r ch)
  else
    let s := bump (setStream s e { st with subst := st.subst + 1 }) 0x200125 e
    seatIn (streamTo s e 2 r) r e (policySeat s r ch (vN v 9) st.mem)

/-- The release processing of a row: entries no longer valid are DISABLED, every valid entry is released (R256, R258). -/
def releaseStreams (s : State) (r : Nat) : State :=
  let valid := subsAt s r
  let s := (tabKeys s.plan.streams).foldl (fun s e =>
    if valid.contains e then s
    else streamTo (setStream s e { streamOf s e with subst := 0, good := 0, mem := [], hist := [] }) e 0 r) s
  let row := planRow s r
  let s := setRow s r { row with seats := row.seats.filter fun (e, _) => valid.contains e }
  valid.foldl (fun s e => releaseSeat s r e) s

/-! ## The plan emptied and started -/

/-- The plan starts empty: closing begins with the next close instant; `gap` marks the first released row (R91, 21.0001). -/
def planEmpty (s : State) (gap : Bool) : State :=
  let strs := tabMap (fun _ (x : Stream) => { x with hist := [] }) s.plan.streams
  let s := { s with plan := { s.plan with rows := [], gapAt := s.plan.gapAt ++ (if gap then [0] else []), streams := strs } }
  let l := newestDue s
  { s with plan := { s.plan with lastClosed := some l, banks := banksFrom s (l + 1) } }

/-! ## Rows before a commit row (R126) -/

/-- The store with values put back as a list gives them. -/
def overlay (st : Tab Val) (l : List (Nat × Option Val)) : Tab Val :=
  l.foldl (fun st (k, v) => match v with
    | some v => tabPut st k v
    | none => tabDel st k) st

/-- The state with the configuration that row r is processed under. -/
def rowCfg (s : State) (r : Nat) : State :=
  { s with store := (s.cond.oldCfg.filter fun (c, _) => r < c).reverse.foldl (fun st (_, l) => overlay st l) s.store }

/-- Processes row r under its own configuration. -/
def rowView (s : State) (r : Nat) (f : State → State) : State :=
  if s.cond.oldCfg.isEmpty then f s else { f (rowCfg s r) with store := s.store }

/-! ## Seat units (R236, R437) -/

/-- The entry, within the bank of row r, that a seat unit belongs to. -/
def unitEntry (s : State) (r u : Nat) : Option Nat :=
  (subsAt s r).find? fun e => decide (subBase (subOf s r e) ≤ u) && decide (u < subBase (subOf s r e) + subUnits (subOf s r e))

/-- The values and quality words of seat unit i of a seat. -/
def unitVQ (x : Seat) (i : Nat) : List Int × List Nat :=
  ((upto 8).map fun k => nth x.values (8 * i + k) 0, (upto 8).map fun k => nth x.quality (8 * i + k) qUnused)

/-- Bytes 0x00 to 0x3F of a seat unit. -/
def unitBytes (x : Seat) (i : Nat) : List Byte :=
  let (vs, qs) := unitVQ x i
  vs.flatMap (leI 4) ++ qs.flatMap (leN 4)

/-- h(r, u) of R437. -/
def unitHash (r u : Nat) (x : Seat) (i : Nat) : List Byte :=
  sha256 (leN 8 r ++ leN 2 u ++ unitBytes x i ++ leN 2 x.smpCnt ++ leN 1 (b2n x.sim))

/-- VTAG of R436. -/
def unitTag (x : Seat) (i : Nat) : Nat := crc32c ((unitBytes x i).take 32 ++ leN 2 x.smpCnt ++ leN 1 (b2n x.sim))

end Sys2Proof.Machine
end

