-- ==== Sys2Proof/Machine/Pair.lean ====
section
/-! DEFINITION. The redundant pair (R427 to R449): IUL messages, pair states, leaving step, equalisation of a closed row, output
digests; and the closing of rows (R252 to R254), which starts it. -/

namespace Sys2Proof.Machine

/-! ## The inter-unit link -/

/-- An IUL lane set. -/
def setLane (s : State) (n : Nat) (x : Lane) : State := { s with pair := { s.pair with lanes := tabPut s.pair.lanes n x } }

/-- A message's priority (R430). -/
def IulMsg.prio : IulMsg → Nat
  | .beacon _ => 7
  | .handover .. => 7
  | .handoverAck .. => 7
  | .presence .. => 6
  | .seats .. => 6
  | .tags .. => 6
  | .agree .. => 6
  | .eqLost _ => 6
  | .align .. => 4
  | .mig _ => 4
  | .relay _ => 2
  | _ => 5

/-- A message's TYPE (R430); a beacon has none. -/
def IulMsg.type : IulMsg → Nat
  | .hello _ => 0x01
  | .report _ => 0x02
  | .presence .. => 0x10
  | .seats .. => 0x11
  | .tags .. => 0x12
  | .agree .. => 0x13
  | .eqLost _ => 0x14
  | .digest .. => 0x20
  | .handover .. => 0x30
  | .handoverAck .. => 0x31
  | .mirror .. => 0x40
  | .mirrorAck .. => 0x41
  | .align .. => 0x50
  | .mig _ => 0x60
  | .relay _ => 0x70
  | .xcheck => 0x80
  | .beacon _ => 0

/-- The row a message names (R436). -/
def IulMsg.row : IulMsg → Option Nat
  | .presence r .. => some r
  | .seats r _ => some r
  | .tags r _ => some r
  | .agree r _ => some r
  | .eqLost r => some r
  | .digest _ r _ => some r
  | .handover _ _ r => some r
  | .align r _ => some r
  | _ => none

/-- The octets of a value as MIRROR carries it: an entry of a WRITE (R141). -/
def mirrorEntry (v : Val) : Nat :=
  10 + sumN (v.map fun f => match f with
    | .o b => b.length
    | _ => 8)

/-- The octets of a mirrored operation. -/
def mirrorLen : MirrorOp → Nat
  | .commit l => sumN (l.map fun (_, v) => mirrorEntry v)
  | .bundle l => sumN (l.map fun (_, v) => mirrorEntry v)
  | .write _ _ v => mirrorEntry v
  | .force _ v => mirrorEntry v
  | .online .. => 24
  | _ => 16

/-- The octets of a message's body (R436, R450, R471; PRESUMED, entry 67, for those the manual gives no layout). -/
def IulMsg.body : IulMsg → Nat
  | .hello h => 54 + h.serial.length
  | .report b => b.length
  | .presence .. => 160
  | .seats _ l => 82 * l.length
  | .tags _ l => 40 * l.length
  | .agree .. => 32
  | .eqLost _ => 0
  | .digest .. => 9
  | .handover .. => 53
  | .handoverAck .. => 2
  | .mirror _ o => 5 + mirrorLen o
  | .mirrorAck .. => 14
  | .align _ l => sumN (l.map fun r => 11 + sumN (r.remembered.map fun (_, v) => 8 + 4 * v.length))
  | .mig m => migLen m
  | .relay b => b.length
  | .xcheck => 8
  | .beacon f => f.bytes.length

/-- The 16-byte header of a frame (R430): TYPE, FLAGS, LEN, SEQ, ROW. -/
def iulHead (m : IulMsg) (seq len : Nat) : List Byte :=
  leN 1 m.type ++ leN 1 (Config.iulFlags seq).toNat ++ leN 2 len ++ leN 4 seq ++ leN 8 (m.row.getD (Config.iulRow seq).toNat)

/-- A message in frames of at most 1,536 octets (R430, R175), SEQ counted on from the given one; a beacon travels as its own frame (R455). -/
def iulFrames (s : State) (m : IulMsg) : List IulFrame :=
  let own := ownMac s 7
  let peer := (Config.iulPeer ((s.pair.partner.map PairHello.serial).getD [])).toNat
  match m with
  | .beacon f => [{ dst := f.dst, src := own, etype := f.etype, len := max 64 (18 + (if f.vid == 0 then 0 else 4) + f.bytes.length)
                    prio := m.prio, msg := some m }]
  | _ =>
    let n := max 1 (ceilDiv m.body 1502)
    (upto n).map fun k =>
      let l := min 1502 (m.body - 1502 * k)
      { dst := peer, src := own, head := iulHead m ((s.pair.iulSeq + k) % 4294967296) l, len := max 64 (34 + l), prio := m.prio
        msg := if k + 1 == n then some m else none }

/-- A frame's place among waiting ones: behind those of its priority or higher. -/
def iulInsert (m : IulFrame) : List IulFrame → List IulFrame
  | [] => [m]
  | x :: r => if m.prio > x.prio then m :: x :: r else x :: iulInsert m r

/-- The number of frames a lane still has to send. -/
def laneLoad (l : Lane) : Nat := l.q.length + b2n l.busy.isSome

/-- An idle lane starts its next frame. -/
def laneKick (l : Lane) : Lane :=
  match l.busy, l.q with
  | none, m :: r => { l with busy := some m, q := r }
  | _, _ => l

/-- A frame joins the lane with the shorter queue. -/
def sendFrame (s : State) (f : IulFrame) : State :=
  match lanesUp s with
  | [] => s
  | n :: r =>
    let k := match r with
      | j :: _ => if laneLoad (laneOf s j) < laneLoad (laneOf s n) then j else n
      | [] => n
    setLane s k (laneKick { laneOf s k with q := iulInsert f (laneOf s k).q })

/-- Sends a message, frame by frame; without a lane up, or outside a pair, it is not sent. -/
def sendIul (s : State) (m : IulMsg) : State :=
  if !pairOn s || (lanesUp s).isEmpty then s
  else
    let fs := iulFrames s m
    let s := fs.foldl sendFrame s
    match m with
    | .beacon _ => s
    | _ => { s with pair := { s.pair with iulSeq := (s.pair.iulSeq + fs.length) % 4294967296 } }

/-! ## Pair state (R428) and step (R448) -/

/-- A partition's part in the pair set. -/
def setStep (s : State) (p : Nat) (x : StepSt) : State := { s with pair := { s.pair with steps := tabPut s.pair.steps p x } }

/-- Is a partition in step. -/
def inStep (s : State) (p : Nat) : Bool := stepState s p == 4

/-- Is the row equalisation running (R449 step 1): settled, link up, no mismatch. -/
def eqRuns (s : State) : Bool :=
  s.pair.st == 3 || (s.pair.st == 2 && (s.pair.reason == 4 || s.pair.reason == 5 || s.pair.reason == 6))

/-- The pair state and reason that the link, settlement and step call for. -/
def pairWant (s : State) : Nat × Nat :=
  if !pairOn s then (0, 0)
  else if s.pair.fail != 0 then (1, 0)
  else if !s.pair.link then (2, 1)
  else if !s.pair.round then (2, 2)
  else if s.pair.mismatch then (2, 3)
  else if s.pair.allIn then (3, 0)
  else (2, s.pair.outReason)

/-- Remembers a row as released equalised, or as UNEQUALISED at either unit. -/
def noteRow (s : State) (r : Nat) (eqd : Bool) : State :=
  if eqd then { s with pair := { s.pair with eqdRows := lastN (adjoin s.pair.eqdRows r) 1024 } }
  else { s with pair := { s.pair with uneqRows := lastN (adjoin s.pair.uneqRows r) 1024 } }

/-- A row's equalisation ends without agreement: copies and decisions are discarded and EQ_LOST is sent (R440). -/
def eqGiveUp (s : State) (r : Nat) : State :=
  noteRow (sendIul { s with pair := { s.pair with eq := tabDel s.pair.eq r } } (.eqLost r)) r false

/-- Equalisation no longer runs: every row still in it ends without agreement, and messages for open rows are discarded (R28, R436). -/
def eqStop (s : State) : State :=
  let s := (s.pair.eq.map Prod.fst).foldl eqGiveUp s
  { s with pair := { s.pair with eqOn := false, held := [], reentry := 0, rePart := none, alignRow := none, resetRow := none } }

/-- The pair state and reason are judged; a change of state is recorded and notified (R428). -/
def pairEval (s : State) : State :=
  let (st, rs) := pairWant s
  let was := eqRuns s
  let o := s.pair.st
  let s := { s with pair := { s.pair with st := st, reason := rs } }
  let s := if st == o then s else seeNow (logRec s 0x01C0 (0x80 + 5) (ints [o, st, rs])) 0x400010 0
  if eqRuns s && !was then { s with pair := { s.pair with eqOn := true, reentry := 2, reRows := 0, rePart := none, alignRow := none, resetRow := none, outReason := 6 } }
  else if was && !eqRuns s then eqStop s
  else s

/-- Every partition leaves step. -/
def allOut (s : State) : State :=
  { s with pair := { s.pair with steps := tabMap (fun _ (x : StepSt) => { x with st := if x.st == 0 then 0 else 1, conv := 0, hold := false }) s.pair.steps
                                 allIn := false } }

/-- One partition leaves step. -/
def stepOut (s : State) (p : Nat) : State :=
  let s := setStep s p { stepOf s p with st := 1, conv := 0, hold := false }
  { s with pair := { s.pair with allIn := false } }

/-- The pair leaves step for a reason; re-entry starts again at step 2 (R449). -/
def leaveStep (s : State) (reason : Nat) : State :=
  let s := pairEval { s with pair := { s.pair with allIn := false, outReason := reason } }
  if eqRuns s then { s with pair := { s.pair with reentry := 2, reRows := 0, rePart := none, alignRow := none, resetRow := none } } else s

/-- Does the partner run another image in partition p (R448, R449). -/
def imgDiffers (s : State) (p : Nat) : Bool :=
  match (stepOf s p).image with
  | some d => d != (partOf s p).digest
  | none => false

/-- The partner is told the image a partition runs, each time it runs anew and at each settlement (R448, R449; the message is PRESUMED,
entry 68). -/
def imageTell (s : State) (p : Nat) : State :=
  if settled s && s.pair.link then sendIul s (.mig (.image p (partOf s p).digest)) else s

/-- A partition that is in step stops being RUNNING here (R448): it leaves step and the pair with it. -/
def stepStop (s : State) (p : Nat) : State :=
  let s := if (stepOf s p).differ then setStep s p { stepOf s p with differ := false } else s
  if (stepOf s p).st ≥ 3 then leaveStep (stepOut s p) 6 else s

/-- A row was released UNEQUALISED at either unit while paired (R442, R443, R448). -/
def uneqLeave (s : State) : State := leaveStep (allOut s) 4

/-! ## Equalisation (R436 to R440) -/

/-- A row's equalisation. -/
def eqOf (s : State) (r : Nat) : Option Eq := tabGet s.pair.eq r

/-- A row's equalisation set. -/
def setEq (s : State) (r : Nat) (x : Eq) : State := { s with pair := { s.pair with eq := tabPut s.pair.eq r x } }

/-- The seat units of an entry. -/
def unitsOf (v : Val) : List Nat := (upto (subUnits v)).map (· + subBase v)

/-- The XOR of 32-octet hashes. -/
def xorAll (l : List (List Byte)) : List Byte := l.foldl xorBytes (zeros 32)

/-- The set digest over the units of the seats that a table holds and a test admits. -/
def setDigest (s : State) (r : Nat) (seats : Tab Seat) (ok : Nat → Seat → Bool) : List Byte :=
  xorAll ((subsAt s r).flatMap fun e =>
    let x := tabGetD seats e {}
    let v := subOf s r e
    ((upto (subUnits v)).filter fun i => ok (subBase v + i) x).map fun i => unitHash r (subBase v + i) x i)

/-- The RECEIVED units of a row. -/
def ownUnits (s : State) (r : Nat) : List Nat :=
  (subsAt s r).flatMap fun e => if (tabGetD (planRow s r).seats e {}).recv then unitsOf (subOf s r e) else []

/-- A seat built from the partner's copies of its units (R438). -/
def copySeat (v : Val) (cs : List SeatCopy) : Option Seat :=
  let us := (unitsOf v).map fun u => cs.find? fun c => c.unit == u
  if us.isEmpty || us.any (·.isNone) then none
  else
    let l := us.filterMap id
    l.head?.map fun c =>
      { copied := true, conv := bit c.flags 3, lanB := bit c.flags 4, sim := bit c.flags 5
        values := (l.flatMap (·.values)).take (subCh v), quality := (l.flatMap (·.quality)).take (subCh v)
        smpCnt := c.smpCnt, synch := c.smpSynch, rxNs := c.rxNs }

/-- A row's seats with the copies and decisions made so far. -/
def eqSeats (s : State) (r : Nat) (x : Eq) : Tab Seat :=
  (subsAt s r).foldl (fun t e =>
    match tabGet x.decided e with
    | some d => tabPut t e d
    | none =>
      if (tabGetD (planRow s r).seats e {}).recv then t
      else match copySeat (subOf s r e) x.copies with
        | some c => tabPut t e c
        | none => t) (planRow s r).seats

/-- SFLAGS of a seat (R237's table). -/
def seatFlags (x : Seat) : Nat :=
  b2n x.recv + 2 * b2n x.filled + 4 * b2n x.copied + 8 * b2n x.conv + 16 * b2n x.lanB + 32 * b2n x.sim

/-- The units of a seat as SEATS carries them. -/
def seatCopies (v : Val) (x : Seat) : List SeatCopy :=
  (upto (subUnits v)).map fun i =>
    let (vs, qs) := unitVQ x i
    ⟨subBase v + i, vs, qs, x.smpCnt, seatFlags x, x.synch, x.rxNs⟩

/-- Seats sent in SEATS messages of 17 records at most. -/
def sendSeats : Nat → State → Nat → List SeatCopy → State
  | 0, s, _, _ => s
  | n + 1, s, r, l => if l.isEmpty then s else sendSeats n (sendIul s (.seats r (l.take 17))) r (l.drop 17)

/-- A unit's TAGS record. -/
def tagOf (x : Seat) (u i : Nat) : TagRec :=
  ⟨u, x.auth, (unitVQ x i).2.any fun q => bit q 28, x.sim, unitTag x i, (unitVQ x i).2⟩

/-- The entries both units received. -/
def bothEntries (s : State) (r : Nat) (own part : List Nat) : List Nat :=
  (subsAt s r).filter fun e =>
    let us := unitsOf (subOf s r e)
    !us.isEmpty && us.all fun u => own.contains u && part.contains u

/-- Marks a seat's channels. -/
def markSeat (x : Seat) (m : Nat) : Seat := { x with quality := x.quality.map fun q => mergeQ q m }

/-- The decision on one seat present at both units (R439): the seat, whether it counts as disputed, whether this unit sends its copy,
whether it waits for the partner's. -/
def decide1 (r e : Nat) (v : Val) (x : Seat) (tags : List TagRec) : Seat × Bool × Bool × Bool :=
  let mine := (upto (subUnits v)).map fun i => tagOf x (subBase v + i) i
  let theirs := mine.map fun t => (tags.find? fun q => q.unit == t.unit).getD t
  if mine == theirs then (x, false, false, false)
  else
  let qs := theirs.flatMap (·.quality)
  let q := (upto x.quality.length).map fun k => mergeQ (nth x.quality k 0) (nth qs k 0)
  if (mine.zip theirs).all fun (a, b) => a.vtag == b.vtag then ({ x with quality := q }, false, false, false)
  else
    let mf := mine.any (·.convFill)
    let tf := theirs.any (·.convFill)
    let ma := mine.any (·.auth)
    let ta := theirs.any (·.auth)
    if mf != tf then (markSeat x qDisputed, true, !mf, mf)
    else if ma != ta then (markSeat x qDisputed, true, ma, ta)
    else
      let vs := (upto x.values.length).map fun k => (Config.disputeValue r e k).toInt
      (markSeat { x with quality := q, values := vs, sim := x.sim || theirs.any (·.sim) } qDispute, true, false, false)

/-- The decisions of a row (R439). -/
def eqDecide (s : State) (r : Nat) (x : Eq) (part : List Nat) (tags : List TagRec) : State :=
  let x := { x with tags := none, want := [] }
  let (s, x) := (bothEntries s r x.own part).foldl (fun (acc : State × Eq) e =>
    let (s, x) := acc
    let v := subOf s r e
    let old := tabGetD (planRow s r).seats e {}
    let (d, disp, send, wait) := decide1 r e v old tags
    let x := { x with decided := if d == old then x.decided else tabPut x.decided e d
                      disputed := x.disputed + b2n disp
                      wins := if wait then x.wins ++ unitsOf v else x.wins }
    (if send then sendSeats 4 s r (seatCopies v d) else s, x)) (s, x)
  setEq s r x

/-- A winning copy takes the place of this unit's (R439). -/
def eqWins (s : State) (r : Nat) (x : Eq) : Eq :=
  (subsAt s r).foldl (fun x e =>
    let v := subOf s r e
    if (unitsOf v).any fun u => x.wins.contains u then
      match copySeat v x.copies with
      | some c => { x with decided := tabPut x.decided e (markSeat c qDisputed)
                           wins := x.wins.filter fun u => !(unitsOf v).contains u }
      | none => x
    else x) x

/-- The row is agreed: its seats stand as decided, and it may be released equalised (R438). -/
def eqAgreed (s : State) (r : Nat) (x : Eq) : State :=
  let row := planRow s r
  let seats := eqSeats s r x
  let n := (seats.filter fun (_, y) => y.copied).length
  let s := setRow s r { row with seats := seats, agreed := true }
  let s := { s with pair := { s.pair with eq := tabDel s.pair.eq r, eqTimeMax := max s.pair.eqTimeMax (s.now - row.closeNow) } }
  noteRow (bumpBy (bumpBy (bump s 0x400030 0) 0x400032 0 n) 0x400033 0 x.disputed) r true

/-- Goes on with a row's equalisation as far as what has arrived admits (R438). -/
def eqGo : Nat → State → Nat → State
  | 0, s, _ => s
  | n + 1, s, r =>
    match eqOf s r with
    | none => s
    | some x =>
      match x.part with
      | none => s
      | some (part, theirs) =>
        let need := (subsAt s r).filter fun e =>
          let us := unitsOf (subOf s r e)
          us.any (fun u => part.contains u) && !us.any (fun u => x.own.contains u) && (copySeat (subOf s r e) x.copies).isNone
        if !need.isEmpty then s
        else if !x.asked then
          let both := fun u (_ : Seat) => x.own.contains u && part.contains u
          let mine := setDigest s r (planRow s r).seats both
          let cop := eqSeats s r { x with decided := [] }
          let them := xorBytes theirs (setDigest s r cop fun u (y : Seat) => y.copied && part.contains u)
          let s := setEq s r { x with asked := true, tags := if mine == them then none else x.tags
                                      want := if mine == them then [] else [1] }
          if mine == them then eqGo n s r
          else
            let recs := (bothEntries s r x.own part).flatMap fun e =>
              let v := subOf s r e
              (upto (subUnits v)).map fun i => tagOf (tabGetD (planRow s r).seats e {}) (subBase v + i) i
            eqGo n (sendIul s (.tags r recs)) r
        else if !x.want.isEmpty then
          match x.tags with
          | none => s
          | some tags => eqGo n (eqDecide s r x part tags) r
        else
          let x := eqWins s r x
          let s := setEq s r x
          if !x.wins.isEmpty then s
          else match x.final with
            | none =>
              let d := setDigest s r (eqSeats s r x) fun _ (y : Seat) => y.recv || y.copied
              eqGo n (sendIul (setEq s r { x with final := some d }) (.agree r d)) r
            | some d => if x.agree == some d && s.now ≤ x.due then eqAgreed s r x else s

/-- A row's equalisation begins at its close: PRESENCE is sent and the deadline runs (R438, R440). -/
def eqOpen (s : State) (r : Nat) : State :=
  let own := ownUnits s r
  let d := setDigest s r (planRow s r).seats fun u _ => own.contains u
  let s := setRow s r { planRow s r with eqRan := true }
  sendIul (setEq s r { due := s.now + s.vn 0x400005 0, own := own }) (.presence r own d)

/-- PRESENCE of the partner. -/
def eqPresence (s : State) (r : Nat) (part : List Nat) (dig : List Byte) : State :=
  match eqOf s r with
  | none => s
  | some x =>
    if x.part.isSome then s
    else
      let cs := (subsAt s r).flatMap fun e =>
        let v := subOf s r e
        let us := unitsOf v
        if us.all (fun u => x.own.contains u) && us.any (fun u => !part.contains u)
        then seatCopies v (tabGetD (planRow s r).seats e {}) else []
      let s := sendSeats (cs.length + 1) s r cs
      eqGo 8 (setEq s r { x with part := some (part, dig) }) r

/-- SEATS of the partner. -/
def eqSeatsRx (s : State) (r : Nat) (cs : List SeatCopy) : State :=
  match eqOf s r with
  | none => s
  | some x => eqGo 8 (setEq s r { x with copies := x.copies.filter (fun c => !cs.any fun d => d.unit == c.unit) ++ cs }) r

/-- TAGS of the partner. -/
def eqTagsRx (s : State) (r : Nat) (ts : List TagRec) : State :=
  match eqOf s r with
  | none => s
  | some x => eqGo 8 (setEq s r { x with tags := some ts }) r

/-- AGREE of the partner. -/
def eqAgreeRx (s : State) (r : Nat) (d : List Byte) : State :=
  match eqOf s r with
  | none => s
  | some x => eqGo 8 (setEq s r { x with agree := some d }) r

/-- EQ_LOST of the partner (R443): a row it gave up leaves step when released equalised here; one still in equalisation can no longer be
agreed and is given up here too. -/
def eqLostRx (s : State) (r : Nat) : State :=
  let eqd := s.pair.eqdRows.contains r
  let s := noteRow s r false
  if (eqOf s r).isSome then eqGiveUp s r
  else if eqd then uneqLeave s else s

/-- A message for a row: held while the row is open, handled while it is in equalisation, discarded afterwards (R436). -/
def eqMsg (s : State) (r : Nat) (i : Instr) (f : State → State) : State :=
  if !pairOn s || !s.pair.eqOn then s
  else if rowClosed s r then f s
  else { s with pair := { s.pair with held := s.pair.held ++ [(r, i)] } }

/-- The messages held for a row that has closed. -/
def eqHeld (s : State) (r : Nat) : State :=
  let mine := s.pair.held.filter fun (q, _) => q == r
  let s := { s with pair := { s.pair with held := s.pair.held.filter fun (q, _) => q != r } }
  mine.foldl (fun s (_, i) => match i with
    | .presence _ _ u d => eqPresence s r u d
    | .seats _ _ cs => eqSeatsRx s r cs
    | .tags _ _ ts => eqTagsRx s r ts
    | .agree _ _ d => eqAgreeRx s r d
    | .eqLost _ _ => eqLostRx s r
    | _ => s) s

/-! ## Row close (R252 to R254) -/

/-- Row r closes. -/
def closeRow (s : State) (r : Nat) : State :=
  let row := planRow s r
  let s := setRow s r { row with closed := true, closeAt := tai s, closeNow := s.now, tq := s.tm.quality, synch := smpSynch s, stepped := s.plan.stepped
                                 wSteps := wOf s r / 10000 }
  let s := convClose { s with plan := { s.plan with lastClosed := some r, stepped := false } } r
  let s := simKeep { s with plan := { s.plan with w := wOf s (r + 1), wCuts := s.plan.wCuts.filter (fun (c, _) => c > r + 1) } }
  let s := bump s 0x210012 0
  if s.pair.eqOn then eqHeld (eqOpen s r) r else s

/-- Closes rows in ascending order while the counter has passed their close instants, n at most; each beyond the first by a step counts
as a step close. -/
def closeDueRows : Nat → State → Bool → State
  | 0, s, _ => s
  | n + 1, s, step =>
    match s.plan.lastClosed with
    | none => s
    | some l =>
      if !closeDue s (l + 1) then s
      else
        let s := closeRow s (l + 1)
        closeDueRows n (if step then bump s 0x210015 0 else s) step

/-- Closes the rows whose own close instant does not come after m, n at most: they close together with the row before them (R252). -/
def closeMore : Nat → State → Nat → State
  | 0, s, _ => s
  | n + 1, s, m =>
    match s.plan.lastClosed with
    | none => s
    | some l => if closeAtOwn s (l + 1) ≤ m then closeMore n (closeRow s (l + 1)) m else s

/-- The next row closes when it is due, with those that close together with it. -/
def closeNext (s : State) : State :=
  match s.plan.lastClosed with
  | none => s
  | some l => if closeDue s (l + 1) then closeMore 64 (closeRow s (l + 1)) (closeAtOwn s (l + 1)) else s

/-- After a step of the counter (R254): no row reopens; every overdue row closes at once, the newest 64 of them when more are. -/
def stepRows (s : State) : State :=
  let s := { s with plan := { s.plan with stepped := true } }
  match s.plan.lastClosed with
  | none => s
  | some l =>
    if !planOn s then s
    else
      let n := newestDue s
      let skip := n - l - 64
      let s := if skip == 0 then s
        else
          let s := { s with plan := { s.plan with lastClosed := some (l + skip), gapAt := s.plan.gapAt ++ [l + skip + 1]
                                                  rows := s.plan.rows.filter fun (r, x) => x.closed || r > l + skip } }
          logRec (bumpBy s 0x210014 0 skip) 0x0165 (0x80 + 8) (ints [skip])
      closeDueRows 65 s true

/-! ## Output digests (R445, R446) -/

/-- The key of a partition's digest for a row. -/
def digKey (p row : Nat) : Nat := p * 18446744073709551616 + row

/-- A digest. -/
def digOf (s : State) (p row : Nat) : OutDig := tabGetD s.pair.digs (digKey p row) {}

/-- A digest set. -/
def setDig (s : State) (p row : Nat) (d : OutDig) : State := { s with pair := { s.pair with digs := tabPut s.pair.digs (digKey p row) d } }

/-- A digest removed. -/
def delDig (s : State) (p row : Nat) : State := { s with pair := { s.pair with digs := tabDel s.pair.digs (digKey p row) } }

/-- Adds the egress content of a commit to the digest of its origin row (R445). -/
def digAdd (s : State) (p row : Nat) (content : List Byte) : State :=
  let d := digOf s p row
  if !pairOn s || d.closed.isSome || (stepOf s p).dug.contains row then s
  else setDig s p row { d with sum := (d.sum + crc64 content) % 18446744073709551616 }

/-- Two digests of one row are compared (R446, R452). -/
def digJudge (s : State) (p row mine theirs : Nat) : State :=
  let s := delDig s p row
  if s.pair.uneqRows.contains row then s
  else if stepState s p == 4 then
    if mine == theirs then s
    else
      let s := logRec (bump s 0x400025 p) 0x01C4 (0x80 + 5) (ints [p, row])
      leaveStep (stepOut { s with pair := { s.pair with digCount := min (s.pair.digCount + 1) 4294967295 } } p) 5
  else if stepState s p == 3 && row ≥ (stepOf s p).from_ then
    let x := stepOf s p
    if mine != theirs then setStep s p { x with conv := 0 }
    else if x.conv + 1 ≥ s.vn 0x40000E 0 then
      setStep { s with pair := { s.pair with rePart := none } } p { x with st := 4, conv := 0 }
    else setStep s p { x with conv := x.conv + 1 }
  else s

/-- Is an item of partition p and origin row ready, in service, or ended and waiting for its turn. -/
def rowItems (s : State) (p row : Nat) : Bool :=
  s.tt.ready.any (fun i => i.part == p && i.row == row) || s.tt.run.any fun (_, r) => r.item.part == p && r.item.row == row

/-- No item of an origin row remains: its digest closes, once, and is sent (R445). -/
def digClose (s : State) (p row : Nat) : State :=
  let d := digOf s p row
  if !pairOn s || d.closed.isSome || (stepOf s p).dug.contains row || rowItems s p row then s
  else
    let s := setStep s p { stepOf s p with dug := lastN ((stepOf s p).dug ++ [row]) 64 }
    let s := sendIul (setDig s p row { d with closed := some s.now }) (.digest p row d.sum)
    match d.theirs with
    | some t => if stepState s p < 3 || row < (stepOf s p).from_ then s else digJudge s p row d.sum t
    | none => s

/-- The partner's digest of a row. -/
def digRx (s : State) (p row theirs : Nat) : State :=
  let d := digOf s p row
  if stepState s p < 3 || row < (stepOf s p).from_ || ((stepOf s p).dug.contains row && d.closed.isNone) then s
  else if d.judged then delDig s p row
  else if d.closed.isSome then digJudge s p row d.sum theirs
  else setDig s p row { d with theirs := some theirs }

/-- A digest the partner did not send in time is counted and not judged (R446); while converging the equal rows are counted anew (R452). -/
def digLate (s : State) (p row : Nat) : State :=
  match (digOf s p row).closed with
  | some t => if !(digOf s p row).judged && s.now ≥ t + s.vn 0x40000F 0
      then
        let s := if stepState s p == 4 then bump s 0x400026 p else if stepState s p == 3 then setStep s p { stepOf s p with conv := 0 } else s
        setDig s p row { digOf s p row with judged := true }
      else s
  | none => s

end Sys2Proof.Machine
end

