-- ==== Sys2Proof/Machine/Time.lean ====
section
/-! DEFINITION. The time unit (R201 to R234): quality, slews and steps, measurements and sources, PTP, the PPS and IRIG-B inputs and the
PPS output, and its commands. -/

namespace Sys2Proof.Machine

/-! ## Quality (R208) -/

/-- TIME_QUALITY changes, with its record. -/
def setQuality (s : State) (q : Nat) : State :=
  if s.tm.quality == q then s
  else
    let old := s.tm.quality
    let y := smpSynch s
    let s := logRec s 0x0150 (0x80 + 6) (ints [old, q])
    let t := s.tm
    let t := { t with quality := q, freeSince := t.freeSince && q == 2, everLocked := t.everLocked || q == 0
                      synch := if old == 0 then y else t.synch, first := t.first || q == 2
                      lockRun := if q == 0 then t.lockRun else 0, unlockRun := 0
                      ppsOut := t.ppsOut && !(q == 2 && s.vn 0x180050 0 == 0) }
    let t := if q == 1 then { t with holdSince := tai s, holdAt := s.now } else t
    seeNow { s with tm := t } 0x180002 0

/-! ## Slews and steps (R203, R204, R212) -/

/-- A slew of a signed number of ns begins; it takes the place of what is left of an earlier one. -/
def startSlew (s : State) (amt : Int) : State :=
  { s with tm := { s.tm with slew := amt * 4294967296, slewing := amt != 0 } }

/-- A withheld step is dropped. -/
def dropHeld (s : State) : State := { s with tm := { s.tm with held := false, heldAmt := 0, heldCmd := false } }

/-- The number of a task's last cycle boundary (R406). -/
def cycleNo (s : State) (j : Nat) : Nat :=
  let v := s.val 0x380011 j 0
  if vN v 3 == 0 then 0 else ((tai s - vN v 4) / (vN v 3 : Int)).toNat

/-- The counter steps by a signed number of ns: the slew is cancelled, launch frames are judged again, overdue rows close (R204, R228,
R254, R407). -/
def stepTm (s : State) (amt : Int) : State :=
  let t := addFrac { s.tm with slew := 0, slewing := false } (amt * 4294967296)
  let s := dropHeld { s with tm := { t with lastStep := amt } }
  let s := logRec (bump s 0x180009 0) 0x0151 (0x80 + 6) [amt]
  let s := { s with lg := { s.lg with tasks := tabMap (fun j (x : Task) => { x with stepped := true, seen := cycleNo s j }) s.lg.tasks } }
  stepRows (launchRejudge s)

/-- A step asked for by the servo or a command: applied, or withheld when it exceeds STEP_BOUND (R212, R485). -/
def requestStep (s : State) (amt : Int) (cmd : Bool) : State :=
  if amt.natAbs ≤ s.vn 0x440020 0 || (s.tm.freeSince && s.tm.quality == 2) then stepTm s amt
  else
    let s := if cmd || !s.tm.held then logRec s 0x0152 (0x80 + 6) [amt] else s
    let s := { s with tm := { s.tm with held := true, heldAmt := amt, heldCmd := cmd } }
    if s.tm.quality == 0 then setQuality s 1 else s

/-! ## Measurements and sources (R207 to R210) -/

/-- A measurement of the followed source: the offset is the counter less the source. -/
def measure (s : State) (off : Int) : State :=
  let judge := s.tm.first || s.tm.held
  let s := { s with tm := { s.tm with offset := off, lastMeas := s.now, first := false } }
  let s :=
    if judge then
      if off.natAbs ≤ s.vn 0x18000B 0 then startSlew (dropHeld s) (-off) else requestStep s (-off) false
    else if off != 0 then startSlew s (-off) else s
  let good := if off.natAbs ≤ s.vn 0x18000C 0 then s.tm.lockRun + 1 else 0
  let bad := if off.natAbs > s.vn 0x18000D 0 then s.tm.unlockRun + 1 else 0
  let s := { s with tm := { s.tm with lockRun := good, unlockRun := bad } }
  if s.tm.quality == 0 then (if bad ≥ 2 then setQuality s 1 else s)
  else if good ≥ 4 && !s.tm.held && s.hw.osc != 0 then setQuality s 0 else s

/-- UTC_OFFSET, UTC_VALID and the leap second learned from a source (R222). -/
def learnUtc (s : State) (off : Option Int) (valid : Bool) (leap : Nat) : State :=
  let s := match off with
    | some v => if v != s.vi 0x180005 0 then s.put 0x180005 0 0 [.i v] else s
    | none => s
  let o := s.vi 0x180005 0
  let midnight := ((tai s / 1000000000 - o) / 86400 + 1) * 86400 + o
  { s with tm := { s.tm with utcValid := valid, leap := leap
                             leapAt := (if leap == 2 then midnight - 1 else midnight) * 1000000000 } }

/-- The source the rules call for (R207): 0 NONE, 1 PTP, 2 PPS_IRIG. -/
def wantSource (s : State) : Nat :=
  if s.tm.parent.isSome then 1 else if s.vb 0x180011 0 && s.tm.irigSt == 1 then 2 else 0

/-- A change of parent or source: LOCKED ends, a withheld step is dropped, the next measurement is a first one (R208, R209, R212). -/
def sourceChange (s : State) : State :=
  let s := if s.tm.quality == 0 then setQuality s 1 else s
  let s := if wantSource s != 0 || !s.tm.heldCmd then dropHeld s else s
  { s with tm := { s.tm with source := wantSource s, first := true, lockRun := 0, unlockRun := 0, lastMeas := s.now
                             measSec := none } }

/-- The source is judged anew. -/
def judgeSource (s : State) : State := if wantSource s == s.tm.source then s else sourceChange s

/-! ## PTP (R214 to R219) -/

/-- Does PTP run on a port. -/
def ptpRuns (s : State) (p : Nat) : Bool := p < 6 && s.vb 0x180020 0 && s.vn 0x180030 p != 3 && unitOk s 6

/-- A port's identity, as a number: the clockIdentity and portNumber. -/
def portIdent (s : State) (p : Nat) : Nat := ofBe (padTo 8 (clockIdentity s)) * 65536 + p + 1

/-- A dataset's members in the order the BMCA compares them, the smaller the better. -/
def dsKey (a : Announce) : List Nat :=
  [a.priority1, a.gmClass, a.gmAccuracy, a.gmVariance, a.priority2, ofBe (padTo 8 a.gmIdentity)]

/-- The comparison of two datasets of clause 9.3.4 of IEEE 1588-2019, received on ports of identities `ra` and `rb`: -2 where the first is
better, -1 where it is better by topology, 2 and 1 where the second is, 0 where neither. -/
def dsCompare (a b : Announce) (ra rb : Nat) : Int :=
  let sa := ofBe (padTo 10 a.sender)
  let sb := ofBe (padTo 10 b.sender)
  if a.gmIdentity != b.gmIdentity then (if dsKey a < dsKey b then -2 else 2)
  else if a.stepsRemoved > b.stepsRemoved + 1 then 2
  else if b.stepsRemoved > a.stepsRemoved + 1 then -2
  else if a.stepsRemoved > b.stepsRemoved then (if ra < sa then 2 else if ra > sa then 1 else 0)
  else if a.stepsRemoved < b.stepsRemoved then (if rb < sb then -2 else if rb > sb then -1 else 0)
  else if sa != sb then (if sa < sb then -1 else 1)
  else if ra < rb then -1 else if ra > rb then 1 else 0

/-- The best of a port's qualified foreign masters. -/
def portBest (s : State) (p : Nat) : Option Announce :=
  (ptpOf s p).foreign.foldl (fun acc f =>
    if !f.qual then acc
    else match acc with
      | some b => if dsCompare f.ann b (portIdent s p) (portIdent s p) < 0 then some f.ann else acc
      | none => some f.ann) none

/-- The portState the BMCA and the port's role give (R216, R217): 1 INITIALIZING, 2 FAULTY, 3 DISABLED, 4 LISTENING, 6 MASTER,
7 PASSIVE, 8 UNCALIBRATED, 9 SLAVE. -/
def ptpWant (s : State) (p : Nat) : Nat :=
  let x := ptpOf s p
  if !ptpRuns s p then 3
  else if x.missed ≥ 3 then 2
  else if !linkUp s p then 1
  else match s.tm.parent with
    | some (q, a) =>
      if q == p then (if s.tm.quality == 0 then 9 else 8)
      else match portBest s p with
        | some b => if dsCompare a b (portIdent s q) (portIdent s p) == -1 then 7 else if s.vn 0x180030 p == 1 then 4 else 6
        | none => if s.vn 0x180030 p == 1 || !x.silent then 4 else 6
    | none => if s.vn 0x180030 p == 1 || (!x.silent && (portBest s p).isNone) then 4 else 6

/-- Every port's state, and sub 6: DEGRADED while a port with PTP enabled is FAULTY (R206). -/
def ptpStates (s : State) : State :=
  let s := (upto 6).foldl (fun s p => setPtp s p { ptpOf s p with st := ptpWant s p }) s
  judgeUnit s 6 ((upto 6).any fun p => (ptpOf s p).st == 2)

/-- The parent the BMCA selects; a change of it is a change of source. -/
def setParent (s : State) (next : Option (Nat × Announce)) : State :=
  let same := match s.tm.parent, next with
    | some (p, a), some (q, b) => p == q && a.gmIdentity == b.gmIdentity && a.sender == b.sender
    | none, none => true
    | _, _ => false
  let s1 :=
    if same then { s with tm := { s.tm with parent := next } }
    else
      let s := if s.tm.quality == 0 then setQuality s 1 else s
      sourceChange { s with tm := { s.tm with parent := next } }
  let s2 := match next with
    | some (_, a) => learnUtc s1 (if a.utcValid then some a.utcOffset else none) a.utcValid a.leap
    | none => s1
  ptpStates s2

/-- The dataset a master port announces (R215). -/
def ownAnnounce (s : State) : Announce :=
  let cls := if s.tm.quality == 1 then 7 else if s.tm.quality == 2 && s.tm.everLocked then 52 else 248
  { gmIdentity := clockIdentity s, gmClass := cls, gmAccuracy := 0xFE, gmVariance := 0xFFFF, priority1 := s.vn 0x180023 0
    priority2 := s.vn 0x180024 0, stepsRemoved := 0, utcOffset := s.vi 0x180005 0, utcValid := s.tm.utcValid, leap := s.tm.leap }

/-- Has a port heard no Announce for three intervals. -/
def annOver (s : State) (p : Nat) : Bool :=
  match (ptpOf s p).lastAnn with
  | some t => decide (t + 3000000000 ≤ s.now)
  | none => true

/-- The port the BMCA of IEEE 1588-2019 makes the slave port (R214, R216, R217): the best foreign master of the ports that may be one, when
it is better than the module's own default dataset, which advertises class 248 (R215). -/
def bmca (s : State) : Option (Nat × Announce) :=
  let own : Announce := { ownAnnounce s with gmClass := 248, sender := clockIdentity s ++ [0, 0] }
  (upto 6).foldl (fun acc q =>
    if ptpRuns s q && linkUp s q && s.vn 0x180030 q != 2 && (ptpOf s q).missed < 3 && !annOver s q then
      match portBest s q with
      | some b =>
        let (c, rc) := match acc with
          | some (k, c) => (c, portIdent s k)
          | none => (own, portIdent s 0 - 1)
        if dsCompare b c (portIdent s q) rc < 0 then some (q, b) else acc
      | none => acc
    else acc) none

/-- The BMCA runs. -/
def ptpJudge (s : State) : State := setParent s (bmca s)

/-- An Announce on a port (clause 9.3.2 of IEEE 1588-2019): of the module's own clock or grandmaster, or 255 steps away, it is dropped; a
master is qualified by a second one within four intervals. The port's receipt timeout runs from the last of its best master, or of any while
none is qualified. -/
def annRx (s : State) (p : Nat) (a : Announce) : State :=
  if a.gmIdentity == clockIdentity s || a.sender.take 8 == clockIdentity s || a.stepsRemoved ≥ 255 then s
  else
    let x := ptpOf s p
    let live := x.foreign.filter fun f => s.now ≤ f.last + 4000000000
    let l := live.filter (·.ann.sender != a.sender) ++ [{ ann := a, last := s.now, qual := live.any (·.ann.sender == a.sender) }]
    let s := setPtp s p { x with foreign := l, silent := false }
    let best := match portBest s p with
      | some b => b.sender == a.sender
      | none => true
    ptpJudge (if best then setPtp s p { ptpOf s p with lastAnn := some s.now } else s)

/-- A port's link fell: a PASSIVE port takes over from a parent on it (R217). -/
def ptpLinkLost (s : State) (p : Nat) : State :=
  if p ≥ 6 then s
  else
    let s := setPtp s p { ptpOf s p with foreign := [], lastAnn := none, silent := false, waiting := false, sync := none, t1 := none, t4 := none }
    match s.tm.parent with
    | some (q, _) => if q == p then ptpJudge s else ptpStates s
    | none => ptpStates s

/-- A port's link came up: it listens. -/
def ptpLinkUp (s : State) (p : Nat) : State :=
  if p ≥ 6 then s else ptpStates (setPtp s p { ptpOf s p with lastAnn := some s.now, silent := false, foreign := [] })

/-- A PTP message of the module's own on port p; `ts` asks for its stamp (R223). -/
def ptpSend (s : State) (p len kind : Nat) (time : Int) (a : Option Announce) (ts : Bool) : State :=
  let w := ptpMsg s kind time a
  if linkUp s p && lifeLets s p w then sendJob s [p] (!ptpLocal kind) .none { job := 0, cls := 7, len := len, ts := ts, what := w } false else s

/-- The stamp of a Sync on port p less its correction and the asymmetry in force as it came (R209, R221). -/
def syncStamp (s : State) (p : Nat) (corr : Int) : Int := rxStamp s p - corr - s.vi 0x180035 p

/-- The offset of a Sync exchange with the parent on port p (R209): its stamp less origin and path. -/
def syncOffset (s : State) (p : Nat) (stamp origin : Int) : Int := stamp - origin - (ptpOf s p).delay

/-- Does port p hear Sync messages of domain d from the parent the servo follows. -/
def fromParent (s : State) (p d : Nat) (sender : List Byte) : Bool :=
  (s.tm.parent.map fun (q, a) => (q, a.sender)) == some (p, sender) && d == s.vn 0x180022 0 && s.tm.source == 1

/-- A complete peer-delay exchange: the mean of both directions, where the request's stamp was taken (R216, R223). -/
def pdelayEnd (s : State) (p : Nat) (t4 turn : Int) : State :=
  let x := ptpOf s p
  let d := match x.t1 with
    | some t => ((t4 - t - turn) / 2).toNat
    | none => x.delay
  ptpStates (setPtp s p { x with waiting := false, missed := 0, delay := d, retry := none, t1 := none, t4 := none })

/-- A PTP message received on a port. -/
def ptpRx (s : State) (p : Nat) (m : PtpMsg) : State :=
  if !ptpRuns s p then s
  else match m with
    | .sync d origin corr two b =>
      if !fromParent s p d b then s
      else if two then setPtp s p { ptpOf s p with sync := some (syncStamp s p corr) }
      else ptpStates (measure s (syncOffset s p (syncStamp s p corr) origin))
    | .followUp d origin corr b =>
      match (ptpOf s p).sync with
      | some t =>
        if !fromParent s p d b then s
        else ptpStates (measure (setPtp s p { ptpOf s p with sync := none }) (syncOffset s p (t - corr) origin))
      | none => s
    | .announce d a => if d != s.vn 0x180022 0 then s else annRx s p a
    | .pdelayReq => ptpSend s p 72 3 (rxStamp s p) none (s.vb 0x180025 0)
    | .pdelayResp turn =>
      if !(ptpOf s p).waiting then s
      else match turn with
        | some d => pdelayEnd s p (rxStamp s p) d
        | none => setPtp s p { ptpOf s p with t4 := some (rxStamp s p) }
    | .pdelayRespFollowUp d =>
      match (ptpOf s p).t4 with
      | some t => if (ptpOf s p).waiting then pdelayEnd s p t d else s
      | none => s
    | .delayReq => s

/-- A Pdelay_Req leaves on a port. -/
def pdelaySend (s : State) (p : Nat) : State :=
  ptpSend (setPtp s p { ptpOf s p with waiting := true, t1 := none, t4 := none, reqDue := s.now + 1000000000 }) p 72 2 0 none true

/-- PTP_SYNC_TX: every second a master port sends Sync (R214, R223). -/
def execPtpSyncTx (dt port : Nat) (s : State) : Host.Outcome State Fault Refusal :=
  let s := advance dt s
  if !ptpRuns s port || (ptpOf s port).st != 6 || s.now < (ptpOf s port).syncDue then done s
  else done (ptpSend (setPtp s port { ptpOf s port with syncDue := s.now + 1000000000 }) port 64 0 0 none (s.vb 0x180025 0))

/-- PTP_ANNOUNCE_TX: every second a master port sends Announce: the parent's fields with stepsRemoved one more, or its own dataset; the TLVs of
IEEE C37.238-2017 are handled in its profile only (R214, R215). -/
def execPtpAnnounceTx (dt port : Nat) (s : State) : Host.Outcome State Fault Refusal :=
  let s := advance dt s
  if !ptpRuns s port || (ptpOf s port).st != 6 || s.now < (ptpOf s port).annDue then done s
  else
    let a := match s.tm.parent with
      | some (_, a) =>
        let b := { a with stepsRemoved := a.stepsRemoved + 1 }
        if s.vn 0x180021 0 == 1 then { b with inacc := a.inacc.map (· + 50) } else { b with inacc := none, ato := [] }
      | none => ownAnnounce s
    let a := { a with sender := beN 10 (portIdent s port) }
    done (ptpSend (setPtp s port { ptpOf s port with annDue := s.now + 1000000000 }) port 82 1 0 (some a) false)

/-- PDELAY_REQ_TX: every second a Pdelay_Req leaves; a third one unanswered in a row makes the port FAULTY (R216). -/
def execPdelayReqTx (dt port : Nat) (s : State) : Host.Outcome State Fault Refusal :=
  let s := advance dt s
  let x := ptpOf s port
  if !ptpRuns s port || !linkUp s port || x.st == 2 || s.now < x.reqDue then done s
  else
    let missed := if x.waiting then x.missed + 1 else 0
    let s := setPtp s port { x with missed := missed, waiting := false }
    if missed ≥ 3 then
      let s := bump (setPtp s port { ptpOf s port with retry := some (s.now + 16000000000) }) 0x180037 port
      let s := match s.tm.parent with
        | some (q, _) => if q == port then ptpJudge s else s
        | none => s
      done (ptpStates s)
    else done (pdelaySend s port)

/-- PTP_FAULTY_RETRY: a FAULTY port tries a new exchange (R216). -/
def execPtpFaultyRetry (dt port : Nat) (s : State) : Host.Outcome State Fault Refusal :=
  let s := advance dt s
  if (ptpOf s port).st == 2 && dueBy s (ptpOf s port).retry && linkUp s port then
    done (pdelaySend (setPtp s port { ptpOf s port with retry := some (s.now + 16000000000) }) port)
  else done s

/-- Has a port that heard Announce heard none for three intervals. -/
def annDead (s : State) (p : Nat) : Bool := (ptpOf s p).lastAnn.isSome && annOver s p

/-- A port's announce receipt has timed out: the masters not heard for three intervals are gone; the port goes on with the best that is left. -/
def annGone (s : State) (p : Nat) : State :=
  let l := (ptpOf s p).foreign.filter fun f => s.now < f.last + 3000000000
  let s := setPtp s p { ptpOf s p with foreign := l }
  let next := (portBest s p).bind fun b => (l.find? (·.ann.sender == b.sender)).map (·.last)
  setPtp s p { ptpOf s p with lastAnn := next, silent := next.isNone }

/-- ANNOUNCE_RECEIPT_TIMEOUT: three Announce intervals without one, on a port and on those whose timeouts expire with it, as the two ports
of one grandmaster may; the BMCA then selects anew (R217). -/
def execAnnounceReceiptTimeout (dt port : Nat) (also : List Nat) (s : State) : Host.Outcome State Fault Refusal :=
  let s := advance dt s
  let ps := (port :: also).filter (annDead s)
  if ps.isEmpty then done s else done (ptpJudge (ps.foldl annGone s))

/-! ## Servo and quality events -/

/-- SERVO_FREQ_WRITE: the frequency increment within 1.999 ns to 2.001 ns; any other answers RANGE (R202). -/
def execServoFreqWrite (dt incr : Nat) (s : State) : Host.Outcome State Fault Refusal :=
  let s := advance dt s
  if 1999 * 4294967296 ≤ 1000 * incr && 1000 * incr ≤ 2001 * 4294967296 then
    done { s with tm := { s.tm with incr := incr, incrAns := okS } }
  else done { s with tm := { s.tm with incrAns := rangeS } }

/-- SLEW_COMPLETE: the offset of a slew has been taken out (R203). -/
def execSlewComplete (dt : Nat) (s : State) : Host.Outcome State Fault Refusal :=
  let s := advance dt s
  if s.tm.slew == 0 then done { s with tm := { s.tm with slewing := false } } else done s

/-- SECOND_ROLLOVER: the carry into SEC falls in the tick that reaches 10^9 ns (R201). -/
def execSecondRollover (dt : Nat) (s : State) : Host.Outcome State Fault Refusal := done (advance dt s)

/-- SYNC_RECEIPT_TIMEOUT: no measurement for 2.2 intervals ends LOCKED (R208). -/
def execSyncReceiptTimeout (dt : Nat) (s : State) : Host.Outcome State Fault Refusal :=
  let s := advance dt s
  if s.tm.lastMeas + 2200000000 ≤ s.now then
    let s := { s with tm := { s.tm with lockRun := 0, unlockRun := 0 } }
    done (if s.tm.quality == 0 then ptpStates (setQuality s 1) else s)
  else done s

/-- HOLDOVER_LIMIT_EXPIRY: holdover has lasted HOLDOVER_LIMIT (R208, R211). -/
def execHoldoverLimitExpiry (dt : Nat) (s : State) : Host.Outcome State Fault Refusal :=
  let s := advance dt s
  if s.tm.quality == 1 && s.tm.holdAt + s.vn 0x180008 0 * 1000000000 ≤ s.now then done (setQuality s 2) else done s

/-- A write of HOLDOVER_LIMIT: never above the oscillator's bound; it applies to a holdover that runs (R211). -/
def putHoldLimit (s : State) (v : Val) : Res :=
  if vN v 0 < 1 || vN v 0 > (if s.ident.optO then 3600 else 20) then deny s rangeS
  else
    let s := s.put 0x180008 0 0 v
    good (if s.tm.quality == 1 && s.tm.holdAt + vN v 0 * 1000000000 ≤ s.now then setQuality s 2 else s)

/-- PTP restarts: every port begins anew and the parent is gone (18.0021). -/
def ptpRestart (s : State) : State :=
  let s := { s with tm := { s.tm with ports := (upto 6).map fun p => (p, { lastAnn := if linkUp s p then some s.now else none }) } }
  setParent s none

/-- A write of PTP_PROFILE: PTP restarts and PTP_DOMAIN takes the profile's default (18.0021). -/
def putProfile (s : State) (v : Val) : Res :=
  if vN v 0 > 1 then deny s rangeS
  else good (ptpRestart ((s.put 0x180021 0 0 v).put 0x180022 0 0 [.n (if vN v 0 == 1 then 254 else 0)]))

/-- PTP_PROFILE_WRITE. -/
def execPtpProfileWrite (dt : Nat) (rq : Req) (profile : Nat) (s : State) : Host.Outcome State Fault Refusal :=
  done (doWrite (advance dt s) rq 0x180021 0 [.n profile] fun s _ _ _ _ v => putProfile s v)

/-- The result of TIME_SET and TIME_ADJUST: 0 APPLIED, 1 HELD (R213). -/
def stepCmd (s : State) (amt : Int) : Res :=
  if s.tm.source != 0 then deny s stateS
  else
    let s := requestStep s amt true
    ⟨s, okS, 2, [if s.tm.held then 1 else 0]⟩

/-- TIME_SET: steps the counter to the argument. -/
def execTimeSet (dt : Nat) (rq : Req) (t : Int) (s : State) : Host.Outcome State Fault Refusal :=
  done (doExec (advance dt s) rq 0x18000F 0 (fun s => stepCmd s (t - tai s)) [.i t])

/-- TIME_ADJUST: steps the counter by the argument. -/
def execTimeAdjust (dt : Nat) (rq : Req) (delta : Int) (s : State) : Host.Outcome State Fault Refusal :=
  done (doExec (advance dt s) rq 0x180010 0 (fun s => stepCmd s delta) [.i delta])

/-- The effect of STEP_CONFIRM (R485). -/
def opStepConfirm (s : State) (maxOff : Int) : Res :=
  if !s.tm.held then deny s stateS
  else if (s.tm.heldAmt.natAbs : Int) > maxOff then deny s rangeS
  else good (stepTm s s.tm.heldAmt)

/-- STEP_CONFIRM: confirms the step pending now. -/
def execStepConfirm (dt : Nat) (rq : Req) (maxOffset : Int) (s : State) : Host.Outcome State Fault Refusal :=
  done (doExec (advance dt s) rq 0x440021 0 (fun s => opStepConfirm s maxOffset) [.i maxOffset])

/-- LEAP_SECOND: at the end of the UTC day UTC_OFFSET changes (R222). -/
def execLeapSecond (dt : Nat) (s : State) : Host.Outcome State Fault Refusal :=
  let s := advance dt s
  if s.tm.leap == 0 || tai s < s.tm.leapAt then done s
  else
    let o := s.vi 0x180005 0
    let n := if s.tm.leap == 1 then o + 1 else o - 1
    let s := (s.put 0x180005 0 0 [.i n])
    done (logRec { s with tm := { s.tm with leap := 0, leapWas := some (s.tm.leapAt, s.tm.leap) } } 0x0156 (0x80 + 6) [o, n])

/-- The counters Time clears (R30). -/
def opTimeReset (s : State) : Res := good (clearCtrs s 0x180000 0x18FFFF none)

/-- TIME_COUNTERS_RESET (R30). -/
def execTimeCountersReset (dt : Nat) (rq : Req) (s : State) : Host.Outcome State Fault Refusal :=
  done (doExec (advance dt s) rq 0x180070 0 opTimeReset)

/-! ## PPS and IRIG-B (R57, R58, R230 to R233) -/

/-- PPS_OFFSET of a stamp: the distance from the nearest second boundary. -/
def ppsOffset (stamp : Int) : Int :=
  let r := stamp % 1000000000
  if r ≥ 500000000 then r - 1000000000 else r

/-- A measurement of PPS_IRIG for a second of UTC: one is taken per second (R232). -/
def measureAt (s : State) (utc stamp : Int) : State :=
  if s.tm.measSec == some utc then s
  else measure { s with tm := { s.tm with measSec := some utc } } (stamp - (utc + s.vi 0x180005 0) * 1000000000)

/-- A self-test bit, with the record of its change. -/
def selfBit (s : State) (n : Nat) (fails : Bool) : State :=
  if s.pair.selfFail.contains n == fails then s
  else
    let l := if fails then adjoin s.pair.selfFail n else without s.pair.selfFail n
    logRec { s with pair := { s.pair with selfFail := l } } 0x01C7 (0x80 + 5) (ints [n, b2n fails])

/-- A self-test check has completed now (SELFTEST_LATE); 16 + n is filter array n, 32 + b board b. -/
def selfRan (s : State) (k : Nat) : State := { s with pair := { s.pair with selfAt := tabPut s.pair.selfAt k s.now } }

/-- XCHECK_NS, or PPS_IN, is outside its limit (bit 5). -/
def xcheckBad (s : State) : Bool := (s.pair.xcheckOk && s.pair.xcheck.natAbs > s.vn 0x40000C 0) || s.tm.ppsSt == 2

/-- PPS_STATE judged by PPS_OFFSET against the limit once edges come (R230), and bit 5 of the self-test with it (R472). -/
def ppsJudge (s : State) : State :=
  let was := s.tm.ppsSt
  let st := if was == 0 then 0 else if s.tm.ppsOff.natAbs > s.vn 0x180045 0 then 2 else 1
  let s := { s with tm := { s.tm with ppsSt := st } }
  let s := if st == 2 && was != 2 then logRec s 0x0154 (0x80 + 6) [s.tm.ppsOff] else s
  selfBit s 5 (xcheckBad s)

/-- PPS_IN_EDGE: an edge held for F is accepted and stamped; PPS_STATE is judged and a measurement taken (R230, R232). -/
def execPpsInEdge (dt held : Nat) (s : State) : Host.Outcome State Fault Refusal :=
  let s := advance dt s
  let f := s.vn 0x600121 0
  if held < f then done (bump s 0x600124 0)
  else if !unitOk s 6 then done s
  else
    let stamp := tai s - f - 40
    let d := match s.tm.ppsLast with
      | some t => stamp - t
      | none => 0
    let apart := 999000000 ≤ d && d ≤ 1001000000
    let run := if apart then s.tm.ppsRun + 1 else 1
    let off := ppsOffset stamp
    let st := if s.tm.ppsSt == 0 && run ≥ 3 then 1 else s.tm.ppsSt
    let s := ppsJudge { s with tm := { s.tm with ppsLast := some stamp, ppsRun := run, ppsOff := off, ppsSeen := s.now, ppsSt := st } }
    if s.tm.ppsSt == 1 && s.tm.source == 2 && s.tm.irigSt == 1 then
      let secs : Int := s.tm.irigLast + (((s.now - s.tm.irigAt) + 500000000) / 1000000000 : Nat)
      done (measureAt s secs stamp)
    else done s

/-- The second a frame names since 1970: its year from BCD_YEAR (of the RTC's first century, PRESUMED), else from the counter (R231). -/
def irigSecond (s : State) (fr : IrigFrame) : Int :=
  let lo : Int := if s.vn 0x180042 0 == 1 then (match fr.cf with
    | some c => c.localOffset
    | none => 0) else 0
  let y := match fr.year with
    | some k => 2000 + k % 100
    | none => (yearOf 400 2000 (((tai s / 1000000000 - s.vi 0x180005 0 + lo) / 86400).toNat - 10957)).1
  (daysTo y * 86400 + fr.second : Nat) - lo

/-- IRIG_FRAME: a frame is decoded at its on-time edge (R231, R232); a code beyond B007 is none of those decoded. -/
def execIrigFrame (dt held : Nat) (fr : IrigFrame) (s : State) : Host.Outcome State Fault Refusal :=
  let s := advance dt s
  let f := s.vn 0x600123 0
  if held < f then done (bump s 0x600124 1)
  else if !unitOk s 6 then done s
  else
    let utc := irigSecond s fr
    let ok := fr.ok && fr.code ≤ 7
    let t := s.tm
    let next := ok && (t.irigGood == 0 || utc == t.irigLast + 1)
    let good := if next then t.irigGood + 1 else if ok then 1 else 0
    let bad := if next then 0 else t.irigBad + 1
    let st := if good ≥ 3 then 1 else if bad ≥ 2 then 2 else t.irigSt
    let t := { t with irigGood := good, irigBad := bad, irigSt := st }
    let tq := match fr.cf with
      | some c => c.timeQuality
      | none => 15
    let t := if ok then { t with irigLast := utc, irigAt := s.now, irigCode := fr.code, irigTq := tq } else t
    let s := judgeSource { s with tm := t }
    if s.tm.source == 2 && next then
      let s := match fr.cf with
        | some c => learnUtc s (if c.utcValid then some c.utcOffset else none) c.utcValid c.leap
        | none => s
      if s.tm.ppsSt == 1 then done s
      else done (measureAt s utc (tai s - f - 40))
    else done s

/-- PPS_ABSENT: no edge for 1.5 s (R230). -/
def execPpsAbsent (dt : Nat) (s : State) : Host.Outcome State Fault Refusal :=
  let s := advance dt s
  if s.tm.ppsSeen + 1500000000 ≤ s.now then done (ppsJudge { s with tm := { s.tm with ppsSt := 0, ppsRun := 0, ppsLast := none } }) else done s

/-- Is PPS_OUT driven (R233). -/
def ppsDriven (s : State) : Bool :=
  unitOk s 6 && (s.vn 0x180050 0 == 1 || (s.vn 0x180050 0 == 0 && s.tm.quality != 2))

/-- A write of PPS_OUT_MODE: an output that is no longer driven is low (R233). -/
def putPpsMode (s : State) (v : Val) : Res :=
  let s := s.put 0x180050 0 0 v
  good (if ppsDriven s then s else { s with tm := { s.tm with ppsOut := false } })

/-- PPS_OUT_RISE: the output rises at a second boundary of the counter, in the tick that carries into SEC (R233). -/
def execPpsOutRise (dt : Nat) (s : State) : Host.Outcome State Fault Refusal :=
  let s := advance dt s
  if ppsDriven s && !s.tm.ppsOut && s.tm.ns < 3 then
    done { s with tm := { s.tm with ppsOut := true, ppsRise := s.now, ppsFall := s.tm.sec * 1000000000 + s.vn 0x180051 0 } }
  else done s

/-- PPS_OUT_FALL: the output falls after PPS_OUT_WIDTH by the counter, and never after less than 1 us (R233). -/
def execPpsOutFall (dt : Nat) (s : State) : Host.Outcome State Fault Refusal :=
  let s := advance dt s
  if s.tm.ppsOut && s.tm.ppsFall ≤ tai s && s.tm.ppsRise + 1000 ≤ s.now then done { s with tm := { s.tm with ppsOut := false } }
  else done s

/-! ## Plan events driven by time -/

/-- LEARNED_RATE_UPDATE: a second is complete at its end plus W; the largest SmpCnt plus 1 is learned (R245). -/
def execLearnedRateUpdate (dt entry : Nat) (s : State) : Host.Outcome State Fault Refusal :=
  let s := advance dt s
  let st := streamOf s entry
  let passed := fun (sec : Nat) => tai s > ((sec + 1) * 1000000000 + s.plan.w : Nat)
  let want := subRate (s.val 0x200100 entry 0)
  if st.carried.isSome then done s
  else match st.learnMax with
    | some m =>
      if passed st.learnSec then
        done (learnRate (setStream s entry { st with learnMax := none, prevMax := none }) entry want (m + 1))
      else match st.prevMax with
        | some (q, k) => if passed q then done (learnRate (setStream s entry { st with prevMax := none }) entry want (k + 1)) else done s
        | none => done s
    | none => done s

/-- ROW_CLOSE: the next row closes when the counter has reached its close instant, with rows a shorter W closes together with it (R252,
R253). -/
def execRowClose (dt : Nat) (s : State) : Host.Outcome State Fault Refusal :=
  let s := advance dt s
  if !planOn s then done s else done (closeNext s)

/-- The counters Stream clears (R30). -/
def opStreamReset (s : State) (entry : Nat) : Res := good (clearCtrs s 0x200120 0x200132 (some entry))

/-- STREAM_COUNTERS_RESET (R30). -/
def execStreamCountersReset (dt : Nat) (rq : Req) (entry : Nat) (s : State) : Host.Outcome State Fault Refusal :=
  done (doExec (advance dt s) rq 0x200140 entry fun s => opStreamReset s entry)

/-- The counters SvPort clears (R30). -/
def opSvPortReset (s : State) : Res := good (clearCtrs s 0x200200 0x200201 none)

/-- SV_PORT_COUNTERS_RESET (R30). -/
def execSvPortCountersReset (dt : Nat) (rq : Req) (s : State) : Host.Outcome State Fault Refusal :=
  done (doExec (advance dt s) rq 0x200203 0 opSvPortReset)

/-- The counters Plan clears (R30). -/
def opPlanReset (s : State) : Res := good (clearCtrs s 0x210012 0x210015 none)

/-- PLAN_COUNTERS_RESET (R30). -/
def execPlanCountersReset (dt : Nat) (rq : Req) (s : State) : Host.Outcome State Fault Refusal :=
  done (doExec (advance dt s) rq 0x210020 0 opPlanReset)

end Sys2Proof.Machine
end

