-- ==== Sys2Proof/Machine/Goose.lean ====
section
/-! DEFINITION. GOOSE publishing and subscription and the SV republisher (R296 to R321, R506). -/

namespace Sys2Proof.Machine

/-! ## Datasets (R298) -/

/-- The types and sizes of a layout's rows. -/
def layoutOf (rows : List Val) : List (Nat × Nat) := rows.map fun v => (vN v 0, vN v 1)

/-- The basic members of a layout, in order. -/
def basicsOf (l : List (Nat × Nat)) : List (Nat × Nat) := l.filter fun (t, _) => t != 14

/-- A VisibleString's characters: printable before the first zero byte, zero after it, zero from N on. -/
def visOk (n : Nat) (bs : List Byte) : Bool :=
  let body := bs.take n
  let rest := body.dropWhile fun b => 0x20 ≤ b.toNat && b.toNat ≤ 0x7E
  (bs.drop n).all (· == 0) && rest.all (· == 0)

/-- Can a member carry a slot's value (R301 step 2). -/
def slotFits (t n v : Nat) : Bool :=
  match t with
  | 1 => v ≤ 1
  | 2 => toBits (ofBits v 8) 64 == v
  | 3 => toBits (ofBits v 16) 64 == v
  | 4 => toBits (ofBits v 32) 64 == v
  | 6 => v < 256
  | 7 => v < 65536
  | 8 => v < 4294967296
  | 9 => v < 4294967296
  | 10 => v < 2 ^ n
  | 12 => v < 256 ^ n
  | 13 => visOk n (leN 8 v)
  | _ => true

/-- Octets of a BER tag and length before n octets of content (PRESUMED: ISO/IEC 8825-1, log entry 97). -/
def berHead (n : Nat) : Nat := if n < 128 then 2 else if n < 256 then 3 else 4

/-- Octets of n octets of content with their tag and length. -/
def berLen (n : Nat) : Nat := berHead n + n

/-- Octets of content of an unsigned number in a BER INTEGER. -/
def berNat (n : Nat) : Nat := if n < 128 then 1 else if n < 32768 then 2 else if n < 8388608 then 3 else if n < 2147483648 then 4 else 5

/-- The most octets a basic member takes in BER: tag, length and content. -/
def memberLen (t n : Nat) : Nat :=
  match t with
  | 1 => 3 | 2 => 3 | 3 => 4 | 4 => 6 | 5 => 10 | 6 => 4 | 7 => 5 | 8 => 7 | 9 => 7 | 11 => 10
  | 10 => 3 + (n + 7) / 8
  | _ => 2 + n

/-- The most octets the next k members of a layout take, a structure counting as one, and the rows behind them. -/
def layLen : Nat → Nat → List (Nat × Nat) → Nat × List (Nat × Nat)
  | 0, _, l => (0, l)
  | _, 0, l => (0, l)
  | _, _, [] => (0, [])
  | f + 1, k + 1, (t, n) :: r =>
    let (a, r) := if t == 14 then (let (c, r) := layLen f n r; (berLen c, r)) else (memberLen t n, r)
    let (b, r) := layLen f k r
    (a + b, r)

/-- The members of a layout that lie in no structure. -/
def layTop : List (Nat × Nat) → Nat → Nat
  | [], _ => 0
  | (t, n) :: r, 0 => 1 + layTop r (if t == 14 then n else 0)
  | (t, n) :: r, k + 1 => layTop r (k + if t == 14 then n else 0)

/-- The length of a block's frame at the largest value of every member and number, with the VLAN tag and the authentication extension
(log entry 97): MAC addresses, type and FCS 18 octets, the GOOSE header 8. -/
def goLen (block strs : Val) (layout : List (Nat × Nat)) : Nat :=
  let names := sumN ((upto 3).map fun i => berLen (vO strs i).length)
  let data := berLen (layLen (2 * layout.length + 1) layout.length layout).1
  let tal := 2 + berNat (vN block 14 * vN block 13)
  let pdu := names + tal + 10 + 7 + 7 + 3 + (2 + berNat (vN block 7)) + 3 + (2 + berNat (layTop layout 0)) + data
  max 64 (26 + berLen pdu + (if vN block 5 == 0 then 0 else 4) + (if vN block 15 == 0 then 0 else 40))

/-- The VLAN tag a publication is built with: none for VID 0 (R297). -/
def pubTag (vid pcp : Nat) : Option (Nat × Nat) := if vid == 0 then none else some (vid, pcp)

/-! ## Publishing (R301 to R308) -/

/-- A block's configuration. -/
def gbCfg (s : State) (b : Nat) : Val := s.val 0x280100 b 0

/-- A block's basic members. -/
def gbBasics (s : State) (b : Nat) : List (Nat × Nat) := basicsOf (layoutOf (s.rows 0x280102 b))

/-- The claim slot a block ignores. -/
def gbClaimSlot (s : State) (b : Nat) : Option Nat := if vB (gbCfg s b) 9 then some (vN (gbCfg s b) 10) else none

/-- timeAllowedToLive in ms before a gap in ns (R303). -/
def gbTal (s : State) (b gap : Nat) : Nat := ceilDiv (vN (gbCfg s b) 14 * gap) 1000000

/-- A block's frame as built: its state, the claim in force and the numbers given. -/
def gbFrame (s : State) (b st tal : Nat) (t : Int) (slots : List Nat) : TxFrame :=
  let v := gbCfg s b
  { job := 0, cls := 6, len := goLen v (s.val 0x280101 b 0) (layoutOf (s.rows 0x280102 b)), part := vN v 1, tag := pubTag (vN v 5) (vN v 6)
    what := .goose b st 0 tal t (if st == (gbOf s b).st then (gbOf s b).tq else timeOctet s) (if vB v 9 then claimFor s (vN v 1) else 0) slots }

/-- The egress of a block's change frame. -/
def gbEgress (s : State) (b : Nat) : Egress :=
  let v := gbCfg s b
  ⟨destPorts s (vN v 2), 0x88B8, ofBe (vO v 3), vN v 4, vN v 5⟩

/-- A block stops: nothing of it is sent further, and its next request publishes stNum 1 (R308). -/
def gbStop (s : State) (b : Nat) : State :=
  let js := s.net.jobs.filterMap fun (j, x) => match x.owner with
    | .goose c _ _ => if c == b && !(x.sentA || x.sentB) then some j else none
    | _ => none
  let s := txResume (js.foldl dropJob s)
  { s with pub := { s.pub with blocks := tabDel s.pub.blocks b } }

/-- The blocks of a partition. -/
def blocksOf (s : State) (p : Nat) : List Nat := (s.pub.blocks.map Prod.fst).filter fun b => vN (gbCfg s b) 1 == p

/-- Every block of a partition stops (R308). -/
def gooseStop (s : State) (p : Nat) : State := (blocksOf s p).foldl gbStop s

/-- A new state without launch: adopted at E, now, and its change frame sent. -/
def gbChange (s : State) (b : Nat) (slots : List Nat) (req : Option (Nat × Nat)) (took : Option Nat) : State :=
  let s := gbAdopt s b slots (tai s)
  let g := gbOf s b
  sendTo s (vN (gbCfg s b) 2) (.goose b req true) { gbFrame s b g.st (gbTal s b g.gap) g.t slots with took := took } false

/-- A new state with launch: the change frame is held until L, the state with it. -/
def gbLaunch (s : State) (b : Nat) (slots : List Nat) (r : GReq) (q i took : Nat) : State :=
  let g := gbOf s b
  let s := setGb s b { g with heldSlots := slots, heldT := r.launchTime }
  let f := gbFrame s b (nextNum g.st) (gbTal s b (vN (gbCfg s b) 11)) r.launchTime slots
  sendTo s (vN (gbCfg s b) 2) (.goose b (some (q, i)) true) { f with launch := some r.launchTime, dropLate := r.dropLate, took := some took } false

/-- Is a block an output of a logic task (R414). -/
def logicBlock (s : State) (b : Nat) : Bool :=
  (s.subsOf 0x380011).any fun j => s.fb 0x380011 j 0 && (s.rows 0x380014 j).any fun v => vN v 0 == 0 && vN v 1 == b

/-- The image of a logic output published, judged from step 4 of R301 onward (R415): no completion; a refused one is not taken. -/
def gooseLogic (s : State) (p b : Nat) (img : List Nat) : State :=
  let v := gbCfg s b
  let ms := gbBasics s b
  let cs := gbClaimSlot s b
  let slots := (upto ms.length).map fun k => if cs == some k then 0 else nth img k 0
  let g := gbOf s b
  if !unitTakes s 10 || !vB v 0 || vN v 1 != p then s
  else if !pfState s p true then pfRefuse s p 1 (ofBe (vO v 3))
  else if g.has && g.slots == slots then s
  else
    let (ok, s) := pfFrame s p true (gbEgress s b)
    if ok then gbChange s b slots none none else s

/-- A publish request, in the order of R301, taken so many ns after its commit; a launch hold is no part of the path's bound (R24). -/
def gooseReq (s : State) (p q i : Nat) (r : GReq) (took : Nat) : State :=
  let b := r.block
  let v := gbCfg s b
  let ms := gbBasics s b
  let cs := gbClaimSlot s b
  let slots := (upto ms.length).map fun k => if cs == some k then 0 else nth r.image k 0
  let g := gbOf s b
  if !unitTakes s 10 then gooseReqDone s b q i 6 0
  else if b ≥ 512 || !vB v 0 || vN v 1 != p then gooseReqDone s b q i 4 0
  else if (upto ms.length).any fun k => cs != some k && !(slotFits (nth ms k (1, 0)).1 (nth ms k (1, 0)).2 (nth r.image k 0)) then
    gooseReqDone s b q i 5 0
  else if g.held.isSome || logicBlock s b then gooseReqDone s b q i 7 0
  else if !pfState s p (servedEntry s q i) then gooseReqDone (pfRefuse s p 1 (ofBe (vO v 3))) b q i 3 0
  else if g.has && g.slots == slots then gooseReqDone s b q i 0 0
  else
    let (ok, s) := pfFrame s p (servedEntry s q i) (gbEgress s b)
    if !ok then gooseReqDone s b q i 3 0
    else
      let s := commitPass s p took
      if r.launch then gbLaunch s b slots r q i took else gbChange s b slots (some (q, i)) (some took)

/-- GOOSE_REQUEST: the engine takes the next request of a ring (R301). A request whose frame would find a launch queue full waits. -/
def execGooseRequest (dt ring : Nat) (s : State) : Host.Outcome State Fault Refusal :=
  let s := advance dt s
  if !(rType s ring == 2 && rEngine s ring == 2 && hubLive s && s.vn 0x280120 (rOwner s ring) == ring) then done s
  else match nextEntry s ring with
    | some (i, .goose r) =>
      if r.launch && r.block < 512 && vB (gbCfg s r.block) 0 && !launchRoom s (vN (gbCfg s r.block) 2) then done s
      else done (gooseReq (takeEntry s ring) (rOwner s ring) ring i r (commitTook s ring i))
    | some (_, _) => done (takeEntry s ring)
    | none => done s

/-- A scheduled retransmission: what it sends passes checks 1 and 4; the schedule goes on whatever is sent (R303, R304). -/
def gbRetransmit (s : State) (b : Nat) (due : Int) : State :=
  let v := gbCfg s b
  let g := gbOf s b
  let gap := min (g.gap * vN v 12) (vN v 13 * 1000000)
  let s := setGb s b { g with gap := gap, due := some (due + gap) }
  if !unitOk s 10 then s
  else if !pfState s (vN v 1) true then pfRefuse s (vN v 1) 1 (ofBe (vO v 3))
  else sendTo s (vN v 2) (.goose b none false) (gbFrame s b g.st (gbTal s b gap) g.t g.slots) false

/-- GOOSE_RETRANSMIT: a block's retransmission falls due, within 5 µs of its scheduled time (R304). -/
def execGooseRetransmit (dt block : Nat) (s : State) : Host.Outcome State Fault Refusal :=
  let s := advance dt s
  let g := gbOf s block
  match g.due with
  | some d => if g.has && hubLive s && vB (gbCfg s block) 0 && d ≤ tai s + 5000 then done (gbRetransmit s block d) else done s
  | none => done s

/-- A raise of domain d's claim is a change of every PROTECTION block of the domain (R305); its frame passes the Prefect as every change frame
does, and one refused leaves the block as it was (R478, R481). -/
def gooseClaim (s : State) (d : Nat) : State :=
  (s.pub.blocks.map Prod.fst).foldl (fun s b =>
    let v := gbCfg s b
    let g := gbOf s b
    if !(g.has && vB v 0 && vB v 9 && domainOf s (vN v 1) == d) then s
    else
      let (ok, s) := if unitOk s 10 then pfFrame s (vN v 1) true (gbEgress s b) else (true, s)
      if !ok then s
      else
      let s := gbAdopt s b g.slots (tai s)
      let s := setGb s b { gbOf s b with held := g.held, heldSlots := g.heldSlots, heldT := g.heldT }
      if !unitOk s 10 then s
      else sendTo s (vN v 2) (.goose b none true) (gbFrame s b (gbOf s b).st (gbTal s b (gbOf s b).gap) (tai s) g.slots) false) s

/-- The counters Go clears (R30). -/
def opGoReset (s : State) : Res := good (clearCtrs s 0x280112 0x280114 none)

/-- GO_COUNTERS_RESET: clears the area 28 counters of blocks (R30). -/
def execGoCountersReset (dt : Nat) (rq : Req) (s : State) : Host.Outcome State Fault Refusal :=
  done (doExec (advance dt s) rq 0x280130 0 opGoReset)

/-! ## Subscription (R309 to R314) -/

/-- A subscription entry set. -/
def setGs (s : State) (e : Nat) (x : GSub) : State := { s with pub := { s.pub with subs := tabPut s.pub.subs e x } }

/-- A claim latch set. -/
def setLatch (s : State) (k : Nat) (x : Latch) : State := { s with pub := { s.pub with latches := tabPut s.pub.latches k x } }

/-- An entry's change of state, with its record (R312). -/
def gsState (s : State) (e st : Nat) : State :=
  let x := gsOf s e
  if x.st == st then s else seeNow (logRec (setGs s e { x with st := st }) 0x0180 (0x80 + 10) (ints [e, x.st, st])) 0x290110 e

/-- The entry a frame matches on the addresses and identifiers of check 2. -/
def gsFind (s : State) (port dst src vid : Nat) (p : GoosePdu) : Option Nat :=
  (s.subsOf 0x290100).find? fun e =>
    let v := s.val 0x290100 e 0
    vB v 0 && bit (vN v 1) port && ofBe (vO v 2) == dst && (ofBe (vO v 3) == 0 || ofBe (vO v 3) == src) && vN v 4 == p.appid &&
      vN v 5 == vid && crc32c (vO (s.val 0x290101 e 0) 0) == p.gocbHash

/-- The claim member of an entry's slots. -/
def gsClaim (v : Val) (slots : List Nat) : Nat := if vB v 10 then nth slots (vN v 12) 0 % 4294967296 else 0

/-- Delivers an event to the entry's partition (R313, R314): kind 0 NEW_STATE, 1 LOST; flags without MISSED. -/
def gsEvent (s : State) (e kind flags : Nat) (time : Int) : State :=
  let v := s.val 0x290100 e 0
  let p := vN v 13
  let q := s.fn 0x290210 p 0
  if p ≥ 64 || q ≥ 256 then s
  else
    let missed := tabGetD s.pub.missed p 0
    if rSpace s q == 0 then bump { s with pub := { s.pub with missed := tabPut s.pub.missed p (missed + 1) } } 0x290211 p
    else
      let x := gsOf s e
      let k := slotOf s q (ringOf s q).prod
      let body := s.fn 0x290210 p 1 + k * 1024
      let s := memWrite s p body (x.slots.flatMap (leN 8))
      let s := { s with pub := { s.pub with missed := tabPut s.pub.missed p 0 } }
      ringPost s q (.event e kind (flags + 2 * b2n (missed != 0)) x.stNum x.sqNum x.tal time x.t x.claim missed body x.slots.length) 0

/-- A frame with receive stamp rx, accepted by checks 1 to 8: the entry's sequence, deadline and state, and the event of a new state. -/
def gsAccept (s : State) (e : Nat) (p : GoosePdu) (rx : Int) (isNew : Bool) (flags claim : Nat) : State :=
  let s := setGs s e { gsOf s e with
    seqOk := true
    stNum := p.stNum
    sqNum := p.sqNum
    rxTime := rx
    deadline := rx + p.tal * 1000000
    claim := claim
    slots := p.slots
    tal := p.tal
    t := p.t + (s.vi 0x180005 0) * 1000000000 }
  let s := gsState s e 2
  if isNew then gsEvent s e 0 (flags + b2n p.sim) rx else s

/-- stNum a is newer than b by this much, under the wrap of R302. -/
def stStep (a b : Nat) : Nat :=
  if b == 0 then (if a == 0 then 0 else a) else (a + 4294967295 - b) % 4294967295

/-- Check 8 (R311). -/
def gsSeq (s : State) (e : Nat) (p : GoosePdu) (rx : Int) (claim : Nat) : State :=
  let x := gsOf s e
  if !x.seqOk then gsAccept s e p rx true 0 claim
  else if p.stNum == 1 && p.sqNum == 0 && x.stNum != 1 then gsAccept (bump s 0x290125 e) e p rx true 4 claim
  else if p.stNum == x.stNum then
    if p.sqNum > x.sqNum then gsAccept s e p rx false 0 claim else bump s 0x290122 e
  else
    let d := stStep p.stNum x.stNum
    if 1 ≤ d && d ≤ 2147483648 then
      gsAccept (if d > 1 then bump s 0x290124 e else s) e p rx true (if d > 1 then 8 else 0) claim
    else bump s 0x290123 e

/-- Check 7 (R310): a claim below the latch fails, one above raises it and clears the sequence; while the latch listens the frame
raises the latch and nothing more. -/
def gsClaimRule (s : State) (e : Nat) (v : Val) (p : GoosePdu) (rx : Int) : State :=
  if !vB v 10 then gsSeq s e p rx 0
  else
    let c := gsClaim v p.slots
    let l := latchOf s (vN v 11)
    let up := if c / 256 > 0 then max l.v c else l.v
    if l.listen.isSome then setLatch s (vN v 11) { l with v := up }
    else if c / 256 == 0 || c < l.v then bump s 0x290121 e
    else
      let s := setLatch (if vN v 13 < 64 then hearClaim s (domainOf s (vN v 13)) c else s) (vN v 11) { l with v := c }
      let s := if c > l.v then setGs s e { gsOf s e with seqOk := false } else s
      gsSeq s e p rx c

/-- A GOOSE authentication failure, counted; the first is recorded (R242). -/
def gsAuthFail (s : State) (e ctr : Nat) : State :=
  let s := bump s ctr e
  if (gsOf s e).authLogged then s
  else logRec (setGs s e { gsOf s e with authLogged := true }) 0x0163 (0x80 + 10) (ints [e])

/-- A received GOOSE frame, in the order of R309. -/
def gooseRx (s : State) (port dst src vid : Nat) (p : GoosePdu) : State :=
  if !unitOk s 10 then s
  else if !(p.wellFormed && p.tal ≥ 1) then bump s 0x290200 port
  else match gsFind s port dst src vid p with
    | none => bump s 0x290201 port
    | some e =>
      let v := s.val 0x290100 e 0
      let str := s.val 0x290101 e 0
      let x := gsOf s e
      let key := vN v 9
      if (p.sim && !vB v 7) || (!p.sim && vB v 7 && x.simLatch) then bump s 0x290127 e
      else if vN v 8 != 0 && p.keyId != tkId s key then gsAuthFail s e 0x290128
      else if vN v 8 != 0 && !tkReady s key then gsAuthFail s e 0x290129
      else if vN v 8 != 0 && !p.tagOk then gsAuthFail s e 0x290128
      else
        let s := setGs s e { x with simLatch := x.simLatch || p.sim, authLogged := x.authLogged && vN v 8 == 0 }
        if !(p.gocbRef == vO str 0 && p.datSet == vO str 1 && p.goId == vO str 2 && p.confRev == vN v 6 && !p.ndsCom) then
          bump s 0x290120 e
        else if p.layout != layoutOf (s.rows 0x290102 e) || p.slots.length != (basicsOf p.layout).length then bump s 0x290120 e
        else gsClaimRule s e v p (rxStamp s port)

/-- GOOSE_TAL_EXPIRY: the counter reaches an entry's deadline plus 20 µs and the entry enters LOST (R312). -/
def execGooseTalExpiry (dt entry : Nat) (s : State) : Host.Outcome State Fault Refusal :=
  let s := advance dt s
  let x := gsOf s entry
  if x.st == 2 && unitOk s 10 && x.deadline + 20000 ≤ tai s then
    done (gsEvent (gsState (bump s 0x290126 entry) entry 3) entry 1 0 x.deadline)
  else done s

/-- LATCH_LISTEN_END: a latch's power-up listening time ends (R310). -/
def execLatchListenEnd (dt latch : Nat) (s : State) : Host.Outcome State Fault Refusal :=
  let s := advance dt s
  let l := latchOf s latch
  if dueBy s l.listen then done (setLatch s latch { l with listen := none }) else done s

/-- The counters Gsub clears (R30). -/
def opGsubReset (s : State) : Res :=
  good (clearCtrs (clearCtrs s 0x290120 0x290201 none) 0x290211 0x290211 none)

/-- GSUB_COUNTERS_RESET: clears the counters of area 29 (R30). -/
def execGsubCountersReset (dt : Nat) (rq : Req) (s : State) : Host.Outcome State Fault Refusal :=
  done (doExec (advance dt s) rq 0x290230 0 opGsubReset)

/-- An entry without a frame accepted since its last change waits, or is disabled where it is not valid (R312). -/
def gsFresh (s : State) (e : Nat) : State :=
  if !s.fb 0x290100 e 0 then gsState s e 0 else if !(gsOf s e).seqOk then gsState s e 1 else s

/-- The engine starts: after a hub start every latch listens for 50 ms; entries that a commit changed meanwhile take their state
(R310, R312, R321). -/
def gooseBegin (s : State) : State :=
  let s := if s.pub.latches.isEmpty then (upto 64).foldl (fun s k => setLatch s k { v := 0, listen := some (s.now + 50000000) }) s else s
  ((s.subsOf 0x290100 ++ s.pub.subs.map Prod.fst).foldl adjoin []).foldl gsFresh s

/-- A committed change of an entry: what it held is gone, and it waits anew or is disabled (R312); no entry changes its state while the
engine does not work (R321). -/
def gsCommit (s : State) (e : Nat) : State :=
  let s := setGs s e { st := (gsOf s e).st, simLatch := (gsOf s e).simLatch && s.fb 0x290100 e 7 }
  if unitOk s 10 then gsFresh s e else s

/-! ## The SV republisher (R315 to R320) -/

/-- An outbound stream. -/
def osOf (s : State) (o : Nat) : OsSt := tabGetD s.pub.os o {}

/-- An outbound stream set. -/
def setOs (s : State) (o : Nat) (x : OsSt) : State := { s with pub := { s.pub with os := tabPut s.pub.os o x } }

/-- A term's source value and quality at row r. -/
def osSource (s : State) (r kind index ch : Nat) : VQ :=
  if kind == 0 then
    let x := tabGetD (planRow s r).seats index {}
    ⟨nth x.values ch 0, nth x.quality ch qNone, false⟩
  else nth (tabGetD s.cond.outs index {}).vals ch {}

/-- The terms of a channel: kind, index, source channel, weight. -/
def osTerms (rows : List Val) (ch : Nat) : List (Nat × Nat × Nat × Int) :=
  (rows.filter fun v => vN v 0 == ch && vN v 1 != 0xFF).map fun v => (vN v 1, vN v 2, vN v 3, vI v 4)

/-- A channel's SHIFT. -/
def osShift (rows : List Val) (ch : Nat) : Nat :=
  match rows.find? fun v => vN v 0 == ch && vN v 1 == 0xFF with
  | some v => vN v 3
  | none => 0

/-- A channel at row r (R315): value, merged quality, and whether it clipped. -/
def osChannel (s : State) (rows : List Val) (r ch : Nat) : Int × Nat × Bool :=
  let ts := osTerms rows ch
  let xs := ts.map fun (k, i, c, _) => osSource s r k i c
  let (v, k) := macOut (ts.map fun (_, _, _, w) => w) (xs.map (·.v)) (osShift rows ch)
  let q := xs.foldl (fun a x => mergeQ a x.q) 0
  (v, if k then q ||| qSat else q, k)

/-- The published quality word (R318): the low 14 bits of the merged word with derived, source and the raised validities. -/
def osQuality (derived : Bool) (q : Nat) : Nat :=
  let m := if q &&& 0x30000000 != 0 then mergeQ q 0x203 else q
  let m := if q &&& 0x08000000 != 0 then mergeQ m 0x101 else m
  (m ||| (if q &&& 0x80000000 != 0 then 0x400 else 0) ||| (if derived then 0x2000 else 0)) % 16384

/-- Is a channel derived (R318). -/
def osDerived (rows : List Val) (ch : Nat) (conv : Bool) : Bool :=
  let ts := osTerms rows ch
  conv || ts.length > 1 || ts.any fun (_, _, _, w) => w != 2 ^ (osShift rows ch)

/-- May a stream's frame of first sample instant t be sent (R320). -/
def osHolder (s : State) (v : Val) (t : Int) : Bool :=
  if vN v 16 == 0 then true
  else
    let c := claimOf s (vN v 17)
    if holder s (vN v 17) then t > c.heldAt else t ≤ c.heldAt

/-- A stream's frame's length with the VLAN tag and the authentication extension (log entry 97): MAC addresses, type and FCS 18 octets,
the SV header 8; an ASDU holds svID, smpCnt, confRev, smpSynch, the optional smpRate and gmIdentity, and the samples. -/
def osLen (v : Val) (svid : Nat) : Nat :=
  let asdu := berLen svid + 4 + 6 + 3 + (if vB v 10 then 4 else 0) + berLen (8 * vN v 8) + (if vB v 11 then 10 else 0)
  26 + berLen (3 + berLen (vN v 9 * berLen asdu)) + (if vN v 4 == 0 then 0 else 4) + (if vN v 18 == 0 then 0 else 40)

/-- A complete frame of a stream: the republisher's list, then its port, held until its launch time where LAUNCH is set (R319). -/
def osSend (s : State) (o : Nat) (fr : List (Nat × Nat × List Int × List Nat)) : State :=
  let v := s.val 0x280200 o 0
  let rate := max 1 (vN v 7)
  let at_ (n : Nat) : Int := (n * 1000000000 / rate : Nat)
  let first := (nth fr 0 (0, 0, [], [])).1
  let last := (nth fr (fr.length - 1) (0, 0, [], [])).1
  let gm := if vB v 11 && s.tm.source == 1 then s.tm.parent.map fun (_, a) => padTo 8 a.gmIdentity else none
  if !osHolder s v (at_ first) || s.pf.blocked || life s != 2 then s
  else if !svrAllow s ⟨destPorts s (vN v 1), 0x88BA, ofBe (vO v 2), vN v 3, vN v 4⟩ then bump s 0x440051 0
  else
    let f : TxFrame := { job := 0, cls := 6, len := osLen v (vO (s.val 0x280201 o 0) 0).length
                         launch := if vB v 13 then some (at_ last + vN v 14) else none
                         dropLate := vN v 15 == 1, tag := pubTag (vN v 4) (vN v 5)
                         what := .sv o (fr.map fun (n, y, x, q) => (n % rate, y, x, q)) gm }
    sendTo s (vN v 1) (.os o) f false

/-- Output sample n of a stream joins its frame; the frame is sent when its last sample is computed. -/
def osSample (s : State) (o n synch : Nat) (vals : List Int) (quals : List Nat) : State :=
  let x := osOf s o
  let fr := x.frame ++ [(n, synch, vals, quals)]
  if fr.length ≥ s.fn 0x280200 o 9 then osSend (setOs s o { x with frame := [] }) o fr else setOs s o { x with frame := fr }

/-- The converter of a stream: none at native rate. -/
def osConv (s : State) (rate : Nat) : Option Nat :=
  if rate == baseHz s then none else if rate == 4800 then some 3 else some 4

/-- One input to a stream's converter: the outputs whose last input it is, with the SmpSynch of the present row. -/
def osFeed (s : State) (o c ch synch : Nat) (x : ConvIn) : State :=
  let (l, m, k, _) := convPar c
  let h := (osOf s o).hist
  let h := if h.isEmpty then convPrime k x else (x :: h).take k
  let s := setOs s o { osOf s o with hist := h }
  (convRows c x.n).foldl (fun s r =>
    let (vs, qs, _, clips) := convOut c (r * m % l) h ch
    let s := bumpBy s 0x280211 o clips
    osSample s o r synch vs ((upto ch).map fun i => osQuality true (nth qs i 0))) s

/-- The inputs before n that never came are filled by repetition, k at most (R251, R316). -/
def osFill (o c ch synch : Nat) : Nat → State → Nat → State
  | 0, s, _ => s
  | k + 1, s, n =>
    match (osOf s o).hist with
    | [] => s
    | y :: _ => if y.n + 1 < n then osFill o c ch synch k (osFeed s o c ch synch { y with n := y.n + 1, filled := true }) n else s

/-- One row of a stream (R315, R316). -/
def osRow1 (s : State) (o r : Nat) : State :=
  let s := match (osOf s o).reset with
    | some c => if r ≥ c then setOs s o {} else s
    | none => s
  let v := s.val 0x280200 o 0
  let rows := s.rows 0x280202 o
  let ch := vN v 8
  let outs := (upto ch).map fun c => osChannel s rows r c
  let synch := (planRow s r).synch
  let s := bumpBy s 0x280211 o (outs.filter fun x => x.2.2).length
  match osConv s (vN v 7) with
  | none => osSample s o r synch (outs.map (·.1)) ((upto ch).map fun c => osQuality (osDerived rows c false) (nth outs c (0, 0, false)).2.1)
  | some c =>
    osFeed (osFill o c ch synch r s r) o c ch synch { n := r, values := outs.map (·.1), quality := outs.map (·.2.1), filled := false }

/-- Does a stream take a group source. -/
def osGroups (s : State) (o : Nat) : Bool := (s.rows 0x280202 o).any fun v => vN v 1 == 1

/-- Every valid stream at row r whose last needed source is now there: row release, or the end of conditioning for group sources. -/
def osRow (s : State) (r : Nat) (cond : Bool) : State :=
  if !(s.ident.optV && unitTakes s 11 && hubLive s && pairUses s 3) then s
  else rowView s r fun s => (s.subsOf 0x280200).foldl (fun s o =>
    if s.fb 0x280200 o 0 && osGroups s o == cond then osRow1 s o r else s) s

/-- The counters Os clears (R30). -/
def opOsReset (s : State) : Res := good (clearCtrs s 0x280210 0x280213 none)

/-- OS_COUNTERS_RESET: clears the area 28 counters of streams (R30). -/
def execOsCountersReset (dt : Nat) (rq : Req) (s : State) : Host.Outcome State Fault Refusal :=
  done (doExec (advance dt s) rq 0x280230 0 opOsReset)

/-! ## Roll call (R321) -/

/-- Does a valid block or subscription with AUTH name a stale or unusable key. -/
def gooseBad (s : State) : Bool :=
  ((s.subsOf 0x280100).any fun b =>
    let v := gbCfg s b
    vB v 0 && vN v 15 != 0 && !tkFor s (vN v 16) 3) ||
  (s.subsOf 0x290100).any fun e =>
    let v := s.val 0x290100 e 0
    vB v 0 && vN v 8 != 0 && !tkFor s (vN v 9) 2

/-- Does a valid outbound stream with AUTH name a stale or unusable key. -/
def osBad (s : State) : Bool :=
  (s.subsOf 0x280200).any fun o =>
    let v := s.val 0x280200 o 0
    vB v 0 && vN v 18 != 0 && !tkFor s (vN v 19) 1

/-- Judges the GOOSE engine and the republisher: DEGRADED while something valid with AUTH names a stale or unusable key. -/
def judgePub (s : State) : State := judgeUnit (judgeUnit s 10 (gooseBad s)) 11 (osBad s)

end Sys2Proof.Machine
end

