-- ==== Sys2Proof/Machine/VaultQ.lean ====
section
/-! DEFINITION. The key slots' states (R499, R518), the working key register and its classes (R502). -/

namespace Sys2Proof.Machine

/-! ## Slots -/

/-- A slot set. -/
def setSlot (s : State) (k : Nat) (x : KeySlot) : State := { s with vault := { s.vault with slots := tabPut s.vault.slots k x } }

/-- The next GEN. -/
def genUp (g : Nat) : Nat := (g + 1) % 65536

/-- Has the vault a slot that is BAD, or an identity certificate that does not parse (R518). -/
def vaultBad (s : State) : Bool :=
  s.vault.slots.any (fun (_, x) => x.st == 3) || [0, 1].any fun u => !Config.certOk (Config.identityCert u)

/-- Roll-call sub 0 judged (R518). -/
def judgeVault (s : State) : State := judgeUnit s 0 (vaultBad s)

/-- A slot whose GEN advances with a state: its children become STALE (R506). -/
def slotTo (s : State) (k st : Nat) : State := setSlot s k { slotOfKey s k with st := st, gen := genUp (slotOfKey s k).gen }

/-- The ingest and the publishers judged after a change of a key (R262, R321). -/
def judgeKeys (s : State) : State := judgePub (judgeIngest s)

/-- A slot whose integrity tag fails becomes BAD, and what depends on its key is judged (R262, R321, R499, R518). -/
def slotBad (s : State) (k : Nat) : State :=
  if k < 64 && ((slotOfKey s k).st == 1 || (slotOfKey s k).st == 2) then
    judgeKeys (judgeVault (logRec (slotTo s k 3) 0x01E1 0x80 (ints [k]))) else s

/-! ## The working key register -/

/-- Takes the first element a test admits out of a list. -/
def pick {α : Type} (f : α → Bool) : List α → Option (α × List α)
  | [] => none
  | x :: r => if f x then some (x, r) else (pick f r).map fun (y, t) => (y, x :: t)

/-- The lowest class among waiting and suspended requests. -/
def vaultLow (v : Vault) : Option Nat :=
  match (v.q ++ v.suspended).map (·.cls) with
  | [] => none
  | c :: r => some (r.foldl min c)

/-- The slot whose key an operation loads: a derivation's parent, the slot a MAC or a wrapped KEY_WRITE names, the pair's handover slot, the
migration slot (R507, R508). -/
def opSlot (s : State) (op : VOp) : Option Nat :=
  match op with
  | .derive i => some (s.fn 0x480020 i 1)
  | .mac _ _ _ k _ _ => some k
  | .handoverSign _ => hubSlot s 3
  | .handoverVerify .. => hubSlot s 3
  | .migAgree _ => hubSlot s 5
  | .keyWrite _ _ _ w _ _ _ => if w == 0xFF then none else some w
  | _ => none

/-- A request as the working key register takes it: it loads its slot, when the slot is VALID and the life cycle admits it (R510). -/
def vaultLoad (s : State) (r : VReq) : VReq :=
  match opSlot s r.op with
  | none => r
  | some k =>
    let x := slotOfKey s k
    if keyOk s x then { r with gen := some x.gen, key := x.key } else r

/-- The integrity check of a slot as it is loaded (R499); whether its tag fails is a free value. -/
def slotCheck (s : State) (op : VOp) : State :=
  match opSlot s op with
  | some k => if Config.keyTagBad k s.now then slotBad s k else s
  | none => s

/-- A free register takes the next request: the lowest class, a suspended operation before one not begun. -/
def vaultKick (s : State) : State :=
  let v := s.vault
  match v.work, vaultLow v with
  | none, some c =>
    (match pick (fun r : VReq => r.cls == c) v.suspended with
    | some (r, l) => { s with vault := { v with work := some r, suspended := l } }
    | none => match pick (fun r : VReq => r.cls == c) v.q with
      | some (r, l) =>
        let s := slotCheck { s with vault := { v with q := l } } r.op
        { s with vault := { s.vault with work := some (vaultLoad s r) } }
      | none => s)
  | _, _ => s

/-- Is an operation a derivation. -/
def VOp.derives : VOp → Bool
  | .derive _ => true
  | _ => false

/-- Has a class's queue room: each queues at most 16 requests; the vault's own derivations take none of the places. -/
def vaultRoom (s : State) (c : Nat) : Bool := (s.vault.q.filter fun r => r.cls == c && !r.op.derives).length < 16

/-- A request joins its class. -/
def vaultPush (s : State) (c : Nat) (op : VOp) : State :=
  vaultKick { s with vault := { s.vault with q := s.vault.q ++ [{ cls := c, op := op }] } }

/-- Is an operation longer than 200 µs, so that it runs in segments (R502). -/
def VOp.long : VOp → Bool
  | .derive _ => true
  | .verifyImage .. => true
  | .verifyBundle .. => true
  | .verifyMirror _ => true
  | .handshake _ => true
  | .migAgree _ => true
  | .attest .. => true
  | _ => false

/-- The end of a segment: a waiting request of a lower class suspends a long operation (R502). -/
def vaultYield (s : State) : State :=
  let v := s.vault
  match v.work with
  | none => s
  | some w =>
    if w.op.long && v.q.any fun r => r.cls < w.cls then vaultKick { s with vault := { v with work := none, suspended := w :: v.suspended } } else s

end Sys2Proof.Machine
end

