-- ==== Sys2Proof/Machine/Claims.lean ====
section
/-! DEFINITION. Claims: fitness, the takeover rule, raises, beacons and planned handovers (R453 to R461), and the Bolpel driver
(R462 to R470). -/

namespace Sys2Proof.Machine

/-! ## Domains and fitness (R453, R454) -/

/-- The domains some created partition names, rising. -/
def domains (s : State) : List Nat := (upto 64).filter fun d => !(domParts s d).isEmpty

/-- Are all partitions of a domain in step. -/
def domInStep (s : State) (d : Nat) : Bool := !(domParts s d).isEmpty && (domParts s d).all (inStep s)

/-- HOLDER of a domain is judged: a change is remembered, a loss recorded with cause LOST (R459). -/
def judgeHolder (s : State) (d : Nat) : State :=
  let c := claimOf s d
  let h := holder s d
  if h == c.holding then s
  else
    let s := setClaim s d { c with holding := h, heldAt := tai s }
    if h then s else logRec s 0x01C1 (0x80 + 18) (ints [d, claimNo s d, c.highest, 1])

/-! ## The Bolpel driver -/

/-- A board's configuration. -/
def boardCfg (s : State) (b : Nat) : Val := s.val 0x400040 b 0

/-- The configured boards, rising. -/
def boards (s : State) : List Nat := (s.subsOf 0x400040).filter fun b => b < 16 && s.fb 0x400040 b 0

/-- May the driver use the bus: its unit works, firmware runs and the Prefect has not stopped it (R88, R98). -/
def bolRuns (s : State) : Bool :=
  unitOk s 19 && hubLive s && !s.pf.bolpelOff && !s.pf.blocked && (life s == 1 || life s == 2)

/-- The driver set. -/
def setBol (s : State) (x : Bolpel) : State := { s with pair := { s.pair with bol := x } }

/-- Is a queued command one of the cycle's keepalives and polls. -/
def BolCmd.cyclic (c : BolCmd) : Bool := c.board == 0xFF || c.poll

/-- Has a partition of a domain stopped the repetitions of its last outputs: it has migrated away, or its source faulted after all was sent
(R348, R352). -/
def domMute (s : State) (d : Nat) : Bool :=
  (domParts s d).any fun p => (partOf s p).away || ((partOf s p).st == .frozen && (partOf s p).mig.mute)

/-- A command as it goes on the bus: keepalives, polls and full-state frames take the state and claim of that instant. -/
def bolBuild (s : State) (c : BolCmd) : BolCmd :=
  let c := if c.req.isSome || c.board == 0xFF then c
    else if c.part < 64 then c
    else { c with mask := s.fn 0x400040 c.board 2, out := (boardOf s c.board).state &&& s.fn 0x400040 c.board 2 }
  { c with claim := if c.part < 64 then c.claim else claimNo s c.domain, seq := s.pair.bol.seq }

/-- The fields of a command frame that its CRC covers, in table order (R463). -/
def bolFields (c : BolCmd) : List Byte :=
  beN 1 c.domain ++ beN 4 c.claim ++ beN 2 c.seq ++ beN 1 c.board ++ beN 4 c.mask ++ beN 4 c.out

/-- The 22 octets of a command frame: SYNC, fields, CRC (R463, R464). -/
def bolFrame (c : BolCmd) : List Byte := beN 2 0xAAAB ++ bolFields c ++ beN 4 (crcBolpel (bolFields c))

/-- Octets as bits, most significant first (R462). -/
def bitsOf (l : List Byte) : List Bool := l.flatMap fun b => (upto 8).map fun i => b.getLsbD (7 - i)

/-- Bits as the line carries them (R462): Manchester halves of 50 ns each, a 1 low then high, a 0 high then low. -/
def manchester (l : List Bool) : List Bool := l.flatMap fun b => [!b, b]

/-- A free bus takes the next command (R462, R463, R466). -/
def bolPump (s : State) : State :=
  let b := s.pair.bol
  match b.bus, b.q with
  | none, c :: r =>
    if !bolRuns s || b.echo.isSome then s
    else
      let wait := b.freeAt - s.now
      let c := bolBuild s c
      let s := setBol s { b with bus := some { c with sent := tai s + wait }, q := r, seq := (b.seq + 1) % 65536
                                 line := manchester (bitsOf (bolFrame c)), endDue := s.now + wait + 17600 }
      let s := match c.took with
        | some t => commitWire s c.part t (s.now + wait - max c.passAt b.slotEnd)
        | none => s
      bump s 0x400043 0
  | _, _ => s

/-- A change command joins the queue ahead of the cycle's remaining frames (R466), but behind those an earlier cycle has left over. -/
def bolInsert (c : BolCmd) : List BolCmd → List BolCmd
  | [] => [c]
  | x :: r => if x.cyclic && !x.must then c :: x :: r else x :: bolInsert c r

/-- Queues a change command. -/
def bolQueue (s : State) (c : BolCmd) : State := bolPump (setBol s { s.pair.bol with q := bolInsert c s.pair.bol.q })

/-- A Bolpel request's completion form. -/
def bolDone (s : State) (c : BolCmd) (status readback : Nat) : State :=
  match c.req with
  | none => s
  | some (q, i) => match tabGet (ringOf s q).slots (slotOf s q i) with
    | some (.bolpel r) => entryDone s q i (.bolpelDone r status c.sent readback c.seq)
    | _ => s

/-- A partition's command, so many ns after its commit, before the driver and the Prefect: 0 queued, else the completion's status. -/
def bolCommand (s : State) (p board mask out : Nat) (req : Option (Nat × Nat)) (served : Bool) (took : Option Nat) : Nat × State :=
  if s.pf.blocked && unitOk s 19 then (3, pfRefuse s p 1 board)
  else if !(unitTakes s 19 && bolRuns s) then (6, s)
  else if !((boards s).contains board && s.fn 0x400040 board 1 == domainOf s p) then (4, s)
  else
    let (ok, s) := pfBoard s p board served
    if !ok then (3, s)
    else
      let s := commitPass s p (took.getD 0)
      let x := boardOf s board
      let st := ((x.state ||| mask) ^^^ mask) ||| (out &&& mask)
      let s := setBoard s board { x with state := st }
      (0, bolQueue s { board := board, domain := domainOf s p, mask := mask, out := out, req := req, part := p
                       claim := claimFor s p, seq := 0, sent := 0, took := took, passAt := s.now })

/-- BOLPEL_REQUEST: the driver takes the next request of a ring whose PRODUCER is PORT (R467); it serves no other (entry 70). -/
def execBolpelRequest (dt ring : Nat) (s : State) : Host.Outcome State Fault Refusal :=
  let s := advance dt s
  if !(rType s ring == 2 && rEngine s ring == 3 && rPort s ring && hubLive s) then done s
  else match nextEntry s ring with
    | some (i, .bolpel r) =>
      let (st, s) := bolCommand (takeEntry s ring) (rOwner s ring) r.board r.mask r.out (some (ring, i))
        (servedEntry s ring i) (some (commitTook s ring i))
      if st == 0 then done s
      else done (entryDone s ring i (.bolpelDone r st 0 0 0))
    | some (_, _) => done (takeEntry s ring)
    | none => done s

/-- The cycle's frames: a keepalive for each domain with boards, and a poll of the next board in turn. What an earlier cycle has left over
goes first, before change frames too, so that no load takes a board's frame each 1 ms or its poll each 100 ms away (DESIGN CHOICE, entry
70). -/
def bolCycle (s : State) : State :=
  let bs := boards s
  let doms := (bs.map fun b => s.fn 0x400040 b 1).foldl adjoin []
  let b := s.pair.bol
  let old := (b.q.filter fun c => c.cyclic && (if c.poll then bs.contains c.board else doms.contains c.domain && !domMute s c.domain)).map fun c => { c with must := true }
  let rest := b.q.filter fun c => !c.cyclic
  let ka := ((sortN doms).filter fun d => !domMute s d && !old.any fun c => !c.poll && c.domain == d).map fun d =>
    ({ board := 0xFF, domain := d, mask := 0, out := 0 } : BolCmd)
  match (bs.filter (· ≥ b.poll)) ++ bs with
  | [] => setBol s { b with q := rest }
  | n :: _ =>
    if old.any BolCmd.poll then bolPump (setBol s { b with q := old ++ rest ++ ka })
    else
      let poll : BolCmd := { board := n, domain := s.fn 0x400040 n 1, mask := 0, out := 0, poll := true }
      bolPump (setBol s { b with q := old ++ rest ++ ka ++ [poll], poll := n + 1 })

/-- BOLPEL_CYCLE: every 250 µs (R466). -/
def execBolpelCycle (dt : Nat) (s : State) : Host.Outcome State Fault Refusal :=
  let s := advance dt s
  let b := s.pair.bol
  if s.now < b.due || !bolRuns s || !unitTakes s 19 then done s
  else
    let s := setBol s { b with due := max (b.due + 250000) (s.now + 1) }
    done (bolCycle s)

/-- BOLPEL_FRAME_END: the last bit of the frame on the bus; a frame for one board opens its echo slot (R465). -/
def execBolpelFrameEnd (dt : Nat) (s : State) : Host.Outcome State Fault Refusal :=
  let s := advance dt s
  let b := s.pair.bol
  match b.bus with
  | none => done s
  | some c =>
    if s.now < b.endDue then done s
    else
      let s := setBol s { b with bus := none, line := [] }
      let b := s.pair.bol
      if c.board == 0xFF then done (bolPump (setBol s { b with freeAt := b.endDue + 2000, slotEnd := b.endDue }))
      else done (setBol s { b with echo := some c, echoDue := b.endDue + 20000, freeAt := b.endDue + 20000, slotEnd := b.endDue + 20000 })

/-- Is a configured board not answering. -/
def bolBad (s : State) : Bool := (boards s).any fun b => !(boardOf s b).ok

/-- Judges the Bolpel driver (R476) and bit 6 of the self-test (R472). -/
def judgeBol (s : State) : State := selfBit (judgeUnit s 19 (bolBad s)) 6 (bolBad s)

/-- An echo that failed: counted; the third in a row clears the board's bit (R470). -/
def echoFail (s : State) (n : Nat) : State :=
  let x := boardOf s n
  let s := setBoard (bump s 0x400042 n) n { x with fails := x.fails + 1, ok := x.ok && x.fails + 1 < 3 }
  judgeBol (if x.fails + 1 == 3 then logRec (selfRan s (32 + n)) 0x01C5 (0x80 + 19) (ints [n]) else selfRan s (32 + n))

/-- A claim a board has latched enters the computation of R458. -/
def noteClaim (s : State) (d c : Nat) : State :=
  let s := hearClaim s d c
  let x := claimOf s d
  if d < 64 && c > x.highest then setClaim s d { x with highest := c } else s

/-- The octets of an echo that its CRC covers, in table order (R464, R465). -/
def echoFields (e : Echo) : List Byte :=
  beN 1 e.board ++ beN 1 e.domain ++ beN 4 e.latch ++ beN 2 e.seq ++ beN 4 e.readback ++ beN 1 e.status

/-- BOLPEL_ECHO: the echo of the frame that opened the slot is judged and its request completes (R465, R467, R470). What does not begin
with SYNC is no echo: the slot stays open until its end. -/
def execBolpelEcho (dt : Nat) (e : Echo) (s : State) : Host.Outcome State Fault Refusal :=
  let s := advance dt s
  let b := s.pair.bol
  match b.echo with
  | none => done s
  | some c =>
    if e.sync != 0xAAAB then done s
    else
    let s := setBol s { b with echo := none }
    if !(e.crc == crcBolpel (echoFields e) && e.board == c.board && e.seq == c.seq) then done (bolPump (bolDone (echoFail s c.board) c 7 0))
    else
      let x := boardOf s c.board
      let s := setBoard s c.board { x with latch := e.latch, readback := e.readback, status := e.status, lastEcho := tai s
                                           fails := 0, ok := true }
      let s := judgeBol (selfRan (noteClaim s c.domain e.latch) (32 + c.board))
      done (bolPump (bolDone s c (if bit e.status 3 then 8 else 0) e.readback))

/-- BOLPEL_ECHO_TIMEOUT: 20 µs after the frame without an echo (R467). -/
def execBolpelEchoTimeout (dt : Nat) (s : State) : Host.Outcome State Fault Refusal :=
  let s := advance dt s
  let b := s.pair.bol
  match b.echo with
  | none => done (bolPump s)
  | some c =>
    if s.now < b.echoDue then done s
    else done (bolPump (bolDone (echoFail (setBol s { b with echo := none }) c.board) c 7 0))

/-- The bus stops at once (R98): what is queued or under way completes with NOT_READY (R88). -/
def bolStop (s : State) : State :=
  let b := s.pair.bol
  let cs := b.bus.toList ++ b.echo.toList ++ b.q
  cs.foldl (fun s c => bolDone s c 6 0) (setBol s { b with bus := none, echo := none, q := [], line := [] })

/-- A partition's queued commands are discarded without completion; a frame on the bus is finished (R337). -/
def bolFence (s : State) (p : Nat) : State :=
  let mask (c : BolCmd) : BolCmd := if c.part == p then { c with req := none } else c
  let b := s.pair.bol
  setBol s { b with q := b.q.filter (fun c => c.part != p), bus := b.bus.map mask, echo := b.echo.map mask }

/-- Every board of a domain gets its full output state at the next frame boundary (R459). -/
def bolFull (s : State) (d : Nat) : State :=
  ((boards s).filter fun n => s.fn 0x400040 n 1 == d).foldl (fun s n =>
    bolQueue s { board := n, domain := d, mask := 0, out := 0 }) s

/-! ## Raises (R457 to R459) -/

/-- The highest claim in a latch of a GOOSE subscription that a partition of domain d takes its claim from (R458). -/
def latchHigh (s : State) (d : Nat) : Nat :=
  if s.parts.ps.isEmpty then 0 else maxN ((s.subsOf 0x290100).map fun e =>
    let v := s.val 0x290100 e 0
    if vB v 0 && vB v 10 && vN v 13 < 64 && domainOf s (vN v 13) == d then (latchOf s (vN v 11)).v else 0)

/-- A raise of domain d is granted (R458): its epoch, or CLAIM_SATURATED. -/
def grant (s : State) (d : Nat) : State :=
  let c := claimOf s d
  if c.raising || c.sat then s
  else
    let e := 1 + max c.counter (max c.highest (latchHigh s d) / 256)
    if e > 0xFFFFFF then logRec (setClaim s d { c with sat := true }) 0x01C6 (0x80 + 18) (ints [d])
    else setClaim s d { c with raising := true, raiseTo := e }

/-- CLAIM_RAISE: the vault has written the counter and the new claim is in use (R458, R459). -/
def execClaimRaise (dt d : Nat) (s : State) : Host.Outcome State Fault Refusal :=
  let s := advance dt s
  let c := claimOf s d
  if !c.raising || !hubLive s then done s
  else
    let old := claimNo s d
    let s := setClaim s d { c with raising := false, epoch := c.raiseTo, counter := c.raiseTo, above := none, heard := none, hoPending := false
                                   highest := max c.highest (c.raiseTo * 256 + s.pair.rank)
                                   holding := true, heldAt := if c.holding then c.heldAt else tai s }
    let s := logRec (bump s 0x400023 d) 0x01C1 (0x80 + 18) (ints [d, old, claimNo s d, 0])
    done (gooseClaim (bolFull s d) d)

/-! ## Planned handovers (R460, R461) -/

/-- A planned handover of domain d begins: its row is at least 4 ms ahead and the vault signs the message. -/
def hoStart (s : State) (d sess reqId : Nat) : State :=
  let h := rowFrom s (tai s + 4000000)
  vaultPush (setClaim s d { claimOf s d with handover := some (h, some (s.now + 10000000), sess, reqId), acked := false })
    0 (.handoverSign d)

/-- May a handover of domain d begin. -/
def hoCan (s : State) (d : Nat) : Bool := d < 64 && settled s && s.pair.link && holder s d && (claimOf s d).handover.isNone

/-- The migration path that carries domain d's handover: 0 the IUL, unless its partition migrates over a process-bus port (R460). -/
def hoPath (s : State) (d : Nat) : Nat :=
  maxN (((domParts s d).filter fun p => (partOf s p).st == .frozen || (partOf s p).st == .restoring).map fun p => (partOf s p).mig.path)

/-- HANDOVER: a planned handover of a domain this unit holds; it answers PENDING (R460). -/
def opHandover (s : State) (rq : Req) (d : Nat) : Res :=
  if (claimOf s d).handover.isSome || !vaultRoom s 0 then deny s busyS
  else if !hoCan s d then deny s stateS
  else ⟨hoStart s d rq.sess rq.reqId, pendingS, 0, []⟩

/-- HANDOVER (R460). -/
def execHandover (dt : Nat) (rq : Req) (d : Nat) (s : State) : Host.Outcome State Fault Refusal :=
  done (doExec (advance dt s) rq 0x400021 d fun s => opHandover s rq d)

/-- A handover of this unit ends: its EXEC, when it came from one, completes. -/
def hoEnd (s : State) (d status : Nat) : State :=
  match (claimOf s d).handover with
  | some (_, _, n, r) =>
    let s := setClaim s d { claimOf s d with handover := none }
    if n == 0 then s else execEnd s n r status []
  | none => s

/-- Is a partition of a domain being restored here by a migration: its source hands the claim over with it (R352). -/
def migDest (s : State) (d : Nat) : Bool := (domParts s d).any fun p => (partOf s p).st == .restoring

/-- The address of the module that migration path leads to. -/
def hoPeer (s : State) (d : Nat) : Nat :=
  maxN (((domParts s d).filter fun p => (partOf s p).st == .frozen || (partOf s p).st == .restoring).map fun p => (partOf s p).mig.peer)

/-- A handover message leaves on its path. -/
def hoSend (s : State) (d : Nat) (m : IulMsg) (g : MigMsg) : State :=
  if hoPath s d == 0 then sendIul s m else sendPb s (hoPath s d - 1) (hoPeer s d) g

/-- The partner's HANDOVER, verified by the vault: accepted only when the unit is fit, the domain's partitions are in step or the check
is waived, and no blocking self-test bit is set (R460, R475). -/
def hoJudge (s : State) (d claim row : Nat) (tagOk : Bool) : State :=
  let ok := tagOk && d < 64 && (migDest s d || fit s d && (s.vb 0x400022 d || domInStep s d))
    && !s.pair.selfFail.any (bit (s.vn 0x400017 0) ·)
  let s := if ok then logRec (setClaim s d { claimOf s d with hoIn := some row }) 0x01C2 (0x80 + 18) (ints [d, claim, row, 1]) else s
  hoSend s d (.handoverAck d ok) (.handoverAck d ok)

/-- HANDOVER_RX: the vault verifies the message's tag, in its class's turn (R460, R484). -/
def execHandoverRx (dt d claim row : Nat) (tagOk : Bool) (s : State) : Host.Outcome State Fault Refusal :=
  let s := advance dt s
  if !hubLive s || !settled s || d ≥ 64 || !vaultRoom s 0 then done s
  else done (vaultPush s 0 (.handoverVerify d claim row tagOk))

/-- The answer to a handover: accepted, it waits for its row; refused, it answers STATE (R460). -/
def hoAnswer (s : State) (d : Nat) (accepted : Bool) : State :=
  let c := claimOf s d
  match c.handover with
  | none => s
  | some (h, _, n, r) =>
    if c.acked then s
    else if !accepted then hoEnd s d stateS
    else
      let s := setClaim s d { c with handover := some (h, none, 0, 0), acked := true }
      let s := logRec s 0x01C2 (0x80 + 18) (ints [d, claimNo s d, h, 0])
      if n == 0 then s else execEnd s n r okS []

/-- HANDOVER_ACK (R460). -/
def execHandoverAck (dt d : Nat) (accepted : Bool) (s : State) : Host.Outcome State Fault Refusal :=
  done (hoAnswer (advance dt s) d accepted)

/-- HANDOVER_ACK_TIMEOUT: a handover not acknowledged within 10 ms is dropped (R460). -/
def execHandoverAckTimeout (dt d : Nat) (s : State) : Host.Outcome State Fault Refusal :=
  let s := advance dt s
  match (claimOf s d).handover with
  | some (_, lim, _, _) => if dueBy s lim then done (hoEnd s d stateS) else done s
  | none => done s

/-- Handovers whose row r has come: the partner's side raises, the holder's side flags its beacons (R457, R460). -/
def hoRow (s : State) (r : Nat) : State :=
  (s.pair.claims.map Prod.fst).foldl (fun s d =>
    let s := match (claimOf s d).hoIn with
      | some h => if r ≥ h && !migDest s d && fit s d then grant (setClaim s d { claimOf s d with hoIn := none }) d else s
      | none => s
    match (claimOf s d).handover with
    | some (h, none, _, _) => if r ≥ h then setClaim s d { claimOf s d with handover := none, acked := false, hoPending := true } else s
    | _ => s) s

/-- Handovers a unit starts by itself (R461): isolated from the process bus while the partner is fit, or rebalancing. -/
def hoAuto (s : State) (d : Nat) : State :=
  if !(hoCan s d && vaultRoom s 0) then s
  else if fitBut s d && !pbOk s && partnerBit s 0x28 d then hoStart s d 0 0
  else if fit s d && s.vb 0x40000A 0 && bit (s.vn 0x400009 0) d != s.pair.unitB && domInStep s d then hoStart s d 0 0
  else s

/-! ## The takeover rule (R457) -/

/-- The takeover rule for one domain (R457): a planned handover whose row has come; a claim above the unit's own that was last beaconed a
claim window ago; or one never beaconed to it but seen, in an echo or a latch, within the window, when the unit has been fit for a window. -/
def takeover (s : State) (d : Nat) : State :=
  let c := claimOf s d
  let f := fit s d
  let s := if f == c.fitSince.isSome then s else setClaim s d { c with fitSince := if f then some s.now else none }
  let s := hoAuto s d
  if !f then judgeHolder s d
  else if (claimOf s d).hoIn.any (· ≤ s.plan.lastReleased) && !migDest s d then
    judgeHolder (grant (setClaim s d { claimOf s d with hoIn := none }) d) d
  else
    let t := match c.above with
      | some t => some t
      | none => if holder s d then none else (claimOf s d).fitSince
    judgeHolder (if t.any fun t => t + s.vn 0x400006 0 ≤ s.now then grant s d else s) d

/-- TAKEOVER_EVAL: every 100 µs, for each domain (R457, R461). -/
def execTakeoverEval (dt : Nat) (s : State) : Host.Outcome State Fault Refusal :=
  let s := advance dt s
  if s.now < s.pair.evalDue || !hubLive s then done s
  else
    let s := { s with pair := { s.pair with evalDue := s.now + 100000 } }
    done ((domains s).foldl takeover s)

/-- ISOLATION_TIME_EXPIRY: no process-bus link has been up for ISOLATION_TIME, so the unit is fit for no domain (R454, R461). -/
def execIsolationTimeExpiry (dt : Nat) (s : State) : Host.Outcome State Fault Refusal :=
  let s := advance dt s
  if pbOk s || !hubLive s then done s else done ((domains s).foldl takeover s)

/-! ## Beacons (R455, R456) -/

/-- The beacon for one path; without a usable key it has no entries and does not verify (R506). -/
def beaconFor (s : State) (seq : Nat) : Beacon :=
  let ds := if beaconKey s then (domains s).filter (fit s) else []
  { unitB := s.pair.unitB, pairId := s.vn 0x400002 0, boot := s.ctr 0x010011 0, seq := seq, time := tai s
    entries := ds.map fun d => (d, (claimOf s d).hoPending, claimNo s d), tagOk := beaconKey s }

/-- A beacon's TAG: the HMAC-SHA256 of its octets with the pair's beacon key, truncated (R455). -/
def beaconTag (s : State) (l : List Byte) : List Byte :=
  match beaconEntryOf s with
  | some i => (hmac256 (tabGetD s.vault.tkeys i {}).key l).take 16
  | none => leN 16 (Config.beaconTag l).toNat

/-- A beacon's octets as R455 lays them out, its TAG the last 16. -/
def beaconBytes (s : State) (b : Beacon) : List Byte :=
  let l := leN 2 0x5A4C ++ leN 1 1 ++ leN 1 (b2n b.unitB) ++ leN 4 b.pairId ++ leN 4 b.boot ++ leN 4 b.seq ++ leN 8 (b.time % 2 ^ 64).toNat ++
    leN 1 b.entries.length ++ leN 7 0 ++ b.entries.flatMap fun (d, h, c) => leN 1 d ++ leN 1 (b2n h) ++ leN 2 0 ++ leN 4 c
  l ++ beaconTag s l

/-- The frame of a beacon. -/
def beaconFrame (s : State) (b : Beacon) : BcnFrame :=
  { dst := ofBe (vO (s.val 0x400007 0 0) 0), vid := s.vn 0x400008 0, b := b, bytes := beaconBytes s b }

/-- Sends the beacon of one path: a process-bus port, or 8 the IUL. -/
def beaconSend (s : State) (path : Nat) : State :=
  let seq := tabGetD s.pair.bcnSeq path 0 % 4294967295 + 1
  let b := beaconFor s seq
  let s := { s with pair := { s.pair with bcnSeq := tabPut s.pair.bcnSeq path seq
                                          bcnOut := (s.pair.bcnOut.filter fun (n, _) => n != path) ++ [(path, b)] } }
  let f := beaconFrame s b
  if path == 8 then sendIul s (.beacon f) else sendOne s path 7 (max 64 (18 + (if f.vid == 0 then 0 else 4) + f.bytes.length)) (.beacon f)

/-- BEACON_TX: every 1 ms on every process-bus port that is up and on the IUL, in OPERATIONAL while the Prefect permits (R93, R98,
R455). -/
def execBeaconTx (dt : Nat) (s : State) : Host.Outcome State Fault Refusal :=
  let s := advance dt s
  if s.now < s.pair.bcnDue || !hubLive s || life s != 2 || s.pf.beaconsOff || s.pf.blocked then done s
  else
    let s := { s with pair := { s.pair with bcnDue := s.now + 950000 } }
    let paths := [0, 1, 2, 3].filter (linkUp s) ++ (if pairOn s && !(lanesUp s).isEmpty then [8] else [])
    done (paths.foldl beaconSend s)

/-- One entry of a valid beacon. -/
def beaconEntry (s : State) (d c : Nat) : State :=
  if d ≥ 64 then s
  else
    let x := claimOf s d
    let above := c > claimNo s d
    judgeHolder (setClaim s d { x with
      seen := some (c, s.now)
      heard := if above then some s.now else x.heard
      above := if above then some s.now else x.above
      highest := max x.highest c
      hoPending := x.hoPending && !above
      lastTime := tai s }) d

/-- A received beacon (R456); `path` is the process-bus port, or 8 for the IUL. -/
def beaconRx (s : State) (path : Nat) (b : Beacon) : State :=
  let newer := b.boot > s.pair.bootSeen
  let ok := b.tagOk && beaconKey s && b.pairId == s.vn 0x400002 0 && b.unitB != s.pair.unitB &&
    (newer || (b.boot == s.pair.bootSeen && b.seq > tabGetD s.pair.seqSeen path 0))
  if !ok then bump s 0x400035 0
  else
    let seqs := if newer then [(path, b.seq)] else tabPut s.pair.seqSeen path b.seq
    let s := { s with pair := { s.pair with bootSeen := b.boot, seqSeen := seqs } }
    b.entries.foldl (fun s (d, _, c) => beaconEntry s d c) s

end Sys2Proof.Machine
end

