-- ==== Sys2Proof/Machine/Cond.lean ====
section
/-! DEFINITION. The conditioning pipeline and the row images (R26, R263 to R266, R273 to R295, R564). -/

namespace Sys2Proof.Machine

/-! ## Banks and profiles -/

/-- A bank's state set. -/
def setBank (s : State) (b st : Nat) : State := { s with cond := { s.cond with banks := tabPut s.cond.banks b st } }

/-- A profile's run-time state set. -/
def setProf (s : State) (p : Nat) (x : Profile) : State := { s with cond := { s.cond with profiles := tabPut s.cond.profiles p x } }

/-- GD_NS of a bank. -/
def bGd (s : State) (b : Nat) : Nat := s.fn 0x240011 b 4
/-- D1 of a profile. -/
def pD1 (s : State) (p : Nat) : Nat := s.fn 0x240010 p 0
/-- D1 × D2 of a profile. -/
def pD (s : State) (p : Nat) : Nat := s.fn 0x240010 p 0 * s.fn 0x240010 p 1

/-- Coefficients of a bank from row `base`, n of them. -/
def bCoef (s : State) (b base n : Nat) : List Int := (upto n).map fun i => vI (s.val 0x240012 b (base + i)) 0

/-! ## Groups -/

/-- A group's standing output. -/
def gOut (s : State) (g : Nat) : GOut := tabGetD s.cond.outs g {}

/-- A group's standing output set. -/
def setOut (s : State) (g : Nat) (x : GOut) : State := { s with cond := { s.cond with outs := tabPut s.cond.outs g x } }

/-- The key of a seat channel. -/
def chKey (e c : Nat) : Nat := e * 256 + c

/-- A group channel: a seat channel, and how many places before it in the group's list name the same one. -/
structure GChan where
  e : Nat
  c : Nat
  again : Nat
  deriving DecidableEq, Repr

/-- The channels of a list, in order. -/
def gPlaces (l : List (Nat × Nat)) : List GChan :=
  (upto l.length).map fun i => let x := nth l i (0, 0); ⟨x.1, x.2, (l.take i).count x⟩

/-- The key of a stage-2 history: bank side and group channel (R277). -/
def h2Key (side g : Nat) (x : GChan) : Nat := ((side * 256 + x.again) * 256 + g) * 16777216 + chKey x.e x.c

/-- The bank side, the group and the channel that a key of a stage-2 history names. -/
def h2Side (k : Nat) : Nat := k / 1099511627776
def h2Group (k : Nat) : Nat := k / 16777216 % 256
def h2Chan (k : Nat) : GChan := ⟨k % 16777216 / 256, k % 256, k / 4294967296 % 256⟩

/-- An input history. -/
def histOf (s : State) (e c : Nat) : List VQ := tabGetD s.cond.hist (chKey e c) []

/-! ## Load (R277, R279) -/

/-! ## One stage (R263 to R265, R274, R275) -/

/-- A stage output: value, quality, and whether it saturated. `xs` is the support, newest first; what is missing is restarted. -/
def stageOut (h : List Int) (xs : List VQ) (sh : Nat) : VQ × Bool :=
  let sup := (upto h.length).map fun k => nth xs k {}
  let (v, k) := macOut h (sup.map (·.v)) sh
  let q := sup.foldl (fun a x => mergeQ a x.q) 0
  (⟨v, if k then q ||| qSat else q, sup.any (·.r)⟩, k)

/-- Stage 1 of one channel of a group under a bank at row r: its output where r has one, which enters the stage-2 history of a bank
with a stage 2. -/
def chanStage1 (s : State) (g p b r : Nat) (x : GChan) : State × Option VQ :=
  if r % max 1 (pD1 s p) != 0 then (s, none)
  else
    let (y, k) := stageOut (bCoef s b 0 (bN1 s b)) (histOf s x.e x.c) (s.fn 0x240011 b 2)
    let s := if k then bump s 0x24001A p else s
    let key := h2Key (b % 2) g x
    (if bN2 s b == 0 then s
     else { s with cond := { s.cond with hist2 := tabPut s.cond.hist2 key ((y :: tabGetD s.cond.hist2 key []).take 512) } }, some y)

/-- The output of one channel of a group under a bank at row r, where r produces one. -/
def chanOut (s : State) (g p b r : Nat) (x : GChan) : State × Option VQ :=
  let (s, y) := chanStage1 s g p b r x
  if r % max 1 (pD s p) != 0 then (s, none)
  else if bN2 s b == 0 then (s, y)
  else
    let (y2, k) := stageOut (bCoef s b 256 (bN2 s b)) (tabGetD s.cond.hist2 (h2Key (b % 2) g x) []) (s.fn 0x240011 b 3)
    (if k then bump s 0x24001A p else s, some y2)

/-- The k-th output of a fade of x (R284). -/
def fadeOut (o n : VQ) (k x : Nat) : VQ :=
  ⟨divRound (o.v * ((x : Int) - k) + n.v * k) x, mergeQ o.q n.q, o.r || n.r⟩

/-- The output of one channel with everything its profile runs: the active bank, the shadow of the new bank's stage 1 (R282) or the fade. -/
def chanRun (s : State) (g p r : Nat) (ch : GChan) : State × Option VQ :=
  let x := profOf s p
  let (s, y) := chanOut s g p (actBank s p) r ch
  if x.st == 0 then (s, y)
  else if x.st == 1 then (if bN2 s (othBank s p) == 0 then (s, y) else ((chanStage1 s g p (othBank s p) r ch).1, y))
  else
    let (s, z) := chanOut s g p (othBank s p) r ch
    (s, match y, z with
      | some a, some b => some (fadeOut a b ((r - x.swapRow) / max 1 (pD s p) + 1) x.x)
      | _, _ => none)

/-- A group at row r. -/
def groupRow (s : State) (swapped : List Nat) (r g : Nat) : State :=
  let p := gProf s g
  let chans := gChans s g
  let (s, ys) := (gPlaces chans).foldl (fun (acc : State × List (Option VQ)) x =>
    let (s, y) := chanRun acc.1 g p r x
    (s, acc.2 ++ [y])) (s, [])
  let o := gOut s g
  let fresh := r % max 1 (pD s p) == 0
  let vals := if fresh then ys.map (·.getD {}) else (upto chans.length).map fun i => nth o.vals i {}
  setOut s g { o with vals := vals, fresh := fresh, prod := if fresh then r else o.prod
                      xfade := (profOf s p).st == 2, swapped := swapped.contains p
                      restarted := vals.any (·.r) }

/-! ## Restarts (R278) -/

/-- The stage-2 histories of one bank of a profile are freed. -/
def freeH2 (s : State) (p side : Nat) : State :=
  let gs := (groups s).filter fun g => gProf s g == p
  { s with cond := { s.cond with hist2 := s.cond.hist2.filter fun (k, _) =>
      !(h2Side k == side && gs.contains (h2Group k)) } }

/-- A fade ends by a restart: the new bank continues alone. -/
def fadeEnd (s : State) (p : Nat) : State :=
  let x := profOf s p
  let s := freeH2 (setBank (setBank s (actBank s p) 2) (othBank s p) 4) p x.active
  logRec (setProf s p { x with st := 0, active := 1 - x.active }) 0x0170 (0x80 + 9) (ints [p, 2, x.swapRow])

/-- Histories that feed the channels of group g a test names restart at row r: the restart's value replaces the standing output of each
(R274), the restart is counted, and a fade of the group's profile ends. -/
def groupRestart (s : State) (r g : Nat) (which : GChan → Bool) : State :=
  let chans := gPlaces (gChans s g)
  if !chans.any which then s
  else
    let o := gOut s g
    let vals := (upto chans.length).map fun i => if (chans[i]?).any which then {} else nth o.vals i {}
    let s := bump (setOut s g { o with vals := vals, fresh := false, restarted := true, prod := r, since := r }) 0x240022 g
    if (profOf s (gProf s g)).st == 2 then fadeEnd s (gProf s g) else s

/-- The stage-2 histories of group g for the channels a test names are emptied. -/
def emptyH2 (s : State) (g : Nat) (which : GChan → Bool) : State :=
  { s with cond := { s.cond with hist2 := s.cond.hist2.filter fun (k, _) =>
      !(h2Group k == g && which (h2Chan k)) } }

/-- Every history restarts at row r; a fade ends. -/
def restartAll (s : State) (r : Nat) : State :=
  let s := { s with cond := { s.cond with hist := [], hist2 := [], restart := false } }
  let s := (groups s).foldl (fun s g => groupRestart s r g fun _ => true) s
  s.cond.profiles.foldl (fun s (p, x) => if x.st == 2 then fadeEnd s p else s) s

/-- An input history with an uncorrectable ECC error restarts: every group that names its channel is marked. -/
def eccInput (r : Nat) (s : State) (k : Nat) : State :=
  let s := logRec { s with cond := { s.cond with hist := tabDel s.cond.hist k } } 0x0172 (0x80 + 9) (ints [0, k / 256, k % 256])
  (groups s).foldl (fun s g => groupRestart s r g fun x => chKey x.e x.c == k) s

/-- A stage-2 history with an uncorrectable ECC error restarts; one that a shadow fills for an armed swap feeds no output yet. -/
def eccStage2 (r : Nat) (s : State) (k : Nat) : State :=
  let s := logRec { s with cond := { s.cond with hist2 := tabDel s.cond.hist2 k } } 0x0172 (0x80 + 9)
    (ints [1, k % 16777216 / 256, k % 256, k / 16777216 % 256])
  let g := h2Group k
  if (profOf s (gProf s g)).st == 1 && h2Side k == othBank s (gProf s g) % 2 then bump s 0x240022 g
  else groupRestart s r g (· == h2Chan k)

/-- The histories that show an uncorrectable ECC error as row r is conditioned restart (R278); which do is free (log entry 95). -/
def eccRow (s : State) (r : Nat) : State :=
  let one := (s.cond.hist.map Prod.fst).filter (Config.histEcc s.now 0)
  let two := (s.cond.hist2.map Prod.fst).filter (Config.histEcc s.now 1)
  two.foldl (eccStage2 r) (one.foldl (eccInput r) s)

/-! ## Swaps (R282 to R285) -/

/-- CONFIG_SEQ of every partition whose map names a group of profile p moves on (R288). -/
def bankSeq (s : State) (p : Nat) : State :=
  (upto 64).foldl (fun s t =>
    if (s.rows 0x240030 t).any fun v => vN v 0 == 1 && s.fb 0x240020 (vN v 1) 0 && gProf s (vN v 1) == p then
      let x := tabGetD s.cond.imgs t {}
      { s with cond := { s.cond with imgs := tabPut s.cond.imgs t { x with configSeq := (x.configSeq + 1) % 65536 } } }
    else s) s

/-- The profile of an armed or fading swap at row r: the state after, and whether it stepped here. -/
def profRow (s : State) (r p : Nat) : State × Bool :=
  let x := profOf s p
  let d := max 1 (pD s p)
  if x.st == 1 && r ≥ x.swapRow then
    if r > x.swapRow || !x.fade || bGd s (actBank s p) == bGd s (othBank s p) then
      let s := freeH2 (setBank (setBank s (actBank s p) 2) (othBank s p) 4) p x.active
      let s := setProf s p { x with st := 0, active := 1 - x.active }
      (bankSeq (logRec s 0x0170 (0x80 + 9) (ints [p, 1, x.swapRow])) p, true)
    else
      let s := setBank (setBank s (actBank s p) 7) (othBank s p) 6
      (bankSeq (logRec (setProf s p { x with st := 2 }) 0x0170 (0x80 + 9) (ints [p, 1, x.swapRow])) p, false)
  else if x.st == 2 && (r - x.swapRow) / d ≥ x.x then (fadeEnd s p, false)
  else (s, false)

/-- May a swap be accepted (R282): OK, STATE, RANGE or QUOTA. -/
def swapCheck (s : State) (p row mode x : Nat) : Nat :=
  let o := othBank s p
  let pre := if bN2 s o != 0 then bN2 s o * pD1 s p else 0
  let armed := setProf s p { profOf s p with st := 1 }
  let fading := setProf s p { profOf s p with st := 2 }
  if (profOf s p).st != 0 || bankSt s o != 2 then stateS
  else if row % max 1 (pD s p) != 0 || x < 1 || x > 4096 || mode > 1 || row < curRow s + ceilDiv (baseHz s) 1000 + pre then rangeS
  else if max (condLoad armed) (condLoad fading) > condBudget s || histUsed armed > 8192 then quotaS
  else okS

/-- A swap is armed. -/
def swapApply (s : State) (p row mode x : Nat) : State :=
  let o := othBank s p
  let s := setProf (setBank s o 5) p { profOf s p with st := 1, swapRow := row, fade := mode == 0, x := x }
  logRec s 0x0170 (0x80 + 9) (ints [p, 0, row])

/-- PROFILE_DISARM (R285). -/
def disarmCheck (s : State) (p : Nat) : Nat := if (profOf s p).st == 1 then okS else stateS

/-- An armed swap is withdrawn; the shadow's histories are freed. -/
def disarmApply (s : State) (p : Nat) : State :=
  freeH2 (setProf (setBank s (othBank s p) 2) p { profOf s p with st := 0 }) p (1 - (profOf s p).active)

/-! ## Banks written and sealed (R273, R281, R286) -/

/-- May a bank be written. -/
def bankWritable (s : State) (b : Nat) : Bool := bankSt s b < 4

/-- A write of BANK_HEADER or BANK_COEF. -/
def putBank (s : State) (ob sub row : Nat) (v : Val) : Res :=
  if !bankWritable s sub then deny s stateS else good (setBank (s.put ob sub row v) sub 1)

/-- The octets a bank's CRC covers. -/
def bankBytes (s : State) (b : Nat) : List Byte :=
  leN 2 (bN1 s b) ++ leN 2 (bN2 s b) ++ leN 1 (s.fn 0x240011 b 2) ++ leN 1 (s.fn 0x240011 b 3) ++ leN 4 (bGd s b) ++
    (bCoef s b 0 (bN1 s b)).flatMap (leI 4) ++ (bCoef s b 256 (bN2 s b)).flatMap (leI 4)

/-- The header's checks of R273 and R286. -/
def bankOk (s : State) (b : Nat) : Bool :=
  let p := b / 2
  let n1 := bN1 s b
  let n2 := bN2 s b
  let span := (n1 - 1) + pD1 s p * (n2 - 1)
  1 ≤ n1 && n1 ≤ 256 && n2 ≤ 512 && (n2 != 0 || s.fn 0x240010 p 1 == 1) && s.fn 0x240011 b 2 ≤ 47 && s.fn 0x240011 b 3 ≤ 47 &&
    bGd s b ≤ (2 * span * 1000000000 + baseHz s) / (2 * baseHz s)

/-- BANK_SEAL: OK, RANGE or STATE. -/
def sealCheck (s : State) (b : Nat) : Nat :=
  if !bankWritable s b then stateS
  else if bankOk s b && crc32c (bankBytes s b) == s.fn 0x240011 b 5 then okS else rangeS

/-- The bank sealed, or found bad. -/
def sealApply (s : State) (b : Nat) : State :=
  if !bankWritable s b then s else setBank s b (if sealCheck s b == okS then 2 else 3)

/-! ## Row images (R288 to R293) -/

/-- The conditioning unit works. -/
def condUp (s : State) : Bool := unitOk s 9

/-- A seat unit as an image carries it (R236). -/
def seatUnit (s : State) (r e i : Nat) (x : Seat) : List Byte :=
  let filled := x.filled
  unitBytes x i ++ leN 2 (if filled then r % baseHz s else x.smpCnt) ++ leN 2 e ++ leN 2 (vN (subOf s r e) 17) ++ leN 1 (seatFlags x) ++
    leN 1 (if filled then 0xFF else x.synch) ++ leN 4 (if filled then 0 else x.rxNs) ++ leN 1 x.subst ++ leN 1 x.state ++ leN 1 i ++ leN 1 0

/-- A seat item. -/
def seatItem (s : State) (r e : Nat) : List Byte :=
  let x := tabGetD (planRow s r).seats e {}
  (upto (subUnits (subOf s r e))).flatMap fun i => seatUnit s r e i x

/-- GFLAGS of a group; `dn`: the row carries no conditioned values (R293). -/
def gFlags (s : State) (dn : Bool) (g : Nat) : Nat :=
  let o := gOut s g
  if dn then 32
  else b2n o.fresh + 2 * b2n o.xfade + 4 * b2n o.swapped + 8 * b2n (o.vals.any fun x => bit x.q 30) + 16 * b2n o.restarted

/-- The bank a group block names: the new one during a fade. -/
def gBank (s : State) (g : Nat) : Nat :=
  let x := profOf s (gProf s g)
  if x.st == 2 then 1 - x.active else x.active

/-- A group item at row r. -/
def groupItem (s : State) (r : Nat) (dn : Bool) (g : Nat) : List Byte :=
  let p := gProf s g
  let n := if s.fb 0x240020 g 0 then (gChans s g).length else 0
  let o := gOut s g
  let vs := (upto n).map fun i => if dn then {} else nth o.vals i {}
  leN 1 g ++ leN 1 p ++ leN 1 (gBank s g) ++ leN 1 (gFlags s dn g) ++ leN 2 n ++ leN 2 (min (r - o.prod) 65535) ++ leN 4 (bGd s (2 * p + gBank s g)) ++
    leN 1 (pD s p) ++ zeros 3 ++ vs.flatMap fun x => leI 4 x.v ++ leN 4 x.q

/-- The entries an image shows or that feed its groups. -/
def imgFeeds (s : State) (t : Nat) : List Nat :=
  ((imgMap s t).flatMap fun (k, i) => if k == 0 then [i] else (gChans s i).map Prod.fst).foldl adjoin []

/-- An image's run-time state. -/
def imgOf (s : State) (t : Nat) : ImgSt := tabGetD s.cond.imgs t {}

/-- An image's run-time state set. -/
def setImg (s : State) (t : Nat) (x : ImgSt) : State := { s with cond := { s.cond with imgs := tabPut s.cond.imgs t x } }

/-- FLAGS of an image. -/
def imgFlags (s : State) (r t subst : Nat) (disp dn : Bool) : Nat :=
  let row := planRow s r
  let gs := (imgMap s t).filterMap fun (k, i) => if k == 1 then some (gFlags s dn i) else none
  row.tq + 4 * b2n row.stepped + 8 * b2n row.gapped + 16 * b2n row.uneq + 32 * b2n (subst != 0) + 64 * b2n ((imgOf s t).missed != 0) +
    128 * b2n row.late + 256 * b2n (imgOf s t).latePrev + 512 * b2n (gs.any (bit · 1)) + 1024 * b2n (gs.any (bit · 2)) +
    2048 * b2n (gs.any (bit · 5)) + 4096 * b2n disp

/-- An image not written (R292). -/
def imgMiss (s : State) (r t : Nat) : State :=
  let x := imgOf s t
  let s := if x.missed == 0 then logRec s 0x0173 (0x80 + 8) (ints [t, r]) else s
  let s := bump s 0x240034 t
  setImg s t { x with missed := min (x.missed + 1) 4294967295, full := true
                      cfMissed := min (x.cfMissed + 1) 2147483647, cfSat := x.cfSat || x.cfMissed == 2147483647 }

/-- A partition's image of row r: its row-ring entry, whose body address is still open, and its body. -/
def imgBuild (s : State) (r t : Nat) (dn : Bool) : Entry × List Byte :=
  let row := planRow s r
  let feeds := (imgFeeds s t).map fun e => tabGetD row.seats e {}
  let filled := feeds.filter (·.filled)
  let lost := (filled.filter fun x => x.state == 3).length
  let disp := feeds.any fun x => x.quality.any fun q => bit q 27
  let flags := imgFlags s r t filled.length disp dn
  let body := (imgMap s t).flatMap fun (k, i) => if k == 0 then seatItem s r i else groupItem s r dn i
  let x := imgOf s t
  (.image r flags filled.length lost x.missed 0 body.length (imgMap s t).length x.configSeq row.wSteps (s.vn 0x210001 0) s.tm.ns
    (rowTime s r) row.relTime, body)

/-- An image is written to the body area and its entry posted to the row ring (R291). -/
def imgPlace (s : State) (r t : Nat) (e : Entry) (body : List Byte) : State :=
  let q := s.fn 0x240031 t 0
  let addr := s.fn 0x240031 t 1 + slotOf s q (ringOf s q).prod * ((imgBytes s t + 63) / 64 * 64)
  let e := match e with
    | .image a b c d f _ h i j k l m n o => .image a b c d f addr h i j k l m n o
    | x => x
  let s := memWrite s t addr body
  let s := setImg (digClose s t (lastImg s t)) t { imgOf s t with missed := 0, full := false, lastRow := r, latePrev := false }
  let s := if (partOf s t).resume.isSome then s else setPart s t { partOf s t with resume := some r }
  ringPost (bump s 0x240033 t) q e r

/-- One partition's image of row r: written, missed, or placed in the journal of an import (R292, R451). The rows of a blackout have none:
the source counts them when it runs on after an abort, the destination carries their number (R351, R354). -/
def imgRow (s : State) (r : Nat) (dn : Bool) (t : Nat) : State :=
  let q := s.fn 0x240031 t 0
  if q ≥ 256 then s
  else if (partOf s t).mig.st == 5 && !(partOf s t).mig.import_ && r < (partOf s t).mig.rowR then s
  else if (partOf s t).st == .frozen && (partOf s t).fence.isSome then s
  else if ((partOf s t).st == .frozen || ((partOf s t).mig.st == 6 && r < (partOf s t).mig.rowR)) && r ≥ (partOf s t).mig.rowF then setImg s t { imgOf s t with missed := min ((imgOf s t).missed + 1) 4294967295 }
  else if (partOf s t).st == .restoring && (partOf s t).mig.import_ then
    let (e, body) := imgBuild s r t dn
    setPart s t { partOf s t with journal := lastN ((partOf s t).journal ++ [(r, e, body)]) 64 }
  else if pst s t != .running && (partOf s t).st != .frozen then s
  else if rSpace s q == 0 then imgMiss s r t
  else
    let (e, body) := imgBuild s r t dn
    imgPlace s r t e body

/-- Every partition's image of row r. -/
def imgAll (s : State) (r : Nat) (dn : Bool) : State := (created s).foldl (fun s t => imgRow s r dn t) s

/-! ## One row -/

/-- The values of row r enter the input histories of every channel that belongs to a group. -/
def histPush (s : State) (r : Nat) : State :=
  let chans := ((groups s).flatMap (gChans s)).foldl (fun l x => if l.contains x then l else l ++ [x]) []
  let row := planRow s r
  { s with cond := { s.cond with hist := chans.foldl (fun t (e, c) =>
      let x := tabGetD row.seats e {}
      let y : VQ := ⟨nth x.values c 0, nth x.quality c qNone, false⟩
      tabPut t (chKey e c) ((y :: tabGetD t (chKey e c) []).take 512)) s.cond.hist } }

/-! ## Self-test and roll call (R294, R295) -/

/-- Judges the conditioning unit by its failed arrays. -/
def judgeCond (s : State) : State :=
  let n := s.cond.failed.length
  if !unitOk s 9 then s else setUnit s 9 (if n == 0 then .ready else if n == 1 then .degraded else .fault)

/-- A second consecutive failure of an array. -/
def arrayFail (s : State) (a : Nat) : State :=
  let s := { s with cond := { s.cond with failed := s.cond.failed ++ [a], failOnce := without s.cond.failOnce a } }
  judgeCond (selfBit (logRec s 0x0171 (0x80 + 9) (ints [a])) 3 true)

/-- The counters Cond clears (R30). -/
def opCondReset (s : State) : Res :=
  good (clearCtrs (clearCtrs s 0x240004 0x240006 none) 0x24001A 0x240110 none)

/-- COND_COUNTERS_RESET: clears the counters of area 24 (R30). -/
def execCondCountersReset (dt : Nat) (rq : Req) (s : State) : Host.Outcome State Fault Refusal :=
  done (doExec (advance dt s) rq 0x240200 0 opCondReset)

/-- A group whose channels or profile a commit changed, or that it added (R278). The outputs of the channels that stay stand; an added
channel has the restart's output. A stage-2 history restarts where the group's active bank has a stage 2, for every channel of a new or
changed profile and for an added channel; the input history of an added channel is new where no group named the channel before. -/
def groupCommit (o s : State) (r g : Nat) : State :=
  let two := bN2 s (actBank s (gProf s g)) != 0
  let moved := !o.fb 0x240020 g 0 || gProf o g != gProf s g
  let was := if o.fb 0x240020 g 0 then gPlaces (gChans o g) else []
  let used := (groups o).flatMap (gChans o)
  let prev := gOut s g
  let now := gPlaces (gChans s g)
  let added := now.any fun x => !was.contains x
  let vals := now.map fun x => if was.contains x then nth prev.vals (was.findIdx (· == x)) {} else {}
  let prev := if o.fb 0x240020 g 0 then prev else { prev with since := r }
  let s := setOut s g (if added then { prev with vals := vals, fresh := false, restarted := true, prod := r } else { prev with vals := vals })
  let hit (x : GChan) : Bool := moved || !was.contains x
  groupRestart (emptyH2 s g hit) r g fun x => (two && hit x) || !used.contains (x.e, x.c)

/-- What a commit changes here at row r (R277, R278, R288): `o` is the state before the commit, s the state with its values. -/
def condCommit (o s : State) (r : Nat) : State :=
  let s := if s.vn 0x210001 0 != o.vn 0x210001 0 then { s with cond := { s.cond with restart := true } } else s
  let gs := (groups o ++ groups s).foldl adjoin []
  let s := gs.foldl (fun s g =>
    if !s.fb 0x240020 g 0 then
      { s with cond := { s.cond with outs := tabDel s.cond.outs g
                                     hist2 := s.cond.hist2.filter fun (k, _) => h2Group k != g } }
    else if !o.fb 0x240020 g 0 || gProf o g != gProf s g || gChans s g != gChans o g then groupCommit o s r g
    else s) s
  let used := (groups s).flatMap (gChans s)
  let s := { s with cond := { s.cond with hist := s.cond.hist.filter fun (k, _) => used.contains (k / 256, k % 256) } }
  (upto 64).foldl (fun s t =>
    if imgMap s t == imgMap o t && s.val 0x240031 t 0 == o.val 0x240031 t 0 &&
        (imgMap s t).all (fun (k, g) => k == 0 || gProf s g == gProf o g) then s
    else setImg s t { imgOf s t with configSeq := ((imgOf s t).configSeq + 1) % 65536 }) s

/-- Conditioning of row r under its configuration. -/
def condRow1 (s : State) (r : Nat) : State :=
  let s := eccRow (if (planRow s r).gapped || s.cond.restart then restartAll s r else s) r
  let (s, sw) := (s.cond.profiles.map Prod.fst).foldl (fun (acc : State × List Nat) p =>
    let (s, b) := profRow acc.1 r p
    (s, if b then acc.2 ++ [p] else acc.2)) (s, [])
  (groups s).foldl (fun s g => groupRow s sw r g) (histPush s r)

/-- The commits whose row the pipeline has reached take their effect on it, in order. -/
def cfgCatch : Nat → State → Nat → State
  | 0, s, _ => s
  | n + 1, s, r =>
    match s.cond.oldCfg with
    | [] => s
    | (c, _) :: rest =>
      if r < c then s
      else
        let t := { s with cond := { s.cond with oldCfg := rest } }
        cfgCatch n { condCommit (rowCfg s (c - 1)) (rowCfg t c) r with store := s.store } r

/-- Conditioning of row r. -/
def condRow (s : State) (r : Nat) : State :=
  rowView (cfgCatch s.cond.oldCfg.length s r) r fun s => condRow1 s r

end Sys2Proof.Machine
end

