-- ==== Sys2Proof/Machine/Tt.lean ====
section
/-! DEFINITION. The timetable's operations (R355 to R387): entries as the commit port reads them, release of commits, the end of an
item, dispatch, flows, ring writes, DMA. -/

namespace Sys2Proof.Machine

/-! ## Entries read from octets -/

/-- n octets at an offset as a number, least significant first. -/
def fieldN (bs : List Byte) (off n : Nat) : Nat := ofLe ((bs.drop off).take n)

/-- A signed 64-bit field. -/
def fieldI (bs : List Byte) (off : Nat) : Int := ofBits (fieldN bs off 8) 64

/-- A frame's header fields from its octets: destination, payload EtherType, VID, APPID. -/
def frameOf (bs : List Byte) : OutFrame :=
  let be (off n : Nat) : Nat := ofBe ((bs.drop off).take n)
  let tagged := be 12 2 == 0x8100
  let et := if tagged then 16 else 12
  { len := bs.length, dst := be 0 6, etype := be et 2, vid := if tagged then be 14 2 % 4096 else 0, appid := be (et + 2) 2, bytes := bs }

/-- A work item descriptor of 32 octets (R355). -/
def itemOf (bs : List Byte) : ItemDesc :=
  { arg0 := fieldN bs 0 8, arg1 := fieldN bs 8 8, tag := fieldN bs 16 4, flow := fieldN bs 20 2, prio := fieldN bs 22 1
    complete := bit (fieldN bs 23 1) 0, budget := fieldN bs 24 4, compRing := fieldN bs 28 1
    flags := fieldN bs 23 1 / 2, rsv := fieldN bs 29 1, stat := fieldN bs 30 2 }

/-- A DMA descriptor (R382). -/
def dmaOf (bs : List Byte) : DmaDesc :=
  { src := fieldN bs 0 8, dst := fieldN bs 8 8, tag := fieldN bs 16 4, len := fieldN bs 20 4, op := fieldN bs 24 1
    complete := bit (fieldN bs 25 1) 0, fence := bit (fieldN bs 25 1) 1, compRing := fieldN bs 26 1
    flags := fieldN bs 25 1 / 4, rsv := fieldN bs 27 1, rsv2 := fieldN bs 30 2 }

/-- A TX request; the frame is what memory holds at its address, as given, or as the model's memory has it. -/
def txOf (s : State) (p : Nat) (bs : List Byte) (m : MemAt) : TxReq :=
  { bufAddr := fieldN bs 0 8, len := fieldN bs 8 2, dest := fieldN bs 10 1, cls := fieldN bs 11 1, launch := bit (fieldN bs 12 2) 0
    dropLate := bit (fieldN bs 12 2) 1, tsReq := bit (fieldN bs 12 2) 2, cookie := fieldN bs 16 4, launchTime := fieldI bs 24
    frame := match m with
      | .frame f => f
      | _ => frameOf (memRead s p (fieldN bs 0 8) (min (fieldN bs 8 2) 1518)) }

/-- A GOOSE request; the image as given, or as the model's memory has it. -/
def goOf (s : State) (p : Nat) (bs : List Byte) (m : MemAt) : GReq :=
  { dataAddr := fieldN bs 0 8, block := fieldN bs 8 2, launch := bit (fieldN bs 10 2) 0, dropLate := bit (fieldN bs 10 2) 1
    cookie := fieldN bs 12 4, launchTime := fieldI bs 24
    image := match m with
      | .image l => l
      | _ => (upto 128).map fun i => ofLe (memRead s p (fieldN bs 0 8 + 8 * i) 8) }

/-- A committed entry of 32 octets in the layout of its target's engine (R370). -/
def entryOf (s : State) (p q : Nat) (bs : List Byte) (m : MemAt) : Entry :=
  if rType s q == 1 then .tx (txOf s p bs m)
  else match rEngine s q with
    | 0 => .item (itemOf bs)
    | 1 => .dma (dmaOf bs)
    | 2 => .goose (goOf s p bs m)
    | 3 => .bolpel ⟨fieldN bs 0 1, fieldN bs 4 4, fieldN bs 8 4, fieldN bs 12 4⟩
    | _ => .pickup ⟨fieldN bs 0 8, fieldN bs 8 8, fieldN bs 16 8, fieldN bs 24 4⟩

/-- The egress content of a commit, for its digest (R445). -/
def egressOf (s : State) (q : Nat) (e : Entry) : Option (List Byte) :=
  match e with
  | .tx r =>
    let b := r.frame.bytes
    some (leN 1 1 ++ leN 1 q ++ leN 2 r.len ++ padTo r.len (b.take 6 ++ zeros 6 ++ b.drop 12))
  | .goose r =>
    let n := (gbBasics s r.block).length
    let cs := gbClaimSlot s r.block
    some (leN 1 2 ++ leN 2 r.block ++ leN 2 n ++ (upto n).flatMap fun k => leN 8 (if cs == some k then 0 else nth r.image k 0))
  | .bolpel r => some (leN 1 3 ++ leN 1 r.board ++ leN 4 r.mask ++ leN 4 r.out)
  | _ => none

/-! ## Cores -/

/-- A core's port registers. -/
def coreOf (s : State) (c : Nat) : CorePort := tabGetD s.tt.cores c {}

/-- A core's port registers set. -/
def setCore (s : State) (c : Nat) (x : CorePort) : State := { s with tt := { s.tt with cores := tabPut s.tt.cores c x } }

/-- The eight port registers as octets. -/
def portBytes (s : State) (c : Nat) : List Byte := (coreOf s c).regs.flatMap fun w => leN 4 w.toNat

/-- TT_RESULT of an operation: OP, STATUS, VALUE. -/
def setResult (s : State) (c op st v : Nat) : State :=
  setCore s c { coreOf s c with result := BitVec.ofNat 32 (op * 268435456 + st * 65536 + v) }

/-- The item a core runs, when it is one of partition p. -/
def runOf (s : State) (p c : Nat) : Option Run :=
  match tabGet s.tt.run c with
  | some r => if r.item.part == p then some r else none
  | none => none

/-- The item of partition p whose core acts: a core stalled at a commit does nothing else (R371). -/
def actsOf (s : State) (p c : Nat) : Option Run := if (coreOf s c).stall.isSome then none else runOf s p c

/-- A core's item set. -/
def setRun (s : State) (c : Nat) (r : Run) : State := { s with tt := { s.tt with run := tabPut s.tt.run c r } }

/-- The die of a core (R3): 0 the hub, k the compute die k - 1. -/
def dieOf (c : Nat) : Nat := if c < 8 then 0 else (c - 8) / 16 + 1

/-- The cores of a partition's set that are fitted and work: in service and on a die that is up and that the partner has too (R11). -/
def partCores (s : State) (p : Nat) : List Nat :=
  let m := ofLe (vO (s.val 0x300010 p 0) 1)
  (upto (coreCount s)).filter fun c => bit m c && !s.parts.coreFailed.contains c &&
    (dieOf c == 0 || (unitOk s (23 + dieOf c) && (stepState s p == 0 || pairUses s (7 + dieOf c))))

/-! ## Commits (R370 to R373) -/

/-- The commit of an item is copied into the next slot of its ring and the engine may take it; its content enters the origin row's digest. A
TX ring's frame goes to the Prefect at once. After an import the commits of journaled rows are discarded (R451). -/
def ringCommit (s : State) (p q : Nat) (comp : Option Nat) (e : Entry) (row item : Nat) : State :=
  if row < (stepOf s p).live then s else
  let r := ringOf s q
  let k := slotOf s q r.prod
  let comps := match comp with
    | some c => tabPut r.comps k c
    | none => tabDel r.comps k
  let s := slotWrite s q k e
  let s := setRing s q { putSlot r k e with
    prod := w32 (r.prod + 1), comps := comps, rows := tabPut r.rows k row
    items := tabPut r.items k item, at_ := tabPut r.at_ k s.now }
  let s := match egressOf s q e with
    | some b => digAdd s p row b
    | none => s
  if rType s q == 1 then txTake (idxDist (ringOf s q).taken (ringOf s q).prod) s q false else s

/-- Releases a held commit: into its ring, or to wait for a slot in hardware (R371). -/
def releaseHeld (s : State) (h : Held) : State :=
  if rSpace s h.q == 0 || s.tt.waitRel.any (fun w => w.q == h.q) then { s with tt := { s.tt with waitRel := s.tt.waitRel ++ [h] } }
  else ringCommit s h.part h.q h.comp h.entry h.row h.item

/-- Releases every held commit of an item, in order. -/
def releaseItem (s : State) (n : Nat) : State :=
  let hs := s.tt.held.filter fun h => h.item == n
  hs.foldl releaseHeld { s with tt := { s.tt with held := s.tt.held.filter fun h => h.item != n } }

/-- Hold slots a partition has reserved. -/
def holdRes (s : State) (p : Nat) : Nat := tabGetD s.tt.holdRes p 0

/-- Returns n reserved hold slots. -/
def holdFree (s : State) (p n : Nat) : State := { s with tt := { s.tt with holdRes := tabPut s.tt.holdRes p (holdRes s p - n) } }

/-- Returns the slots an item reserved, but for those its released commits still wait in (R372). -/
def holdReturn (s : State) (p n : Nat) : State := holdFree s p (16 - (s.tt.waitRel.filter fun h => h.item == n).length)

/-- A flow that is closing is freed with its last item (R367). -/
def flowFree (s : State) (f : Nat) : State :=
  match flowOf s f with
  | none => s
  | some x =>
    if x.closing && x.order.isEmpty && x.fin.isEmpty && !s.tt.ready.any (fun i => i.d.flow == f) && !s.tt.run.any (fun (_, r) => r.item.d.flow == f)
    then { s with tt := { s.tt with flows := tabDel s.tt.flows f } } else s

/-- The completions of an ORDERED flow's ended items, in item order, each once the item's commits have been copied (R373, R387). -/
def flowFlush : Nat → State → Nat → State
  | 0, s, _ => s
  | k + 1, s, f =>
    match flowOf s f with
    | none => s
    | some x =>
      match x.fin with
      | [] => s
      | e :: rest =>
        if s.tt.waitRel.any (fun h => h.item == e.item.num) then s
        else
          let s := { s with tt := { s.tt with flows := tabPut s.tt.flows f { x with fin := rest } } }
          flowFlush k (itemComplete s e.item e.status e.start e.finish e.result) f

/-- The oldest item of an ORDERED flow has changed: the ended items at the front leave in order, their commits released; the next becomes
the oldest and its held commits are released (R371, R373). -/
def flowAdvance : Nat → State → Nat → State
  | 0, s, _ => s
  | k + 1, s, f =>
    match flowOf s f with
    | none => s
    | some x =>
      match x.order with
      | [] => s
      | n :: rest =>
        match x.ended.find? fun e => e.item.num == n with
        | some e =>
          let s := releaseItem s n
          let s := if e.status == 0 then holdReturn s e.item.part n else s
          let y := { x with order := rest, ended := (x.ended.filter fun y => y.item.num != n), fin := x.fin ++ [e] }
          flowAdvance k { s with tt := { s.tt with flows := tabPut s.tt.flows f y } } f
        | none =>
          let s := releaseItem s n
          match s.tt.run.find? fun (_, r) => r.item.num == n with
          | some (c, r) => if r.reserved then holdReturn (setRun s c { r with reserved := false }) r.item.part n else s
          | none => s

/-- An item ends, in service or cancelled: its completion at once, or at its turn in an ORDERED flow. -/
def itemEnd (s : State) (it : Item) (status : Nat) (start finish : Int) (result : Nat) : State :=
  match flowOf s it.d.flow with
  | some x =>
    if x.typ != 2 then flowFree (itemComplete s it status start finish result) it.d.flow
    else
      let old := x.order.head? == some it.num
      let e : Ended := ⟨it, status, start, finish, result⟩
      let x := if old then { x with order := x.order.tail, fin := x.fin ++ [e] } else { x with ended := x.ended ++ [e] }
      let s := { s with tt := { s.tt with flows := tabPut s.tt.flows it.d.flow x } }
      let s := if old then flowAdvance (x.order.length + 1) s it.d.flow else s
      flowFree (flowFlush (x.order.length + x.fin.length + 1) s it.d.flow) it.d.flow
  | none => itemComplete s it status start finish result

/-- A core's item leaves it: the core is idle and awake. -/
def coreIdle (s : State) (c : Nat) : State :=
  { s with tt := { s.tt with run := tabDel s.tt.run c, awake := tabPut s.tt.awake c s.now } }

/-- What the end of an item brings after its own completion: a ring's trigger in mode ONE, a partition's bells, a logic
task's cycle (R360, R403, R411). -/
def afterItem (s : State) (it : Item) : State :=
  match it.src with
  | .trigger q _ _ => if s.fb 0x310010 q 7 && s.fn 0x310010 q 8 == 1 then trigOne s q 0 else s
  | .bell => bellItem s it.part
  | .logic j body => { s with lg := { s.lg with tasks := tabMap (fun k (x : Task) =>
      if k != j then x else if body then { x with body := false } else { x with err := false }) s.lg.tasks } }
  | _ => s

/-- TT_DONE of a core's item (R356). -/
def ttEnd (s : State) (c : Nat) (r : Run) (result : Nat) : State :=
  let s := coreIdle s c
  let s := itemEnd s r.item 0 r.start (tai s) result
  digClose (afterItem s r.item) r.item.part r.item.row

/-! ## Dispatch (R362, R363, R368, R372) -/

/-- Items of a partition in service. -/
def inService (s : State) (p : Nat) : Nat := (s.tt.run.filter fun (_, r) => r.item.part == p).length

/-- Is an item the oldest of its ORDERED flow. -/
def isOldest (s : State) (it : Item) : Bool :=
  match flowOf s it.d.flow with
  | some x => x.typ == 2 && x.order.head? == some it.num
  | none => false

/-- Does an item's flow permit its dispatch. -/
def flowPermits (s : State) (it : Item) : Bool :=
  match flowOf s it.d.flow with
  | none => true
  | some x =>
    if x.typ == 1 then
      !s.tt.run.any (fun (_, r) => r.item.d.flow == it.d.flow) && !s.tt.ready.any fun j => j.d.flow == it.d.flow && j.num < it.num
    else isOldest s it || holdRes s it.part + 16 ≤ s.fn 0x310020 it.part 3

/-- Is an item one of a logic task's cycle. -/
def isLogic (it : Item) : Bool :=
  match it.src with
  | .logic .. => true
  | _ => false

/-- May an item be dispatched but for a core. -/
def eligible (s : State) (it : Item) : Bool :=
  let x := partOf s it.part
  (pst s it.part == .running || (pst s it.part == .stopping && (it.num < x.stopSeq || isLogic it))) && inService s it.part < pcfg s it.part 2 && flowPermits s it &&
    !(stepOf s it.part).hold

/-- The idle core an item goes to: awake before asleep, then the lowest number. -/
def coreFor (s : State) (it : Item) : Option Nat :=
  let idle := (partCores s it.part).filter fun c => (tabGet s.tt.run c).isNone
  match idle.find? fun c => tabGet s.tt.awake c == some s.now with
  | some c => some c
  | none => idle.head?

/-- The eligible item of least PRIO, then of earliest making ready, and its core. -/
def nextDispatch (s : State) : Option (Item × Nat) :=
  s.tt.ready.foldl (fun best it =>
    if !eligible s it then best
    else match coreFor s it, best with
      | some c, none => some (it, c)
      | some c, some (b, d) => if it.d.prio < b.d.prio then some (it, c) else some (b, d)
      | none, b => b) none

/-- The first dispatch of a row's item on the first partition dispatched for the row closes the row's path measurement (R23); stage 9 is
judged for every partition's row item (R26, R289 LATE_PREV). -/
def pathDispatch (s : State) (it : Item) (idleAt : Nat) : State :=
  match it.src with
  | .trigger q _ _ =>
    if s.fn 0x240031 it.part 0 != q then s
    else
      let s := match tabGet s.plan.rows it.row with
        | some x => if x.disp then s
          else setRow { s with boot := { s.boot with pathClose := max s.boot.pathClose (s.now - x.closeNow) } } it.row { x with disp := true }
        | none => s
      if idleAt ≤ it.atNow && it.atNow + 300 < s.now then setImg (stageOver s 9) it.part { imgOf s it.part with latePrev := true } else s
  | _ => s

/-- One dispatch: the core enters the guest at ITEM_ENTRY with the descriptor in a0 to a3 (R356). -/
def dispatch (s : State) (it : Item) (c : Nat) : State :=
  let idleAt := tabGetD s.tt.awake c 0
  let bs := itemBytes it.d it.d.stat
  let res := (match flowOf s it.d.flow with
    | some x => x.typ == 2
    | none => false) && !isOldest s it
  let t := { s.tt with
    ready := s.tt.ready.filter fun j => j.num != it.num
    run := tabPut s.tt.run c { item := it, start := tai s, startNow := s.now, reserved := res
                               pc := s.fn 0x310020 it.part 0, args := [0, 8, 16, 24].map fun o => fieldN bs o 8 }
    awake := tabDel s.tt.awake c
    lastPart := tabPut s.tt.lastPart c it.part
    holdRes := if res then tabPut s.tt.holdRes it.part (holdRes s it.part + 16) else s.tt.holdRes
    latMax := max s.tt.latMax (s.now - max it.atNow idleAt) }
  pathDispatch (bump { s with tt := t } 0x310003 0) it idleAt

/-- Does the timetable dispatch (R93, R102, power-fail step 1). -/
def ttRuns (s : State) : Bool := unitOk s 12 && hubLive s

/-! ## DMA (R382 to R385) -/

/-- Do n octets from address a lie in regions of a list with an access bit (0 read, 1 write, 2 execute), region by region. -/
def inRegions (rs : List Val) (acc : Nat) : Nat → Nat → Nat → Bool
  | 0, _, n => n == 0
  | k + 1, a, n =>
    n == 0 || (match rs.find? fun v => vN v 0 ≤ a && a < vN v 0 + vN v 1 && bit (vN v 4) acc with
      | some v => inRegions rs acc k (vN v 0 + vN v 1) (n - (vN v 0 + vN v 1 - a))
      | none => false)

/-- Do n octets from address a all lie in regions of a partition with an access bit (R384). -/
def inRegion (s : State) (p a n acc : Nat) : Bool := inRegions (s.rows 0x300011 p) acc 17 a n

/-- The working engines. -/
def dmaWorking (s : State) : List Nat := (upto 8).filter fun k => !s.tt.dmaFailed.contains k

/-- A working engine for an operation; which of them is a free value (R385). -/
def dmaEngine (s : State) : Option (Nat × State) :=
  match dmaWorking s with
  | [] => none
  | k :: ks =>
    let (v, s) := fresh s
    some (nth (k :: ks) (v % (ks.length + 1)) k, s)

/-- Are earlier operations of an operation's ring still in flight. -/
def dmaBehind (s : State) (id : Nat) (o : DmaOp) : Bool := s.tt.dma.any fun (j, x) => j < id && x.q == o.q && x.part == o.part

/-- Takes one DMA entry: judged in place (R383). -/
def dmaTake (s : State) (q i p : Nat) (d : DmaDesc) : State :=
  let fin (s : State) (st : Nat) : State := entryDone s q i (.dmaDone d st)
  if !(d.reservedOk && d.op ≤ 2 && 1 ≤ d.len && d.len ≤ 16777216) then fin s 5
  else if !unitTakes s 13 || pst s p != .running then fin s 2
  else if dmaCount s p ≥ pcfg s p 11 then fin s 4
  else if d.complete && !(isComp s p d.compRing && rUnreserved s d.compRing != 0) then fin s 6
  else match dmaEngine s with
    | none => fin s 2
    | some (e, s) =>
      let s := if d.complete then reserveSlot s d.compRing else s
      let bad := !(inRegion s p d.dst d.len 1 && (d.op == 1 || inRegion s p d.src d.len 0))
      let o : DmaOp := { part := p, q := q, idx := i, d := d, start := 0, engine := e, faulted := bad }
      let id := s.tt.nextDma
      let o := { o with start := if d.fence && dmaBehind s id o then 0 else tai s }
      fin { s with tt := { s.tt with dma := tabPut s.tt.dma id o, nextDma := id + 1 } } 0

/-- Eight octets repeated to a length. -/
def fillBytes (pat n : Nat) : List Byte := (upto n).map fun i => BitVec.ofNat 8 (pat / 2 ^ (8 * (i % 8)))

/-- The bytes an operation moves, and its RESULT. -/
def dmaMove (s : State) (o : DmaOp) : State × Nat :=
  let d := o.d
  if o.faulted || o.suppressed then (s, 0)
  else
    let bs := if d.op == 1 then fillBytes d.src d.len else memRead s o.part d.src d.len
    (bumpBy (memWrite s o.part d.dst bs) 0x310042 o.engine d.len, if d.op == 2 then crc32c bs else 0)

/-- A fence operation behind which nothing is left starts now. -/
def dmaFences (s : State) : State :=
  { s with tt := { s.tt with dma := tabMap (fun id (o : DmaOp) =>
      if o.d.fence && o.start == 0 && !dmaBehind s id o then { o with start := tai s } else o) s.tt.dma } }

/-- An operation ends with a status: its tag is freed and its completion written, unless fenced. -/
def dmaEnd (s : State) (id : Nat) (o : DmaOp) (status result : Nat) : State :=
  let s := dmaFences { s with tt := { s.tt with dma := tabDel s.tt.dma id } }
  if o.d.complete && !o.suppressed then complete s o.d.compRing (compE o.d.tag status 1 o.start (tai s) result o.q) 0 else s

/-- The operations that hold a DMA tag: a fenced one has given its back (R337). -/
def dmaTags (s : State) : Nat := (s.tt.dma.filter fun (_, o) => !o.suppressed).length

/-- DMA_ENTRY: an engine takes the next entry of a ring while fewer than 256 operations are in flight (R383). -/
def execDmaEntry (dt ring : Nat) (s : State) : Host.Outcome State Fault Refusal :=
  let s := advance dt s
  if !(rType s ring == 2 && rEngine s ring == 1 && hubLive s) || dmaTags s ≥ 256 then done s
  else match nextEntry s ring with
    | some (i, .dma d) => done (dmaTake (takeEntry s ring) ring i (rOwner s ring) d)
    | some (_, _) => done (takeEntry s ring)
    | none => done s

/-- DMA_COMPLETE: an operation's last memory write is visible (R384). -/
def execDmaComplete (dt dmaId : Nat) (s : State) : Host.Outcome State Fault Refusal :=
  let s := advance dt s
  match tabGet s.tt.dma dmaId with
  | none => done s
  | some o =>
    if !hubLive s || (o.d.fence && dmaBehind s dmaId o) then done s
    else
      let (s, result) := dmaMove s o
      done (dmaEnd s dmaId o (if o.faulted then 8 else 0) result)

/-- DMA_ENGINE_FAULT: the engine takes no further work and its operations complete with ENGINE_FAULT (R385). -/
def execDmaEngineFault (dt engine : Nat) (s : State) : Host.Outcome State Fault Refusal :=
  let s := advance dt s
  if engine ≥ 8 || s.tt.dmaFailed.contains engine || !unitOk s 13 then done s
  else
    let s := { s with tt := { s.tt with dmaFailed := s.tt.dmaFailed ++ [engine] } }
    let ops := s.tt.dma.filter fun (_, o) => o.engine == engine
    let s := ops.foldl (fun s (id, o) => dmaEnd s id o 7 0) s
    done (setUnit s 13 (if s.tt.dmaFailed.length ≥ 8 then .fault else .degraded))

/-! ## Commands of the register port and the rings -/

/-- TT_SUBMIT: the descriptor in a core's port registers is submitted (R358, R359). -/
def ttSubmitOp (s : State) (p core : Nat) : State :=
  match actsOf s p core with
  | none => s
  | some r =>
    let (st, s) := submitItem s p r.item.row (itemOf (portBytes s core)) .port
    setResult s core 1 st 0

/-- TT_SUBMIT. -/
def execTtSubmit (dt p core : Nat) (s : State) : Host.Outcome State Fault Refusal := done (ttSubmitOp (advance dt s) p core)

/-- SUBMIT_RING_ENTRY: the timetable takes the next entry of a ring; its outcome is written in place (R359). -/
def execSubmitRingEntry (dt ring : Nat) (s : State) : Host.Outcome State Fault Refusal :=
  let s := advance dt s
  if !(rType s ring == 2 && rEngine s ring == 0 && hubLive s) then done s
  else match nextEntry s ring with
    | some (i, .item d) =>
      let row := tabGetD (ringOf s ring).rows (slotOf s ring i) 0
      let (st, s) := submitItem (takeEntry s ring) (rOwner s ring) row d (.ring ring i)
      done (entryDone s ring i (.itemDone d st))
    | some (_, _) => done (takeEntry s ring)
    | none => done s

/-- TT_DISPATCH: the next dispatch, when one is possible (R362, R363). -/
def execTtDispatch (dt : Nat) (s : State) : Host.Outcome State Fault Refusal :=
  let s := advance dt s
  if !ttRuns s then done s
  else match nextDispatch s with
    | some (it, c) => done (dispatch s it c)
    | none => done s

/-- Is a ring a commit target of a partition. -/
def commitTarget (s : State) (p q : Nat) : Bool :=
  q < 256 && rOwner s q == p && rSize s q != 0 && rPort s q && (rType s q == 1 || rType s q == 2)

/-- TT_COMMIT: the entry in a core's port registers is committed: refused, held, released at once, or waiting for a slot with the core
stalled (R370, R371). -/
def ttCommitOp (s : State) (p core : Nat) (w : Word) (m : MemAt) : State :=
  match actsOf s p core with
  | none => s
  | some r =>
    let q := bits w.toNat 0 8
    let comp := if bit w.toNat 16 then some (bits w.toNat 8 8) else none
    let ordered := match flowOf s r.item.d.flow with
      | some x => x.typ == 2
      | none => false
    let refuse (st : Nat) : State := setResult (bump s 0x310022 p) core 2 st 0
    if !commitTarget s p q then refuse 10
    else if (match comp with
      | some c => !(isComp s p c && rUnreserved s c != 0)
      | none => false) then refuse 6
    else if ordered && r.commits ≥ 16 then refuse 9
    else
      let e := entryOf s p q (portBytes s core) m
      let s := match comp with
        | some c => reserveSlot s c
        | none => s
      let s := setRun s core { r with commits := r.commits + 1 }
      if ordered && !isOldest s r.item then
        setResult { s with tt := { s.tt with held := s.tt.held ++ [⟨r.item.num, p, q, comp, e, r.item.row⟩] } } core 2 0 0
      else if rSpace s q == 0 || s.tt.waitRel.any (fun h => h.q == q) then
        setCore s core { coreOf s core with stall := some (q, comp, e, r.item.row) }
      else setResult (ringCommit s p q comp e r.item.row r.item.num) core 2 0 0

/-- TT_COMMIT. -/
def execTtCommit (dt core : Nat) (w : Word) (mem : MemAt) (s : State) : Host.Outcome State Fault Refusal :=
  let s := advance dt s
  match tabGet s.tt.run core with
  | some r => done (ttCommitOp s r.item.part core w mem)
  | none => done s

/-- The commits waiting for a slot of ring q are copied while it has slots: released ones in item order, then stalled cores in order. -/
def slotRelease : Nat → State → Nat → State
  | 0, s, _ => s
  | k + 1, s, q =>
    if rSpace s q == 0 then s
    else match s.tt.waitRel.find? fun h => h.q == q with
      | some h =>
        let s := holdFree { s with tt := { s.tt with waitRel := s.tt.waitRel.erase h } } h.part 1
        let s := ringCommit s h.part q h.comp h.entry h.row h.item
        let fs := s.tt.flows.filterMap fun (f, x) => if x.fin.head?.map (·.item.num) == some h.item then some (f, x.fin.length) else none
        slotRelease k (fs.foldl (fun s (f, n) => flowFree (flowFlush n s f) f) s) q
      | none =>
        match s.tt.cores.find? fun (_, x) => match x.stall with
          | some (r, _) => r == q
          | none => false with
        | some (c, x) => (match x.stall with
          | some (_, comp, e, row) =>
            let s := setCore s c { x with stall := none }
            let n := (tabGet s.tt.run c).map (·.item.num)
            slotRelease k (setResult (ringCommit s (rOwner s q) q comp e row (n.getD 0)) c 2 0 0) q
          | none => s)
        | none => s

/-- COMMIT_SLOT_FREE: a slot of a ring is free for a commit that waits for one (R371). -/
def execCommitSlotFree (dt ring : Nat) (s : State) : Host.Outcome State Fault Refusal :=
  let s := advance dt s
  if !hubLive s then done s else done (slotRelease (rSpace s ring + 1) s ring)

/-- TT_CANCEL: every ready item of the partition with the TAG is cancelled (R366). -/
def ttCancelOp (s : State) (p core tag : Nat) : State :=
  match actsOf s p core with
  | none => s
  | some _ =>
    let hit := s.tt.ready.filter fun i => i.part == p && i.d.tag == tag
    let s := { s with tt := { s.tt with ready := s.tt.ready.filter fun i => !(i.part == p && i.d.tag == tag) } }
    let s := hit.foldl (fun s it => digClose (afterItem (itemEnd s it 1 0 (tai s) 0) it) p it.row) s
    setResult (bumpBy s 0x310004 0 hit.length) core 4 0 (min hit.length 65535)

/-- TT_CANCEL. -/
def execTtCancel (dt p core : Nat) (tag : Word) (s : State) : Host.Outcome State Fault Refusal :=
  done (ttCancelOp (advance dt s) p core tag.toNat)

/-- The flow numbers not in use. -/
def freeFlows (s : State) : List Nat := (upto 16384).filter fun f => (flowOf s f).isNone

/-- A flow number not in use; which of them is a free value (R367). -/
def freeFlow (s : State) : Option (Nat × State) :=
  match freeFlows s with
  | [] => none
  | f :: fs =>
    let (v, s) := fresh s
    some (nth (f :: fs) (v % (fs.length + 1)) f, s)

/-- TT_FLOW_OPEN (R367). -/
def ttFlowOpenOp (s : State) (p core w : Nat) : State :=
  match actsOf s p core with
  | none => s
  | some _ =>
    let t := w % 4
    let used := (s.tt.flows.filter fun (_, f) => f.owner == p).length
    if t == 0 || t == 3 then setResult s core 3 5 0
    else match freeFlow s with
      | none => setResult s core 3 11 0
      | some (f, s) =>
        if used ≥ pcfg s p 5 then setResult s core 3 11 0
        else setResult { s with tt := { s.tt with flows := tabPut s.tt.flows f { owner := p, typ := t } } } core 3 0 f

/-- TT_FLOW_OPEN. -/
def execTtFlowOpen (dt p core : Nat) (w : Word) (s : State) : Host.Outcome State Fault Refusal :=
  done (ttFlowOpenOp (advance dt s) p core w.toNat)

/-- TT_FLOW_CLOSE (R367). -/
def ttFlowCloseOp (s : State) (p core w : Nat) : State :=
  match actsOf s p core, flowOf s (bits w 0 14) with
  | some _, some x =>
    if x.owner != p || x.logic then s
    else
      let x := { x with closing := true, closeDue := some (s.now + s.vn 0x300003 0) }
      flowFree { s with tt := { s.tt with flows := tabPut s.tt.flows (bits w 0 14) x } } (bits w 0 14)
  | _, _ => s

/-- TT_FLOW_CLOSE. -/
def execTtFlowClose (dt p core : Nat) (w : Word) (s : State) : Host.Outcome State Fault Refusal :=
  done (ttFlowCloseOp (advance dt s) p core w.toNat)

/-- TT_RESULT_READ: the outcome of the core's last port operation; the read changes nothing (R359). -/
def execTtResultRead (dt _core : Nat) (s : State) : Host.Outcome State Fault Refusal := done (advance dt s)

/-- Does a writer own a ring: a partition its own, the platform firmware its own (R388). -/
def ownsRing (s : State) (p q : Nat) : Bool := q < 256 && rSize s q != 0 && (rOwner s q == p || (p ≥ 64 && rOwner s q == 0xFF))

/-- Does hardware advance a ring's PROD. -/
def prodHard (s : State) (q : Nat) : Bool := rType s q ≥ 3 || (rPort s q && (rType s q == 1 || rType s q == 2))

/-- The item of a partition in service, when there is only one. -/
def soleRun (s : State) (p : Nat) : Option Run :=
  match s.tt.run.filter fun (_, r) => r.item.part == p with
  | [(_, r)] => some r
  | _ => none

/-- A doorbell (R376); the entries carry the origin row of the item that rings it (R444). -/
def prodWrite (s : State) (q v : Nat) (es : List Entry) (by_ : Option Run) : State :=
  let r := ringOf s q
  let n := idxDist r.prod v
  if prodHard s q || n == 0 || n > rSpace s q then bump s 0x310012 q
  else
    let slots := (es.take n).foldl (fun (acc : Tab Entry × Nat) e => (tabPut acc.1 (slotOf s q acc.2) e, w32 (acc.2 + 1)))
      (r.slots, r.prod)
    let put (t : Tab Nat) (x : Nat) : Tab Nat := (upto n).foldl (fun t i => tabPut t (slotOf s q (r.prod + i)) x) t
    let row := match by_ with
      | some x => x.item.row
      | none => 0
    let item := match by_ with
      | some x => x.item.num
      | none => 0
    let s := setRing s q { r with slots := slots.1, prod := w32 v, at_ := put r.at_ s.now, rows := put r.rows row, items := put r.items item }
    if rType s q == 1 then txTake n s q false else s

/-- RING_PROD_WRITE: a software write of PROD, with the entries its owner placed (R376). The command names no core: the item that writes is the
owner's only one in service, if it is one (DEDUCED, entry 63). -/
def execRingProdWrite (dt p ring : Nat) (value : Word) (entries : List Entry) (s : State) : Host.Outcome State Fault Refusal :=
  let s := advance dt s
  if !ownsRing s p ring then done s else done (prodWrite s ring value.toNat entries (soleRun s p))

/-- A software write of CONS (R376). -/
def consWrite (s : State) (q v : Nat) : State :=
  let r := ringOf s q
  let lim := if rType s q ≥ 3 then r.prod else r.done
  let n := idxDist r.cons v
  if (rPort s q && (rType s q == 1 || rType s q == 2)) || n == 0 || n > idxDist r.cons lim then bump s 0x310012 q
  else setRing s q { r with cons := w32 v }

/-- RING_CONS_WRITE. -/
def execRingConsWrite (dt p ring : Nat) (value : Word) (s : State) : Host.Outcome State Fault Refusal :=
  let s := advance dt s
  if !ownsRing s p ring then done s else done (consWrite s ring value.toNat)

/-- The counters Tt clears (R30). -/
def opTtReset (s : State) : Res :=
  good (clearCtrs (clearCtrs (clearCtrs s 0x310003 0x310005 none) 0x310012 0x310022 none) 0x310042 0x310042 none)

/-- TT_COUNTERS_RESET: clears the counters of area 31 (R30). -/
def execTtCountersReset (dt : Nat) (rq : Req) (s : State) : Host.Outcome State Fault Refusal :=
  done (doExec (advance dt s) rq 0x310006 0 opTtReset)

end Sys2Proof.Machine
end

