-- ==== Sys2Proof/Machine/Ph.lean ====
section
/-! DEFINITION. Pigeonholes and bells (R389 to R404): channels, posting and taking, the fences of both ends, the acknowledgement
timeout, the bell ring. -/

namespace Sys2Proof.Machine

/-! ## Channels (R389, R390) -/

/-- A channel's state set. -/
def setChan (s : State) (c : Nat) (x : Chan) : State := { s with ph := { s.ph with chans := tabPut s.ph.chans c x } }

/-- Field i of PH_CHANNEL c: 0 VALID, 1 SENDER, 2 RECEIVER, 3 SENDER_INDEX, 4 RECEIVER_INDEX, 5 RX_BELL, 6 ACK_BELL, 7 ACK_TIMEOUT. -/
def chF (s : State) (c i : Nat) : Nat := s.fn 0x340100 c i

/-- The valid channels. -/
def chValid (s : State) : List Nat := (s.subsOf 0x340100).filter fun c => c < 1024 && chF s c 0 != 0

/-- The channel an endpoint names by its local index (partitions) or its number (64 and 65), as sender or as receiver. -/
def chanFor (s : State) (ep idx : Nat) (send : Bool) : Option Nat :=
  (chValid s).find? fun c => chF s c (if send then 1 else 2) == ep && (if ep < 64 then chF s c (if send then 3 else 4) else c) == idx

/-- Does a valid channel join two endpoints, in either direction (R402). -/
def joined (s : State) (a b : Nat) : Bool :=
  (chValid s).any fun c => (chF s c 1 == a && chF s c 2 == b) || (chF s c 1 == b && chF s c 2 == a)

/-- A core's message registers. -/
def phCore (s : State) (ep core : Nat) : PhCore := tabGetD s.ph.cores (ep * 256 + core) {}

/-- A core's message registers set. -/
def setPhCore (s : State) (ep core : Nat) (x : PhCore) : State :=
  { s with ph := { s.ph with cores := tabPut s.ph.cores (ep * 256 + core) x } }

/-- PH_RESULT of an operation: 1 POST, 2 TAKE, 3 BELL_RING; 0 OK, 1 EMPTY, 2 FULL, 3 NOT_OWNER, 4 ABORTED, 5 NOT_READY; LEFT. -/
def phAnswer (s : State) (ep core op st left : Nat) : State :=
  setPhCore s ep core { phCore s ep core with result := BitVec.ofNat 32 (op * 268435456 + st * 65536 + left) }

/-- Does the fabric move messages (R393, R404). -/
def fabricUp (s : State) : Bool := unitOk s 14 && hubLive s

/-- Is an endpoint being fenced. -/
def fencing (s : State) (ep : Nat) : Bool := ep < 64 && (partOf s ep).fence.isSome

/-- Messages of a channel that are not orphans. -/
def queued (x : Chan) : Nat := (x.q.filter fun m => !m.orphan).length

/-! ## Posting and taking (R392 to R394) -/

/-- A write of PH_MSG0; ORPHAN is read-only. -/
def phHeader (s : State) (ep core : Nat) (w : Word) : State :=
  let x := phCore s ep core
  let old := (nth x.regs 0 0).toNat
  let v := clrBit w.toNat 30 + (if bit old 30 then 1073741824 else 0)
  setPhCore s ep core { x with regs := BitVec.ofNat 32 v :: x.regs.drop 1 }

/-- The message a core has staged; words beyond LENGTH are zero. -/
def stagedMsg (s : State) (ep core : Nat) : Msg :=
  let x := phCore s ep core
  let h := (nth x.regs 0 0).toNat
  let n := bits h 26 4
  { code := bits h 0 16, len := n, words := (upto 15).map fun i => if i < n then nth x.regs (i + 1) 0 else 0, postedAt := s.now }

/-- The outcome of a post of endpoint ep on the channel it names (R393); where several hold: NOT_READY, NOT_OWNER, ABORTED, FULL (DESIGN
CHOICE, entry 100). -/
def postCheck (s : State) (ep : Nat) (c : Option Nat) : Nat :=
  if !fabricUp s || (ep < 64 && pst s ep != .running && pst s ep != .stopping) then 5
  else match c with
    | none => 3
    | some c => if fencing s (chF s c 2) then 4 else if (chanOf s c).q.length ≥ 4 then 2 else 0

/-- A message enters a channel and rings RX_BELL. -/
def chanPut (s : State) (c : Nat) (m : Msg) : State :=
  let s := bump (setChan s c { chanOf s c with q := (chanOf s c).q ++ [m] }) 0x340102 c
  if chF s c 5 < 64 then bellRaise s (chF s c 2) (chF s c 5) else s

/-! ## The gateway's requests to the partitions' own areas (R161 to R163) -/

/-- The channel from the gateway to a partition, or from it to the gateway; of several the lowest-numbered (DESIGN CHOICE, entry 89). -/
def gwChan (s : State) (p : Nat) (toPart : Bool) : Option Nat :=
  (chValid s).find? fun c => chF s c 1 == (if toPart then 65 else p) && chF s c 2 == (if toPart then p else 65)

/-- The requests of a partition's gateway, the one sent first. -/
def gwQ (s : State) (p : Nat) : List GwReq := tabGetD s.jal.gw p []

/-- Words 1 and 2 of a request's message, which its reply repeats (R162). -/
def gwWord1 (g : GwReq) : Nat := g.addr.obj * 65536 + g.addr.sub
/-- Bits [15:0] of word 2: the session role and number. -/
def gwWord2 (g : GwReq) : Nat := g.role * 256 + g.sess

/-- The gateway's message for a request. -/
def gwMsg (s : State) (g : GwReq) : Msg :=
  let vals := (upto ((g.bytes.length + 3) / 4)).map fun i => BitVec.ofNat 32 (ofLe ((g.bytes.drop (4 * i)).take 4))
  let ws : List Word := [BitVec.ofNat 32 (gwWord1 g), BitVec.ofNat 32 (gwWord2 g), BitVec.ofNat 32 (g.typ * 65536 + g.bytes.length)] ++ vals
  { code := 0x0800 + g.op, len := ws.length, words := ws ++ List.replicate (15 - ws.length) 0, postedAt := s.now }

/-- The head of a partition's requests, not posted yet, enters the channel when it has room. -/
def gwPost (s : State) (p : Nat) : State :=
  match gwQ s p, gwChan s p true with
  | g :: rest, some c =>
    if g.posted || g.due.isNone || (chanOf s c).q.length ≥ 4 || !fabricUp s || fencing s p then s
    else chanPut { s with jal := { s.jal with gw := tabPut s.jal.gw p ({ g with posted := true } :: rest) } } c (gwMsg s g)
  | _, _ => s

/-- The head of a partition's requests is taken up, once; it is to be answered within GATEWAY_TIMEOUT. -/
def gwSend (s : State) (p : Nat) : State :=
  match gwQ s p with
  | [] => s
  | g :: rest =>
    if g.due.isSome then s
    else gwPost { s with jal := { s.jal with gw := tabPut s.jal.gw p ({ g with due := some (s.now + s.vn 0x020005 0) } :: rest) } } p

/-- A reply's status, type and value, when its message answers a request (R162). -/
def gwReply (m : Msg) (g : GwReq) : Option (Nat × Nat × List Byte) :=
  let w (i : Nat) : Nat := (nth m.words i 0).toNat
  if m.orphan || m.code != 0x0800 + g.op || w 0 != gwWord1 g || w 1 % 65536 != gwWord2 g || !g.posted then none
  else some (w 1 / 65536, w 2 / 65536 % 256, (((m.words.drop 3).map fun x => leN 4 x.toNat).flatten).take (min 40 (w 2 % 65536)))

/-- A post of the staged registers. -/
def phPostOp (s : State) (ep core : Nat) (w : Word) : State :=
  let s := phHeader s ep core w
  let c := chanFor s ep (bits w.toNat 16 10) true
  let st := postCheck s ep c
  let s := match c with
    | none => s
    | some c => if st == 2 then bump s 0x340103 c else if st == 0 then chanPut s c (stagedMsg s ep core) else s
  phAnswer s ep core 1 st 0

/-- A channel's oldest message leaves it; an orphan brings no acknowledgement (R394, R397). An answer of the firmware (R399), or a request
of the gateway (R163), that waited for room is posted. -/
def chanTake (s : State) (c : Nat) (m : Msg) (rest : List Msg) : State :=
  let s := setChan s c { chanOf s c with q := rest, timeout := false, timed := false }
  let s := if !m.orphan && chF s c 6 < 64 then bellRaise s (chF s c 1) (chF s c 6) else s
  let s := match (chanOf s c).wait with
    | [] => s
    | w :: ws => chanPut (setChan s c { chanOf s c with wait := ws }) c { w with postedAt := s.now }
  if chF s c 1 == 65 then gwPost s (chF s c 2) else s

/-- A take (R394). -/
def phTakeOp (s : State) (ep core idx : Nat) : State :=
  if fencing s ep then s
  else if !fabricUp s then phAnswer s ep core 2 5 0
  else match chanFor s ep idx false with
    | none => phAnswer s ep core 2 3 0
    | some c =>
      match (chanOf s c).q with
      | [] => phAnswer (setPhCore s ep core { phCore s ep core with regs := List.replicate 16 0 }) ep core 2 1 0
      | m :: rest =>
        let h := 2147483648 + b2n m.orphan * 1073741824 + m.len * 67108864 + idx * 65536 + m.code
        let s := setPhCore s ep core { phCore s ep core with regs := BitVec.ofNat 32 h :: m.words }
        phAnswer (chanTake s c m rest) ep core 2 0 rest.length

/-- A write of PH_BELL_RING (R401, R402); one that names bit 63 leaves PH_RESULT too as it is (entry 100). -/
def phRingOp (s : State) (ep core w : Nat) : State :=
  let refused (s : State) : State := if ep < 64 then bump s 0x340111 ep else s
  if !fabricUp s then phAnswer s ep core 3 5 0
  else if bits w 0 6 == 63 then refused s
  else if !joined s ep (bits w 8 7) then phAnswer (refused s) ep core 3 3 0
  else phAnswer (bellRaise s (bits w 8 7) (bits w 0 6)) ep core 3 0 0

/-! ## Fences (R396, R397) -/

/-- Did the fence of an endpoint begin at this instant. -/
def fencedNow (s : State) (ep : Nat) : Bool := ep < 64 && (partOf s ep).fence.any fun f => f.1 == s.now + 20000

/-- The receiver of a channel is fenced; a channel that holds no message has none cleared and its sender sees nothing (DEDUCED from
ABORTED's "messages were cleared", entry 100). With the sender's fence at the same instant nothing reaches the sender (R398). -/
def fenceRx (s : State) (c : Nat) : State :=
  let x := chanOf s c
  let s := setChan s c { x with wait := [] }
  let x := chanOf s c
  let n := x.q.length
  if n == 0 then s
  else if fencedNow s (chF s c 1) then setChan s c { x with q := [], timeout := false, timed := false }
  else
    let s := bumpBy (setChan s c { x with q := [], aborted := true, timeout := false, timed := false }) 0x340104 c n
    logRec (bellRaise s (chF s c 1) 63) 0x01A1 (0x80 + 14) (ints [c, n])

/-- The sender of a channel is fenced. -/
def fenceTx (s : State) (c : Nat) : State :=
  let x := chanOf s c
  let s := bumpBy s 0x340105 c (queued x)
  setChan s c { x with q := x.q.map fun m => { m with orphan := true }, timeout := false, epoch := (x.epoch + 1) % 256
                       aborted := x.aborted && !fencedNow s (chF s c 2) }

/-- A partition's part in every channel is fenced; its bells are cleared (R403) and its cores' registers are its next run's. -/
def phFence (s : State) (p : Nat) : State :=
  let cs := chValid s
  let s := (cs.filter fun c => chF s c 2 == p).foldl fenceRx s
  let s := (cs.filter fun c => chF s c 1 == p).foldl fenceTx s
  let s := { s with jal := { s.jal with gwLate := s.jal.gwLate.filter fun (q, _) => q != p } }
  setBell s p { bellOf s p with pend := 0 }

/-! ## Commands and events -/

/-- PH_POST. -/
def execPhPost (dt ep core : Nat) (w : Word) (s : State) : Host.Outcome State Fault Refusal :=
  done (phPostOp (advance dt s) ep core w)

/-- PH_STAGE_HEADER: the header is staged, nothing is posted (R393). -/
def execPhStageHeader (dt ep core : Nat) (w : Word) (s : State) : Host.Outcome State Fault Refusal :=
  done (phHeader (advance dt s) ep core w)

/-- PH_TAKE. -/
def execPhTake (dt ep core : Nat) (w : Word) (s : State) : Host.Outcome State Fault Refusal :=
  done (phTakeOp (advance dt s) ep core (bits w.toNat 0 10))

/-- PH_BELL_RING. -/
def execPhBellRing (dt ep core : Nat) (w : Word) (s : State) : Host.Outcome State Fault Refusal :=
  done (phRingOp (advance dt s) ep core w.toNat)

/-- PH_ACK_TIMEOUT: the oldest message of a channel has stayed untaken for ACK_TIMEOUT (R400). -/
def execPhAckTimeout (dt chan : Nat) (s : State) : Host.Outcome State Fault Refusal :=
  let s := advance dt s
  let x := chanOf s chan
  match x.q with
  | [] => done s
  | m :: _ =>
    if x.timed || s.now < m.postedAt + chF s chan 7 || !fabricUp s then done s
    else
      let s := bump (setChan s chan { x with timeout := true, timed := true }) 0x340106 chan
      done (logRec (bellRaise s (chF s chan 1) 63) 0x01A0 (0x80 + 14) (ints [chan]))

/-- The counters Ph clears (R30). -/
def opPhReset (s : State) : Res := good (clearCtrs s 0x340102 0x340111 none)

/-- PH_COUNTERS_RESET: clears the counters of area 34 (R30). -/
def execPhCountersReset (dt : Nat) (rq : Req) (s : State) : Host.Outcome State Fault Refusal :=
  done (doExec (advance dt s) rq 0x340120 0 opPhReset)

end Sys2Proof.Machine
end

