-- ==== Sys2Proof/Machine/Logic.lean ====
section
/-! DEFINITION. Cyclic logic (R405 to R426): stations and snapshots, commits of outputs, forces, online changes, retention. -/

namespace Sys2Proof.Machine

/-! ## Tasks -/

/-- A task set. -/
def setTask (s : State) (j : Nat) (x : Task) : State := { s with lg := { s.lg with tasks := tabPut s.lg.tasks j x } }

/-- LOGIC_TASK's field i: 0 VALID, 1 PARTITION, 2 SLOT, 3 CYCLE, 4 PHASE, 5 PRIO, 6 BODY_BUDGET, 7 ERR_BUDGET, 8 BODY_TAG, 9 ERROR_TAG,
10 INPUT_BASE, 11 OUTPUT_BASE. -/
def ltF (s : State) (j i : Nat) : Nat := s.fn 0x380011 j i

/-- The valid tasks. -/
def ltasks (s : State) : List Nat := (s.subsOf 0x380011).filter fun j => j < 64 && ltF s j 0 != 0

/-- The valid tasks of a partition. -/
def tasksOf (s : State) (p : Nat) : List Nat := (ltasks s).filter fun j => ltF s j 1 == p

/-- LOGIC_CFG's field i of partition p: 0 VALID, 1 AREA_GPA, 2 AREA_SIZE, 3 RETAIN_SIZE, 4 INSTANCE_OFFSET, 5 INSTANCE_COUNT. -/
def lgF (s : State) (p i : Nat) : Nat := s.fn 0x380010 p i

/-- A partition's retained data set. -/
def setRetain (s : State) (p : Nat) (x : Retain) : State := { s with lg := { s.lg with retain := tabPut s.lg.retain p x } }

/-! ## Forces (R417 to R420) -/

/-- The valid force rows of a partition and kind on an object: MEMBER, QUAL_MEMBER, VALUE. -/
def forcesOn (s : State) (p kind ob : Nat) : List (Nat × Nat × Nat) :=
  ((s.rows 0x380041 0).filter fun v => vB v 0 && vN v 1 == p && vN v 2 == kind && vN v 3 == ob).map fun v => (vN v 4, vN v 5, vN v 6)

/-- A force row takes effect: a change is counted, recorded and notified (R157, R419). -/
def forceSet (s : State) (row : Nat) (v : Val) : State :=
  let old := s.val 0x380041 0 row
  if old == v then s
  else
    let w := if vB v 0 then v else old
    let s := s.put 0x380041 0 row v
    let g := { s.lg with forceChanges := (s.lg.forceChanges + 1) % 4294967296, forceLast := tai s }
    let due := if forcesAll s == 0 then none else match g.forceDue with
      | some t => some t
      | none => some (s.now + 60000000000)
    seeNow (logRec { s with lg := { g with forceDue := due } } 0x01B2 (0x80 + 20) (ints [vN w 1, vN w 2, vN w 3, vN w 4])) 0x380040 0

/-- The pending force rows that take effect at a boundary of a task of partition p (R420). -/
def forceBoundary (s : State) (p : Nat) : State :=
  let hit := s.lg.forcePend.filter fun x => x.at_ ≤ s.now && (vN x.v 1 == p || vN (s.val 0x380041 0 x.row) 1 == p)
  hit.foldl (fun s x => forceSet s x.row x.v) { s with lg := { s.lg with forcePend := s.lg.forcePend.filter fun x => !hit.contains x } }

/-- An accepted force row in a pair waits for its common boundary, at local time `from_` or later; without a task of its partition none
comes, and it stands at once. -/
def forceLater (s : State) (row : Nat) (v : Val) (from_ : Nat) : State :=
  if (tasksOf s (vN v 1)).isEmpty && (tasksOf s (vN (s.val 0x380041 0 row) 1)).isEmpty then forceSet s row v
  else { s with lg := { s.lg with forcePend := s.lg.forcePend ++ [⟨row, v, from_⟩] } }

/-- Every force row cleared (R420). -/
def forceClear (s : State) : State :=
  (s.rowsOf 0x380041 0).foldl (fun s r => forceSet s r ((s.val 0x380041 0 r).set 0 (.n 0)))
    { s with lg := { s.lg with forcePend := [] } }

/-- The subscription entry a station is bound to. -/
def stationEntry (s : State) (st : Nat) : Option Nat :=
  (s.subsOf 0x290100).find? fun e => s.fb 0x290100 e 0 && s.fn 0x290100 e 14 == st

/-- The basic members of a station. -/
def stationMembers (s : State) (st : Nat) : List (Nat × Nat) :=
  match stationEntry s st with
  | some e => basicsOf (layoutOf (s.rows 0x290102 e))
  | none => []

/-- Is a force row acceptable (R417). -/
def forceOk (s : State) (v : Val) : Bool :=
  let p := vN v 1
  let ob := vN v 3
  let m := vN v 4
  !vB v 0 || ((partOf s p).st != .none &&
    match vN v 2 with
    | 0 => ob < 256 && s.fb 0x380020 ob 0 && s.fn 0x380020 ob 1 == p && m < (stationMembers s ob).length
    | 1 =>
      let l := gbBasics s ob
      let isQ (x : Nat × Nat) : Bool := x == (10, 13)
      ob < 512 && vB (gbCfg s ob) 0 && vN (gbCfg s ob) 1 == p && m < l.length &&
        (if vN v 5 == 0xFF then !l.any isQ else (match l[vN v 5]? with
          | some x => isQ x
          | none => false))
    | 2 => (boards s).contains ob && s.fn 0x400040 ob 1 == domainOf s p && m < 32
    | _ => false)

/-! ## Snapshot (R409 to R413) -/

/-- A station at a snapshot instant: state, stNum, RX_TIME, SIM, entry. -/
def stationAt (s : State) (st : Nat) (t : Int) : Station × Int × Bool × GSub :=
  match stationEntry s st with
  | none => (⟨1, 0⟩, 0, false, {})
  | some e =>
    let x := gsOf s e
    if x.st == 3 || (x.st == 2 && x.deadline + 20000 ≤ t) then (⟨3, 0⟩, x.deadline, x.simLatch, x)
    else if x.st == 2 then (⟨2, x.stNum⟩, x.rxTime, x.simLatch, x)
    else (⟨1, 0⟩, 0, false, x)

/-- The value of a member of a station before forces. -/
def memberAt (subst : List Val) (st : Nat) (x : GSub) (k : Nat) : Nat :=
  if st == 2 then nth x.slots k 0
  else match subst.find? fun v => vN v 0 == k with
    | some v => if vN v 1 == 1 then setBit (vN v 2) 10 else vN v 2
    | none => 0

/-- A station's part of an input image, and whether a member of it is forced. -/
def stationImage (s : State) (p : Nat) (prev : Tab Station) (st : Nat) (t : Int) : List Byte × Bool :=
  let (y, rx, sim, x) := stationAt s st t
  let subst := s.rows 0x380021 st
  let fs := forcesOn s p 0 st
  let n := (stationMembers s st).length
  let slot (k : Nat) : Nat := match fs.find? fun f => f.1 == k with
    | some f => f.2.2
    | none => memberAt subst y.st x k
  let forced := fs.any fun f => f.1 < n
  let old := tabGetD prev st y
  let flags := b2n (old.st != y.st) + 2 * b2n (y.st == 2 && old.stNum != y.stNum) + 4 * b2n forced + 8 * b2n sim
  (leN 2 st ++ leN 1 y.st ++ leN 1 flags ++ leN 4 y.stNum ++ leI 8 rx ++ (upto n).flatMap fun k => leN 8 (slot k), forced)

/-- The stations of a task, in image order. -/
def taskInputs (s : State) (j : Nat) : List Nat := (s.rows 0x380013 j).map fun v => vN v 0

/-- A station's state is taken (R413): a change between OK and SUBSTITUTED is recorded. -/
def stationTake (s : State) (st : Nat) (y : Station) : State :=
  let old := tabGetD s.lg.stations st {}
  let s := { s with lg := { s.lg with stations := tabPut s.lg.stations st y } }
  if (old.st == 2 && y.st == 3) || (old.st == 3 && y.st == 2) then
    logRec (if y.st == 3 then bump s 0x380023 st else s) 0x01B1 (0x80 + 20) (ints [st, old.st, y.st])
  else s

/-- The pending online writes of a task take effect in order (R424). -/
def onlineApply (s : State) (j p : Nat) : State :=
  let x := taskOf s j
  let now := x.online.filter fun w => w.2.2.2 ≤ s.now
  let s := setTask s j { x with online := x.online.filter (fun w => s.now < w.2.2.2), onlineNow := !now.isEmpty }
  now.foldl (fun s w => logRec (memWrite s p (lgF s p 1 + w.1) (leN w.2.1 w.2.2.1)) 0x01B3 (0x80 + 20) (ints [j, w.1, w.2.1, w.2.2.1])) s

/-- A logic item made ready, refused by check 1, or waiting under checks 2 and 3 (R360, R408). -/
def logicItem (s : State) (j p : Nat) (body : Bool) (d : ItemDesc) : State :=
  let x := taskOf s j
  if !descOk s p d.flow d.prio d.budget then s
  else
    let live := if body then { x with body := true } else { x with err := true }
    if x.wait.isEmpty && takesItems s p && quotaOk s p then makeReady (setTask s j live) p 0 d (.logic j body)
    else setTask s j { live with wait := x.wait ++ [(body, d)] }

/-- The logic items that wait and that checks 2 and 3 now admit. -/
def logicRelease : Nat → State → Nat → State
  | 0, s, _ => s
  | n + 1, s, j =>
    let p := ltF s j 1
    match (taskOf s j).wait with
    | [] => s
    | (body, d) :: r =>
      if unitOk s 12 && (pst s p == .running || pst s p == .stopping) && quotaOk s p then
        logicRelease n (makeReady (setTask s j { taskOf s j with wait := r }) p 0 d (.logic j body)) j
      else s

/-- ARG1 of a body (R408). -/
def bodyArg1 (s : State) (j n : Nat) (substAny forcedAny : Bool) : Nat :=
  let x := taskOf s j
  let cycle := ltF s j 3 / 1000
  let delta := if x.first || x.stepped then cycle else (n - x.cycle) * cycle
  delta % 4294967296 + 4294967296 * (b2n x.stepped + 2 * b2n x.first + 4 * (if x.first then x.restart else 0) +
    16 * b2n (x.first && x.midRun) + 32 * b2n substAny + 64 * b2n forcedAny + 128 * b2n x.onlineNow)

/-- A cycle starts: the snapshot, the forces and online changes, the error item when due, and the body (R409 to R413). -/
def snapshot (s : State) (j n : Nat) : State :=
  let p := ltF s j 1
  let t : Int := n * ltF s j 3 + ltF s j 4
  let sts := taskInputs s j
  let x := taskOf s j
  let now := sts.map fun st => (st, (stationAt s st t).1)
  let imgs := sts.map fun st => stationImage s p x.prev st t
  let left := (now.filter fun (st, y) => (tabGetD x.prev st y).st == 2 && y.st != 2).length
  let entered := (now.filter fun (st, y) => (tabGetD x.prev st y).st != 2 && y.st == 2).length
  let chg := now.any fun (st, y) => (tabGetD x.prev st y).st != y.st
  let subst := (now.filter fun (_, y) => y.st != 2).length
  let s := memWrite s p (ltF s j 10) (imgs.flatMap Prod.fst)
  let s := now.foldl (fun s (st, y) => stationTake s st y) s
  let s := onlineApply s j p
  let arg1 := bodyArg1 s j n (subst != 0) (imgs.any Prod.snd)
  let s := setTask s j { taskOf s j with
    cycle := n
    started := true
    ever := true
    snapAt := s.now
    stepped := false
    first := false
    substs := min subst 255
    forcedNow := imgs.any Prod.snd
    prev := now.foldl (fun t (st, y) => tabPut t st y) [] }
  let item (tag a0 a1 budget : Nat) : ItemDesc :=
    { arg0 := a0, arg1 := a1, tag := tag, flow := (taskOf s j).flow, prio := ltF s j 5, complete := false, budget := budget
      compRing := 0 }
  let s := if chg then logicItem s j p false (item (ltF s j 9) n (left + 65536 * entered) (ltF s j 7)) else s
  logicItem s j p true (item (ltF s j 8) n arg1 (ltF s j 6))

/-- CYCLE_BOUNDARY: a boundary of a task (R406, R407): a cycle starts, or the boundary is skipped. -/
def execCycleBoundary (dt task : Nat) (s : State) : Host.Outcome State Fault Refusal :=
  let s := advance dt s
  let n := cycleNo s task
  let x := taskOf s task
  let p := ltF s task 1
  if !(ltasks s).contains task || n ≤ x.seen || !hubLive s then done s
  else
    let s := forceBoundary (setTask s task { x with seen := n }) p
    let x := taskOf s task
    if x.ever && n ≤ x.cycle then done s
    else if x.body || pst s p != .running || !unitOk s 20 || (retainOf s p).copying then
      let s := setTask s task { x with overrun := min (x.overrun + 1) 2147483647, overrunSat := x.overrunSat || x.overrun == 2147483647 }
      if x.body then done (logRec (bump s 0x380016 task) 0x01B0 (0x80 + 20) (ints [task, n])) else done s
    else done (snapshot s task n)

/-! ## Commit (R414, R415) -/

/-- A block's image with its output forces (R418). -/
def forcedBlock (s : State) (p b : Nat) (img : List Nat) : List Nat :=
  let n := (gbBasics s b).length
  (forcesOn s p 1 b).foldl (fun l f =>
    let l := l.set f.1 f.2.2
    if f.2.1 < 255 then l.set f.2.1 (setBit (nth l f.2.1 0) 10) else l) ((upto n).map fun k => nth img k 0)

/-- A board's OUT_MASK and OUT_STATE with its forces. -/
def forcedBoard (s : State) (p b mask out : Nat) : Nat × Nat :=
  (forcesOn s p 2 b).foldl (fun (acc : Nat × Nat) f =>
    (setBit acc.1 f.1, if f.2.2 % 2 == 1 then setBit acc.2 f.1 else clrBit acc.2 f.1)) (mask, out)

/-- One output of a commit: `img` is its part of the output image. -/
def logicOut1 (s : State) (j p row kind idx : Nat) (img : List Nat) : State :=
  if kind == 0 then
    let slots := forcedBlock s p idx img
    let cs := gbClaimSlot s idx
    let n := slots.length
    let s := digAdd s p row (leN 1 2 ++ leN 2 idx ++ leN 2 n ++ (upto n).flatMap fun k => leN 8 (if cs == some k then 0 else nth slots k 0))
    gooseLogic s p idx slots
  else
    let (mask, out) := forcedBoard s p idx (nth img 0 0 % 4294967296) (nth img 1 0 % 4294967296)
    let x := taskOf s j
    if tabGet x.boards idx == some (mask, out &&& mask) || (match tabGet x.boards idx with
      | some (m, o) => (o &&& m) == (out &&& mask)
      | none => false) then s
    else
      let s := digAdd s p row (leN 1 3 ++ leN 1 idx ++ leN 4 mask ++ leN 4 out)
      let (st, s) := bolCommand s p idx mask out none true none
      if st == 0 then setTask s j { taskOf s j with boards := tabPut x.boards idx (mask, out &&& mask) } else s

/-- An output's slots as memory holds them. -/
def outSlots (s : State) (p base kind idx : Nat) : List Nat :=
  if kind == 0 then (upto (gbBasics s idx).length).map fun k => ofLe (memRead s p (base + 8 * k) 8)
  else [ofLe (memRead s p base 4), ofLe (memRead s p (base + 4) 4)]

/-- The outputs of a task in list order: the image as the body left it, given, or read from memory. -/
def logicOuts (s : State) (j p row : Nat) (given : List (List Nat)) : State :=
  if row < (stepOf s p).live then s else
  ((s.rows 0x380014 j).foldl (fun (acc : State × Nat × List (List Nat)) v =>
    let (s, base, l) := acc
    let kind := vN v 0
    let idx := vN v 1
    let img := match l with
      | x :: _ => x
      | [] => outSlots s p base kind idx
    let len := if kind == 0 then 8 * (gbBasics s idx).length else 8
    (logicOut1 s j p row kind idx img, base + len, l.tail)) (s, ltF s j 11, given)).1

/-- The commit of a task's cycle at its body's TT_DONE: the outputs, and on TZM-2 and TZM-4 the copying to the shadow (R421). -/
def logicCommit (s : State) (j row : Nat) (given : List (List Nat)) : State :=
  let p := ltF s j 1
  let s := logicOuts s j p row given
  let x := taskOf s j
  let s := setTask s j { x with timeMax := max x.timeMax (s.now - x.snapAt) }
  let s := { s with lg := { s.lg with committed := true } }
  let r := retainOf s p
  if s.ident.variant == 8 then setRetain s p { r with st := if r.st == 2 then 2 else 1, layout := (partOf s p).digest }
  else setRetain s p { r with copying := true }

/-- A copy to the shadow under way is completed: the shadow holds the retained part as of the last commit (R421). -/
def shadowDone (s : State) (p : Nat) (r : Retain) : Retain :=
  if !r.copying then r
  else { r with copying := false, shadow := memRead s p (lgF s p 1) (lgF s p 3), shadowOk := true
                st := if r.st == 2 then 2 else 1, layout := (partOf s p).digest }

/-- LOGIC_SHADOW_COPY_DONE: the shadow holds the retained part as of the last commit (R421). -/
def execLogicShadowCopyDone (dt p : Nat) (s : State) : Host.Outcome State Fault Refusal :=
  let s := advance dt s
  let r := retainOf s p
  if !r.copying || !hubLive s then done s
  else done (setRetain s p (shadowDone s p r))

/-- TRIGGER_PENDING_RELEASE: what waits under R360 and both checks now admit is made ready: the ring's triggers, and the bell and logic
items of its partition (R403, R408); the operand 256 + p names the partition's bell and logic items alone. -/
def execTriggerPendingRelease (dt ring : Nat) (s : State) : Host.Outcome State Fault Refusal :=
  let s := advance dt s
  if !hubLive s then done s
  else
    let p := if ring < 256 then rOwner s ring else ring - 256
    let s := bellItem (if ring < 256 then releasePending ((ringOf s ring).pend.length) s ring else s) p
    done ((tasksOf s p).foldl (fun s j => logicRelease 4 s j) s)

/-! ## Runs, retention and restart (R411, R421 to R425) -/

/-- Has a partition logic tasks. -/
def hasLogic (s : State) (p : Nat) : Bool := lgF s p 0 != 0 && !(tasksOf s p).isEmpty

/-- A run's cycles are abandoned: a body in service is remembered (R411, R423). -/
def logicAbandon (s : State) (p : Nat) : State :=
  let r := retainOf s p
  let mid := s.tt.run.any fun (_, x) => x.item.part == p && (match x.item.src with
    | .logic _ body => body
    | _ => false)
  let s := if hasLogic s p then setRetain s p { r with inBody := mid || r.inBody } else s
  (tasksOf s p).foldl (fun s j => setTask s j { taskOf s j with body := false, err := false, wait := [], started := false }) s

/-- Why a WARM restart cannot keep the data: 3 LAYOUT_CHANGED, 4 INVALID, 0 it can (R422). Whether the check of a copy fails is a free
value. -/
def warmFault (s : State) (p : Nat) : Nat :=
  let r := retainOf s p
  if r.layout.isEmpty || (s.ident.variant != 8 && (!r.shadowOk || Config.retainBad s.now p)) then 4
  else if Config.layoutDigest r.layout != Config.layoutDigest (partOf s p).digest then 3 else 0

/-- The octets of an image's logic data area from offset a on, as the image sets them initially. -/
def initBytes (s : State) (p a n : Nat) : List Byte := (upto n).map fun i => Config.imageByte (partOf s p).digest (a + i)

/-- A table's instance records, 32 octets each. -/
def instances32 (l : List Byte) (n : Nat) : List (List Byte) := (upto n).map fun i => (l.drop (32 * i)).take 32

/-- An instance's ID (0: an unused record) and TYPE. -/
def instKey (r : List Byte) : Nat × Nat := (ofLe (r.take 4), ofLe ((r.drop 4).take 1))

/-- An instance with BFLAGS and ACTUAL set: its ID, TYPE and PRESET stay (R416). -/
def instWith (r : List Byte) (flags : Nat) (actual : List Byte) : List Byte :=
  r.take 5 ++ leN 1 flags ++ (r.drop 6).take 10 ++ actual ++ r.drop 24

/-- An instance that starts fresh: ACTUAL 0 and of BFLAGS only FRESH (R425). -/
def instFresh (r : List Byte) : List Byte := if (instKey r).1 == 0 then r else instWith r 16 (zeros 8)

/-- A new image's instance that takes BFLAGS, but for FRESH, and ACTUAL from the old one of its ID and TYPE, if there is one (R425). -/
def instCarry (old : List (List Byte)) (r : List Byte) : List Byte :=
  match old.find? fun o => instKey o == instKey r with
  | some o => if (instKey r).1 == 0 then r else instWith r (clrBit (ofLe ((o.drop 5).take 1)) 4) ((o.drop 16).take 8)
  | none => instFresh r

/-- The instance table of a partition's image as the image sets it initially. -/
def initTable (s : State) (p : Nat) : List (List Byte) := instances32 (initBytes s p (lgF s p 4) (32 * lgF s p 5)) (lgF s p 5)

/-- A partition's instance table written. -/
def putTable (s : State) (p : Nat) (l : List (List Byte)) : State := memWrite s p (lgF s p 1 + lgF s p 4) l.flatten

/-- The instance table rebuilt when another image than the one in force when the data were saved has another table: another ID, TYPE or
PRESET in a record (R425; entry 66). -/
def rebuild (s : State) (p : Nat) : State :=
  let old := instances32 (memRead s p (lgF s p 1 + lgF s p 4) (32 * lgF s p 5)) (lgF s p 5)
  let new := initTable s p
  let preset (r : List Byte) : List Byte := (r.drop 8).take 8
  let olds := (old.map instKey).filter fun k => k.1 != 0
  let news := (new.map instKey).filter fun k => k.1 != 0
  if (retainOf s p).layout == (partOf s p).digest || (old.map instKey == new.map instKey && old.map preset == new.map preset) then s
  else
    let carried := (news.filter olds.contains).length
    logRec (putTable s p (new.map (instCarry old))) 0x01B5 64
      (ints [p, carried, news.length - carried, (olds.filter fun k => !news.contains k).length])

/-- A COLD restart's data: the image's initial values, on TZM-8 without CLEAR but for what the image retains; every instance fresh (R422,
R425). -/
def coldArea (s : State) (p : Nat) (clear : Bool) : State :=
  let g := lgF s p 1
  let keep := s.ident.variant == 8 && !clear
  let l := (upto (lgF s p 2)).map fun i =>
    if keep && Config.imageKeeps (partOf s p).digest i then memByte s p (g + i) else Config.imageByte (partOf s p).digest i
  putTable (memWrite s p g l) p ((initTable s p).map instFresh)

/-- A WARM restart's data: on TZM-2 and TZM-4 the retained part from the shadow and the rest as the image sets it; on TZM-8 as they stand
(R422). -/
def warmArea (s : State) (p : Nat) : State :=
  let s := if s.ident.variant == 8 then s
    else
      let kept := (retainOf s p).shadow.take (lgF s p 3)
      memWrite s p (lgF s p 1) (kept ++ initBytes s p kept.length (lgF s p 2 - kept.length))
  rebuild s p

/-- The restart of a partition's logic at the start of a run (R422): `1` WARM or `2` COLD was the mode used. -/
def logicStart (s : State) (p : Nat) : State :=
  if !hasLogic s p then s
  else
    let s := setRetain s p (shadowDone s p (retainOf s p))
    let r := retainOf s p
    let (want, clear) := match r.mode with
      | some (m, c) => (m, c)
      | none => (0, false)
    let why := if want == 0 then warmFault s p else 0
    let mode := if want == 0 && why == 0 then 1 else 2
    let s := if why == 0 then s else logRec s 0x01B4 64 (ints [p, why])
    let s := if mode == 1 then warmArea s p else coldArea s p clear
    let st := if why != 0 then why else if mode == 1 then 2 else r.st
    let s := setRetain s p { r with mode := none, st := st, inBody := false, copying := false }
    (tasksOf s p).foldl (fun s j => setTask s j { taskOf s j with
      first := true, started := false, restart := mode, body := false, err := false, wait := []
      midRun := s.ident.variant == 8 && r.inBody, seen := cycleNo s j, online := (taskOf s j).online }) s

/-- A commit changed the tasks (R405): each valid task of a partition that exists holds an ATOMIC flow for its life. A task whose CYCLE or PHASE changes numbers its
boundaries anew and its next DELTA counts from the commit (DESIGN CHOICE, entry 65). -/
def logicTasksCommit (o s : State) : State :=
  let s := (ltasks o).foldl (fun s j =>
    if (ltasks s).contains j && ltF s j 1 == ltF o j 1 && partValid s (ltF s j 1) then s
    else
      let f := (taskOf s j).flow
      let s := match flowOf s f with
        | some x => flowFree { s with tt := { s.tt with flows := tabPut s.tt.flows f { x with closing := true } } } f
        | none => s
      { s with lg := { s.lg with tasks := tabDel s.lg.tasks j } }) s
  ((ltasks s).filter fun j => partValid s (ltF s j 1)).foldl (fun s j =>
    if (tabGet s.lg.tasks j).isSome then
      (if ltF s j 3 == ltF o j 3 && ltF s j 4 == ltF o j 4 then s
       else setTask s j { taskOf s j with ever := false, cycle := cycleNo s j, seen := cycleNo s j })
    else match freeFlow s with
      | some (f, s) =>
        let s := { s with tt := { s.tt with flows := tabPut s.tt.flows f { owner := ltF s j 1, typ := 1, logic := true } } }
        setTask s j { flow := f, seen := cycleNo s j }
      | none => setTask s j { seen := cycleNo s j }) s

/-! ## Commands -/

/-- May an online write be accepted: RANGE or BUSY (R424). -/
def onlineCheck (s : State) (p task off size : Nat) : Nat :=
  let sized := size == 1 || size == 2 || size == 4 || size == 8
  if !((tasksOf s p).contains task && sized && off % size == 0 &&
      (s.rows 0x380012 p).any fun v => vN v 0 ≤ off && off + size ≤ vN v 0 + vN v 1) then rangeS
  else if (taskOf s task).online.length ≥ 16 then busyS else okS

/-- An online write joins the pending ones, to take effect from a local time on. -/
def onlinePend (s : State) (task off size v at_ : Nat) : State :=
  setTask s task { taskOf s task with online := (taskOf s task).online ++ [(off, size, v, at_)] }

/-- LOGIC_RESTART's effect: the partition must be STOPPED. -/
def opLogicRestart (s : State) (p mode : Nat) (clear : Bool) : Res :=
  if (partOf s p).st != .stopped then deny s stateS else good (setRetain s p { retainOf s p with mode := some (mode, clear) })

/-- LOGIC_RESTART (R422). -/
def execLogicRestart (dt : Nat) (rq : Req) (p mode : Nat) (clear : Bool) (s : State) : Host.Outcome State Fault Refusal :=
  done (doExec (advance dt s) rq 0x380031 p (fun s => opLogicRestart s p mode clear) [.n mode, .n (b2n clear)])

/-- The notice just queued on a session is watched until it is transmitted (R488). -/
def noticeFor (s : State) (n : Nat) : State :=
  let q := match sessOf s n with
    | some se => (match se.nq.getLast? with
      | some m => if m.addr == addrOf 0x380040 0 && m.time == tai s then m.seq else 0
      | none => 0)
    | none => 0
  { s with lg := { s.lg with noticeOut := s.lg.noticeOut ++ [(n, q, s.now + 1000000000)] } }

/-- Has a watched notice been transmitted, or has its session gone. -/
def noticeSent (s : State) (n seq : Nat) : Bool :=
  match sessOf s n with
  | none => true
  | some se => seq != 0 && !se.unacked.any fun m => m.seq == seq && m.gap == 0

/-- FORCE_NOTIFY_PERIODIC: every 60 s while a row is valid, every open session is owed a notification (R419, R488). -/
def execForceNotifyPeriodic (dt : Nat) (s : State) : Host.Outcome State Fault Refusal :=
  let s := advance dt s
  if !dueBy s s.lg.forceDue || !hubLive s || forcesAll s == 0 then done s
  else
    let s := { s with lg := { s.lg with forceDue := some (s.now + 60000000000) } }
    let bs := curBytes s 0x380040 0
    let m : Notif := { kind := 0, seq := 0, addr := addrOf 0x380040 0, typ := 0x10, bytes := bs }
    done ((s.jal.sess.map Prod.fst).foldl (fun s n => noticeFor (notify s n m) n) s)

/-- The counters Logic clears (R30). -/
def opLogicReset (s : State) : Res :=
  good (clearCtrs (clearCtrs s 0x380016 0x380016 none) 0x380023 0x380023 none)

/-- LOGIC_COUNTERS_RESET: clears the counters of area 38 (R30). -/
def execLogicCountersReset (dt : Nat) (rq : Req) (s : State) : Host.Outcome State Fault Refusal :=
  done (doExec (advance dt s) rq 0x380050 0 opLogicReset)

/-- The cycles' share of the window read as cleared on reading: LG_OVERRUN of slot k (R406). -/
def lgOverrunClear (s : State) (p k : Nat) : State :=
  match (tasksOf s p).find? fun j => ltF s j 2 == k with
  | some j => setTask s j { taskOf s j with overrun := 0, overrunSat := false }
  | none => s

end Sys2Proof.Machine
end

