-- ==== Sys2Proof/Machine/Record.lean ====
section
/-! DEFINITION. The recorders of the capture engine (R546 to R558): channels, the staging buffer, fault and trend recorders, and their
samples at the completion of conditioning; the handing of a released row to conditioning. -/

namespace Sys2Proof.Machine

/-! ## Configuration -/

/-- A recorder's run set. -/
def setRec (s : State) (k : Nat) (x : Recorder) : State := { s with cap := { s.cap with recs := tabPut s.cap.recs k x } }

/-- Roll-call sub 16 is DEGRADED while a recorder is FULL (R562). -/
def judgeCap (s : State) : State := judgeUnit s 16 ((recorders s).any fun k => (recOf s k).st == 3)

/-! ## Values of channels (R546, R547) -/

/-- The value and quality of an analog channel in row r. -/
def capAnalog (s : State) (r a : Nat) : Int × Nat :=
  let v := s.val 0x5C0010 a 0
  if !vB v 0 then (0, qNone)
  else if vN v 1 == 0 then
    let x := tabGetD (planRow s r).seats (vN v 2) {}
    (nth x.values (vN v 3) 0, nth x.quality (vN v 3) qNone)
  else match s.cap.gvals.find? fun (q, _) => q == r with
    | some (_, t) =>
      let y := nth (tabGetD t (vN v 2) (0, [])).2 (vN v 3) { q := qNone }
      (y.v, y.q)
    | none => (0, qNone)

/-- The present state of a binary channel. -/
def capBinary (s : State) (b : Nat) : Bool :=
  let v := s.val 0x5C0011 b 0
  if !vB v 0 then false
  else if vN v 1 == 0 then bit (tabGetD s.cap.pickup (vN v 2) 0) (vN v 4)
  else if vN v 1 == 1 then bit (nth (gsOf s (vN v 2)).slots (vN v 3) 0) (vN v 4)
  else (gsOf s (vN v 2)).st == 2

/-- The groups that captured channels name. -/
def capGroups (s : State) : List Nat :=
  ((s.subsOf 0x5C0010).filterMap fun a => if s.fb 0x5C0010 a 0 && s.fn 0x5C0010 a 1 == 1 then some (s.fn 0x5C0010 a 2) else none).foldl adjoin []

/-- The outputs of row r are kept for the samples of the next 16 rows (R549). -/
def capKeep (s : State) (r : Nat) (dn : Bool) : State :=
  let t := (capGroups s).foldl (fun t g => tabPut t g (gFlags s dn g, if dn then (gChans s g).map fun _ => {} else (gOut s g).vals)) []
  { s with cap := { s.cap with gvals := ((r, t) :: s.cap.gvals).take 17 } }

/-- SFLAGS bits 12 to 0 of row r for a recorder: the row's own flags, and those its channels give (R289, R550). -/
def capFlags (s : State) (k r : Nat) : Nat :=
  let row := planRow s r
  let chans := (rcAnalog s k).map fun a => s.val 0x5C0010 a 0
  let seats := chans.filterMap fun v => if vB v 0 && vN v 1 == 0 then some (tabGetD row.seats (vN v 2) {}) else none
  let t := match s.cap.gvals.find? fun (q, _) => q == r with
    | some (_, t) => t
    | none => []
  let gs := chans.filterMap fun v => if vB v 0 && vN v 1 == 1 then some (tabGetD t (vN v 2) (0, [])).1 else none
  row.tq + 4 * b2n row.stepped + 8 * b2n row.gapped + 16 * b2n row.uneq + 32 * b2n (seats.any (·.filled)) + 128 * b2n row.late +
    512 * b2n (gs.any (bit · 1)) + 1024 * b2n (gs.any (bit · 2)) + 2048 * b2n (gs.any (bit · 5)) +
    4096 * b2n (seats.any fun x => x.quality.any fun q => bit q 27)

/-! ## The staging buffer (R551, R555) -/

/-- Since the last sample the buffer has drained by an amount the manual does not state. -/
def capDrain (s : State) : State :=
  let (n, s) := fresh s
  { s with cap := { s.cap with fill := s.cap.fill - n % (s.cap.fill + 1) } }

/-- Has the staging buffer room for n bytes. -/
def capStage (s : State) (n : Nat) : Bool := s.cap.fill + n ≤ 262144

/-- A sample is staged. -/
def capStaged (s : State) (n : Nat) : State := { s with cap := { s.cap with fill := s.cap.fill + n } }

/-! ## Space and records (R553 to R556) -/

/-- Bytes that a list of a record's samples, all of one length, takes (R550). -/
def samplesLen (l : List Sample) : Nat :=
  match l with
  | [] => 0
  | y :: _ => l.length * ((16 + 4 * y.vals.length + 4 * ceilDiv y.qbits.length 32 + 4 * ceilDiv y.bins.length 32 + 7) / 8 * 8)

/-- Bytes of a recorder's area that its retained records and the record in progress take. -/
def capUsed (s : State) (k : Nat) : Nat :=
  let x := recOf s k
  sumN (x.recs.map fun r => samplesLen r.samples) + samplesLen x.cur

/-- Room for n more samples beside the pre-trigger store; under OVERWRITE the oldest records that are not protected are released. -/
def capRoom : Nat → State → Nat → Nat → Bool × State
  | 0, s, _, _ => (false, s)
  | f + 1, s, k, n =>
    if capUsed s k + (n + rcF s k 5) * rcLen s k ≤ rcF s k 4 then (true, s)
    else if rcF s k 9 == 1 then (false, s)
    else
      let x := recOf s k
      match x.recs.find? fun r => !r.prot && !r.held with
      | none => (false, s)
      | some r => capRoom f (logRec (setRec s k { x with recs := x.recs.filter fun y => y.num != r.num }) 0x0212 (0x80 + 16) (ints [k, r.num])) k n

/-- The record in progress ends and is retained. -/
def recEnd (s : State) (k flags : Nat) : State :=
  let x := recOf s k
  if x.cur.isEmpty then setRec s k { x with st := 1, left := 0 }
  else
    let gap := x.cur.any fun y => bit y.flags 13
    let r : CapRec := { num := x.nextNum, samples := x.cur.reverse, trigRow := x.trigRow, trigTime := x.trigTime
                        flags := x.flags ||| flags ||| 32 * b2n gap }
    logRec (setRec s k { x with st := 1, cur := [], pre := [], left := 0, flags := 0, recs := x.recs ++ [r], nextNum := x.nextNum + 1 })
      0x0210 (0x80 + 16) (ints [k, x.nextNum])

/-- The record in progress ends because storage cannot keep up: at its last written sample, with OVERFLOW. -/
def recOverflow (s : State) (k : Nat) (wait : Bool) : State :=
  let x := recOf s k
  let cur := match x.cur with
    | y :: l => { y with flags := setBit y.flags 15 } :: l
    | [] => []
  let s := recEnd (setRec s k { x with cur := cur }) k 1
  let s := logRec (bump s 0x5C0052 k) 0x0211 (0x80 + 16) (ints [k])
  judgeCap (setRec s k { recOf s k with st := 3, ovfWait := wait })

/-- A trigger found the recorder FULL or OFF (R554). -/
def trigLost (s : State) (k : Nat) : State := logRec (bump s 0x5C0051 k) 0x0214 (0x80 + 16) (ints [k])

/-- A trigger links the recorders its mask names: each takes it at its own next sample (R552). -/
def trigLink (s : State) (k : Nat) : State :=
  ((upto 16).filter fun m => bit (rcF s k 11) m && m != k).foldl (fun s m =>
    if recState s m == 0 then trigLost s m else setRec s m { recOf s m with linked := true }) s

/-- A sample of the record in progress. -/
def recWrite (s : State) (k : Nat) (y : Sample) : State :=
  if !capStage s (rcLen s k) then recOverflow s k true
  else match capRoom ((recOf s k).recs.length + 1) s k 1 with
    | (false, s) => recOverflow s k false
    | (true, s) => setRec (capStaged s (rcLen s k)) k { recOf s k with cur := y :: (recOf s k).cur }

/-- The last PRE samples held: those lost shorten them (R553, R555). -/
def preOf (s : State) (k : Nat) : List Sample := ((recOf s k).pre.take (rcF s k 5)).filterMap id

/-- A trigger in ARMED: the record starts with the pre-trigger samples held. -/
def recStart (s : State) (k r : Nat) (y : Sample) : State :=
  let pre := preOf s k
  if !capStage s (rcLen s k) then trigLost s k
  else match capRoom ((recOf s k).recs.length + 1) s k (pre.length + 1) with
    | (false, s) => judgeCap (trigLost (setRec s k { recOf s k with st := 3 }) k)
    | (true, s) =>
      let s := setRec (capStaged s (rcLen s k)) k { recOf s k with
        st := 2, cur := y :: pre, pre := [], left := rcF s k 6, trigRow := r, trigTime := rowTime s r
        flags := 2 * b2n (decide (pre.length < rcF s k 5)) }
      if rcF s k 6 == 0 then recEnd s k 0 else if pre.length + 1 ≥ rcF s k 7 then recEnd s k 8 else s

/-- A sample in RECORDING: a trigger moves the end or is counted; the record ends after POST samples, or at MAX_LEN. -/
def recRun (s : State) (k : Nat) (y : Sample) (trig : Bool) : State :=
  let again := trig && rcF s k 8 != 0
  let s := if trig && !again then bump s 0x5C0050 k else s
  let s := recWrite s k y
  let x := recOf s k
  if x.st != 2 then s
  else
    let left := if again then rcF s k 6 else x.left - 1
    let s := setRec s k { x with left := left, flags := x.flags ||| 4 * b2n again }
    if left == 0 then recEnd s k 0 else if x.cur.length ≥ rcF s k 7 then recEnd s k 8 else s

/-- Bit i of an octet string. -/
def octBit (l : List Byte) (i : Nat) : Bool := bit (nth l (i / 8) 0).toNat (i % 8)

/-- The condition C of R552. -/
def trigCond (s : State) (k : Nat) (bins : List Bool) : Bool :=
  let v := s.val 0x5C0023 k 0
  (upto 256).all fun i => !octBit (vO v 1) i || nth bins i false == octBit (vO v 0) i

/-- Does the sample trigger by its own condition. -/
def trigOwn (s : State) (k : Nat) (c p : Bool) : Bool :=
  let v := s.val 0x5C0023 k 0
  (vO v 1).any (· != 0) && (if rcF s k 10 == 0 then c else if rcF s k 10 == 1 then c && !p else !c && p)

/-- A fault recorder takes its sample of row r (R549 to R556). -/
def takeFault (s : State) (k r : Nat) : State :=
  let x := recOf s k
  let vals := (rcAnalog s k).map (capAnalog s r)
  let bins := (rcBinary s k).map (capBinary s)
  let c := trigCond s k bins
  let trig := trigOwn s k c (x.prevC && !x.gap) || x.linked || x.manual
  let y : Sample := { row := r, flags := capFlags s k r + 8192 * b2n x.gap + 16384 * b2n trig, interval := 0, vals := vals.map Prod.fst
                      qbits := vals.map fun (_, q) => q % 4 != 0, bins := bins }
  let s := setRec s k { x with prevC := c, gap := false, linked := false, manual := false }
  let s := if trig then trigLink s k else s
  match x.st with
  | 1 =>
    if trig then recStart s k r y
    else if capStage s (rcLen s k) then
      setRec (capStaged s (rcLen s k)) k { recOf s k with pre := (some y :: (recOf s k).pre).take (rcF s k 5) }
    else setRec s k { recOf s k with pre := (none :: (recOf s k).pre).take (rcF s k 5) }
  | 2 => recRun s k y trig
  | _ => if trig then trigLost s k else s

/-! ## Trend recorders (R557, R558) -/

/-- One channel's trend values: MEAN, then MIN and MAX with MINMAX; and its Q bit. -/
def trendChan (s : State) (k : Nat) (l : List (Int × Nat)) : List Int × Bool :=
  let ok := (l.filter fun (_, q) => q % 4 != 1).map Prod.fst
  let mm := rcF s k 14 != 0
  match ok with
  | [] => (if mm then [0, 0, 0] else [0], true)
  | v :: t =>
    let mean := (sat32 (divRound ((v :: t).foldl (fun a x => a + x * 2 ^ rcF s k 13) 0) (v :: t).length)).1
    (if mm then [mean, t.foldl min v, t.foldl max v] else [mean], l.any fun (_, q) => q % 4 != 0)

/-- Samples' row flags together: the worst time quality, every other flag that one of them carries. -/
def flagsJoin (l : List Nat) : Nat := maxN (l.map (· % 4)) + 4 * (l.foldl (fun a f => a ||| (f / 4)) 0)

/-- A trend sample joins the recorder's area, over its oldest samples; a full buffer loses it. -/
def trendPut (s : State) (k : Nat) (y : Sample) : State :=
  let x := recOf s k
  let n := max 1 (rcF s k 4 / max 1 (rcLen s k))
  if !capStage s (rcLen s k) then
    setRec (logRec (bump s 0x5C0052 k) 0x0211 (0x80 + 16) (ints [k])) k { x with ovf := true }
  else
    let y := if x.ovf then { y with flags := setBit y.flags 15 } else y
    setRec (capStaged s (rcLen s k)) k { x with trend := (y :: x.trend).take n, ovf := false }

/-- At boundary row b, every trend recorder is to halve its rate from the next boundary of the new interval. -/
def trendHalve (s : State) (b : Nat) : State :=
  ((recorders s).filter fun k => rcF s k 1 == 1).foldl (fun s k =>
    let x := recOf s k
    if x.newInterval.isSome || x.interval * 2 > 256 * rcF s k 12 then s else setRec s k { x with newInterval := some (x.interval * 2), newAfter := b }) s

/-- The new interval begins at boundary row b when b is one of its own boundaries after its decision: a marker sample and a record. -/
def trendSwitch (s : State) (k b : Nat) : State :=
  let x := recOf s k
  match x.newInterval with
  | none => s
  | some n =>
    if b % (n * max 1 (rcF s k 2)) != 0 || b ≤ x.newAfter then s
    else
      let s := if n > x.interval then bump s 0x5C0053 k else s
      let s := setRec s k { x with interval := n, newInterval := none }
      let s := trendPut s k { row := b, flags := 65536, interval := n, vals := [], qbits := [], bins := [] }
      logRec s 0x0213 (0x80 + 16) (ints [k, n])

/-- The samples of an interval become one trend sample; b is the boundary after it. -/
def trendEmit (s : State) (k b : Nat) : State :=
  let x := recOf s k
  let l := x.acc.reverse
  match l with
  | [] => trendSwitch s k b
  | (r0, _) :: _ =>
    let step := max 1 (x.interval * rcF s k 2)
    let chans := (upto (rcAnalog s k).length).map fun i => trendChan s k (l.map fun (_, _, vs, _) => nth vs i (0, qNone))
    let bins := (upto (rcBinary s k).length).map fun i => l.any fun (_, _, _, bs) => nth bs i false
    let y : Sample := { row := r0 / step * step, flags := flagsJoin (l.map fun (_, f, _) => f), interval := 0
                        vals := (chans.map Prod.fst).flatten, qbits := chans.map Prod.snd, bins := bins }
    let s := trendPut (setRec s k { x with acc := [] }) k y
    let s := if 4 * s.cap.fill > 3 * 262144 then trendHalve s b else s
    trendSwitch s k b

/-- A trend recorder takes its sample of row r. -/
def takeTrend (s : State) (k r : Nat) : State :=
  let div := max 1 (rcF s k 2)
  let x := recOf s k
  let step := max 1 (x.interval * div)
  let s := match x.acc with
    | (q, _) :: _ => if q / step == r / step then s else trendEmit s k (r / step * step)
    | [] => s
  let x := recOf s k
  let y := (r, capFlags s k r + 8192 * b2n x.gap, (rcAnalog s k).map (capAnalog s r), (rcBinary s k).map (capBinary s))
  let s := setRec s k { x with acc := y :: x.acc, gap := false }
  if (r + div) % max 1 ((recOf s k).interval * div) == 0 then trendEmit s k (r + div) else s

/-! ## Sampling (R549) -/

/-- A recorder that is valid and OFF is armed. -/
def recArm (s : State) (k : Nat) : State :=
  let x := recOf s k
  if x.st != 0 then s
  else setRec s k { x with st := 1, pre := [], cur := [], acc := [], last := none, prevC := false, gap := false, interval := rcF s k 12, newInterval := none }

/-- A recorder's samples that fall due at the completion of row c. -/
def recCatch (c : Nat) (s : State) (k : Nat) : State :=
  let s := recArm s k
  let x := recOf s k
  let top := c - rcF s k 3
  if c < rcF s k 3 then s
  else
    let rows := match x.last with
      | none => [top]
      | some l => ((upto 64).map fun i => top + i - 63).filter fun r => r > l
    let gap := match x.last with
      | none => false
      | some l => top > l + 64
    let s := setRec s k { x with last := some (max top (x.last.getD 0)), gap := x.gap || gap }
    (rows.filter fun r => r % max 1 (rcF s k 2) == 0).foldl (fun s r =>
      let s := { s with cap := { s.cap with sampled := some (max r (s.cap.sampled.getD 0)) } }
      if !(planRow s r).released then setRec s k { recOf s k with gap := true }
      else if rcF s k 1 == 0 then takeFault s k r else takeTrend s k r) s

/-- The completion of conditioning of row c, or its passing while the unit does not work (`dn`): every recorder's sample; none is taken
while a disable drains the unit (R91). -/
def captureRow (s : State) (c : Nat) (dn : Bool) : State :=
  if !capOn s || !unitTakes s 16 || (recorders s).isEmpty then s
  else
    let s := capKeep (capDrain s) c dn
    let s := (recorders s).foldl (recCatch c) s
    let low := if s.cap.fill ≥ 32768 then none else some (s.cap.lowSince.getD s.now)
    { s with cap := { s.cap with lowSince := low } }

/-! ## Rows released (R291 to R293) -/

/-- The images of row r are written and the recorders sample; outbound streams with group sources go on only when the row was
conditioned. -/
def rowDone (s : State) (r : Nat) (dn : Bool) : State :=
  rowView s r fun s => captureRow (if dn then imgAll s r true else osRow (imgAll s r false) r true) r dn

/-- A row passes without conditioning: its group items carry COND_DOWN. -/
def rowDown (s : State) (r : Nat) : State := rowDone (cfgCatch s.cond.oldCfg.length s r) r true

/-- The rows that wait behind the last one in conditioning pass without it. -/
def downAll (s : State) : State :=
  let l := s.cond.down
  l.foldl rowDown { s with cond := { s.cond with down := [] } }

/-- The conditioning unit stops: the rows it holds pass without conditioning (R293). -/
def condStop (s : State) : State :=
  let q := s.cond.queue
  downAll (q.foldl rowDown { s with cond := { s.cond with queue := [] } })

/-- A released row goes to conditioning. While the unit does not work, or refuses new work (R91), its images carry no conditioned
values (R293); they follow those of the rows before it. -/
def condRelease (s : State) (r : Nat) : State :=
  if unitTakes s 9 then { s with cond := { s.cond with queue := s.cond.queue ++ [r] } }
  else if condUp s && !s.cond.queue.isEmpty then { s with cond := { s.cond with down := s.cond.down ++ [r] } }
  else rowDown s r

end Sys2Proof.Machine
end

