-- ==== Sys2Proof/Machine/Signed.lean ====
section
/-! DEFINITION. Trust anchors and the judging of signed objects (R492 to R496). -/

namespace Sys2Proof.Machine

/-- An anchor row in use: in OPERATIONAL the row as it stood at the hub's start (R493). -/
def anchorOf (s : State) (a : Nat) : Val :=
  if life s == 2 then (match s.vault.anchorsInUse.find? fun (n, _) => n == a with
    | some (_, v) => v
    | none => s.val 0x480030 a 0)
  else s.val 0x480030 a 0

/-- Is a hash that of a named anchor of an algorithm: 0xFF names the ROM's key (R494); the owner's rows are used in PROVISIONED and
OPERATIONAL only (R510). -/
def anchorIs (s : State) (a alg : Nat) (hash : List Byte) : Bool :=
  if a == 0xFF then hash == (if alg == 0 then s.ident.romRsa else s.ident.romSlh)
  else
    let v := anchorOf s a
    a < 8 && (life s == 1 || life s == 2) && vB v 0 && vN v 2 == alg && vO v 3 == hash

/-- Does an anchor carry the USE that a KIND requires: KIND 1 the ROM's key, KIND 2 IMAGE_SIGNER, KIND 3 BUNDLE_SIGNER. -/
def anchorServes (s : State) (kind a : Nat) : Bool :=
  if kind == 1 then a == 0xFF else a < 8 && bit (vN (anchorOf s a) 1) (if kind == 2 then 1 else 2)

/-- The SHA-384 of an RSA public key as the trailer lays it out (R494, R495). -/
def rsaHash (o : SignedObj) : List Byte := sha384 (padTo 384 o.rsaN ++ leN 4 o.rsaE)

/-- The SHA-384 of an SLH-DSA public key. -/
def slhHash (o : SignedObj) : List Byte := sha384 (padTo 48 o.slhPk)

/-- The first check of R495 a signed object fails for a loader of kind `kind` with the minimum `lo`; 0 when it is accepted. A vault in
FAULT verifies no signature (R518). -/
def signedFail (s : State) (kind lo : Nat) (o : SignedObj) : Nat :=
  if !(o.magic == [0x54, 0x5A, 0x53, 0x47] && o.version == 1 && o.kind == kind) then 1
  else if !anchorIs s o.rsaAnchor 0 (rsaHash o) then 2
  else if !anchorIs s o.slhAnchor 1 (slhHash o) then 3
  else if !(anchorServes s kind o.rsaAnchor && anchorServes s kind o.slhAnchor) then 4
  else if o.running != o.digest then 5
  else if !o.sigsOk || unitSt s 0 == .fault then 6
  else if o.svn < lo then 7 else 0

/-- A signed object judged: a failure counts and is recorded with its check. -/
def verifyObj (s : State) (kind lo : Nat) (o : SignedObj) : Bool × State :=
  let c := signedFail s kind lo o
  if c == 0 then (true, s) else (false, logRec (bump s 0x480060 0) 0x01E9 0x80 (ints [c, kind]))

end Sys2Proof.Machine
end

