-- ==== Sys2Proof/Machine/Carry.lean ====
section
/-! DEFINITION. What a migration carries (R350, R351, R451): a partition's memory and contexts, gathered at the source and taken over at
the destination. -/

namespace Sys2Proof.Machine

/-! ## At the source -/

/-- A partition's frames that count as accepted work: not a block's retransmissions (R341). -/
def workFrames (s : State) (p : Nat) : Bool :=
  s.net.ports.any fun (_, x) => (x.q ++ x.lq ++ x.wire.toList).any fun f => f.part == p && (match (jobOf s f.job).owner with
    | .goose _ none false => false
    | _ => true)

/-- Has a partition nothing in the hands of an engine: no commit on its way into a ring, DMA operation, frame or board command. -/
def enginesClear (s : State) (p : Nat) : Bool :=
  !s.tt.waitRel.any (fun h => h.part == p) && !s.tt.dma.any (fun (_, o) => o.part == p) && !workFrames s p &&
    !(s.pair.bol.q ++ s.pair.bol.bus.toList ++ s.pair.bol.echo.toList).any fun c => c.part == p

/-- An item as a migration carries it: its logic task named by its slot. -/
def carryItem (s : State) (it : Item) : Item :=
  match it.src with
  | .logic j body => { it with src := .logic (ltF s j 2) body }
  | _ => it

/-- A partition's regions: addresses and lengths. -/
def regionSpans (s : State) (p : Nat) : List (Nat × Nat) := ((s.rows 0x300011 p).filter fun v => vN v 1 != 0).map fun v => (vN v 0, vN v 1)

/-- The groups a partition's map names. -/
def mapGroups (s : State) (p : Nat) : List Nat := (imgMap s p).filterMap fun (k, g) => if k == 1 then some g else none

/-- The profiles of a partition's mapped groups (R344): number, active bank, state, swap row. -/
def mapProfiles (s : State) (p : Nat) : List (Nat × Nat × Nat × Nat) :=
  (((mapGroups s p).map (gProf s)).foldl adjoin []).map fun f => (f, (profOf s f).active, (profOf s f).st, (profOf s f).swapRow)

/-- The final marked granules and the contexts of a partition (R350). -/
def carryCtx (s : State) (p : Nat) : MigCtx :=
  let flows := s.tt.flows.filter fun (_, f) => f.owner == p && !f.logic
  { spans := dirtySpans s p
    cells := memCells s p (dirtySpans s p)
    dmaUsed := dmaCount s p
    profiles := mapProfiles s p
    rings := s.tt.rings.filter fun (q, _) => rOwner s q == p
    ready := (s.tt.ready.filter fun i => i.part == p).map (carryItem s)
    held := s.tt.held.filter fun h => h.part == p
    flows := flows
    holdRes := holdRes s p
    blocks := s.pub.blocks.filter fun (b, _) => vN (gbCfg s b) 1 == p
    tasks := (tasksOf s p).map fun j =>
      let x := taskOf s j
      (ltF s j 2, { x with online := x.online.map fun (o, z, v, t) => (o, z, v, t - s.now) })
    forces := (s.rowsOf 0x380041 0).filterMap fun r =>
      let v := s.val 0x380041 0 r
      if vB v 0 && vN v 1 == p then some (r, v) else none
    lastRow := lastImg s p }

/-! ## At the destination -/

/-- The first item number beyond those that a context names. -/
def carryTop (c : MigCtx) : Nat :=
  1 + maxN (c.ready.map (·.num) ++ c.held.map (·.item) ++ c.flows.flatMap fun (_, f) => f.order ++ f.ended.map (·.item.num))

/-- Does the destination not admit a context: another owner holds a flow number that it brings, there is no room for its force rows, its DMA
tags exceed DMA_CAP, or its profiles stand differently here: the restore fails (DESIGN CHOICE, entry 60). -/
def carryFails (s : State) (p : Nat) (c : MigCtx) : Bool :=
  (c.flows.any fun (n, _) => match flowOf s n with
    | some f => f.owner != p || f.logic
    | none => false) ||
  ((s.rows 0x380041 0).filter fun v => vB v 0 && vN v 1 != p).length + c.forces.length > 1024 ||
  c.dmaUsed > pcfg s p 11 || c.profiles != mapProfiles s p

/-- The task of a partition at a slot. -/
def carryTask (s : State) (p slot : Nat) : Option Nat := (tasksOf s p).find? fun j => ltF s j 2 == slot

/-- An item as the destination takes it over: its number beyond `base`, its partition, its logic task and that task's flow. -/
def landItem (s : State) (p base : Nat) (it : Item) : Option Item :=
  let it := { it with num := it.num + base, part := p, atNow := s.now }
  match it.src with
  | .logic k body => (carryTask s p k).map fun j => { it with src := .logic j body, d := { it.d with flow := (taskOf s j).flow } }
  | _ => some it

/-- The timetable's contexts: rings, ready items, flows, held commits. -/
def landTt (s : State) (p : Nat) (c : MigCtx) : State :=
  let base := s.tt.nextItem
  let flows := c.flows.map fun (n, f) => (n, { f with
    owner := p
    closeDue := if f.closing then some (s.now + s.vn 0x300003 0) else none
    order := f.order.map (· + base)
    ended := f.ended.map fun e => { e with item := { e.item with num := e.item.num + base, part := p } } })
  let old := s.tt.flows.filter fun (_, f) => f.owner != p || f.logic
  { s with tt := { s.tt with
      nextItem := base + carryTop c
      ready := s.tt.ready.filter (fun i => i.part != p) ++ c.ready.filterMap (landItem s p base)
      held := s.tt.held.filter (fun h => h.part != p) ++ c.held.map fun h => { h with item := h.item + base, part := p }
      flows := flows.foldl (fun t (n, f) => tabPut t n f) old
      holdRes := tabPut s.tt.holdRes p c.holdRes
      rings := (c.rings.filter fun (q, _) => rOwner s q == p).foldl (fun t (q, r) => tabPut t q { r with at_ := [], takenAt := s.now })
        (s.tt.rings.filter fun (q, _) => rOwner s q != p) } }

/-- A logic task's run taken over: its flow is the destination's, and the boundaries since the source last judged one count as skipped. -/
def landTask (s : State) (p : Nat) (k : Nat) (x : Task) : State :=
  match carryTask s p k with
  | none => s
  | some j =>
    let f := (taskOf s j).flow
    let n := cycleNo s j - x.seen
    setTask s j { x with
      flow := f
      seen := cycleNo s j
      snapAt := s.now
      overrun := min (x.overrun + n) 2147483647
      overrunSat := x.overrunSat || x.overrun + n > 2147483647
      wait := x.wait.map fun (b, d) => (b, { d with flow := f })
      online := x.online.map fun (o, z, v, t) => (o, z, v, t + s.now) }

/-- The lowest free row of the force table. -/
def freeForce (s : State) : Nat := ((upto 1024).find? fun r => !vB (s.val 0x380041 0 r) 0).getD 1023

/-- The force rows of the partition become those of the source: at the same row where it is free, else at the lowest free one. -/
def landForces (s : State) (p : Nat) (c : MigCtx) : State :=
  let want := c.forces.map fun (r, v) => (r, v.set 1 (.n p))
  let stays (r : Nat) : Bool := want.any fun (q, v) => q == r && s.val 0x380041 0 r == v
  let s := (s.rowsOf 0x380041 0).foldl (fun s r =>
    let v := s.val 0x380041 0 r
    if vB v 0 && vN v 1 == p && !stays r then forceSet s r (v.set 0 (.n 0)) else s) s
  want.foldl (fun s (r, v) =>
    if s.val 0x380041 0 r == v then s else forceSet s (if vB (s.val 0x380041 0 r) 0 then freeForce s else r) v) s

/-- A partition takes over what its migration carried (R351). -/
def land (s : State) (p : Nat) (c : MigCtx) : State :=
  let s := landTt (memTake s p c.spans c.cells) p c
  let s := (c.blocks.filter fun (b, _) => vN (gbCfg s b) 1 == p).foldl (fun s (b, g) =>
    setGb s b { g with held := none, heldSlots := [] }) s
  let s := c.tasks.foldl (fun s (k, x) => landTask s p k x) s
  setImg (landForces s p c) p { imgOf s p with lastRow := c.lastRow }

end Sys2Proof.Machine
end

