-- ==== Sys2Proof/Machine/Parts.lean ====
section
/-! DEFINITION. Partitions (R322 to R354): states, start, stop and drain, faults, fences, migration. -/

namespace Sys2Proof.Machine

/-! ## States (R322, R323) -/

/-- Why a state changed, as code 0x0190 records it. -/
inductive Why where
  | commit | start | verified | verify | stop | drained | reset | fence | fault | timeout | migration

/-- The number of a cause. -/
def Why.code : Why → Nat
  | .commit => 1 | .start => 2 | .verified => 3 | .verify => 4 | .stop => 5 | .drained => 6 | .reset => 7 | .fence => 8 | .fault => 9
  | .timeout => 10 | .migration => 11

/-- A partition's state set, with its record and notification (R323); one that stops being RUNNING leaves step (R448). -/
def toSt (s : State) (p : Nat) (st : PSt) (why : Why) : State :=
  let x := partOf s p
  if x.st == st then s
  else
    let s := seeNow (logRec (setPart s p { x with st := st }) 0x0190 64 (ints [p, x.st.code, st.code, why.code])) 0x300020 p
    if x.st == .running then stepStop s p else if st == .running then imageTell s p else s

/-! ## Migration messages and ends (R343 to R354) -/

/-- A partition's migration set. -/
def setMig (s : State) (p : Nat) (m : Mig) : State := setPart s p { partOf s p with mig := m }

/-- A migration message of partition p leaves on its path: the IUL, or a process-bus port to its peer (R345). -/
def sendMig (s : State) (p : Nat) (m : MigMsg) : State :=
  let x := (partOf s p).mig
  if x.path == 0 then sendIul s (.mig m) else sendPb s (x.path - 1) x.peer m

/-- A pre-copy round of partition p: its granules go out as they stand, and the dirty map is read and cleared for them (R346). -/
def roundSend (s : State) (p : Nat) (spans : List (Nat × Nat)) : State :=
  dirtyClear (sendMig s p (.round (partOf s p).mig.dest spans (memCells s p spans))) p

/-- The handover of a domain that a migration began takes place no more (R348, R354). -/
def hoCancel (s : State) (d : Nat) : State :=
  let s := hoEnd s d abortedS
  setClaim s d { claimOf s d with acked := false, hoPending := false, hoIn := none }

/-- A start, freeze, resume or abort recorded: 1 start, 2 freeze, 3 resume, 4 abort. -/
def migLog (s : State) (p what reason : Nat) : State := logRec s 0x0192 64 (ints [p, what, reason])

/-- The migration unit's key register is cleared (R508). -/
def migKeyClear (s : State) : State := { s with vault := { s.vault with migKey := none, migDraw := none, migPeer := none } }

/-- MIG_START's EXEC ends when MIG_STATE reaches DONE or ABORTED. -/
def migEnd (s : State) (p status : Nat) : State :=
  let m := (partOf s p).mig
  let s := setMig (migKeyClear s) p { m with rq := none }
  match m.rq with
  | some (n, r) => execEnd s n r status []
  | none => s

/-- A migration aborts (R354): the source runs on, the destination returns to STOPPED. Reasons of MIG_LAST: 1 image digest, 2 allowances,
3 rows since restart, 4 profiles, 5 BASE_RATE, 6 rounds, 7 path, 8 command, 9 SOURCE_FAULT, 10 destination, 11 stop or reset, 12 AUTH. -/
def migAbort (s : State) (p reason : Nat) (tell : Bool) : State :=
  let m := (partOf s p).mig
  let s := if tell then sendMig s p (.abort m.dest reason) else s
  let s := if !m.import_ && ((partOf s p).st == .frozen || (partOf s p).st == .restoring) then hoCancel s (domainOf s p) else s
  let s := setMig s p { (partOf s p).mig with st := 6, reason := reason, hand := false, freeze := false, ctx := none }
  let s := migEnd (migLog s p 4 reason) p abortedS
  if (partOf s p).st == .restoring then toSt s p .stopped .migration else s

/-- Is a migration of a partition under way at the source before its freeze. -/
def preCopy (s : State) (p : Nat) : Bool := (partOf s p).mig.hand || (partOf s p).mig.st == 2

/-! ## Fences (R336, R337, R340) -/

/-- The timetable's part of a fence. -/
def ttFence (s : State) (p : Nat) : State :=
  let cores := (s.tt.run.filter fun (_, r) => r.item.part == p).map Prod.fst
  let s := cores.foldl (fun s c => setCore (coreIdle s c) c { coreOf s c with stall := none }) s
  let flows := (s.tt.flows.filter fun (_, f) => f.owner != p || f.logic).map fun (n, f) =>
    (n, if f.owner == p then { f with order := [], ended := [], fin := [] } else f)
  { s with tt := { s.tt with
      ready := s.tt.ready.filter (fun i => i.part != p)
      flows := flows
      held := s.tt.held.filter fun h => h.part != p
      waitRel := s.tt.waitRel.filter fun h => h.part != p
      holdRes := tabDel s.tt.holdRes p } }

/-- The DMA engines' part: operations not started are discarded, started ones run on with their writes suppressed. -/
def dmaFence (s : State) (p : Nat) : State :=
  { s with tt := { s.tt with dma := (s.tt.dma.filter fun (_, o) => o.part != p || o.start != 0).map fun (k, o) =>
      (k, if o.part == p then { o with suppressed := true } else o) } }

/-- The rings' part: every ring of the partition is emptied. -/
def ringFence (s : State) (p : Nat) : State :=
  { s with tt := { s.tt with rings := s.tt.rings.filter fun (q, _) => rOwner s q != p } }

/-- The image writer's part: the next run's first image carries no MISSED (R332). -/
def imgFence (s : State) (p : Nat) : State :=
  { s with cond := { s.cond with imgs := tabMap (fun k (x : ImgSt) => if k == p then { configSeq := x.configSeq } else x) s.cond.imgs }
           pub := { s.pub with missed := tabDel s.pub.missed p } }

/-- The effects of a fence on every engine. -/
def fenceAll (s : State) (p : Nat) : State :=
  let s := dmaFence (ttFence (logicAbandon s p) p) p
  let s := gooseStop (bolFence (dropPartFrames s p) p) p
  let s := phFence (ringFence (imgFence s p) p) p
  txResume { dirtyClear s p with cap := { s.cap with pickup := tabDel s.cap.pickup p } }

/-- A fence begins: 0 reset, 1 fault, 2 stop overrun, 3 fault while FROZEN after the contexts were sent, 4 removal. -/
def fenceStart (s : State) (p kind : Nat) : State :=
  let s := bump (fenceAll s p) 0x300023 p
  setPart s p { partOf s p with fence := some (s.now + 20000, kind), drainDue := none, restartDue := none }

/-! ## Start (R19, R20, R84, R85, R323) -/

/-- The cores of a partition's set in service on present dies that are not in FAULT (R334). -/
def workCores (s : State) (p : Nat) : List Nat :=
  let m := ofLe (vO (s.val 0x300010 p 0) 1)
  (upto (coreCount s)).filter fun c => bit m c && !s.parts.coreFailed.contains c && (dieOf c == 0 || unitSt s (23 + dieOf c) != .fault)

/-- The dies a partition is placed on, by its whole CORES set. -/
def placedDies (s : State) (p : Nat) : List Nat :=
  let m := ofLe (vO (s.val 0x300010 p 0) 1)
  ((upto (coreCount s)).filter (bit m)).map dieOf

/-- The gated dies a partition is placed on power up (R19). -/
def diesUp (s : State) (p : Nat) : State :=
  (placedDies s p).foldl (fun s k => if k != 0 && unitSt s (23 + k) == .off then setUnit s (23 + k) .starting else s) s

/-- The dies no partition is placed on, whether it is being created, runs or is being removed, are power-gated (R19); one that has migrated
away is placed on none. -/
def diesGate (s : State) : State :=
  let used := ((upto 64).filter fun p => (partValid s p || (partOf s p).st != .none) && !(partOf s p).away).flatMap (placedDies s)
  ((upto (dieCount s)).map (· + 1)).foldl (fun s k => if used.contains k then s else
    if unitSt s (23 + k) == .starting || unitOk s (23 + k) then setUnit s (23 + k) .off else s) s

/-- Regions without KEEP are zeroed (R330). -/
def zeroRegions (s : State) (p : Nat) : State :=
  let rs := (s.rows 0x300011 p).filter fun v => !vB v 5
  { s with mem := s.mem.filter fun (k, _) => !(k / 18446744073709551616 == p && rs.any fun v =>
      vN v 0 ≤ k % 18446744073709551616 && k % 18446744073709551616 < vN v 0 + vN v 1) }

/-- Is a partition's placement done: it has a working core, and its dies are up (R20, R323, R334). -/
def placed (s : State) (p : Nat) : Bool :=
  let ks := (workCores s p).map dieOf
  !ks.isEmpty && ks.all fun k => k == 0 || unitOk s (23 + k)

/-- A run begins once the placement is done: STARTING to RUNNING, the logic tasks restarted (R422). -/
def runPart (s : State) (p : Nat) : State :=
  let x := partOf s p
  if x.st != .starting || x.fence.isSome || !placed s p then s
  else
    let s := setPart s p { x with resume := none, migrated := false, runFault := x.fault.cause }
    logicStart (toSt (imgFence s p) p .running .verified) p

/-- Partitions with a verified image that waited for their placement run (R323, R334). -/
def runPlaced (s : State) : State :=
  (s.parts.ps.map Prod.fst).foldl (fun s p =>
    if (partOf s p).verified && !s.parts.reading.contains p && !s.parts.verifying.contains p then runPart s p else s) s

/-- PART_START's effect (R323): the image is to be read and verified. -/
def startPart (s : State) (p : Nat) : State :=
  let s := toSt (setPart s p { partOf s p with restarted := false, away := false }) p .starting .start
  diesUp { s with parts := { s.parts with reading := s.parts.reading ++ [p] } } p

/-- PART_START. -/
def opPartStart (s : State) (p : Nat) : Res :=
  if (partOf s p).st != .stopped || (partOf s p).fence.isSome || (partOf s p).zeroing != 0 || (workCores s p).isEmpty then deny s stateS
  else if s.jal.heldParts.contains p then deny s busyS
  else good (startPart s p)

/-- PART_START (R323, R328, R334). -/
def execPartStart (dt : Nat) (rq : Req) (p : Nat) (s : State) : Host.Outcome State Fault Refusal :=
  done (doExec (advance dt s) rq 0x300030 p fun s => opPartStart s p)

/-- PART_IMAGE_READ: the image being read is in; the next one is read while it is verified (R84). -/
def execPartImageRead (dt : Nat) (s : State) : Host.Outcome State Fault Refusal :=
  let s := advance dt s
  match s.parts.reading with
  | [] => done s
  | p :: r => if !hubLive s then done s
    else done { s with parts := { s.parts with reading := r, verifying := s.parts.verifying ++ [p] } }

/-! ## Faults (R333 to R335, R348) -/

/-- A partition faults: recorded, counted and fenced. -/
def faultPart (s : State) (p cause core detail : Nat) : State :=
  let x := partOf s p
  let dead := x.st == .none || x.st == .stopped || x.st == .fault
  if dead then s
  else
    let times := (x.faultTimes.filter fun t => s.now < t + 600000000000) ++ [s.now]
    let s := setPart s p { x with fault := ⟨cause, core, detail, tai s⟩, faults := min (x.faults + 1) 4294967295, faultTimes := times }
    let s := logRec s 0x0191 64 (ints [p, cause, core, detail])
    let m := x.mig
    let keep := x.st == .frozen && m.sent
    let s := if keep then s
      else if preCopy s p || x.st == .frozen then migAbort s p 9 true
      else if x.st == .restoring then
        let s := hoCancel (sendMig (setMig s p { m with st := 6, reason := 10 }) p (.abort m.dest 10)) (domainOf s p)
        migEnd (migLog s p 4 10) p abortedS
      else s
    let s := if keep then setMig s p { (partOf s p).mig with mute := true } else s
    match (partOf s p).fence with
    | none => fenceStart s p (if keep then 3 else 1)
    | some (t, k) => if k == 0 || k == 2 then setPart s p { partOf s p with fence := some (t, 1) } else s

/-- PART_FAULT: a fault its source reports (R333); LOCKSTEP takes the core out of service (R334). -/
def execPartFault (dt p cause core detail : Nat) (s : State) : Host.Outcome State Fault Refusal :=
  let s := advance dt s
  if cause == 0 || cause > 8 || !hubLive s then done s
  else
    let s := if cause == 2 && core < coreCount s then
        selfBit { s with parts := { s.parts with coreFailed := adjoin s.parts.coreFailed core } } 0 true else s
    done (faultPart s p cause core detail)

/-- PW_ABORT: a write with KEY 0xDEAD faults the partition (R331, R333). -/
def pwAbort (s : State) (p core : Nat) (w : Nat) : State :=
  if bits w 16 16 == 0xDEAD then faultPart s p 6 core (bits w 0 16) else s

/-- PW_ABORT_WRITE, by a core that runs an item of the partition. -/
def execPwAbortWrite (dt p core : Nat) (w : Word) (s : State) : Host.Outcome State Fault Refusal :=
  let s := advance dt s
  match runOf s p core with
  | some _ => done (pwAbort s p core w.toNat)
  | none => done s

/-- BUDGET_STOP: the item in service on a core has run out of its budget: its partition faults (R357, R333). -/
def execBudgetStop (dt core : Nat) (s : State) : Host.Outcome State Fault Refusal :=
  let s := advance dt s
  match tabGet s.tt.run core with
  | some r => if s.now < r.startNow + r.item.budget || !hubLive s then done s
    else done (faultPart (bump s 0x310005 0) r.item.part 4 core (r.item.d.tag % 4294967296))
  | none => done s

/-- PART_IMAGE_VERIFIED: the oldest image in verification is judged (R84, R85, R495). -/
def execPartImageVerified (dt : Nat) (obj : SignedObj) (s : State) : Host.Outcome State Fault Refusal :=
  let s := advance dt s
  match s.parts.verifying with
  | [] => done s
  | p :: r =>
    if !hubLive s then done s
    else
      let s := { s with parts := { s.parts with verifying := r } }
      let (ok, s) := if (partOf s p).stored then verifyObj s 2 (partOf s p).svnMin obj else (false, s)
      if (partOf s p).st != .starting || (partOf s p).fence.isSome then done s
      else if ok then done (runPart (setPart s p { partOf s p with verified := true }) p)
      else done (faultPart (logRec s 0x0121 64 (ints [p])) p 1 0xFF 0)

/-! ## Stop, drain, reset (R336 to R342) -/

/-- PART_STOP. -/
def opPartStop (s : State) (p : Nat) : Res :=
  let x := partOf s p
  match x.st with
  | .fault => if x.fence.isSome || x.zeroing != 0 then deny s stateS else good (toSt (setPart s p { x with restartDue := none }) p .stopped .stop)
  | .running =>
    if x.fence.isSome then good (toSt s p .stopping .stop)
    else
      let s := if preCopy s p then migAbort s p 11 true else s
      let s := setPart s p { partOf s p with stopSeq := s.tt.nextItem, drainDue := some (s.now + s.vn 0x300003 0) }
      good (toSt s p .stopping .stop)
  | _ => deny s stateS

/-- PART_STOP (R341). -/
def execPartStop (dt : Nat) (rq : Req) (p : Nat) (s : State) : Host.Outcome State Fault Refusal :=
  done (doExec (advance dt s) rq 0x300031 p fun s => opPartStop s p)

/-- A reset begins: RESETTING and the fence. -/
def resetPart (s : State) (p : Nat) (why : Why) : State :=
  let s := if preCopy s p then migAbort s p 11 true else s
  fenceStart (toSt s p .resetting why) p 0

/-- A reset accepted: a fence under way continues and becomes the reset's (R336, R338; DESIGN CHOICE for one of a fault, entry 98). -/
def resetNow (s : State) (p : Nat) (why : Why) : State :=
  match (partOf s p).fence with
  | some (t, _) => toSt (setPart s p { partOf s p with fence := some (t, 0), drainDue := none }) p .resetting why
  | none => resetPart s p why

/-- PART_RESET. -/
def opPartReset (s : State) (p : Nat) : Res :=
  let x := partOf s p
  match x.st with
  | .resetting => good s
  | .running => good (resetNow s p .reset)
  | .stopping => good (resetNow s p .reset)
  | .starting => good (resetNow s p .reset)
  | .fault => if x.zeroing != 0 then deny s stateS else if s.jal.heldParts.contains p then deny s busyS else good (resetPart s p .reset)
  | _ => deny s stateS

/-- PART_RESET (R328, R336, R338). -/
def execPartReset (dt : Nat) (rq : Req) (p : Nat) (s : State) : Host.Outcome State Fault Refusal :=
  done (doExec (advance dt s) rq 0x300032 p fun s => opPartReset s p)

/-- What follows a fault's fence (R335). -/
def faultAction (s : State) (p : Nat) : State :=
  let x := partOf s p
  let recent := x.faultTimes.filter fun t => s.now < t + 600000000000
  if recent.length ≥ 3 then logRec s 0x0191 64 (ints [p, x.fault.cause, x.fault.core, x.fault.detail, 1])
  else if s.vn 0x300016 p == 1 then
    setPart s p { x with restartDue := some (maxN x.faultTimes + s.vn 0x300017 p) }
  else s

/-- FENCE_COMPLETE: every engine has reported its fence (R336 step 4, R338, R342). -/
def execFenceComplete (dt p : Nat) (s : State) : Host.Outcome State Fault Refusal :=
  let s := advance dt s
  let x := partOf s p
  match x.fence with
  | none => done s
  | some (_, k) =>
    let s := setPart s p { x with fence := none }
    match k with
    | 0 =>
      let s := toSt (zeroRegions (setPart s p { partOf s p with restarted := true }) p) p .starting .fence
      if x.verified then done (runPart (diesUp s p) p)
      else done (diesUp { s with parts := { s.parts with reading := adjoin s.parts.reading p } } p)
    | 1 => done (faultAction (toSt s p .fault .fault) p)
    | 2 => done (toSt s p .stopped .timeout)
    | _ => done s

/-- Has a partition no accepted work left (R341). -/
def drained (s : State) (p : Nat) : Bool :=
  !s.tt.ready.any (fun i => i.part == p && (i.num < (partOf s p).stopSeq || isLogic i)) && !s.tt.run.any (fun (_, r) => r.item.part == p) &&
    !s.tt.held.any (fun h => h.part == p) && enginesClear s p &&
    !(tasksOf s p).any fun j => !(taskOf s j).wait.isEmpty

/-- PARTITION_DRAINED: a stopping partition's accepted work is complete (R341). -/
def execPartitionDrained (dt p : Nat) (s : State) : Host.Outcome State Fault Refusal :=
  let s := advance dt s
  if pst s p == .stopping && drained s p then done (toSt (setPart s p { partOf s p with drainDue := none }) p .stopped .drained)
  else done s


/-- A restart under FAULT_ACTION whose delay has ended, unless an accepted commit holds it (R328, R335). -/
def restartDue (s : State) (p : Nat) : State :=
  if pst s p == .fault && dueBy s (partOf s p).restartDue && !s.jal.heldParts.contains p then resetPart s p .fault else s

/-- RESTART_DELAY_EXPIRY (R335). -/
def execRestartDelayExpiry (dt p : Nat) (s : State) : Host.Outcome State Fault Refusal := done (restartDue (advance dt s) p)

/-! ## Images and creation (R329, R490) -/

/-- PART_IMAGE_APPLY's effect: the vault verifies the image the loader hashes as it writes it. -/
def opPartImageApply (s : State) (rq : Req) (p : Nat) : Res :=
  if !vaultRoom s 2 then deny s busyS else ⟨vaultPush s 2 (.verifyImage p rq.sess rq.reqId), pendingS, 0, []⟩

/-- PART_IMAGE_APPLY. -/
def execPartImageApply (dt : Nat) (rq : Req) (p : Nat) (s : State) : Host.Outcome State Fault Refusal :=
  done (doExec (advance dt s) rq 0x300013 p fun s => opPartImageApply s rq p)

/-- The vault's verdict on a loaded image: stored when accepted. -/
def imageJudged (s : State) (p sess reqId : Nat) (obj : SignedObj) : State :=
  let s := bulkDrop (bulkEnd s (addrOf 0x300012 p)) (addrOf 0x300012 p)
  let (ok, s) := verifyObj s 2 (partOf s p).svnMin obj
  if ok then execEnd (setPart s p { partOf s p with stored := true, digest := obj.digest, svn := obj.svn, verified := false })
    sess reqId okS []
  else execEnd s sess reqId verifyS []

/-- Commits that removed partitions complete (R329). -/
def zeroAnswer (s : State) : State :=
  s.jal.zeroRqs.foldl (fun s (n, q, row) => answerLate s n q 0 ⟨okS, 5, 0, leN 8 row⟩) { s with jal := { s.jal with zeroRqs := [] } }

/-- PARTITION_ZEROED: the regions of a partition being created or removed are overwritten (R329). -/
def execPartitionZeroed (dt p : Nat) (s : State) : Host.Outcome State Fault Refusal :=
  let s := advance dt s
  let x := partOf s p
  match x.zeroing with
  | 1 =>
    let s := toSt (setPart (memZero s p) p { x with zeroing := 0 }) p .stopped .commit
    done (if s.pair.allIn then leaveStep s 6 else s)
  | 2 =>
    let s := toSt (memZero s p) p .none .commit
    let s := diesGate (setPart s p { stored := x.stored, digest := x.digest, svn := x.svn, svnMin := x.svnMin, zeroing := b2n (partValid s p) })
    done (if s.parts.ps.any fun (_, x) => x.zeroing == 2 then s else zeroAnswer s)
  | _ => done s

/-! ## Migration -/

/-- MIG_PREPARE's effect (R343). -/
def opMigPrepare (s : State) (p : Nat) : Res :=
  let d := domainOf s p
  if (partOf s p).st != .stopped || (partOf s p).fence.isSome || (partOf s p).zeroing != 0 ||
      (created s).any (fun q => q != p && domainOf s q == d) then deny s stateS
  else if s.jal.heldParts.contains p then deny s busyS
  else good (toSt (diesUp (setPart s p { partOf s p with mig := { st := 1 }, away := false }) p) p .restoring .migration)

/-- MIG_PREPARE. -/
def execMigPrepare (dt : Nat) (rq : Req) (p : Nat) (s : State) : Host.Outcome State Fault Refusal :=
  done (doExec (advance dt s) rq 0x300050 p fun s => opMigPrepare s p)

/-- MIG_START's effect (R344, R347): the migration key is agreed, then the handshake follows. -/
def opMigStart (s : State) (rq : Req) (p path peer dest : Nat) (force : Bool) : Res :=
  let d := domainOf s p
  if pst s p != .running || preCopy s p || (created s).any (fun q => q != p && domainOf s q == d) then deny s stateS
  else if !vaultRoom s 3 then deny s busyS
  else
    let m : Mig := { st := 0, path := path, peer := peer, dest := dest, force := force, hand := true, rq := some (rq.sess, rq.reqId) }
    ⟨vaultPush (migLog (setMig s p m) p 1 0) 3 (.migAgree p), pendingS, 0, []⟩

/-- MIG_START. -/
def execMigStart (dt : Nat) (rq : Req) (p path peer dest : Nat) (force : Bool) (s : State) : Host.Outcome State Fault Refusal :=
  done (doExec (advance dt s) rq 0x300051 p (fun s => opMigStart s rq p path peer dest force)
    [.n path, .o (leN 6 peer), .n dest, .n (b2n force)])

/-- What a handshake tells of a partition (R344). -/
def migFit (s : State) (p : Nat) : MigFit :=
  let ty (ob : Nat) : OTyp := match descOf ob with
    | some d => d.typ
    | none => .none
  { digest := (partOf s p).digest
    alloc := encVal (ty 0x300010) (s.val 0x300010 p 0) ++ (s.rows 0x300011 p).flatMap fun v => encVal (ty 0x300011) v
    rate := baseHz s
    profiles := mapProfiles s p
    rows := (mapGroups s p).map fun g => (g, s.plan.lastReleased + 1 - (gOut s g).since) }

/-- "tzm-mig". -/
def migInfo : List Byte := [0x74, 0x7A, 0x6D, 0x2D, 0x6D, 0x69, 0x67]

/-- Both ends' nonces and keys are there: the AES-256-GCM key goes into the migration unit's register (R508); the nonce of the end that
asked comes first (DESIGN CHOICE, entry 105). -/
def migKeyed (s : State) (first : Bool) : State :=
  match s.vault.migDraw, s.vault.migPeer with
  | some d, some e =>
    let own := (Config.migEph d).nonce
    let salt := if first then own ++ e.nonce else e.nonce ++ own
    { s with vault := { s.vault with migKey := some (hkdf384 salt (Config.ecdh d e.pub) migInfo 32) } }
  | _, _ => s

/-- The vault has an end's part of the agreement, authenticated under the migration slot, or has no slot to do so (R508): this end's
handshake goes out; the end that was asked has the key, and at an import's holder the pre-copy begins. -/
def migAgreed (s : State) (p : Nat) (ok : Bool) : State :=
  let m := (partOf s p).mig
  if !ok then migAbort s p 12 m.hand
  else
    let (d, s) := fresh s
    let s := sendMig (migKeyed { s with vault := { s.vault with migDraw := some d } } false) p (.handshake m.dest (migFit s p) (Config.migEph d))
    if m.import_ && m.hand then roundSend (setMig s p { m with hand := false, st := 2 }) p (regionSpans s p) else s

/-- The other end's nonce and key are taken, and this end's part begins: it waits in the vault's class 3; a full queue drops the message. -/
def migAsked (s : State) (p : Nat) (m : Mig) (e : MigEph) : State :=
  if vaultRoom s 3 then vaultPush { setMig s p m with vault := { s.vault with migPeer := some e } } 3 (.migAgree p) else s

/-- The reason a handshake gives to refuse, 0 none (R344): the destination's side against a partition of this unit. -/
def handReason (s : State) (p : Nat) (f : MigFit) : Nat :=
  let m := migFit s p
  if f.digest != m.digest then 1
  else if f.alloc != m.alloc then 2
  else if (mapGroups s p).any fun g => tabGetD f.rows g 0 < 512 * pD1 s (gProf s g) + 256 then 3
  else if f.profiles != m.profiles then 4
  else if f.rate != m.rate then 5 else 0

/-- The size of a partition's contexts, which the manual bounds, for up to 8,192 flows and 64 rings, and does not give (R349). -/
def ctxSize (s : State) (p : Nat) : Nat × State :=
  let (v, s) := fresh s
  let flows := (s.tt.flows.filter fun (_, f) => f.owner == p).length
  let rings := ((upto 256).filter fun q => rOwner s q == p).length
  (if flows ≤ 8192 && rings ≤ 64 then v % 131073 else v, s)

/-- The blackout estimate in ns (R349): V is the IUL's rate or MIG_PB_RATE. -/
def blackout (s : State) (p path bytes : Nat) : Nat :=
  let kbit := if path == 0 then iulRate s * 1000 else s.vn 0x300042 0
  let longest := maxN ((s.tt.run.filterMap fun (_, r) => if r.item.part == p then some (r.item.budget - 60000) else none))
  100000 + longest + (if kbit == 0 then 0 else ceilDiv (bytes * 8000000 * 10) (9 * kbit))

/-- The final set and the contexts are sent once no item is in service and no engine has work of the partition in hand (R348, R350). -/
def migSend (s : State) (p : Nat) : State :=
  let m := (partOf s p).mig
  if (partOf s p).st == .frozen && m.st == 3 && !m.sent && inService s p == 0 && enginesClear s p then
    dirtyClear (sendMig (setMig s p { m with sent := true }) p (.finalSet m.dest m.rowF m.rowR m.ctxBytes (carryCtx s p))) p
  else s

/-- The claim of a migrating domain is to be handed over at row R (R352). -/
def migHandover (s : State) (p row : Nat) : State :=
  let d := domainOf s p
  let can := if (partOf s p).mig.path == 0 then hoCan s d else d < 64 && holder s d && (claimOf s d).handover.isNone
  if can && vaultRoom s 0 then
    vaultPush (setClaim s d { claimOf s d with handover := some (row, some (s.now + 10000000), 0, 0), acked := false }) 0 (.handoverSign d)
  else s

/-- The items of a partition in service. -/
def itemsServed (s : State) (p : Nat) : List Nat := (s.tt.run.filter fun (_, x) => x.item.part == p).map fun (_, x) => x.item.num

/-- The freeze at the release of row F (R350). -/
def migFreeze (s : State) (p r : Nat) : State :=
  let (c, s) := ctxSize s p
  let m := (partOf s p).mig
  let n := 4096 * (dirtySpans s p).length
  let b := blackout s p m.path (n + c)
  let row := r + max 1 (ceilDiv (b * baseHz s) 1000000000)
  let s := setMig s p { m with st := 3, freeze := false, rowF := r, rowR := row, finalBytes := n, ctxBytes := c, serving := itemsServed s p }
  let s := migHandover (migLog (toSt s p .frozen .migration) p 2 0) p row
  migSend s p

/-- What a migration brought. -/
def migCtx (s : State) (p : Nat) : MigCtx := (partOf s p).mig.ctx.getD {}

/-- The destination resumes at row r (R351) with what the migration brought: the first image carries the blackout's rows. The claim is raised
at that row by the handover it has accepted (R352, R457, R460). -/
def migResume (s : State) (p r : Nat) : State :=
  let s := land s p (migCtx s p)
  let m := { (partOf s p).mig with ctx := none }
  let x := partOf s p
  let s := setPart s p { x with mig := { m with st := 5, rowR := r }, resume := none, restarted := false, migrated := true
                                runFault := x.fault.cause }
  let s := setImg s p { imgOf s p with missed := r - m.rowF }
  migEnd (migLog (toSt s p .running .migration) p 3 0) p okS

/-- What the release of row r means for a partition's migration: freeze, resume, the source's end, the return after an abort. -/
def migRow1 (s : State) (r p : Nat) : State :=
  let x := partOf s p
  let m := x.mig
  if m.import_ then s
  else match x.st with
    | .running => if m.freeze then migFreeze s p r else s
    | .restoring =>
      if !(m.st == 4 && m.restored && r ≥ m.rowR) then s
      else if carryFails s p (migCtx s p) then faultPart s p 8 0xFF 0 else migResume s p r
    | .frozen =>
      if m.st == 6 then (if x.fence.isSome then s else toSt (setMig s p { m with rowR := r }) p .running .migration)
      else if m.st == 3 && m.restored && r ≥ m.rowR then
        let s := ringFence (ttFence (logicAbandon s p) p) p
        let s := toSt (gooseStop s p) p .stopped .migration
        migEnd (diesGate (setPart s p { partOf s p with mig := { m with st := 5 }, away := true })) p okS
      else migSend s p
    | _ => s

/-- Migrations at the release of row r. -/
def migRow (s : State) (r : Nat) : State := (s.parts.ps.map Prod.fst).foldl (fun s p => migRow1 s r p) s

/-- Is a partition the source of an import now: this unit holds its domain and re-entry has come to partitions (R449, R451). -/
def importFrom (s : State) (p : Nat) : Bool :=
  s.pair.reentry == 4 && pst s p == .running && holder s (domainOf s p) && (stepOf s p).st < 4 &&
    ((partOf s p).mig.import_ || (!preCopy s p && (partOf s p).mig.st != 3))

/-- The standby has restored an import: the holder's partition is in step (R451). -/
def importHeld (s : State) (q : Nat) : State :=
  let s := setStep (setMig (migKeyClear s) q {}) q { stepOf s q with st := 4, conv := 0, hold := false, from_ := s.plan.lastReleased + 1 }
  { s with pair := { s.pair with rePart := none } }

/-- An import is restored: the journaled images that the checkpoint does not hold are posted one after another, and live rows follow
them (R451). -/
def importRun (s : State) (p : Nat) : State :=
  let c := migCtx s p
  let s := land s p c
  let x := partOf s p
  let live := match x.journal.getLast? with
    | some (r, _, _) => r + 1
    | none => x.mig.rowF
  let s := setPart s p { x with mig := { st := 5, dest := p, import_ := true }, journal := [], resume := none, restarted := false, migrated := true
                                runFault := x.fault.cause }
  let s := toSt s p .running .migration
  let s := setStep s p { stepOf s p with st := 4, conv := 0, from_ := live, live := live }
  let s := (x.journal.filter fun (r, _, _) => c.lastRow < r).foldl (fun s (r, e, body) => if rSpace s (s.fn 0x240031 p 0) == 0 then imgMiss s r p else imgPlace s r p e body) s
  sendIul (migKeyClear { s with pair := { s.pair with rePart := none } }) (.mig (.restored p))

/-- The granules that a partition's cores wrote are marked, those in its regions (R346). -/
def coresMark (s : State) (p : Nat) (l : List Nat) : State :=
  let gs := l.filter fun g => (regionSpans s p).any fun (b, n) => b < (g + 1) * 4096 && g * 4096 < b + n
  { s with dirty := (gs.map fun g => p * 4503599627370496 + g).foldl adjoin s.dirty }

/-- MIG_ROUND_END: the round of that number has ended; its report names the granules that the partition's cores have written since the one
before, the hub's own writes being marked as they happen (R346). -/
def execMigRoundEnd (dt p round : Nat) (marked : List Nat) (s : State) : Host.Outcome State Fault Refusal :=
  let s := advance dt s
  let m := (partOf s p).mig
  if m.st != 2 || m.freeze || round != m.rounds + 1 || !hubLive s then done s
  else
    let s := coresMark s p marked
    let spans := dirtySpans s p
    let bytes := 4096 * spans.length
    let s := setMig s p { m with rounds := round, finalBytes := bytes }
    let m := (partOf s p).mig
    if bytes ≤ s.vn 0x300040 0 || (m.force && round ≥ s.vn 0x300041 0) then done (setMig s p { m with freeze := true })
    else if round ≥ s.vn 0x300041 0 then done (migAbort s p 6 true)
    else done (roundSend s p spans)

/-- MIG_RESTORE_COMPLETE: the destination holds the final set and the contexts (R351); an import's restore must come before row F + 63
(R451). -/
def execMigRestoreComplete (dt p : Nat) (s : State) : Host.Outcome State Fault Refusal :=
  let s := advance dt s
  let m := (partOf s p).mig
  if (partOf s p).st != .restoring || m.st != 4 || !hubLive s then done s
  else if m.import_ then
    if s.plan.lastReleased ≥ m.rowF + 63 then done s
    else done (if carryFails s p (migCtx s p) then faultPart s p 8 0xFF 0 else importRun s p)
  else done (sendMig (setMig s p { m with restored := true }) p (.restored p))

/-- Every migration before its freeze, or not yet frozen at its destination, is aborted: 7 path, 8 command (R91, R354). -/
def migStopAll (s : State) (reason : Nat) : State :=
  (created s).foldl (fun s p =>
    if preCopy s p || ((partOf s p).st == .restoring && (partOf s p).mig.st != 4) then migAbort s p reason true else s) s

/-- The migration unit enters FAULT: what it has accepted ends with UNIT_NOT_READY (R88), and every migration that has not resumed is aborted
(R354). -/
def migFail (s : State) : State :=
  (created s).foldl (fun s p =>
    let x := partOf s p
    if preCopy s p || x.st == .frozen || x.st == .restoring then migAbort (migEnd s p notReady) p 7 false else s) s

/-- MIG_ABORT's effect (R347, R354). -/
def opMigAbort (s : State) (p : Nat) : Res :=
  let x := partOf s p
  if preCopy s p || (x.st == .frozen && x.mig.st == 3) || x.st == .restoring then good (migAbort s p 8 true) else deny s stateS

/-- MIG_ABORT. -/
def execMigAbort (dt : Nat) (rq : Req) (p : Nat) (s : State) : Host.Outcome State Fault Refusal :=
  done (doExec (advance dt s) rq 0x300054 p fun s => opMigAbort s p)

/-- MIG_PATH_FAIL: the path fails before the destination has resumed (R354). -/
def execMigPathFail (dt p : Nat) (s : State) : Host.Outcome State Fault Refusal :=
  let s := advance dt s
  let x := partOf s p
  if preCopy s p || (x.st == .frozen && x.mig.st == 3) || x.st == .restoring then done (migAbort s p 7 false) else done s

/-- The partition whose migration a message of a destination partition number concerns at the source. -/
def migSource (s : State) (dest : Nat) : Option Nat :=
  (s.parts.ps.find? fun (_, x) => (x.mig.hand || x.mig.st == 2 || x.mig.st == 3) && x.mig.dest == dest).map Prod.fst

/-- The partner tells the image its partition p runs (R448, R449): one that runs another image here is out of step. -/
def imageTold (s : State) (p : Nat) (d : List Byte) : State :=
  if p ≥ 64 then s
  else
    let s := setStep s p { stepOf s p with image := some d }
    if imgDiffers s p && (stepOf s p).st ≥ 3 then leaveStep (stepOut s p) 6 else s

/-- A migration message received on a path (R344 to R354); one that fails its tag aborts with AUTH (R508). -/
def migRx (s : State) (path : Nat) (m : MigMsg) (tagOk : Bool) : State :=
  let bad (p : Nat) : State := migAbort s p 12 true
  match m with
  | .handshake p fit eph =>
    (match (migSource s p).filter fun q => !(partOf s q).mig.import_ with
    | some q =>
      if !(partOf s q).mig.hand then s
      else if !tagOk then bad q
      else
        let why := handReason s q fit
        if why != 0 then migAbort s q why true
        else
          let s := migKeyed { setMig s q { (partOf s q).mig with hand := false, st := 2 } with vault := { s.vault with migPeer := some eph } } true
          roundSend s q (regionSpans s q)
    | none =>
      if (partOf s p).st == .restoring && (partOf s p).mig.st == 1 then
        if !tagOk then bad p
        else if (partOf s p).mig.import_ then migKeyed { s with vault := { s.vault with migPeer := some eph } } true
        else migAsked s p { (partOf s p).mig with path := path, dest := p } eph
      else if path == 0 && tagOk && importFrom s p then
        let why := handReason s p fit
        if why != 0 then setStep (sendIul s (.mig (.abort p why))) p { stepOf s p with differ := true }
        else
          migAsked (setStep s p { stepOf s p with st := 2, conv := 0, hold := false }) p { dest := p, import_ := true, hand := true } eph
      else s)
  | .round p spans cells =>
    if (partOf s p).st == .restoring && (partOf s p).mig.st == 1 && tagOk then memTake s p spans cells else s
  | .image p d => if path == 0 && tagOk then imageTold s p d else s
  | .finalSet p rowF rowR ctx c =>
    if (partOf s p).st == .restoring && tagOk then
      let x := partOf s p
      setPart s p { x with mig := { x.mig with st := 4, rowF := rowF, rowR := rowR, ctxBytes := ctx, path := path, dest := p, ctx := some c }
                           journal := x.journal.filter fun (r, _, _) => r ≥ rowF }
    else s
  | .restored p => (match migSource s p with
    | some q => if !tagOk then bad q
      else if (partOf s q).mig.import_ then importHeld s q else setMig s q { (partOf s q).mig with restored := true }
    | none => s)
  | .handover d claim row ok =>
    if tagOk && migDest s d && vaultRoom s 0 then vaultPush s 0 (.handoverVerify d claim row ok) else s
  | .handoverAck d ok => if tagOk && d < 64 && hoPath s d == path && path != 0 then hoAnswer s d ok else s
  | .abort p reason =>
    if !tagOk then s
    else match migSource s p with
      | some q => migAbort s q reason false
      | none => if (partOf s p).st == .restoring then migAbort s p reason false else s

/-! ## Dies (R14, R20) -/

/-- DIE_POWER_UP_DONE: a compute die's power-up is complete. A die-to-die link that has failed stays failed through power gating until a hub
reset (DESIGN CHOICE, entry 104: the manual names no training of it at power-up). -/
def execDiePowerUpDone (dt die : Nat) (s : State) : Host.Outcome State Fault Refusal :=
  let s := advance dt s
  if unitSt s (24 + die) == .starting && die < 6 && hubLive s then
    done (runPlaced (setUnit s (24 + die) (if s.boot.d2dFailed.any (·.1 == die) then .degraded else .ready)))
  else done s

/-- A die in FAULT faults every partition with cores on it (R14). -/
def dieFault (s : State) (die : Nat) : State :=
  (created s).foldl (fun s p =>
    let m := ofLe (vO (s.val 0x300010 p 0) 1)
    if (upto (coreCount s)).any fun c => bit m c && dieOf c == die + 1 then faultPart s p 5 0xFF die else s) s

/-- D2D_LINK_FAIL: one link of a die fails its training or its integrity check: DEGRADED, a die that is starting from its READY on; both:
FAULT (R14). -/
def execD2dLinkFail (dt die link : Nat) (s : State) : Host.Outcome State Fault Refusal :=
  let s := advance dt s
  if die ≥ dieCount s || link > 1 || s.boot.d2dFailed.contains (die, link) || !(unitOk s (24 + die) || unitSt s (24 + die) == .starting) then
    done s
  else
    let s := { s with boot := { s.boot with d2dFailed := s.boot.d2dFailed ++ [(die, link)] } }
    if s.boot.d2dFailed.contains (die, 1 - link) then done (dieFault (setUnit s (24 + die) .fault) die)
    else if unitOk s (24 + die) then done (setUnit s (24 + die) .degraded)
    else done s

/-! ## TT_DONE (R356) -/

/-- TT_DONE of a core: its item ends; a logic body commits its cycle (R415), and a frozen partition's last item lets its contexts go
(R350). A core stalled at a commit does not reach it (R371). -/
def ttDoneOp (s : State) (core result : Nat) (outputs : List (List Nat)) : State :=
  match tabGet s.tt.run core with
  | none => s
  | some r =>
    if (coreOf s core).stall.isSome || !hubLive s then s
    else
      let s := match r.item.src with
        | .logic j true => logicCommit s j r.item.row outputs
        | _ => s
      migSend (ttEnd s core r result) r.item.part

/-- TT_DONE. -/
def execTtDone (dt core : Nat) (result : Word) (outputs : List (List Nat)) (s : State) : Host.Outcome State Fault Refusal :=
  done (ttDoneOp (advance dt s) core result.toNat outputs)

/-! ## The logic unit's fault (R426) -/

/-- Every partition with a valid logic task is reset. -/
def logicFault (s : State) : State :=
  ((created s).filter fun p => !(tasksOf s p).isEmpty).foldl (fun s p => (opPartReset s p).s) s

/-- LOGIC_UNIT_FAULT. -/
def execLogicUnitFault (dt : Nat) (s : State) : Host.Outcome State Fault Refusal :=
  let s := advance dt s
  if !unitOk s 20 then done s else done (logicFault (setUnit s 20 .fault))

end Sys2Proof.Machine
end

