-- ==== Sys2Proof/Machine/Window.lean ====
section
/-! DEFINITION. The partition window (R7, R129, R205, R331, R388): the value each register reads, snapshot pairs, and what a write of each
register does. -/

namespace Sys2Proof.Machine

/-! ## Values -/

/-- A 15-bit, 31-bit or other count that saturates. -/
def satN (n m : Nat) : Nat := min n m

/-- A partition register (chapter 10). -/
def pwReg (s : State) (p off : Nat) : Nat :=
  let x := partOf s p
  match off with
  | 0x00 => s.ident.variant * 16777216 + domainOf s p * 256 + p
  | 0x04 => 64 * b2n (x.mig.st == 2) + 32 * b2n x.restarted + 16 * b2n x.migrated + x.st.code
  | 0x08 => x.runFault * 65536 + 32768 * b2n (x.faults > 32767) + satN x.faults 32767
  | 0x10 => unitsPresent s
  | 0x14 => claimFor s p
  | 0x1C => pcfg s p 2 * 65536 + pcfg s p 3
  | _ => 0

/-- PW_ROLLCALLk: the nibbles of subs 8k to 8k + 7. -/
def rollReg (s : State) (k : Nat) : Nat :=
  (upto 8).foldl (fun a i => a + (if 8 * k + i ≤ 30 then (unitSt s (8 * k + i)).code else 0) * 16 ^ i) 0

/-- PW_TIME_STAT. -/
def timeStat (s : State) : Nat :=
  (s.vi 0x180005 0).toNat % 65536 * 65536 + 128 * b2n s.tm.utcValid + 64 * b2n (s.tm.leap == 1) + 32 * b2n (s.tm.leap == 2) +
    16 * b2n s.tm.held + 4 * s.tm.source + s.tm.quality

/-- SP_CONFIG. -/
def spConfig (s : State) : Nat := s.plan.wLast * 4096 + s.vn 0x210001 0

/-- SP_STATUS of a partition. -/
def spStatus (s : State) (p : Nat) : Nat :=
  let es := imgFeeds s p
  let lost := (es.filter fun e => (streamOf s e).st == 3 || (streamOf s e).st == 4).length
  let sub := (es.filter fun e => (streamOf s e).st == 2).length
  let row := planRow s s.plan.lastReleased
  lost * 65536 + satN sub 255 * 256 + 4 * b2n s.plan.lastGapped + 2 * b2n s.plan.lastUneq +
    b2n (es.any fun e => (tabGetD row.seats e {}).filled)

/-- CF_IMAGE_STAT of a partition. -/
def cfStat (s : State) (p : Nat) : Nat :=
  let gs := (imgMap s p).filterMap fun (k, i) => if k == 1 then some i else none
  let chg := (gs.filter fun g => (profOf s (gProf s g)).st != 0).length
  let arrays := (upto 4).foldl (fun a k => a + (if s.cond.failed.contains k then 0 else 2 ^ k)) 0
  (imgOf s p).configSeq * 65536 + satN chg 255 * 256 + arrays * 16 + 2 * b2n (!unitTakes s 9) + b2n (imgOf s p).full

/-- CF_MISSED of a partition. -/
def cfMissed (s : State) (p : Nat) : Nat := 2147483648 * b2n (imgOf s p).cfSat + (imgOf s p).cfMissed

/-- TT_ITEM of a core. -/
def ttItem (s : State) (p core : Nat) : Nat :=
  match runOf s p core with
  | none => 0
  | some r =>
    let f := r.item.d.flow
    let left := min 32767 ((r.startNow + r.item.budget - s.now) / 4000)
    2147483648 + 1073741824 * b2n (isOldest s r.item) + (if f == 0xFFFF then 0 else 536870912 + f) + left * 16384

/-- A ring register of the window: 0 PROD, 4 DONE, 8 CONS, 12 STAT. -/
def ringReg (s : State) (p q k : Nat) : Nat :=
  let r := ringOf s q
  if !ownsRing s p q then 0
  else match k with
    | 0 => r.prod
    | 4 => if rType s q ≥ 3 then r.prod else r.done
    | 8 => r.cons
    | _ => satN r.pend.length 65535 * 65536 + 128 * b2n (rSpace s q == 0) + 64 * b2n (rPort s q) + rType s q

/-- A register of the timetable's range. TT_RESULT of a core stalled at a commit is returned once the entry is copied, and reads OK (R371). -/
def ttReg (s : State) (p core off : Nat) : Nat :=
  if 0x200 ≤ off && off ≤ 0x21C then (nth (coreOf s core).regs ((off - 0x200) / 4) 0).toNat
  else if off == 0x238 then (if (coreOf s core).stall.isSome then 0x20000000 else (coreOf s core).result.toNat)
  else if off == 0x23C then ttItem s p core
  else if off == 0x240 then dmaCount s p * 8192 + readyCount s p
  else if 0x1000 ≤ off then ringReg s p ((off - 0x1000) / 16) (off % 16)
  else 0

/-- A register of the Prefect's range. -/
def pfReg (s : State) (p off : Nat) : Nat :=
  let x := pfOf s p
  match off with
  | 0x2000 => x.tokens * 65536 + 8 * b2n (!pfState s p (pst s p == .frozen)) + x.lastKind
  | 0x2004 => 2147483648 * b2n x.deniedSat + x.denied
  | 0x2008 => s.vn 0x440032 p / 1000
  | _ => 0

/-- The task in a partition's slot. -/
def slotTask (s : State) (p k : Nat) : Option Nat := (tasksOf s p).find? fun j => ltF s j 2 == k

/-- LG_TASK_STAT of a slot. -/
def lgStat (s : State) (p k : Nat) : Nat :=
  match slotTask s p k with
  | none => 0
  | some j =>
    let x := taskOf s j
    2147483648 * b2n (itemLives s fun src => match src with | .logic k _ => k == j | _ => false) + 1073741824 * b2n x.midRun + x.restart * 268435456 + x.substs * 256 + ltF s j 3 / 1000000

/-- A register of the cyclic logic's range. -/
def lgReg (s : State) (p off : Nat) : Nat :=
  let rows := (s.rows 0x380041 0).filter fun v => vB v 0
  if off == 0x3000 then
    rows.length * 65536 + (rows.filter fun v => vN v 1 == p).length * 32 +
      16 * b2n ((tasksOf s p).any fun j => !(taskOf s j).online.isEmpty) +
      (upto 4).foldl (fun a k => a + (if (slotTask s p k).isSome then 2 ^ k else 0)) 0
  else if 0x3010 ≤ off && off < 0x3050 then
    match slotTask s p ((off - 0x3010) / 16), off % 16 with
    | some j, 0 => (taskOf s j).cycle % 4294967296
    | some j, 12 => 2147483648 * b2n (taskOf s j).overrunSat + (taskOf s j).overrun
    | _, _ => 0
  else if 0x3100 ≤ off && off < 0x3120 then
    let m := (off - 0x3100) / 4
    (upto 32).foldl (fun a b => let st := 32 * m + b
      a + (if s.fn 0x380020 st 1 == p && s.fb 0x380020 st 0 && (let y := (tabGetD s.lg.stations st {}).st; y == 1 || y == 3) then 2 ^ b else 0)) 0
  else if 0x3120 ≤ off && off < 0x3140 then
    let m := (off - 0x3120) / 4
    (upto 32).foldl (fun a b => a + (if (forcesOn s p 0 (32 * m + b)).isEmpty then 0 else 2 ^ b)) 0
  else 0

/-- PH_CHAN_STAT of an endpoint's local index. -/
def chanStat (s : State) (ep i : Nat) : Nat :=
  match chanFor s ep i true, chanFor s ep i false with
  | some c, _ =>
    let x := chanOf s c
    1073741824 + chF s c 2 * 8388608 + x.epoch * 32768 + 512 * b2n x.aborted + 256 * b2n x.timeout + queued x
  | none, some c =>
    let x := chanOf s c
    2147483648 + chF s c 1 * 8388608 + x.epoch * 32768 + 1024 * b2n (x.q.any (·.orphan)) + x.q.length
  | none, none => 0

/-- A register of the pigeonholes' range. -/
def phReg (s : State) (ep core off : Nat) : Nat :=
  let b := bellOf s ep
  if 0x4000 ≤ off && off ≤ 0x403C then (nth (phCore s ep core).regs ((off - 0x4000) / 4) 0).toNat
  else if 0x4400 ≤ off && off < 0x4800 then chanStat s ep ((off - 0x4400) / 4)
  else match off with
    | 0x4040 => (phCore s ep core).result.toNat
    | 0x4050 => b.pend % 4294967296
    | 0x4054 => b.pend / 4294967296
    | 0x4058 => b.mask % 4294967296
    | 0x405C => b.mask / 4294967296
    | _ => 0

/-! ## Snapshot pairs (R129, R130, R205) -/

/-- The 64-bit value of a pair whose LO register lies at an offset, and the status its read latches: none where no pair lies there. -/
def pairAt (s : State) (p off : Nat) : Option (Nat × Nat) :=
  match off with
  | 0x14 => some (claimFor s p, b2n (holder s (domainOf s p)))
  | 0x30 => some ((tai s).toNat, timeStat s)
  | 0x40 => some (((partOf s p).resume).getD 0, 0)
  | 0x100 => some (s.plan.lastReleased, spStatus s p)
  | 0x140 => some ((imgOf s p).lastRow, cfStat s p)
  | _ => if 0x3010 ≤ off && off < 0x3050 && off % 16 == 0 then
      some ((match slotTask s p ((off - 0x3010) / 16) with
        | some j => (taskOf s j).cycle
        | none => 0), lgStat s p ((off - 0x3010) / 16))
    else none

/-- What a core's snapshot of the pair at an offset holds: bits [63:32] and the status; before the core's first read of the LO register they
are those of the present (R205; DEDUCED, entry 93). -/
def snapOf (s : State) (p core off : Nat) : Nat × Nat :=
  match tabGet s.tt.snaps (core * 65536 + off), pairAt s p off with
  | some x, _ => x
  | none, some (v, st) => (v / 4294967296, st)
  | none, none => (0, 0)

/-- A read of a LO register by a core latches the pair's high half and its status. -/
def snapLatch (s : State) (p core off : Nat) : State :=
  match pairAt s p off with
  | some (v, st) => { s with tt := { s.tt with snaps := tabPut s.tt.snaps (core * 65536 + off) (v / 4294967296, st) } }
  | none => s

/-- The value a read of a window register gives a core; offsets no chapter defines read zero (R331). -/
def winRead (s : State) (p core off : Nat) : Nat :=
  if off == 0x18 then (snapOf s p core 0x14).2
  else if off == 0x38 then (snapOf s p core 0x30).2
  else if off == 0x10C then (snapOf s p core 0x100).2
  else if off == 0x148 then (snapOf s p core 0x140).2
  else if 0x3010 ≤ off && off < 0x3050 && off % 16 == 4 then (snapOf s p core (off - 4)).1
  else if 0x3010 ≤ off && off < 0x3050 && off % 16 == 8 then (snapOf s p core (off - 8)).2
  else if off == 0x34 || off == 0x44 || off == 0x104 || off == 0x144 then (snapOf s p core (off - 4)).1
  else match pairAt s p off with
    | some (v, _) => v % 4294967296
    | none =>
      if off < 0x20 then pwReg s p off
      else if off < 0x30 then (if off % 4 == 0 then rollReg s ((off - 0x20) / 4) else 0)
      else if off == 0x108 then spConfig s
      else if off == 0x14C then cfMissed s p
      else if 0x200 ≤ off && off < 0x2000 then ttReg s p core off
      else if off < 0x2100 then pfReg s p off
      else if off < 0x4000 then lgReg s p off
      else phReg s p core off

/-- SNAPSHOT_LO_READ. -/
def execSnapshotLoRead (dt p core offset : Nat) (s : State) : Host.Outcome State Fault Refusal :=
  done (snapLatch (advance dt s) p core offset)

/-- CF_MISSED_READ: the count and its SAT bit are cleared by the read (R292). -/
def execCfMissedRead (dt p _core : Nat) (s : State) : Host.Outcome State Fault Refusal :=
  let s := advance dt s
  done (setImg s p { imgOf s p with cfMissed := 0, cfSat := false })

/-- PF_DENIED_READ: the count and its SAT bit are cleared by the read (R491). -/
def execPfDeniedRead (dt p _core : Nat) (s : State) : Host.Outcome State Fault Refusal :=
  let s := advance dt s
  done (setPf s p { pfOf s p with denied := 0, deniedSat := false })

/-- LG_OVERRUN_READ: the count and its SAT bit are cleared by the read (R406). -/
def execLgOverrunRead (dt p _core slot : Nat) (s : State) : Host.Outcome State Fault Refusal :=
  done (lgOverrunClear (advance dt s) p slot)

/-! ## Writes -/

/-- A posted receive buffer's octets. -/
def rxPostOf (bs : List Byte) : RxPost := ⟨fieldN bs 0 8, fieldN bs 8 2, fieldN bs 12 4⟩

/-- The entry a partition placed in memory at slot k of a ring. -/
def slotEntry (s : State) (p q k : Nat) : Entry :=
  let bs := memRead s p (rBase s q + k * rEntry s q) (min 64 (rEntry s q))
  if rType s q == 0 then .rx (rxPostOf bs) else entryOf s p q bs .none

/-- A doorbell of the window: the entries are what memory holds. -/
def prodReg (s : State) (p core q v : Nat) : State :=
  let n := idxDist (ringOf s q).prod v
  if !ownsRing s p q then s
  else prodWrite s q v (if n > rSpace s q then [] else (upto n).map fun i => slotEntry s p q (slotOf s q ((ringOf s q).prod + i)))
    (actsOf s p core)

/-- A write of a port register. -/
def portReg (s : State) (core i : Nat) (w : Word) : State :=
  setCore s core { coreOf s core with regs := setNth (coreOf s core).regs i w }

/-- A write in the timetable's range. -/
def ttWrite (s : State) (p core off : Nat) (w : Word) : State :=
  let inSvc := (runOf s p core).isSome
  if 0x200 ≤ off && off ≤ 0x21C && off % 4 == 0 then (if inSvc then portReg s core ((off - 0x200) / 4) w else s)
  else if 0x1000 ≤ off && off < 0x2000 then
    (if off % 16 == 0 then prodReg s p core ((off - 0x1000) / 16) w.toNat
     else if off % 16 == 8 && ownsRing s p ((off - 0x1000) / 16) then consWrite s ((off - 0x1000) / 16) w.toNat else s)
  else match off with
    | 0x220 => ttSubmitOp s p core
    | 0x224 => ttCommitOp s p core w .none
    | 0x228 => ttCancelOp s p core w.toNat
    | 0x22C => if inSvc then ttDoneOp s core w.toNat [] else s
    | 0x230 => ttFlowOpenOp s p core w.toNat
    | 0x234 => ttFlowCloseOp s p core w.toNat
    | _ => s

/-- A write in the pigeonholes' range. -/
def phWrite (s : State) (ep core off : Nat) (w : Word) : State :=
  let b := bellOf s ep
  let v := w.toNat
  let hi := b.mask / 4294967296 * 4294967296
  let lo := b.mask % 4294967296
  if off == 0x4000 then (if bit v 31 then phPostOp s ep core w else phHeader s ep core w)
  else if 0x4000 < off && off ≤ 0x403C && off % 4 == 0 then
    setPhCore s ep core { phCore s ep core with regs := setNth (phCore s ep core).regs ((off - 0x4000) / 4) w }
  else if 0x4400 ≤ off && off < 0x4800 && off % 4 == 0 then
    (match chanFor s ep ((off - 0x4400) / 4) true with
    | some c => if bit v 9 then setChan s c { chanOf s c with aborted := false } else s
    | none => s)
  else match off with
    | 0x4044 => phTakeOp s ep core (bits v 0 10)
    | 0x4048 => phRingOp s ep core v
    | 0x4050 => setBell s ep { b with pend := (b.pend ||| v) ^^^ v }
    | 0x4054 => setBell s ep { b with pend := (b.pend ||| v * 4294967296) ^^^ (v * 4294967296) }
    | 0x4058 => bellItem (setBell s ep { b with mask := hi + v }) ep
    | 0x405C => bellItem (setBell s ep { b with mask := v * 4294967296 + lo }) ep
    | _ => s

/-- A write of a window register by a core; one that no chapter defines is ignored (R331), and a core stalled at a commit makes none (R371). -/
def winWrite (s : State) (p core off : Nat) (w : Word) : State :=
  if p < 64 && (coreOf s core).stall.isSome then s
  else if 0x4000 ≤ off && off < 0x8000 then phWrite s p core off w
  else if p ≥ 64 then s
  else if off == 0x48 then (if (runOf s p core).isSome then pwAbort s p core w.toNat else s)
  else if 0x200 ≤ off && off < 0x2000 then ttWrite s p core off w
  else s

end Sys2Proof.Machine
end

