-- ==== Sys2Proof/Machine/Iul.lean ====
section
/-! DEFINITION. The inter-unit link (R427 to R435, R473, R476): lanes, settlement, PAIR_ENABLE, report cards, the time cross-check, the
self-test (R471 to R474), and the receipt of equalisation and digest messages. -/

namespace Sys2Proof.Machine

/-! ## Ends of what the link carries -/

/-- A commit that both units do not accept is applied on neither: its request answers the status (R126, R433). -/
def commitRefused (s : State) (status : Nat) : State :=
  let rq := s.jal.commitRq
  let s := { s with jal := { s.jal with commitMid := none, commitRq := none } }
  match rq with
  | some (n, q) => if (sessOf s n).isNone then stageDrop s else answerLate s n q 0 ⟨status, 0, 0, []⟩
  | none => s

/-- A mirrored operation of this unit ends without effect and answers a status. -/
def mirrorRefused (s : State) (m : Mirrored) (status : Nat) : State :=
  let s := { s with pair := { s.pair with mirrors := s.pair.mirrors.filter fun x => !(x.own && x.id == m.id) } }
  match m.op with
  | .commit .. => commitRefused s status
  | .bundle .. => answerLate { s with jal := { s.jal with bundleRq := none } } m.sess m.seq 0 ⟨status, 0, 0, []⟩
  | _ => answerLate s m.sess m.seq m.idx ⟨status, 0, 0, []⟩

/-- An operation both units have accepted, the partner at `t` by the counter, waits for the first row 2 ms or more later (R433). -/
def mirrorWait (s : State) (m : Mirrored) (t : Int) : State :=
  let row := ceilDiv ((t + 2000000).toNat * baseHz s) 1000000000
  { s with pair := { s.pair with mirrors := s.pair.mirrors ++ [{ m with acked := true, row := row }] } }

/-- The clearings of forces that the partner has still to take: they are kept for the link's return, through every restart as the force
table is (R420). -/
def clearsKept (l : List Mirrored) : List Mirrored :=
  (l.filter fun m => m.own && m.op == .clearForces).map fun m => { m with acked := true, row := 18446744073709551615 }

/-- Every operation that waits for the partner answers STATE (R433), but for a clearing of forces, which is kept; what the partner has
asked and the vault has not judged is dropped. -/
def mirrorDrop (s : State) : State :=
  let l := s.pair.mirrors
  let s := { s with pair := { s.pair with
    mirrors := clearsKept l ++ l.filter fun (m : Mirrored) => (m.own || m.acked) && !(m.own && m.op == MirrorOp.clearForces) } }
  (s.pair.mirrors.filter fun m => m.own && !m.acked).foldl (fun s m => mirrorRefused s m stateS) s

/-- A mirrored operation is sent to the partner; it answers when the partner has. -/
def mirrorSend (s : State) (n seq idx : Nat) (op : MirrorOp) : State :=
  let id := s.pair.nextMirror
  let m : Mirrored := { id := id, op := op, sess := n, seq := seq, idx := idx }
  sendIul { s with pair := { s.pair with nextMirror := id + 1, mirrors := s.pair.mirrors ++ [m] } } (.mirror id op)

/-- The link has returned: a clearing of forces that found it down goes to the partner (R420). -/
def mirrorBack (s : State) : State :=
  let held (m : Mirrored) : Bool := m.own && m.acked && m.op == .clearForces
  if !settled s then s
  else (s.pair.mirrors.filter held).foldl (fun s _ => mirrorSend s 0 0 0 .clearForces)
    { s with pair := { s.pair with mirrors := s.pair.mirrors.filter fun m => !held m } }

/-- Imports end with the re-entry they belong to (R449). -/
def importStop (s : State) : State :=
  (s.parts.ps.map Prod.fst).foldl (fun s p =>
    let m := (partOf s p).mig
    if m.import_ && (m.st == 2 || m.st == 3 || (partOf s p).st == .restoring) then
      migAbort (setStep s p { stepOf s p with hold := false }) p 7 false else s) s

/-- The link counts as down (R473): every partition leaves step, and what waited for the partner ends. -/
def linkGone (s : State) : State :=
  if !s.pair.link then pairEval s
  else
    let s := { s with pair := { s.pair with link := false, round := false, heard := false, helloSent := false } }
    let s := mirrorDrop (allOut s)
    let s := { s with pair := { s.pair with steps := tabMap (fun _ (x : StepSt) => { x with image := none }) s.pair.steps } }
    let s := (s.pair.claims.map Prod.fst).foldl (fun s d => if hoPath s d == 0 then hoEnd s d stateS else s) s
    importStop (pairEval s)

/-! ## Lanes (R429, R476) -/

/-- Is a settled lane down (R472, bit 9). -/
def laneDown (s : State) : Bool := settled s && pairOn s && s.pair.upOnce.any fun n => !(lanesUp s).contains n

/-- Roll-call sub 5 judged (R476): OFF while PAIR_ENABLE is clear, also after a fault, which comes back with PAIR_ENABLE (DESIGN CHOICE,
entry 67); and bit 9 of the self-test. -/
def judgeIul (s : State) : State :=
  let s := selfBit s 9 (laneDown s)
  if !unitPresent s 5 || !hubLive s then s
  else if !pairOn s then
    (if (rollOf s 5).draining then s
     else setUnit { s with pair := { s.pair with serdesBad := s.pair.serdesBad || unitSt s 5 == .fault } } 5 .off)
  else if s.pair.serdesBad then setUnit { s with pair := { s.pair with serdesBad := false } } 5 .fault
  else if unitOk s 5 || unitSt s 5 == .off then
    setUnit s 5 (if (laneOf s 0).st == 3 && (laneOf s 1).st == 3 then .ready else .degraded)
  else s

/-- May a lane train: pairing enabled, its cage powered, its port not disabled, the unit not in FAULT. -/
def laneReady (s : State) (n : Nat) : Bool :=
  n < 2 && pairOn s && adminOn s (6 + n) && (cageOf s (6 + n)).powered && hubLive s && unitSt s 5 != .fault

/-- A lane begins training at 25GBASE-R. -/
def laneTrain (s : State) (n : Nat) : State :=
  if laneReady s n && (laneOf s n).st == 0 then setLane s n { st := 1, try25 := true, due := some (s.now + 500000000) } else s

/-- LANE_TRAIN_SWITCH: an attempt of 500 ms ends and the lane tries the other speed. -/
def execLaneTrainSwitch (dt lane : Nat) (s : State) : Host.Outcome State Fault Refusal :=
  let s := advance dt s
  let x := laneOf s lane
  if laneReady s lane && x.st == 1 && dueBy s x.due then
    done (setLane s lane { x with try25 := !x.try25, due := some (s.now + 500000000) })
  else if laneReady s lane && x.st == 0 then done (laneTrain s lane)
  else done s

/-- The link is up again: settlement begins (R431). -/
def linkBack (s : State) : State :=
  if s.pair.link then s
  else
    let s := { s with pair := { s.pair with link := true, rptAt := s.now, round := false, heard := false, helloSent := false, helloDue := s.now } }
    pairEval s

/-- A lane has held block lock for 10 ms: it is up at the speed it tried, and a FAILED pair tries settlement again (R428, R429). -/
def laneRise (s : State) (n : Nat) : State :=
  let x := laneOf s n
  let first := (lanesUp s).isEmpty
  let s := setLane s n { x with st := if x.try25 then 3 else 2, due := none }
  let s := { s with pair := { s.pair with upOnce := adjoin s.pair.upOnce n } }
  let s := setPort s (6 + n) { portOf s (6 + n) with st := 2, speed := if x.try25 then 25000 else 10000 }
  let s := logRec s 0x0140 (0x80 + 5) (ints [6 + n, 1])
  let s := if s.pair.fail == 0 then s
    else { s with pair := { s.pair with fail := 0, round := false, heard := false, helloSent := false, helloDue := s.now } }
  judgeIul (pairEval (if first then linkBack s else s))

/-- LANE_UP. -/
def execLaneUp (dt lane : Nat) (s : State) : Host.Outcome State Fault Refusal :=
  let s := advance dt s
  if laneReady s lane && (laneOf s lane).st == 1 then done (laneRise s lane) else done s

/-- A lane that was up loses block lock: it trains anew and what waited on it is lost; without a lane up the link is down. -/
def laneLost (s : State) (n : Nat) (st : Nat) : State :=
  let was := (laneOf s n).st ≥ 2
  let due := if st == 1 then some (s.now + 500000000) else none
  let s := linkLost (setLane s n { st := st, try25 := true, due := due }) (6 + n)
  let s := judgeIul s
  if was && (lanesUp s).isEmpty then linkGone s else s

/-! ## Settlement (R431, R432, R435) -/

/-- Octets of an address as a WRITE carries them. -/
def addrBytes (ob sub : Nat) : List Byte := leN 1 (arOf ob) ++ [0] ++ leN 2 (obOf ob) ++ leN 2 sub

/-- An object's part of the configuration digest: the instances that differ from their Default. -/
def digestObj (s : State) (area : Nat) (d : Desc) : List Byte :=
  let ob := area * 65536 + d.obj
  let subs := ((s.store.filter fun (k, _) => k / 4294967296 == ob).map fun (k, _) => k / 65536 % 65536).foldl adjoin []
  match d.typ with
  | .tbl fs _ => subs.flatMap fun i =>
    let rows := s.rows ob i
    addrBytes ob i ++ leN 1 0x11 ++ [0] ++ leN 2 (sumN (fs.map ftLen)) ++ leN 4 rows.length ++ rows.flatMap (encRec fs)
  | _ => subs.flatMap fun i =>
    let v := encVal d.typ (s.val ob i 0)
    addrBytes ob i ++ leN 1 (typCode d.typ) ++ [0] ++ leN 2 v.length ++ v

/-- Is an object pair-scoped: an S object of the areas of R435, a bank, or the force table. -/
def pairScoped (ob : Nat) (d : Desc) : Bool := d.pers == .s || ob == 0x240011 || ob == 0x240012 || ob == 0x380041

/-- CONFIG_DIGEST (R435). -/
def configDigest (s : State) : List Byte :=
  sha256 ([0x20, 0x21, 0x24, 0x28, 0x29, 0x30, 0x31, 0x34, 0x38, 0x40].flatMap fun a =>
    ((areaDict a).filter fun d => pairScoped (a * 65536 + d.obj) d).flatMap (digestObj s a))

/-- The judgement of the pair by a PAIR_HELLO: 0 settled, 1 WRONG_PAIR, 2 SAME_LETTER, 3 SAME_RANK, 4 FCL, 5 MISMATCH. -/
def judgeHello (s : State) (h : PairHello) : Nat :=
  if h.pairId != s.vn 0x400002 0 then 1
  else if h.unitB == s.vb 0x400003 0 then 2
  else if h.rank == s.vn 0x400004 0 then 3
  else if min h.fcl s.boot.runFcl < max h.fclMin s.boot.runFclMin then 4
  else if h.baseRate != s.vn 0x210001 0 || h.configDigest != configDigest s then 5
  else 0

/-- Settlement is complete: the outcome is recorded and the letter and rank take effect (R427, R431). -/
def settleWith (s : State) (h : PairHello) : State :=
  let o := judgeHello s h
  let s := logRec s 0x01C8 (0x80 + 5) (ints [o])
  let both := unitsPresent s &&& h.units
  let s := { s with pair := { s.pair with
    round := true, partner := some h, fail := if o ≤ 4 then o else 0, mismatch := o == 5
    common := both
    unitB := s.vb 0x400003 0, rank := s.vn 0x400004 0
    settled := if o == 0 || o == 5 then some ⟨min h.fcl s.boot.runFcl, both, h.serial⟩ else none } }
  let s := selfBit s 9 (laneDown s)
  let s := if pairUses s 2 then s else migStopAll s 7
  let s := ((created s).filter fun p => pst s p == .running).foldl imageTell s
  pairEval (if o == 0 then s else allOut s)

/-- Settles once both hellos of this round are known. -/
def trySettle (s : State) : State :=
  if s.pair.round || !s.pair.heard || !s.pair.helloSent then s
  else match s.pair.partner with
    | some h => mirrorBack (settleWith s h)
    | none => s

/-- The unit's own PAIR_HELLO (R431). -/
def ownHello (s : State) : PairHello :=
  { pairId := s.vn 0x400002 0, unitB := s.vb 0x400003 0, rank := s.vn 0x400004 0, serial := s.ident.serial, units := unitsPresent s
    seatCap := seatCap s, partCap := partCap s, fcl := s.boot.runFcl, fclMin := s.boot.runFclMin, baseRate := s.vn 0x210001 0
    configDigest := configDigest s
    rates := [0, 1].map fun n => match (laneOf s n).st with
      | 3 => 25000
      | 2 => 10000
      | _ => 0 }

/-- A PAIR_HELLO leaves. -/
def helloSend (s : State) : State :=
  sendIul { s with pair := { s.pair with helloSent := true, helloDue := s.now + 10000000 } } (.hello (ownHello s))

/-- PAIR_HELLO_TX: every 10 ms while the IUL is up and the pair is not settled (R431). -/
def execPairHelloTx (dt : Nat) (s : State) : Host.Outcome State Fault Refusal :=
  let s := advance dt s
  if !hubLive s || !pairOn s || !s.pair.link || s.pair.round || s.pair.fail != 0 || s.now < s.pair.helloDue then done s
  else done (trySettle (helloSend s))

/-- PAIR_HELLO: it completes settlement when this unit's own has gone; a settled unit answers one and judges the pair again. -/
def execPairHello (dt : Nat) (h : PairHello) (s : State) : Host.Outcome State Fault Refusal :=
  let s := advance dt s
  if !hubLive s || !pairOn s || !s.pair.link || s.pair.fail != 0 then done s
  else
    let again := s.pair.round
    let s := { s with pair := { s.pair with partner := some h, heard := true, round := false } }
    done (trySettle (if again then helloSend s else s))

/-! ## PAIR_ENABLE (R434) -/

/-- Have the lanes sent every message they had accepted. -/
def lanesIdle (s : State) : Bool := [0, 1].all fun n => laneLoad (laneOf s n) == 0

/-- Both lanes go down. -/
def lanesDown (s : State) : State :=
  [0, 1].foldl (fun s n => if (laneOf s n).st == 0 then s else linkLost (setLane s n {}) (6 + n)) s

/-- The unit leaves the pair: equalisation stops, every partition is out of step; the link takes no more messages and drains of those
it has (R341, R434). -/
def pairLeave (s : State) : State :=
  let s := mirrorDrop s
  let s := if lanesIdle s || !unitOk s 5 then lanesDown s else if (rollOf s 5).draining then s else setDraining s 5 true
  let s := importStop (allOut s)
  let s := (s.pair.claims.map Prod.fst).foldl (fun s d => if hoPath s d == 0 then hoEnd s d stateS else s) s
  { s with pair := { s.pair with link := false, round := false, heard := false, helloSent := false, settled := none, partner := none
                                 upOnce := [], fail := 0, mismatch := false, eq := [], held := [], digs := [], steps := [], common := 0 } }

/-- Any write to area 40 lets a FAILED module try settlement again (R428). -/
def pairRetry (s : State) : State :=
  if s.pair.fail == 0 then s
  else pairEval { s with pair := { s.pair with fail := 0, round := false, heard := false, helloSent := false, helloDue := s.now } }

/-- A write of PAIR_ENABLE; code 0x01C0 records the new state whether or not it changed. -/
def putPairEnable (s : State) (on : Bool) : Res :=
  let was := s.pair.st
  let s := s.put 0x400001 0 0 [.n (b2n on)]
  let s := if !on then pairLeave s
    else
      let s := if (rollOf s 5).draining then setDraining (lanesDown s) 5 false else s
      laneTrain (laneTrain s 0) 1
  let s := judgeIul (if on then pairRetry (pairEval s) else pairEval s)
  good (if s.pair.st == was then logRec s 0x01C0 (0x80 + 5) (ints [was, s.pair.st, s.pair.reason]) else s)

/-- The write of PAIR_ENABLE as a hook. -/
def hookPairEnable (s : State) (_n _ob _sub _row : Nat) (v : Val) : Res := putPairEnable s (vB v 0)

/-- PAIR_ENABLE_WRITE. -/
def execPairEnableWrite (dt : Nat) (rq : Req) (on : Bool) (s : State) : Host.Outcome State Fault Refusal :=
  done (doWrite (advance dt s) rq 0x400001 0 [.n (b2n on)] hookPairEnable)

/-! ## Equalisation and digest messages -/

/-- PRESENCE (R436, R438). -/
def execPresence (dt row : Nat) (present : List Nat) (digest : List Byte) (s : State) : Host.Outcome State Fault Refusal :=
  done (eqMsg (advance dt s) row (.presence dt row present digest) fun s => eqPresence s row present digest)

/-- SEATS (R438, R439). -/
def execSeats (dt row : Nat) (seats : List SeatCopy) (s : State) : Host.Outcome State Fault Refusal :=
  done (eqMsg (advance dt s) row (.seats dt row seats) fun s => eqSeatsRx s row seats)

/-- TAGS (R439). -/
def execTags (dt row : Nat) (tags : List TagRec) (s : State) : Host.Outcome State Fault Refusal :=
  done (eqMsg (advance dt s) row (.tags dt row tags) fun s => eqTagsRx s row tags)

/-- AGREE (R438). -/
def execAgree (dt row : Nat) (final : List Byte) (s : State) : Host.Outcome State Fault Refusal :=
  done (eqMsg (advance dt s) row (.agree dt row final) fun s => eqAgreeRx s row final)

/-- EQ_LOST (R443). -/
def execEqLost (dt row : Nat) (s : State) : Host.Outcome State Fault Refusal :=
  done (eqMsg (advance dt s) row (.eqLost dt row) fun s => eqLostRx s row)

/-- EQ_DEADLINE_EXPIRY: every row whose deadline has passed without agreement is given up (R440). -/
def execEqDeadlineExpiry (dt : Nat) (s : State) : Host.Outcome State Fault Refusal :=
  let s := advance dt s
  done ((s.pair.eq.filter fun (_, x) => x.due ≤ s.now).foldl (fun s (r, _) => eqGiveUp s r) s)

/-- A partition that has re-entered, or left step, is judged with the pair (R449 step 5). -/
def judgeIn (s : State) : State :=
  if !eqRuns s || s.pair.reentry != 4 then s
  else if (created s).all fun p => (stepOf s p).st == 4 then pairEval { s with pair := { s.pair with allIn := true, outReason := 6 } } else s

/-- DIGEST: the partner's output digest of a partition and row (R446, R452). -/
def execDigest (dt p row digest : Nat) (s : State) : Host.Outcome State Fault Refusal :=
  let s := advance dt s
  if !pairOn s || !hubLive s then done s else done (judgeIn (digRx s p row digest))

/-- DIGEST_WAIT_EXPIRY (R446). -/
def execDigestWaitExpiry (dt p row : Nat) (s : State) : Host.Outcome State Fault Refusal := done (digLate (advance dt s) p row)

/-- ALIGN: the lead unit's stream states wait for the named row (R450); in step 4 one without records names the row of a reset under R452
(DESIGN CHOICE, entry 68: the rule names no message for it). -/
def execAlign (dt row : Nat) (recs : List AlignRec) (s : State) : Host.Outcome State Fault Refusal :=
  let s := advance dt s
  if !(eqRuns s && s.pair.unitB) then done s
  else if s.pair.reentry == 2 then done { s with pair := { s.pair with alignIn := some (row, recs) } }
  else if s.pair.reentry == 4 && recs.isEmpty then done { s with pair := { s.pair with resetRow := some row } }
  else done s

/-- IMPORT_CHECKPOINT: no item is in service and no engine has work of the partition in hand; the checkpoint is copied, the hold ends and
the checkpoint goes over the link (R451). -/
def execImportCheckpoint (dt p : Nat) (s : State) : Host.Outcome State Fault Refusal :=
  let s := advance dt s
  let m := (partOf s p).mig
  if !(stepOf s p).hold || !hubLive s || inService s p != 0 || !enginesClear s p then done s
  else
    let s := setStep s p { stepOf s p with hold := false }
    done (dirtyClear (sendMig s p (.finalSet p m.rowF m.rowF m.ctxBytes (carryCtx s p))) p)

/-! ## Self-test (R472) -/

/-- The checks whose outcome is a state of the unit: lockstep, filter arrays, cross-check, boards, lanes. -/
def selfState (s : State) : State :=
  let s := selfBit s 0 (!s.parts.coreFailed.isEmpty)
  let s := selfBit s 3 (!s.cond.failed.isEmpty)
  let s := selfBit s 5 (xcheckBad s)
  let s := selfBit s 6 ((boards s).any fun b => !(boardOf s b).ok)
  selfBit s 9 (laneDown s)

/-- Interval of a self-test check in ns; 0 continuous. -/
def selfEvery (n : Nat) : Nat :=
  match n with
  | 1 => 2000000000 | 2 => 600000000000 | 3 => 1000000000 | 4 => 1000000000 | 6 => 100000000 | 7 => 60000000000 | 8 => 3600000000000
  | _ => 0

/-- The checks that have not completed within twice their interval: one of several parts when one of its parts has not. -/
def selfLate (s : State) : Nat :=
  let old (n k : Nat) : Bool := s.now > max (tabGetD s.pair.selfAt n 0) (tabGetD s.pair.selfAt k 0) + 2 * selfEvery n
  let late (n : Nat) : Bool := match n with
    | 3 => (upto 4).any fun a => !s.cond.failed.contains a && old 3 (16 + a)
    | 6 => (boards s).any fun b => old 6 (32 + b)
    | n => old n n
  sumN ((upto 10).map fun n => if selfEvery n != 0 && late n then 2 ^ n else 0)

/-- SELFTEST_CHECK: a check completes (R472). -/
def execSelftestCheck (dt bit : Nat) (pass : Bool) (s : State) : Host.Outcome State Fault Refusal :=
  let s := advance dt s
  if bit > 9 || !hubLive s then done s
  else
    let s := selfRan s bit
    if [0, 3, 5, 6, 9].contains bit then done (selfState s)
    else if bit == 7 then done (selfBit s 7 (!pass || s.vault.slots.any fun (_, x) => x.st == 3))
    else done (selfBit s bit !pass)

/-! ## Report cards and cross-check (R471, R473, R474) -/

/-- A map of 64 bits by a test. -/
def map64 (f : Nat → Bool) : Nat := sumN ((upto 64).map fun n => if f n then 2 ^ n else 0)

/-- A signed number clamped to 32 bits. -/
def clamp32 (v : Int) : Int := max (-2147483648) (min v 2147483647)

/-- The unit's report card. -/
def ownReport (s : State) : List Byte :=
  let late := selfLate s
  let body := leN 2 0x5243 ++ leN 1 1 ++ leN 1 (b2n s.pair.unitB) ++ leN 4 s.pair.rptSeq ++ leI 8 (tai s) ++ leN 1 s.pair.st ++
    leN 1 s.pair.reason ++ leN 1 s.tm.quality ++ leN 1 (life s) ++ leN 2 s.boot.runFcl ++ zeros 2 ++
    (upto 16).flatMap (fun i => leN 1 ((unitSt s (2 * i)).code + 16 * (unitSt s (2 * i + 1)).code)) ++
    leN 8 (map64 (fit s)) ++ leN 8 (map64 (holder s)) ++ leN 8 (map64 fun p => (partOf s p).st == .running) ++ leN 8 (map64 (inStep s)) ++
    leN 4 (sumN (s.pair.selfFail.map fun n => 2 ^ n)) ++ leN 4 late ++ leI 4 (clamp32 s.pair.xcheck) ++ leI 4 (clamp32 s.tm.ppsOff) ++
    configDigest s ++ leN 4 (min s.pair.uneqCount 4294967295) ++ leN 4 s.pair.digCount ++
    leN 2 (sumN ((boards s).map fun b => if (boardOf s b).ok then 2 ^ b else 0)) ++
    leN 1 (sumN ((upto 4).map fun a => if s.cond.failed.contains a then 0 else 2 ^ a)) ++
    leN 1 (sumN (s.tt.dmaFailed.map fun n => 2 ^ n)) ++ leN 13 (sumN (s.parts.coreFailed.map fun n => 2 ^ n)) ++ zeros 107
  body ++ leN 4 (crc32c body)

/-- REPORT_TX: every 10 ms (R471). -/
def execReportTx (dt : Nat) (s : State) : Host.Outcome State Fault Refusal :=
  let s := advance dt s
  if s.now < s.pair.rptDue || !hubLive s || !s.ident.optP then done s
  else
    let s := selfState s
    let s := { s with pair := { s.pair with rptDue := s.now + 9000000, rptSeq := (s.pair.rptSeq + 1) % 4294967296 } }
    let card := ownReport s
    let s := { s with pair := { s.pair with ownRpt := card } }
    if pairOn s then done (sendIul s (.report card)) else done s

/-- The partner's partitions that are not RUNNING leave step here (R448). -/
def partnerStops (s : State) : State :=
  (created s).foldl (fun s p =>
    if (stepOf s p).st == 4 && eqRuns s && !partnerBit s 0x38 p then leaveStep (stepOut s p) 6 else s) s

/-- Is a report card valid: its length, MAGIC, VERSION and CRC (R471). -/
def cardOk (card : List Byte) : Bool :=
  card.length == 256 && ofLe (card.take 2) == 0x5243 && ofLe ((card.drop 2).take 1) == 1 &&
    crc32c (card.take 252) == ofLe (card.drop 252)

/-- REPORT: a valid report card keeps the link up (R471, R473). -/
def execReport (dt : Nat) (card : List Byte) (s : State) : Host.Outcome State Fault Refusal :=
  let s := advance dt s
  if !cardOk card || !pairOn s || !hubLive s then done s
  else
    let s := { s with pair := { s.pair with partRpt := some card, rptAt := s.now } }
    done (partnerStops (if (lanesUp s).isEmpty then s else linkBack s))

/-- IUL_DOWN: no lane is up, or no valid report card has come for 30 ms (R473). -/
def execIulDown (dt : Nat) (s : State) : Host.Outcome State Fault Refusal :=
  let s := advance dt s
  if (lanesUp s).isEmpty || s.pair.rptAt + 30000000 ≤ s.now then done (linkGone s) else done s

/-- TIME_XCHECK: every 10 ms the offset of the two counters is measured (R474). -/
def execTimeXcheck (dt : Nat) (offset : Int) (s : State) : Host.Outcome State Fault Refusal :=
  let s := advance dt s
  if (lanesUp s).isEmpty || !pairOn s || s.now < s.pair.xcheckDue then done s
  else
    let s := sendIul { s with pair := { s.pair with xcheck := offset, xcheckOk := true, xcheckDue := s.now + 10000000 } } .xcheck
    done (selfBit s 5 (xcheckBad s))

/-- The counters Pair clears (R30). -/
def opPairReset (s : State) : Res :=
  let s := clearCtrs (clearCtrs s 0x400023 0x400026 none) 0x400030 0x400035 none
  good (clearCtrs s 0x400042 0x400043 none)

/-- PAIR_COUNTERS_RESET: clears the counters of area 40 (R30). -/
def execPairCountersReset (dt : Nat) (rq : Req) (s : State) : Host.Outcome State Fault Refusal :=
  done (doExec (advance dt s) rq 0x400050 0 opPairReset)

end Sys2Proof.Machine
end

