-- ==== Sys2Proof/Machine/Rows.lean ====
section
/-! DEFINITION. The release of rows (R253, R256, R280, R440 to R443) and what happens at a row: re-entry into step (R449 to R452),
mirrored bank and profile operations (R433), migrations and handovers. -/

namespace Sys2Proof.Machine

/-! ## Alignment (R449 step 2, R450) -/

/-- The lead unit's record of its streams for the row that follows. -/
def alignRecs (s : State) (r : Nat) : List AlignRec :=
  (subsAt s r).map fun e =>
    let x := streamOf s e
    ⟨e, x.st, x.subst, x.good, x.mem.map fun (q, vs, _) => (q, vs)⟩

/-- One stream adopts the lead unit's record. -/
def adopt1 (r : Nat) (s : State) (a : AlignRec) : State :=
  if !subValid s r a.entry then s
  else
    let mem := (a.remembered.take 2).map fun (q, vs) => (q, vs, vs.map fun _ => false)
    let s := setStream s a.entry { streamOf s a.entry with subst := a.subst, good := a.good, mem := mem }
    streamTo s a.entry a.state r

/-- The record that names row r, or one before it, is adopted before the row's release processing; the rows of step 3 begin. -/
def alignAdopt (s : State) (r : Nat) : State :=
  match s.pair.alignIn with
  | none => s
  | some (q, recs) =>
    if s.pair.reentry != 2 || q > r then s
    else
      let s := { s with pair := { s.pair with alignIn := none } }
      if q < r then s
      else
        let s := recs.foldl (adopt1 r) s
        { s with pair := { s.pair with reentry := 3, reRows := 0, reFrom := r } }

/-- May re-entry start (R474): the cross-check is within D / 4. -/
def xcheckFine (s : State) : Bool := s.pair.xcheckOk && 4 * s.pair.xcheck.natAbs ≤ s.vn 0x400005 0

/-- The lead unit names the next row for alignment, or begins step 3 at the row it named. -/
def alignLead (s : State) (r : Nat) : State :=
  match s.pair.alignRow with
  | some q => if q ≤ r then { s with pair := { s.pair with alignRow := none, reentry := 3, reRows := 1, reFrom := q } } else s
  | none => if !xcheckFine s then s
    else sendIul { s with pair := { s.pair with alignRow := some (r + 1) } } (.align (r + 1) (alignRecs s (r + 1)))

/-! ## Partitions re-enter (R449 step 4, R451, R452) -/

/-- Is IMPORT the method: option M settled and IMPORT_METHOD AUTO. -/
def importMethod (s : State) : Bool := bit s.pair.common 2 && s.vn 0x40000D 0 == 0

/-- Does the partner report a partition RUNNING. -/
def partnerRuns (s : State) (p : Nat) : Bool := partnerBit s 0x38 p

/-- Is a partition one that an import of this unit stopped. -/
def importStopped (s : State) (p : Nat) : Bool :=
  (partOf s p).mig.import_ && ((partOf s p).st == .stopped || (partOf s p).st == .stopping || (partOf s p).st == .restoring)

/-- May a partition re-enter: out of step, running the same image on both units. -/
def reCandidate (s : State) (p : Nat) : Bool :=
  (stepOf s p).st < 4 && !(stepOf s p).differ && !imgDiffers s p && (importStopped s p || (pst s p == .running && partnerRuns s p) ||
    (pst s p == .running && (stepOf s p).st == 2))

/-- A row that never comes: no digest is judged before the row of a reset is named. -/
def noRow : Nat := 18446744073709551615

/-- The lead unit names the next row for the reset of the partition that re-enters by CONVERGE (R452). -/
def nameReset (s : State) (r : Nat) : State :=
  if s.pair.unitB then s else sendIul { s with pair := { s.pair with resetRow := some (r + 1) } } (.align (r + 1) [])

/-- A partition begins to re-enter: the unit that does not hold its domain imports or resets. -/
def reBegin (s : State) (r p : Nat) : State :=
  let mine := holder s (domainOf s p)
  if importMethod s then
    if mine then s
    else
      let s := setStep { s with pair := { s.pair with rePart := some p } } p { stepOf s p with st := 2, conv := 0 }
      let s := if pst s p == .running then (opPartStop s p).s else s
      setMig s p { (partOf s p).mig with st := 0, import_ := true }
  else
    setStep (nameReset { s with pair := { s.pair with rePart := some p } } r) p { stepOf s p with st := 3, conv := 0, from_ := noRow }

/-- The importing unit's partition is in RESTORING and, a key agreed (R508), asks for the pre-copy. -/
def importAsk (s : State) (p : Nat) : State :=
  let s := setPart s p { partOf s p with mig := { st := 1, dest := p, import_ := true }, journal := [] }
  vaultPush (toSt s p .restoring .migration) 3 (.migAgree p)

/-- A partition that is re-entering, at the release of row r. -/
def reStep (s : State) (r p : Nat) : State :=
  let x := stepOf s p
  let m := (partOf s p).mig
  if x.st == 4 then { s with pair := { s.pair with rePart := none } }
  else if x.st == 3 then
    match s.pair.resetRow with
    | some q =>
      if r < q then s
      else
        let s := { s with pair := { s.pair with resetRow := none } }
        let s := if holder s (domainOf s p) then s else resetPart s p .reset
        setStep s p { stepOf s p with st := 3, conv := 0, from_ := q + 1 }
    | none =>
      if r < x.from_ + 10 * s.vn 0x40000E 0 then s
      else setStep (nameReset (logRec s 0x01C4 (0x80 + 5) (ints [p, r])) r) p { x with conv := 0, from_ := noRow }
  else if x.st == 2 then
    if (partOf s p).st == .stopped && m.st == 6 && 1 ≤ m.reason && m.reason ≤ 5 && !s.jal.heldParts.contains p then
      startPart (setMig (setStep { s with pair := { s.pair with rePart := none } } p { x with st := 1, differ := true }) p { m with import_ := false }) p
    else if (partOf s p).st == .stopped && s.jal.heldParts.contains p then s
    else if (partOf s p).st == .stopped then importAsk s p
    else if (partOf s p).st == .restoring && m.st == 4 && !m.restored && r ≥ m.rowF + 63 then importAsk s p
    else s
  else { s with pair := { s.pair with rePart := none } }

/-- The holder's side of imports at the release of row r: the final set is copied while dispatch is held (R451). -/
def importRow (s : State) (r : Nat) : State :=
  (created s).foldl (fun s p =>
    let m := (partOf s p).mig
    if !(m.import_ && m.st == 2 && m.freeze && pst s p == .running) then s
    else
      let (c, s) := ctxSize s p
      setStep (setMig s p { m with st := 3, freeze := false, rowF := r, rowR := r, ctxBytes := c }) p { stepOf s p with hold := true }) s

/-- Re-entry at the release of row r (R449). -/
def reentryRow (s : State) (r : Nat) (uneq : Bool) : State :=
  if !eqRuns s then s
  else
    let s := if s.pair.reentry == 4 then s else importStop s
    match s.pair.reentry with
    | 2 => if s.pair.unitB || uneq then s else alignLead s r
    | 3 =>
      if uneq then s
      else
        let s := { s with pair := { s.pair with reRows := s.pair.reRows + 1 } }
        if s.pair.reRows ≥ 4352 then judgeIn { s with pair := { s.pair with reentry := 4, rePart := none } } else s
    | 4 =>
      let s := importRow s r
      let s := match s.pair.rePart with
        | some p => reStep s r p
        | none => match (created s).find? fun p => reCandidate s p with
          | some p => reBegin s r p
          | none => s
      judgeIn s
    | _ => s

/-! ## Mirrored operations at their row (R433) -/

/-- The Prefect's settings among a bundle's values. -/
def pfValues (l : List (Nat × Val)) : List (Nat × Val) := l.filter fun (k, _) => k / 4294967296 / 65536 == 0x44

/-- A mirrored bank or profile operation takes effect. -/
def mirrorTake (s : State) (op : MirrorOp) : State :=
  match op with
  | .write a row v => (putBank s (obAddr a) a.sub row v).s
  | .seal b => sealApply s b
  | .swap p row mode x => if (profOf s p).st == 0 && bankSt s (othBank s p) == 2 then swapApply s p row mode x else s
  | .disarm p => if (profOf s p).st == 1 then disarmApply s p else s
  | _ => s

/-- A verified bundle's values are staged for the session that applies it, and its Prefect section is what a loosening may come from
(R477). -/
def bundleStage (s : State) (n seq svn : Nat) (l : List (Nat × Val)) : State :=
  let say (s : State) (st : Nat) : State := answerLate { s with jal := { s.jal with bundleRq := none } } n seq 0 ⟨st, 0, 0, []⟩
  if (sessOf s n).isNone then { s with jal := { s.jal with bundleRq := none } }
  else if s.jal.commitRow.isSome || s.jal.commitMid.isSome || (s.jal.holder.isSome && s.jal.holder != some n) then say s busyS
  else
    let s := l.foldl (fun s (k, v) => (stageVal s n (k / 4294967296) (k / 65536 % 65536) (k % 65536) v).s) s
    say { s with pf := { s.pf with bundle := pfValues l }
                 vault := { s.vault with bundlePend := some (svn, l.map Prod.fst) } } okS

/-- A mirrored bundle's row has come: staged at the unit that applies it, known to the Prefect and the vault at both (R433). -/
def bundleTake (s : State) (m : Mirrored) (l : List (Nat × Val)) : State :=
  if m.own then bundleStage s m.sess m.seq m.idx l
  else { s with pf := { s.pf with bundle := pfValues l }, vault := { s.vault with bundlePend := some (m.idx, l.map Prod.fst) } }

/-- Is a mirrored operation applied at a row's release. -/
def mirAtRow : MirrorOp → Bool
  | .commit .. => false
  | _ => true

/-- Mirrored operations whose common row is r, or lies before it. -/
def mirrorRow (s : State) (r : Nat) : State :=
  let due (m : Mirrored) : Bool := m.acked && mirAtRow m.op && m.row ≤ r
  let ms := s.pair.mirrors.filter due
  ms.foldl (fun s m => match m.op with
    | .bundle l => bundleTake s m l
    | op => mirrorTake s op) { s with pair := { s.pair with mirrors := s.pair.mirrors.filter fun m => !due m } }

/-! ## Row release -/

/-- The oldest closed row that is not released. -/
def nextRow (s : State) : Option Nat := (s.plan.rows.find? fun (_, x) => x.closed && !x.released).map Prod.fst

/-- What the release of row r leaves behind: the state of the seating plan, counters, rows no longer needed. -/
def rowKept (s : State) (r : Nat) : State :=
  let row := planRow s r
  let s := if row.seats.any fun (_, x) => x.filled then bump s 0x210013 0 else s
  let s := { s with plan := { s.plan with
    lastReleased := r, everReleased := true, wLast := row.wSteps, lastUneq := row.uneq, lastGapped := row.gapped, gapAt := s.plan.gapAt.filter (· > r), banks := banksFrom s r
    rows := s.plan.rows.filter fun (k, x) => k + 64 > r || !x.released || s.cond.queue.contains k || s.cond.down.contains k } }
  { s with pair := { s.pair with digs := s.pair.digs.filter fun (k, _) => k % 18446744073709551616 + 4096 > r } }

/-- The release processing of row r and its handing on to conditioning. Stage 5 is bounded as in a pair when the row's equalisation has
begun, also when it was then stopped (R28 names only a row whose equalisation does not run: DESIGN CHOICE, entry 58). -/
def releaseRow (s : State) (r : Nat) : State :=
  let s := if s.pair.unitB then alignAdopt s r else s
  let paired := s.pair.st == 2 || s.pair.st == 3
  let uneq := paired && !(planRow s r).agreed
  let s := mirrorRow s r
  let s := releaseStreams s r
  let row := planRow s r
  let s := setRow s r { row with uneq := uneq, gapped := s.plan.gapAt.any (· ≤ r), released := true, relTime := tai s, relNow := s.now }
  let bound := if row.eqRan then s.vn 0x400005 0 + 1000 else 1000
  let s := if s.now - row.closeNow > bound then setRow (stageOver s 5) r { planRow s r with late := true } else s
  let s := rowKept s r
  let s := if !uneq then s
    else
      let s := { bump s 0x400031 0 with pair := { s.pair with uneqCount := s.pair.uneqCount + 1 } }
      if eqRuns s then uneqLeave s else s
  let s := reentryRow s r uneq
  let s := hoRow (migRow s r) r
  condRelease (osRow s r false) r

/-- ROW_RELEASE: the oldest closed row is released, unless its equalisation runs (R253, R256). -/
def execRowRelease (dt : Nat) (s : State) : Host.Outcome State Fault Refusal :=
  let s := advance dt s
  match nextRow s with
  | none => done s
  | some r => if !hubLive s || (eqOf s r).isSome then done s else done (releaseRow s r)

end Sys2Proof.Machine
end

