-- ==== Sys2Proof/Machine/Link.lean ====
section
/-! DEFINITION. Links of every port with the inter-unit lanes and PTP (R38, R39, R166, R173, R174, R429), and the frames of the
inter-unit link on the wire (R430). -/

namespace Sys2Proof.Machine

/-- A port's link is lost for a cause of its own (R173): PTP, the pair and the roll call follow. -/
def portDown (s : State) (n : Nat) : State :=
  if n == 6 || n == 7 then (if (laneOf s (n - 6)).st ≥ 2 then laneLost s (n - 6) (if laneReady s (n - 6) then 1 else 0) else s)
  else if !linkUp s n then s
  else
    let s := judgePorts (linkLost s n) (portUnit n)
    if n < 6 then ptpLinkLost s n else s

/-- LINK_DOWN (R173). -/
def execLinkDown (dt port : Nat) (s : State) : Host.Outcome State Fault Refusal := done (portDown (advance dt s) port)

/-- LINK_UP: the link-up condition of the port's mode holds (R173). -/
def execLinkUp (dt port speed partner : Nat) (s : State) : Host.Outcome State Fault Refusal :=
  let s := advance dt s
  if !unitOk s (portUnit port) then done s
  else
    let was := linkUp s port
    let s := linkRise s port speed partner
    done (if port < 6 && !was && linkUp s port then ptpLinkUp s port else s)

/-- CAGE_POWER_ON: 50 ms after MOD_ABS went low the cage is powered; a lane in it trains. IU0 and IU1 need option P (R40). -/
def execCagePowerOn (dt cage : Nat) (s : State) : Host.Outcome State Fault Refusal :=
  let s := advance dt s
  let c := cageOf s cage
  if cageFits s cage && c.present && !c.tripped && dueBy s c.onDue then
    let s := setCage s cage { c with powered := true, onDue := none }
    done (if cage == 6 || cage == 7 then laneTrain s (cage - 6) else s)
  else done s

/-- A cage loses its power: its lane, or its port's link, falls. -/
def cageOff (s : State) (n : Nat) (c : Cage) : State :=
  if n == 6 || n == 7 then laneLost (setCage s n c) (n - 6) 0
  else
    let s := portDown (setCage s n c) n
    judgePorts (setPort s n { portOf s n with st := 1 }) (portUnit n)

/-- TRANSCEIVER_REMOVE: MOD_ABS goes high; the cage is unpowered (R39). A cage whose fuse has tripped reads OVERCURRENT until a transceiver
is inserted again (R38). -/
def execTransceiverRemove (dt cage : Nat) (s : State) : Host.Outcome State Fault Refusal :=
  let s := advance dt s
  if !(cageOf s cage).present then done s
  else
    let s := cageOff s cage { tripped := (cageOf s cage).tripped }
    done (setPort s cage { portOf s cage with sfp := none, ddm := none, ddmAt := none })

/-- CAGE_OVERCURRENT: a cage's electronic fuse trips (R38). -/
def execCageOvercurrent (dt cage : Nat) (s : State) : Host.Outcome State Fault Refusal :=
  let s := advance dt s
  let c := cageOf s cage
  if c.powered then done (cageOff s cage { c with powered := false, tripped := true, onDue := none }) else done s

/-- CAGE_RESTORE's effect: a tripped cage is powered again. -/
def opCageRestore (s : State) (n : Nat) : Res :=
  let c := cageOf s n
  if !c.tripped then deny s stateS
  else
    let s := setCage s n { c with tripped := false, powered := c.present && cageFits s n }
    good (if n == 6 || n == 7 then laneTrain s (n - 6) else s)

/-- CAGE_RESTORE (R38). -/
def execCageRestore (dt : Nat) (rq : Req) (cage : Nat) (s : State) : Host.Outcome State Fault Refusal :=
  done (doExec (advance dt s) rq 0x600112 cage fun s => opCageRestore s cage)

/-- A write of PORT_ADMIN with what follows on PTP and on the lanes. -/
def putAdmin (s : State) (n : Nat) (v : Val) : Res :=
  if n == 6 || n == 7 then
    let s := s.put 0x100001 n 0 v
    good (if adminOn s n then laneTrain s (n - 6) else laneLost s (n - 6) 0)
  else
    let was := linkUp s n
    let r := putPortAdmin s n v
    if was && !linkUp r.s n && n < 6 then { r with s := ptpLinkLost r.s n } else r

/-- A write of PORT_MODE with what follows on PTP. -/
def putMode (s : State) (n : Nat) (v : Val) : Res :=
  let was := linkUp s n
  let r := putPortMode s n v
  if was && !linkUp r.s n && n < 6 then { r with s := ptpLinkLost r.s n } else r

/-- PORT_ADMIN_WRITE (R173, R174). -/
def execPortAdminWrite (dt : Nat) (rq : Req) (port : Nat) (on : Bool) (s : State) : Host.Outcome State Fault Refusal :=
  done (doWrite (advance dt s) rq 0x100001 port [.n (b2n on)] fun s _ _ sub _ v => putAdmin s sub v)

/-- PORT_MODE_WRITE (R166, R173). -/
def execPortModeWrite (dt : Nat) (rq : Req) (port mode : Nat) (s : State) : Host.Outcome State Fault Refusal :=
  done (doWrite (advance dt s) rq 0x100002 port [.n mode] fun s _ _ sub _ v => putMode s sub v)

/-- A group's GROUP_MODE is applied at its commit row, with PTP (R167). -/
def groupMode (s : State) (g : Nat) : State :=
  let was := [2 * g, 2 * g + 1].filter (linkUp s)
  was.foldl ptpLinkLost (groupApply s g)

/-! ## Frames on the wire -/

/-- A frame of a lane has left: the next one starts. -/
def laneDone (s : State) (n : Nat) : State :=
  let x := laneOf s n
  match x.busy with
  | none => setLane s n (laneKick x)
  | some m =>
    let s := bumpBy (bump s 0x100029 (6 + n)) 0x10002A (6 + n) m.len
    setLane s n (laneKick { x with busy := none })

/-- TX_FRAME_DONE: a frame has left the wire: it is counted, its copy is resolved and the next frame starts (R194, R224, R430). -/
def execTxFrameDone (dt port : Nat) (s : State) : Host.Outcome State Fault Refusal :=
  let s := advance dt s
  if port == 6 || port == 7 then done (laneDone s (port - 6))
  else match (portOf s port).wire with
    | none => done (kick s port)
    | some f =>
      let s := setPort s port { portOf s port with wire := none }
      let s := bumpBy (bump s 0x100029 port) 0x10002A port f.len
      done (txResume (kick (copyEnd s f.job) port))

end Sys2Proof.Machine
end

