-- ==== Sys2Proof/Machine/Rx.lean ====
section
/-! DEFINITION. Received frames (R175 to R193, R198, R199): the ten steps of R176, PRP and HSR duplicate discard, HSR forwarding,
hardware consumers, steering into RX rings, ARP and ICMP, PAUSE. -/

namespace Sys2Proof.Machine

/-! ## Steps 2, 4 and 5 -/

/-- An address as a number, from its octets. -/
def macN (bs : List Byte) : Nat := ofBe bs

/-- Is an address a group address. -/
def isGroup (a : Nat) : Bool := bit a 40

/-- Does a PAUSE frame count as granted (R198). -/
def pauseGranted (s : State) (n : Nat) : Bool :=
  let x := portOf s n
  n != 6 && n != 7 && s.vb 0x100016 n && ((n < 4 && x.speed == 10000) || bit x.partner 3)

/-- A PAUSE frame (R198, R199): honoured, or counted as ignored. -/
def pauseRx (s : State) (n quanta : Nat) : State :=
  let s := bump s 0x10002C n
  let x := portOf s n
  let locked := match x.lockEnd with
    | some t => decide (s.now < t)
    | none => false
  if !pauseGranted s n || (locked && quanta != 0) then bump s 0x10002E n
  else if quanta == 0 then (if x.pauseFrom.isSome then pauseOff s n else s)
  else
    let len := if x.speed == 0 then 0 else quanta * 512000 / x.speed
    let from_ := match x.pauseFrom with
      | some t => if x.pauseEnd < s.now then s.now else t
      | none => s.now
    setPort s n { x with pauseFrom := some from_, pauseEnd := s.now + len }

/-- Is a multicast address accepted at step 4 (R177). -/
def mcastOk (s : State) (n dst etype : Nat) : Bool :=
  let pb := n < 4
  let pbsb := n < 6
  let sv := pb && (subKeys s).any fun e =>
    (vB (s.val 0x200100 e 0) 0 && macN (vO (s.val 0x200100 e 0) 2) == dst) ||
      (subValid s (curRow s) e && macN (vO (subOf s (curRow s) e) 2) == dst)
  let go := pbsb && (s.subsOf 0x290100).any fun e => s.fb 0x290100 e 0 && macN (vO (s.val 0x290100 e 0) 2) == dst
  let st := pbsb && (s.rows 0x100100 0).any fun v => vB v 0 && bit (vN v 1) n && macN (vO v 3) == dst
  (pbsb && (dst == 0x011B19000000 || dst == 0x0180C200000E) && etype == 0x88F7) ||
    (pbsb && dst == 0x01154E000100 + s.vn 0x110002 0 && gmode s (groupOf n) != 0 && etype == 0x88FB) ||
    ((pb || n == 6 || n == 7) && dst == macN (vO (s.val 0x400007 0 0) 0) && etype == 0x88B5) || sv || go || st

/-- Step 4: the destination. -/
def dstOk (s : State) (n : Nat) (f : Frame) : Bool :=
  if f.dst == 0xFFFFFFFFFFFF then s.vb 0x100012 n
  else if isGroup f.dst then n != 8 && mcastOk s n f.dst f.etype
  else f.dst == ownMac s n || ((s.rowsOf 0x100011 n).filter (· != 0)).any fun r =>
    let v := s.val 0x100011 n r
    vB v 0 && macN (vO v 1) == f.dst

/-- The effective VID and PCP (R178). -/
def effTag (s : State) (n : Nat) (f : Frame) : Nat × Nat :=
  match f.tag with
  | some (v, p) => (if v == 0 then s.vn 0x100013 n else v, p)
  | none => (s.vn 0x100013 n, s.vn 0x100015 n)

/-- Step 5: is the effective VID a member. -/
def vlanOk (s : State) (n vid : Nat) : Bool :=
  let m := s.rows 0x100014 n
  m.isEmpty || vid == s.vn 0x100013 n || m.any fun v => vN v 0 == vid

/-! ## The node table (R182, R183) -/

/-- Does a frame bypass duplicate discard: PTP and claim beacons (R181, R187, R218). -/
def bypass (f : Frame) : Bool := f.etype == 0x88F7 || f.etype == 0x88B5

/-- The judgement of a SeqNr against an entry: the entry after it, and 0 accept, 1 duplicate, 2 out of the window. -/
def seqJudge (s : State) (e : Node) (q : Nat) : Node × Nat :=
  if !e.judged || s.now > e.last + 400000000 then ({ e with high := q, win := 1, judged := true }, 0)
  else
    let ahead := (q + 65536 - e.high) % 65536
    if 1 ≤ ahead && ahead ≤ 32767 then ({ e with high := q, win := (e.win * 2 ^ ahead + 1) % 18446744073709551616 ||| 1 }, 0)
    else
      let back := (e.high + 65536 - q) % 65536
      if back ≤ 63 && bit e.win back then (e, 1)
      else if back ≤ 63 then ({ e with win := e.win + 2 ^ back }, 0)
      else (e, 2)

/-- A frame from an entry's source refreshes it. -/
def nodeSeen (s : State) (n typ : Nat) (e : Node) : Node :=
  let e := { e with seen := s.now, typ := typ }
  if isLanB n then { e with lastB := rxStamp s n } else { e with lastA := rxStamp s n }

/-- Puts a node entry. -/
def putNode (s : State) (k : Nat) (e : Node) : State := { s with net := { s.net with nodes := tabPut s.net.nodes k e } }

/-- A source without an entry meets a full table: counted, the first time recorded (R183). -/
def unlearned (s : State) (g : Nat) : State :=
  let s := bump s 0x110023 g
  if s.net.nodesFull then s else logRec { s with net := { s.net with nodesFull := true } } 0x0142 (0x80 + 2) []

/-- The duplicate discard of a tagged frame from a source at port n: whether it is accepted. -/
def dupJudge (s : State) (n src q typ : Nat) : Bool × State :=
  let g := groupOf n
  let k := nodeKey g src
  match tabGet s.net.nodes k with
  | none =>
    if s.net.nodes.length ≥ 4096 then (true, unlearned s g)
    else (true, putNode s k (nodeSeen s n typ { high := q, win := 1, judged := true, last := s.now }))
  | some e =>
    let (e', o) := seqJudge s e q
    let s := putNode s k (nodeSeen s n typ { e' with last := s.now })
    if o == 1 then (false, bump s 0x110020 g) else (true, if o == 2 then bump s 0x110022 g else s)

/-- A frame refreshes the entry its source has, tagged or not, accepted or not (R182). -/
def nodeTouch (s : State) (n src : Nat) : State :=
  match tabGet s.net.nodes (nodeKey (groupOf n) src) with
  | some e => putNode s (nodeKey (groupOf n) src) (nodeSeen s n e.typ e)
  | none => s

/-- A frame with a trailer that bypasses duplicate discard creates the entry of a new source, in which no SeqNr is judged yet (R182). -/
def nodeMeet (s : State) (n src : Nat) : State :=
  let g := groupOf n
  if (tabGet s.net.nodes (nodeKey g src)).isSome then s
  else if s.net.nodes.length ≥ 4096 then unlearned s g
  else putNode s (nodeKey g src) (nodeSeen s n 0 {})

/-- Would a frame be judged a duplicate, the table unchanged. -/
def isDup (s : State) (n src q : Nat) : Bool :=
  match tabGet s.net.nodes (nodeKey (groupOf n) src) with
  | none => false
  | some e => (seqJudge s e q).2 == 1

/-- A supervision frame at its consumer: it is counted and creates or refreshes its source's entry (R182). -/
def superRx (s : State) (n src : Nat) : State :=
  let g := groupOf n
  let s := bump s 0x110027 g
  let k := nodeKey g src
  let typ := if gmode s g == 2 then 1 else if gmode s g == 1 then 0 else 4
  match tabGet s.net.nodes k with
  | some e => putNode s k (nodeSeen s n typ e)
  | none => if s.net.nodes.length ≥ 4096 then s else putNode s k (nodeSeen s n typ {})

/-! ## Steering and RX rings (R188 to R193) -/

/-- The octets of a frame as a ring receives it, for content the model carries. -/
def frameBytes (f : Frame) : List Byte :=
  let tag := match f.tag with
    | some (v, p) => [0x81, 0x00] ++ (leN 2 (p * 8192 + v)).reverse
    | none => []
  match f.body with
  | .raw b => macBytes f.dst ++ macBytes f.src ++ tag ++ (leN 2 f.etype).reverse ++ b
  | _ => []

/-- Length without FCS, trailer and HSR tag. -/
def bareLen (f : Frame) (rct hsr : Bool) : Nat := f.len - 4 - 6 * b2n rct - 6 * b2n hsr

/-- The steering entry a frame matches: the lowest-numbered in every field. -/
def steerFind (s : State) (n vid : Nat) (f : Frame) : Option Nat :=
  (s.rowsOf 0x100100 0).find? fun i =>
    let v := s.val 0x100100 0 i
    vB v 0 && bit (vN v 1) n && vN v 2 == f.etype && (macN (vO v 3) == 0 || macN (vO v 3) == f.dst) && (vN v 4 == 0xFFFF || vN v 4 == vid)

/-- The posted buffers a frame of `left` octets fills from the entry k places on, n at most: index, buffer and octets; none when an entry
is not posted. -/
def rxPlan (s : State) (q : Nat) : Nat → Nat → Nat → Option (List (Nat × RxPost × Nat))
  | 0, _, left => if left == 0 then some [] else none
  | n + 1, k, left =>
    if left == 0 then some []
    else
      let r := ringOf s q
      if k ≥ idxDist r.taken r.prod then none
      else
        let i := w32 (r.taken + k)
        match tabGet r.slots (slotOf s q i) with
        | some (.rx b) =>
          let m := min b.bufLen left
          if m == 0 then none else (rxPlan s q n (k + 1) (left - m)).map fun l => (i, b, m) :: l
        | _ => none

/-- The completion forms of a frame and its octets, buffer by buffer; the index passes the last of them in one write (R191). -/
def rxFill (s : State) (q n steer vid pcp flags len : Nat) (bytes : List Byte) (pl : List (Nat × RxPost × Nat)) : State :=
  let p := rOwner s q
  let t := rxStamp s n
  let total := pl.length
  let (s, _, _) := pl.foldl (fun (acc : State × Nat × List Byte) x =>
    let (s, k, bs) := acc
    let (i, b, m) := x
    let s := if bs.isEmpty then s else memWrite s p b.bufAddr (bs.take m)
    let e : Entry := .rxDone b m (k == 0) (k + 1 == total) flags t len n steer vid pcp
    (setRing (slotWrite s q (slotOf s q i) e) q (putSlot (ringOf s q) (slotOf s q i) e), k + 1, bs.drop m)) (s, 0, bytes)
  let s := setRing s q { ringOf s q with taken := w32 ((ringOf s q).taken + total) }
  ringDone s q total 0

/-- A frame that matched steering entry i goes to its ring, or finds no buffer (R191, R192). -/
def steerTo (s : State) (n i vid pcp : Nat) (f : Frame) (rct hsr wrong : Bool) : State :=
  let v := s.val 0x100100 0 i
  let q := vN v 5
  let len := bareLen f rct hsr
  if !(rOwner s q == vN v 6 && rType s q == 0) then bump s 0x100027 n
  else match rxPlan s q 64 0 len with
    | none => bump s 0x100027 n
    | some pl =>
      let flags := 4 * b2n rct + 8 * b2n hsr + 16 * b2n (isLanB n && gmode s (groupOf n) != 0) + 32 * b2n wrong + 64 * b2n f.tag.isSome
      rxFill s q n i vid pcp flags len (frameBytes f) pl

/-! ## Consumers and platform (R179, R190) -/

/-- Is a migration or an import running whose peer has an address (R179). -/
def migPeer (s : State) (src : Nat) : Bool :=
  s.parts.ps.any fun (_, x) => (x.mig.hand || x.mig.st == 2 || x.mig.st == 3 || x.st == .restoring) && x.mig.peer == src && src != 0

/-- A process-bus EtherType 0x88B6 frame the migration unit accepts (R179): of a peer of a migration that runs; or an authentic handshake
for a partition that MIG_PREPARE has put in RESTORING and that has no peer yet: its source becomes the peer (DEDUCED, entry 60). -/
def migTakes (s : State) (f : Frame) : Option State :=
  if !s.ident.optM then none
  else if migPeer s f.src then some s
  else match f.body with
    | .mig (.handshake p ..) true =>
      let x := partOf s p
      if x.st == .restoring && x.mig.st == 1 && x.mig.peer == 0 && !x.mig.import_ then
        some (setPart s p { x with mig := { x.mig with peer := f.src } })
      else none
    | _ => none

/-- Step 7: the hardware consumer of a frame, when its EtherType has one on the port. -/
def consume (s : State) (n vid : Nat) (f : Frame) : Option State :=
  let lanB := isLanB n && gmode s (groupOf n) != 0
  match f.etype with
  | 0x88BA => if n < 4 then some (match f.body with
      | .sv p => svFrame s n f.dst vid lanB p
      | _ => if unitTakes s 7 then bump s 0x200200 n else s) else none
  | 0x88B8 => if n < 6 then some (match f.body with
      | .goose p => gooseRx s n f.dst f.src vid p
      | _ => if unitOk s 10 then bump s 0x290200 n else s) else none
  | 0x88F7 => if n < 6 then some (match f.body with
      | .ptp m => ptpRx s n m
      | _ => s) else none
  | 0x88FB => if n < 6 then some (match f.body with
      | .supervision src => superRx s n src
      | _ => s) else none
  | 0x88B5 => if n < 4 || n == 6 || n == 7 then some (match f.body with
      | .beacon b => beaconRx s (if n < 4 then n else 8) b
      | _ => bump s 0x400035 0) else none
  | 0x88B6 =>
    if n == 6 || n == 7 then some (match f.body with
      | .mig m ok => migRx s 0 m ok
      | _ => s)
    else if n < 4 then some (match migTakes s f with
      | none => bump s 0x100025 n
      | some s => (match f.body with
        | .mig m ok => migRx s (n + 1) m ok
        | _ => s))
    else none
  | _ => none

/-- The IP interface of a port (R190). -/
def ipIface (s : State) (n : Nat) : Nat := if n == 8 then 2 else if n == 5 && gmode s 2 == 0 then 1 else 0

/-- The firmware's answer to an ARP request or an ICMP echo request leaves on the port it came by (R190, R194). -/
def ipAnswer (s : State) (n etype dst : Nat) : State :=
  sendTo s n .none { job := 0, cls := 2, len := 64, what := .answer etype dst } false

/-- Step 9: ARP, and IPv4 to one of the module's addresses, on SB and MT. -/
def platform (s : State) (n : Nat) (f : Frame) : Option State :=
  if n != 4 && n != 5 && n != 8 then none
  else
    let own := s.vn 0x100110 (ipIface s n)
    let any := [0, 1, 2].map (s.vn 0x100110)
    match f.etype, f.body with
    | 0x0806, .arp target => some (if target == own && own != 0 then ipAnswer s n 0x0806 f.src else s)
    | 0x0806, _ => some s
    | 0x0800, .ipv4 dst proto what =>
      if dst != 0 && any.contains dst then some (if proto == 1 && what == 0x0800 then ipAnswer s n 0x0800 dst else s) else none
    | _, _ => none

/-- Steps 7 to 10. -/
def deliver (s : State) (n : Nat) (f : Frame) (rct hsr wrong : Bool) : State :=
  let (vid, pcp) := effTag s n f
  match consume s n vid f with
  | some s => s
  | none => match (if n < 6 then steerFind s n vid f else none) with
    | some i => steerTo s n i vid pcp f rct hsr wrong
    | none => match platform s n f with
      | some s => s
      | none => bump s 0x100028 n

/-- Step 6: PRP's trailer and duplicate discard (R180 to R182). -/
def prpStep (s : State) (n : Nat) (f : Frame) : State :=
  if n > 5 || gmode s (groupOf n) != 1 then deliver s n f false false false
  else match f.rct with
    | some (q, lan, true) =>
      let wrong := lan != (if isLanB n then 0xB else 0xA)
      let s := if wrong then bump s 0x110021 (groupOf n) else s
      if bypass f then deliver (nodeMeet s n f.src) n f true false wrong
      else
        let (ok, s) := dupJudge s n f.src q 0
        if ok then deliver s n f true false wrong else s
    | _ => deliver s n f false false false

/-- Steps 4 to 6. -/
def localSteps (s : State) (n : Nat) (f : Frame) (hsr : Bool) : State :=
  if !dstOk s n f then bump s 0x100025 n
  else if !vlanOk s n (effTag s n f).1 then bump s 0x100026 n
  else if hsr then deliver s n f false true false
  else prpStep s n f

/-! ## HSR (R184 to R187) -/

/-- Does the life cycle let the ring ports forward a frame: everything in OPERATIONAL, PTP and the frames of Jalyn before (R93). -/
def mayForward (s : State) (f : Frame) : Bool :=
  life s == 2 || (life s == 1 && [0x88F7, 0x0806, 0x0800].contains f.etype)

/-- A frame is forwarded on the other ring port, unless 32 forwarded frames wait there (R185); Pdelay messages never are (R218). -/
def hsrForward (s : State) (n : Nat) (f : Frame) : State :=
  let m := if n % 2 == 0 then n + 1 else n - 1
  let g := groupOf n
  let waits := ((portOf s m).q.filter fun x => match x.what with
    | .forward .. => true
    | _ => false).length
  let pdelay := match f.body with
    | .ptp .pdelayReq => true
    | .ptp (.pdelayResp _) => true
    | .ptp (.pdelayRespFollowUp _) => true
    | _ => false
  if !linkUp s m || !mayForward s f || pdelay then s
  else if waits ≥ 32 then bump s 0x110025 g
  else sendJob (bump s 0x110024 g) [m] false .none { job := 0, cls := min (effTag s n f).2 6, len := f.len, what := .forward f (rxStamp s n) } false

/-- Would a frame leave cut-through: the other ring port is idle and holds nothing of its class. -/
def cutThrough (s : State) (n : Nat) (f : Frame) : Bool :=
  let m := if n % 2 == 0 then n + 1 else n - 1
  let x := portOf s m
  linkUp s m && x.wire.isNone && x.pauseFrom.isNone && !x.q.any fun y => y.cls == min (effTag s n f).2 6

/-- Step 3: a frame with an HSR tag on a ring port (R184, R187). -/
def hsrStep (s : State) (n q : Nat) (f : Frame) : State :=
  let g := groupOf n
  let own := ownMac s n
  let fwd := f.src != own && (isGroup f.dst || f.dst != own)
  if !f.fcsOk then
    if fwd && !isDup s n f.src q && cutThrough s n f then hsrForward s n f else s
  else if f.src == own then bump s 0x110026 g
  else
    let first := bypass f
    let s := if first && (isGroup f.dst || f.dst == own) then localSteps s n f true else s
    let (ok, s) := dupJudge s n f.src q 1
    if !ok then s
    else
      let s := if !first && (isGroup f.dst || f.dst == own) then localSteps s n f true else s
      if fwd then hsrForward s n f else s

/-! ## A received frame -/

/-- The ten steps of R176. -/
def rxSteps (s : State) (n : Nat) (f : Frame) : State :=
  if f.len < 64 then bump s 0x100022 n
  else if f.len > 1536 then bump s 0x100023 n
  else
    let s := bumpBy (bump (setPort s n { portOf s n with rxAt := some s.now }) 0x100020 n) 0x100021 n f.len
    let s := if f.fcsOk then nodeTouch s n f.src else bump s 0x100024 n
    let ring := n < 4 && gmode s (groupOf n) == 2
    if f.etype == 0x8808 then
      if !f.fcsOk then s
      else match f.body with
        | .pause quanta => pauseRx s n quanta
        | _ => bump s 0x100025 n
    else match ring, f.hsr with
      | true, some (_, q) => hsrStep s n q f
      | _, _ => if f.fcsOk then localSteps s n f false else s

/-- RX_FRAME: a frame arrives at a port (R176). -/
def execRxFrame (dt port : Nat) (f : Frame) (s : State) : Host.Outcome State Fault Refusal :=
  let s := advance dt s
  if port > 8 || !linkUp s port || !unitOk s (portUnit port) || !hubLive s then done s else done (rxSteps s port f)

end Sys2Proof.Machine
end

