-- ==== Sys2Proof/Machine/Cross.lean ====
section
/-! DEFINITION. The cross-checks of a commit (R126 steps 2 and 3): `o` is the state before it, `n` the same state with every staged value
in place. Each check gives the status it fails with, or OK. -/

namespace Sys2Proof.Machine

/-- The first status of a list of checks that fails. -/
def firstBad (l : List (Bool × Nat)) : Nat :=
  match l.find? (·.1) with
  | some (_, s) => s
  | none => okS

/-- Is an octet string a group address. -/
def groupMac (bs : List Byte) : Bool := isGroup (macN bs)

/-- Is a partition STOPPED, FAULT or NONE (R328). -/
def quiet (s : State) (p : Nat) : Bool :=
  p ≥ 64 || ((partOf s p).fence.isNone && match (partOf s p).st with
    | .none => true
    | .stopped => true
    | .fault => true
    | _ => false)

/-- Two rings of half-open intervals overlap. -/
def overlap (a la b lb : Nat) : Bool := a < b + lb && b < a + la

/-! ## Subscriptions (R238, R239) -/

/-- The valid subscription entries after the commit. -/
def entriesIn (n : State) : List Nat := (n.subsOf 0x200100).filter fun e => n.fb 0x200100 e 0

/-- An entry's fields. -/
def eV (n : State) (e : Nat) : Val := n.val 0x200100 e 0

/-- The converter of an entry, none at native rate or without a conversion. -/
def eConv (n : State) (e : Nat) : Option Nat := (convFor (baseHz n) (subRate (eV n e))).getD none

/-- What identifies an entry's stream. -/
def eKey (n : State) (e : Nat) : Nat × Nat × Nat × Nat :=
  (macN (vO (eV n e) 2), vN (eV n e) 3, vN (eV n e) 4, crc32c (vO (n.val 0x200101 e 0) 0))

/-- W in ns, and D when the module is paired. -/
def wD (n : State) : Nat × Nat := (n.vn 0x210002 0, if pairOn n then n.vn 0x400005 0 else 0)

/-- R238's inequality. -/
def windowBad (n : State) : Bool := let (w, d) := wD n; ceilDiv ((w + d) * baseHz n) 1000000000 + 10 > 64

/-- A converted entry's window. -/
def convBad (n : State) (e : Nat) : Bool :=
  match eConv n e with
  | some c => decide (n.vn 0x210002 0 < convA c + 50000)
  | none => false

/-! ## Allowances (R324, R325) -/

/-- The sum over partitions of an allowance. -/
def allowSum (n : State) (i : Nat) : Nat := sumN ((partsIn n).map fun p => n.fn 0x300010 p i)

/-- What a partition's named instances take of an allowance. -/
def allowUsed (n : State) (p i : Nat) : Nat :=
  match i with
  | 4 => ((n.subsOf 0x310010).filter fun q => rOwner n q == p).length
  | 5 => (tasksOf n p).length
  | 6 => sumN ((n.subsOf 0x340100).map fun c => let v := n.val 0x340100 c 0
      if vB v 0 then b2n (vN v 1 == p) + b2n (vN v 2 == p) else 0)
  | 7 => sumN ((imgMap n p).map fun (k, e) => if k == 0 then subUnits (eV n e) else 0)
  | 8 => ((n.subsOf 0x280100).filter fun b => n.fb 0x280100 b 0 && n.fn 0x280100 b 1 == p).length
  | 9 => (((imgMap n p).filter fun (k, _) => k == 1).map fun (_, g) => gProf n g).foldl adjoin [] |>.length
  | 10 => ((n.rows 0x100100 0).filter fun v => vB v 0 && vN v 6 == p).length
  | _ => 0

/-- Does a partition's use of an allowance exceed it. -/
def allowBad (n : State) (p i : Nat) : Bool := p < 64 && partValid n p && allowUsed n p i > n.fn 0x300010 p i

/-! ## Entries (R239) -/

/-- A subscription entry (R239). -/
def checkEntry (n : State) (e : Nat) : Nat :=
  if !n.fb 0x200100 e 0 then okS
  else
    let v := eV n e
    let others := (entriesIn n).filter (· != e)
    let cap := if baseHz n == 4800 then seatCap n else seatCap n / 3
    firstBad [
      (others.any fun f => eKey n f == eKey n e, rangeS),
      (!groupMac (vO v 2), rangeS),
      (subCh v < 1 || subCh v > 24 || vN v 1 == 0, rangeS),
      ((convFor (baseHz n) (subRate v)).isNone, rangeS),
      ((groups n).any (fun g => (gChans n g).any fun (f, c) => f == e && c ≥ subCh v), rangeS),
      (subBase v + subUnits v > cap || others.any (fun f => overlap (subBase v) (subUnits v) (subBase (eV n f)) (subUnits (eV n f))), rangeS),
      (convBad n e, rangeS),
      (((entriesIn n).filter fun f => (eConv n f).isSome).length > 256, quotaS),
      (vN v 14 != 0 && !tkFor n (vN v 15) 0, stateS),
      ((partsIn n).any fun p => (imgMap n p).contains (0, e) && allowBad n p 7, quotaS)]

/-- Is an entry that is no longer valid still named by a group, an image or an outbound stream. -/
def entryNamed (n : State) (e : Nat) : Bool :=
  !n.fb 0x200100 e 0 && ((groups n).any (fun g => (gChans n g).any fun (f, _) => f == e) ||
    (upto 64).any (fun t => (imgMap n t).contains (0, e)) ||
    (n.subsOf 0x280200).any fun o => n.fb 0x280200 o 0 && (n.rows 0x280202 o).any fun v => vN v 1 == 0 && vN v 2 == e)

/-! ## Groups and images (R276, R288) -/

/-- A group (R276): a removal waits for no swap. -/
def checkGroup (o n : State) (g : Nat) : Nat :=
  let p := gProf n g
  let valid := n.fb 0x240020 g 0
  let was := o.fb 0x240020 g 0
  let busy := (profOf o p).st != 0 || (was && (profOf o (gProf o g)).st != 0)
  let chans := (n.rows 0x240021 g).map fun v => (vN v 0, vN v 1)
  firstBad [
    (valid && (chans.isEmpty || chans.any (fun (e, c) => !n.fb 0x200100 e 0 || c ≥ subCh (eV n e)) || p ≥ 64), rangeS),
    (valid && busy && (!was || p != gProf o g || gChans n g != gChans o g), busyS),
    ((partsIn n).any fun t => (imgMap n t).contains (1, g) && allowBad n t 9, quotaS),
    (histUsed n > 8192, quotaS),
    (condLoad n > condBudget n, quotaS)]

/-- A profile's decimations (24.0010) within the limits of R273, which hang on BASE_RATE and on the sealed banks. -/
def checkProfile (o n : State) (p : Nat) : Nat :=
  let bare (b : Nat) : Bool := 2 ≤ bankSt n b && bankSt n b != 3 && bN2 n b == 0
  if baseHz n % max 1 (n.fn 0x240010 p 0 * n.fn 0x240010 p 1) != 0 || (n.fn 0x240010 p 1 > 1 && (bare (2 * p) || bare (2 * p + 1))) then rangeS
  else if n.val 0x240010 p 0 != o.val 0x240010 p 0 && (groups n ++ groups o).any (fun g => gProf n g == p || gProf o g == p) then stateS else okS

/-- The cores of a partition after the commit. -/
def coresIn (n : State) (p : Nat) : List Nat := let m := ofLe (vO (n.val 0x300010 p 0) 1); (upto 104).filter fun c => bit m c

/-- The die, as DIE names it, in whose SRAM a partition's row ring lies (R17): 1 the hub. -/
def rowDie (n : State) (p : Nat) : Nat :=
  match (coresIn n p).map dieOf with
  | [] => 1
  | k :: r => if r.all (· == k) then k + 1 else 1

/-- A region of a partition that holds an interval, by a test on its row: GPA, SIZE, KIND, DIE, ACCESS. -/
def regionHolds (n : State) (p base len : Nat) (ok : Val → Bool) : Bool :=
  (n.rows 0x300011 p).any fun v => ok v && vN v 0 ≤ base && base + len ≤ vN v 0 + vN v 1

/-- Does a partition's row ring, its entries or its image bodies, lie outside the SRAM of its die (R17). -/
def rowRingBad (n : State) (p : Nat) : Bool :=
  let q := n.fn 0x240031 p 0
  let slot := (imgBytes n p + 63) / 64 * 64
  let here (v : Val) : Bool := vN v 2 == 1 && vN v 3 == rowDie n p
  q < 256 && !(regionHolds n p (rBase n q) (rSize n q * rEntry n q) here && regionHolds n p (n.fn 0x240031 p 1) (rSize n q * slot) here)

/-- A partition's image map and row ring (R288). -/
def checkImage (n : State) (t : Nat) : Nat :=
  let q := n.fn 0x240031 t 0
  let maps := (upto 64).filter fun p => n.fn 0x240031 p 0 < 256
  let image (p : Nat) : Nat := 64 + imgBytes n p
  let total := sumN (maps.map image)
  let onDie := sumN ((maps.filter fun p => rowDie n p == rowDie n t).map image)
  firstBad [
    (q != 0xFFFF && q > 255, rangeS),
    (q == 0xFFFF && !(imgMap n t).isEmpty, rangeS),
    (q < 256 && !(rOwner n q == t && rType n q == 4 && rEntry n q == 64), rangeS),
    ((imgMap n t).any fun (k, i) => if k == 0 then !n.fb 0x200100 i 0 else !n.fb 0x240020 i 0, rangeS),
    (rowRingBad n t, rangeS),
    (imgBytes n t > 131072, rangeS),
    (total > 1048576, rangeS),
    (rowDie n t > 1 && onDie > 262144, rangeS)]

/-! ## Publishing (R299, R310, R317) -/

/-- A layout's rows with their nesting depth: row, type, size. -/
def layWalk : List (Nat × Nat) → List Nat → Nat → List (Nat × Nat × Nat)
  | [], _, _ => []
  | (t, n) :: r, st, i =>
    let st := st.dropWhile (· == 0)
    let d := st.length
    let st := match st with
      | k :: l => (k - 1) :: l
      | [] => []
    (i, t, d) :: layWalk r (if t == 14 then n :: st else st) (i + 1)

/-- The row, type and depth of each basic member of a layout. -/
def basicRows (l : List (Nat × Nat)) : List (Nat × Nat × Nat) := (layWalk l [] 0).filter fun (_, t, _) => t != 14

/-- The name "claim". -/
def claimName : List Byte := [0x63, 0x6C, 0x61, 0x69, 0x6D]

/-- A publish block (R299). -/
def checkBlock (n : State) (b : Nat) : Nat :=
  let v := gbCfg n b
  if !vB v 0 then okS
  else
    let lay := layoutOf (n.rows 0x280102 b)
    let claimOk := match (basicRows lay)[vN v 10]? with
      | some (i, t, d) => t == 8 && d == 0 && trimZ (vO (n.val 0x280103 b i) 0) == claimName
      | none => false
    firstBad [
      ((layWalk lay [] 0).any (fun (_, t, d) => t == 14 && d ≥ 2) || (basicRows lay).length > 128, rangeS),
      (!groupMac (vO v 3), rangeS),
      (vN v 4 > 0x3FFF, rangeS),
      (goLen v (n.val 0x280101 b 0) lay > 1518, rangeS),
      (vB v 9 && !claimOk, rangeS),
      (vN v 11 < 500000 || vN v 11 > 100000000 || vN v 11 % 1000 != 0 || vN v 12 < 1 || vN v 12 > 4 || vN v 13 < 100 || vN v 13 > 60000 ||
        vN v 13 * 1000000 < vN v 11 || vN v 14 < 2 || vN v 14 > 4, rangeS),
      (vN v 15 != 0 && !tkFor n (vN v 16) 3, stateS)]

/-- An outbound stream (R317). -/
def checkStream (n : State) (o : Nat) : Nat :=
  let v := n.val 0x280200 o 0
  let (w, d) := wD n
  let a := match osConv n (vN v 7) with
    | some c => convA c
    | none => 0
  let valid := (n.subsOf 0x280200).filter fun k => n.fb 0x280200 k 0
  let terms := sumN (valid.map fun k => ((n.rows 0x280202 k).filter fun t => vN t 1 != 0xFF).length)
  if !vB v 0 then okS
  else firstBad [
    ((n.rows 0x280202 o).any fun t => if vN t 1 == 0 then !n.fb 0x200100 (vN t 2) 0
      else if vN t 1 == 1 then !n.fb 0x240020 (vN t 2) 0 || pD n (gProf n (vN t 2)) > 1 else false, rangeS),
    (!groupMac (vO v 2), rangeS),
    (vN v 3 < 0x4000 || vN v 3 > 0x7FFF, rangeS),
    (vN v 9 < 1 || vN v 9 > 8, rangeS),
    (vN v 8 < 1 || vN v 8 > 24 || (upto (vN v 8)).any (fun c => let k := (osTerms (n.rows 0x280202 o) c).length; k < 1 || k > 16), rangeS),
    (osLen v (vO (n.val 0x280201 o 0) 0).length > 1518, rangeS),
    (vB v 13 && vN v 14 < w + d + a + 20000, rangeS),
    (terms > 8192, rangeS),
    (vN v 18 != 0 && !tkFor n (vN v 19) 1, stateS)]

/-- A GOOSE subscription entry (R310, area 29). -/
def checkGsub (n : State) (e : Nat) : Nat :=
  let v := n.val 0x290100 e 0
  if !vB v 0 then okS
  else firstBad [
    (vB v 10 && (match (basicsOf (layoutOf (n.rows 0x290102 e)))[vN v 12]? with
      | some (t, _) => t != 8
      | none => true), rangeS),
    (vN v 13 < 64 && n.fn 0x290210 (vN v 13) 0 > 255, rangeS),
    (vN v 14 < 256 && (n.subsOf 0x290100).any (fun f => f != e && n.fb 0x290100 f 0 && n.fn 0x290100 f 14 == vN v 14), rangeS),
    (vN v 8 != 0 && !tkFor n (vN v 9) 2, stateS)]

/-! ## Partitions (R17, R18, R324, R325, R328, R330) -/

/-- Has a partition a committed TT_PART_CFG. -/
def hasTt (n : State) (p : Nat) : Bool := (tabGet n.store (okey 0x310020 p 0)).isSome

/-- Does a commit withdraw or change something a partition owns that must be quiet (R328, R374, R391). -/
def needsQuiet (o n : State) (ob sub row : Nat) : List Nat :=
  let was := o.val ob sub row
  let new := n.val ob sub row
  if was == new then []
  else match ob with
    | 0x300010 => if vB was 0 && !vB new 0 then [sub] else []
    | 0x300011 => if vN was 1 == 0 then [] else if was.take 4 == new.take 4 then [] else [sub]
    | 0x310010 => if vN was 0 < 64 then [vN was 0] else []
    | 0x340100 => if vB was 0 then [vN was 1, vN was 2].filter (· < 64) else []
    | 0x280100 => if vB was 0 && (!vB new 0 || vN new 1 != vN was 1) then [vN was 1] else []
    | 0x100100 => if vB was 0 && (!vB new 0 || vN new 6 != vN was 6) then [vN was 6] else []
    | _ => []

/-- Do the regions of the valid partitions pass a memory pool (R325). -/
def poolsBad (n : State) : Bool :=
  regionSum n 0 0 > dramCap n || (upto (dieCount n + 1)).any fun d => regionSum n 1 (d + 1) > sramPool n (d + 1)

/-- PART_CONFIG (R324, R325). -/
def checkPart (n : State) (p : Nat) : Nat :=
  let v := n.val 0x300010 p 0
  let overlapsLog := (partsIn n).any fun q => q != p && vN v 13 != 0 && n.fn 0x300010 q 13 != 0 &&
    overlap (vN v 12) (vN v 13) (n.fn 0x300010 q 12) (n.fn 0x300010 q 13)
  let held := (n.subsOf 0x340100).any fun c => n.fb 0x340100 c 0 && (n.fn 0x340100 c 1 == p || n.fn 0x340100 c 2 == p)
  if p ≥ partCap n then noObject
  else if !vB v 0 then (if held then rangeS else okS)
  else firstBad [
    ([3, 4, 5, 6, 7, 8, 9, 10, 11, 13].any fun i => allowSum n i > poolOf n i, quotaS),
    (overlapsLog || (vN v 13 != 0 && (vN v 12 < 0x0800 || vN v 12 + vN v 13 > 0x1000)), rangeS),
    ((coresIn n p).any (fun c => c ≥ coreCount n || n.parts.coreFailed.contains c) || vN v 2 > (coresIn n p).length, rangeS),
    ([4, 5, 6, 7, 8, 9, 10].any fun i => allowBad n p i, quotaS),
    (poolsBad n, quotaS),
    (rowRingBad n p, rangeS),
    (!hasTt n p, stateS)]

/-- One row of PART_REGIONS (R330). -/
def checkRegion (n : State) (p row : Nat) : Nat :=
  let v := n.val 0x300011 p row
  let others := (n.rowsOf 0x300011 p).filter fun r => r != row
  firstBad [
    (vN v 0 % 4096 != 0 || vN v 1 % 4096 != 0 || vN v 1 < 4096 || vN v 1 > 536870912, rangeS),
    (if vN v 2 == 0 then vN v 3 != 0 else vN v 3 < 1 || vN v 3 > dieCount n + 1, rangeS),
    (overlap (vN v 0) (vN v 1) 0x00F00000 0x10000 ||
      others.any (fun r => overlap (vN v 0) (vN v 1) (vN (n.val 0x300011 p r) 0) (vN (n.val 0x300011 p r) 1)), rangeS),
    (partValid n p && (if vN v 2 == 0 then regionSum n 0 0 > dramCap n else regionSum n 1 (vN v 3) > sramPool n (vN v 3)), quotaS)]

/-! ## Timetable, rings, pigeonholes (R372, R374, R391, R487) -/

/-- The largest item budget of a partition (R487). -/
def ceilOf (n : State) (p : Nat) : Nat := n.vn 0x440032 p

/-- TT_PART_CFG. -/
def checkTt (n : State) (p : Nat) : Nat :=
  let v := n.val 0x310020 p 0
  firstBad [
    (vN v 3 < 16 || vN v 3 > 4096 || vN v 3 % 16 != 0 || vN v 2 % 64 != 0, rangeS),
    (!regionHolds n p (vN v 2) (vN v 3 * 64) fun r => vN r 2 == 1, rangeS),
    (!regionHolds n p (vN v 0) 1 fun r => bit (vN r 4) 2, rangeS),
    (vN v 1 < 1000 || vN v 1 > ceilOf n p, rangeS)]

/-- RING_CFG (R374). -/
def checkRing (n : State) (q : Nat) : Nat :=
  let v := n.val 0x310010 q 0
  let p := vN v 0
  let typ := vN v 1
  let size := vN v 3
  let eng := vN v 6
  let absent := (eng == 2 && !unitPresent n 10) || (eng == 3 && !unitPresent n 19) || (eng == 4 && !unitPresent n 16)
  if q ≥ 240 then stateS
  else if p == 0xFE then okS
  else firstBad [
    (p > 63, rangeS),
    (!([16, 32, 64, 128, 256, 512, 1024, 2048, 4096, 8192, 16384, 32768, 65536] : List Nat).contains size, rangeS),
    (!(vN v 2 == 32 || (vN v 2 == 64 && typ == 4)), rangeS),
    (!regionHolds n p (vN v 4) (size * vN v 2) fun r => vN r 4 % 4 == 3, rangeS),
    ((vN v 5 == 1 && typ != 1 && typ != 2) || (eng != 0 && typ != 2) || (vB v 7 && !(typ == 0 || typ == 3 || typ == 4)), rangeS),
    (vN v 13 != 0xFF && vN v 13 > 62, rangeS),
    (vN v 11 > ceilOf n p, rangeS),
    (absent, unitAbsent),
    (allowBad n p 4, quotaS),
    (n.fn 0x240031 p 0 == q && rowRingBad n p, rangeS)]

/-- PH_CHANNEL (R391). -/
def checkChan (n : State) (c : Nat) : Nat :=
  let v := n.val 0x340100 c 0
  if !vB v 0 then okS
  else
    let ends := [(vN v 1, vN v 3), (vN v 2, vN v 4)]
    let clash (ep idx : Nat) : Bool := ep < 64 && (n.subsOf 0x340100).any fun d =>
      let w := n.val 0x340100 d 0
      vB w 0 && d != c && ((vN w 1 == ep && vN w 3 == idx) || (vN w 2 == ep && vN w 4 == idx))
    firstBad [
      (vN v 1 == vN v 2 || ends.any (fun (e, _) => e > 65 || (e < 64 && !partValid n e)), rangeS),
      (ends.any (fun (e, i) => e < 64 && (i > 255 || clash e i)), rangeS),
      (ends.any (fun (e, i) => e ≥ 64 && i != c), rangeS),
      ((vN v 5 != 0xFF && vN v 5 > 62) || (vN v 6 != 0xFF && vN v 6 > 62) || vN v 7 < 1000 || vN v 7 > 100000000, rangeS),
      (ends.any (fun (e, _) => allowBad n e 6), quotaS)]

/-! ## Logic (R405, R412, R414, R420) -/

/-- The sums of R420's caps. -/
def logicCapBad (n : State) : Bool :=
  let ps := (n.subsOf 0x380010).filter fun p => n.fb 0x380010 p 0
  if n.ident.variant == 8 then sumN (ps.map fun p => n.fn 0x380010 p 2) > 67108864 else sumN (ps.map fun p => n.fn 0x380010 p 3) > 1048576

/-- LOGIC_CFG. -/
def checkLogicCfg (n : State) (p : Nat) : Nat :=
  let v := n.val 0x380010 p 0
  if !vB v 0 then (if (tasksOf n p).isEmpty then okS else stateS)
  else firstBad [
    (!(n.rows 0x300011 p).any fun r => vN r 0 == vN v 1 && vN r 2 == 0 && vB r 5 && vN v 2 ≤ vN r 1, rangeS),
    (vN v 3 > vN v 2 || vN v 4 + 32 * vN v 5 > (if n.ident.variant == 8 then vN v 2 else vN v 3), rangeS),
    (logicCapBad n, rangeS)]

/-- The octets of a task's input image. -/
def inputLen (n : State) (j : Nat) : Nat := sumN ((taskInputs n j).map fun st => 16 + 8 * (stationMembers n st).length)

/-- The octets of a task's output image. -/
def outputLen (n : State) (j : Nat) : Nat :=
  sumN ((n.rows 0x380014 j).map fun v => if vN v 0 == 0 then 8 * (gbBasics n (vN v 1)).length else 8)

/-- LOGIC_TASK with its inputs and outputs. -/
def checkTask (n : State) (j : Nat) : Nat :=
  let v := n.val 0x380011 j 0
  let p := vN v 1
  if !vB v 0 then okS
  else
    let outs := (n.rows 0x380014 j).map fun w => (vN w 0, vN w 1)
    let rw (base len : Nat) : Bool := len == 0 || regionHolds n p base len fun r => vN r 4 % 4 == 3
    let cyc := vN v 3
    firstBad [
      (cyc < 1000000 || cyc > 100000000 || cyc % 1000000 != 0 || vN v 4 + 1000 > cyc || vN v 4 % 1000 != 0 || vN v 6 > cyc ||
        vN v 6 < 1000 || vN v 6 > ceilOf n p || vN v 7 < 1000 || vN v 7 > ceilOf n p || vN v 2 > 3, rangeS),
      ((ltasks n).any fun k => k != j && ltF n k 1 == p && ltF n k 2 == vN v 2, rangeS),
      (!n.fb 0x380010 p 0, stateS),
      (allowBad n p 5 || (((tabGet n.lg.tasks j).bind fun x => flowOf n x.flow).map (·.owner) != some p &&
        (n.tt.flows.filter fun (_, f) => f.owner == p && !f.logic).length + (tasksOf n p).length > n.fn 0x300010 p 5), quotaS),
      (!rw (vN v 10) (inputLen n j) || !rw (vN v 11) (outputLen n j), rangeS),
      ((taskInputs n j).any fun st => !(n.fb 0x380020 st 0 && n.fn 0x380020 st 1 == p && (stationEntry n st).isSome), rangeS),
      (outs.any fun (k, i) => if k == 0 then !(n.fb 0x280100 i 0 && n.fn 0x280100 i 1 == p) || (ltasks n).any (fun m => m != j &&
          (n.rows 0x380014 m).any fun w => vN w 0 == 0 && vN w 1 == i)
        else !((boards n).contains i && n.fn 0x400040 i 1 == domainOf n p), rangeS)]

/-! ## The Prefect's limits (R477) -/

/-- Is a row of an allow-list removed, narrowed or left as it was (R477): it admits nothing that the old row w in its place did not. -/
def rowWithin (w v : Val) : Bool :=
  !vB v 0 || v == w || (vB w 0 && vN v 2 == vN w 2 && (vN v 1 &&& vN w 1) == vN v 1 &&
    (macN (vO w 3) == 0 || vO v 3 == vO w 3) && (vN w 6 == 0xFFFF || vN v 6 == vN w 6) &&
    (if vN v 2 == 0 then (vN v 4 &&& vN w 4) == vN v 4
     else if vN v 2 == 0x88B8 || vN v 2 == 0x88B9 || vN v 2 == 0x88BA then vN w 4 ≤ vN v 4 && vN v 5 ≤ vN w 5
     else !(vN v 4 == 0xFFFF && vN v 5 == 0xFFFF) || (vN w 4 == 0xFFFF && vN w 5 == 0xFFFF)))

/-- Does a value of the Prefect's settings loosen its limit. -/
def loosens (o n : State) (ob sub row : Nat) : Bool :=
  match ob with
  | 0x440030 => !rowWithin (o.val ob sub row) (n.val ob sub row)
  | 0x440050 => !rowWithin (o.val ob sub row) (n.val ob sub row)
  | 0x440031 => n.fn ob sub 0 > o.fn ob sub 0 || n.fn ob sub 1 > o.fn ob sub 1
  | 0x440010 => n.vn ob sub > o.vn ob sub
  | 0x440020 => n.vn ob sub > o.vn ob sub
  | 0x440032 => n.vn ob sub > o.vn ob sub
  | 0x440040 => n.vn ob sub > o.vn ob sub
  | _ => false

/-- A setting of the Prefect: a loosening must come from the Prefect section of a verified bundle. -/
def checkPf (o n : State) (k ob sub row : Nat) : Nat :=
  if loosens o n ob sub row && !(o.pf.bundle.any fun (j, v) => j == k && v == n.val ob sub row) then stateS else okS

/-! ## Capture (R546, R550, R551) -/

/-- A fault recorder's sample length (R550). -/
def sampleLen (na nb : Nat) : Nat := (16 + 4 * na + 4 * ceilDiv na 32 + 4 * ceilDiv nb 32 + 7) / 8 * 8

/-- A recorder's channel counts. -/
def recCounts (n : State) (k : Nat) : Nat × Nat := ((n.rows 0x5C0021 k).length, (n.rows 0x5C0022 k).length)

/-- A recorder. -/
def checkRecorder (n : State) (k : Nat) : Nat :=
  let v := n.val 0x5C0020 k 0
  if !vB v 0 then okS
  else
    let valid := (n.subsOf 0x5C0020).filter fun r => n.fb 0x5C0020 r 0
    let rate := sumN (valid.map fun r =>
      let (na, nb) := recCounts n r
      sampleLen na nb * baseHz n / max 1 (n.fn 0x5C0020 r 2))
    firstBad [
      (!([1, 2, 3, 4, 6, 8, 12, 16, 24, 48] : List Nat).contains (vN v 2), rangeS),
      ((n.rows 0x5C0021 k).any fun w =>
        let c := n.val 0x5C0010 (vN w 0) 0
        vN c 1 == 1 && pD n (gProf n (vN c 2)) > 1 && vN v 2 % max 1 (pD n (gProf n (vN c 2))) != 0, rangeS),
      ((vN v 13 > 0 && vN v 1 == 0) || vN v 5 + 1 + vN v 6 > vN v 7, rangeS),
      (rate > 1600000000, quotaS),
      (sumN (valid.map fun r => n.fn 0x5C0020 r 4) > n.cap.area, rangeS)]

/-! ## Ports (R166, R189) and Bolpel (R466) -/

/-- EtherTypes no steering entry may name (R189). -/
def steerReserved (t : Nat) : Bool := [0x0806, 0x0800, 0x8808, 0x88B5, 0x88B6, 0x88B8, 0x88BA, 0x88F7, 0x88FB, 0x892F].contains t

/-- A steering entry. -/
def checkSteer (n : State) (row : Nat) : Nat :=
  let v := n.val 0x100100 0 row
  if !vB v 0 then okS
  else firstBad [
    (steerReserved (vN v 2) || vN v 1 > 0x3F, rangeS),
    (!(rType n (vN v 5) == 0 && rSize n (vN v 5) != 0 && rEntry n (vN v 5) == 32 && rOwner n (vN v 5) == vN v 6), rangeS),
    (allowBad n (vN v 6) 10, quotaS)]

/-- A change of a partition's regions: what the partition has in them must still lie there (R17, R330, R372, R374, R405, R414). -/
def checkUsers (n : State) (p : Nat) : Nat :=
  if !partValid n p then okS
  else
    let rings := ((n.subsOf 0x310010).filter fun q => rOwner n q == p).map (checkRing n)
    let tt := if hasTt n p then [checkTt n p] else []
    let lg := if n.fb 0x380010 p 0 then checkLogicCfg n p :: (tasksOf n p).map (checkTask n) else []
    firstBad ((rowRingBad n p, rangeS) :: (rings ++ tt ++ lg).map fun c => (c != okS, c))

/-- The checks of one staged value. -/
def checkOne (o n : State) (k : Nat) : Nat :=
  let ob := k / 4294967296
  let sub := k / 65536 % 65536
  let row := k % 65536
  let entry (e : Nat) : Nat := if entryNamed n e then rangeS else checkEntry n e
  let own := match ob with
    | 0x100100 => checkSteer n row
    | 0x110001 => firstBad [(gmode n sub != 0 && n.vn 0x100002 (2 * sub) != n.vn 0x100002 (2 * sub + 1), rangeS)]
    | 0x200100 => entry sub
    | 0x200101 => entry sub
    | 0x210002 => firstBad [(windowBad n, rangeS), ((entriesIn n).any (convBad n), rangeS)]
    | 0x240010 => checkProfile o n sub
    | 0x240020 => if !n.fb 0x240020 sub 0 && ((upto 64).any (fun t => (imgMap n t).contains (1, sub)) ||
        (n.subsOf 0x280200).any fun q => n.fb 0x280200 q 0 && (n.rows 0x280202 q).any fun v => vN v 1 == 1 && vN v 2 == sub) then rangeS
      else checkGroup o n sub
    | 0x240021 => checkGroup o n sub
    | 0x240030 => if allowBad n sub 7 || allowBad n sub 9 then quotaS else checkImage n sub
    | 0x240031 => checkImage n sub
    | 0x280100 => if allowBad n (n.fn ob sub 1) 8 then quotaS else checkBlock n sub
    | 0x280101 => checkBlock n sub
    | 0x280102 => checkBlock n sub
    | 0x280103 => checkBlock n sub
    | 0x280120 => firstBad [(n.vn ob sub != 0xFFFF && n.vn ob sub > 255, rangeS)]
    | 0x280200 => checkStream n sub
    | 0x280201 => checkStream n sub
    | 0x280202 => checkStream n sub
    | 0x290100 => checkGsub n sub
    | 0x290101 => checkGsub n sub
    | 0x290102 => checkGsub n sub
    | 0x290210 => firstBad [
        (n.fn ob sub 0 != 0xFFFF && n.fn ob sub 0 > 255, rangeS),
        (n.fn ob sub 0 == 0xFFFF && (n.subsOf 0x290100).any (fun e => n.fb 0x290100 e 0 && n.fn 0x290100 e 13 == sub), rangeS)]
    | 0x300010 => checkPart n sub
    | 0x300011 =>
      let own := if (n.rowsOf ob sub).contains row then checkRegion n sub row else okS
      if own != okS then own else checkUsers n sub
    | 0x310010 => checkRing n sub
    | 0x310020 => checkTt n sub
    | 0x340100 => checkChan n sub
    | 0x340110 => firstBad [(n.fn ob sub 3 > ceilOf n sub, rangeS)]
    | 0x380010 => checkLogicCfg n sub
    | 0x380011 => checkTask n sub
    | 0x380013 => checkTask n sub
    | 0x380014 => checkTask n sub
    | 0x400005 => firstBad [(windowBad n, rangeS)]
    | 0x400040 => firstBad [((((boards n).map fun b => n.fn 0x400040 b 1).foldl adjoin []).length > 8, rangeS)]
    | 0x5C0020 => checkRecorder n sub
    | 0x5C0021 => checkRecorder n sub
    | 0x5C0022 => checkRecorder n sub
    | _ => okS
  if own != okS then own
  else if ob / 65536 == 0x44 then checkPf o n k ob sub row
  else if (needsQuiet o n ob sub row).any (fun p => !quiet o p) then stateS
  else okS

/-- The state with every staged value in place. -/
def withStage (s : State) (l : List (Nat × Val)) : State :=
  l.foldl (fun s (k, v) => s.put (k / 4294967296) (k / 65536 % 65536) (k % 65536) v) s

/-- Are two of the three interfaces in one subnet (R190's objects): the shorter of two prefixes decides. -/
def subnetClash (s : State) : Bool :=
  let ip (i : Nat) : Nat := s.vn 0x100110 i
  let len (i : Nat) : Nat := s.vn 0x100111 i
  let same (i j : Nat) : Bool :=
    let sh := 32 - min (len i) (len j)
    ip i != 0 && ip j != 0 && ip i / 2 ^ sh == ip j / 2 ^ sh
  same 0 1 || same 0 2 || same 1 2

/-- Is a ring field's number a ring or none (R563). -/
def ringField (q : Nat) : Bool := q ≤ 255 || q == 0xFFFF

/-- The sizes N a layout row's TYPE takes (R298). -/
def layRowOk (t n : Nat) : Bool :=
  if t == 10 then 1 ≤ n && n ≤ 32 else if t == 12 || t == 13 then 1 ≤ n && n ≤ 8 else if t == 14 then 1 ≤ n && n ≤ 16 else true

/-- An object's own limits beyond the least and largest value, and the fused capacities a count or size may not pass (R3, R6): the status of
check 9 for a value written or carried in a bundle. -/
def rowLimit (s : State) (ob sub : Nat) (v : Val) : Nat :=
  let range (b : Bool) : Nat := if b then rangeS else okS
  match ob with
  | 0x020001 => range (vN v 0 == s.vn 0x020002 0)
  | 0x020002 => range (vN v 0 == s.vn 0x020001 0)
  | 0x100016 => range (vB v 0 && (sub == 6 || sub == 7))
  | 0x100017 => range (vN v 1 < 1536 || vN v 1 > 65536)
  | 0x100110 => range (subnetClash (s.put ob sub 0 v))
  | 0x100111 => range (subnetClash (s.put ob sub 0 v))
  | 0x100112 => range (subnetClash s)
  | 0x110001 => range (sub == 2 && vN v 0 == 2)
  | 0x18000D => range (vN v 0 < s.vn 0x18000C 0)
  | 0x210002 => range (vN v 0 % 10000 != 0)
  | 0x240031 => range (!ringField (vN v 0))
  | 0x280100 => range (vN v 11 % 1000 != 0)
  | 0x280102 => range (!layRowOk (vN v 0) (vN v 1))
  | 0x280200 => range (vB v 0 && vN v 7 != 4800 && vN v 7 != 14400)
  | 0x280202 => range ((vN v 1 > 1 && vN v 1 != 0xFF) || (vN v 1 == 0xFF && vN v 3 > 47))
  | 0x290102 => range (!layRowOk (vN v 0) (vN v 1))
  | 0x280120 => range (!ringField (vN v 0))
  | 0x290210 => range (!ringField (vN v 0))
  | 0x300010 => range (vN v 7 > poolOf s 7 || vN v 2 > coreCount s)
  | 0x240010 => range (!([1, 2, 3, 4, 6, 8] : List Nat).contains (vN v 0) || vN v 1 == 0 || baseHz s % (vN v 0 * vN v 1) != 0)
  | 0x240011 => range (vN v 1 == 0 && s.fn 0x240010 (sub / 2) 1 > 1)
  | 0x400005 => range (vN v 0 % 1000 != 0)
  | 0x400006 => range (vN v 0 % 1000000 != 0)
  | 0x400017 => range (vN v 0 ≥ 1024)
  | 0x380010 => range (vB v 0 && (if s.ident.variant == 8 then vN v 2 > 67108864 else vN v 3 > 1048576))
  | 0x5C0001 => range (vN v 0 % 67108864 != 0 ||
      [s, withStage s s.jal.commitSet].any fun x => x.ident.optC && regionSum x 0 0 + vN v 0 > dramTotal x)
  | 0x600121 => range (vN v 0 % 10 != 0)
  | 0x600123 => range (vN v 0 % 10 != 0)
  | _ => okS

/-- The first staged value that fails, with its status; then a valid entry whose RATE has no conversion, staged or not (R239, 21.0001). -/
def commitFail (s : State) (l : List (Nat × Val)) : Option (Nat × Nat) :=
  let n := withStage s l
  let bad := (entriesIn n).filter fun e => (convFor (baseHz n) (subRate (eV n e))).isNone
  let own := l.map fun (k, _) => (k, checkOne s n k)
  (own ++ bad.map fun e => (okey 0x200100 e 0, rangeS)).find? fun (_, st) => st != okS

/-- The partitions a commit needs quiet until its row (R328). -/
def commitHolds (s : State) (l : List (Nat × Val)) : List Nat :=
  let n := withStage s l
  (l.flatMap fun (k, _) => needsQuiet s n (k / 4294967296) (k / 65536 % 65536) (k % 65536)).foldl adjoin []

end Sys2Proof.Machine
end

