-- ==== Sys2Proof/Machine/Capture.lean ====
section
/-! DEFINITION. The capture engine (R546 to R562): the completion of conditioning, its commands, retained records and their export. -/

namespace Sys2Proof.Machine

/-- CONDITIONING_COMPLETE: the oldest released row is conditioned, its images are written and the recorders sample (R280, R291, R549).
While the unit does not work no row completes; its images carry no conditioned values (R293). -/
def execConditioningComplete (dt : Nat) (s : State) : Host.Outcome State Fault Refusal :=
  let s := advance dt s
  match s.cond.queue with
  | [] => done s
  | r :: q =>
    if !condUp s then done (condStop s) else
    let s := condRow { s with cond := { s.cond with queue := q } } r
    let took := s.now - (planRow s r).relNow
    let s := { s with cond := { s.cond with timeMax := max s.cond.timeMax took } }
    let s := if took > 12000 then setRow (stageOver s 7) r { planRow s r with late := true } else s
    let s := rowDone s r false
    done (if s.cond.queue.isEmpty then downAll s else s)

/-- FILTER_KAT: the known-answer test of an array, where it found an idle interval (R294). -/
def execFilterKat (dt array : Nat) (idle pass : Bool) (s : State) : Host.Outcome State Fault Refusal :=
  let s := advance dt s
  if array ≥ 4 || s.cond.failed.contains array || !unitOk s 9 then done s
  else if s.now < tabGetD s.cond.katAt array 0 && !(idle && s.cond.failOnce.contains array) then done s
  else
    let s := { s with cond := { s.cond with katAt := tabPut s.cond.katAt array (s.now + 1000000000) } }
    if !idle then done (bump s 0x240006 0) else
    let s := selfRan (bump s 0x240004 0) (16 + array)
    if pass then done { s with cond := { s.cond with failOnce := without s.cond.failOnce array } }
    else
      let s := bump s 0x240005 0
      if s.cond.failOnce.contains array then
        let s := arrayFail s array
        done (if condUp s then s else condStop s)
      else done { s with cond := { s.cond with failOnce := s.cond.failOnce ++ [array] } }

/-! ## Commands and events -/

/-- PICKUP_ENTRY: the engine consumes the next entry of a ring (R548); an engine outside the intersection completes it with NOT_READY
(R11; DESIGN CHOICE, entry 104). -/
def execPickupEntry (dt ring : Nat) (s : State) : Host.Outcome State Fault Refusal :=
  let s := advance dt s
  if !(rType s ring == 2 && rEngine s ring == 4 && hubLive s) then done s
  else match nextEntry s ring with
    | some (i, .pickup r) =>
      let p := rOwner s ring
      let s := takeEntry s ring
      if p ≥ 64 then done (entryDone s ring i (.pickupDone r 5))
      else if !unitPresent s 16 then done (entryDone s ring i (.pickupDone r 3))
      else if !(unitTakes s 16 && pairUses s 1 && (pst s p == .running || pst s p == .stopping || pst s p == .frozen)) then done (entryDone s ring i (.pickupDone r 2))
      else
        let w := tabGetD s.cap.pickup p 0
        let s := { s with cap := { s.cap with pickup := tabPut s.cap.pickup p (((w ||| r.mask) ^^^ r.mask) ||| (r.value &&& r.mask)) } }
        let late := match s.cap.sampled with
          | some q => decide (r.row ≤ q)
          | none => false
        done (entryDone (if late then bump s 0x5C0054 0 else s) ring i (.pickupDone r 0))
    | some (_, _) => done (takeEntry s ring)
    | none => done s

/-- CAPTURE_TRIGGER's effect. A recorder that is OFF, also because the partner has no option C (R11, entry 104), loses the trigger (R554). -/
def opTrigger (s : State) (k : Nat) : Res :=
  if rcF s k 0 != 0 && rcF s k 1 == 1 then deny s stateS
  else if recState s k == 0 || recState s k == 3 then good (trigLost s k)
  else good (setRec s k { recOf s k with manual := true })

/-- CAPTURE_TRIGGER (R552, R554). -/
def execCaptureTrigger (dt : Nat) (rq : Req) (k : Nat) (s : State) : Host.Outcome State Fault Refusal :=
  done (doExec (advance dt s) rq 0x5C0025 k fun s => opTrigger s k)

/-- CAPTURE_REARM: the staging buffer has fallen below half full, and an overflowed recorder re-arms (R555). -/
def execCaptureRearm (dt k : Nat) (s : State) : Host.Outcome State Fault Refusal :=
  let s := advance dt s
  let x := recOf s k
  if !capOn s || !(x.st == 3 && x.ovfWait) then done s
  else
    let s := { s with cap := { s.cap with fill := min s.cap.fill 131071 } }
    done (judgeCap (setRec s k { x with st := 1, ovfWait := false, pre := [] }))

/-- TREND_RATE_RESTORE: the buffer has stayed below one eighth full for 60 s; each halved recorder doubles its rate (R558). -/
def execTrendRateRestore (dt : Nat) (s : State) : Host.Outcome State Fault Refusal :=
  let s := advance dt s
  match s.cap.lowSince with
  | none => done s
  | some t =>
    if !capOn s || t + 60000000000 > s.now then done s
    else
      let s := { s with cap := { s.cap with lowSince := some s.now } }
      done (((recorders s).filter fun k => rcF s k 1 == 1).foldl (fun s k =>
        let x := recOf s k
        if x.interval ≤ rcF s k 12 then s else setRec s k { x with newInterval := some (x.interval / 2), newAfter := 0 }) s)

/-- A recorder's retained record of a number. -/
def recNum (s : State) (k n : Nat) : Option CapRec := (recOf s k).recs.find? fun r => r.num == n

/-- A retained record changed. -/
def recSet (s : State) (k n : Nat) (f : CapRec → CapRec) : State :=
  setRec s k { recOf s k with recs := (recOf s k).recs.map fun r => if r.num == n then f r else r }

/-- RECORD_PROTECT's effect. -/
def opProtect (s : State) (k n : Nat) : Res :=
  if (recNum s k n).isNone then deny s rangeS else good (recSet s k n fun r => { r with prot := true })

/-- RECORD_PROTECT (R556). -/
def execRecordProtect (dt : Nat) (rq : Req) (k number : Nat) (s : State) : Host.Outcome State Fault Refusal :=
  done (doExec (advance dt s) rq 0x5C0031 k (fun s => opProtect s k number) [.n number])

/-- A record released; a FULL recorder re-arms at once. -/
def recRelease (s : State) (k n : Nat) : State :=
  let x := recOf s k
  let s := setRec s k { x with recs := x.recs.filter fun r => r.num != n, st := if x.st == 3 && !x.ovfWait then 1 else x.st }
  judgeCap s

/-- RECORD_RELEASE's effect: STATE while the record is exported. -/
def opRelease (s : State) (k n : Nat) : Res :=
  match recNum s k n with
  | none => deny s rangeS
  | some r => if r.held then deny s stateS else good (recRelease s k n)

/-- RECORD_RELEASE (R556). -/
def execRecordRelease (dt : Nat) (rq : Req) (k number : Nat) (s : State) : Host.Outcome State Fault Refusal :=
  done (doExec (advance dt s) rq 0x5C0032 k (fun s => opRelease s k number) [.n number])

/-- CAPTURE_EXPORT's effect: a record is held until the export ends. -/
def opExport (s : State) (rq : Req) (k n : Nat) (t0 t1 : Int) : Res :=
  if k ≥ 16 || rcF s k 0 == 0 then deny s rangeS
  else if rcF s k 1 == 1 then
    if n != 4294967295 || t1 < t0 then deny s rangeS
    else if s.cap.export_.isSome then deny s busyS
    else ⟨{ s with cap := { s.cap with export_ := some ⟨k, n, t0, t1, rq.sess, rq.reqId⟩ } }, pendingS, 0, []⟩
  else if (recNum s k n).isNone then deny s rangeS
  else if s.cap.export_.isSome then deny s busyS
  else
    let s := recSet s k n fun r => { r with held := true }
    ⟨{ s with cap := { s.cap with export_ := some ⟨k, n, t0, t1, rq.sess, rq.reqId⟩ } }, pendingS, 0, []⟩

/-- CAPTURE_EXPORT (R559). -/
def execCaptureExport (dt : Nat) (rq : Req) (k number : Nat) (t0 t1 : Int) (s : State) : Host.Outcome State Fault Refusal :=
  done (doExec (advance dt s) rq 0x5C0040 0 (fun s => opExport s rq k number t0 t1) [.n k, .n number, .i t0, .i t1])

/-- What an export holds: the record, or the trend samples of the window (R560). -/
def exportOf (s : State) (e : Export) : CapRec :=
  match recNum s e.rec_ e.num with
  | some r => r
  | none =>
    let l := (recOf s e.rec_).trend.reverse.filter fun y => e.t0 ≤ rowTime s y.row && rowTime s y.row ≤ e.t1
    { num := e.num, samples := l, trigRow := 0, trigTime := 0, flags := 0 }

/-- UTC of a TAI instant, in microseconds: before the last leap second the offset was another. -/
def utcMicros (s : State) (t : Int) : Int :=
  let o := s.vi 0x180005 0
  let o := match s.tm.leapWas with
    | some (a, k) => if t < a then (if k == 1 then o - 1 else o + 1) else o
    | none => o
  (t - o * 1000000000) / 1000

/-- The markers of a list of trend samples: the number of samples before each, markers left out, and its interval. -/
def trendMarks : Nat → List Sample → List (Nat × Nat)
  | _, [] => []
  | i, y :: l => if bit y.flags 16 then (i, y.interval) :: trendMarks i l else trendMarks (i + 1) l

/-- The intervals of a list of trend samples, oldest first: the number of the first sample of each and the interval; the first is the
distance of the first two samples, else the recorder's present one. -/
def trendRates (s : State) (k : Nat) (l : List Sample) : List (Nat × Nat) :=
  let marks := trendMarks 0 l
  let first := match l with
    | y :: z :: _ => if bit y.flags 16 || bit z.flags 16 then (recOf s k).interval else (z.row - y.row) / max 1 (rcF s k 2)
    | _ => (recOf s k).interval
  if marks.any fun (i, _) => i == 0 then marks else (0, first) :: marks

/-- A capture channel's NAME with ".Q". -/
def qName (v : Val) : List Byte := vO v 4 ++ [0x2E, 0x51]

/-- The decimal digits of a number below 100. -/
def digits (n : Nat) : List Byte := (if n ≥ 10 then [BitVec.ofNat 8 (48 + n / 10)] else []) ++ [BitVec.ofNat 8 (48 + n % 10)]

/-- What the files of an export of a record hold, by the table of R559. -/
def comtradeOf (s : State) (k : Nat) (r : CapRec) : Comtrade :=
  let trend := rcF s k 1 == 1
  let ana := (rcAnalog s k).map fun a => s.val 0x5C0010 a 0
  let parts := if trend && rcF s k 14 != 0 then [0, 1, 2] else [0]
  let row0 := match r.samples with
    | y :: _ => y.row
    | [] => r.trigRow
  let lastT := match r.samples.reverse with
    | y :: _ => rowTime s y.row
    | [] => rowTime s row0
  let t0 := rowTime s row0
  let div := max 1 (rcF s k 2)
  let tq := maxN (r.samples.map fun y => y.flags % 4)
  { station := vO (s.val 0x5C0003 0 0) 0
    device := s.ident.serial ++ [0x2F, if s.pair.unitB then 0x42 else 0x41, 0x2F] ++ digits k
    analogs := ana.flatMap fun v => parts.map fun i => (v, rcF s k 13, i)
    digitals := ((rcBinary s k).map fun b => (vO (s.val 0x5C0011 b 0) 5, s.fn 0x5C0011 b 6)) ++
      (if rcF s k 15 != 0 then ana.map fun v => (qName v, 0) else [])
    rates := if trend then (trendRates s k r.samples).map fun (i, n) => (baseHz s, div * n, i) else [(baseHz s, div, 0)]
    start := utcMicros s t0
    trigger := utcMicros s (if trend then t0 else r.trigTime)
    tmq := if tq == 0 then 0 else if tq == 1 then 4 else 15
    leapsec := match s.tm.leapWas with
      | some (a, n) => if t0 < a && a ≤ lastT then n else 0
      | none => 0
    dat := (r.samples.filter fun y => !bit y.flags 16).map fun y =>
      ((y.row - row0) * 1000000 / baseHz s, y.vals, y.bins ++ (if rcF s k 15 != 0 then y.qbits else []))
    config := s.val 0x5C0020 k 0
    flags := r.flags
    sflags := (r.samples.filter fun y => y.flags != 0).map fun y => (y.row, y.flags) }

/-- CAPTURE_EXPORT_DONE: the files are written, the hold ends and EXEC_DONE follows (R561). -/
def execCaptureExportDone (dt : Nat) (s : State) : Host.Outcome State Fault Refusal :=
  let s := advance dt s
  match s.cap.export_ with
  | none => done s
  | some e =>
    if !hubLive s then done s
    else
      let s := { s with cap := { s.cap with export_ := none, files := some (comtradeOf s e.rec_ (exportOf s e)) } }
      let s := recSet s e.rec_ e.num fun r => { r with held := false }
      let s := logRec s 0x0215 (0x80 + 16) (ints [e.rec_, e.num])
      done (execEnd s e.sess e.reqId okS [])

/-- The counters Capture clears (R30). -/
def opCaptureReset (s : State) : Res := good (clearCtrs s 0x5C0050 0x5C0054 none)

/-- CAPTURE_COUNTERS_RESET: clears the counters of area 5C (R30). -/
def execCaptureCountersReset (dt : Nat) (rq : Req) (s : State) : Host.Outcome State Fault Refusal :=
  done (doExec (advance dt s) rq 0x5C0060 0 opCaptureReset)

/-! ## Commits, disable, start -/

/-- The recorders stop: a record in progress ends and is retained; they are OFF until the engine runs again (R562). -/
def capStop (s : State) : State :=
  (s.cap.recs.map Prod.fst).foldl (fun s k =>
    let s := if (recOf s k).st == 2 then recEnd s k 0 else s
    setRec s k { recOf s k with st := 0, pre := [], acc := [], last := none, ovfWait := false, linked := false, manual := false }) s

/-- A commit changed recorders or channels: a changed recorder ends its record and starts anew, one no longer valid gives up its area. -/
def capCommit (o s : State) : State :=
  let diff (k : Nat) : Bool := o.val 0x5C0020 k 0 != s.val 0x5C0020 k 0 || o.rows 0x5C0021 k != s.rows 0x5C0021 k ||
    o.rows 0x5C0022 k != s.rows 0x5C0022 k || o.val 0x5C0023 k 0 != s.val 0x5C0023 k 0
  judgeCap (((upto 16).filter diff).foldl (fun s k =>
    if rcF s k 0 == 0 then { s with cap := { s.cap with recs := tabDel s.cap.recs k } }
    else
      let s := if (recOf s k).st == 2 then recEnd s k 0 else s
      let keep := if (rcAnalog o k).length == (rcAnalog s k).length && rcF o k 1 == rcF s k 1 then (recOf s k).trend else []
      setRec s k { recs := (recOf s k).recs, nextNum := (recOf s k).nextNum, trend := keep }) s)

end Sys2Proof.Machine
end

