-- ==== Sys2Proof/Machine/Rtc.lean ====
section
/-! DEFINITION. The real-time clock (R519 to R532): calendar, latch, staged writes, trim, alarm, oscillator-stopped flag, backup supply and
discipline. The crystal's second boundaries come as events. -/

namespace Sys2Proof.Machine

/-! ## Calendar (R519) -/

/-- The last day of the RTC's range rolls to its first. -/
def calLast (c : Cal) : Bool := c.year == 2399 && c.month == 12 && c.day == 31

/-- The next second, and whether the year rolled from 2399 to 2000. -/
def calTick (c : Cal) : Cal × Bool :=
  if c.sec < 59 then ({ c with sec := c.sec + 1 }, false)
  else if c.min < 59 then ({ c with sec := 0, min := c.min + 1 }, false)
  else if c.hour < 23 then ({ c with sec := 0, min := 0, hour := c.hour + 1 }, false)
  else
    let c := { c with sec := 0, min := 0, hour := 0, wday := if c.wday ≥ 6 then 0 else c.wday + 1 }
    if calLast c then ({ c with year := 2000, month := 1, day := 1 }, true)
    else if c.day < monthLen c.year c.month then ({ c with day := c.day + 1 }, false)
    else if c.month < 12 then ({ c with day := 1, month := c.month + 1 }, false)
    else ({ c with day := 1, month := 1, year := c.year + 1 }, false)

/-- A valid date and time within 2000 to 2399 (R522). -/
def calOk (c : Cal) : Bool :=
  2000 ≤ c.year && c.year ≤ 2399 && 1 ≤ c.month && c.month ≤ 12 && 1 ≤ c.day && c.day ≤ monthLen c.year c.month &&
    c.hour ≤ 23 && c.min ≤ 59 && c.sec ≤ 59 && c.wday ≤ 6

/-- Seconds since 1970 of a calendar. -/
def calSecs (c : Cal) : Nat := (daysTo c.year + daysBefore c.year c.month + (c.day - 1)) * 86400 + c.hour * 3600 + c.min * 60 + c.sec

/-- The calendar of a number of seconds since 1970, from 2000 on; the weekday is the caller's. -/
def calOfSecs (n wday : Nat) : Cal :=
  let d := n / 86400 - 10957
  let (y, k) := yearOf 400 2000 d
  let (m, dd) := monthOf y 12 1 k
  ⟨y, m, dd, n % 86400 / 3600, n % 3600 / 60, n % 60, wday⟩

/-- A calendar's date and time as one number, field by field: what the alarm compares, WDAY left out (R524). Alarm registers that hold no
valid date are compared the same way (entry 73). -/
def calKey (c : Cal) : Nat := ((((c.year * 16 + c.month) * 32 + c.day) * 32 + c.hour) * 64 + c.min) * 64 + c.sec

/-- The fields of a calendar, for the logbook. -/
def calInts (c : Cal) : List Int := ints [c.year, c.month, c.day, c.hour, c.min, c.sec]

/-- A calendar from words in the layouts of RTC_TIME and RTC_DATE. -/
def calOf (t d : Nat) : Cal := ⟨bits d 16 12, bits d 8 4, bits d 0 5, bits t 16 5, bits t 8 6, bits t 0 6, bits t 24 3⟩

/-- RTC_TIME's word of a calendar. -/
def calTime (c : Cal) : Nat := c.wday * 16777216 + c.hour * 65536 + c.min * 256 + c.sec

/-- RTC_DATE's word of a calendar. -/
def calDate (c : Cal) : Nat := c.year * 65536 + c.month * 256 + c.day

/-- The RTC set. -/
def setRtc (s : State) (r : Rtc) : State := { s with rtc := r }

/-- The RTC converted to TAI, from one latch of its registers: the one held, else one taken now (R206, R521). -/
def rtcTai (s : State) : Int :=
  let (c, p) := (latchNow s).getD (s.rtc.cal, prescale s)
  ((calSecs c : Int) + s.vi 0x180005 0) * 1000000000 + (p * 1000000000 / 32768 : Nat)

/-! ## Alarm (R524, R525) -/

/-- The alarm fires: on backup supply the firing is kept for the next hub start. -/
def alarmFire (s : State) (skip : Bool) : State :=
  let r := { s.rtc with alarm := none, fired := true, skipped := s.rtc.skipped || skip }
  if r.vbak then setRtc s { r with pendFire := some r.cal }
  else logRec (setRtc s r) 0x01F1 0x80 (calInts r.cal)

/-- The RTC has moved from a calendar: does it reach or pass the alarm. One armed at or behind the RTC's own time waits until the RTC moves
across it (entry 73). -/
def alarmJudge (s : State) (old : Cal) (skip : Bool) : State :=
  match s.rtc.alarm with
  | none => s
  | some a => if calKey old < calKey a && calKey a ≤ calKey s.rtc.cal then alarmFire s skip else s

/-- OSF is set (R526). -/
def setOsf (s : State) : State :=
  if s.rtc.vbak then setRtc s { s.rtc with osf := true, pendOsf := true }
  else logRec (setRtc s { s.rtc with osf := true }) 0x01F2 0x80 (calInts s.rtc.cal)

/-! ## Writes (R522) -/

/-- A write takes its values: recorded with the old and the new time, and judged by the alarm. -/
def calApply (s : State) (c : Cal) : State :=
  let old := s.rtc.cal
  let s := logRec (setRtc s { s.rtc with cal := c }) 0x01F0 0x80 (calInts old ++ calInts c)
  alarmJudge s old true

/-- An IMMEDIATE write: PRESCALE 0, the trim window restarts, a staged write is discarded. -/
def calNow (s : State) (c : Cal) : State :=
  let r := s.rtc
  let r := { r with staged := none, secBase := s.now, trimBase := s.now, trimSecs := 0, trim := r.trimNext }
  calApply (setRtc s { r with stopped := r.stopped.map fun _ => 0 }) c

/-- The staged registers committed; an invalid date and time stages nothing. -/
def calCommit (s : State) (immediate : Bool) : State :=
  let c := calOf s.rtc.stTime.toNat s.rtc.stDate.toNat
  if !calOk c then s
  else if immediate then calNow s c
  else setRtc s { s.rtc with staged := some c }

/-- The alarm armed with a calendar. -/
def alarmSet (s : State) (c : Cal) : State := setRtc s { s.rtc with alarm := some c, fired := false, skipped := false }

/-- RTC_CMD: COMMIT, IMMEDIATE, ALARM_ARM. -/
def rtcCmd (s : State) (w : Nat) : State :=
  let s := if bit w 0 then calCommit s (bit w 1) else s
  if bit w 2 then alarmSet s (calOf s.rtc.alTime.toNat s.rtc.alDate.toNat) else s

/-- A write of a vault register (R520); reserved fields ignore writes, and a locked-out port takes none. -/
def rtcWrite (s : State) (off : Nat) (w : Word) : State :=
  if s.rtc.lockout then s
  else match off with
    | 0x0C => setRtc s { s.rtc with fired := s.rtc.fired && !bit w.toNat 2, skipped := s.rtc.skipped && !bit w.toNat 3 }
    | 0x10 => setRtc s { s.rtc with stTime := w &&& 0x071F3F3F }
    | 0x14 => setRtc s { s.rtc with stDate := w &&& 0x0FFF0F1F }
    | 0x18 => rtcCmd s w.toNat
    | 0x1C => setRtc s { s.rtc with trimNext := ofBits (w.toNat % 4096) 12 }
    | 0x20 => setRtc s { s.rtc with alTime := w &&& 0x071F3F3F }
    | 0x24 => setRtc s { s.rtc with alDate := w &&& 0x0FFF0F1F }
    | _ => s

/-- RTC_COMMIT (R522). -/
def execRtcCommit (dt : Nat) (s : State) : Host.Outcome State Fault Refusal := done (rtcWrite (advance dt s) 0x18 1)

/-- RTC_COMMIT_IMMEDIATE (R522). -/
def execRtcCommitImmediate (dt : Nat) (s : State) : Host.Outcome State Fault Refusal := done (rtcWrite (advance dt s) 0x18 3)

/-- ALARM_ARM (R524). -/
def execAlarmArm (dt : Nat) (s : State) : Host.Outcome State Fault Refusal := done (rtcWrite (advance dt s) 0x18 4)

/-- REGISTER_WRITE: a partition-window register of a core of p, or a vault register over the vault port (R331, R520). -/
def execRegisterWrite (dt : Nat) (space : RegSpace) (p core offset : Nat) (w : Word) (s : State) : Host.Outcome State Fault Refusal :=
  let s := advance dt s
  match space with
  | .window => done (winWrite s p core offset w)
  | .vault => done (rtcWrite s offset w)

/-! ## The second (R519, R520, R524) -/

/-- The platform stages the RTC's leap second when the boundary before it has passed (R520). -/
def leapStage (s : State) : State :=
  let c := s.rtc.cal
  let due : Int := s.tm.leapAt / 1000000000 - s.vi 0x180005 0
  if s.tm.leap == 0 || !running s || s.rtc.lockout || s.rtc.staged.isSome || (calSecs c : Int) + 1 != due then s
  else setRtc s { s.rtc with staged := some (if s.tm.leap == 1 then c else (calTick (calTick c).1).1) }

/-- RTC_SECOND_BOUNDARY: a staged write is applied, else the second advances; the alarm compares after it, and a service window counts
down (R512). -/
def execRtcSecondBoundary (dt : Nat) (s : State) : Host.Outcome State Fault Refusal :=
  let s := advance dt s
  if !s.rtc.oscRun then done s
  else
    let s := setRtc s { s.rtc with secBase := s.now, trimSecs := s.rtc.trimSecs + 1 }
    let s := { s with vault := { s.vault with service := s.vault.service.map (· - 1) } }
    match s.rtc.staged with
    | some c => done (calApply (setRtc s { s.rtc with staged := none }) c)
    | none =>
      let old := s.rtc.cal
      let (c, rolled) := calTick old
      let s := setRtc s { s.rtc with cal := c }
      let s := if rolled then setOsf s else s
      done (leapStage (alarmJudge s old false))

/-! ## Commands of area 50 -/

/-- RTC_SET's effect: a date that does not exist answers RANGE. -/
def opRtcSet (s : State) (c : Cal) (immediate : Bool) : Res :=
  if !calOk c then deny s rangeS
  else if s.vb 0x500020 0 && s.tm.quality == 0 then deny s stateS
  else if s.rtc.lockout then deny s notReady
  else
    let r := { s.rtc with stTime := BitVec.ofNat 32 (calTime c), stDate := BitVec.ofNat 32 (calDate c), engWrite := true }
    good (calCommit (setRtc s r) immediate)

/-- RTC_SET (R522, R532). -/
def execRtcSet (dt : Nat) (rq : Req) (year month day hour min sec wday : Nat) (immediate : Bool) (s : State) :
    Host.Outcome State Fault Refusal :=
  done (doExec (advance dt s) rq 0x500002 0 (fun s => opRtcSet s ⟨year, month, day, hour, min, sec, wday⟩ immediate)
    [.n year, .n month, .n day, .n hour, .n min, .n sec, .n wday, .n (b2n immediate)])

/-- RTC_OSF_CLEAR's effect: STATE while the crystal is stopped. -/
def opOsfClear (s : State) : Res := if !s.rtc.oscRun then deny s stateS else good (setRtc s { s.rtc with osf := false })

/-- RTC_OSF_CLEAR (R527). -/
def execRtcOsfClear (dt : Nat) (rq : Req) (s : State) : Host.Outcome State Fault Refusal :=
  done (doExec (advance dt s) rq 0x500004 0 opOsfClear)

/-- RTC_ALARM_ACK's effect. -/
def opAlarmAck (s : State) : Res := good (setRtc s { s.rtc with fired := false, skipped := false })

/-- RTC_ALARM_ACK: clears FIRED and SKIPPED. -/
def execRtcAlarmAck (dt : Nat) (rq : Req) (s : State) : Host.Outcome State Fault Refusal :=
  done (doExec (advance dt s) rq 0x500007 0 opAlarmAck)

/-- A write of RTC_TRIM. -/
def putTrim (s : State) (v : Val) : Res := good (setRtc s { s.rtc with trimNext := vI v 0, engWrite := true })

/-- A write of RTC_ALARM: with ARM set it arms, with ARM clear it disarms. -/
def putAlarm (s : State) (v : Val) : Res :=
  let c : Cal := ⟨vN v 1, vN v 2, vN v 3, vN v 4, vN v 5, vN v 6, 0⟩
  let s := setRtc s { s.rtc with alTime := BitVec.ofNat 32 (calTime c), alDate := BitVec.ofNat 32 (calDate c) }
  good (if vB v 0 then alarmSet s c else setRtc s { s.rtc with alarm := none })

/-- A write of TRICKLE: STATE under TZC3_COMPAT (R530). -/
def putTrickle (s : State) (v : Val) : Res := if s.vn 0x500010 0 == 1 then deny s stateS else good (s.put 0x500011 0 0 v)

/-! ## The latch (R521) -/

/-- RTC_LATCH_READ: the first read latches all three registers; the latch ends when each has been read. -/
def execRtcLatchRead (dt offset : Nat) (s : State) : Host.Outcome State Fault Refusal :=
  let s := advance dt s
  if s.rtc.lockout || !(offset == 0 || offset == 4 || offset == 8) then done s
  else
    let r := match latchNow s with
      | some _ => { s.rtc with latchRead := adjoin s.rtc.latchRead offset }
      | none => { s.rtc with latch := some (s.rtc.cal, prescale s), latchDue := s.now + 1000000, latchRead := [offset] }
    done (setRtc s (if r.latchRead.length == 3 then { r with latch := none, latchRead := [] } else r))

/-- RTC_LATCH_EXPIRY: 1 ms after it was taken. -/
def execRtcLatchExpiry (dt : Nat) (s : State) : Host.Outcome State Fault Refusal :=
  let s := advance dt s
  if s.rtc.latch.isSome && s.now ≥ s.rtc.latchDue then done (setRtc s { s.rtc with latch := none, latchRead := [] }) else done s

/-! ## Trim, discipline (R523, R531) -/

/-- RTC_TRIM_WINDOW: a window of 64 seconds has ended and the next runs with the new TRIM. -/
def execRtcTrimWindow (dt : Nat) (s : State) : Host.Outcome State Fault Refusal :=
  let s := advance dt s
  if !s.rtc.oscRun || s.rtc.trimSecs < 64 then done s
  else done (setRtc s { s.rtc with trim := s.rtc.trimNext, trimBase := s.now, trimSecs := 0 })

/-- May the platform discipline now: LOCKED, a ticking RTC, and none within the last hour (R531). -/
def discDue (s : State) : Bool :=
  s.vb 0x500020 0 && s.tm.quality == 0 && s.rtc.oscRun && running s && !s.rtc.lockout && match s.rtc.lastDisc with
    | none => true
    | some (t, _) => decide (t + 3600000000000 ≤ s.now)

/-- The RTC's time at its last tick less the counter's UTC time at the same instant (R531, step 1). -/
def tickError (s : State) : Int :=
  (calSecs s.rtc.cal : Int) * 1000000000 - (tai s - s.vi 0x180005 0 * 1000000000 - ((s.now : Int) - s.rtc.secBase))

/-- A discipline's error, by a stamp that is off by so many ns, ±5 µs at most (R531). -/
def discErr (s : State) (off : Int) : Int := tickError s + max (-5000) (min 5000 off)

/-- Is the counter within 50 µs of a second boundary. -/
def atSecond (s : State) : Bool := s.tm.ns ≤ 50000 || s.tm.ns ≥ 999950000

/-- The counter's UTC time written at a counter second boundary. -/
def discWrite (s : State) : State := calNow s (calOfSecs ((tai s + 50000) / 1000000000 - s.vi 0x180005 0).toNat s.rtc.cal.wday)

/-- The new TRIM after a drift of d ns over t ns. -/
def trimFor (old d : Int) (t : Nat) : Int := max (-2048) (min 2047 (old - ratRound (d * 1000000000000) ((t : Int) * 476837)))

/-- RTC_DISCIPLINE: the error at the RTC's tick is corrected and TRIM follows the drift; the new TRIM runs from the next window. Beyond
2 ms the discipline comes with its IMMEDIATE write, at a second boundary of the counter. -/
def execRtcDiscipline (dt : Nat) (off : Int) (s : State) : Host.Outcome State Fault Refusal :=
  let s := advance dt s
  let err := discErr s off
  if !discDue s || (err.natAbs > 2000000 && !atSecond s) then done s
  else
    let before := s.rtc.trimNext
    let after := match s.rtc.lastDisc with
      | some (t, _) => if s.now - t < 7200000000000 && s.now > t && !s.rtc.engWrite then trimFor before (err - s.rtc.discLeft) (s.now - t) else before
      | none => before
    let big := err.natAbs > 2000000
    let s := if big then discWrite s else s
    let s := setRtc s { s.rtc with
      trimNext := after, discLeft := (if big then 0 else err), engWrite := false
      lastDisc := some (s.now, tai s, clamp32 err, before, after, big) }
    done (logRec s 0x01F3 64 [clamp32 err, before, after, (b2n big : Nat)])

/-! ## Backup supply (R528, R529) -/

/-- VAULT_LOCKOUT: the vault locks out its port; it is open again from the hub's release. -/
def execVaultLockout (dt : Nat) (s : State) : Host.Outcome State Fault Refusal :=
  let s := advance dt s
  done (setRtc s { s.rtc with lockout := true, lockAt := if s.rtc.lockout then s.rtc.lockAt else s.now })

/-- VBAK_SWITCH: to VBAK no sooner than 100 µs after lockout; back to the main rail at supply good. -/
def execVbakSwitch (dt : Nat) (toBackup : Bool) (s : State) : Host.Outcome State Fault Refusal :=
  let s := advance dt s
  let native := s.vn 0x500010 0 == 0
  if toBackup then
    if s.rtc.vbak || !s.rtc.lockout || s.now < s.rtc.lockAt + 100000 || s.hw.vinGood then done s
    else
      let s := setRtc s { s.rtc with vbak := true, vbakSince := s.now, onBackup := s.rtc.onBackup || native }
      done (if native then bump s 0x500012 0 else s)
  else if !s.rtc.vbak || !s.hw.vinGood then done s
  else
    let p := if native then some (s.rtc.pendSwitch.getD 0 + (s.now - s.rtc.vbakSince)) else s.rtc.pendSwitch
    done (setRtc s { s.rtc with vbak := false, pendSwitch := p })

/-- What happened on backup supply is logged at the hub start (R524, R526, R529). -/
def rtcLogStart (s : State) : State :=
  let r := s.rtc
  let s := setRtc s { r with pendFire := none, pendOsf := false, pendSwitch := none }
  let s := match r.pendFire with
    | some c => logRec s 0x01F1 0x80 (calInts c)
    | none => s
  let s := if r.pendOsf then logRec s 0x01F2 0x80 (calInts r.cal) else s
  match r.pendSwitch with
  | some n => logRec s 0x01F4 0x80 (ints [n])
  | none => s

/-! ## The crystal and the vault's supply (R51, R526) -/

/-- The crystal stops: the calendar holds its value. -/
def oscStop (s : State) : State :=
  if !s.rtc.oscRun then s else setOsf (setRtc s { s.rtc with oscRun := false, stopped := some (prescale s) })

/-- CRYSTAL_RESTART: the crystal runs again from the pulse it stopped at. -/
def execCrystalRestart (dt : Nat) (s : State) : Host.Outcome State Fault Refusal :=
  let s := advance dt s
  if s.rtc.oscRun then done s
  else
    let p := prescale s
    done (setRtc s { s.rtc with oscRun := true, stopped := none, secBase := s.now - p * 1000000000 / 32768 })

/-- Below 1.2 V every field of the RTC returns to its reset value, the registers that RTC_TRIM and RTC_ALARM show among them; the crystal
stands still. -/
def rtcLost (s : State) : State :=
  setRtc s { lockout := true, lockAt := s.rtc.lockAt, oscRun := false, stopped := some 0, vbak := s.rtc.vbak, vbakSince := s.rtc.vbakSince
             pendSwitch := s.rtc.pendSwitch, pendOsf := s.rtc.pendOsf }

end Sys2Proof.Machine
end

