-- ==== Sys2Proof/Machine/Logbook.lean ====
section
/-! DEFINITION. The logbook (R533 to R545): intake, rate limits and suppression, protection and overwriting, the mirror, reading, clearing,
and the firmware's pigeonhole service to partitions. -/

namespace Sys2Proof.Machine

/-! ## Codes (R539, R543) -/

/-- Codes exempt from the token bucket (R543). -/
def logExempt (c : Nat) : Bool := [0x0120, 0x0123, 0x0124, 0x0126, 0x0128, 0x01B2, 0x01E0, 0x01E8, 0x0200, 0x0201].contains c

/-- Codes always written PROTECTED (R539). -/
def logFixed (c : Nat) : Bool := [0x0123, 0x0124, 0x0126, 0x0128, 0x01E0, 0x01E8, 0x0200].contains c

/-- Is a code's record written PROTECTED. -/
def logProtect (s : State) (c : Nat) : Bool := logFixed c || s.vb 0x580021 c

/-- A code's bucket set. -/
def setCode (s : State) (c : Nat) (x : LogCode) : State := { s with logb := { s.logb with codes := tabPut s.logb.codes c x } }

/-- The time between two tokens of a code. -/
def logPeriod (s : State) (c : Nat) : Nat := 1000000000 / max 1 (s.fn 0x580020 c 0)

/-- Is the mirror's memory, sub 22, not READY. -/
def mirrorDown (s : State) : Bool := unitSt s 22 != .ready

/-- Roll-call sub 15 judged by the mirror's memory, DEGRADED while that is not READY (R545). -/
def judgeLog (s : State) : State := judgeUnit s 15 (mirrorDown s)

/-! ## Writing (R533 to R539) -/

/-- The TIME of a record and its marks RTC_TIME and RTC_OSF. -/
def logTime (s : State) : Int × Bool × Bool := if unitOk s 6 then (tai s, false, false) else (rtcTai s, true, s.rtc.osf)

/-- A record loses its PROTECTED bit. -/
def logDemote (l : List LogRec) (n : Nat) : List LogRec := l.map fun r => if r.num == n then { r with prot := false } else r

/-- Room for one more PROTECTED record: beyond 1,024 the oldest that is no CLEARED record, else the oldest CLEARED record, gives way. -/
def logCap (s : State) : State :=
  let ps := s.logb.recs.filter (·.prot)
  if ps.length < 1024 then s
  else match (ps.filter fun r => r.code != 0x0200) ++ ps with
    | r :: _ => { s with logb := { s.logb with recs := logDemote s.logb.recs r.num, mirror := logDemote s.logb.mirror r.num } }
    | [] => s

/-- Room for one more record: the record of the lowest SEQ that is not PROTECTED is overwritten (R538); the mirror's slot follows when the
new record reaches it (`mirrorPut`). -/
def logSpace (s : State) : State :=
  if s.logb.recs.length < 32768 then s
  else match s.logb.recs.find? fun r => !r.prot with
    | some r =>
      let s := { s with logb := { s.logb with recs := s.logb.recs.filter fun x => x.num != r.num } }
      bump s 0x580005 0
    | none => s

/-- A record is written: LOG_SEQ rises and the record waits for its mirror. -/
def logWrite (s : State) (code src : Nat) (data : List Int) : State :=
  let p := logProtect s code
  let s := if p then logCap s else s
  let s := logSpace s
  let (t, rt, osf) := logTime s
  let n := s.logb.seq + 1
  { s with logb := { s.logb with
    seq := n, recs := s.logb.recs ++ [⟨n, t, code, src, p, rt, rt && osf, data⟩], intake := s.logb.intake ++ [n] } }

/-- A record not written joins its code's suppressed count, which LOG_SUPPRESSED shows at once (R543, R544). -/
def logSupp (s : State) (code src : Nat) : State :=
  let x := codeOf s code
  bump (setCode s code { x with supp := x.supp + 1, suppSrc := src, suppFirst := if x.supp == 0 then (logTime s).1 else x.suppFirst })
    0x580006 0

/-- The SUPPRESSED record of a code: the count returns to zero (R544). -/
def logSuppRec (s : State) (code : Nat) : State :=
  let x := codeOf s code
  if x.supp == 0 || s.logb.intake.length ≥ 64 || unitSt s 15 == .fault || s.boot.phase == .dump then s
  else
    logWrite (setCode s code { x with supp := 0 }) 0x0201 0x8F [code, x.suppSrc, x.supp, x.suppFirst]

/-- The tokens of a code that are due return, and with them its SUPPRESSED record (R543, R544). -/
def logRefill (s : State) (code : Nat) : State :=
  let x := codeOf s code
  if logExempt code || !dueBy s x.next then s
  else
    let d := x.next.getD s.now
    let k := (s.now - d) / logPeriod s code + 1
    let burst := s.fn 0x580020 code 1
    let n := min burst (x.tokens + k)
    let next := if n < burst then some (d + k * logPeriod s code) else none
    logSuppRec (setCode s code { x with tokens := n, next := next }) code

/-- The exempt codes make good their suppressed counts once the intake has room (R544). -/
def logSuppDue (s : State) : State :=
  ((s.logb.codes.filter fun (c, x) => logExempt c && x.supp > 0).map Prod.fst).foldl logSuppRec s

/-- A record enters the intake: its number, 0 when it is not written (R536, R543); a token due at the same instant returns before it. -/
def logIntake (s : State) (code src : Nat) (data : List Int) : Nat × State :=
  let s := logRefill s code
  if unitSt s 15 == .fault then (0, bump s 0x580007 0)
  else if s.logb.intake.length ≥ (if logExempt code then 64 else 48) then (0, logSupp (bump s 0x580007 0) code src)
  else if logExempt code then
    let s := logWrite s code src data
    (s.logb.seq, s)
  else
    let x := codeOf s code
    if x.tokens == 0 then (0, logSupp s code src)
    else
      let s := setCode s code { x with tokens := x.tokens - 1, next := some (x.next.getD (s.now + logPeriod s code)) }
      let s := logWrite s code src data
      (s.logb.seq, s)

/-- The record offered that is taken next, and the logbook without it: of those offered in one cycle the one of the lowest SOURCE (R536). -/
def offerTake (b : Logb) : Option (LogOffer × Logb) :=
  match b.offered with
  | [] => none
  | o :: _ =>
    let l := b.offered.take (max 1 (b.offerAt.takeWhile (· == nth b.offerAt 0 0)).length)
    let i := l.findIdx fun x => x.src == l.foldl (fun m x => min m x.src) o.src
    some (nth b.offered i o, { b with offered := b.offered.eraseIdx i, offerAt := b.offerAt.drop 1 })

/-- Up to so many records offered are judged. -/
def logDrain : Nat → State → State
  | 0, s => s
  | n + 1, s => match offerTake s.logb with
    | none => s
    | some (o, b) => logDrain n (logIntake { s with logb := b } o.code o.src o.data).2

/-- A record of a number is written to its slot of the mirror: with every slot in use it takes that of a record overwritten. -/
def mirrorPut (s : State) (n : Nat) : State :=
  let old (r : LogRec) : Bool := !s.logb.recs.any fun x => x.num == r.num
  let m := if s.logb.mirror.length < 32768 then s.logb.mirror else s.logb.mirror.eraseIdx (s.logb.mirror.findIdx old)
  { s with logb := { s.logb with mirror := m ++ s.logb.recs.filter fun r => r.num == n } }

/-- LOG_RECORD_INTAKE: the next record offered is judged, one per 10 ns; while the module is frozen only the dump writer and the vault are
heard. -/
def execLogRecordIntake (dt : Nat) (s : State) : Host.Outcome State Fault Refusal :=
  let s := advance dt s
  match offerTake s.logb with
  | none => done s
  | some (o, b) =>
    if s.boot.phase == .reset || s.now < s.logb.nextAt then done s
    else
      let s := { s with logb := { b with nextAt := s.now + 10 } }
      if s.boot.phase == .dump && !(o.src == 0x80 || o.src == 0x97) then done s
      else done (logIntake s o.code o.src o.data).2

/-- LOG_MIRROR_WRITE: the oldest record not yet mirrored reaches the mirror; exempt codes then make good their suppressed counts (R537, R544). -/
def execLogMirrorWrite (dt : Nat) (s : State) : Host.Outcome State Fault Refusal :=
  let s := advance dt s
  match s.logb.intake with
  | [] => done s
  | n :: rest =>
    if s.boot.phase == .reset || unitSt s 15 == .fault || (!unitOk s 22 && hubLive s) then done (judgeLog s)
    else
      let s := mirrorPut { s with logb := { s.logb with intake := rest } } n
      done (judgeLog (logSuppDue s))

/-- LOG_TOKEN_RETURN: a token returns to a code, and with it the SUPPRESSED record (R543, R544). -/
def execLogTokenReturn (dt code : Nat) (s : State) : Host.Outcome State Fault Refusal :=
  let s := advance dt s
  if s.boot.phase == .reset then done s else done (logRefill s code)

/-- A write of LOG_CODE_RATE: a lower BURST clips the tokens held (R543). -/
def putCodeRate (s : State) (c : Nat) (v : Val) : Res :=
  let x := codeOf s c
  let held := (tabGet s.logb.codes c).isSome
  let next := if x.next.isNone && x.tokens < vN v 1 then some (s.now + 1000000000 / max 1 (vN v 0)) else x.next
  let y := { x with tokens := min x.tokens (vN v 1), next := next }
  good (setCode (s.put 0x580020 c 0 v) c (if held || x.tokens != vN v 1 then y else x))

/-! ## Reading (R533, R540) -/

/-- The DATA of a record: the layouts of this chapter, a partition's own words, else what its chapter defines. -/
def logDataOf (r : LogRec) : List Byte :=
  let at_ (i : Nat) : Nat := (nth r.data i 0).toNat
  if r.code == 0x0200 then leN 4 (at_ 0) ++ leN 4 (at_ 1) ++ leN 1 (at_ 2) ++ leN 1 (at_ 3) ++ zeros 6
  else if r.code == 0x0201 then leN 2 (at_ 0) ++ leN 1 (at_ 1) ++ [0] ++ leN 4 (at_ 2) ++ leI 8 (nth r.data 3 0)
  else if r.src < 64 then (upto 4).flatMap fun i => leN 4 (at_ i)
  else padTo 16 (Config.logData r.code r.data)

/-- A record's 32 octets. -/
def logBytes (r : LogRec) : List Byte :=
  leI 8 r.time ++ leN 4 (r.num % 4294967296) ++ leN 2 r.code ++ leN 1 r.src ++
    leN 1 (160 + b2n r.prot + 2 * b2n r.rtcTime + 4 * b2n r.rtcOsf) ++ logDataOf r

/-! ## Clearing (R542) -/

/-- Every record that is not PROTECTED is removed; one CLEARED record follows. Gives the number removed. -/
def logClear (s : State) (src sess role : Nat) : Nat × State :=
  let out := s.logb.recs.filter fun r => !r.prot
  let low := match out with
    | r :: _ => r.num % 4294967296
    | [] => 0
  let keep := s.logb.recs.filter (·.prot)
  let s := { s with logb := { s.logb with
    recs := keep, mirror := s.logb.mirror.filter (·.prot), intake := s.logb.intake.filter fun n => keep.any fun r => r.num == n } }
  (out.length, logSuppDue (logIntake s 0x0200 src (ints [out.length, low, sess, role])).2)

/-- A role's code (R148). -/
def Role.code : Role → Nat
  | .obs => 0 | .opr => 1 | .eng => 2 | .sec => 3 | .mgr => 4 | .ptn => 5

/-- LOG_CLEAR by a session. -/
def opLogClear (s : State) (n : Nat) : Res :=
  match sessOf s n with
  | none => deny s stateS
  | some se =>
    let (k, s) := logClear s 65 n se.role.code
    ⟨s, okS, 4, leN 4 k⟩

/-- LOG_CLEAR. -/
def execLogClear (dt : Nat) (rq : Req) (s : State) : Host.Outcome State Fault Refusal :=
  done (doExec (advance dt s) rq 0x580011 0 fun s => opLogClear s rq.sess)

/-- The counters Log clears (R30). -/
def opLogReset (s : State) : Res := good (clearCtrs s 0x580005 0x580008 none)

/-- LOG_COUNTERS_RESET: clears 58.0005 to 58.0008 (R30). -/
def execLogCountersReset (dt : Nat) (rq : Req) (s : State) : Host.Outcome State Fault Refusal :=
  done (doExec (advance dt s) rq 0x580030 0 opLogReset)

/-! ## The firmware's service at endpoint 64 (R541) -/

/-- The channel on which an endpoint answers a partition. -/
def answerChan (s : State) (ep p : Nat) : Option Nat := (chValid s).find? fun c => chF s c 1 == ep && chF s c 2 == p

/-- A message of an endpoint to a partition: it waits for space in a full channel (R393, R399); with no channel, at a fence and while the
fabric is in FAULT (R404) it goes nowhere. -/
def answerPut (s : State) (ep p code : Nat) (ws : List Nat) : State :=
  match answerChan s ep p with
  | none => s
  | some c =>
    let l := ws.map fun w => BitVec.ofNat 32 w
    let m : Msg := { code := code, len := ws.length, words := l ++ List.replicate (15 - ws.length) 0, postedAt := s.now }
    let x := chanOf s c
    if fencing s p || !fabricUp s then s
    else if x.q.length ≥ 4 || !x.wait.isEmpty then setChan s c { x with wait := x.wait ++ [m] }
    else chanPut s c m

/-- The oldest message of a channel to an endpoint, when it carries one of the codes: the sender, the message
and the state with it taken. -/
def serveMsg (s : State) (ep c : Nat) (codes : List Nat) : Option (Nat × Msg × State) :=
  let p := chF s c 1
  if !(chF s c 0 != 0 && chF s c 2 == ep && p < 64 && fabricUp s) then none
  else match (chanOf s c).q with
    | [] => none
    | m :: rest => if codes.contains m.code then some (p, m, chanTake s c m rest) else none

/-- Data word i of a message, 1 to 15. -/
def msgWord (m : Msg) (i : Nat) : Nat := (nth m.words (i - 1) 0).toNat

/-- LOG_WRITE_MSG. -/
def execLogWriteMsg (dt chan : Nat) (s : State) : Host.Outcome State Fault Refusal :=
  let s := advance dt s
  match serveMsg s 64 chan [0x0A01] with
  | none => done s
  | some (p, m, s) =>
    let code := msgWord m 1 % 65536
    if code < pcfg s p 12 || code ≥ pcfg s p 12 + pcfg s p 13 then done (answerPut s 64 p 0x0A01 [0, rangeS * 65536])
    else
      let (n, s) := logIntake s code p (ints [msgWord m 2, msgWord m 3, msgWord m 4, msgWord m 5])
      done (answerPut s 64 p 0x0A01 [n % 4294967296, b2n (n == 0)])

/-- LOG_READ_MSG. -/
def execLogReadMsg (dt chan : Nat) (s : State) : Host.Outcome State Fault Refusal :=
  let s := advance dt s
  match serveMsg s 64 chan [0x0A02] with
  | none => done s
  | some (p, m, s) =>
    match logFrom s (msgWord m 1) with
    | [] => done (answerPut s 64 p 0x0A02 [0, noObject * 65536])
    | r :: _ =>
      let b := logBytes r
      done (answerPut s 64 p 0x0A02 ([r.num % 4294967296, 0] ++ (upto 8).map fun i => ofLe ((b.drop (4 * i)).take 4)))

/-- LOG_CLEAR_MSG. -/
def execLogClearMsg (dt chan : Nat) (s : State) : Host.Outcome State Fault Refusal :=
  let s := advance dt s
  match serveMsg s 64 chan [0x0A03] with
  | none => done s
  | some (p, _, s) =>
    let (k, s) := logClear s p 0xFF 0xFF
    done (answerPut s 64 p 0x0A03 [k, 0])

/-- The mirror's slot that was to take the next record when the hub stopped (R534, R537): not begun, torn, so that it holds no record and
is counted in LOG_TORN, or whole; which, a free value says. -/
def mirrorCut (s : State) : State :=
  match s.logb.intake with
  | [] => s
  | n :: _ =>
    let (v, s) := fresh s
    if v % 3 == 0 then s
    else
      let s := mirrorPut s n
      if v % 3 == 1 then s
      else bump { s with logb := { s.logb with mirror := s.logb.mirror.filter fun r => r.num != n } } 0x580008 0

/-- The logbook at a hub start: rebuilt from the mirror, every bucket full, suppressed counts lost (R537, R543, R544). -/
def logStart (s : State) : State :=
  let s := mirrorCut s
  { s with logb := { s.logb with recs := s.logb.mirror, intake := [], codes := [] } }

end Sys2Proof.Machine
end

