-- ==== Sys2Proof/Machine/Vault.lean ====
section
/-! DEFINITION. The vault (R492 to R510, R517, R518): anchors, key slots and their replacement, the working key register's operations,
traffic keys, bundles, attestation, the version minima and the re-arm of a claim counter. -/

namespace Sys2Proof.Machine

/-! ## Anchors (R492, R493) -/

/-- Does a valid anchor of a table carry a USE bit, under an algorithm or any. -/
def anchorHas (s : State) (use : Nat) (alg : Option Nat) : Bool :=
  (upto 8).any fun a =>
    let v := s.val 0x480030 a 0
    vB v 0 && bit (vN v 1) use && (alg == none || alg == some (vN v 2))

/-- Do the anchors include what R493 asks. -/
def anchorSet (s : State) : Bool :=
  anchorHas s 0 none && anchorHas s 1 (some 0) && anchorHas s 1 (some 1) && anchorHas s 2 (some 0) && anchorHas s 2 (some 1)

/-- A write of an anchor row: row 0 is read-only, and in OPERATIONAL the set stays complete. -/
def putAnchor (s : State) (a : Nat) (v : Val) : Res :=
  let t := s.put 0x480030 a 0 v
  if life s == 2 && !anchorSet t then deny s stateS else good t

/-- The anchors a hub start takes into use (R493). -/
def anchorsStart (s : State) : State :=
  { s with vault := { s.vault with anchorsInUse := (upto 8).map fun a => (a, s.val 0x480030 a 0) } }

/-! ## Key slots (R497 to R501) -/

/-- A key's check value: 4 bytes of HMAC-SHA-256 over "TZKCV" (R500). -/
def kcvOf (key : List Byte) : Nat := ofLe ((hmac256 key [0x54, 0x5A, 0x4B, 0x43, 0x56]).take 4)

/-- Does a key's length fit its KIND. -/
def kindFits (kind n : Nat) : Bool :=
  if kind == 0 then n == 16 else if kind == 1 then n == 32 else if kind == 2 then 16 ≤ n && n ≤ 64 else n == 48

/-- A traffic-key entry set. -/
def setTKey (s : State) (i : Nat) (x : TKey) : State := { s with vault := { s.vault with tkeys := tabPut s.vault.tkeys i x } }

/-- Asks for the derivation of a traffic-key entry: its parent must be a usable WORLD 0 slot of USE DERIVE (R504, R505, R510). -/
def deriveAsk (s : State) (i : Nat) : State :=
  let k := slotOfKey s (s.fn 0x480020 i 1)
  let t := tabGetD s.vault.tkeys i {}
  if !(s.fb 0x480020 i 0 && k.st == 1 && k.attr.world == 0 && bit k.attr.use 0 && bit k.attr.life (life s) && (life s == 1 || life s == 2)) then s
  else if s.vault.q.any fun r => r.op == .derive i then s
  else vaultPush (setTKey s i { t with st := if t.st == 1 then 1 else 3 }) 1 (.derive i)

/-- A derivation not yet complete is given up: the entry's settings change. -/
def deriveDrop (s : State) (i : Nat) : State :=
  let other (r : VReq) : Bool := r.op != .derive i
  let v := s.vault
  vaultKick { s with vault := { v with q := v.q.filter other, suspended := v.suspended.filter other, work := v.work.filter other } }

/-- A committed change of a traffic-key entry: it is empty until derived anew (R505). -/
def deriveNew (s : State) (i : Nat) : State := deriveAsk (setTKey (deriveDrop s i) i {}) i

/-- Every entry is derived at a hub start (R505). -/
def deriveAll (s : State) : State :=
  (upto 32).foldl deriveAsk { s with vault := { s.vault with tkeys := [] } }

/-- The entries derived from a slot. -/
def childrenOf (s : State) (k : Nat) : List Nat := (upto 32).filter fun i => s.fb 0x480020 i 0 && s.fn 0x480020 i 1 == k

/-- May a SEC session's KEY_WRITE be wrapped under a slot (R500, R510): the status that forbids it. -/
def wrapCheck (s : State) (w : Nat) : Nat :=
  let k := slotOfKey s w
  if w == 0xFF then (if life s == 1 then okS else lifecycleS)
  else if w ≥ 64 then rangeS
  else if k.st != 1 || !bit k.attr.use 1 then stateS
  else if k.attr.world != 1 || !bit k.attr.masters 3 then roleS
  else if k.attr.kind != 1 then typeS
  else if !keyLife s k then lifecycleS
  else okS

/-- Is the shadow occupied, or about to be. -/
def shadowBusy (s : State) : Bool :=
  s.vault.shadow.isSome || (s.vault.q ++ s.vault.suspended ++ s.vault.work.toList).any fun r => match r.op with
    | .keyWrite .. => true
    | _ => false

/-- KEY_WRITE's request (R500 step 1). -/
def opKeyWrite (s : State) (rq : Req) (slot wrap kcv : Nat) (a : KeyAttr) (key : List Byte) : Res :=
  if key.length > 72 then deny s lengthS
  else if wrapCheck s wrap != okS then deny s (wrapCheck s wrap)
  else if shadowBusy s || !vaultRoom s 2 then deny s busyS
  else ⟨vaultPush s 2 (.keyWrite rq.sess rq.seq slot wrap a kcv key), deferS, 0, []⟩

/-- KEY_WRITE. -/
def execKeyWrite (dt : Nat) (rq : Req) (slot kind use world masters life wrapSlot kcv : Nat) (key : List Byte) (s : State) :
    Host.Outcome State Fault Refusal :=
  done (doExec (advance dt s) rq 0x480011 0 (fun s => opKeyWrite s rq slot wrapSlot kcv ⟨kind, use, world, masters, life⟩ key)
    [.n slot, .n kind, .n use, .n world, .n masters, .n life, .n wrapSlot, .n kcv, .o key])

/-- The vault has the key: the shadow holds it when its length and its check value fit (R500 steps 1 and 2). -/
def keyWritten (s : State) (n seq slot kcv : Nat) (a : KeyAttr) (key : Option (List Byte)) : State :=
  let say (s : State) (st : Nat) : State := answerLate s n seq 0 ⟨st, 0, 0, []⟩
  match key with
  | none => say s verifyS
  | some k =>
    if !kindFits a.kind k.length then say s typeS
    else if kcvOf k != kcv then say s verifyS
    else if (sessOf s n).isNone then s
    else say { s with vault := { s.vault with shadow := some ⟨slot, a, k, kcv, n⟩ } } okS

/-- KEY_COMMIT's effect (R500 step 3). -/
def opKeyCommit (s : State) (n slot : Nat) : Res :=
  match s.vault.shadow with
  | none => deny s stateS
  | some h =>
    if h.sess != n || h.slot != slot then deny s stateS
    else
      let g := genUp (slotOfKey s slot).gen
      let s := setSlot { s with vault := { s.vault with shadow := none } } slot ⟨1, g, h.attr, h.key, h.kcv⟩
      good (judgeKeys (judgeVault ((childrenOf s slot).foldl deriveAsk (logRec s 0x01E2 0x80 (ints [slot, g])))))

/-- KEY_COMMIT. -/
def execKeyCommit (dt : Nat) (rq : Req) (slot : Nat) (s : State) : Host.Outcome State Fault Refusal :=
  done (doExec (advance dt s) rq 0x480012 0 (fun s => opKeyCommit s rq.sess slot) [.n slot])

/-- KEY_DISCARD's effect. -/
def opKeyDiscard (s : State) : Res := good { s with vault := { s.vault with shadow := none } }

/-- KEY_DISCARD: the shadow is emptied. -/
def execKeyDiscard (dt : Nat) (rq : Req) (s : State) : Host.Outcome State Fault Refusal :=
  done (doExec (advance dt s) rq 0x480013 0 opKeyDiscard)

/-- KEY_INVALIDATE's effect (R501); a BAD slot stays BAD (R499). -/
def opKeyInvalidate (s : State) (k : Nat) : Res :=
  let s := slotTo s k (if (slotOfKey s k).st == 3 then 3 else 2)
  good (judgeKeys (logRec s 0x01E3 0x80 (ints [k, (slotOfKey s k).gen, 0])))

/-- KEY_INVALIDATE. -/
def execKeyInvalidate (dt : Nat) (rq : Req) (slot : Nat) (s : State) : Host.Outcome State Fault Refusal :=
  done (doExec (advance dt s) rq 0x480014 slot fun s => opKeyInvalidate s slot)

/-- KEY_ERASE's effect (R501). -/
def opKeyErase (s : State) (k : Nat) : Res :=
  let x := slotOfKey s k
  good (judgeKeys (judgeVault (logRec (setSlot s k { x with st := 0, key := [], kcv := 0 }) 0x01E3 0x80 (ints [k, x.gen, 1]))))

/-- KEY_ERASE. -/
def execKeyErase (dt : Nat) (rq : Req) (slot : Nat) (s : State) : Host.Outcome State Fault Refusal :=
  done (doExec (advance dt s) rq 0x480015 slot fun s => opKeyErase s slot)

/-- KEY_SLOT_INTEGRITY_CHECK: the full check of every 60 s. -/
def execKeySlotIntegrityCheck (dt : Nat) (bad : List Nat) (s : State) : Host.Outcome State Fault Refusal :=
  let s := advance dt s
  if !hubLive s then done s
  else
    let s := selfRan (bad.foldl slotBad s) 7
    done (selfBit s 7 (s.vault.slots.any fun (_, x) => x.st == 3))

/-! ## MAC requests of partitions (R498) -/

/-- The vault's answer to a partition: the status, then the result's words. -/
def macAnswer (s : State) (p : Nat) (verify : Bool) (st : Nat) (ws : List Nat) : State :=
  answerPut s 64 p (if verify then 0x0902 else 0x0901) (st :: ws)

/-- May partition p use a slot: the status that forbids it; a KIND that is not HMAC permits no MAC (R497). -/
def macCheck (s : State) (p k len : Nat) : Nat :=
  let x := slotOfKey s k
  if k > 63 || len == 0 || len > 40 then rangeS
  else if x.attr.world != 2 || !bit x.attr.masters p || !bit x.attr.use 2 then roleS
  else if x.st == 1 && x.attr.kind != 2 then typeS
  else if !keyOk s x then stateS
  else if !vaultRoom s 1 then busyS
  else okS

/-- The octets of n data words of a message from word i. -/
def msgOctets (m : Msg) (i n : Nat) : List Byte := (upto n).flatMap fun k => leN 4 (msgWord m (i + k))

/-- VAULT_MAC_REQUEST: the firmware takes a MAC or MAC_VERIFY message and forwards it with the sender the fabric stamped. -/
def execVaultMacRequest (dt chan : Nat) (s : State) : Host.Outcome State Fault Refusal :=
  let s := advance dt s
  match serveMsg s 64 chan [0x0901, 0x0902] with
  | none => done s
  | some (p, m, s) =>
    let k := msgWord m 1 % 256
    let len := msgWord m 1 / 256 % 256
    let ver := m.code == 0x0902
    if unitSt s 0 == .fault then done (macAnswer s p ver notReady [])
    else if macCheck s p k len != okS then done (macAnswer s p ver (macCheck s p k len) [])
    else done (vaultPush s 1 (.mac chan ver p k ((msgOctets m 2 10).take len) (msgOctets m 12 4)))

/-! ## Bundles (R495, R496) -/

/-- BUNDLE_APPLY's request: the vault verifies BUNDLE_DATA. -/
def opBundleApply (s : State) (rq : Req) : Res :=
  let j := s.jal
  if pairOn s && settled s && !s.pair.link then deny s stateS
  else if j.bundleRq.isSome || j.commitRow.isSome || j.commitMid.isSome || (j.holder.isSome && j.holder != some rq.sess) || !vaultRoom s 2 then
    deny s busyS
  else ⟨vaultPush { s with jal := { j with bundleRq := some (rq.sess, rq.seq) } } 2 (.verifyBundle rq.sess rq.seq), deferS, 0, []⟩

/-- BUNDLE_APPLY. -/
def execBundleApply (dt : Nat) (rq : Req) (s : State) : Host.Outcome State Fault Refusal :=
  done (doExec (advance dt s) rq 0x020031 0 fun s => opBundleApply s rq)

/-- One row a bundle carries, checked as a staged write is; the status, or the value with its key. -/
def bundleRow (s : State) (b : BundleRow) : Except Nat (Nat × Val) :=
  let ob := obAddr b.addr
  match descOf ob with
  | none => .error noObject
  | some d =>
    if !unitPresent s (ownerOf ob b.addr.sub) then .error unitAbsent
    else if b.addr.sub ≥ instances s ob d then .error noObject
    else if d.pers != .s || d.acc == .ro || d.acc == .cmd then .error accessS
    else match decVal d.typ b.typ b.bytes with
      | .error e => .error e
      | .ok v =>
        if !inLims d v || rowLimit s ob b.addr.sub v != okS || (match d.typ with
          | .tbl _ n => b.row ≥ n
          | _ => b.row != 0) then .error rangeS
        else .ok (okey ob b.addr.sub b.row, v)

/-- A bundle's rows checked in order. -/
def bundleVals (s : State) : List BundleRow → Except Nat (List (Nat × Val))
  | [] => .ok []
  | b :: r => match bundleRow s b, bundleVals s r with
    | .error e, _ => .error e
    | _, .error e => .error e
    | .ok x, .ok l => .ok (x :: l)

/-- The vault's verdict on BUNDLE_DATA: the digest of an accepted bundle's Prefect section goes to the Prefect, and its values are staged
(R477, R495). -/
def bundleJudged (s : State) (n seq : Nat) (f : VaultFacts) : State :=
  let say (s : State) (st : Nat) : State := answerLate s n seq 0 ⟨st, 0, 0, []⟩
  let (ok, s) := verifyObj (bulkEnd { s with jal := { s.jal with bundleRq := none, bundle := [] } } (addrOf 0x020030 0)) 3 s.vault.bundleSvn
    f.signed
  if !ok then say s verifyS
  else
    let s := if f.hasPrefect then { s with pf := { s.pf with digest := f.prefectDigest } } else s
    match bundleVals s f.bundle with
    | .error e => say s e
    | .ok l =>
      if !(pairOn s && settled s) then bundleStage s n seq f.signed.svn l
      else if !s.pair.link then say s stateS
      else mirrorSend { s with jal := { s.jal with bundleRq := some (n, seq) } } n seq f.signed.svn (.bundle l)

/-- This unit's vault has judged a bundle that the partner's BUNDLE_APPLY mirrors: the partner learns whether it is accepted (R433, R477). -/
def bundleMirrored (s : State) (mid : Nat) (f : VaultFacts) : State :=
  match s.pair.mirrors.find? fun m => !m.own && !m.acked && m.id == mid with
  | none => s
  | some m =>
    let say (s : State) (st : Nat) : State := sendIul s (.mirrorAck mid st (tai s))
    let (ok, s) := verifyObj { s with pair := { s.pair with mirrors := s.pair.mirrors.filter fun x => x.own || x.acked || x.id != mid } } 3
      s.vault.bundleSvn f.signed
    if !ok then say s verifyS
    else
      let s := if f.hasPrefect then { s with pf := { s.pf with digest := f.prefectDigest } } else s
      match bundleVals s f.bundle, m.op with
      | .error e, _ => say s e
      | .ok l, .bundle want => if l == want then say (mirrorWait s { m with idx := f.signed.svn } (tai s)) okS else say s verifyS
      | .ok _, _ => say s verifyS

/-! ## Attestation (R509) -/

/-- The evidence before its signatures. -/
def evidenceOf (s : State) (nonce : List Byte) : List Byte :=
  leN 4 0x54415A54 ++ leN 2 1 ++ nonce ++ s.ident.serial ++ leN 4 (unitsPresent s) ++ leN 1 (life s) ++ leI 8 (tai s) ++
    leN 8 (calSecs s.rtc.cal) ++ (tabGetD s.boot.slots s.boot.bootSlot {}).digest ++ leN 4 s.boot.runSvn ++
    ((created s).flatMap fun p => (partOf s p).digest ++ leN 4 (partOf s p).svn) ++ s.pf.digest ++
    sha384 ((upto 8).flatMap fun a => match descOf 0x480030 with
      | some d => encVal d.typ (s.val 0x480030 a 0)
      | none => []) ++
    leN 4 s.boot.svnMin ++ ((created s).flatMap fun p => leN 4 (partOf s p).svnMin) ++ leN 4 s.vault.bundleSvn ++ leN 4 s.vault.recCount

/-- ATTEST's request. -/
def opAttest (s : State) (rq : Req) (nonce : List Byte) : Res :=
  if nonce.length > 64 then deny s lengthS
  else if s.vault.attesting || !vaultRoom s 3 then deny s busyS
  else ⟨vaultPush (logRec { s with vault := { s.vault with attesting := true } } 0x01E5 0x80 (ints [rq.sess])) 3 (.attest rq.sess rq.reqId nonce),
    pendingS, 0, []⟩

/-- ATTEST. -/
def execAttest (dt : Nat) (rq : Req) (nonce : List Byte) (s : State) : Host.Outcome State Fault Refusal :=
  done (doExec (advance dt s) rq 0x480032 0 (fun s => opAttest s rq nonce) [.o nonce])

/-! ## The working key register (R502) -/

/-- An operation ends without output: what asked for it learns the status. -/
def opAbort (s : State) (op : VOp) (st : Nat) : State :=
  match op with
  | .handoverSign d => hoEnd s d st
  | .handoverVerify d _ _ _ => hoJudge s d 0 0 false
  | .derive i => setTKey s i {}
  | .mac _ v p _ _ _ => macAnswer s p v st []
  | .verifyImage _ n r => execEnd s n r st []
  | .verifyBundle n q => answerLate { s with jal := { s.jal with bundleRq := none } } n q 0 ⟨st, 0, 0, []⟩
  | .verifyMirror mid => sendIul { s with pair := { s.pair with mirrors := s.pair.mirrors.filter fun x => x.own || x.acked || x.id != mid } }
    (.mirrorAck mid st (tai s))
  | .keyWrite n q _ _ _ _ _ => answerLate s n q 0 ⟨st, 0, 0, []⟩
  | .handshake a => { s with jal := { s.jal with assocs := tabDel s.jal.assocs a } }
  | .migAgree p => migAgreed s p false
  | .attest n r _ => execEnd { s with vault := { s.vault with attesting := false } } n r st []

/-- An operation completes: its result goes to what asked for it. -/
def opEnd (s : State) (r : VReq) (f : VaultFacts) : State :=
  match r.op with
  | .handoverSign d =>
    (match (claimOf s d).handover with
    | none => s
    | some (row, _, _, _) =>
      if r.gen.isSome then hoSend s d (.handover d (claimNo s d) row) (.handover d (claimNo s d) row true) else hoEnd s d stateS)
  | .handoverVerify d c row ok => hoJudge s d c row (ok && r.gen.isSome)
  | .derive _ => s
  | .mac _ v p _ input tag =>
    let mac := hmac384 r.key input
    if r.gen.isNone then macAnswer s p v stateS []
    else if v then macAnswer s p v okS [b2n (mac.take 16 == tag)]
    else macAnswer s p v okS ((upto 10).map fun i => ofLe ((mac.drop (4 * i)).take 4))
  | .verifyImage p n q => imageJudged s p n q f.signed
  | .verifyBundle n q => bundleJudged s n q f
  | .verifyMirror mid => bundleMirrored s mid f
  | .keyWrite n q slot w a kcv key =>
    keyWritten s n q slot kcv a (if w == 0xFF then some key else if r.gen.isSome && f.unwrapOk then some f.key else none)
  | .handshake a =>
    (match tabGet s.jal.assocs a with
    | some x => { s with jal := { s.jal with assocs := tabPut s.jal.assocs a { x with ready := true } } }
    | none => s)
  | .migAgree p => migAgreed s p r.gen.isSome
  | .attest n q nonce =>
    let e := evidenceOf s nonce
    execEnd { s with vault := { s.vault with attesting := false, evidence := e ++ Config.attestSigs e } } n q okS []

/-- Does an operation verify a signed object: in FAULT those answer VERIFY and no other runs (R518). -/
def VOp.verifies : VOp → Bool
  | .verifyImage .. => true
  | .verifyBundle .. => true
  | .verifyMirror _ => true
  | _ => false

/-- VAULT_OP_COMPLETE: the operation in the working key register completes; a derivation completes by its own event. -/
def execVaultOpComplete (dt : Nat) (facts : VaultFacts) (s : State) : Host.Outcome State Fault Refusal :=
  let s := advance dt s
  match s.vault.work with
  | none => done s
  | some r =>
    if r.op.derives then done s
    else
      let s := { s with vault := { s.vault with work := none } }
      done (vaultKick (if unitSt s 0 == .fault && !r.op.verifies then opAbort s r.op notReady else opEnd s r facts))

/-- VAULT_SEGMENT_END: the vault serves waiting requests of a lower class between segments. -/
def execVaultSegmentEnd (dt : Nat) (s : State) : Host.Outcome State Fault Refusal := done (vaultYield (advance dt s))

/-- The value of a traffic-key entry, of its parent's: DIRECT as it is, or HKDF-SHA-384 with an empty salt and INFO, of the length its ALG
takes (R504); INFO is the octets up to its last that is not zero (DESIGN CHOICE, entry 105). -/
def childKey (s : State) (i : Nat) (parent : List Byte) : List Byte :=
  if s.fn 0x480020 i 2 == 0 then parent
  else hkdf384 [] parent (trimZ (vO (s.val 0x480020 i 0) 6)) (if s.fn 0x480020 i 4 == 0 then 32 else 16)

/-- TRAFFIC_KEY_DERIVED: the entry is READY with the GEN its parent had when the key was loaded (R502, R505, R506); in FAULT no derivation
runs (R518). -/
def execTrafficKeyDerived (dt idx : Nat) (s : State) : Host.Outcome State Fault Refusal :=
  let s := advance dt s
  match s.vault.work with
  | none => done s
  | some r =>
    if r.op != .derive idx then done s
    else
      let s := { s with vault := { s.vault with work := none } }
      match if unitSt s 0 == .fault then none else r.gen with
      | some g => done (vaultKick (judgeKeys (setTKey s idx ⟨1, g, tai s, childKey s idx r.key⟩)))
      | none => done (vaultKick (if (tabGetD s.vault.tkeys idx {}).st == 1 then s else setTKey s idx {}))

/-! ## The minima and the re-arm (R496, R517) -/

/-- FW_SVN_CONFIRM's effect. -/
def opFwSvnConfirm (s : State) : Res :=
  let o := tabGetD s.boot.slots (1 - s.boot.bootSlot) {}
  if o.st == 1 && o.svn < s.boot.runSvn then deny s stateS
  else good { s with boot := { s.boot with svnMin := max s.boot.svnMin s.boot.runSvn } }

/-- FW_SVN_CONFIRM. -/
def execFwSvnConfirm (dt : Nat) (rq : Req) (s : State) : Host.Outcome State Fault Refusal :=
  done (doExec (advance dt s) rq 0x480040 0 opFwSvnConfirm)

/-- IMAGE_SVN_CONFIRM's effect: without a stored image it answers STATE. -/
def opImageSvnConfirm (s : State) (p : Nat) : Res :=
  let x := partOf s p
  if !x.stored then deny s stateS else good (setPart s p { x with svnMin := max x.svnMin x.svn })

/-- IMAGE_SVN_CONFIRM. -/
def execImageSvnConfirm (dt : Nat) (rq : Req) (p : Nat) (s : State) : Host.Outcome State Fault Refusal :=
  done (doExec (advance dt s) rq 0x480043 p fun s => opImageSvnConfirm s p)

/-- CLAIM_REARM's effect. -/
def opClaimRearm (s : State) (d : Nat) : Res :=
  if !((domParts s d).all fun p => (partOf s p).st == .stopped) then deny s stateS
  else
    let s := hoEnd s d stateS
    let c : Claim := { holding := (claimOf s d).holding, heldAt := (claimOf s d).heldAt }
    good (judgeHolder (setClaim s d c) d)

/-- CLAIM_REARM. -/
def execClaimRearm (dt : Nat) (rq : Req) (d : Nat) (s : State) : Host.Outcome State Fault Refusal :=
  done (doExec (advance dt s) rq 0x480050 d fun s => opClaimRearm s d)

end Sys2Proof.Machine
end

