-- ==== Sys2Proof/Machine/Stage.lean ====
section
/-! DEFINITION. The stage set's commit (R126 to R128, R328, R329) and the mirrored operations (R433): STAGE_COMMIT, STAGE_APPLY,
STAGE_DISCARD, BANK_SEAL, PROFILE_SWAP, PROFILE_DISARM, ONLINE_WRITE, the force table, MIRROR and MIRROR_ACK. -/

namespace Sys2Proof.Machine

/-! ## A commit is accepted -/

/-- The first row boundary that falls d ns or more from now. -/
def rowAhead (s : State) (d : Nat) : Nat :=
  ceilDiv ((tai32 s + d * 4294967296).toNat * baseHz s) (1000000000 * 4294967296)

/-- An accepted commit waits for its row: partitions it needs quiet stay so, and a new W applies from that row (R126, R252, R328). -/
def commitTake (s : State) (l : List (Nat × Val)) (own : Bool) (row : Nat) : State :=
  let hold := commitHolds s l
  let w := ((l.find? fun (k, _) => k == okey 0x210002 0 0).map fun (_, v) => (row, vN v 0)).toList
  { s with
    jal := { s.jal with commitRow := some row, commitSet := l, commitOwn := own, heldParts := hold, commitMid := none }
    plan := { s.plan with wCuts := s.plan.wCuts ++ w } }

/-- Is a commit under way. -/
def committing (s : State) : Bool := s.jal.commitRow.isSome || s.jal.commitMid.isSome

/-- Does the pair mirror operations now, and can it (R433). -/
def mirrors (s : State) : Bool := pairOn s && settled s

/-- A mirrored operation that this unit accepts: applied at once on an unpaired unit, sent to the partner on a settled one, and STATE
while the link is down. -/
def mirrored (s : State) (n seq idx : Nat) (check : Nat) (op : MirrorOp) (apply : State → State) : Res :=
  if check != okS then deny s check
  else if !mirrors s then good (apply s)
  else if !s.pair.link then deny s stateS
  else ⟨mirrorSend s n seq idx op, deferS, 0, []⟩

/-- A force-table or online write: of a unit in a pair only while the pair is settled and the link is up (R420, R424). -/
def pairedWrite (s : State) (n seq idx : Nat) (check : Nat) (op : MirrorOp) (apply : State → State) : Res :=
  if check == okS && pairOn s && !settled s then deny s stateS else mirrored s n seq idx check op apply

/-- STAGE_COMMIT's request (R126): accepted, it answers at its row; refused, it answers the failing address. -/
def opStageCommit (s : State) (rq : Req) : Res :=
  let l := s.jal.stage
  if s.jal.holder != some rq.sess then deny s stateS
  else if mirrors s && !s.pair.link then deny s stateS
  else if committing s then deny s busyS
  else match commitFail s l with
    | some (k, st) => ⟨s, st, 14, addrBytes (k / 4294967296) (k / 65536 % 65536)⟩
    | none =>
      let s := { s with jal := { s.jal with commitRq := some (rq.sess, rq.seq) } }
      if mirrors s then
        let s := { s with jal := { s.jal with commitMid := some s.pair.nextMirror } }
        ⟨mirrorSend s rq.sess rq.seq 0 (.commit l), deferS, 0, []⟩
      else ⟨commitTake s l true (rowAhead s 1000000), deferS, 0, []⟩

/-- STAGE_COMMIT. -/
def execStageCommit (dt : Nat) (rq : Req) (s : State) : Host.Outcome State Fault Refusal :=
  done (doExec (advance dt s) rq 0x020022 0 fun s => opStageCommit s rq)

/-! ## A commit takes effect -/

/-- The store's entries of keys. -/
def oldOf (s : State) (l : List (Nat × Val)) : List (Nat × Option Val) := l.map fun (k, _) => (k, tabGet s.store k)

/-- The instances of an object among a commit's values, once each. -/
def subsIn (l : List (Nat × Val)) (obs : List Nat) : List Nat :=
  (l.filterMap fun (k, _) => if obs.contains (k / 4294967296) then some (k / 65536 % 65536) else none).foldl adjoin []

/-- Is an object one that the row pipeline processes rows under: conditioning and the republisher. -/
def pipeOb (ob : Nat) : Bool := ob / 65536 == 0x24 || (0x280200 ≤ ob && ob ≤ 0x280202)

/-- The seating plan's part: the old bank serves earlier rows (R240). -/
def planCommit (o s : State) (l : List (Nat × Val)) (row : Nat) : State :=
  let subs := l.filter fun (k, _) => k / 4294967296 == 0x200100 || k / 4294967296 == 0x200101
  let olds := subs.map fun (k, _) => (k, o.val (k / 4294967296) (k / 65536 % 65536) (k % 65536))
  let s := if subs.isEmpty then s else { s with plan := { s.plan with banks := s.plan.banks ++ [(row, olds)] } }
  judgeIngest { s with plan := { s.plan with streams := tabMap (fun _ (x : Stream) => { x with authLogged := false }) s.plan.streams } }

/-- The row pipeline's part: rows before the commit row keep the old settings. -/
def pipeCommit (o s : State) (l : List (Nat × Val)) (row : Nat) : State :=
  let ls := l.filter fun (k, _) => pipeOb (k / 4294967296)
  if ls.isEmpty then s
  else
    let s := (subsIn ls [0x280200, 0x280201, 0x280202]).foldl (fun s q => setOs s q { osOf s q with reset := some row }) s
    { s with cond := { s.cond with oldCfg := s.cond.oldCfg ++ [(row, oldOf o ls)] } }

/-- The GOOSE engine's part: changed blocks that are no longer valid, or whose owner or layout changed, stop; changed entries wait anew. -/
def gooseCommit (o s : State) (l : List (Nat × Val)) : State :=
  let s := (subsIn l [0x280100, 0x280102]).foldl (fun s b =>
    if vB (gbCfg s b) 0 && vN (gbCfg s b) 1 == vN (gbCfg o b) 1 && o.rows 0x280102 b == s.rows 0x280102 b then s else gbStop s b) s
  let s := (subsIn l [0x290100, 0x290101, 0x290102]).foldl gsCommit s
  { s with pub := { s.pub with subs := tabMap (fun _ (x : GSub) => { x with authLogged := false }) s.pub.subs } }

/-- A removed partition's instances return to their pools (R329). -/
def partReturn (s : State) (p : Nat) : State :=
  let s := (s.subsOf 0x310010).foldl (fun s q =>
    if rOwner s q == p then { s.put 0x310010 q 0 ((s.val 0x310010 q 0).set 0 (.n 0xFE)) with tt := { s.tt with rings := tabDel s.tt.rings q } }
    else s) s
  let s := (s.subsOf 0x280100).foldl (fun s b => if vN (gbCfg s b) 1 == p then gbStop (s.put 0x280100 b 0 ((gbCfg s b).set 0 (.n 0))) b else s) s
  let s := (s.rowsOf 0x300011 p).foldl (fun s i => s.put 0x300011 p i (dfl s 0x300011 p)) s
  { s with tt := { s.tt with flows := s.tt.flows.filter fun (_, f) => f.owner != p } }

/-- The partitions' part: creations and removals begin their overwriting; a removal fences (R323, R329, R340). -/
def partsCommit (s : State) (l : List (Nat × Val)) : State :=
  let s := (subsIn l [0x300010]).foldl (fun s p =>
    let x := partOf s p
    if partValid s p && x.st == .none then setPart (diesUp (setPf s p { tokens := s.fn 0x440031 p 1 }) p) p { x with zeroing := 1 }
    else if !partValid s p && x.st != .none then (let s := partReturn (fenceStart s p 4) p; setPart s p { partOf s p with zeroing := 2 })
    else if partValid s p then diesUp s p
    else setPart s p { x with zeroing := 0 }) s
  diesGate s

/-- A changed rate cap (R481): tokens beyond the new BURST are clipped, none is added, and a clock that runs goes on. -/
def capCommit1 (s : State) (p : Nat) : State :=
  let x := pfOf s p
  let n := min x.tokens (s.fn 0x440031 p 1)
  setPf s p { (if x.next.isNone && n < s.fn 0x440031 p 1 then tokenClock s p s.now 0 1 x else x) with tokens := n }

/-- A bundle whose stage set has been committed, at the unit that staged it or at both, raises the minimum SVN (R496). -/
def bundleCommit (s : State) (l : List (Nat × Val)) : State :=
  match s.vault.bundlePend with
  | some (svn, ks) =>
    if ks.all fun k => l.any (·.1 == k) then
      { s with vault := { s.vault with bundleSvn := max s.vault.bundleSvn svn, bundlePend := none } }
    else s
  | none => s

/-- The other units' parts. A channel keeps its queue, flags and EPOCH unless its validity or an endpoint changes (DESIGN CHOICE, entry 100). -/
def unitsCommit (o s : State) (l : List (Nat × Val)) : State :=
  let s := logicTasksCommit o s
  let s := (subsIn l [0x110001]).foldl groupMode s
  let s := (subsIn l [0x310010]).foldl (fun s q => { s with tt := { s.tt with rings := tabDel s.tt.rings q } }) s
  let s := (subsIn l [0x340100]).foldl (fun s c =>
    if (s.val 0x340100 c 0).take 3 == (o.val 0x340100 c 0).take 3 then s
    else { s with ph := { s.ph with chans := tabDel s.ph.chans c } }) s
  let s := (subsIn l [0x340110]).foldl bellItem s
  let s := (subsIn l [0x480020]).foldl deriveNew s
  let s := (subsIn l [0x440031]).foldl capCommit1 s
  let s := (subsIn l [0x400040]).foldl (fun s b => if s.fb 0x400040 b 0 && s.val 0x400040 b 0 == o.val 0x400040 b 0 then s else setBoard s b { cmds := boardRecent s b }) s
  judgeBol (judgeKeys (capCommit o s))

/-- The commit row has come: every value takes effect, the set is emptied and the request answers the row (R126). -/
def stageApply (s : State) (row : Nat) : State :=
  let o := s
  let j := s.jal
  let l := j.commitSet
  let s := withStage s l
  let s := { s with jal := { s.jal with commitRow := none, commitSet := [], heldParts := [], lastCommitRow := row, commitRq := none } }
  let s := planCommit o s l row
  let s := pipeCommit o s l row
  let s := runPlaced (unitsCommit o (partsCommit (gooseCommit o s l) l) l)
  let s := if l.any fun (k, _) => arOf (k / 4294967296) == 0x40 then pairRetry s else s
  let s := logRec s 0x0133 65 (ints [row, l.length])
  let s := bundleCommit (if j.commitOwn then { s with jal := { s.jal with stage := [], holder := none } } else s) l
  let s := j.heldParts.foldl restartDue s
  match j.commitOwn, j.commitRq with
  | true, some (n, q) =>
    if s.parts.ps.any fun (_, x) => x.zeroing == 2 then { s with jal := { s.jal with zeroRqs := s.jal.zeroRqs ++ [(n, q, row)] } }
    else answerLate s n q 0 ⟨okS, 5, 0, leN 8 row⟩
  | _, _ => s

/-- STAGE_APPLY: the counter reaches the commit row's boundary. -/
def execStageApply (dt : Nat) (s : State) : Host.Outcome State Fault Refusal :=
  let s := advance dt s
  match s.jal.commitRow with
  | none => done s
  | some row => if curRow s < row || !hubLive s then done s else done (stageApply s row)

/-- STAGE_DISCARD's effect (R128). -/
def opStageDiscard (s : State) (n : Nat) : Res :=
  if s.jal.holder != some n then deny s stateS
  else if s.jal.commitOwn && committing s then deny s busyS
  else good (stageDrop s)

/-- STAGE_DISCARD. -/
def execStageDiscard (dt : Nat) (rq : Req) (s : State) : Host.Outcome State Fault Refusal :=
  done (doExec (advance dt s) rq 0x020023 0 fun s => opStageDiscard s rq.sess)

/-! ## The mirrored commands -/

/-- BANK_SEAL's request: a bank whose checks fail is BAD, whether or not the partner is asked. -/
def opBankSeal (s : State) (rq : Req) (bank : Nat) : Res :=
  let st := sealCheck s bank
  if st == rangeS then ⟨setBank s bank 3, st, 0, []⟩ else mirrored s rq.sess rq.seq 0 st (.seal bank) fun s => sealApply s bank

/-- BANK_SEAL (R281). -/
def execBankSeal (dt : Nat) (rq : Req) (bank : Nat) (s : State) : Host.Outcome State Fault Refusal :=
  done (doExec (advance dt s) rq 0x240014 bank fun s => opBankSeal s rq bank)

/-- PROFILE_SWAP's request; it answers with the row number. -/
def opProfileSwap (s : State) (rq : Req) (p row mode xfade : Nat) : Res :=
  let r := mirrored s rq.sess rq.seq 0 (swapCheck s p row mode xfade) (.swap p row mode xfade) fun s => swapApply s p row mode xfade
  if r.status == okS then { r with typ := 5, bytes := leN 8 row } else r

/-- PROFILE_SWAP (R282). -/
def execProfileSwap (dt : Nat) (rq : Req) (profile row mode xfade : Nat) (s : State) : Host.Outcome State Fault Refusal :=
  done (doExec (advance dt s) rq 0x240015 profile (fun s => opProfileSwap s rq profile row mode xfade) [.n row, .n mode, .n xfade])

/-- PROFILE_DISARM's request. -/
def opProfileDisarm (s : State) (rq : Req) (p : Nat) : Res :=
  mirrored s rq.sess rq.seq 0 (disarmCheck s p) (.disarm p) fun s => disarmApply s p

/-- PROFILE_DISARM (R285). -/
def execProfileDisarm (dt : Nat) (rq : Req) (profile : Nat) (s : State) : Host.Outcome State Fault Refusal :=
  done (doExec (advance dt s) rq 0x240016 profile fun s => opProfileDisarm s rq profile)

/-- ONLINE_WRITE's request (R424). -/
def opOnlineWrite (s : State) (rq : Req) (p task off size v : Nat) : Res :=
  pairedWrite s rq.sess rq.seq 0 (onlineCheck s p task off size) (.online p task off size v) fun s => onlinePend s task off size v s.now

/-- ONLINE_WRITE. -/
def execOnlineWrite (dt : Nat) (rq : Req) (p task offset size value : Nat) (s : State) : Host.Outcome State Fault Refusal :=
  done (doExec (advance dt s) rq 0x380030 p (fun s => opOnlineWrite s rq p task offset size value)
    [.n task, .n offset, .n size, .n value])

/-- A write of a force-table row (R417, R420). -/
def putForce (s : State) (n seq idx row : Nat) (v : Val) : Res :=
  pairedWrite s n seq idx (if forceOk s v then okS else rangeS) (.force row v) fun s => forceSet s row v

/-- FORCE_CLEAR_ALL's effect: at once here, and on the partner now or when the link returns (R420). -/
def opForceClearAll (s : State) : Res :=
  let s := forceClear s
  if pairOn s then
    (if mirrors s && s.pair.link then good (mirrorSend s 0 0 0 .clearForces)
     else
       let m : Mirrored := { id := s.pair.nextMirror, op := .clearForces }
       good { s with pair := { s.pair with nextMirror := m.id + 1, mirrors := s.pair.mirrors ++ [{ m with acked := true, row := 18446744073709551615 }] } })
  else good s

/-- FORCE_CLEAR_ALL. -/
def execForceClearAll (dt : Nat) (rq : Req) (s : State) : Host.Outcome State Fault Refusal :=
  done (doExec (advance dt s) rq 0x380042 0 opForceClearAll)

/-! ## The partner's side (R433) -/

/-- Does a value that MIRROR carries lie within its object's limits: no path stores one outside them (R486). -/
def valueFits (s : State) (k : Nat) (v : Val) : Bool :=
  let ob := k / 4294967296
  match descOf ob with
  | none => false
  | some d => d.pers == .s && inLims d v && rowLimit s ob (k / 65536 % 65536) v == okS

/-- The partner's judgement of a mirrored operation. -/
def mirrorCheck (s : State) (op : MirrorOp) : Nat :=
  match op with
  | .commit l =>
    if committing s then busyS
    else if l.any fun (k, v) => !valueFits s k v then rangeS
    else (match commitFail s l with
      | some (_, st) => st
      | none => okS)
  | .bundle _ => okS
  | .write a row v => (putBank s (obAddr a) a.sub row v).status
  | .seal b => sealCheck s b
  | .swap p row mode x => swapCheck s p row mode x
  | .disarm p => disarmCheck s p
  | .online p t o z _ => onlineCheck s p t o z
  | .force _ v => if forceOk s v then okS else rangeS
  | .clearForces => okS

/-- An operation both units have accepted, the partner at `t` by the counter, is to take effect: at the first row 2 ms or more later, or
at the first cycle boundary (DEDUCED, entry 30: MIRROR_ACK carries the instant, so both units find the same row). -/
def mirrorAgreed (s : State) (m : Mirrored) (t : Int) : State :=
  let row := ceilDiv ((t + 2000000).toNat * baseHz s) 1000000000
  let from_ := ((s.now : Int) + (t + 2000000 - tai s)).toNat
  match m.op with
  | .commit l => commitTake s l m.own row
  | .online _ t o z v => onlinePend s t o z v from_
  | .force r v => forceLater s r v from_
  | .clearForces => if m.own then s else forceClear s
  | _ => mirrorWait s m t

/-- MIRROR: the partner asks for an operation; this unit answers whether it accepts it, a bundle once its own vault has verified it
(R433, R477). -/
def execMirror (dt : Nat) (op : MirrorOp) (mid : Nat) (s : State) : Host.Outcome State Fault Refusal :=
  let s := advance dt s
  if !(hubLive s && mirrors s && s.pair.link) then done s
  else match op with
    | .bundle _ =>
      if !vaultRoom s 2 then done (sendIul s (.mirrorAck mid busyS (tai s)))
      else
        let m : Mirrored := { id := mid, op := op, own := false }
        done (vaultPush { s with pair := { s.pair with mirrors := s.pair.mirrors ++ [m] } } 2 (.verifyMirror mid))
    | _ =>
      let st := mirrorCheck s op
      let s := if st == okS then mirrorAgreed s { id := mid, op := op, own := false } (tai s) else s
      done (sendIul s (.mirrorAck mid st (tai s)))

/-- MIRROR_ACK: the partner's answer to an operation of this unit. A commit and a bundle answer at their row, every other operation now. -/
def execMirrorAck (dt mid status : Nat) (at_ : Int) (s : State) : Host.Outcome State Fault Refusal :=
  let s := advance dt s
  match s.pair.mirrors.find? fun m => m.own && !m.acked && m.id == mid with
  | none => done s
  | some m =>
    if status != okS then done (mirrorRefused s m status)
    else
      let s := { s with pair := { s.pair with mirrors := s.pair.mirrors.filter fun x => !(x.own && x.id == mid) } }
      let s := mirrorAgreed s m at_
      match m.op with
      | .commit .. => done s
      | .bundle .. => done s
      | .swap _ row _ _ => done (answerLate s m.sess m.seq m.idx ⟨okS, 5, 0, leN 8 row⟩)
      | _ => done (answerLate s m.sess m.seq m.idx ⟨okS, 0, 0, []⟩)

end Sys2Proof.Machine
end

