-- ==== Sys2Proof/Machine/Restart.lean ====
section
/-! DEFINITION. What a hub reset leaves and what a hub release brings up (R76, R77, R82, R93, R102, R107, R120, R453, R537), and the
Prefect's block (R98). -/

namespace Sys2Proof.Machine

/-! ## The Prefect's block and the life cycle -/

/-- Beacons stop, Bolpel stops, partition egress is blocked (R98). -/
def blockAll (s : State) : State :=
  bolStop { s with pf := { s.pf with blocked := true, beaconsOff := true, bolpelOff := true } }

/-- A life-cycle change from `old` is recorded (R95). -/
def lifeLog (s : State) (old : Nat) : State := if life s == old then s else logRec s 0x0128 0x80 (ints [old, life s])

/-! ## The logbook around a stop (R537) -/

/-- Every record offered is judged at once. -/
def logTake (s : State) : State :=
  logDrain s.logb.offered.length s

/-- Every record taken in reaches the mirror. -/
def logFlush (s : State) : State :=
  let s := logTake s
  if unitSt s 15 == .fault || (!unitOk s 22 && hubLive s) then s
  else { s.logb.intake.foldl mirrorPut s with logb := { (s.logb.intake.foldl mirrorPut s).logb with intake := [] } }

/-! ## Retained data (R99, R100, R421, R423) -/

/-- The retentive save: the copy not marked valid is written and takes the mark; without a committed cycle none takes place. -/
def retentSave (s : State) : State :=
  if s.ident.variant == 8 || !s.lg.committed then s
  else
    let n := if s.lg.mramValid == 1 then 2 else 1
    let kept := ((tabMap (shadowDone s) s.lg.retain).filter fun (_, r) => r.shadowOk).map fun (p, r) => (2 * p + (n - 1), r.shadow, r.layout)
    let others := s.lg.mram.filter fun (k, _) => k % 2 != n - 1
    { s with lg := { s.lg with mramValid := n, mram := kept.foldl (fun t (k, x) => tabPut t k x) others } }

/-- A partition's retained data after a hub reset; after a power loss TZM-2 and TZM-4 hold the valid MRAM copy. -/
def retainKept (s : State) (lost : Bool) (p : Nat) (r : Retain) : Retain :=
  let r := { shadowDone s p r with mode := none }
  if !lost || s.ident.variant == 8 then r
  else match (if s.lg.mramValid == 0 then none else tabGet s.lg.mram (2 * p + (s.lg.mramValid - 1))) with
    | some (d, l) => { r with shadow := d, layout := l, shadowOk := true }
    | none => { r with shadow := [], shadowOk := false }

/-- Guest memory after a hub reset: a power loss leaves only the logic areas that TZM-8 keeps in MRAM (R423). -/
def memKept (s : State) (lost : Bool) : List Host.Cell :=
  if !lost then s.mem
  else if s.ident.variant != 8 then []
  else s.mem.filter fun (k, _) =>
    let p := k / 18446744073709551616
    let a := k % 18446744073709551616
    lgF s p 0 != 0 && lgF s p 1 ≤ a && a < lgF s p 1 + lgF s p 2

/-! ## Hub reset -/

/-- The values the configuration store keeps: all but those of persistence V (R120). -/
def storeKept (s : State) : Tab Val :=
  s.store.filter fun (k, _) => match descOf (k / 4294967296) with
    | some d => d.pers != .v
    | none => true

/-- The counters that survive a hub reset: those of persistence K and F. -/
def ctrsKept (s : State) : Tab Ctr :=
  s.ctrs.filter fun (k, _) => match descOf (k / 4294967296) with
    | some d => d.pers == .k || d.pers == .f
    | none => true

/-- A partition after a hub reset: STOPPED when its configuration is kept; its stored image, minimum and fault count stay. -/
def partKept (s : State) (p : Nat) : Part :=
  let x := partOf s p
  { st := if s.fb 0x300010 p 0 then .stopped else .none
    stored := x.stored, digest := x.digest, svn := x.svn, svnMin := x.svnMin, faults := x.faults }

/-- The recorders after a hub reset: retained records and trend samples survive a restart, not a power loss (R562). -/
def recsKept (s : State) (lost : Bool) : Tab Recorder :=
  if lost then [] else tabMap (fun _ x => { recs := x.recs, nextNum := x.nextNum, trend := x.trend }) s.cap.recs

/-- The cages after a hub reset: a power loss unpowers them. -/
def cagesKept (s : State) (lost : Bool) : Tab Cage :=
  if lost then tabMap (fun _ c => { c with powered := false, onDue := none }) s.hw.cages else s.hw.cages

/-- The hub's units go to OFF. A power loss leaves no unit to record it. -/
def unitsOff (s : State) (lost : Bool) : State :=
  if lost then { s with boot := { s.boot with roll := s.boot.roll.filter fun (n, _) => n == 0 } }
  else (upto 30).foldl (fun s n => setUnit s (n + 1) .off) s

/-- The supply and inputs after a hub reset. -/
def hwKept (s : State) (lost : Bool) : Hw :=
  let h := { s.hw with lampEnd := none, cages := cagesKept s lost, hubDue := if lost then none else some s.now }
  if lost then { h with pf := false, rideDue := none, holdup := 0, osc := 0 } else h

/-- The start-up state after a hub reset: the hub waits for its release. -/
def bootKept (s : State) (lost : Bool) (cause : Nat) : Boot :=
  let b := s.boot
  { slots := b.slots, svnMin := b.svnMin, roll := b.roll, fuseProv := b.fuseProv, fuseComm := b.fuseComm, fuseDecom := b.fuseDecom
    qLatch := b.qLatch, cause := cause, resetCause := b.resetCause, fatalRestarts := b.fatalRestarts
    dumps := if lost then tabDel b.dumps 4 else b.dumps }

/-- The vault, which no hub reset touches: requests of the hub and the session's shadow register are gone. -/
def vaultKept (s : State) : Vault :=
  let v := s.vault
  { slots := v.slots, bundleSvn := v.bundleSvn, anchorsInUse := v.anchorsInUse, tamper := v.tamper, openEncl := v.openEncl
    openLoop := v.openLoop, sampleAt := v.sampleAt, recs := v.recs, recCount := v.recCount, service := v.service, gap := v.gap }

/-- The port of the vault locks out at a power loss (R528); the platform forgets its last discipline (50.0021). -/
def rtcKept (s : State) (lost : Bool) : Rtc :=
  let r := { s.rtc with lastDisc := none, discLeft := 0, engWrite := false }
  if lost && !r.lockout then { r with lockout := true, lockAt := s.now } else r

/-- The logbook over a hub reset: after a power loss only what the vault offered is still to be judged. -/
def logKept (s : State) (lost : Bool) : Logb :=
  if !lost then s.logb
  else
    let l := (s.logb.offered.zip s.logb.offerAt).filter fun (o, _) => o.src == 0x80
    { s.logb with offered := l.map Prod.fst, offerAt := l.map Prod.snd }

/-- The parts of a hub reset (a claim-counter write in progress completes, R503, R514) that hold the kept configuration and the vault; every
other part of the hub is as at reset. -/
def hubCleared (s : State) (lost : Bool) (cause : Nat) : State :=
  let parts := ((upto 64).filter fun p => s.fb 0x300010 p 0 || (tabGet s.parts.ps p).isSome).map fun p => (p, partKept s p)
  let claims := tabMap (fun _ (c : Claim) => ({ counter := if c.raising then c.raiseTo else c.counter } : Claim)) s.pair.claims
  let lg : Lg := { retain := tabMap (retainKept s lost) s.lg.retain, mram := s.lg.mram, mramValid := s.lg.mramValid,
                   forcePend := s.lg.forcePend }
  { pending := s.pending, now := s.now, freeCtr := s.freeCtr, ident := s.ident
    store := storeKept s, ctrs := ctrsKept s
    hw := hwKept s lost, boot := bootKept s lost cause
    jal := { lastCommitRow := s.jal.lastCommitRow }
    cond := { banks := s.cond.banks, profiles := s.cond.profiles }
    net := { ports := if lost then [] else tabMap (fun _ (x : Port) => ({ sfp := x.sfp, ddm := x.ddm, ddmAt := x.ddmAt } : Port)) s.net.ports }
    parts := { ps := parts }
    lg := lg
    pair := { claims := claims, nextMirror := s.pair.nextMirror, mirrors := clearsKept s.pair.mirrors }
    pf := { blocked := true, beaconsOff := true, bolpelOff := true, digest := s.pf.digest, bundle := s.pf.bundle }
    vault := vaultKept s, rtc := rtcKept s lost, logb := logKept s lost
    cap := { recs := recsKept s lost }
    mem := memKept s lost }

/-- The hub is reset; `lost` says that its supply went with it. The next start shows `cause` in RESET_CAUSE (01.0010). -/
def hubReset (s : State) (lost : Bool) (cause : Nat) : State :=
  hubCleared (unitsOff ((created s).foldl logicAbandon s) lost) lost cause

/-! ## Hub release (R36, R37, R76, R77, R79) -/

/-- A unit begins to start. -/
def unitBegin (s : State) (n : Nat) : State := setUnit s n .starting

/-- The ROM-resident gateway comes up with the ports and the logbook it serves through (R82, R93, R107; a halt after a hub reset brings
up what boot recovery does, entry 82). -/
def romGateway (s : State) (ph : Phase) : State :=
  let s := { s with boot := { s.boot with phase := ph, wdtBoot := none } }
  let us := if ph == .recovery || ph == .halt then [3, 4, 15] else if life s == 4 then [4, 15] else [2, 3, 4, 15]
  us.foldl unitBegin s

/-- Tamper records not yet copied, and an unsupervised gap, reach the logbook (R515). -/
def tamperCopy (s : State) : State :=
  let s := (s.vault.recs.filter fun r => !r.copied).foldl (fun s r =>
    logRec s 0x01E0 0x80 (ints [r.seq] ++ [r.utc] ++ ints [r.sources, r.moment, r.action, r.life, r.op])) s
  let s := if s.vault.gap then logRec s 0x01E8 0x80 [] else s
  { s with vault := { s.vault with gap := false, recs := s.vault.recs.map fun r => { r with copied := true } } }

/-- The slot that carries the active mark (01.0023). -/
def activeSlot (s : State) : Nat := if (tabGetD s.boot.slots 1 {}).active then 1 else 0

/-- Each partition's bucket is full at a hub start (R481). -/
def bucketsFull (s : State) : State :=
  (created s).foldl (fun s p => setPf s p { tokens := s.fn 0x440031 p 1 }) s

/-- The geographic address: 0xFF with a record on even parity over the six lines (R36). -/
def geoRead (s : State) (ga : Nat) (gap : Bool) : State :=
  let ones := b2n gap + sumN ((upto 5).map fun i => b2n (bit ga i))
  if ones % 2 == 0 then logRec { s with hw := { s.hw with geo := 0xFF } } 0x0110 0xFF (ints [ga, b2n gap])
  else { s with hw := { s.hw with geo := ga % 32 } }

/-- The LPDDR5 the capture engine takes: CAPTURE_AREA, as far as the partitions' regions leave it (R3, R551). -/
def areaFor (s : State) : Nat := min (s.vn 0x5C0001 0) ((dramTotal s - regionSum s 0 0) / 67108864 * 67108864)

/-- The kept values that take effect at the next hub start only. -/
def latchKept (s : State) : State :=
  let s := bucketsFull (anchorsStart s)
  { s with boot := { s.boot with wdtPeriod := s.vn 0x440100 0 }
           cap := { s.cap with area := areaFor s }
           pair := { s.pair with unitB := unitB s, rank := s.vn 0x400004 0 } }

/-- What every hub start brings, before firmware runs. -/
def hubUp (s : State) (ga : Nat) (gap selB : Bool) : State :=
  let b := s.boot
  let s := { s with hw := { s.hw with hubDue := none, strapB := selB }
                    rtc := { s.rtc with lockout := false }
                    boot := { b with phase := .rom, slotTry := activeSlot s, triedOther := false, resetCause := b.cause, cause := 0
                                     wdtBoot := some (s.now + 2000000000), wdt0 := {}, wdt1 := {}
                                     lapsed := false, partsUp := false } }
  let s := tamperCopy (rtcLogStart (logStart s))
  let s := geoRead (bump s 0x010011 0) ga gap
  let s := latchKept { s with pf := { digest := s.pf.digest, bundle := s.pf.bundle } }
  let s := { s with pair := { s.pair with selfAt := (upto 10).map fun n => (n, s.now) } }
  if life s ≥ 3 then romGateway s .gateway else s

/-- HUB_RELEASE: 20 ms after supply good, or at a restart, the hub leaves reset with its straps read. -/
def execHubRelease (dt ga : Nat) (gap selB : Bool) (s : State) : Host.Outcome State Fault Refusal :=
  let s := advance dt s
  if s.boot.phase == .reset && (s.hw.vinGood || s.hw.pf) && dueBy s s.hw.hubDue then done (hubUp s ga gap selB) else done s

end Sys2Proof.Machine
end

