-- ==== Sys2Proof/Machine/Tamper.lean ====
section
/-! DEFINITION. Tamper (R67, R68, R511 to R516): the sources, the response, the service window, and the life-cycle commands that leave
and enter states (R92 to R95). -/

namespace Sys2Proof.Machine

/-! ## Moments and records (R513, R515) -/

/-- Does the hub start up: from its release until the firmware's first watchdog service. -/
def startingUp (s : State) : Bool :=
  s.boot.phase == .rom || s.boot.phase == .verify || s.boot.phase == .recovery || (s.boot.phase == .run && s.boot.wdtBoot.isSome)

/-- Does the hub hold no supply: neither VIN nor the hold-up store. -/
def asleep (s : State) : Bool := s.boot.phase == .reset && !s.hw.vinGood && !s.hw.pf

/-- The operations in the working key register and the suspend buffer. -/
def keyOps (s : State) : List VReq := s.vault.work.toList ++ s.vault.suspended

/-- MOMENT of a tamper record. -/
def tamperMoment (s : State) : Nat :=
  if life s == 0 then 4
  else if life s == 3 then 5
  else if !(keyOps s).isEmpty then 3
  else if asleep s then 2
  else if startingUp s then 0 else 1

/-- A vault operation's kind. -/
def VOp.kind : VOp → Nat
  | .handoverSign _ => 1 | .handoverVerify .. => 2 | .derive _ => 3 | .mac .. => 4 | .verifyImage .. => 5 | .verifyBundle .. => 6 | .verifyMirror _ => 6
  | .keyWrite .. => 7 | .handshake _ => 8 | .migAgree _ => 9 | .attest .. => 10

/-- OP of a tamper record: class and kind of the aborted operation. -/
def opCode (s : State) : Nat :=
  match keyOps s with
  | r :: _ => r.cls * 256 + r.op.kind
  | [] => 0xFFFF

/-- A tamper record is written; the oldest of 32 gives way. -/
def tamperWrite (s : State) (sources moment action op : Nat) : State :=
  let v := s.vault
  let r : TamperRec := ⟨v.recCount + 1, calSecs s.rtc.cal, sources, moment, action, life s, op, false⟩
  { s with vault := { v with recs := lastN (v.recs ++ [r]) 32, recCount := v.recCount + 1 } }

/-! ## Response (R513, R514) -/

/-- The key registers are cleared in their order: the working key register and the suspend buffer, the shadow register, the traffic
keys with the migration key; what ran in the first is aborted. -/
def keysClear (s : State) : State :=
  let ops := keyOps s
  let s := { s with vault := { s.vault with work := none, suspended := [], shadow := none, tkeys := [], migKey := none, migDraw := none, migPeer := none } }
  vaultKick (ops.foldl (fun s r => opAbort s r.op tamperAbort) s)

/-- The quarantine latch is set, with the hub's part by the moment of detection: asleep nothing more; at start-up the firmware does not
run on and the gateway comes up; running, the Prefect acts as on a lapse and the hub restarts without a dump. RESET_CAUSE has no code
for a tamper restart: it is free. -/
def quarantine (s : State) : State :=
  let old := life s
  let latch (s : State) : State := lifeLog { s with boot := { s.boot with qLatch := true } } old
  if s.boot.phase == .reset then latch s
  else if startingUp s then
    let c := s.boot.resetCause
    let s := hubReset (latch s) false c
    let s := { s with hw := { s.hw with hubDue := none } }
    romGateway (setUnit s 18 .ready) .gateway
  else
    let (c, s) := fresh s
    hubReset (latch (blockAll s)) false (c % 5)

/-- May a source's activity be acted on: sensing is off in DECOMMISSIONED, and sources 0 and 1 may be disabled. -/
def sourceOn (s : State) (src : Nat) : Bool := life s != 4 && (src ≥ 2 || s.vb 0x4C0002 src)

/-- A tamper event of source src. -/
def tamperEvent (s : State) (src : Nat) : State :=
  if !sourceOn s src then s
  else if src < 2 && s.vault.service.isSome then tamperWrite s (2 ^ src) (tamperMoment s) 0 0xFFFF
  else
    let m := tamperMoment s
    let o := opCode s
    let act := if life s == 1 || life s == 2 then 2 else 1
    let s := tamperWrite s (2 ^ src) m act o
    let s := keysClear s
    if act == 2 then quarantine s else s

/-! ## Sources (R67, R68, R511) -/

/-- Does the vault sense: at or above 1.7 V. After a VBAK gap without VIN sensing resumes as VIN returns (DESIGN CHOICE, entry 96: R51 gives
no instant). -/
def senses (s : State) : Bool := life s != 4 && (s.hw.vinGood || s.hw.pf || !s.vault.gap)

/-- A source's condition as TAMPER_ACTIVE shows it. -/
def setActive (s : State) (src : Nat) (on : Bool) : State :=
  let t := s.vault.tamper
  let u := if bit t src == on then t else if on then t + 2 ^ src else t - 2 ^ src
  { s with vault := { s.vault with tamper := u } }

/-- A sensing sample of a line: two consecutive open samples are an event. -/
def lineSample (s : State) (src n : Nat) (opened : Bool) : State :=
  if !opened then setActive s src false
  else if n < 2 then s
  else if bit s.vault.tamper src then s
  else tamperEvent (setActive s src true) src

/-- When the condition of an internal source ends is not reported: at a sample, a free value says which of those active have ended; the
clock's lasts at least while the crystal stands still. -/
def internalEnd (s : State) : State :=
  if s.vault.tamper < 4 then s
  else
    let (v, s) := fresh s
    [2, 3, 4, 5].foldl (fun s src => if bit v src && !(src == 3 && !s.rtc.oscRun) then setActive s src false else s) s

/-- TAMPER_SAMPLE: every 125 ms (R67); a module out of its rack has its loop open (R35). -/
def execTamperSample (dt : Nat) (enclOpen loopOpen : Bool) (s : State) : Host.Outcome State Fault Refusal :=
  let s := advance dt s
  let lo := loopOpen || !s.hw.seated
  if s.now < s.vault.sampleAt then done s else
  let s := { s with hw := { s.hw with enclOpen := enclOpen, loopOpen := lo } }
  if !senses s then done s
  else
    let ne := if enclOpen then min (s.vault.openEncl + 1) 2 else 0
    let nl := if lo then min (s.vault.openLoop + 1) 2 else 0
    let s := { s with vault := { s.vault with openEncl := ne, openLoop := nl, sampleAt := s.now + 125000000 } }
    done (lineSample (lineSample (internalEnd s) 0 ne enclOpen) 1 nl lo)

/-- TAMPER_SENSOR_EVENT: the glitch monitor, the clock monitor, the temperature window or the mesh detects its condition. -/
def execTamperSensorEvent (dt source : Nat) (s : State) : Host.Outcome State Fault Refusal :=
  let s := advance dt s
  if !senses s || source < 2 || source > 5 then done s else done (tamperEvent (setActive s source true) source)

/-- VAULT_SUPPLY_LOW: below 1.7 V with VIN absent the crystal and tamper sensing stop; below 1.2 V the RTC's fields are lost (R51, R526). -/
def execVaultSupplyLow (dt : Nat) (below12 : Bool) (s : State) : Host.Outcome State Fault Refusal :=
  let s := advance dt s
  if s.hw.vinGood || s.hw.pf then done s
  else
    let s := oscStop { s with vault := { s.vault with gap := true } }
    done (if below12 then rtcLost s else s)

/-- RTC_OSC_STOP: the crystal stops; with the supply at or above 1.7 V this is the CLOCK source (R511, R526). -/
def execRtcOscStop (dt : Nat) (s : State) : Host.Outcome State Fault Refusal :=
  let s := advance dt s
  if !s.rtc.oscRun then done s
  else
    let s := oscStop s
    done (if senses s then tamperEvent (setActive s 3 true) 3 else s)

/-- A write of TAMPER_ENABLE. A source that is enabled anew counts its open samples anew. -/
def putTamperEnable (s : State) (k : Nat) (v : Val) : Res :=
  if !vB v 0 || s.vb 0x4C0002 k then good (s.put 0x4C0002 k 0 v)
  else
    let t := setActive (s.put 0x4C0002 k 0 v) k false
    good { t with vault := if k == 0 then { t.vault with openEncl := 0 } else { t.vault with openLoop := 0 } }

/-! ## Service window (R512) -/

/-- A service window ends: the lines count their open samples anew. -/
def serviceEnd (s : State) : State :=
  let v := s.vault
  let t := v.tamper / 4 * 4
  logRec { s with vault := { v with service := none, openEncl := 0, openLoop := 0, tamper := t } } 0x01E7 0x80 (ints [0])

/-- SERVICE_WINDOW's effect. -/
def opServiceWindow (s : State) (secs : Nat) : Res :=
  if secs == 0 then good (if s.vault.service.isSome then serviceEnd s else s)
  else if secs < 60 || secs > 3600 then deny s rangeS
  else good (logRec { s with vault := { s.vault with service := some secs } } 0x01E7 0x80 (ints [1, secs]))

/-- SERVICE_WINDOW. -/
def execServiceWindow (dt : Nat) (rq : Req) (secs : Nat) (s : State) : Host.Outcome State Fault Refusal :=
  done (doExec (advance dt s) rq 0x4C0003 0 (fun s => opServiceWindow s secs) [.n secs])

/-- SERVICE_WINDOW_EXPIRY: the RTC has counted the window's seconds. -/
def execServiceWindowExpiry (dt : Nat) (s : State) : Host.Outcome State Fault Refusal :=
  let s := advance dt s
  if s.vault.service == some 0 then done (serviceEnd s) else done s

/-! ## Life-cycle commands (R92 to R95, R516) -/

/-- COMMISSION's effect: from PROVISIONED, with the owner anchors installed (R493). -/
def opCommission (s : State) : Res :=
  if life s != 1 || !anchorSet s then deny s stateS
  else good (lifeLog (anchorsStart { s with boot := { s.boot with fuseComm := true } }) 1)

/-- COMMISSION. -/
def execCommission (dt : Nat) (rq : Req) (s : State) : Host.Outcome State Fault Refusal :=
  done (doExec (advance dt s) rq 0x010003 0 opCommission)

/-- QUARANTINE_ENTER's effect: egress ends, the latch is set, and the hub restarts into the gateway. -/
def opQuarantineEnter (s : State) : Res :=
  if life s != 2 then deny s stateS
  else
    let s := blockAll s
    good (hubReset (lifeLog { s with boot := { s.boot with qLatch := true } } 2) false 3)

/-- QUARANTINE_ENTER. -/
def execQuarantineEnter (dt : Nat) (rq : Req) (s : State) : Host.Outcome State Fault Refusal :=
  done (doExec (advance dt s) rq 0x010004 0 opQuarantineEnter)

/-- The active sources that are not disabled. -/
def activeOn (s : State) : Nat := sumN (((upto 6).filter fun k => bit s.vault.tamper k && s.vb 0x4C0002 k).map fun k => 2 ^ k)

/-- QUARANTINE_LEAVE's effect: refused with a record while such a source is active. -/
def opQuarantineLeave (s : State) : Res :=
  if life s != 3 then deny s stateS
  else if activeOn s != 0 then deny (logRec s 0x01E6 0x80 (ints [activeOn s])) stateS
  else good (hubReset (lifeLog { s with boot := { s.boot with qLatch := false } } 3) false 3)

/-- QUARANTINE_LEAVE. -/
def execQuarantineLeave (dt : Nat) (rq : Req) (s : State) : Host.Outcome State Fault Refusal :=
  done (doExec (advance dt s) rq 0x010005 0 opQuarantineLeave)

/-- DECOMMISSION's effect: irreversible; every key slot and owner anchor is erased, sensing is off. -/
def opDecommission (s : State) (serial : List Byte) : Res :=
  let old := life s
  if !(old == 1 || old == 2 || old == 3) || trimZ serial != trimZ s.ident.serial then deny s stateS
  else
    let s := blockAll s
    let slots := tabMap (fun _ (x : KeySlot) => { x with st := 0, key := [], kcv := 0 }) s.vault.slots
    let s := { s with boot := { s.boot with fuseDecom := true }
                      store := s.store.filter fun (k, _) => k / 4294967296 != 0x480030 || k / 65536 % 65536 == 0
                      vault := { s.vault with slots := slots, tamper := 0, openEncl := 0, openLoop := 0, service := none } }
    good (hubReset (lifeLog s old) false 3)

/-- DECOMMISSION. -/
def execDecommission (dt : Nat) (rq : Req) (serial : List Byte) (s : State) : Host.Outcome State Fault Refusal :=
  done (doExec (advance dt s) rq 0x010006 0 (fun s => opDecommission s serial) [.o serial])

end Sys2Proof.Machine
end

