-- ==== Sys2Proof/Machine/Boot.lean ====
section
/-! DEFINITION. Start-up (R76 to R85), the watchdog (R96 to R98), fatal errors and the dump (R102 to R108), platform firmware images (R83). -/

namespace Sys2Proof.Machine

/-! ## Firmware start (R78 to R82) -/

/-- FIRMWARE_IMAGE_READ: the boot ROM has read and hashed the slot; the vault verifies it. -/
def execFirmwareImageRead (dt : Nat) (s : State) : Host.Outcome State Fault Refusal :=
  let s := advance dt s
  if s.boot.phase == .rom then done { s with boot := { s.boot with phase := .verify } } else done s

/-- A firmware slot set. -/
def setFw (s : State) (k : Nat) (x : FwSlot) : State := { s with boot := { s.boot with slots := tabPut s.boot.slots k x } }

/-- The units the platform firmware starts: not the vault, the Prefect, the oscillator and the gated dies; the inter-unit link with
pairing enabled. -/
def fwUnits (s : State) : List Nat :=
  (upto 24).filter fun n => n != 0 && n != 18 && (n != 5 || pairOn s)

/-- The reference oscillator's roll-call state while the firmware runs (R54, R86). -/
def oscUnit (s : State) : USt := if s.hw.osc == 0 then .starting else if s.hw.osc == 1 then .ready else .fault

/-- The keys of the kept values of the configuration and of the objects the module itself keeps: counters, the last commit row, the states
of banks and profiles. -/
def keptKeys (s : State) : List Nat :=
  s.store.map Prod.fst ++ s.ctrs.map Prod.fst ++ (if s.jal.lastCommitRow == 0 then [] else [okey 0x020024 0 0]) ++
    s.cond.banks.map (fun (b, _) => okey 0x240013 b 0) ++
    s.cond.profiles.flatMap fun (p, _) => [okey 0x240017 p 0, okey 0x240018 p 0, okey 0x240019 p 0]

/-- A kept value given up for its Default. -/
def keptDrop (s : State) (k : Nat) : State :=
  let ob := k / 4294967296
  let sub := k / 65536 % 65536
  let prof (f : Profile → Profile) : State := { s with cond := { s.cond with profiles := tabPut s.cond.profiles sub (f (tabGetD s.cond.profiles sub {})) } }
  match ob with
  | 0x020024 => { s with jal := { s.jal with lastCommitRow := 0 } }
  | 0x240013 => { s with cond := { s.cond with banks := tabDel s.cond.banks sub } }
  | 0x240017 => prof fun x => { x with st := 0, fade := false }
  | 0x240018 => prof fun x => { x with active := 0 }
  | 0x240019 => prof fun x => { x with swapRow := 0 }
  | _ => { s with store := tabDel s.store k, ctrs := tabDel s.ctrs k }

/-- The firmware checks every kept value as it starts: one whose integrity check fails gives way to its Default, with a record of the
object's address (R123; which fail is free: entry 92); a value that was latched as the hub started is latched anew. -/
def keptCheck (s : State) : State :=
  let bad := (keptKeys s).filter (Config.keptBad (s.ctr 0x010011 0))
  let s := bad.foldl (fun s k => logRec (keptDrop s k) 0x0135 65 (ints [k / 4294967296, k / 65536 % 65536])) s
  if bad.isEmpty then s else latchKept s

/-- The accepted firmware starts from the slot tried (R80, R81): its kept values are checked, every unit begins to start, the Prefect works,
the traffic keys are derived. -/
def fwRun (s : State) (o : SignedObj) : State :=
  let k := s.boot.slotTry
  let s := if s.boot.triedOther then logRec s 0x0122 0xFF (ints [k]) else s
  let s := setFw s k { fwOf s k with st := 1, svn := o.svn, digest := o.digest }
  let s := { s with boot := { s.boot with phase := .run, runSvn := o.svn, bootSlot := k, runFcl := o.fcl, runFclMin := o.fclMin } }
  let s := keptCheck s
  let s := setUnit (setUnit s 18 .ready) 30 (oscUnit s)
  let s := deriveAll ((fwUnits s).foldl unitBegin s)
  let due := if forcesAll s == 0 then none else some (s.now + 60000000000)
  let s := { s with lg := { s.lg with forceDue := due } }
  logicTasksCommit { s with store := [] } s

/-- The test a slot's image fails, 0 when it is accepted (R80): a check of R495, or 8 in MANUFACTURE for an image that is not a factory
image (R93; what marks one is open, entry 83). -/
def fwFail (s : State) (o : SignedObj) : Nat :=
  let c := signedFail s 1 s.boot.svnMin o
  if c == 0 && life s == 0 && !Config.factoryImage o.digest then 8 else c

/-- FIRMWARE_VERIFIED: the slot runs, or the other slot is tried, or boot recovery begins (R80 to R82). -/
def execFirmwareVerified (dt : Nat) (obj : SignedObj) (s : State) : Host.Outcome State Fault Refusal :=
  let s := advance dt s
  if s.boot.phase != .verify then done s
  else
    let c := fwFail s obj
    if c == 0 then done (fwRun s obj)
    else
      let s := logRec s 0x0121 0xFF (ints [s.boot.slotTry, c])
      if s.boot.triedOther then done (romGateway s .recovery)
      else done { s with boot := { s.boot with phase := .rom, slotTry := 1 - s.boot.slotTry, triedOther := true } }

/-- The time unit starts: the counter is loaded from the RTC (R206). -/
def timeStart (s : State) : State :=
  let t := (rtcTai s).toNat
  let s := { s with tm := { s.tm with run := true, sec := t / 1000000000, ns := t % 1000000000, frac := 0 } }
  planEmpty (ptpRestart s) false

/-- What a unit does as it becomes READY. -/
def unitAction (s : State) (n : Nat) : State :=
  match n with
  | 5 => laneTrain (laneTrain s 0) 1
  | 6 => timeStart s
  | 8 => planEmpty s false
  | 9 => { s with cond := { s.cond with restart := true } }
  | 10 => gooseBegin s
  | 11 => { s with pub := { s.pub with os := [] } }
  | 16 => (recorders s).foldl recArm s
  | 22 => judgeLog s
  | _ => s

/-- The state a unit reports when its start is complete (R79, R174, R295, R476, R545). -/
def startState (s : State) (n : Nat) : USt :=
  if n == 2 || n == 3 || n == 4 then
    let ps := (unitPorts n).filter fun k => adminOn s k
    if ps.isEmpty then .off else if ps.any fun k => linkState s k != 2 then .degraded else .ready
  else if n == 5 then (if !pairOn s then .off else if (laneOf s 0).st == 3 && (laneOf s 1).st == 3 then .ready else .degraded)
  else if n == 9 then (match s.cond.failed.length with | 0 => .ready | 1 => .degraded | _ => .fault)
  else if (match n with
    | 0 => vaultBad s
    | 7 => ingestBad s
    | 10 => gooseBad s
    | 11 => osBad s
    | 15 => mirrorDown s
    | 19 => bolBad s
    | _ => false) then .degraded
  else .ready

/-- Inserts a partition by START_ORDER; among equal ones the lower number comes first (DESIGN CHOICE, entry 84). -/
def orderPut (s : State) (p : Nat) : List Nat → List Nat
  | [] => [p]
  | q :: r => if s.vn 0x300014 p < s.vn 0x300014 q then p :: q :: r else q :: orderPut s p r

/-- The kept partitions start in ascending START_ORDER once what holds and runs them is up (R84); none in MANUFACTURE (R93). -/
def partsStart (s : State) : State :=
  if s.boot.partsUp || life s == 0 || !([1, 12, 21, 23].all fun n => unitOk s n) || !running s then s
  else
    let s := { s with boot := { s.boot with partsUp := true } }
    let ps := (created s).filter fun p => s.vb 0x300015 p && (partOf s p).st == .stopped && !(workCores s p).isEmpty
    (ps.foldl (fun l p => orderPut s p l) []).foldl startPart s

/-- Does the hub run something a fatal error can stop. -/
def hubUpNow (s : State) : Bool :=
  match s.boot.phase with
  | .reset => false
  | .halt => false
  | .dump => false
  | _ => true

/-- Does a unit's start wait: the ingest, the GOOSE engine and the republisher report READY only once the traffic keys are derived (R505). -/
def keysWait (s : State) (sub : Nat) : Bool :=
  (sub == 7 || sub == 10 || sub == 11) && (upto 32).any fun i => s.fb 0x480020 i 0 && tkState s i == 3

/-- UNIT_START_COMPLETE. -/
def execUnitStartComplete (dt sub : Nat) (s : State) : Host.Outcome State Fault Refusal :=
  let s := advance dt s
  let live := hubUpNow s || s.boot.phase == .halt
  if unitSt s sub != .starting || !live || sub > 23 || keysWait s sub then done s
  else done (partsStart (unitAction (setUnit s sub (startState s sub)) sub))

/-! ## Supply (R45 to R49, R54, R76) -/

/-- The supply is good: the hold-up store charges, the oscillator warms up, the cages are powered 50 ms later (IU0 and IU1 with option
P, R40), the hub is released 20 ms later. -/
def supplyUp (s : State) : State :=
  let cages := tabMap (fun n (c : Cage) => if cageFits s n && c.present && !c.tripped && !c.powered then { c with onDue := some (s.now + 50000000) } else c)
    s.hw.cages
  let s := { s with hw := { s.hw with hubDue := some (s.now + 20000000), holdup := 0, osc := 0, cages := cages } }
  if unitSt s 0 == .off then setUnit s 0 .ready else s

/-- SUPPLY_GOOD: VIN rises above the supply-good threshold (R76). -/
def execSupplyGood (dt : Nat) (s : State) : Host.Outcome State Fault Refusal :=
  let s := advance dt s
  if s.hw.vinGood then done s
  else
    let s := { s with hw := { s.hw with vinGood := true } }
    done (if s.boot.phase == .reset && !s.hw.pf then supplyUp s else s)

/-- HOLDUP_READY: the store is charged. -/
def execHoldupReady (dt : Nat) (s : State) : Host.Outcome State Fault Refusal :=
  let s := advance dt s
  if s.hw.vinGood && s.hw.holdup == 0 then done { s with hw := { s.hw with holdup := 1 } } else done s

/-- OSC_READY: the reference is ready. -/
def execOscReady (dt : Nat) (s : State) : Host.Outcome State Fault Refusal :=
  let s := advance dt s
  if s.hw.osc == 0 && (s.hw.vinGood || s.hw.pf) then
    let s := { s with hw := { s.hw with osc := 1 } }
    done (if running s then setUnit s 30 .ready else s)
  else done s

/-- The hub's supply is gone: it is reset and comes up again at the next supply good. -/
def hubDown (s : State) : State :=
  let s := hubReset s true 1
  if s.hw.vinGood then supplyUp s else s

/-- VIN is lost while the store charges: the hub, in reset or not, is without power at once (R49, R76, R106). A first power-up broken
off stays one. -/
def vinLost (s : State) : State :=
  hubReset { s with hw := { s.hw with vinGood := false, pfSeq := none } } true (if s.boot.phase == .reset && s.boot.cause == 0 then 0 else 1)

/-- PF_ASSERT: VIN has been below the threshold for 100 µs, or above the overvoltage threshold for 10 µs; the module runs on from the
hold-up store (R46). -/
def execPfAssert (dt : Nat) (overV : Bool) (s : State) : Host.Outcome State Fault Refusal :=
  let s := advance dt s
  if s.hw.pf || !s.hw.vinGood then done s
  else if s.hw.holdup != 1 then done (vinLost s)
  else
    let s := { s with hw := { s.hw with vinGood := false, pf := true, pfAt := s.now - (if overV then 10000 else 100000), holdup := 2, rideDue := some (s.now + 20000000) } }
    done (logRec (bump s 0x600103 0) 0x0111 64 [])

/-- PF_CLEAR: VIN has been good for 1 ms before the ride-through timer expired (R47); the interruption ran from the crossing to VIN's
return (DEDUCED, entry 34). HOLDUP_STATE reads READY at once: what recharging the store takes after a ride-through is open (DESIGN
CHOICE, entry 85). -/
def execPfClear (dt : Nat) (s : State) : Host.Outcome State Fault Refusal :=
  let s := advance dt s
  if !s.hw.pf || dueBy s s.hw.rideDue then done s
  else
    let d := s.now - 1000000 - s.hw.pfAt
    done (logRec { s with hw := { s.hw with vinGood := true, pf := false, rideDue := none, holdup := 1 } } 0x0112 64 (ints [d]))

/-- The power-fail sequence: outputs made safe, the retentive area saved, the logbook flushed, the hub held in reset (R48, R99, R100).
Its effects come at its start; for its 5 ms a fatal error still finds it under way (R101). -/
def powerFail (s : State) : State :=
  let t := s.now + 5000000
  let s := hubDown (logFlush (retentSave (logRec (blockAll s) 0x0127 64 [])))
  { s with hw := { s.hw with pfSeq := some t } }

/-- RIDE_THROUGH_EXPIRY: 20 ms after PF the sequence starts and runs to its end even if VIN returns (R48). -/
def execRideThroughExpiry (dt : Nat) (s : State) : Host.Outcome State Fault Refusal :=
  let s := advance dt s
  if s.hw.pf && dueBy s s.hw.rideDue then done (powerFail s) else done s

/-- VIN_LOSS_CHARGING: VIN is lost while the store charges: the hub resets at once (R49). -/
def execVinLossCharging (dt : Nat) (s : State) : Host.Outcome State Fault Refusal :=
  let s := advance dt s
  if s.hw.vinGood && s.hw.holdup == 0 then done (vinLost s) else done s

/-- MODULE_INSERT: the module is seated with VIN applied (R35). -/
def execModuleInsert (dt : Nat) (s : State) : Host.Outcome State Fault Refusal :=
  let s := advance dt s
  if s.hw.seated then done s else done { s with hw := { s.hw with seated := true, loopOpen := false } }

/-- MODULE_REMOVE: the loop TL_A to TL_B opens before any other contact breaks (R35). -/
def execModuleRemove (dt : Nat) (s : State) : Host.Outcome State Fault Refusal :=
  let s := advance dt s
  done { s with hw := { s.hw with seated := false, loopOpen := true } }

/-! ## Fatal errors (R102 to R108) -/

/-- A dump slot set. -/
def setDump (s : State) (k : Nat) (x : Dump) : State := { s with boot := { s.boot with dumps := tabPut s.boot.dumps k x } }

/-- The slot the writer chooses: EMPTY or INCOMPLETE, lowest first, else the VALID slot with the oldest dump (R105). -/
def dumpSlot (s : State) : Option Nat :=
  match (upto 4).find? fun k => (dumpOf s k).st == 0 || (dumpOf s k).st == 3 with
  | some k => some k
  | none => ((upto 4).filter fun k => (dumpOf s k).st == 1).foldl (fun (b : Option Nat) k => match b with
    | none => some k
    | some j => if (dumpOf s k).time < (dumpOf s j).time then some k else some j) none

/-- The dump's header; the sections whose sizes the manual does not give make its length free within the region of R18. -/
def dumpHead (s : State) (cause : Nat) : Dump × State :=
  let (v, s) := fresh s
  ({ st := 3, cause := cause, writer := if cause == 1 then 1 else 0, time := tai s, quality := s.tm.quality, lifecycle := life s
     svn := s.boot.runSvn, boots := s.ctr 0x010011 0, length := 41072 + v % 67067793 }, s)

/-- Every hub unit is frozen: sessions, queues and work in progress are gone; the time counter runs on (R102 step 2). -/
def hubFreeze (s : State) : State :=
  let ports := tabMap (fun _ (x : Port) => { x with q := [], lq := [], wire := none }) s.net.ports
  { s with jal := { lastCommitRow := s.jal.lastCommitRow }, tt := {}, ph := {}
           net := { s.net with ports := ports, jobs := [] }
           plan := { s.plan with rows := [] }, pub := {}, parts := { s.parts with reading := [], verifying := [] }
           pair := { s.pair with eq := [], mirrors := [], lanes := [], link := false } }

/-- A halt after a hub reset: the hub is not released; the ROM-resident gateway serves (R104, R107). -/
def resetHalt (s : State) : State :=
  let s := hubReset s false 2
  romGateway { s with hw := { s.hw with hubDue := none } } .halt

/-- After the dump the hub restarts from its release, or halts under FATAL_RESTART or after the third fatal restart within 1 h (R107);
`rst` says that the hub is reset first (R104). -/
def fatalEnd (s : State) (rst : Bool) : State :=
  let recent := s.boot.fatalRestarts.filter fun t => s.now < t + 3600000000000
  let s := { s with boot := { s.boot with dumpNow := none } }
  if s.vn 0x010015 0 == 1 || recent.length ≥ 3 then
    let s := { s with boot := { s.boot with fatalRestarts := recent } }
    if rst then resetHalt s else { s with boot := { s.boot with phase := .halt } }
  else hubReset { s with boot := { s.boot with fatalRestarts := recent ++ [s.now] } } false 2

/-- A fatal error: outputs safe, cause latched, units frozen, the dump begins (R102). One during the power-fail sequence writes its
cause to the logbook mirror only (R101); a second one ends the dump and resets the hub (R104). Either becomes FATAL_CAUSE_LAST, as the
most recent one; the second of R104 writes no 0x0123 (DESIGN CHOICE, entry 82). -/
def fatalRaise (s : State) (cause : Nat) : State :=
  if pfRuns s then logFlush (logRec (s.put 0x700020 0 0 [.n cause]) 0x0123 64 (ints [cause]))
  else if s.boot.phase == .dump then
    let s := s.put 0x700020 0 0 [.n cause]
    let s := match s.boot.dumpNow with
      | some k => setDump s k { dumpOf s k with st := 3 }
      | none => s
    fatalEnd (setDump s 4 { dumpOf s 4 with st := 3 }) true
  else if !hubUpNow s then s
  else
    let s := blockAll (s.put 0x700020 0 0 [.n cause])
    let s := logTake (logRec s 0x0123 64 (ints [cause]))
    let (h, s) := dumpHead s cause
    let k := dumpSlot s
    let s := (created s).foldl logicAbandon s
    let s := hubFreeze (setDump s 4 h)
    let s := { s with boot := { s.boot with phase := .dump, dumpNow := k } }
    match k with
    | some k => setDump s k { h with length := 0 }
    | none => s

/-- FATAL_ERROR (R102). -/
def execFatalError (dt cause : Nat) (s : State) : Host.Outcome State Fault Refusal :=
  let s := advance dt s
  if 1 ≤ cause && cause ≤ 7 then done (fatalRaise s cause) else done s

/-- CC_LOCKSTEP_MISMATCH in CC0/CC1 or CC2/CC3 (R13). -/
def execCcLockstepMismatch (dt pair : Nat) (s : State) : Host.Outcome State Fault Refusal :=
  let s := advance dt s
  if pair < 2 then done (fatalRaise s (pair + 1)) else done s

/-- DUMP_WRITE_DONE: the dump is complete in DRAM and copied to its slot, whose state is written last; the hub restarts or halts. -/
def execDumpWriteDone (dt : Nat) (s : State) : Host.Outcome State Fault Refusal :=
  let s := advance dt s
  if s.boot.phase != .dump then done s
  else
    let h := { dumpOf s 4 with st := 1 }
    let s := setDump s 4 h
    match s.boot.dumpNow with
    | some k => done (fatalEnd (logTake (logRec (setDump s k h) 0x0124 0x97 (ints [k, h.cause]))) false)
    | none => done (fatalEnd (logTake (logRec s 0x0125 0x97 (ints [h.cause]))) false)

/-- DUMP_PROTECT's effect: VALID to PROTECTED. -/
def opDumpProtect (s : State) (k : Nat) : Res :=
  if (dumpOf s k).st != 1 then deny s stateS else good (setDump s k { dumpOf s k with st := 2 })

/-- DUMP_PROTECT. -/
def execDumpProtect (dt : Nat) (rq : Req) (slot : Nat) (s : State) : Host.Outcome State Fault Refusal :=
  done (doExec (advance dt s) rq 0x700015 slot fun s => opDumpProtect s slot)

/-- DUMP_RELEASE's effect: any state to EMPTY. -/
def opDumpRelease (s : State) (k : Nat) : Res := good { s with boot := { s.boot with dumps := tabDel s.boot.dumps k } }

/-- DUMP_RELEASE. -/
def execDumpRelease (dt : Nat) (rq : Req) (slot : Nat) (s : State) : Host.Outcome State Fault Refusal :=
  done (doExec (advance dt s) rq 0x700016 slot fun s => opDumpRelease s slot)

/-- RESTART's effect: the hub restarts from its release; a halt is left (R107). -/
def opRestart (s : State) : Res := good (hubReset s false 3)

/-- RESTART. -/
def execRestart (dt : Nat) (rq : Req) (s : State) : Host.Outcome State Fault Refusal :=
  done (doExec (advance dt s) rq 0x010014 0 opRestart)

/-! ## Watchdog (R77, R96 to R98) -/

/-- The watchdog lapses: the Prefect acts in the same cycle and the fatal error follows. -/
def wdtLapse (s : State) : State :=
  let s := blockAll { s with boot := { s.boot with lapsed := true } }
  fatalRaise (logRec (bump s 0x440101 0) 0x0126 (0x80 + 18) []) 3

/-- A pair's watchdog service. -/
def wdtOf (s : State) (k : Nat) : WdtPair := if k == 0 then s.boot.wdt0 else s.boot.wdt1

/-- A pair's watchdog service set. -/
def setWdt (s : State) (k : Nat) (x : WdtPair) : State :=
  { s with boot := if k == 0 then { s.boot with wdt0 := x } else { s.boot with wdt1 := x } }

/-- The end of a pair's running period; the boot timeout's before the first service. -/
def wdtEnd (s : State) (k : Nat) : Nat :=
  match s.boot.wdtBoot with
  | some t => t
  | none => (wdtOf s k).last.getD s.boot.wdtFrom + s.boot.wdtPeriod

/-- WDT_SERVICE: the first ends the boot timeout; one within the first quarter of its period lapses. -/
def execWdtService (dt pair : Nat) (s : State) : Host.Outcome State Fault Refusal :=
  let s := advance dt s
  if pair > 1 || !running s then done s
  else
    let early := match (wdtOf s pair).last with
      | some t => decide (4 * (s.now - t) < s.boot.wdtPeriod)
      | none => false
    if early || wdtEnd s pair < s.now then done (wdtLapse s)
    else
      let s := if s.boot.wdtBoot.isSome then { s with boot := { s.boot with wdtBoot := none, wdtFrom := s.now } } else s
      done (setWdt s pair { last := some s.now })

/-- WDT_LAPSE: a pair's period, or the boot timeout, has run out. -/
def execWdtLapse (dt : Nat) (s : State) : Host.Outcome State Fault Refusal :=
  let s := advance dt s
  let armed := running s || s.boot.wdtBoot.isSome
  if armed && hubUpNow s && (wdtEnd s 0 ≤ s.now || wdtEnd s 1 ≤ s.now) then done (wdtLapse s) else done s

/-- FENCE_TIMEOUT: a fence is not complete within 20 µs: a hub internal bus error (R339). -/
def execFenceTimeout (dt p : Nat) (s : State) : Host.Outcome State Fault Refusal :=
  let s := advance dt s
  match (partOf s p).fence with
  | some (t, _) => if t < s.now && hubLive s then done (fatalRaise s 7) else done s
  | none => done s

/-- FORCE_NOTICE_MISSED: a force notice has not been transmitted on an open session within 1 s (R488). -/
def execForceNoticeMissed (dt : Nat) (s : State) : Host.Outcome State Fault Refusal :=
  let s := advance dt s
  let late := s.lg.noticeOut.filter fun (n, q, t) => t ≤ s.now && !noticeSent s n q
  let s := { s with lg := { s.lg with noticeOut := s.lg.noticeOut.filter fun (n, q, t) => !(t ≤ s.now) && !noticeSent s n q } }
  if late.isEmpty || !hubLive s then done s
  else done (wdtLapse (logRec (bump s 0x440061 0) 0x01D3 (0x80 + 18) []))

/-! ## Temperature and lamps (R44, R69) -/

/-- A junction temperature is reported. -/
def setTemp (s : State) (die : Nat) (t : Int) : State := { s with hw := { s.hw with temps := tabPut s.hw.temps die t } }

/-- TEMP_WARNING: a junction at 110 °C (R69); the change of TEMP_DIE is the notification. -/
def execTempWarning (dt die : Nat) (milliC : Int) (s : State) : Host.Outcome State Fault Refusal :=
  let s := advance dt s
  if die > 1 + dieCount s || !hubUpNow s then done s
  else
    let s := setTemp s die milliC
    done (if milliC ≥ 110000 then logRec s 0x0113 64 [(die : Int), milliC] else s)

/-- TEMP_FATAL: a junction at 125 °C (R69), also during the power-fail sequence (R101) and during a dump (R104). -/
def execTempFatal (dt die : Nat) (milliC : Int) (s : State) : Host.Outcome State Fault Refusal :=
  let s := advance dt s
  if die > 1 + dieCount s || !(hubUpNow s || pfRuns s || s.boot.phase == .dump) then done s
  else
    let s := setTemp s die milliC
    done (if milliC ≥ 125000 then fatalRaise s 4 else s)

/-- LAMP_TEST's effect: 3 s (R44). -/
def opLampTest (s : State) : Res := good { s with hw := { s.hw with lampEnd := some (s.now + 3000000000) } }

/-- LAMP_TEST. -/
def execLampTest (dt : Nat) (rq : Req) (s : State) : Host.Outcome State Fault Refusal :=
  done (doExec (advance dt s) rq 0x600140 0 opLampTest)

/-- LAMP_TEST_END. -/
def execLampTestEnd (dt : Nat) (s : State) : Host.Outcome State Fault Refusal :=
  let s := advance dt s
  if dueBy s s.hw.lampEnd then done { s with hw := { s.hw with lampEnd := none } } else done s

/-! ## Firmware images (R83) -/

/-- FW_IMAGE_APPLY's effect: the running slot is not to be written; the load is pending. -/
def opFwImageApply (s : State) (rq : Req) (slot : Nat) : Res :=
  if s.boot.fwApply.isSome then deny s busyS
  else if running s && slot == s.boot.bootSlot then deny s stateS
  else ⟨{ s with boot := { s.boot with fwApply := some (slot, rq.sess, rq.reqId) } }, pendingS, 0, []⟩

/-- FW_IMAGE_APPLY. -/
def execFwImageApply (dt : Nat) (rq : Req) (slot : Nat) (s : State) : Host.Outcome State Fault Refusal :=
  done (doExec (advance dt s) rq 0x010021 0 (fun s => opFwImageApply s rq slot) [.n slot])

/-- The active mark moves to a slot. -/
def fwMark (s : State) (slot : Nat) : State :=
  let s := setFw s slot { fwOf s slot with active := true }
  setFw s (1 - slot) { fwOf s (1 - slot) with active := false }

/-- A load or an activation recorded: slot, SVN, outcome. -/
def fwLog (s : State) (slot svn outcome : Nat) : State := logRec s 0x012A 64 (ints [slot, svn, outcome])

/-- FW_APPLY_DONE: the vault's verdict on the image written (R80, R83); in boot recovery an accepted image is made active and started. -/
def execFwApplyDone (dt : Nat) (obj : SignedObj) (s : State) : Host.Outcome State Fault Refusal :=
  let s := advance dt s
  match s.boot.fwApply with
  | none => done s
  | some (slot, n, r) =>
    let s := bulkEnd { s with boot := { s.boot with fwApply := none, fwBuf := [] } } (addrOf 0x010020 0)
    let (ok, s) := verifyObj s 1 s.boot.svnMin obj
    if ok then
      let s := setFw s slot { fwOf s slot with st := 1, svn := obj.svn, digest := obj.digest }
      let s := execEnd (fwLog s slot obj.svn okS) n r okS []
      done (if s.boot.phase == .recovery then hubReset (fwMark s slot) false 4 else s)
    else
      let s := setFw s slot { fwOf s slot with st := 2 }
      done (execEnd (fwLog s slot obj.svn verifyS) n r verifyS [])

/-- FW_ACTIVATE's effect. -/
def opFwActivate (s : State) (slot : Nat) : Res :=
  if (fwOf s slot).st != 1 then deny s stateS
  else good (fwLog (fwMark s slot) slot (fwOf s slot).svn okS)

/-- FW_ACTIVATE. -/
def execFwActivate (dt : Nat) (rq : Req) (slot : Nat) (s : State) : Host.Outcome State Fault Refusal :=
  done (doExec (advance dt s) rq 0x010022 0 (fun s => opFwActivate s slot) [.n slot])

end Sys2Proof.Machine
end

