-- ==== Sys2Proof/Machine/Units.lean ====
section
/-! DEFINITION. Disabling and enabling units (R90, R91, R341) and a unit whose internal check fails (R88). -/

namespace Sys2Proof.Machine

/-- The units a command may disable (R91). -/
def canDisable (n : Nat) : Bool := [8, 9, 10, 11, 16, 17, 19].contains n

/-- UNIT_DISABLE's effect. A unit that drains already takes no new work: a second disable answers STATE (DESIGN CHOICE, entry 38). -/
def opUnitDisable (s : State) (n : Nat) : Res :=
  if !unitPresent s n then deny s unitAbsent
  else if !canDisable n || !unitTakes s n then deny s stateS
  else
    let s := setDraining (logRec s 0x0129 64 (ints [n, 0])) n true
    good (if n == 17 then migStopAll s 8 else s)

/-- UNIT_DISABLE: the unit refuses new work and reports OFF when it has drained. -/
def execUnitDisable (dt : Nat) (rq : Req) (sub : Nat) (s : State) : Host.Outcome State Fault Refusal :=
  done (doExec (advance dt s) rq 0x010102 sub fun s => opUnitDisable s sub)

/-- UNIT_ENABLE's effect: a unit in OFF starts. -/
def opUnitEnable (s : State) (n : Nat) : Res :=
  if !unitPresent s n then deny s unitAbsent
  else if !canDisable n || unitSt s n != .off then deny s stateS
  else
    let s := unitBegin (logRec s 0x0129 64 (ints [n, 1])) n
    good (if n == 8 then { s with plan := { s.plan with gapAt := s.plan.gapAt ++ [0] } } else s)

/-- UNIT_ENABLE. -/
def execUnitEnable (dt : Nat) (rq : Req) (sub : Nat) (s : State) : Host.Outcome State Fault Refusal :=
  done (doExec (advance dt s) rq 0x010103 sub fun s => opUnitEnable s sub)

/-- Has a unit completed the work it had accepted (R91). -/
def unitDrainedNow (s : State) (n : Nat) : Bool :=
  match n with
  | 5 => lanesIdle s
  | 8 => !(s.plan.rows.any fun (_, x) => x.closed && !x.released) && s.cond.queue.isEmpty && s.cond.down.isEmpty
  | 9 => s.cond.queue.isEmpty
  | 10 => !s.net.jobs.any fun (_, x) => match x.owner with
    | .goose _ (some _) _ => true
    | _ => false
  | 11 => !s.net.jobs.any fun (_, x) => match x.owner with
    | .os _ => true
    | _ => false
  | 17 => !s.parts.ps.any fun (_, x) => x.mig.st == 2 || x.mig.st == 3 || x.mig.st == 4 || x.mig.hand
  | 19 => s.pair.bol.q.isEmpty && s.pair.bol.bus.isNone && s.pair.bol.echo.isNone
  | _ => true

/-- What goes with a unit that is OFF. -/
def unitStop (s : State) (n : Nat) : State :=
  match n with
  | 5 => lanesDown s
  | 16 => let s := capStop s; { s with cap := { s.cap with fill := 0 } }
  | _ => s

/-- UNIT_DRAINED: a unit being disabled has drained and reports OFF. -/
def execUnitDrained (dt sub : Nat) (s : State) : Host.Outcome State Fault Refusal :=
  let s := advance dt s
  if !(rollOf s sub).draining || !unitOk s sub || !unitDrainedNow s sub then done s
  else done (setUnit (unitStop s sub) sub .off)

/-! ## Internal checks (R88) -/

/-- Every GOOSE frame not yet begun is dropped and its request completes with NOT_READY. -/
def gooseFail (s : State) : State :=
  let js := s.net.jobs.filterMap fun (j, x) => match x.owner with
    | .goose b req _ => if x.sentA || x.sentB then none else some (j, b, req)
    | _ => none
  let s := js.foldl (fun s (j, b, req) =>
    let s := dropJob s j
    match req with
    | some (q, i) => gooseReqDone s b q i 6 (gooseFlags ((gbOf s b).held != some j) false false false)
    | none => s) s
  txResume { s with pub := { s.pub with blocks := tabMap (fun _ (g : GBlock) => { g with held := none, heldSlots := [] }) s.pub.blocks } }

/-- The republisher's frames not yet begun are dropped. -/
def osFail (s : State) : State :=
  txResume ((s.net.jobs.filterMap fun (j, x) => match x.owner with
    | .os _ => if x.sentA || x.sentB then none else some j
    | _ => none).foldl dropJob s)

/-- Items ready and in service complete with NOT_READY. -/
def ttFail (s : State) : State :=
  let runs := s.tt.run
  let s := runs.foldl (fun s (c, r) => digClose (afterItem (itemEnd (coreIdle s c) r.item 2 r.start (tai s) 0) r.item) r.item.part r.item.row) s
  let its := s.tt.ready
  let s := { s with tt := { s.tt with ready := [] } }
  its.foldl (fun s it => digClose (afterItem (itemEnd s it 2 0 (tai s) 0) it) it.part it.row) s

/-- DMA operations in flight complete with NOT_READY. -/
def dmaFail (s : State) : State := s.tt.dma.foldl (fun s (id, o) => dmaEnd s id o 2 0) s

/-- An export under way ends with UNIT_NOT_READY. -/
def exportFail (s : State) : State :=
  match s.cap.export_ with
  | some e => execEnd { recSet s e.rec_ e.num (fun r => { r with held := false }) with cap := { s.cap with export_ := none } } e.sess e.reqId notReady []
  | none => s

/-- The vault's requests end: a verification with VERIFY, another with UNIT_NOT_READY (R518). -/
def vaultFail (s : State) : State :=
  let ops := keyOps s ++ s.vault.q
  let s := { s with vault := { s.vault with work := none, suspended := [], q := [] } }
  ops.foldl (fun s r => opAbort s r.op (if r.op.verifies then verifyS else notReady)) s

/-- The ports of a unit fail: their frames complete with NOT_READY and their links are down. -/
def portsFail (s : State) (u : Nat) : State := (unitPorts u).foldl portDown ((unitPorts u).foldl flushFault s)

/-- Pending commands the platform firmware works on itself end with UNIT_NOT_READY; those of other units go on (R88). -/
def sessFail (s : State) : State :=
  s.jal.sess.foldl (fun s (n, x) =>
    x.execs.foldl (fun s (r, a) => if ownerOf (obAddr a) a.sub == 1 then execEnd s n r notReady [] else s) s) s

/-- What waits for the eMMC ends with UNIT_NOT_READY: a firmware load (R83), an export's file, the images still to be read. -/
def storeFail (s : State) : State :=
  let s := exportFail s
  match s.boot.fwApply with
  | some (_, n, r) => execEnd (bulkEnd { s with boot := { s.boot with fwApply := none, fwBuf := [] } } (addrOf 0x010020 0)) n r notReady []
  | none => s

/-- Accepted work of a unit that has entered FAULT completes with NOT_READY, and what hangs on the unit follows. -/
def unitFault (s : State) (n : Nat) : State :=
  match n with
  | 0 => vaultFail s
  | 1 => sessFail s
  | 2 => portsFail s 2
  | 3 => portsFail s 3
  | 4 => portsFail s 4
  | 5 => laneLost (laneLost s 0 0) 1 0
  | 9 => condStop s
  | 10 => gooseFail s
  | 11 => osFail s
  | 12 => ttFail s
  | 13 => dmaFail s
  | 16 => exportFail (capStop s)
  | 17 => migFail s
  | 18 => fatalRaise (blockAll s) 7
  | 19 => bolStop s
  | 20 => logicFault s
  | 22 => judgeLog s
  | 23 => storeFail s
  | 30 => { s with hw := { s.hw with osc := 2 } }
  | _ => if 24 ≤ n && n ≤ 29 then dieFault s (n - 24) else s

/-! ## Drains that overrun (R342) -/

/-- A completion slot reserved for what a fence discards is free again. -/
def unreserve (s : State) (c : Option Nat) : State :=
  match c with
  | some q => setRing s q { ringOf s q with res := (ringOf s q).res - 1 }
  | none => s

/-- What is left of a flow being closed is fenced: its items, ready, in service or ended, and their commits, without completion; what they had
reserved is returned (R337, R342, R372, R373). -/
def flowFence (s : State) (f : Nat) : State :=
  match flowOf s f with
  | none => s
  | some x =>
    let runs := s.tt.run.filter fun (_, r) => r.item.d.flow == f
    let ends := x.ended ++ x.fin
    let its := s.tt.ready.filter (fun i => i.d.flow == f) ++ runs.map (fun (_, r) => r.item) ++ ends.map (·.item)
    let mine (h : Held) : Bool := its.any fun i => i.num == h.item
    let slots := 16 * ((runs.filter fun (_, r) => r.reserved).length + (x.ended.filter fun e => e.status == 0).length) +
      (s.tt.waitRel.filter fun h => mine h && !x.ended.any fun e => e.item.num == h.item).length
    let rsv := its.map (fun i => if i.d.complete then some i.d.compRing else none) ++
      ((s.tt.held ++ s.tt.waitRel).filter mine).map (·.comp) ++ runs.map fun (c, _) => match (coreOf s c).stall with
        | some (_, comp, _) => comp
        | none => none
    let s := runs.foldl (fun s (c, _) => setCore (coreIdle s c) c { coreOf s c with stall := none }) s
    let s := holdFree (rsv.foldl unreserve s) x.owner slots
    { s with tt := { s.tt with
        ready := s.tt.ready.filter fun i => i.d.flow != f
        held := s.tt.held.filter fun h => !mine h
        waitRel := s.tt.waitRel.filter fun h => !mine h
        flows := tabDel s.tt.flows f } }

/-- GOOSE requests whose frames have not begun are discarded with their frames; no completion is written (R337). -/
def gooseFence (s : State) : State :=
  let js := s.net.jobs.filterMap fun (j, x) => match x.owner with
    | .goose _ req _ => if x.sentA || x.sentB then none else some (j, req)
    | _ => none
  let s := js.foldl (fun s (j, req) =>
    let s := dropJob s j
    match req with
    | some (q, i) => (match tabGet (ringOf s q).slots (slotOf s q i) with
      | some (.goose r) => entryDrop s q i (.gooseDone r 6 0 0 0)
      | _ => s)
    | none => s) s
  txResume { s with pub := { s.pub with blocks := tabMap (fun _ (g : GBlock) => { g with held := none, heldSlots := [] }) s.pub.blocks } }

/-- Commands that wait for the bus are discarded, and a frame on it is finished; no completion is written (R337). -/
def bolUnitFence (s : State) : State :=
  let b := s.pair.bol
  let cs := b.q ++ b.bus.toList ++ b.echo.toList
  let free (c : BolCmd) : BolCmd := { c with req := none }
  let s := setBol s { b with q := [], bus := b.bus.map free, echo := b.echo.map free }
  cs.foldl (fun s c => match c.req with
    | some (q, i) => (match tabGet (ringOf s q).slots (slotOf s q i) with
      | some (.bolpel r) => entryDrop s q i (.bolpelDone r 6 0 0 0)
      | _ => s)
    | none => s) s

/-- What is left of a unit's work as its drain overruns is fenced (R337, R340, R342): rows closed and not released are given up, what waits for
conditioning passes without, requests and frames not begun are discarded, migrations are aborted. -/
def unitFence (s : State) (n : Nat) : State :=
  match n with
  | 8 => { s with plan := { s.plan with rows := s.plan.rows.filter fun (_, x) => x.released || !x.closed } }
  | 9 => condStop s
  | 10 => gooseFence s
  | 11 => osFail s
  | 16 => exportFail s
  | 17 => (created s).foldl (fun s p =>
      if preCopy s p || (partOf s p).st == .frozen || (partOf s p).st == .restoring then migAbort s p 8 true else s) s
  | 19 => bolUnitFence s
  | _ => s

/-- DISABLE_TIMEOUT_EXPIRY: a drain is not complete in time; the rest is fenced, and a unit then reports OFF (R342). -/
def execDisableTimeoutExpiry (dt : Nat) (d : Drain) (s : State) : Host.Outcome State Fault Refusal :=
  let s := advance dt s
  match d with
  | .part p => if pst s p == .stopping && dueBy s (partOf s p).drainDue then done (fenceStart s p 2) else done s
  | .unit n =>
    if !((rollOf s n).draining && unitOk s n && dueBy s (rollOf s n).drainDue) then done s
    else
      let s := logRec s 0x0190 64 (ints [256 + n, 10])
      done (setUnit (unitStop (unitFence s n) n) n .off)
  | .flow f => (match flowOf s f with
    | some x => if x.closing && !x.logic && dueBy s x.closeDue then
        done (flowFence (logRec s 0x0190 64 (ints [512 + f, 10])) f) else done s
    | none => done s)

/-- INTERNAL_CHECK_FAIL: the unit reports FAULT. -/
def execInternalCheckFail (dt sub : Nat) (s : State) : Host.Outcome State Fault Refusal :=
  let s := advance dt s
  if !hubUpNow s || !(unitSt s sub == .starting || unitOk s sub) then done s
  else done (unitFault (setUnit s sub .fault) sub)

end Sys2Proof.Machine
end

