-- ==== Sys2Proof/Machine/Jobj.lean ====
section
/-! DEFINITION. What a write of each object does beyond storing its value, and what each command object does: the hooks WRITE and
TABLE_WRITE use, and the effects EXEC dispatches to. PATH_RESET. -/

namespace Sys2Proof.Machine

/-! ## Writes -/

/-- Do the committed entries or SEAT_QUOTAs pass the fused seat capacity at the base rate (R3), or does a profile's decimation not divide it
(R273). -/
def capOver (n : State) : Bool :=
  (n.subsOf 0x240010).any (fun p => baseHz n % max 1 (pD n p) != 0) ||
  allowSum n 7 > poolOf n 7 || (entriesIn n).any fun e => subBase (eV n e) + subUnits (eV n e) > poolOf n 7

/-- Check 9 for a write: the value's own limits, with those that hang on what is in force (the rate under which the seats in force, or about
to be, would pass the smaller capacity: DESIGN CHOICE, log entry 80). -/
def ownLimit (s : State) (ob sub : Nat) (v : Val) : Nat :=
  let c := rowLimit s ob sub v
  let range (b : Bool) : Nat := if b then rangeS else okS
  if c != okS then c
  else match ob with
    | 0x180008 => range (vN v 0 < 1 || vN v 0 > (if s.ident.optO then 3600 else 20))
    | 0x180021 => range (vN v 0 > 1)
    | 0x210001 =>
      let t := s.put 0x210001 0 0 v
      range (capOver t || capOver (withStage t s.jal.commitSet))
    | 0x380041 => range (!forceOk s v)
    | 0x4C0002 => range (sub ≥ 2)
    | 0x500006 => range (vB v 0 && !calOk ⟨vN v 1, vN v 2, vN v 3, vN v 4, vN v 5, vN v 6, 0⟩)
    | 0x580021 => range (logFixed sub) -- R539's list cannot be changed
    | _ => okS

/-- A write of PORT_ENABLE: the last enabled port stays (R134). -/
def putPortEnable (s : State) (sub : Nat) (v : Val) : Res :=
  let t := s.put 0x020003 sub 0 v
  if (upto 3).any fun i => t.vb 0x020003 i then good t else deny s stateS

/-- A write of BASE_RATE: every row is given up and every history restarts (R234, R278). -/
def putBaseRate (s : State) (v : Val) : Res :=
  let t := s.put 0x210001 0 0 v
  if t.vn 0x210001 0 == s.vn 0x210001 0 then good s
  else
    let w := wOf s (curRow s + 1000000)
    let t := { t with plan := { t.plan with w := w, wCuts := [], banks := [] }, cond := { t.cond with oldCfg := [] }
                      jal := { t.jal with commitRow := t.jal.commitRow.map fun r => ceilDiv (r * baseHz t) (baseHz s) } }
    good (planEmpty (restartAll t (curRow t)) false)

/-- A write of PTP_ENABLE or PTP_PORT_ROLE: a port that no longer listens gives up the parent it followed. -/
def putPtp (s : State) (ob sub : Nat) (v : Val) : Res :=
  let was := s.vn ob sub
  let s := s.put ob sub 0 v
  let s := if ob == 0x180020 && was != vN v 0 then ptpRestart s
    else match s.tm.parent with
      | some (p, _) => if ob == 0x180030 && p == sub && vN v 0 ≥ 2 then setParent s none else s
      | none => s
  good (if unitOk s 6 then ptpStates s else s)

/-- A write of a bank's header or of a coefficient, which a pair mirrors (R433). -/
def putBankPair (s : State) (n seq idx ob sub row : Nat) (v : Val) : Res :=
  mirrored s n seq idx (putBank s ob sub row v).status (.write (addrOf ob sub) row v) fun s => (putBank s ob sub row v).s

/-- A write of a value of a K object, with what it sets off at once. -/
def writeK (seq idx : Nat) (s : State) (n ob sub row : Nat) (v : Val) : Res :=
  match ob with
  | 0x020003 => putPortEnable s sub v
  | 0x100001 => putAdmin s sub v
  | 0x100002 => putMode s sub v
  | 0x180008 => putHoldLimit s v
  | 0x180045 => good (ppsJudge (s.put ob sub row v))
  | 0x180050 => putPpsMode s v
  | 0x180011 => good (judgeSource (s.put ob sub row v))
  | 0x180020 => putPtp s ob sub v
  | 0x180021 => putProfile s v
  | 0x180030 => putPtp s ob sub v
  | 0x210001 => putBaseRate s v
  | 0x240011 => putBankPair s n seq idx ob sub row v
  | 0x240012 => putBankPair s n seq idx ob sub row v
  | 0x380041 => putForce s n seq idx row v
  | 0x400001 => putPairEnable s (vB v 0)
  | 0x480030 => putAnchor s sub v
  | 0x4C0002 => putTamperEnable s sub v
  | 0x500005 => putTrim s v
  | 0x500006 => putAlarm s v
  | 0x500011 => putTrickle s v
  | 0x580020 => putCodeRate s sub v
  | _ => plainHook s n ob sub row v

/-- A write of a K object of area 40 also lets a FAILED module try settlement again (R428). -/
def writeHook (seq idx : Nat) (s : State) (n ob sub row : Nat) (v : Val) : Res :=
  let r := writeK seq idx s n ob sub row v
  if arOf ob == 0x40 && ob != 0x400001 && (r.status == okS || r.status == deferS) then { r with s := pairRetry r.s } else r

/-- One decoded row or value written: the object's limits, then as every write; one of area 40 that is staged lets a FAILED module try
settlement again too (R428). -/
def writeRow (seq idx : Nat) (s : State) (n : Nat) (ad : Addr) (row : Nat) (d : Desc) (v : Val) : Res :=
  if !inLims d v then deny s rangeS
  else
    let c := ownLimit s (obAddr ad) ad.sub v
    if c != okS then deny s c
    else
      let r := writeVal s n ad row d v (writeHook seq idx)
      if d.pers == .s && ad.area == 0x40 && r.status == okS then { r with s := pairRetry r.s } else r

/-! ## Commands -/

/-- A KEY field without the zeros that fill it: a key of the KIND's own length, and for HMAC the octets up to the last that is not zero. -/
def keyField (kind : Nat) (k : List Byte) : List Byte :=
  let t := trimZ k
  let n := if kind == 0 then 16 else if kind == 1 then 32 else if kind == 2 then 16 else 48
  if t.length < n then padTo n t else t

/-- PATH_RESET's effect: the path statistics of 60.0200 to 60.0203 (R30, R31). -/
def opPathReset (s : State) : Res :=
  let s := clearCtrs s 0x600202 0x600202 none
  good { s with boot := { s.boot with pathClose := 0, pathWire := 0, pathStage := 0 } }

/-- SESSION_CLOSE's effect: the notice of R158, and the close 1 s later. -/
def opSessionClose (s : State) (n : Nat) : Res :=
  match sessOf s n with
  | none => deny s stateS
  | some se =>
    if se.closeDue.isSome then deny s stateS
    else good (notify (setSess s n { se with closeDue := some (s.now + 1000000000) }) n { kind := 3, seq := 0, reason := 2 })

/-- What a command object does, with its argument. -/
def cmdOp (rq : Req) (ob sub : Nat) (v : Val) (s : State) : Res :=
  match ob with
  | 0x010003 => opCommission s
  | 0x010004 => opQuarantineEnter s
  | 0x010005 => opQuarantineLeave s
  | 0x010006 => opDecommission s (vO v 0)
  | 0x010014 => opRestart s
  | 0x010021 => opFwImageApply s rq (vN v 0)
  | 0x010022 => opFwActivate s (vN v 0)
  | 0x010102 => opUnitDisable s sub
  | 0x010103 => opUnitEnable s sub
  | 0x020012 => opSessionClose s sub
  | 0x020022 => opStageCommit s rq
  | 0x020023 => opStageDiscard s rq.sess
  | 0x020031 => opBundleApply s rq
  | 0x100030 => opPortReset s sub
  | 0x110030 => opGroupReset s sub
  | 0x18000F => stepCmd s (vI v 0 - tai s)
  | 0x180010 => stepCmd s (vI v 0)
  | 0x180070 => opTimeReset s
  | 0x200140 => opStreamReset s sub
  | 0x200203 => opSvPortReset s
  | 0x210020 => opPlanReset s
  | 0x240014 => opBankSeal s rq sub
  | 0x240015 => opProfileSwap s rq sub (vN v 0) (vN v 1) (vN v 2)
  | 0x240016 => opProfileDisarm s rq sub
  | 0x240200 => opCondReset s
  | 0x280130 => opGoReset s
  | 0x280230 => opOsReset s
  | 0x290230 => opGsubReset s
  | 0x300013 => opPartImageApply s rq sub
  | 0x300030 => opPartStart s sub
  | 0x300031 => opPartStop s sub
  | 0x300032 => opPartReset s sub
  | 0x300050 => opMigPrepare s sub
  | 0x300051 => opMigStart s rq sub (vN v 0) (macN (vO v 1)) (vN v 2) (vB v 3)
  | 0x300054 => opMigAbort s sub
  | 0x310006 => opTtReset s
  | 0x340120 => opPhReset s
  | 0x380030 => opOnlineWrite s rq sub (vN v 0) (vN v 1) (vN v 2) (vN v 3)
  | 0x380031 => opLogicRestart s sub (vN v 0) (vB v 1)
  | 0x380042 => opForceClearAll s
  | 0x380050 => opLogicReset s
  | 0x400021 => opHandover s rq sub
  | 0x400050 => opPairReset s
  | 0x440021 => opStepConfirm s (vI v 0)
  | 0x440070 => opPfReset s
  | 0x480011 => opKeyWrite s rq (vN v 0) (vN v 6) (vN v 7) ⟨vN v 1, vN v 2, vN v 3, vN v 4, vN v 5⟩ (keyField (vN v 1) (vO v 8))
  | 0x480012 => opKeyCommit s rq.sess (vN v 0)
  | 0x480013 => opKeyDiscard s
  | 0x480014 => opKeyInvalidate s sub
  | 0x480015 => opKeyErase s sub
  | 0x480032 => opAttest s rq (vO v 0)
  | 0x480040 => opFwSvnConfirm s
  | 0x480043 => opImageSvnConfirm s sub
  | 0x480050 => opClaimRearm s sub
  | 0x4C0003 => opServiceWindow s (vN v 0)
  | 0x500002 => opRtcSet s ⟨vN v 0, vN v 1, vN v 2, vN v 3, vN v 4, vN v 5, vN v 6⟩ (vB v 7)
  | 0x500004 => opOsfClear s
  | 0x500007 => opAlarmAck s
  | 0x580011 => opLogClear s rq.sess
  | 0x580030 => opLogReset s
  | 0x5C0025 => opTrigger s sub
  | 0x5C0031 => opProtect s sub (vN v 0)
  | 0x5C0032 => opRelease s sub (vN v 0)
  | 0x5C0040 => opExport s rq (vN v 0) (vN v 1) (vI v 2) (vI v 3)
  | 0x5C0060 => opCaptureReset s
  | 0x600112 => opCageRestore s sub
  | 0x600140 => opLampTest s
  | 0x600204 => opPathReset s
  | 0x700015 => opDumpProtect s sub
  | 0x700016 => opDumpRelease s sub
  | _ => deny s unsupported

/-- PATH_RESET. -/
def execPathReset (dt : Nat) (rq : Req) (s : State) : Host.Outcome State Fault Refusal :=
  done (doExec (advance dt s) rq 0x600204 0 opPathReset)

/-- SESSION_CLOSE (R158). -/
def execSessionClose (dt : Nat) (rq : Req) (n : Nat) (s : State) : Host.Outcome State Fault Refusal :=
  done (doExec (advance dt s) rq 0x020012 n fun s => opSessionClose s n)

end Sys2Proof.Machine
end

