-- ==== Sys2Proof/Machine/Jalyn.lean ====
section
/-! DEFINITION. Jalyn's messages (R134 to R165): the handshake and HELLO, READ, WRITE, EXEC, the tables, BULK, subscriptions, acknowledgement
and retransmission, the closing of sessions, notifications, the relay and the gateway to the partitions' own areas. -/

namespace Sys2Proof.Machine

/-! ## Associations and HELLO (R134 to R139, R148 to R150) -/

/-- The ports of an IP interface: 0 is SB0, or group 2 in PRP; 1 is SB1 on its own; 2 is MT (R190's objects). -/
def ipPorts (s : State) (i : Nat) : List Nat :=
  if i == 0 then (if gmode s 2 == 1 then [4, 5] else [4]) else if i == 1 then (if gmode s 2 == 1 then [] else [5])
  else if i == 2 then [8] else []

/-- Does the module take a handshake on SB0, SB1, MT (0 to 2) or the relay (3). -/
def jalynPort (s : State) (n : Nat) : Bool :=
  jalynUp s && (life s != 4 || n == 2) &&
    (if n == 3 then s.ident.optP && s.pair.link && running s
     else s.vb 0x020003 n && (ipPorts s n).any (linkUp s ·))

/-- The suite chosen, the stronger first (R135). -/
def suiteFor (s : State) (h : ClientHello) : Option Nat :=
  if h.offers256 then some 0x1302 else if h.offers128 && s.vn 0x020006 0 == 0 then some 0x1301 else none

/-- Does a ClientHello offer a key-exchange group and take the signature scheme of the module, and is the client's own one admitted (R135). -/
def helloSchemes (h : ClientHello) : Bool := (h.group384 || h.group256) && h.takesPss && h.signsOk

/-- DTLS_CLIENT_HELLO: the vault is asked for the module's part; at most two handshakes run (R136). -/
def execDtlsClientHello (dt port : Nat) (h : ClientHello) (s : State) : Host.Outcome State Fault Refusal :=
  let s := advance dt s
  let open_ := (s.jal.assocs.filter fun (_, a) => !a.ready).length
  if !jalynPort s port || !h.cookieOk || !helloSchemes h || !h.cert.chainsToAnchor || open_ ≥ 2 || unitSt s 0 == .fault || !vaultRoom s 3 then done s
  else match suiteFor s h with
    | none => done s
    | some u =>
      let n := s.jal.nextAssoc
      let j := { s.jal with assocs := tabPut s.jal.assocs n { port := port, suite := u, cert := h.cert, group384 := h.group384 }, nextAssoc := n + 1 }
      done (vaultPush { s with jal := j } 3 (.handshake n))

/-- A role's code read (R148). -/
def roleOf (n : Nat) : Option Role :=
  match n with
  | 0 => some .obs | 1 => some .opr | 2 => some .eng | 3 => some .sec | 4 => some .mgr | 5 => some .ptn
  | _ => none

/-- The highest version within both ranges (R149, R164). -/
def agreeVersion (s : State) (lo hi : Nat) : Option Nat :=
  if !romServes s && lo ≤ 0x11 && 0x11 ≤ hi then some 0x11 else if lo ≤ 0x10 && 0x10 ≤ hi then some 0x10 else none

/-- The role a HELLO is granted: the one it asks when the certificate carries it, OBS in DECOMMISSIONED (R150). -/
def grantRole (s : State) (c : Cert) (h : HelloReq) : Option Role :=
  if life s == 4 then some .obs
  else match roleOf h.role with
    | some r => if c.roles.contains h.role && (r != .ptn || h.partition == c.partition) then some r else none
    | none => none

/-- The lowest session number free. -/
def freeSess (s : State) : Option Nat := (upto 16).find? fun n => (sessOf s n).isNone

/-- The record of a HELLO, and its count when refused (R150). A refused HELLO has no session; its record carries 0xFF (DESIGN CHOICE,
entry 90). -/
def helloLog (s : State) (n role port result : Nat) : State :=
  let s := logRec s 0x0130 65 (ints [n, role, port, result])
  if result == okS then s else bump s 0x020014 0

/-- The body of a HELLO's response after MSTATUS (R148, R165). -/
def helloBody (s : State) (n : Nat) (x : Sess) : List Byte :=
  leN 1 x.version ++ leN 1 x.role.code ++ leN 1 n ++ [0] ++ leN 2 x.suite ++ leN 2 1360 ++ leN 2 32 ++ leN 2 256 ++
    leN 4 (unitsPresent s) ++ leN 1 (life s) ++ zeros 3 ++ leN 4 (s.vn 0x020004 0)

/-- A HELLO is refused: it is answered with the status and the association closes (R139, R149, R150). -/
def helloRefuse (s : State) (k : Nat) (a : Assoc) (h : HelloReq) (st : Nat) : State :=
  let v := (agreeVersion s h.versMin h.versMax).getD 0x10
  let m := msgBytes v 1 true a.txSeq h.seq h.reqId (leN 2 st)
  helloLog { s with jal := { s.jal with assocs := tabDel s.jal.assocs k, out := s.jal.out ++ [(a.port, m)] } } 0xFF h.role a.port st

/-- The session a HELLO opens; its numbers go on from the association's. -/
def helloSess (s : State) (a : Assoc) (h : HelloReq) (v : Nat) (r : Role) : Sess :=
  { role := r, part := if r == .ptn then h.partition else 0xFF, port := a.port, version := v, suite := a.suite, name := h.name.take 32
    since := tai s, idleNs := s.vn 0x020004 0 * 1000000000, lastRx := s.now, rxSeq := h.seq + 1, reqSeq := h.seq, txSeq := a.txSeq
    unacked := a.unacked }

/-- A second HELLO answers SEQUENCE in its turn (R147, R148). -/
def helloDo (rq : Req) (role : Nat) (s : State) (se : Sess) : State :=
  helloLog (respond s rq.sess { seq := rq.seq, reqId := rq.reqId, op := 1, mstatus := sequenceS }) rq.sess role se.port sequenceS

/-- A HELLO on an association that has its session n: one that comes again is answered as before (R153). -/
def helloAgain (s : State) (n : Nat) (h : HelloReq) : State :=
  let rq : Req := { sess := n, seq := h.seq, reqId := h.reqId }
  onRequest s rq (.hello h.role) (helloDo rq h.role)

/-- HELLO (R148 to R150, R165). -/
def execHello (dt assoc : Nat) (h : HelloReq) (s : State) : Host.Outcome State Fault Refusal :=
  let s := advance dt s
  match tabGet s.jal.assocs assoc with
  | none => done s
  | some a =>
    if !jalynUp s || !a.ready then done s
    else match a.sess with
      | some n => done (helloAgain s n h)
      | none => match agreeVersion s h.versMin h.versMax with
        | none => done (helloRefuse s assoc a h unsupported)
        | some v => match grantRole s a.cert h, freeSess s with
          | none, _ => done (helloRefuse s assoc a h roleS)
          | some _, none => done (helloRefuse s assoc a h sessionLimit)
          | some r, some n =>
            if r == .sec && s.jal.sess.any (fun (_, x) => x.role == .sec) then done (helloRefuse s assoc a h sessionLimit)
            else
              let x := helloSess s a h v r
              let s := setSess { s with jal := { s.jal with assocs := tabPut s.jal.assocs assoc { a with sess := some n } } } n x
              let s := respond s n { seq := h.seq, reqId := h.reqId, op := 1, entries := [⟨okS, 0, 0, helloBody s n x⟩] }
              done (helloLog s n h.role a.port okS)

/-! ## The partitions' own areas (R161 to R163) -/

/-- A request to a partition's area: the gateway's own checks, then its queue. The answer is a status; the model's mark when it comes later. -/
def gwAsk (s : State) (rq : Req) (se : Sess) (idx op : Nat) (ad : Addr) (typ : Nat) (bytes : List Byte) : Nat × State :=
  let p := ad.area - 0x80
  let c := lifeCheck s se (obAddr ad) (if op == 1 then .read else if op == 2 then .write else .exec)
  if bytes.length > 40 then (lengthS, s)
  else if (partOf s p).st == .none || (gwChan s p true).isNone || (gwChan s p false).isNone then (noObject, s)
  else if c != okS then (c, s)
  else if se.role == .ptn && se.part != p then (roleS, s)
  else if pst s p != .running then (notReady, s)
  else if (gwQ s p).length ≥ 17 then (busyS, s)
  else
    let g : GwReq := { sess := rq.sess, seq := rq.seq, idx := idx, role := se.role.code, op := op, addr := ad, typ := typ, bytes := bytes }
    (deferS, gwSend { s with jal := { s.jal with gw := tabPut s.jal.gw p (gwQ s p ++ [g]) } } p)

/-- Is an address in a partition's area. -/
def inGateway (ad : Addr) : Bool := 0x80 ≤ ad.area && ad.area < 0xC0

/-- The head of a partition's requests is answered, and the next is sent. -/
def gwDone (s : State) (p : Nat) (e : RespE) : State :=
  match gwQ s p with
  | [] => s
  | g :: rest =>
    let gw := if rest.isEmpty then tabDel s.jal.gw p else tabPut s.jal.gw p rest
    gwSend (answerLate { s with jal := { s.jal with gw := gw } } g.sess g.seq g.idx e) p

/-- A partition's message to the gateway, from its header's code and length and its words. -/
def replyMsg (s : State) (code len : Nat) (ws : List Word) : Msg :=
  let n := min len 15
  { code := code % 65536, len := n, words := (upto 15).map fun i => if i < n then nth ws i 0 else 0, postedAt := s.now }

/-- The partition's reply arrives: what its channel holds, or, with nothing there and the partition free to post (R393), the message the row
carries, posted now. -/
def replyIn (s : State) (c p code len : Nat) (ws : List Word) : State :=
  if (chanOf s c).q.isEmpty && postCheck s p (some c) == 0 then chanPut s c (replyMsg s code len ws) else s

/-- GATEWAY_REPLY: the partition's message arrives and leaves its channel; what it answers is the request under way (R162). One that answers
no request, or one whose time has passed, is discarded (R163). -/
def execGatewayReply (dt p code len : Nat) (ws : List Word) (s : State) : Host.Outcome State Fault Refusal :=
  let s := advance dt s
  match gwChan s p false with
  | none => done s
  | some c =>
    let s := replyIn s c p code len ws
    match (chanOf s c).q with
    | [] => done s
    | m :: rest =>
      if !hubLive s || !fabricUp s then done s
      else
        let s := chanTake s c m rest
        match s.jal.gwLate.find? fun (q, g) => q == p && (gwReply m g).isSome with
        | some x => done { s with jal := { s.jal with gwLate := s.jal.gwLate.erase x } }
        | none => match gwQ s p with
        | [] => done s
        | g :: _ => match gwReply m g with
          | some (st, typ, bs) => if dueBy s g.due then done s else done (gwDone s p ⟨st, typ, 0, bs⟩)
          | none => done s

/-- GATEWAY_TIMEOUT: the partition has not answered in time. -/
def execGatewayTimeout (dt p : Nat) (s : State) : Host.Outcome State Fault Refusal :=
  let s := advance dt s
  match gwQ s p with
  | g :: _ =>
    if dueBy s g.due && hubLive s then
      done (gwDone { s with jal := { s.jal with gwLate := s.jal.gwLate ++ (if g.posted then [(p, g)] else []) } } p ⟨partTimeout, 0, 0, []⟩)
    else done s
  | [] => done s

/-! ## READ (R115, R125, R131, R141 to R143) -/

/-- The number of rows in use of an S table as it is staged (R125). -/
def stagedRows (s : State) (ob sub : Nat) : Nat := ((withStage s s.jal.stage).rowsOf ob sub).length

/-- One entry of a READ. -/
def readEntry (s : State) (se : Sess) (staged : Bool) (ad : Addr) : RespE :=
  let ob := obAddr ad
  let c := objCheck s se ad .read
  if c != okS then ⟨c, 0, 0, []⟩
  else match descOf ob with
    | none => ⟨noObject, 0, 0, []⟩
    | some d =>
      let big := match d.typ with
        | .one (.oct m) => decide (m > 1024)
        | _ => false
      let u := unitCheck s ad d .read
      if big then ⟨lengthS, 0, 0, []⟩
      else if u != okS then ⟨u, 0, 0, []⟩
      else
        let kept := d.pers == .k || d.pers == .s
        let tbl := match d.typ with
          | .tbl _ _ => true
          | _ => false
        let v := if staged && d.pers == .s then stagedVal s ob ad.sub 0 else curVal s ob ad.sub
        let rows := if staged && d.pers == .s then stagedRows s ob ad.sub else tblRows s ob ad.sub
        let dfl_ := if tbl then rows == dflRows ob else v == dfl s ob ad.sub
        ⟨okS, typCode d.typ, b2n (curSat s ob ad.sub) + 2 * b2n (d.pers == .s && stagedDiffers s ob ad.sub) + 4 * b2n (kept && dfl_),
          if tbl then leN 4 rows else encVal d.typ v⟩

/-- The octets a READ's response takes. -/
def readSize (s : State) (se : Sess) (staged : Bool) (ads : List Addr) : Nat :=
  4 + sumN (ads.map fun ad => if inGateway ad then 46 else 6 + (readEntry s se staged ad).bytes.length)

/-- The entries of a READ, in order, from entry idx on. -/
def readAll (rq : Req) (se : Sess) (staged : Bool) : Nat → List Addr → State → List RespE × List Nat × State
  | _, [], s => ([], [], s)
  | idx, ad :: r, s =>
    let (e, s) := if inGateway ad then
        (let (st, s) := gwAsk s rq se idx 1 ad 0 []
         ((⟨st, 0, 0, []⟩ : RespE), s))
      else (let e := readEntry s se staged ad
            (e, if e.status == okS then nowRead s (obAddr ad) else s))
    let (es, w, s) := readAll rq se staged (idx + 1) r s
    (e :: es, if e.status == deferS then idx :: w else w, s)

/-- A response without entries. -/
def refuse (s : State) (rq : Req) (op st : Nat) : State := respond s rq.sess { seq := rq.seq, reqId := rq.reqId, op := op, mstatus := st }

/-- The mark, among the entries a response waits for, of entries not handled yet. -/
def moreEntries : Nat := 65537

/-- The entries a response waits for. -/
def waitMore (w : List Nat) (all : Bool) : List Nat := if all then w else w ++ [moreEntries]

/-- The entries not handled yet are noted in the session: other sessions' work may come between (R147). -/
def keepRest (s : State) (rq : Req) (b : ReqBody) (idx : Nat) (all : Bool) : State :=
  match sessOf s rq.sess with
  | some se => setSess s rq.sess { se with rest := if all then none else some ⟨rq, b, idx⟩ }
  | none => s

/-- A READ's effect and response. -/
def readDo (rq : Req) (staged : Bool) (addrs : List Addr) (s : State) (se : Sess) : State :=
  if addrs.isEmpty || addrs.length > 64 || readSize s se staged addrs > 1344 then refuse s rq 2 lengthS
  else
    let (es, w, s) := readAll rq se staged 0 (addrs.take (max 1 rq.cut)) s
    let later := addrs.drop (max 1 rq.cut)
    keepRest (respond s rq.sess { seq := rq.seq, reqId := rq.reqId, op := 2, entries := es, wait := waitMore w later.isEmpty })
      rq (.read staged later) es.length later.isEmpty

/-- READ. -/
def execReadMsg (dt : Nat) (rq : Req) (staged : Bool) (addrs : List Addr) (s : State) : Host.Outcome State Fault Refusal :=
  done (onRequest (advance dt s) rq (.read staged addrs) (readDo rq staged addrs))

/-! ## WRITE and EXEC (R141 to R146) -/

/-- One entry of a WRITE. -/
def writeOne (s : State) (rq : Req) (se : Sess) (idx : Nat) (e : WEntry) : Nat × State :=
  if inGateway e.addr then gwAsk s rq se idx 2 e.addr e.typ e.bytes
  else
    let r := writeEntry s se e fun s d v => writeRow rq.seq idx s rq.sess e.addr 0 d v
    (r.status, r.s)

/-- The entries of a WRITE, in order: a failed one undoes no earlier one. -/
def writeAll (rq : Req) (se : Sess) : Nat → List WEntry → State → List RespE × List Nat × State
  | _, [], s => ([], [], s)
  | idx, e :: r, s =>
    let (st, s) := writeOne s rq se idx e
    let (es, w, s) := writeAll rq se (idx + 1) r s
    (⟨st, 0, 0, []⟩ :: es, if st == deferS then idx :: w else w, s)

/-- A WRITE's effect and response. -/
def writeDo (rq : Req) (es : List WEntry) (s : State) (se : Sess) : State :=
  if romServes s then refuse s rq 3 unsupported
  else if es.isEmpty || es.length > 64 then refuse s rq 3 lengthS
  else
    let (rs, w, s) := writeAll rq se 0 (es.take (max 1 rq.cut)) s
    let later := es.drop (max 1 rq.cut)
    keepRest (respond s rq.sess { seq := rq.seq, reqId := rq.reqId, op := 3, entries := rs, wait := waitMore w later.isEmpty })
      rq (.write later) rs.length later.isEmpty

/-- The next of the entries left is handled. -/
def restGoOn (s : State) (x : RestReq) : State :=
  match sessOf s x.rq.sess with
  | none => s
  | some se =>
    let more (es : List RespE) (w : List Nat) (b : ReqBody) (all : Bool) (s : State) : State :=
      match sessOf s x.rq.sess with
      | none => s
      | some se =>
        let se := { se with resps := se.resps.map fun y => if y.seq == x.rq.seq then
          { y with entries := y.entries ++ es, wait := waitMore (without y.wait moreEntries ++ w) all } else y }
        keepRest (setSess s x.rq.sess (sendResps s.now se)) x.rq b (x.idx + 1) all
    match x.body with
    | .read staged (a :: r) => let (es, w, s) := readAll x.rq se staged x.idx [a] s
                               more es w (.read staged r) r.isEmpty s
    | .write (e :: r) => let (es, w, s) := writeAll x.rq se x.idx [e] s
                         more es w (.write r) r.isEmpty s
    | _ => setSess s x.rq.sess { se with rest := none }

/-- WRITE. -/
def execWriteMsg (dt : Nat) (rq : Req) (es : List WEntry) (s : State) : Host.Outcome State Fault Refusal :=
  done (onRequest (advance dt s) rq (.write es) (writeDo rq es))

/-- What EXEC answers: the address and access first, then the argument's encoding, then the command. -/
def execOne (s : State) (rq : Req) (se : Sess) (e : WEntry) : Res :=
  let c := objCheck s se e.addr .exec
  if c != okS then deny s c
  else match descOf (obAddr e.addr) with
    | none => deny s noObject
    | some d => match decVal d.typ e.typ e.bytes with
      | .error x => deny s x
      | .ok v => runExec s rq se e.addr (cmdOp rq (obAddr e.addr) e.addr.sub v) v

/-- An EXEC's effect and response. -/
def execDo (rq : Req) (e : WEntry) (s : State) (se : Sess) : State :=
  if inGateway e.addr then
    let (st, s) := gwAsk s rq se 0 3 e.addr e.typ e.bytes
    answer rq 4 ⟨s, st, 0, []⟩
  else answer rq 4 (execOne s rq se e)

/-- EXEC. -/
def execExecMsg (dt : Nat) (rq : Req) (e : WEntry) (s : State) : Host.Outcome State Fault Refusal :=
  done (onRequest (advance dt s) rq (.exec e) (execDo rq e))

/-! ## Tables (R115, R144, R540) -/

/-- The octets of a table's row. -/
def rowLen (fs : List FT) : Nat := sumN (fs.map ftLen)

/-- TABLE_READ's answer: status, FIRST, the rows' length and the rows. The logbook is read from a SEQ on, 41 records at most. Of the tables,
BULK and SUBSCRIBE of a partition area R163 says UNSUPPORTED and R161, of one that is not served, NO_OBJECT or UNIT_NOT_READY: the model
answers UNSUPPORTED in every case (DESIGN CHOICE, entry 89). -/
def tableRows (s : State) (se : Sess) (ad : Addr) (first rows : Nat) : Nat × Nat × Nat × List (List Byte) :=
  let ob := obAddr ad
  let c := objCheck s se ad .tableRead
  if inGateway ad then (unsupported, 0, 0, [])
  else if c != okS then (c, 0, 0, [])
  else match descOf ob with
    | none => (noObject, 0, 0, [])
    | some d => match d.typ with
      | .tbl fs cap =>
        let u := unitCheck s ad d .tableRead
        if ob == 0x580010 then
          (if u != okS then (u, 0, 0, [])
           else
             let rs := (logFrom s first).take (min rows 41)
             (okS, match rs with
               | r :: _ => r.num % 4294967296
               | [] => first, 32, rs.map logBytes))
        else if first ≥ cap then (rangeS, 0, 0, [])
        else if u != okS then (u, 0, 0, [])
        else
          let n := min (first + rows) (tblEnd s ob ad.sub) - first
          if 10 + n * rowLen fs > 1344 then (lengthS, 0, 0, [])
          else (okS, first, rowLen fs, (upto n).map fun i => encRec fs (tblRow s ob ad.sub (first + i)))
      | _ => (unsupported, 0, 0, [])

/-- A TABLE_READ's response. -/
def tableReadDo (rq : Req) (addr : Addr) (first rows : Nat) (s : State) (se : Sess) : State :=
  let (st, f, len, rs) := tableRows s se addr first rows
  if st != okS then refuse s rq 5 st
  else respond s rq.sess { seq := rq.seq, reqId := rq.reqId, op := 5, aux := [f, rs.length, len]
                           entries := rs.map fun b => ⟨okS, 0, 0, b⟩ }

/-- TABLE_READ. -/
def execTableRead (dt : Nat) (rq : Req) (addr : Addr) (first rows : Nat) (s : State) : Host.Outcome State Fault Refusal :=
  done (onRequest (advance dt s) rq (.tableRead addr first rows) (tableReadDo rq addr first rows))

/-- One row of a TABLE_WRITE. -/
def tableRow (s : State) (rq : Req) (se : Sess) (ad : Addr) (idx row : Nat) (bs : List Byte) : Res :=
  let c := objCheck s se ad .tableWrite
  if inGateway ad then deny s unsupported
  else if c != okS then deny s c
  else if lockedRow (obAddr ad) ad.sub row then deny s accessS
  else match descOf (obAddr ad) with
    | none => deny s noObject
    | some d => match d.typ with
      | .tbl fs cap => (match decRec fs bs with
        | .error x => deny s x
        | .ok v => if row ≥ cap then deny s rangeS else writeRow rq.seq idx s rq.sess ad row d v)
      | _ => deny s unsupported

/-- The mark, among the entries a response waits for, of rows not handled yet. -/
def moreRows : Nat := 65536

/-- The rows of a TABLE_WRITE in order, up to the first that fails, or whose answer comes later: one entry for each row handled, the
entry waited for, and the rows left. -/
def tableAll (rq : Req) (se : Sess) (ad : Addr) (first : Nat) :
    Nat → List (List Byte) → State → List RespE × List Nat × List (List Byte) × State
  | _, [], s => ([], [], [], s)
  | idx, b :: r, s =>
    let x := tableRow s rq se ad idx (first + idx) b
    if x.status == okS then
      let (es, w, l, s) := tableAll rq se ad first (idx + 1) r x.s
      (⟨okS, 0, 0, []⟩ :: es, w, l, s)
    else if x.status == deferS then
      ([⟨deferS, 0, 0, []⟩], if r.isEmpty then [idx] else [idx, moreRows], r, x.s)
    else ([⟨x.status, 0, 0, []⟩], [], [], x.s)

/-- The rows left behind the entry waited for are noted in the session. -/
def keepLeft (s : State) (rq : Req) (ad : Addr) (first idx : Nat) (l : List (List Byte)) : State :=
  match sessOf s rq.sess with
  | some se => setSess s rq.sess { se with left := if l.isEmpty then none else some ⟨rq, ad, first, idx, l⟩ }
  | none => s

/-- TABLE_WRITE's effect and response: the entries of the rows handled give ROWS_DONE and STATUS; without rows the address is judged
alone. -/
def tableWriteDo (rq : Req) (ad : Addr) (first : Nat) (rows : List (List Byte)) (s : State) (se : Sess) : State :=
  if romServes s then refuse s rq 6 unsupported
  else if rows.isEmpty then
    let c := if inGateway ad then unsupported else objCheck s se ad .tableWrite
    respond s rq.sess { seq := rq.seq, reqId := rq.reqId, op := 6, entries := if c == okS then [] else [⟨c, 0, 0, []⟩] }
  else
    let (es, w, l, s) := tableAll rq se ad first 0 rows s
    keepLeft (respond s rq.sess { seq := rq.seq, reqId := rq.reqId, op := 6, entries := es, wait := w }) rq ad first es.length l

/-- The row before is answered: after an OK the rows left go on, after any other status the TABLE_WRITE has ended (R144). -/
def tableGoOn (s : State) (x : RowsLeft) : State :=
  match sessOf s x.rq.sess with
  | none => s
  | some se => match se.resps.find? fun r => r.seq == x.rq.seq with
    | none => setSess s x.rq.sess { se with left := none }
    | some r =>
      let ok := (r.entries.map RespE.status).getLastD okS == okS
      let (es, w, l, s) := if ok then tableAll x.rq se x.addr x.first x.idx x.rows s else ([], [], [], s)
      match sessOf s x.rq.sess with
      | none => s
      | some se =>
        let se := { se with resps := se.resps.map fun y => if y.seq == x.rq.seq then { y with entries := y.entries ++ es, wait := w } else y }
        keepLeft (setSess s x.rq.sess (sendResps s.now se)) x.rq x.addr x.first (x.idx + es.length) l

/-- TABLE_WRITE. -/
def execTableWrite (dt : Nat) (rq : Req) (addr : Addr) (first : Nat) (rows : List (List Byte)) (s : State) :
    Host.Outcome State Fault Refusal :=
  done (onRequest (advance dt s) rq (.tableWrite addr first rows) (tableWriteDo rq addr first rows))

/-- FORCE_TABLE_WRITE: a TABLE_WRITE of one row of FORCE_TABLE (R417, R420). -/
def execForceTableWrite (dt : Nat) (rq : Req) (row : Nat) (bytes : List Byte) (s : State) : Host.Outcome State Fault Refusal :=
  done (onRequest (advance dt s) rq (.tableWrite (addrOf 0x380041 0) row [bytes]) (tableWriteDo rq (addrOf 0x380041 0) row [bytes]))

/-! ## BULK (R115, R145) -/

/-- A dump's header, up to its directory. -/
def dumpHeader (s : State) (x : Dump) : List Byte :=
  [0x54, 0x5A, 0x46, 0x44] ++ leN 2 1 ++ leN 2 6 ++ leN 2 x.cause ++ leN 2 x.writer ++ leN 4 (unitsPresent s) ++ leI 8 x.time ++
    leN 1 x.quality ++ leN 1 x.lifecycle ++ zeros 6 ++ padTo 16 s.ident.serial ++ leN 4 x.svn ++ leN 4 x.boots ++ leN 8 x.length

/-- An octet of a dump before its digest: the header, then the directory and the sections, whose octets the manual does not fix. -/
def dumpBody (s : State) (x : Dump) (i : Nat) : Byte := if i < 64 then nth (dumpHeader s x) i 0 else Config.dumpByte x.boots i

/-- An octet of a dump: the last 48 are the SHA-384 digest of all before its section (R108); only a dump that is complete has one. -/
def dumpOctet (s : State) (x : Dump) (i : Nat) : Byte :=
  if i + 48 < x.length || (x.st != 1 && x.st != 2) then dumpBody s x i
  else nth (sha384 ((upto (x.length - 48)).map (dumpBody s x))) (i + 48 - x.length) 0

/-- The octets of an object read by BULK: n of them from an offset on, and the length of all. -/
def octRange (s : State) (ob sub off n : Nat) : List Byte × Nat :=
  let of (l : List Byte) : List Byte × Nat := ((l.drop off).take n, l.length)
  match ob with
  | 0x480031 => of (Config.identityCert sub)
  | 0x480033 => of s.vault.evidence
  | 0x5C0041 => of (match s.cap.files with
    | some x => Config.exportFile sub x
    | none => [])
  | 0x700014 =>
    let x := dumpOf s sub
    let len := if x.st == 0 then 0 else x.length
    ((upto (min (off + n) len - off)).map fun i => dumpOctet s x (off + i), len)
  | _ => ([], 0)

/-- The content that BULK has written into an object so far. -/
def bulkBuf (s : State) (ad : Addr) : List Byte :=
  match obAddr ad with
  | 0x010020 => s.boot.fwBuf
  | 0x020030 => s.jal.bundle
  | 0x300012 => (partOf s ad.sub).image
  | _ => []

/-- Content joined to what BULK has written. -/
def bulkAdd (s : State) (ad : Addr) (l : List Byte) : State :=
  match obAddr ad with
  | 0x010020 => { s with boot := { s.boot with fwBuf := s.boot.fwBuf ++ l } }
  | 0x020030 => { s with jal := { s.jal with bundle := s.jal.bundle ++ l } }
  | 0x300012 => setPart s ad.sub { partOf s ad.sub with image := (partOf s ad.sub).image ++ l }
  | _ => s

/-- BULK's checks: the status, and the object's largest length. -/
def bulkCheck (s : State) (n : Nat) (se : Sess) (ad : Addr) (wr : Bool) (off cnt : Nat) (data : List Byte) : Nat :=
  let op : JOp := if wr then .bulkWrite else .bulkRead
  let c := objCheck s se ad op
  if inGateway ad then unsupported
  else if cnt > 1320 || (wr && data.length != cnt) then lengthS
  else if c != okS then c
  else match descOf (obAddr ad) with
    | none => noObject
    | some d => match d.typ with
      | .one (.oct m) =>
        let u := unitCheck s ad d op
        let others := s.jal.sess.any fun (k, x) => k != n && x.bulk.contains ad
        if m ≤ 1024 then unsupported
        else if wr && off + cnt > m then lengthS
        else if wr && off != (bulkBuf s ad).length then rangeS
        else if u != okS then u
        else if wr && !(bulkBuf s ad).isEmpty && others then busyS
        else okS
      | _ => unsupported

/-- A BULK's effect and response. -/
def bulkDo (rq : Req) (addr : Addr) (isWrite : Bool) (offset count : Nat) (data : List Byte) (s : State) (se : Sess) : State :=
  let c := bulkCheck s rq.sess se addr isWrite offset count data
  let say (s : State) (n end_ : Nat) (es : List RespE) : State :=
    respond s rq.sess { seq := rq.seq, reqId := rq.reqId, op := 7, aux := [offset, n, end_], entries := es }
  if c != okS then refuse s rq 7 c
  else if isWrite then
    let s := bulkAdd (setSess s rq.sess { se with bulk := if se.bulk.contains addr then se.bulk else se.bulk ++ [addr] }) addr data
    say s count 0 []
  else
    let (b, len) := octRange s (obAddr addr) addr.sub offset count
    say s b.length (b2n (offset + count ≥ len)) [⟨okS, 14, 0, b⟩]

/-- BULK. -/
def execBulk (dt : Nat) (rq : Req) (addr : Addr) (isWrite : Bool) (offset count : Nat) (data : List Byte) (s : State) :
    Host.Outcome State Fault Refusal :=
  done (onRequest (advance dt s) rq (.bulk addr isWrite offset count data) (bulkDo rq addr isWrite offset count data))

/-! ## SUBSCRIBE (R155 to R157) -/

/-- SUBSCRIBE's checks; where every change is notified MIN_INTERVAL and DEADBAND are ignored (R157). -/
def subCheck (s : State) (se : Sess) (ad : Addr) (mode mi per band : Nat) : Nat :=
  let c := objCheck s se ad .subscribe
  if inGateway ad then unsupported
  else if c != okS then c
  else match descOf (obAddr ad) with
    | none => noObject
    | some d =>
      let big := match d.typ with
        | .one (.oct m) => decide (m > 1024)
        | _ => false
      let u := unitCheck s ad d .subscribe
      let all := everyChange ad
      let have_ := se.subs.any fun (_, x) => x.addr == ad
      if big then lengthS
      else if !all && band % 9223372036854775808 != 0 && se.version == 0x10 then unsupported
      else if mode > 2 || (!all && (mi > 10000 || !finiteF .f64 (.n band))) || (mode == 1 && (per < 10 || per > 3600000)) then rangeS
      else if mode == 2 then (if have_ then okS else stateS)
      else if u != okS then u
      else if !have_ && se.subs.length ≥ 256 then quotaS
      else okS

/-- The next subscription number not in use. -/
def freeSub (se : Sess) : Nat :=
  (((upto 257).map fun i => (se.nextSub + i) % 65536).find? fun k => (tabGet se.subs k).isNone).getD 0

/-- A SUBSCRIBE's effect and response: a subscription to an address already subscribed takes the old one's place. -/
def subscribeDo (rq : Req) (addr : Addr) (mode minInterval period deadband : Nat) (s : State) (se : Sess) : State :=
  let c := subCheck s se addr mode minInterval period deadband
  if romServes s then refuse s rq 8 unsupported
  else if c != okS then refuse s rq 8 c
  else
    let old := se.subs.find? fun (_, x) => x.addr == addr
    let id := match old with
      | some (k, _) => k
      | none => freeSub se
    let say (s : State) : State := respond s rq.sess { seq := rq.seq, reqId := rq.reqId, op := 8, aux := [id] }
    if mode == 2 then say (setSess s rq.sess { se with subs := tabDel se.subs id })
    else
      let x : Sub := { addr := addr, mode := mode, minNs := minInterval * 1000000, periodNs := period * 1000000, deadband := deadband
                       seen := curBytes s (obAddr addr) addr.sub, due := if mode == 1 then some (s.now + period * 1000000) else none }
      say (setSess s rq.sess { se with subs := tabPut se.subs id x, nextSub := if old.isSome then se.nextSub else (id + 1) % 65536 })

/-- SUBSCRIBE. -/
def execSubscribe (dt : Nat) (rq : Req) (addr : Addr) (mode minInterval period deadband : Nat) (s : State) :
    Host.Outcome State Fault Refusal :=
  done (onRequest (advance dt s) rq (.subscribe addr mode minInterval period deadband) (subscribeDo rq addr mode minInterval period deadband))

/-! ## Messages in and out (R137, R148, R151, R152) -/

/-- JALYN_DATAGRAM: a datagram too long, or a message of another version, is discarded and counted; any other is numbered and is to be
acknowledged within 20 ms. The SEQ of a request handled before has its stored response sent again (R153). -/
def execJalynDatagram (dt sess size version seq : Nat) (ackValid : Bool) (ackNo : Nat) (s : State) : Host.Outcome State Fault Refusal :=
  let s := advance dt s
  if !jalynUp s then done s
  else if size > 1400 then done (bump s 0x020015 0)
  else match sessOf s sess with
    | none => done s
    | some se =>
      if version != se.version then done (bump s 0x020015 0)
      else
        let se := if ackValid then ackTo s.now ackNo se else se
        let se := rxNumber { se with lastRx := s.now, noticed := false } seq
        let se := { se with ackDue := some (match se.ackDue with
          | some t => t
          | none => s.now + 20000000) }
        done (setSess s sess (if seq < se.reqSeq then again se seq else se))

/-- ACK: the peer has everything up to a number; on an association without a session too (its number from 16 on). -/
def execAck (dt sess ackNo : Nat) (s : State) : Host.Outcome State Fault Refusal :=
  let s := advance dt s
  match sessOf s sess with
  | some se => if jalynUp s then done (setSess s sess { ackTo s.now ackNo se with lastRx := s.now, noticed := false }) else done s
  | none => match tabGet s.jal.assocs (sess - 16) with
    | some a =>
      if sess < 16 || !jalynUp s then done s
      else
        let l := a.unacked.filter fun m => m.seq > ackNo
        done { s with jal := { s.jal with
          assocs := tabPut s.jal.assocs (sess - 16) { a with unacked := openWindow s.now 32 l }
          out := s.jal.out ++ (leaving l).map fun m => (a.port, m.bytes) } }
    | none => done s

/-- JALYN_ACK_DUE: an ACK message leaves when no other message has carried the acknowledgement. -/
def execJalynAckDue (dt sess : Nat) (s : State) : Host.Outcome State Fault Refusal :=
  let s := advance dt s
  match sessOf s sess with
  | some se =>
    if dueBy s se.ackDue && jalynUp s then
      done (setSess s sess { se with txSeq := se.txSeq + 1, ackDue := none
                                     out := se.out ++ [msgBytes se.version 10 false se.txSeq (se.rxSeq - 1) 0 []] })
    else done s
  | none => done s

/-- A message of an association before its HELLO is sent again, as one of a session is; after six times the association closes. -/
def assocAgain (s : State) (k seq : Nat) : State :=
  match tabGet s.jal.assocs k with
  | none => s
  | some a => match a.unacked.find? fun m => m.seq == seq && m.gap != 0 && m.due ≤ s.now with
    | none => s
    | some m =>
      let g := min 4000000000 (2 * m.gap)
      if !jalynUp s then s
      else if m.tries ≥ 6 then { s with jal := { s.jal with assocs := tabDel s.jal.assocs k } }
      else
        let l := a.unacked.map fun x => if x.seq == seq then { m with tries := m.tries + 1, gap := g, due := s.now + g } else x
        { s with jal := { s.jal with assocs := tabPut s.jal.assocs k { a with unacked := l }, out := s.jal.out ++ [(a.port, m.bytes)] } }

/-- JALYN_RETRANSMIT: a message not acknowledged is sent again, at twice the interval; after six times the session closes. Numbers from 16
on name the associations that have no session yet. -/
def execJalynRetransmit (dt sess seq : Nat) (s : State) : Host.Outcome State Fault Refusal :=
  let s := advance dt s
  match sessOf s sess with
  | none => done (if sess < 16 then s else assocAgain s (sess - 16) seq)
  | some se => match se.unacked.find? fun m => m.seq == seq && m.gap != 0 && m.due ≤ s.now with
    | none => done s
    | some m =>
      let g := min 4000000000 (2 * m.gap)
      if !jalynUp s then done s
      else if m.tries ≥ 6 then done (closeSess s sess 1)
      else done (setSess s sess { se with
        ackDue := none
        out := se.out ++ [withAck m.bytes (se.rxSeq - 1)]
        unacked := se.unacked.map fun x => if x.seq == seq then { m with tries := m.tries + 1, gap := g, due := s.now + g } else x })

/-! ## The end of sessions (R154, R158) -/

/-- SESSION_IDLE_NOTICE: 1 s before an idle session closes. -/
def execSessionIdleNotice (dt sess : Nat) (s : State) : Host.Outcome State Fault Refusal :=
  let s := advance dt s
  match sessOf s sess with
  | some se =>
    if se.lastRx + se.idleNs ≤ s.now + 1000000000 && !se.noticed && jalynUp s then
      done (notify (setSess s sess { se with noticed := true }) sess { kind := 3, seq := 0, reason := 0 })
    else done s
  | none => done s

/-- SESSION_IDLE_EXPIRY. -/
def execSessionIdleExpiry (dt sess : Nat) (s : State) : Host.Outcome State Fault Refusal :=
  let s := advance dt s
  match sessOf s sess with
  | some se => if se.lastRx + se.idleNs ≤ s.now && jalynUp s then done (closeSess s sess 0) else done s
  | none => done s

/-- SESSION_CLOSE_NOTICE_EXPIRY. -/
def execSessionCloseNoticeExpiry (dt n : Nat) (s : State) : Host.Outcome State Fault Refusal :=
  let s := advance dt s
  match sessOf s n with
  | some se => if dueBy s se.closeDue && jalynUp s then done (closeSess s n 2) else done s
  | none => done s

/-! ## Notifications (R146, R155, R156, R159) -/

/-- NOTIFY_PERIODIC. -/
def execNotifyPeriodic (dt sess subId : Nat) (s : State) : Host.Outcome State Fault Refusal :=
  let s := advance dt s
  match sessOf s sess with
  | none => done s
  | some se => match tabGet se.subs subId with
    | none => done s
    | some x =>
      if x.mode != 1 || !dueBy s x.due || !jalynUp s then done s
      else
        let bs := curBytes s (obAddr x.addr) x.addr.sub
        let s := setSess s sess { se with subs := tabPut se.subs subId { x with seen := bs, due := x.due.map (· + x.periodNs) } }
        done (notify s sess (valueNotif s x.addr bs))

/-- NOTIFY_MIN_INTERVAL_END: changes merged within MIN_INTERVAL are notified once, with the value now. -/
def execNotifyMinIntervalEnd (dt sess subId : Nat) (s : State) : Host.Outcome State Fault Refusal :=
  let s := advance dt s
  match sessOf s sess with
  | none => done s
  | some se => match tabGet se.subs subId, jalynUp s with
    | some x, true =>
      let bs := curBytes s (obAddr x.addr) x.addr.sub
      let tell := x.merged && (match descOf (obAddr x.addr) with
        | some d => passBand d (se.version == 0x10) x.deadband x.seen bs
        | none => false)
      if !dueBy s x.held then done s
      else if tell then
        let s := setSess s sess { se with subs := tabPut se.subs subId { x with seen := bs, held := some (s.now + x.minNs), merged := false } }
        done (notify s sess (valueNotif s x.addr bs))
      else done (setSess s sess { se with subs := tabPut se.subs subId { x with held := none, merged := false } })
    | _, _ => done s

/-- EXEC_DONE: the end of a pending command is notified under its REQ_ID. -/
def execExecDone (dt sess reqId : Nat) (s : State) : Host.Outcome State Fault Refusal :=
  let s := advance dt s
  match sessOf s sess with
  | none => done s
  | some se => match se.doneQ.find? fun (r, _) => r == reqId with
    | none => done s
    | some (_, ad, st, bs) =>
      let s := setSess s sess { se with doneQ := se.doneQ.filter fun (r, _) => r != reqId }
      done (notify s sess { kind := 1, seq := 0, reqId := reqId, addr := ad, status := st, bytes := bs })

/-- NOTIFY_LOST: space has returned to a queue that had discarded notifications. -/
def execNotifyLost (dt sess : Nat) (s : State) : Host.Outcome State Fault Refusal :=
  let s := advance dt s
  if jalynUp s then done (flushLost s sess) else done s

/-! ## The relay (R138) -/

/-- RELAY_DATAGRAM: a client's datagram goes to the partner unchanged, the partner's back to the client; with the link down it is lost. -/
def execRelayDatagram (dt : Nat) (fromPartner : Bool) (bytes : List Byte) (s : State) : Host.Outcome State Fault Refusal :=
  let s := advance dt s
  if !(s.ident.optP && s.pair.link && running s) then done s
  else if fromPartner then done { s with jal := { s.jal with relayBack := s.jal.relayBack ++ [bytes] } }
  else done (sendIul s (.relay bytes))

/-! ## What the platform does of itself: messages to the wire, requests whose turn has come (R134, R147, R151, R194) -/

/-- A Jalyn message leaves on its port: SB0 or the group it stands for, SB1, MT, in class 2 (R194), or over the inter-unit link to the
relay of the partner (R138). The record and the datagram around it are counted with 40 octets, the difference of R137's two limits
(DEDUCED, entry 91). -/
def jalynSend (s : State) (port : Nat) (bytes : List Byte) : State :=
  if port == 3 then (if s.pair.link then sendIul s (.relay bytes) else s)
  else match ipPorts s port with
    | n :: _ => sendTo s n .none { job := 0, cls := 2, len := max 64 (46 + 40 + bytes.length), what := .jalyn bytes } false
    | [] => s

/-- Every message handed to transmission leaves, session by session in the order it was handed over. -/
def jalynOut (s : State) : State :=
  let ms := s.jal.out ++ s.jal.sess.flatMap fun (_, x) => x.out.map fun m => (x.port, m)
  if ms.isEmpty then s
  else
    let sess := tabMap (fun _ (x : Sess) => { x with out := [] }) s.jal.sess
    ms.foldl (fun s (p, m) => jalynSend s p m) { s with jal := { s.jal with sess := sess, out := [] } }

/-- A request's effect, by what it asks. -/
def reqDo (rq : Req) (b : ReqBody) (s : State) (se : Sess) : State :=
  match b with
  | .read staged addrs => readDo rq staged addrs s se
  | .write es => writeDo rq es s se
  | .exec e => execDo rq e s se
  | .cmd ob sub arg => answer rq 4 (runExec s rq se (addrOf ob sub) (cmdOp rq ob sub arg) arg)
  | .tableRead ad first rows => tableReadDo rq ad first rows s se
  | .tableWrite ad first rows => tableWriteDo rq ad first rows s se
  | .bulk ad wr off cnt data => bulkDo rq ad wr off cnt data s se
  | .subscribe ad mode mi per band => subscribeDo rq ad mode mi per band s se
  | .hello role => helloDo rq role s se

/-- The request held that a session handles next: its number has come in order, and none before it is still to be answered. -/
def turnOf (se : Sess) : Option HeldReq :=
  match se.held with
  | h :: _ => if h.rq.seq < se.rxSeq && !behind se h.rq.seq then some h else none
  | [] => none

/-- Do the rows left of a TABLE_WRITE go on: the row before them is answered. -/
def leftTurn (se : Sess) : Option RowsLeft :=
  match se.left with
  | some x => if (se.resps.any fun r => r.seq == x.rq.seq && r.wait.any fun k => k != moreRows) then none else some x
  | none => none

/-- A session's next piece of work runs. -/
def sessTurn (s : State) (n : Nat) (se : Sess) : State :=
  match se.rest, leftTurn se, turnOf se with
  | some x, _, _ => restGoOn s x
  | none, some x, _ => tableGoOn s x
  | none, none, some h => runReq (setSess s n { se with held := se.held.drop 1 }) h.rq h.body.op (reqDo h.rq h.body)
  | none, none, none => s

/-- What the platform firmware does of itself when no command waits: Jalyn's messages go to their ports, and one entry left of a
request, one request held, or the rows left of one TABLE_WRITE, go on; with nothing to do it idles (DESIGN CHOICE, entry 1). -/
def platformTurn (s : State) : State :=
  if !jalynUp s then s
  else
    let s := jalynOut s
    match s.jal.sess.find? fun (_, x) => x.rest.isSome || (leftTurn x).isSome || (turnOf x).isSome with
    | some (n, x) => settle (sessTurn s n x)
    | none => s

end Sys2Proof.Machine
end

