-- ==== Sys2Proof/Machine/Dispatch.lean ====
section
/-! DEFINITION. The dispatch of a command to its meaning: one arm for each row of the opcode table. -/

namespace Sys2Proof.Machine

/-- The effect of a command on everything but the queue. -/
def exec (i : Instr) (s : State) : Host.Outcome State Fault Refusal :=
  match i with
  | .supplyGood dt => Sys2Proof.Machine.execSupplyGood dt s
  | .hubRelease dt ga gap selB => Sys2Proof.Machine.execHubRelease dt ga gap selB s
  | .firmwareImageRead dt => Sys2Proof.Machine.execFirmwareImageRead dt s
  | .firmwareVerified dt obj => Sys2Proof.Machine.execFirmwareVerified dt obj s
  | .unitStartComplete dt sub => Sys2Proof.Machine.execUnitStartComplete dt sub s
  | .holdupReady dt => Sys2Proof.Machine.execHoldupReady dt s
  | .oscReady dt => Sys2Proof.Machine.execOscReady dt s
  | .partImageRead dt => Sys2Proof.Machine.execPartImageRead dt s
  | .partImageVerified dt obj => Sys2Proof.Machine.execPartImageVerified dt obj s
  | .diePowerUpDone dt die => Sys2Proof.Machine.execDiePowerUpDone dt die s
  | .d2dLinkFail dt die link => Sys2Proof.Machine.execD2dLinkFail dt die link s
  | .ccLockstepMismatch dt pair => Sys2Proof.Machine.execCcLockstepMismatch dt pair s
  | .wdtService dt pair => Sys2Proof.Machine.execWdtService dt pair s
  | .wdtLapse dt => Sys2Proof.Machine.execWdtLapse dt s
  | .fatalError dt cause => Sys2Proof.Machine.execFatalError dt cause s
  | .dumpWriteDone dt => Sys2Proof.Machine.execDumpWriteDone dt s
  | .dumpProtect dt rq slot => Sys2Proof.Machine.execDumpProtect dt rq slot s
  | .dumpRelease dt rq slot => Sys2Proof.Machine.execDumpRelease dt rq slot s
  | .restart dt rq => Sys2Proof.Machine.execRestart dt rq s
  | .fwImageApply dt rq slot => Sys2Proof.Machine.execFwImageApply dt rq slot s
  | .fwApplyDone dt obj => Sys2Proof.Machine.execFwApplyDone dt obj s
  | .fwActivate dt rq slot => Sys2Proof.Machine.execFwActivate dt rq slot s
  | .unitDisable dt rq sub => Sys2Proof.Machine.execUnitDisable dt rq sub s
  | .unitEnable dt rq sub => Sys2Proof.Machine.execUnitEnable dt rq sub s
  | .unitDrained dt sub => Sys2Proof.Machine.execUnitDrained dt sub s
  | .commission dt rq => Sys2Proof.Machine.execCommission dt rq s
  | .quarantineEnter dt rq => Sys2Proof.Machine.execQuarantineEnter dt rq s
  | .quarantineLeave dt rq => Sys2Proof.Machine.execQuarantineLeave dt rq s
  | .decommission dt rq serial => Sys2Proof.Machine.execDecommission dt rq serial s
  | .moduleInsert dt => Sys2Proof.Machine.execModuleInsert dt s
  | .moduleRemove dt => Sys2Proof.Machine.execModuleRemove dt s
  | .transceiverInsert dt cage => Sys2Proof.Machine.execTransceiverInsert dt cage s
  | .cagePowerOn dt cage => Sys2Proof.Machine.execCagePowerOn dt cage s
  | .transceiverRemove dt cage => Sys2Proof.Machine.execTransceiverRemove dt cage s
  | .cageOvercurrent dt cage => Sys2Proof.Machine.execCageOvercurrent dt cage s
  | .cageRestore dt rq cage => Sys2Proof.Machine.execCageRestore dt rq cage s
  | .sfpIdRead dt cage id => Sys2Proof.Machine.execSfpIdRead dt cage id s
  | .sfpDdmPoll dt cage ddm => Sys2Proof.Machine.execSfpDdmPoll dt cage ddm s
  | .lampTest dt rq => Sys2Proof.Machine.execLampTest dt rq s
  | .lampTestEnd dt => Sys2Proof.Machine.execLampTestEnd dt s
  | .pfAssert dt overV => Sys2Proof.Machine.execPfAssert dt overV s
  | .pfClear dt => Sys2Proof.Machine.execPfClear dt s
  | .rideThroughExpiry dt => Sys2Proof.Machine.execRideThroughExpiry dt s
  | .vinLossCharging dt => Sys2Proof.Machine.execVinLossCharging dt s
  | .tempWarning dt die milliC => Sys2Proof.Machine.execTempWarning dt die milliC s
  | .tempFatal dt die milliC => Sys2Proof.Machine.execTempFatal dt die milliC s
  | .ppsInEdge dt held => Sys2Proof.Machine.execPpsInEdge dt held s
  | .irigFrame dt held f => Sys2Proof.Machine.execIrigFrame dt held f s
  | .ppsAbsent dt => Sys2Proof.Machine.execPpsAbsent dt s
  | .ppsOutRise dt => Sys2Proof.Machine.execPpsOutRise dt s
  | .ppsOutFall dt => Sys2Proof.Machine.execPpsOutFall dt s
  | .tamperSample dt enclOpen loopOpen => Sys2Proof.Machine.execTamperSample dt enclOpen loopOpen s
  | .tamperSensorEvent dt source => Sys2Proof.Machine.execTamperSensorEvent dt source s
  | .serviceWindow dt rq secs => Sys2Proof.Machine.execServiceWindow dt rq secs s
  | .serviceWindowExpiry dt => Sys2Proof.Machine.execServiceWindowExpiry dt s
  | .dtlsClientHello dt port h => Sys2Proof.Machine.execDtlsClientHello dt port h s
  | .jalynDatagram dt sess size version seq ackValid ackNo => Sys2Proof.Machine.execJalynDatagram dt sess size version seq ackValid ackNo s
  | .hello dt assoc h => Sys2Proof.Machine.execHello dt assoc h s
  | .readMsg dt rq staged addrs => Sys2Proof.Machine.execReadMsg dt rq staged addrs s
  | .writeMsg dt rq es => Sys2Proof.Machine.execWriteMsg dt rq es s
  | .execMsg dt rq e => Sys2Proof.Machine.execExecMsg dt rq e s
  | .tableRead dt rq addr first rows => Sys2Proof.Machine.execTableRead dt rq addr first rows s
  | .tableWrite dt rq addr first rows => Sys2Proof.Machine.execTableWrite dt rq addr first rows s
  | .bulk dt rq addr isWrite offset count data => Sys2Proof.Machine.execBulk dt rq addr isWrite offset count data s
  | .subscribe dt rq addr mode minInterval period deadband => Sys2Proof.Machine.execSubscribe dt rq addr mode minInterval period deadband s
  | .ack dt sess ackNo => Sys2Proof.Machine.execAck dt sess ackNo s
  | .jalynAckDue dt sess => Sys2Proof.Machine.execJalynAckDue dt sess s
  | .jalynRetransmit dt sess seq => Sys2Proof.Machine.execJalynRetransmit dt sess seq s
  | .sessionIdleNotice dt sess => Sys2Proof.Machine.execSessionIdleNotice dt sess s
  | .sessionIdleExpiry dt sess => Sys2Proof.Machine.execSessionIdleExpiry dt sess s
  | .sessionClose dt rq n => Sys2Proof.Machine.execSessionClose dt rq n s
  | .notifyPeriodic dt sess subId => Sys2Proof.Machine.execNotifyPeriodic dt sess subId s
  | .notifyMinIntervalEnd dt sess subId => Sys2Proof.Machine.execNotifyMinIntervalEnd dt sess subId s
  | .execDone dt sess reqId => Sys2Proof.Machine.execExecDone dt sess reqId s
  | .notifyLost dt sess => Sys2Proof.Machine.execNotifyLost dt sess s
  | .relayDatagram dt fromPartner bytes => Sys2Proof.Machine.execRelayDatagram dt fromPartner bytes s
  | .gatewayReply dt p code len ws => Sys2Proof.Machine.execGatewayReply dt p code len ws s
  | .gatewayTimeout dt p => Sys2Proof.Machine.execGatewayTimeout dt p s
  | .stageCommit dt rq => Sys2Proof.Machine.execStageCommit dt rq s
  | .stageApply dt => Sys2Proof.Machine.execStageApply dt s
  | .stageDiscard dt rq => Sys2Proof.Machine.execStageDiscard dt rq s
  | .bundleApply dt rq => Sys2Proof.Machine.execBundleApply dt rq s
  | .pathReset dt rq => Sys2Proof.Machine.execPathReset dt rq s
  | .linkDown dt port => Sys2Proof.Machine.execLinkDown dt port s
  | .linkUp dt port speed partner => Sys2Proof.Machine.execLinkUp dt port speed partner s
  | .txDisableHoldEnd dt port => Sys2Proof.Machine.execTxDisableHoldEnd dt port s
  | .portAdminWrite dt rq port on => Sys2Proof.Machine.execPortAdminWrite dt rq port on s
  | .portModeWrite dt rq port mode => Sys2Proof.Machine.execPortModeWrite dt rq port mode s
  | .rxFrame dt port f => Sys2Proof.Machine.execRxFrame dt port f s
  | .pauseEnd dt port => Sys2Proof.Machine.execPauseEnd dt port s
  | .pauseCeilingReached dt port => Sys2Proof.Machine.execPauseCeilingReached dt port s
  | .pauseLockoutEnd dt port => Sys2Proof.Machine.execPauseLockoutEnd dt port s
  | .nodeAgeOut dt group mac => Sys2Proof.Machine.execNodeAgeOut dt group mac s
  | .supervisionTx dt group => Sys2Proof.Machine.execSupervisionTx dt group s
  | .txFrameDone dt port => Sys2Proof.Machine.execTxFrameDone dt port s
  | .portCountersReset dt rq port => Sys2Proof.Machine.execPortCountersReset dt rq port s
  | .groupCountersReset dt rq group => Sys2Proof.Machine.execGroupCountersReset dt rq group s
  | .servoFreqWrite dt incr => Sys2Proof.Machine.execServoFreqWrite dt incr s
  | .slewComplete dt => Sys2Proof.Machine.execSlewComplete dt s
  | .secondRollover dt => Sys2Proof.Machine.execSecondRollover dt s
  | .syncReceiptTimeout dt => Sys2Proof.Machine.execSyncReceiptTimeout dt s
  | .holdoverLimitExpiry dt => Sys2Proof.Machine.execHoldoverLimitExpiry dt s
  | .announceReceiptTimeout dt port also => Sys2Proof.Machine.execAnnounceReceiptTimeout dt port also s
  | .ptpSyncTx dt port => Sys2Proof.Machine.execPtpSyncTx dt port s
  | .ptpAnnounceTx dt port => Sys2Proof.Machine.execPtpAnnounceTx dt port s
  | .pdelayReqTx dt port => Sys2Proof.Machine.execPdelayReqTx dt port s
  | .ptpFaultyRetry dt port => Sys2Proof.Machine.execPtpFaultyRetry dt port s
  | .timeSet dt rq t => Sys2Proof.Machine.execTimeSet dt rq t s
  | .timeAdjust dt rq delta => Sys2Proof.Machine.execTimeAdjust dt rq delta s
  | .stepConfirm dt rq maxOffset => Sys2Proof.Machine.execStepConfirm dt rq maxOffset s
  | .ptpProfileWrite dt rq profile => Sys2Proof.Machine.execPtpProfileWrite dt rq profile s
  | .leapSecond dt => Sys2Proof.Machine.execLeapSecond dt s
  | .timeCountersReset dt rq => Sys2Proof.Machine.execTimeCountersReset dt rq s
  | .launchTimeReached dt port => Sys2Proof.Machine.execLaunchTimeReached dt port s
  | .launchLate dt port => Sys2Proof.Machine.execLaunchLate dt port s
  | .learnedRateUpdate dt entry => Sys2Proof.Machine.execLearnedRateUpdate dt entry s
  | .rowClose dt => Sys2Proof.Machine.execRowClose dt s
  | .rowRelease dt => Sys2Proof.Machine.execRowRelease dt s
  | .streamCountersReset dt rq entry => Sys2Proof.Machine.execStreamCountersReset dt rq entry s
  | .svPortCountersReset dt rq => Sys2Proof.Machine.execSvPortCountersReset dt rq s
  | .planCountersReset dt rq => Sys2Proof.Machine.execPlanCountersReset dt rq s
  | .conditioningComplete dt => Sys2Proof.Machine.execConditioningComplete dt s
  | .bankSeal dt rq bank => Sys2Proof.Machine.execBankSeal dt rq bank s
  | .profileSwap dt rq profile row mode xfade => Sys2Proof.Machine.execProfileSwap dt rq profile row mode xfade s
  | .profileDisarm dt rq profile => Sys2Proof.Machine.execProfileDisarm dt rq profile s
  | .filterKat dt array idle pass => Sys2Proof.Machine.execFilterKat dt array idle pass s
  | .condCountersReset dt rq => Sys2Proof.Machine.execCondCountersReset dt rq s
  | .gooseRequest dt ring => Sys2Proof.Machine.execGooseRequest dt ring s
  | .gooseRetransmit dt block => Sys2Proof.Machine.execGooseRetransmit dt block s
  | .gooseTalExpiry dt entry => Sys2Proof.Machine.execGooseTalExpiry dt entry s
  | .latchListenEnd dt latch => Sys2Proof.Machine.execLatchListenEnd dt latch s
  | .goCountersReset dt rq => Sys2Proof.Machine.execGoCountersReset dt rq s
  | .osCountersReset dt rq => Sys2Proof.Machine.execOsCountersReset dt rq s
  | .gsubCountersReset dt rq => Sys2Proof.Machine.execGsubCountersReset dt rq s
  | .partStart dt rq p => Sys2Proof.Machine.execPartStart dt rq p s
  | .partStop dt rq p => Sys2Proof.Machine.execPartStop dt rq p s
  | .partReset dt rq p => Sys2Proof.Machine.execPartReset dt rq p s
  | .partFault dt p cause core detail => Sys2Proof.Machine.execPartFault dt p cause core detail s
  | .pwAbortWrite dt p core w => Sys2Proof.Machine.execPwAbortWrite dt p core w s
  | .fenceComplete dt p => Sys2Proof.Machine.execFenceComplete dt p s
  | .fenceTimeout dt p => Sys2Proof.Machine.execFenceTimeout dt p s
  | .partitionDrained dt p => Sys2Proof.Machine.execPartitionDrained dt p s
  | .disableTimeoutExpiry dt d => Sys2Proof.Machine.execDisableTimeoutExpiry dt d s
  | .restartDelayExpiry dt p => Sys2Proof.Machine.execRestartDelayExpiry dt p s
  | .partImageApply dt rq p => Sys2Proof.Machine.execPartImageApply dt rq p s
  | .partitionZeroed dt p => Sys2Proof.Machine.execPartitionZeroed dt p s
  | .migPrepare dt rq p => Sys2Proof.Machine.execMigPrepare dt rq p s
  | .migStart dt rq p path peer dest force => Sys2Proof.Machine.execMigStart dt rq p path peer dest force s
  | .migRoundEnd dt p sent marked => Sys2Proof.Machine.execMigRoundEnd dt p sent marked s
  | .migRestoreComplete dt p => Sys2Proof.Machine.execMigRestoreComplete dt p s
  | .migAbort dt rq p => Sys2Proof.Machine.execMigAbort dt rq p s
  | .migPathFail dt p => Sys2Proof.Machine.execMigPathFail dt p s
  | .ttSubmit dt p core => Sys2Proof.Machine.execTtSubmit dt p core s
  | .submitRingEntry dt ring => Sys2Proof.Machine.execSubmitRingEntry dt ring s
  | .triggerPendingRelease dt ring => Sys2Proof.Machine.execTriggerPendingRelease dt ring s
  | .ttDispatch dt => Sys2Proof.Machine.execTtDispatch dt s
  | .ttDone dt core result outputs => Sys2Proof.Machine.execTtDone dt core result outputs s
  | .ttCommit dt core w mem => Sys2Proof.Machine.execTtCommit dt core w mem s
  | .commitSlotFree dt ring => Sys2Proof.Machine.execCommitSlotFree dt ring s
  | .ttCancel dt p core tag => Sys2Proof.Machine.execTtCancel dt p core tag s
  | .ttFlowOpen dt p core w => Sys2Proof.Machine.execTtFlowOpen dt p core w s
  | .ttFlowClose dt p core w => Sys2Proof.Machine.execTtFlowClose dt p core w s
  | .ttResultRead dt core => Sys2Proof.Machine.execTtResultRead dt core s
  | .budgetStop dt core => Sys2Proof.Machine.execBudgetStop dt core s
  | .ringProdWrite dt p ring value entries => Sys2Proof.Machine.execRingProdWrite dt p ring value entries s
  | .ringConsWrite dt p ring value => Sys2Proof.Machine.execRingConsWrite dt p ring value s
  | .dmaEntry dt ring => Sys2Proof.Machine.execDmaEntry dt ring s
  | .dmaComplete dt dmaId => Sys2Proof.Machine.execDmaComplete dt dmaId s
  | .dmaEngineFault dt engine => Sys2Proof.Machine.execDmaEngineFault dt engine s
  | .ttCountersReset dt rq => Sys2Proof.Machine.execTtCountersReset dt rq s
  | .snapshotLoRead dt p core offset => Sys2Proof.Machine.execSnapshotLoRead dt p core offset s
  | .cfMissedRead dt p core => Sys2Proof.Machine.execCfMissedRead dt p core s
  | .pfDeniedRead dt p core => Sys2Proof.Machine.execPfDeniedRead dt p core s
  | .lgOverrunRead dt p core slot => Sys2Proof.Machine.execLgOverrunRead dt p core slot s
  | .registerWrite dt space p core offset w => Sys2Proof.Machine.execRegisterWrite dt space p core offset w s
  | .phPost dt ep core w => Sys2Proof.Machine.execPhPost dt ep core w s
  | .phStageHeader dt ep core w => Sys2Proof.Machine.execPhStageHeader dt ep core w s
  | .phTake dt ep core w => Sys2Proof.Machine.execPhTake dt ep core w s
  | .phBellRing dt ep core w => Sys2Proof.Machine.execPhBellRing dt ep core w s
  | .phAckTimeout dt chan => Sys2Proof.Machine.execPhAckTimeout dt chan s
  | .phCountersReset dt rq => Sys2Proof.Machine.execPhCountersReset dt rq s
  | .cycleBoundary dt task => Sys2Proof.Machine.execCycleBoundary dt task s
  | .logicShadowCopyDone dt p => Sys2Proof.Machine.execLogicShadowCopyDone dt p s
  | .onlineWrite dt rq p task offset size value => Sys2Proof.Machine.execOnlineWrite dt rq p task offset size value s
  | .logicRestart dt rq p mode clear => Sys2Proof.Machine.execLogicRestart dt rq p mode clear s
  | .forceTableWrite dt rq row bytes => Sys2Proof.Machine.execForceTableWrite dt rq row bytes s
  | .forceClearAll dt rq => Sys2Proof.Machine.execForceClearAll dt rq s
  | .forceNotifyPeriodic dt => Sys2Proof.Machine.execForceNotifyPeriodic dt s
  | .forceNoticeMissed dt => Sys2Proof.Machine.execForceNoticeMissed dt s
  | .logicUnitFault dt => Sys2Proof.Machine.execLogicUnitFault dt s
  | .logicCountersReset dt rq => Sys2Proof.Machine.execLogicCountersReset dt rq s
  | .laneTrainSwitch dt lane => Sys2Proof.Machine.execLaneTrainSwitch dt lane s
  | .laneUp dt lane => Sys2Proof.Machine.execLaneUp dt lane s
  | .pairHelloTx dt => Sys2Proof.Machine.execPairHelloTx dt s
  | .pairHello dt h => Sys2Proof.Machine.execPairHello dt h s
  | .pairEnableWrite dt rq on => Sys2Proof.Machine.execPairEnableWrite dt rq on s
  | .mirror dt op mid => Sys2Proof.Machine.execMirror dt op mid s
  | .mirrorAck dt mid status at_ => Sys2Proof.Machine.execMirrorAck dt mid status at_ s
  | .presence dt row present digest => Sys2Proof.Machine.execPresence dt row present digest s
  | .seats dt row seats => Sys2Proof.Machine.execSeats dt row seats s
  | .tags dt row tags => Sys2Proof.Machine.execTags dt row tags s
  | .agree dt row final => Sys2Proof.Machine.execAgree dt row final s
  | .eqLost dt row => Sys2Proof.Machine.execEqLost dt row s
  | .eqDeadlineExpiry dt => Sys2Proof.Machine.execEqDeadlineExpiry dt s
  | .digest dt p row digest => Sys2Proof.Machine.execDigest dt p row digest s
  | .digestWaitExpiry dt p row => Sys2Proof.Machine.execDigestWaitExpiry dt p row s
  | .align dt row recs => Sys2Proof.Machine.execAlign dt row recs s
  | .importCheckpoint dt p => Sys2Proof.Machine.execImportCheckpoint dt p s
  | .beaconTx dt => Sys2Proof.Machine.execBeaconTx dt s
  | .takeoverEval dt => Sys2Proof.Machine.execTakeoverEval dt s
  | .isolationTimeExpiry dt => Sys2Proof.Machine.execIsolationTimeExpiry dt s
  | .claimRaise dt d => Sys2Proof.Machine.execClaimRaise dt d s
  | .handover dt rq d => Sys2Proof.Machine.execHandover dt rq d s
  | .handoverRx dt d claim row tagOk => Sys2Proof.Machine.execHandoverRx dt d claim row tagOk s
  | .handoverAck dt d accepted => Sys2Proof.Machine.execHandoverAck dt d accepted s
  | .handoverAckTimeout dt d => Sys2Proof.Machine.execHandoverAckTimeout dt d s
  | .bolpelCycle dt => Sys2Proof.Machine.execBolpelCycle dt s
  | .bolpelRequest dt ring => Sys2Proof.Machine.execBolpelRequest dt ring s
  | .bolpelFrameEnd dt => Sys2Proof.Machine.execBolpelFrameEnd dt s
  | .bolpelEcho dt e => Sys2Proof.Machine.execBolpelEcho dt e s
  | .bolpelEchoTimeout dt => Sys2Proof.Machine.execBolpelEchoTimeout dt s
  | .reportTx dt => Sys2Proof.Machine.execReportTx dt s
  | .report dt card => Sys2Proof.Machine.execReport dt card s
  | .iulDown dt => Sys2Proof.Machine.execIulDown dt s
  | .timeXcheck dt offset => Sys2Proof.Machine.execTimeXcheck dt offset s
  | .selftestCheck dt bit pass => Sys2Proof.Machine.execSelftestCheck dt bit pass s
  | .pairCountersReset dt rq => Sys2Proof.Machine.execPairCountersReset dt rq s
  | .pfTokenRefill dt p => Sys2Proof.Machine.execPfTokenRefill dt p s
  | .pfCountersReset dt rq => Sys2Proof.Machine.execPfCountersReset dt rq s
  | .imageLoaderWriteRefused dt region => Sys2Proof.Machine.execImageLoaderWriteRefused dt region s
  | .keyWrite dt rq slot kind use world masters life wrapSlot kcv key => Sys2Proof.Machine.execKeyWrite dt rq slot kind use world masters life wrapSlot kcv key s
  | .keyCommit dt rq slot => Sys2Proof.Machine.execKeyCommit dt rq slot s
  | .keyDiscard dt rq => Sys2Proof.Machine.execKeyDiscard dt rq s
  | .keyInvalidate dt rq slot => Sys2Proof.Machine.execKeyInvalidate dt rq slot s
  | .keyErase dt rq slot => Sys2Proof.Machine.execKeyErase dt rq slot s
  | .keySlotIntegrityCheck dt bad => Sys2Proof.Machine.execKeySlotIntegrityCheck dt bad s
  | .vaultOpComplete dt facts => Sys2Proof.Machine.execVaultOpComplete dt facts s
  | .vaultSegmentEnd dt => Sys2Proof.Machine.execVaultSegmentEnd dt s
  | .trafficKeyDerived dt idx => Sys2Proof.Machine.execTrafficKeyDerived dt idx s
  | .vaultMacRequest dt chan => Sys2Proof.Machine.execVaultMacRequest dt chan s
  | .attest dt rq nonce => Sys2Proof.Machine.execAttest dt rq nonce s
  | .fwSvnConfirm dt rq => Sys2Proof.Machine.execFwSvnConfirm dt rq s
  | .imageSvnConfirm dt rq p => Sys2Proof.Machine.execImageSvnConfirm dt rq p s
  | .claimRearm dt rq d => Sys2Proof.Machine.execClaimRearm dt rq d s
  | .rtcSecondBoundary dt => Sys2Proof.Machine.execRtcSecondBoundary dt s
  | .rtcCommit dt => Sys2Proof.Machine.execRtcCommit dt s
  | .rtcCommitImmediate dt => Sys2Proof.Machine.execRtcCommitImmediate dt s
  | .alarmArm dt => Sys2Proof.Machine.execAlarmArm dt s
  | .rtcSet dt rq year month day hour min sec wday immediate => Sys2Proof.Machine.execRtcSet dt rq year month day hour min sec wday immediate s
  | .rtcOsfClear dt rq => Sys2Proof.Machine.execRtcOsfClear dt rq s
  | .rtcAlarmAck dt rq => Sys2Proof.Machine.execRtcAlarmAck dt rq s
  | .rtcLatchRead dt offset => Sys2Proof.Machine.execRtcLatchRead dt offset s
  | .rtcLatchExpiry dt => Sys2Proof.Machine.execRtcLatchExpiry dt s
  | .rtcTrimWindow dt => Sys2Proof.Machine.execRtcTrimWindow dt s
  | .rtcOscStop dt => Sys2Proof.Machine.execRtcOscStop dt s
  | .rtcDiscipline dt off => Sys2Proof.Machine.execRtcDiscipline dt off s
  | .vaultLockout dt => Sys2Proof.Machine.execVaultLockout dt s
  | .vbakSwitch dt toBackup => Sys2Proof.Machine.execVbakSwitch dt toBackup s
  | .logRecordIntake dt => Sys2Proof.Machine.execLogRecordIntake dt s
  | .logMirrorWrite dt => Sys2Proof.Machine.execLogMirrorWrite dt s
  | .logTokenReturn dt code => Sys2Proof.Machine.execLogTokenReturn dt code s
  | .logClear dt rq => Sys2Proof.Machine.execLogClear dt rq s
  | .logWriteMsg dt chan => Sys2Proof.Machine.execLogWriteMsg dt chan s
  | .logReadMsg dt chan => Sys2Proof.Machine.execLogReadMsg dt chan s
  | .logClearMsg dt chan => Sys2Proof.Machine.execLogClearMsg dt chan s
  | .logCountersReset dt rq => Sys2Proof.Machine.execLogCountersReset dt rq s
  | .pickupEntry dt ring => Sys2Proof.Machine.execPickupEntry dt ring s
  | .captureTrigger dt rq k => Sys2Proof.Machine.execCaptureTrigger dt rq k s
  | .captureRearm dt k => Sys2Proof.Machine.execCaptureRearm dt k s
  | .trendRateRestore dt => Sys2Proof.Machine.execTrendRateRestore dt s
  | .recordProtect dt rq k number => Sys2Proof.Machine.execRecordProtect dt rq k number s
  | .recordRelease dt rq k number => Sys2Proof.Machine.execRecordRelease dt rq k number s
  | .captureExport dt rq k number t0 t1 => Sys2Proof.Machine.execCaptureExport dt rq k number t0 t1 s
  | .captureExportDone dt => Sys2Proof.Machine.execCaptureExportDone dt s
  | .captureCountersReset dt rq => Sys2Proof.Machine.execCaptureCountersReset dt rq s
  | .internalCheckFail dt sub => Sys2Proof.Machine.execInternalCheckFail dt sub s
  | .vaultSupplyLow dt below12 => Sys2Proof.Machine.execVaultSupplyLow dt below12 s
  | .crystalRestart dt => Sys2Proof.Machine.execCrystalRestart dt s
  | .sessionCloseNoticeExpiry dt n => Sys2Proof.Machine.execSessionCloseNoticeExpiry dt n s

end Sys2Proof.Machine
end

