-- ==== Sys2Proof/WellFormed.lean ====
section
/-! DEFINITION. Which commands have every operand within the number of places or the width the manual gives it. exec is total: a
place that does not exist changes nothing but the time. -/

namespace Sys2Proof

/-- A session number, SEQ and REQ_ID within their widths (R140). -/
def reqWf (rq : Req) : Bool :=
  decide (rq.sess < 16) && decide (rq.seq < 4294967296) && decide (rq.reqId < 65536) && decide (0 < rq.parts) && decide (rq.cut ≤ 64)

/-- A number that names a session, or from 16 on an association without one. -/
def sessWf (n : Nat) : Bool := decide (n < 4294967312)

/-- The fields of a signed object's trailer within their widths (R494). -/
def signedWf (o : SignedObj) : Bool :=
  decide (o.magic.length = 4) && decide (o.version < 256) && decide (o.kind < 256) && decide (o.rsaAnchor < 256) && decide (o.slhAnchor < 256) &&
    decide (o.svn < 4294967296) && decide (o.contentLength < 4294967296) && decide (o.digest.length = 48) && decide (o.rsaN.length = 384) &&
    decide (o.rsaE < 4294967296) && decide (o.slhPk.length = 48) && decide (o.running.length = 48) && decide (o.fcl < 65536) && decide (o.fclMin < 65536)

/-- An address within AA.OOOO/s (R109). -/
def addrWf (a : Addr) : Bool := decide (a.area < 256) && decide (a.obj < 65536) && decide (a.sub < 65536)

/-- A frame's addresses and Ethertype within their widths. -/
def frameWf (f : Frame) : Bool := decide (f.dst < 281474976710656) && decide (f.src < 281474976710656) && decide (f.etype < 65536)

/-- Is every operand of a command within its bounds. -/
def wellFormed (i : Instr) : Bool :=
  match i with
  | .supplyGood _ => true
  | .hubRelease _ ga _ _ => decide (ga < 32)
  | .firmwareImageRead _ => true
  | .firmwareVerified _ obj => signedWf obj
  | .unitStartComplete _ sub => decide (sub < 31)
  | .holdupReady _ => true
  | .oscReady _ => true
  | .partImageRead _ => true
  | .partImageVerified _ obj => signedWf obj
  | .diePowerUpDone _ die => decide (die < 6)
  | .d2dLinkFail _ die link => decide (die < 6) && decide (link < 2)
  | .ccLockstepMismatch _ pair => decide (pair < 2)
  | .wdtService _ pair => decide (pair < 2)
  | .wdtLapse _ => true
  | .fatalError _ cause => decide (cause < 65536)
  | .dumpWriteDone _ => true
  | .dumpProtect _ rq slot => reqWf rq && decide (slot < 5)
  | .dumpRelease _ rq slot => reqWf rq && decide (slot < 5)
  | .restart _ rq => reqWf rq
  | .fwImageApply _ rq slot => reqWf rq && decide (slot < 2)
  | .fwApplyDone _ obj => signedWf obj
  | .fwActivate _ rq slot => reqWf rq && decide (slot < 2)
  | .unitDisable _ rq sub => reqWf rq && decide (sub < 31)
  | .unitEnable _ rq sub => reqWf rq && decide (sub < 31)
  | .unitDrained _ sub => decide (sub < 31)
  | .commission _ rq => reqWf rq
  | .quarantineEnter _ rq => reqWf rq
  | .quarantineLeave _ rq => reqWf rq
  | .decommission _ rq _ => reqWf rq
  | .moduleInsert _ => true
  | .moduleRemove _ => true
  | .transceiverInsert _ cage => decide (cage < 8)
  | .cagePowerOn _ cage => decide (cage < 8)
  | .transceiverRemove _ cage => decide (cage < 8)
  | .cageOvercurrent _ cage => decide (cage < 8)
  | .cageRestore _ rq cage => reqWf rq && decide (cage < 8)
  | .sfpIdRead _ cage _ => decide (cage < 8)
  | .sfpDdmPoll _ cage _ => decide (cage < 8)
  | .lampTest _ rq => reqWf rq
  | .lampTestEnd _ => true
  | .pfAssert _ _ => true
  | .pfClear _ => true
  | .rideThroughExpiry _ => true
  | .vinLossCharging _ => true
  | .tempWarning _ die _ => decide (die < 6)
  | .tempFatal _ die _ => decide (die < 6)
  | .ppsInEdge _ held => decide (held < 4294967296)
  | .irigFrame _ held _ => decide (held < 4294967296)
  | .ppsAbsent _ => true
  | .ppsOutRise _ => true
  | .ppsOutFall _ => true
  | .tamperSample _ _ _ => true
  | .tamperSensorEvent _ source => decide (source < 6)
  | .serviceWindow _ rq secs => reqWf rq && decide (secs < 4294967296)
  | .serviceWindowExpiry _ => true
  | .dtlsClientHello _ port _ => decide (port < 4)
  | .jalynDatagram _ sess size version seq _ ackNo => decide (sess < 16) && decide (size < 65536) && decide (version < 256) && decide (seq < 4294967296) && decide (ackNo < 4294967296)
  | .hello _ _ _ => true
  | .readMsg _ rq _ addrs => reqWf rq && addrs.all addrWf
  | .writeMsg _ rq es => reqWf rq && es.all fun e => addrWf e.addr
  | .execMsg _ rq e => reqWf rq && addrWf e.addr
  | .tableRead _ rq addr first rows => reqWf rq && addrWf addr && decide (first < 4294967296) && decide (rows < 65536)
  | .tableWrite _ rq addr first _ => reqWf rq && addrWf addr && decide (first < 4294967296)
  | .bulk _ rq addr _ offset count _ => reqWf rq && addrWf addr && decide (offset < 18446744073709551616) && decide (count < 65536)
  | .subscribe _ rq addr mode minInterval period deadband => reqWf rq && addrWf addr && decide (mode < 256) && decide (minInterval < 4294967296) && decide (period < 4294967296) && decide (deadband < 18446744073709551616)
  | .ack _ sess ackNo => sessWf sess && decide (ackNo < 4294967296)
  | .jalynAckDue _ sess => decide (sess < 16)
  | .jalynRetransmit _ sess seq => sessWf sess && decide (seq < 4294967296)
  | .sessionIdleNotice _ sess => decide (sess < 16)
  | .sessionIdleExpiry _ sess => decide (sess < 16)
  | .sessionClose _ rq n => reqWf rq && decide (n < 16)
  | .notifyPeriodic _ sess subId => decide (sess < 16) && decide (subId < 65536)
  | .notifyMinIntervalEnd _ sess subId => decide (sess < 16) && decide (subId < 65536)
  | .execDone _ sess reqId => decide (sess < 16) && decide (reqId < 65536)
  | .notifyLost _ sess => decide (sess < 16)
  | .relayDatagram _ _ _ => true
  | .gatewayReply _ p _ len _ => decide (p < 66) && decide (len < 16)
  | .gatewayTimeout _ p => decide (p < 66)
  | .stageCommit _ rq => reqWf rq
  | .stageApply _ => true
  | .stageDiscard _ rq => reqWf rq
  | .bundleApply _ rq => reqWf rq
  | .pathReset _ rq => reqWf rq
  | .linkDown _ port => decide (port < 9)
  | .linkUp _ port speed partner => decide (port < 9) && decide (speed < 65536) && decide (partner < 4294967296)
  | .txDisableHoldEnd _ port => decide (port < 9)
  | .portAdminWrite _ rq port _ => reqWf rq && decide (port < 9)
  | .portModeWrite _ rq port mode => reqWf rq && decide (port < 9) && decide (mode < 256)
  | .rxFrame _ port f => decide (port < 9) && frameWf f
  | .pauseEnd _ port => decide (port < 9)
  | .pauseCeilingReached _ port => decide (port < 9)
  | .pauseLockoutEnd _ port => decide (port < 9)
  | .nodeAgeOut _ group mac => decide (group < 3) && decide (mac < 281474976710656)
  | .supervisionTx _ group => decide (group < 3)
  | .txFrameDone _ port => decide (port < 9)
  | .portCountersReset _ rq port => reqWf rq && decide (port < 9)
  | .groupCountersReset _ rq group => reqWf rq && decide (group < 3)
  | .servoFreqWrite _ incr => decide (incr < 18446744073709551616)
  | .slewComplete _ => true
  | .secondRollover _ => true
  | .syncReceiptTimeout _ => true
  | .holdoverLimitExpiry _ => true
  | .announceReceiptTimeout _ port also => decide (port < 6) && also.all (· < 6)
  | .ptpSyncTx _ port => decide (port < 6)
  | .ptpAnnounceTx _ port => decide (port < 6)
  | .pdelayReqTx _ port => decide (port < 6)
  | .ptpFaultyRetry _ port => decide (port < 6)
  | .timeSet _ rq _ => reqWf rq
  | .timeAdjust _ rq _ => reqWf rq
  | .stepConfirm _ rq _ => reqWf rq
  | .ptpProfileWrite _ rq profile => reqWf rq && decide (profile < 256)
  | .leapSecond _ => true
  | .timeCountersReset _ rq => reqWf rq
  | .launchTimeReached _ port => decide (port < 9)
  | .launchLate _ port => decide (port < 9)
  | .learnedRateUpdate _ entry => decide (entry < 2048)
  | .rowClose _ => true
  | .rowRelease _ => true
  | .streamCountersReset _ rq entry => reqWf rq && decide (entry < 2048)
  | .svPortCountersReset _ rq => reqWf rq
  | .planCountersReset _ rq => reqWf rq
  | .conditioningComplete _ => true
  | .bankSeal _ rq bank => reqWf rq && decide (bank < 128)
  | .profileSwap _ rq profile row mode xfade => reqWf rq && decide (profile < 64) && decide (row < 18446744073709551616) && decide (mode < 256) && decide (xfade < 65536)
  | .profileDisarm _ rq profile => reqWf rq && decide (profile < 64)
  | .filterKat _ array _ _ => decide (array < 4)
  | .condCountersReset _ rq => reqWf rq
  | .gooseRequest _ ring => decide (ring < 256)
  | .gooseRetransmit _ block => decide (block < 512)
  | .gooseTalExpiry _ entry => decide (entry < 4096)
  | .latchListenEnd _ latch => decide (latch < 64)
  | .goCountersReset _ rq => reqWf rq
  | .osCountersReset _ rq => reqWf rq
  | .gsubCountersReset _ rq => reqWf rq
  | .partStart _ rq p => reqWf rq && decide (p < 66)
  | .partStop _ rq p => reqWf rq && decide (p < 66)
  | .partReset _ rq p => reqWf rq && decide (p < 66)
  | .partFault _ p cause core detail => decide (p < 66) && decide (cause < 65536) && decide (core < 128) && decide (detail < 4294967296)
  | .pwAbortWrite _ p core _ => decide (p < 66) && decide (core < 128)
  | .fenceComplete _ p => decide (p < 66)
  | .fenceTimeout _ p => decide (p < 66)
  | .partitionDrained _ p => decide (p < 66)
  | .disableTimeoutExpiry _ d => (match d with
    | .part p => decide (p < 66)
    | .unit n => decide (n < 32)
    | .flow f => decide (f < 16384))
  | .restartDelayExpiry _ p => decide (p < 66)
  | .partImageApply _ rq p => reqWf rq && decide (p < 66)
  | .partitionZeroed _ p => decide (p < 66)
  | .migPrepare _ rq p => reqWf rq && decide (p < 66)
  | .migStart _ rq p path peer dest _ => reqWf rq && decide (p < 66) && decide (path < 256) && decide (peer < 281474976710656) && decide (dest < 256)
  | .migRoundEnd _ p _ marked => decide (p < 66) && marked.all (· < 4503599627370496)
  | .migRestoreComplete _ p => decide (p < 66)
  | .migAbort _ rq p => reqWf rq && decide (p < 66)
  | .migPathFail _ p => decide (p < 66)
  | .ttSubmit _ p core => decide (p < 66) && decide (core < 128)
  | .submitRingEntry _ ring => decide (ring < 256)
  | .triggerPendingRelease _ ring => decide (ring < 320)
  | .ttDispatch _ => true
  | .ttDone _ core _ _ => decide (core < 128)
  | .ttCommit _ core _ _ => decide (core < 128)
  | .commitSlotFree _ ring => decide (ring < 256)
  | .ttCancel _ p core _ => decide (p < 66) && decide (core < 128)
  | .ttFlowOpen _ p core _ => decide (p < 66) && decide (core < 128)
  | .ttFlowClose _ p core _ => decide (p < 66) && decide (core < 128)
  | .ttResultRead _ core => decide (core < 128)
  | .budgetStop _ core => decide (core < 128)
  | .ringProdWrite _ p ring _ _ => decide (p < 66) && decide (ring < 256)
  | .ringConsWrite _ p ring _ => decide (p < 66) && decide (ring < 256)
  | .dmaEntry _ ring => decide (ring < 256)
  | .dmaComplete _ _ => true
  | .dmaEngineFault _ engine => decide (engine < 8)
  | .ttCountersReset _ rq => reqWf rq
  | .snapshotLoRead _ p core offset => decide (p < 66) && decide (core < 128) && decide (offset < 65536)
  | .cfMissedRead _ p core => decide (p < 66) && decide (core < 128)
  | .pfDeniedRead _ p core => decide (p < 66) && decide (core < 128)
  | .lgOverrunRead _ p core slot => decide (p < 66) && decide (core < 128) && decide (slot < 64)
  | .registerWrite _ _ p core offset _ => decide (p < 66) && decide (core < 128) && decide (offset < 65536)
  | .phPost _ ep core _ => decide (ep < 66) && decide (core < 128)
  | .phStageHeader _ ep core _ => decide (ep < 66) && decide (core < 128)
  | .phTake _ ep core _ => decide (ep < 66) && decide (core < 128)
  | .phBellRing _ ep core _ => decide (ep < 66) && decide (core < 128)
  | .phAckTimeout _ chan => decide (chan < 1024)
  | .phCountersReset _ rq => reqWf rq
  | .cycleBoundary _ task => decide (task < 64)
  | .logicShadowCopyDone _ p => decide (p < 66)
  | .onlineWrite _ rq p task offset size value => reqWf rq && decide (p < 66) && decide (task < 64) && decide (offset < 4294967296) && decide (size < 256) && decide (value < 18446744073709551616)
  | .logicRestart _ rq p mode _ => reqWf rq && decide (p < 66) && decide (mode < 256)
  | .forceTableWrite _ rq row _ => reqWf rq && decide (row < 4096)
  | .forceClearAll _ rq => reqWf rq
  | .forceNotifyPeriodic _ => true
  | .forceNoticeMissed _ => true
  | .logicUnitFault _ => true
  | .logicCountersReset _ rq => reqWf rq
  | .laneTrainSwitch _ lane => decide (lane < 2)
  | .laneUp _ lane => decide (lane < 2)
  | .pairHelloTx _ => true
  | .pairHello _ _ => true
  | .pairEnableWrite _ rq _ => reqWf rq
  | .mirror _ _ mid => decide (mid < 4294967296)
  | .mirrorAck _ mid status at_ => decide (mid < 4294967296) && decide (status < 65536) && decide (-9223372036854775808 ≤ at_) && decide (at_ ≤ 9223372036854775807)
  | .presence _ row _ _ => decide (row < 18446744073709551616)
  | .seats _ row _ => decide (row < 18446744073709551616)
  | .tags _ row _ => decide (row < 18446744073709551616)
  | .agree _ row _ => decide (row < 18446744073709551616)
  | .eqLost _ row => decide (row < 18446744073709551616)
  | .eqDeadlineExpiry _ => true
  | .digest _ p row digest => decide (p < 66) && decide (row < 18446744073709551616) && decide (digest < 18446744073709551616)
  | .digestWaitExpiry _ p row => decide (p < 66) && decide (row < 18446744073709551616)
  | .align _ row _ => decide (row < 18446744073709551616)
  | .importCheckpoint _ p => decide (p < 66)
  | .beaconTx _ => true
  | .takeoverEval _ => true
  | .isolationTimeExpiry _ => true
  | .claimRaise _ d => decide (d < 64)
  | .handover _ rq d => reqWf rq && decide (d < 64)
  | .handoverRx _ d claim row _ => decide (d < 64) && decide (claim < 4294967296) && decide (row < 18446744073709551616)
  | .handoverAck _ d _ => decide (d < 64)
  | .handoverAckTimeout _ d => decide (d < 64)
  | .bolpelCycle _ => true
  | .bolpelRequest _ ring => decide (ring < 256)
  | .bolpelFrameEnd _ => true
  | .bolpelEcho _ e => decide (e.sync < 65536) && decide (e.crc < 4294967296)
  | .bolpelEchoTimeout _ => true
  | .reportTx _ => true
  | .report _ _ => true
  | .iulDown _ => true
  | .timeXcheck _ _ => true
  | .selftestCheck _ bit _ => decide (bit < 10)
  | .pairCountersReset _ rq => reqWf rq
  | .pfTokenRefill _ p => decide (p < 66)
  | .pfCountersReset _ rq => reqWf rq
  | .imageLoaderWriteRefused _ region => decide (region < 65536)
  | .keyWrite _ rq slot kind use world masters life wrapSlot kcv _ => reqWf rq && decide (slot < 64) && decide (kind < 256) && decide (use < 256) && decide (world < 256) && decide (masters < 18446744073709551616) && decide (life < 256) && decide (wrapSlot < 256) && decide (kcv < 4294967296)
  | .keyCommit _ rq slot => reqWf rq && decide (slot < 64)
  | .keyDiscard _ rq => reqWf rq
  | .keyInvalidate _ rq slot => reqWf rq && decide (slot < 64)
  | .keyErase _ rq slot => reqWf rq && decide (slot < 64)
  | .keySlotIntegrityCheck _ _ => true
  | .vaultOpComplete _ facts => signedWf facts.signed && decide (facts.prefectDigest.length ≤ 32)
  | .vaultSegmentEnd _ => true
  | .trafficKeyDerived _ idx => decide (idx < 32)
  | .vaultMacRequest _ chan => decide (chan < 1024)
  | .attest _ rq _ => reqWf rq
  | .fwSvnConfirm _ rq => reqWf rq
  | .imageSvnConfirm _ rq p => reqWf rq && decide (p < 66)
  | .claimRearm _ rq d => reqWf rq && decide (d < 64)
  | .rtcSecondBoundary _ => true
  | .rtcCommit _ => true
  | .rtcCommitImmediate _ => true
  | .alarmArm _ => true
  | .rtcSet _ rq year month day hour min sec wday _ => reqWf rq && decide (year < 65536) && decide (month < 256) && decide (day < 256) && decide (hour < 256) && decide (min < 256) && decide (sec < 256) && decide (wday < 256)
  | .rtcOsfClear _ rq => reqWf rq
  | .rtcAlarmAck _ rq => reqWf rq
  | .rtcLatchRead _ offset => decide (offset < 256)
  | .rtcLatchExpiry _ => true
  | .rtcTrimWindow _ => true
  | .rtcOscStop _ => true
  | .rtcDiscipline _ _ => true
  | .vaultLockout _ => true
  | .vbakSwitch _ _ => true
  | .logRecordIntake _ => true
  | .logMirrorWrite _ => true
  | .logTokenReturn _ code => decide (code < 4096)
  | .logClear _ rq => reqWf rq
  | .logWriteMsg _ chan => decide (chan < 1024)
  | .logReadMsg _ chan => decide (chan < 1024)
  | .logClearMsg _ chan => decide (chan < 1024)
  | .logCountersReset _ rq => reqWf rq
  | .pickupEntry _ ring => decide (ring < 256)
  | .captureTrigger _ rq k => reqWf rq && decide (k < 16)
  | .captureRearm _ k => decide (k < 16)
  | .trendRateRestore _ => true
  | .recordProtect _ rq k number => reqWf rq && decide (k < 16) && decide (number < 4294967296)
  | .recordRelease _ rq k number => reqWf rq && decide (k < 16) && decide (number < 4294967296)
  | .captureExport _ rq k number _ _ => reqWf rq && decide (k < 16) && decide (number < 4294967296)
  | .captureExportDone _ => true
  | .captureCountersReset _ rq => reqWf rq
  | .internalCheckFail _ sub => decide (sub < 31)
  | .vaultSupplyLow _ _ => true
  | .crystalRestart _ => true
  | .sessionCloseNoticeExpiry _ n => decide (n < 16)

end Sys2Proof
end

