-- ==== Sys2Proof/Safety.lean ====
section
/-! DEFINITION. The terms the statements are written in: which components of the state a command leaves alone, when a session's
command object runs, and the properties every command keeps. -/

namespace Sys2Proof.Machine

/-- The components of the state. -/
inductive Comp where
  | pending | now | freeCtr | ident | store | ctrs | hw | boot | jal | tm | net | plan | cond
  | pub | parts | tt | ph | lg | pair | pf | vault | rtc | logb | cap | mem | dirty
  deriving DecidableEq, Repr

/-- Every component a hub reset may change: all but the waiting commands, local time and the identity. -/
def Comp.hub : List Comp :=
  [.freeCtr, .store, .ctrs, .hw, .boot, .jal, .tm, .net, .plan, .cond, .pub, .parts, .tt, .ph, .lg, .pair, .pf, .vault, .rtc, .logb, .cap, .mem, .dirty]

/-- Two states agree in a component. -/
def Comp.same (c : Comp) (s t : State) : Prop :=
  match c with
  | .pending => t.pending = s.pending
  | .now => t.now = s.now
  | .freeCtr => t.freeCtr = s.freeCtr
  | .ident => t.ident = s.ident
  | .store => t.store = s.store
  | .ctrs => t.ctrs = s.ctrs
  | .hw => t.hw = s.hw
  | .boot => t.boot = s.boot
  | .jal => t.jal = s.jal
  | .tm => t.tm = s.tm
  | .net => t.net = s.net
  | .plan => t.plan = s.plan
  | .cond => t.cond = s.cond
  | .pub => t.pub = s.pub
  | .parts => t.parts = s.parts
  | .tt => t.tt = s.tt
  | .ph => t.ph = s.ph
  | .lg => t.lg = s.lg
  | .pair => t.pair = s.pair
  | .pf => t.pf = s.pf
  | .vault => t.vault = s.vault
  | .rtc => t.rtc = s.rtc
  | .logb => t.logb = s.logb
  | .cap => t.cap = s.cap
  | .mem => t.mem = s.mem
  | .dirty => t.dirty = s.dirty

/-- Two states agree in every component outside a list. -/
def agree (but : List Comp) (s t : State) : Prop := ∀ c, c ∉ but → c.same s t

/-- Nothing but the sessions' own entries (subscriptions, queues, responses) and their counts of lost notifications differs in the
Jalyn component. -/
def jalBut (s t : State) : Prop := t.jal = { s.jal with sess := t.jal.sess, lostCtr := t.jal.lostCtr }

/-- Besides its own effect: subscriptions may have seen new values, and only the listed components differ from the state a. -/
def Frame (but : List Comp) (a t : State) : Prop := (Comp.jal ∉ but → jalBut a t) ∧ agree (.jal :: but) a t

/-- The command completes: exec answers a next state t, which differs from a (the state after the command's ticks have passed) only in
the listed components and in what subscriptions have seen, and of which `eff` holds. -/
def Does (i : Instr) (s a : State) (but : List Comp) (eff : State → Prop) : Prop :=
  ∃ t, exec i s = .next t ∧ Frame but a t ∧ eff t

/-- Is it a request's turn on its session (R143, R147, R151, R153): its body agrees with its LENGTH, it is new, every message before it has
been received, and no request before it is still to be answered. -/
def inTurn (se : Sess) (rq : Req) : Bool :=
  rq.lenOk && decide (se.reqSeq ≤ rq.seq) && decide (rq.seq < (rxParts se rq).rxSeq) && !behind se rq.seq

/-- May session rq.sess run the command object ob/sub with an argument now (R132, R140, R146, R147, R153): Jalyn is up, the session is open,
it is the request's turn, every check of R132 passes, and the object's command does not run. -/
def cmdRuns (s : State) (rq : Req) (ob sub : Nat) (arg : Val) : Bool :=
  jalynUp s && match sessOf s rq.sess, descOf ob with
    | some se, some d => inTurn se rq && objCheck s se (addrOf ob sub) .exec == okS && inLims d arg &&
        unitCheck s (addrOf ob sub) d .exec == okS && !execRuns s (addrOf ob sub)
    | _, _ => false

/-- May session rq.sess write the object ob/sub with a value now (R121, R132, R140, R147, R153, R164). -/
def writeRuns (s : State) (rq : Req) (ob sub : Nat) (v : Val) : Bool :=
  jalynUp s && !romServes s && match sessOf s rq.sess, descOf ob with
    | some se, some d => inTurn se rq && objCheck s se (addrOf ob sub) .write == okS && inLims d v &&
        unitCheck s (addrOf ob sub) d .write == okS && d.pers != .s
    | _, _ => false

/-- Has session rq.sess a stored response to the request whose one entry carries a status. -/
def answered (t : State) (rq : Req) (status : Nat) : Bool :=
  match sessOf t rq.sess with
  | some se => se.resps.any fun r => r.seq == rq.seq && r.entries.map RespE.status == [status]
  | none => false

/-- May session rq.sess, open as se, have a new request run (R147, R153). -/
abbrev rqOpen (s : State) (rq : Req) (se : Sess) : Prop :=
  jalynUp s = true ∧ sessOf s rq.sess = some se ∧ inTurn se rq = true

/-- May session rq.sess write one row of the table ob/sub with octets that are the encoding of v (R121, R132, R144, R153). -/
def rowRuns (s : State) (rq : Req) (ob sub row : Nat) (bs : List Byte) (v : Val) : Bool :=
  running s && match sessOf s rq.sess, descOf ob with
    | some se, some d => inTurn se rq && objCheck s se (addrOf ob sub) .tableWrite == okS && inLims d v &&
        !lockedRow ob sub row && ownLimit s ob sub v == okS && unitCheck s (addrOf ob sub) d .write == okS && (match d.typ with
          | .tbl fs cap => decide (row < cap) && (match decRec fs bs with
            | .ok w => w == v
            | .error _ => false)
          | _ => false)
    | _, _ => false

/-- The rows a table may hold. -/
def tblCap (ty : OTyp) : Option Nat :=
  match ty with
  | .tbl _ cap => some cap
  | _ => none

/-- The octets an object that BULK moves may hold (R145). -/
def octCap (ad : Addr) : Option Nat :=
  match (descOf (obAddr ad)).map Desc.typ with
  | some (.one (.oct m)) => some m
  | _ => none

/-- May an entry of a WRITE carry an object of this type (R115): no table, and no octets beyond 1,024. -/
def entryTyp (ty : OTyp) : Bool :=
  match ty with
  | .one (.oct m) => decide (m ≤ 1024)
  | .tbl _ _ => false
  | _ => true

/-- Do a type code and octets encode a value of a type (R113). -/
def decodes (ty : OTyp) (typ : Nat) (bs : List Byte) (v : Val) : Bool :=
  match decVal ty typ bs with
  | .ok w => w == v
  | .error _ => false

/-- Has session rq.sess a stored response to the request of an opcode, with a message status, further fields and entries. -/
def answeredWith (t : State) (rq : Req) (op mstatus : Nat) (aux : List Nat) (es : List RespE) : Bool :=
  match sessOf t rq.sess with
  | some se => se.resps.any fun r =>
      r.seq == rq.seq && r.reqId == rq.reqId && r.op == op && r.mstatus == mstatus && r.aux == aux && r.entries == es && r.wait.isEmpty
  | none => false

/-- The counters a test picks out are zero with SAT clear, and every other counter is as it was. -/
def cleared (a t : State) (pick : Nat → Nat → Bool) : Prop :=
  ∀ ob sub, sub < 65536 → tabGetD t.ctrs (okey ob sub 0) {} = if pick ob sub then {} else tabGetD a.ctrs (okey ob sub 0) {}

/-- The hub has been frozen for a fatal error of a cause (R102, R104, R105): egress is blocked and beacons stop, no session is left,
the dump of that cause is begun into the slot the writer chooses, and the time counter runs on. -/
abbrev frozenFor (a t : State) (cause : Nat) : Prop :=
  t.boot.phase = .dump ∧ t.boot.dumpNow = dumpSlot a ∧ (dumpOf t 4).st = 3 ∧ (dumpOf t 4).cause = cause ∧
    t.pf.blocked = true ∧ t.pf.beaconsOff = true ∧ t.jal = { lastCommitRow := a.jal.lastCommitRow } ∧ t.tm = a.tm

/-- Is bit b raised at an endpoint: pending, or carried by a bell item made ready of it (R401, R403). -/
abbrev rung (s : State) (ep b : Nat) : Bool :=
  bit (bellOf s ep).pend b || s.tt.ready.any fun i => i.part == ep && i.src == .bell && bit i.d.arg0 b

/-- Does an item still use flow f, whose entry is y: one ready, in service, or ended and not yet completed in its turn (R367). -/
abbrev flowUsed (s : State) (f : Nat) (y : Flow) : Bool :=
  !(y.order.isEmpty && y.fin.isEmpty) || s.tt.ready.any (fun i => i.d.flow == f) || s.tt.run.any fun r => r.2.item.d.flow == f

/-- The hub is held in reset: no session is left, and the next start shows a cause. -/
abbrev heldReset (a t : State) (cause : Nat) : Prop :=
  t.boot.phase = .reset ∧ t.boot.cause = cause ∧ t.pf.blocked = true ∧ t.jal = { lastCommitRow := a.jal.lastCommitRow } ∧ t.net.jobs = [] ∧
    t.tt = {} ∧ t.ph = {}

/-- Is a value one of a field type's (R112), outside a record. -/
def fldOk (t : FT) (f : Fld) : Bool :=
  match f with
  | .o l => (match t with
    | .oct m => decide (l.length ≤ m)
    | .str m => decide (l.length ≤ m) && utf8Ok l
    | _ => false)
  | .i x => (match t with
    | .i16 => decide (-32768 ≤ x) && decide (x < 32768)
    | .i32 => decide (-2147483648 ≤ x) && decide (x < 2147483648)
    | .i64 => decide (-9223372036854775808 ≤ x) && decide (x < 9223372036854775808)
    | .time => decide (-9223372036854775808 ≤ x) && decide (x < 9223372036854775808)
    | _ => false)
  | .n x => (match t with
    | .oct _ => false
    | .str _ => false
    | .i16 => false
    | .i32 => false
    | .i64 => false
    | .time => false
    | .bool => decide (x ≤ 1)
    | _ => decide (x < 256 ^ ftLen t))

/-- Are values those of a record's fields: an OCT field has its full length, and a text ends in no zero octet. -/
def recOk : List FT → Val → Bool
  | [], [] => true
  | t :: fs, f :: v => fldOk t f && (match t with
    | .oct m => (fldO f).length == m
    | .str _ => trimZ (fldO f) == fldO f
    | _ => true) && recOk fs v
  | _, _ => false

/-- Is a value one of an object's type. -/
def valOk (ty : OTyp) (v : Val) : Bool :=
  match ty with
  | .none => v.isEmpty
  | .one t => v.length == 1 && fldOk t (vAt v 0)
  | .record fs => recOk fs v
  | .tbl fs _ => recOk fs v

/-- Is an object a table. -/
def isTable (ty : OTyp) : Bool :=
  match ty with
  | .tbl _ _ => true
  | _ => false

/-- The property of the state every command keeps: guest memory is in canonical form. -/
def Inv (s : State) : Prop := Memory.wf s.mem = true

/-- What no command takes back: blown fuses, raised minima, the vault's count of tamper records, and local time (R92, R496, R515). -/
def Onward (s t : State) : Prop :=
  (s.boot.fuseProv = true → t.boot.fuseProv = true) ∧ (s.boot.fuseComm = true → t.boot.fuseComm = true) ∧
    (s.boot.fuseDecom = true → t.boot.fuseDecom = true) ∧ s.boot.svnMin ≤ t.boot.svnMin ∧ s.vault.bundleSvn ≤ t.vault.bundleSvn ∧
    s.vault.recCount ≤ t.vault.recCount ∧ s.now ≤ t.now

end Sys2Proof.Machine
end

