-- ==== Sys2Proof/Certificates/Slice0/Obligations.lean ====
section
/-! DEFINITION. The statements for the provers: what each command and the block do, from the spec's numbered rules. -/

set_option linter.unusedVariables false
set_option Elab.async false

open Sys2Proof Sys2Proof.Machine

/-- SUPPLY_GOOD starts the hold-up charge and the 20 ms to hub release; HOLDUP_READY and OSC_READY make the store and unit 30 ready;
PF_ASSERT with a ready store starts the ride-through timer and records 0x0111; PF_CLEAR in time ends it and records 0x0112 with its
length; insertion closes and removal opens the loop; PF_ASSERT while the store is not ready resets the hub at once. Outside the
components each clause names nothing changes. That the oscillator and cage power follow at supply good is the model's reading.
HUB_RELEASE, when due with the supply present, starts the boot ROM on the active slot with the 2 s boot timeout, moves the latched cause
to RESET_CAUSE, reads SEL, takes the geographic address or 0xFF on even parity, and ends the vault port's lockout; in QUARANTINE and
DECOMMISSIONED the ROM-resident gateway comes up instead. RIDE_THROUGH_EXPIRY during a power failure and an executed RESTART hold the
hub in reset with the Prefect's block on and every session gone; the first locks the vault's port out. Local time and the identity never
change. -/
def Obligations.SupplyEventsHubResetsAndRelease : Prop := ∀ (dt : Nat) (s : State),
  let a := advance dt s
  (a.hw.vinGood = false → a.hw.pf = false → a.boot.phase = .reset → Does (.supplyGood dt) s a [.hw, .boot, .logb] fun t =>
    t.hw.vinGood = true ∧ t.hw.hubDue = some (a.now + 20000000) ∧ t.hw.holdup = 0 ∧ t.hw.osc = 0 ∧ unitSt t 0 = (if unitSt a 0 ==
    .off then .ready else unitSt a 0) ∧
    t.hw.cages = tabMap (fun n c => if cageFits a n && c.present && !c.tripped &&
    !c.powered then { c with onDue := some (a.now + 50000000) } else c) a.hw.cages) ∧
  (a.hw.vinGood = true → a.hw.holdup = 0 → Does (.holdupReady dt) s a [.hw] fun t =>
    t.hw = { a.hw with holdup := 1 }) ∧
  (a.hw.osc = 0 → a.hw.vinGood = true → Does (.oscReady dt) s a [.hw, .boot, .logb] fun t =>
    t.hw = { a.hw with osc := 1 } ∧ unitSt t 30 = (if running a then .ready else unitSt a 30)) ∧
  (∀ ov, a.hw.pf = false → a.hw.vinGood = true → a.hw.holdup = 1 → Does (.pfAssert dt ov) s a [.hw, .ctrs, .logb] fun t =>
    t.hw =
    { a.hw with vinGood := false, pf := true, pfAt := a.now - (if ov then 10000 else 100000), holdup := 2, rideDue := some (a.now + 20000000) } ∧
    t.logb.offered = a.logb.offered ++ [⟨0x0111, 64, []⟩]) ∧
  (∀ ov, a.hw.pf = false → a.hw.vinGood = true → a.hw.holdup ≠ 1 → Does (.pfAssert dt ov) s a Comp.hub fun t =>
    heldReset a t (if a.boot.phase == .reset && a.boot.cause == 0 then 0 else 1) ∧ t.hw.vinGood = false ∧ t.hw.pf = false) ∧
  (a.hw.pf = true → dueBy a a.hw.rideDue = false → Does (.pfClear dt) s a [.hw, .logb] fun t =>
    t.hw = { a.hw with vinGood := true, pf := false, rideDue := none, holdup := 1 } ∧ t.logb.offered = a.logb.offered ++ [⟨0x0112, 64,
    [((a.now - 1000000 - a.hw.pfAt : Nat) : Int)]⟩]) ∧
  (a.hw.seated = false → Does (.moduleInsert dt) s a [.hw] fun t =>
    t.hw = { a.hw with seated := true, loopOpen := false }) ∧
  (Does (.moduleRemove dt) s a [.hw] fun t =>
    t.hw = { a.hw with seated := false, loopOpen := true }) ∧
  (∀ ga gap selB, a.boot.phase = .reset → a.hw.vinGood = true → dueBy a a.hw.hubDue = true → life a < 3 →
    Does (.hubRelease dt ga gap selB) s a [.freeCtr, .ctrs, .hw, .boot, .parts, .pair, .pf, .vault, .rtc, .logb, .cap] fun t =>
    t.boot.phase = .rom ∧ t.boot.slotTry = activeSlot a ∧ t.boot.wdtBoot = some (a.now + 2000000000) ∧ t.boot.resetCause =
    a.boot.cause ∧ t.hw.strapB = selB ∧
    t.hw.geo = (if (b2n gap + sumN ((upto 5).map fun i => b2n (bit ga i))) % 2 == 0 then 0xFF else ga % 32) ∧ t.rtc.lockout = false) ∧
  (∀ ga gap selB, a.boot.phase = .reset → a.hw.vinGood = true → dueBy a a.hw.hubDue = true → 3 ≤ life a →
    Does (.hubRelease dt ga gap selB) s a [.freeCtr, .ctrs, .hw, .boot, .parts, .pair, .pf, .vault, .rtc, .logb, .cap] fun t =>
    t.boot.phase = .gateway ∧ t.boot.wdtBoot = none ∧ t.boot.resetCause = a.boot.cause ∧ t.hw.strapB = selB ∧ t.rtc.lockout = false) ∧
  (a.hw.pf = true → dueBy a a.hw.rideDue = true → Does (.rideThroughExpiry dt) s a Comp.hub fun t =>
    heldReset a t 1 ∧ t.rtc.lockout = true ∧ t.hw.pf = false) ∧
  (∀ rq, cmdRuns a rq 0x010014 0 [] = true → Does (.restart dt rq) s a Comp.hub fun t =>
    heldReset a t 3 ∧ t.hw.hubDue = some a.now)

/-- FIRMWARE_IMAGE_READ hands the slot to the vault; FIRMWARE_VERIFIED starts an accepted image, on a first refusal tries the other slot
and on a second enters boot recovery; UNIT_START_COMPLETE ends a unit's start in the state R79 gives it, and waits for the traffic keys
where R505 says; FW_IMAGE_APPLY pends and FW_APPLY_DONE of an accepted image fills the slot and empties the buffer; FW_ACTIVATE moves
the active mark to a VALID slot; FW_SVN_CONFIRM raises the minimum to the running SVN. A load into the running slot, an activation of a
slot that is not VALID, and a confirmation with an older VALID image in the other slot answer STATE; a refused image leaves its slot
INVALID; one accepted in boot recovery is activated and restarted into. That an applied image's slot shows its SVN and digest is as
01.0023 says; the answers' timing is the model's. -/
def Obligations.FirmwareStartsFromAVerifiedSlot : Prop := ∀ (dt : Nat) (s : State),
  let a := advance dt s
  (a.boot.phase = .rom → Does (.firmwareImageRead dt) s a [.boot] fun t =>
    t.boot = { a.boot with phase := .verify }) ∧
  (∀ obj, a.boot.phase = .verify → fwFail a obj = 0 → Does (.firmwareVerified dt obj) s a [.freeCtr, .store, .ctrs, .boot, .cond,
    .parts, .tt, .lg, .pair, .pf, .vault, .logb, .cap] fun t =>
    t.boot.phase = .run ∧ t.boot.runSvn = obj.svn ∧ t.boot.bootSlot = a.boot.slotTry ∧ (fwOf t a.boot.slotTry).st = 1 ∧
    (fwOf t a.boot.slotTry).svn = obj.svn) ∧
  (∀ obj, a.boot.phase = .verify → fwFail a obj ≠ 0 → a.boot.triedOther = false → Does (.firmwareVerified dt obj) s a [.boot,
    .logb] fun t =>
    t.boot = { a.boot with phase := .rom, slotTry := 1 - a.boot.slotTry, triedOther := true }) ∧
  (∀ obj, a.boot.phase = .verify → fwFail a obj ≠ 0 → a.boot.triedOther = true → Does (.firmwareVerified dt obj) s a [.freeCtr, .store,
    .ctrs, .boot, .cond, .parts, .tt, .lg, .pair, .pf, .vault, .logb, .cap] fun t =>
    t.boot.phase = .recovery) ∧
  (∀ sub, unitSt a sub = .starting → hubUpNow a = true ∨ a.boot.phase = .halt → sub ≤ 23 → keysWait a sub = false →
    Does (.unitStartComplete dt sub) s a [.store, .boot, .tm, .plan, .cond, .pub, .parts, .pair, .logb, .cap] fun t =>
    unitSt t sub = startState a sub) ∧
  (∀ sub, keysWait a sub = true → Does (.unitStartComplete dt sub) s a [] fun t =>
    unitSt t sub = unitSt a sub) ∧
  (∀ rq slot, cmdRuns a rq 0x010021 0 [.n slot] = true → a.boot.fwApply = none → ¬(running a = true ∧ slot = a.boot.bootSlot) →
    Does (.fwImageApply dt rq slot) s a [.boot] fun t =>
    t.boot = { a.boot with fwApply := some (slot, rq.sess, rq.reqId) } ∧ answered t rq pendingS = true ∧
    execRuns t (addrOf 0x010021 0) = true) ∧
  (∀ rq slot, cmdRuns a rq 0x010021 0 [.n slot] = true → a.boot.fwApply = none → running a = true → slot = a.boot.bootSlot →
    Does (.fwImageApply dt rq slot) s a [] fun t =>
    t.boot = a.boot ∧ answered t rq stateS = true) ∧
  (∀ obj slot n r, a.boot.fwApply = some (slot, n, r) → signedFail a 1 a.boot.svnMin obj ≠ 0 → Does (.fwApplyDone dt obj) s a [.boot,
    .ctrs, .logb] fun t =>
    t.boot = { a.boot with fwApply := none, fwBuf := [], slots := tabPut a.boot.slots slot { fwOf a slot with st := 2 } }) ∧
  (∀ obj slot n r, a.boot.fwApply = some (slot, n, r) → signedFail a 1 a.boot.svnMin obj = 0 → a.boot.phase = .recovery → slot < 2 →
    Does (.fwApplyDone dt obj) s a Comp.hub fun t =>
    heldReset a t 4 ∧ (fwOf t slot).st = 1 ∧ (fwOf t slot).active = true ∧ (fwOf t slot).svn = obj.svn) ∧
  (∀ obj slot n r, a.boot.fwApply = some (slot, n, r) → signedFail a 1 a.boot.svnMin obj = 0 → a.boot.phase ≠ .recovery →
    Does (.fwApplyDone dt obj) s a [.boot, .logb] fun t =>
    t.boot =
    { a.boot with fwApply := none, fwBuf := [], slots := tabPut a.boot.slots slot { fwOf a slot with st := 1, svn := obj.svn, digest := obj.digest } }) ∧
  (∀ rq slot, cmdRuns a rq 0x010022 0 [.n slot] = true → (fwOf a slot).st = 1 → slot < 2 → Does (.fwActivate dt rq slot) s a [.boot,
    .logb] fun t =>
    (fwOf t slot).active = true ∧ (fwOf t (1 - slot)).active = false ∧ answered t rq okS = true) ∧
  (∀ rq slot, cmdRuns a rq 0x010022 0 [.n slot] = true → (fwOf a slot).st ≠ 1 → Does (.fwActivate dt rq slot) s a [] fun t =>
    t.boot = a.boot ∧ answered t rq stateS = true) ∧
  (∀ rq, cmdRuns a rq 0x480040 0 [] = true → (fwOf a (1 - a.boot.bootSlot)).st = 1 →
    (fwOf a (1 - a.boot.bootSlot)).svn < a.boot.runSvn → Does (.fwSvnConfirm dt rq) s a [] fun t =>
    t.boot = a.boot ∧ answered t rq stateS = true) ∧
  (∀ rq, cmdRuns a rq 0x480040 0 [] = true → ¬((fwOf a (1 - a.boot.bootSlot)).st = 1 ∧
    (fwOf a (1 - a.boot.bootSlot)).svn < a.boot.runSvn) → Does (.fwSvnConfirm dt rq) s a [.boot] fun t =>
    t.boot = { a.boot with svnMin := max a.boot.svnMin a.boot.runSvn } ∧ answered t rq okS = true)

/-- FATAL_ERROR, CC_LOCKSTEP_MISMATCH (its cause by the pair), TEMP_FATAL at 125 degrees, FENCE_TIMEOUT of a fence past its time, and
WDT_LAPSE freeze the running hub for their cause; WDT_SERVICE within the first quarter of its period, and FORCE_NOTICE_MISSED with an
unsent notice, act as a watchdog lapse; a WDT_SERVICE in time is noted. A fatal error in the power-fail sequence becomes the last cause
and begins no dump; one during a dump ends it with its slot INCOMPLETE, and the hub is reset and restarts or halts. -/
def Obligations.FatalErrorsFreezeTheHub : Prop := ∀ (dt : Nat) (s : State),
  let a := advance dt s
  (∀ cause, 1 ≤ cause → cause ≤ 7 → hubUpNow a = true → pfRuns a = false → Does (.fatalError dt cause) s a Comp.hub fun t =>
    frozenFor a t cause) ∧
  (∀ cause, 1 ≤ cause → cause ≤ 7 → pfRuns a = true → Does (.fatalError dt cause) s a [.store, .logb, .ctrs, .boot] fun t =>
    t.val 0x700020 0 0 = [.n cause] ∧ t.boot.phase = a.boot.phase ∧ t.boot.dumps = a.boot.dumps) ∧
  (∀ die milliC k, die ≤ 1 + dieCount a → milliC ≥ 125000 → pfRuns a = false → a.boot.phase = .dump → a.boot.dumpNow = some k → k < 4 →
    Does (.tempFatal dt die milliC) s a Comp.hub fun t =>
    t.val 0x700020 0 0 = [.n 4] ∧ (dumpOf t k).st = 3 ∧ t.boot.dumpNow = none ∧ t.boot.phase = (if a.vn 0x010015 0 == 1 ||
    (a.boot.fatalRestarts.filter fun u => a.now < u + 3600000000000).length ≥ 3 then .halt else .reset)) ∧
  (∀ pair, pair < 2 → hubUpNow a = true → pfRuns a = false → Does (.ccLockstepMismatch dt pair) s a Comp.hub fun t =>
    frozenFor a t (pair + 1)) ∧
  (∀ die milliC, die ≤ 1 + dieCount a → milliC ≥ 125000 → hubUpNow a = true → pfRuns a = false →
    Does (.tempFatal dt die milliC) s a Comp.hub fun t =>
    frozenFor a t 4) ∧
  (∀ p x, (partOf a p).fence = some x → x.1 < a.now → running a = true → pfRuns a = false →
    Does (.fenceTimeout dt p) s a Comp.hub fun t =>
    frozenFor a t 7) ∧
  (running a = true → wdtEnd a 0 ≤ a.now → pfRuns a = false → Does (.wdtLapse dt) s a Comp.hub fun t =>
    frozenFor a t 3 ∧ t.boot.lapsed = true) ∧
  (∀ pair u, pair ≤ 1 → running a = true → (wdtOf a pair).last = some u → 4 * (a.now - u) < a.boot.wdtPeriod → pfRuns a = false →
    Does (.wdtService dt pair) s a Comp.hub fun t =>
    frozenFor a t 3 ∧ t.boot.lapsed = true) ∧
  (∀ pair u, pair ≤ 1 → running a = true → (wdtOf a pair).last = some u → a.boot.wdtPeriod ≤ 4 * (a.now - u) → a.now ≤ wdtEnd a pair →
    a.boot.wdtBoot = none → Does (.wdtService dt pair) s a [.boot] fun t =>
    wdtOf t pair = { last := some a.now } ∧ t.boot.lapsed = a.boot.lapsed) ∧
  (running a = true → pfRuns a = false → (a.lg.noticeOut.any fun (n, q, u) => decide (u ≤ a.now) && !noticeSent a n q) = true →
    Does (.forceNoticeMissed dt) s a Comp.hub fun t =>
    frozenFor a t 3 ∧ t.boot.lapsed = true)

/-- DUMP_WRITE_DONE with a slot chosen makes that slot VALID and then restarts the hub, or halts it under FATAL_RESTART 1 or after three
fatal restarts within an hour, and without a slot leaves the slots as they are; DUMP_PROTECT takes VALID to PROTECTED, any other answers
STATE, and DUMP_RELEASE empties any slot; LAMP_TEST runs for 3 s and LAMP_TEST_END ends it; TEMP_WARNING shows the temperature and
records it from 110 degrees. -/
def Obligations.DumpSlotsLampsAndTemperature : Prop := ∀ (dt : Nat) (s : State),
  let a := advance dt s
  (∀ k, a.boot.phase = .dump → a.boot.dumpNow = some k → k < 4 → Does (.dumpWriteDone dt) s a Comp.hub fun t =>
    (dumpOf t k).st = 1 ∧ t.boot.dumpNow = none ∧ t.boot.phase = (if a.vn 0x010015 0 == 1 || (a.boot.fatalRestarts.filter fun u =>
    a.now < u + 3600000000000).length ≥ 3 then .halt else .reset)) ∧
  (∀ rq slot, cmdRuns a rq 0x700015 slot [] = true → (dumpOf a slot).st = 1 → Does (.dumpProtect dt rq slot) s a [.boot] fun t =>
    t.boot = (setDump a slot { dumpOf a slot with st := 2 }).boot ∧ answered t rq okS = true) ∧
  (∀ rq slot, cmdRuns a rq 0x700015 slot [] = true → (dumpOf a slot).st ≠ 1 → Does (.dumpProtect dt rq slot) s a [] fun t =>
    t.boot = a.boot ∧ answered t rq stateS = true) ∧
  (a.boot.phase = .dump → a.boot.dumpNow = none → Does (.dumpWriteDone dt) s a Comp.hub fun t =>
    (dumpOf t 4).st = 1 ∧ ((upto 4).all fun k => dumpOf t k == dumpOf a k) = true ∧ t.boot.phase = (if a.vn 0x010015 0 == 1 ||
    (a.boot.fatalRestarts.filter fun u => a.now < u + 3600000000000).length ≥ 3 then .halt else .reset)) ∧
  (∀ rq slot, cmdRuns a rq 0x700016 slot [] = true → Does (.dumpRelease dt rq slot) s a [.boot] fun t =>
    t.boot = { a.boot with dumps := tabDel a.boot.dumps slot } ∧ (dumpOf t slot).st = 0 ∧ answered t rq okS = true) ∧
  (∀ rq, cmdRuns a rq 0x600140 0 [] = true → Does (.lampTest dt rq) s a [.hw] fun t =>
    t.hw = { a.hw with lampEnd := some (a.now + 3000000000) } ∧ answered t rq okS = true) ∧
  (dueBy a a.hw.lampEnd = true → Does (.lampTestEnd dt) s a [.hw] fun t =>
    t.hw = { a.hw with lampEnd := none }) ∧
  (∀ die milliC, die ≤ 1 + dieCount a → milliC ≥ 110000 → hubUpNow a = true → Does (.tempWarning dt die milliC) s a [.hw,
    .logb] fun t =>
    t.hw = { a.hw with temps := tabPut a.hw.temps die milliC } ∧ t.logb.offered = a.logb.offered ++ [⟨0x0113, 64, [(die : Int),
    milliC]⟩])

/-- COMMISSION takes PROVISIONED with an owner anchor to OPERATIONAL; QUARANTINE_ENTER takes OPERATIONAL to QUARANTINE and restarts the
hub; QUARANTINE_LEAVE returns it while no enabled tamper source is active and, refused, keeps it with record 0x01E6; DECOMMISSION with
the module's serial is irreversible, erases every key and restarts the hub. From another state, without the anchors or with another
serial they answer STATE and change nothing. -/
def Obligations.LifeCycleCommands : Prop := ∀ (dt : Nat) (s : State),
  let a := advance dt s
  (∀ rq, cmdRuns a rq 0x010003 0 [] = true → life a = 1 → anchorSet a = true → Does (.commission dt rq) s a [.boot, .vault,
    .logb] fun t =>
    life t = 2 ∧ t.boot = { a.boot with fuseComm := true } ∧ (t.vault.anchorsInUse.all fun (n, v) => v == a.val 0x480030 n 0) = true ∧
    answered t rq okS = true ∧ t.logb.offered = a.logb.offered ++ [⟨0x0128, 0x80, [1, 2]⟩]) ∧
  (∀ rq, cmdRuns a rq 0x010003 0 [] = true → life a ≠ 1 ∨ anchorSet a = false → Does (.commission dt rq) s a [] fun t =>
    t.boot = a.boot ∧ answered t rq stateS = true) ∧
  (∀ rq, cmdRuns a rq 0x010004 0 [] = true → life a ≠ 2 → Does (.quarantineEnter dt rq) s a [] fun t =>
    t.boot = a.boot ∧ answered t rq stateS = true) ∧
  (∀ rq, cmdRuns a rq 0x010004 0 [] = true → life a = 2 → Does (.quarantineEnter dt rq) s a Comp.hub fun t =>
    life t = 3 ∧ heldReset a t 3) ∧
  (∀ rq, cmdRuns a rq 0x010005 0 [] = true → life a = 3 → activeOn a = 0 → Does (.quarantineLeave dt rq) s a Comp.hub fun t =>
    t.boot.qLatch = false ∧ heldReset a t 3) ∧
  (∀ rq, cmdRuns a rq 0x010005 0 [] = true → life a = 3 → activeOn a ≠ 0 → Does (.quarantineLeave dt rq) s a [.logb] fun t =>
    t.logb.offered = a.logb.offered ++ [⟨0x01E6, 0x80, [(activeOn a : Int)]⟩] ∧ answered t rq stateS = true) ∧
  (∀ rq serial, cmdRuns a rq 0x010006 0 [.o serial] = true → trimZ serial ≠ trimZ a.ident.serial →
    Does (.decommission dt rq serial) s a [] fun t =>
    t.boot = a.boot ∧ answered t rq stateS = true) ∧
  (∀ rq serial, cmdRuns a rq 0x010006 0 [.o serial] = true → life a = 1 ∨ life a = 2 ∨ life a = 3 → trimZ serial =
    trimZ a.ident.serial → Does (.decommission dt rq serial) s a Comp.hub fun t =>
    life t = 4 ∧ heldReset a t 3 ∧ (t.vault.slots.all fun (_, x) => x.st == 0 && x.key.isEmpty) = true ∧ t.vault.tamper = 0)

/-- TRANSCEIVER_INSERT arms the power-on 50 ms later; CAGE_POWER_ON powers the cage when due; TRANSCEIVER_REMOVE unpowers it, leaves a
tripped fuse tripped until the next insertion and forgets what was read; CAGE_OVERCURRENT trips the fuse; CAGE_RESTORE powers a tripped
cage with a module again; SFP_ID_READ and SFP_DDM_POLL keep the pages read. Nothing but the listed parts changes. A command refused
answers its status and changes nothing. -/
def Obligations.CagesAndTransceivers : Prop := ∀ (dt : Nat) (s : State),
  let a := advance dt s
  (∀ cage, cageFits a cage = true → (cageOf a cage).present = false → Does (.transceiverInsert dt cage) s a [.hw] fun t =>
    t.hw =
    { a.hw with cages := tabPut a.hw.cages cage { present := true, powered := false, tripped := false, onDue := some (a.now + 50000000) } }) ∧
  (∀ cage, cageFits a cage = true → (cageOf a cage).present = true → (cageOf a cage).tripped = false → dueBy a (cageOf a cage).onDue =
    true → Does (.cagePowerOn dt cage) s a [.hw, .pair] fun t =>
    cageOf t cage = { cageOf a cage with powered := true, onDue := none }) ∧
  (∀ cage, (cageOf a cage).present = true → Does (.transceiverRemove dt cage) s a [.freeCtr, .store, .ctrs, .hw, .boot, .tm, .net,
    .cond, .pub, .parts, .tt, .ph, .pair, .pf, .vault, .logb, .cap, .mem, .dirty] fun t =>
    cageOf t cage = { tripped := (cageOf a cage).tripped } ∧ (portOf t cage).sfp = none ∧ (portOf t cage).ddm = none) ∧
  (∀ cage, (cageOf a cage).powered = true → Does (.cageOvercurrent dt cage) s a [.freeCtr, .store, .ctrs, .hw, .boot, .tm, .net, .cond,
    .pub, .parts, .tt, .ph, .pair, .pf, .vault, .logb, .cap, .mem, .dirty] fun t =>
    cageOf t cage = { cageOf a cage with powered := false, tripped := true, onDue := none }) ∧
  (∀ rq cage, cmdRuns a rq 0x600112 cage [] = true → (cageOf a cage).tripped = false → Does (.cageRestore dt rq cage) s a [] fun t =>
    answered t rq stateS = true) ∧
  (∀ rq cage, cmdRuns a rq 0x600112 cage [] = true → (cageOf a cage).tripped = true → Does (.cageRestore dt rq cage) s a [.hw,
    .pair] fun t =>
    cageOf t cage = { cageOf a cage with tripped := false, powered := (cageOf a cage).present } ∧ answered t rq okS = true) ∧
  (∀ cage id, (cageOf a cage).powered = true → Does (.sfpIdRead dt cage id) s a [.boot, .net, .logb] fun t =>
    (portOf t cage).sfp = some id) ∧
  (∀ cage ddm id, (portOf a cage).sfp = some id → id.ddm = true → (cageOf a cage).powered = true → ∀ u, (portOf a cage).ddmAt = some u →
    u + 1000000000 ≤ a.now → Does (.sfpDdmPoll dt cage ddm) s a [.net] fun t =>
    (portOf t cage).ddm = some ddm ∧ (portOf t cage).ddmAt = some a.now)

/-- LINK_DOWN of a port that is up takes it down; LINK_UP, with the port enabled and its condition met, brings it up at its speed;
TX_DISABLE_HOLD_END ends the 10 ms hold; a write of PORT_ADMIN sets the administrative state, and one of PORT_MODE that changes the mode
holds the transmitter for 10 ms; a pause ends at its time or at the ceiling, which then locks PAUSE out for twice the ceiling from its
start; NODE_AGE_OUT removes an entry silent for 60 s. -/
def Obligations.LinksAndPauseEnd : Prop := ∀ (dt : Nat) (s : State),
  let a := advance dt s
  (∀ port, port < 6 ∨ port = 8 → linkUp a port = true → Does (.linkDown dt port) s a [.freeCtr, .store, .ctrs, .boot, .tm, .net, .cond,
    .pub, .parts, .tt, .ph, .pair, .pf, .vault, .logb, .cap, .mem, .dirty] fun t =>
    (portOf t port).st = 1 ∧ linkUp t port = false ∧ (portOf t port).q = [] ∧ (portOf t port).lq = []) ∧
  (∀ port speed partner, port < 6 ∨ port = 8 → unitOk a (portUnit port) = true → adminOn a port = true → linkUp a port = false →
    (portOf a port).hold = none → port = 8 ∨ (cageOf a port).powered = true ∧ modeSpeed a port = some speed → speedClash a port speed =
    false → Does (.linkUp dt port speed partner) s a [.ctrs, .boot, .tm, .net, .cond, .pub, .tt, .ph, .logb, .cap, .mem,
    .dirty] fun t =>
    (portOf t port).st = 2 ∧ (portOf t port).speed = speed) ∧
  (∀ port, dueBy a (portOf a port).hold = true → Does (.txDisableHoldEnd dt port) s a [.net] fun t =>
    t.net = (setPort a port { portOf a port with hold := none }).net) ∧
  (∀ rq port on, writeRuns a rq 0x100001 port [.n (b2n on)] = true → Does (.portAdminWrite dt rq port on) s a [.freeCtr, .store, .ctrs,
    .boot, .tm, .net, .cond, .pub, .parts, .tt, .ph, .pair, .pf, .vault, .logb, .cap, .mem, .dirty] fun t =>
    adminOn t port = on ∧ answered t rq okS = true) ∧
  (∀ rq port mode, writeRuns a rq 0x100002 port [.n mode] = true → port < 6 → modeOk port mode = true → gmode a (groupOf port) = 0 →
    a.vn 0x100002 port ≠ mode → Does (.portModeWrite dt rq port mode) s a [.store, .ctrs, .boot, .tm, .net, .cond, .pub, .parts, .tt,
    .ph, .pair, .pf, .logb, .cap, .mem, .dirty] fun t =>
    t.vn 0x100002 port = mode ∧ (portOf t port).hold = some (a.now + 10000000) ∧ answered t rq okS = true) ∧
  (∀ port, (portOf a port).pauseFrom.isSome = true → (portOf a port).pauseEnd ≤ a.now → Does (.pauseEnd dt port) s a [.ctrs, .boot, .tm,
    .net, .cond, .pub, .parts, .tt, .ph, .pf, .logb, .cap, .mem, .dirty] fun t =>
    (portOf t port).pauseFrom = none) ∧
  (∀ port u, (portOf a port).pauseFrom = some u → u + a.vn 0x440010 port ≤ a.now → Does (.pauseCeilingReached dt port) s a [.ctrs,
    .boot, .tm, .net, .cond, .pub, .parts, .tt, .ph, .pf, .logb, .cap, .mem, .dirty] fun t =>
    (portOf t port).pauseFrom = none ∧ (portOf t port).lockEnd = some (u + 2 * a.vn 0x440010 port)) ∧
  (∀ port, dueBy a (portOf a port).lockEnd = true → Does (.pauseLockoutEnd dt port) s a [.net] fun t =>
    t.net = (setPort a port { portOf a port with lockEnd := none }).net) ∧
  (∀ group mac e, tabGet a.net.nodes (nodeKey group mac) = some e → e.seen + 60000000000 ≤ a.now →
    Does (.nodeAgeOut dt group mac) s a [.net] fun t =>
    tabGet t.net.nodes (nodeKey group mac) = none ∧ t.net = { a.net with nodes := t.net.nodes, nodesFull := false })

/-- RX_FRAME on an up port counts a frame shorter than 64 octets as a runt and one longer than 1,536 as oversize without anything else,
and of a frame to an address that the port does not accept counts it, its octets and its rejection; a supervision frame of a PRP group
is counted and its source is in the node table; TX_FRAME_DONE frees the wire of a port with nothing queued, and with frames queued in
one class without a shaper the next of them follows; LAUNCH_TIME_REACHED moves the head launch frame to its class queue while the wire
is busy; LAUNCH_LATE takes a late frame out of the launch queue and counts it; SUPERVISION_TX of a PRP or HSR group sends a frame and
the next is due 2 s later. -/
def Obligations.FramesLeaveAndArrive : Prop := ∀ (dt : Nat) (s : State),
  let a := advance dt s
  (∀ port f, port ≤ 8 → linkUp a port = true → unitOk a (portUnit port) = true → running a = true → f.len < 64 →
    Does (.rxFrame dt port f) s a [.ctrs] fun t =>
    t.ctrs = (bump a 0x100022 port).ctrs) ∧
  (∀ port f, port ≤ 8 → linkUp a port = true → unitOk a (portUnit port) = true → running a = true → f.len > 1536 →
    Does (.rxFrame dt port f) s a [.ctrs] fun t =>
    t.ctrs = (bump a 0x100023 port).ctrs) ∧
  (∀ port f, port = 8 ∨ port = 4 ∨ port = 5 → linkUp a port = true → unitOk a (portUnit port) = true → running a = true → 64 ≤ f.len →
    f.len ≤ 1536 → f.fcsOk = true → f.etype ≠ 0x8808 → dstOk a port f = false → Does (.rxFrame dt port f) s a [.ctrs, .net] fun t =>
    t.ctrs = (bump (bumpBy (bump a 0x100020 port) 0x100021 port f.len) 0x100025 port).ctrs ∧ t.net =
    (nodeTouch (setPort a port { portOf a port with rxAt := some a.now }) port f.src).net) ∧
  (∀ port f src, port < 4 → linkUp a port = true → unitOk a (portUnit port) = true → running a = true → 64 ≤ f.len → f.len ≤ 1536 →
    f.fcsOk = true → f.etype = 0x88FB → f.body = .supervision src → f.rct = none → gmode a (groupOf port) = 1 → f.dst =
    0x01154E000100 + a.vn 0x110002 0 → vlanOk a port (effTag a port f).1 = true → a.net.nodes.length < 4096 →
    Does (.rxFrame dt port f) s a [.ctrs, .net] fun t =>
    (tabGet t.net.nodes (nodeKey (groupOf port) src)).isSome = true ∧ t.ctrs =
    (bump (bumpBy (bump a 0x100020 port) 0x100021 port f.len) 0x110027 (groupOf port)).ctrs) ∧
  (∀ port f, port < 6 ∨ port = 8 → (portOf a port).wire = some f → (portOf a port).q = [] → (portOf a port).lq = [] →
    (a.tt.rings.all fun (_, r) => r.taken == r.prod) = true → Does (.txFrameDone dt port) s a [.ctrs, .boot, .tm, .net, .cond, .pub,
    .parts, .tt, .ph, .pair, .pf, .logb, .cap, .mem, .dirty] fun t =>
    (portOf t port).wire = none) ∧
  (∀ port f g r, port < 6 ∨ port = 8 → (portOf a port).wire = some f → (portOf a port).q = g :: r → (r.all fun x => x.cls == g.cls) =
    true → (portOf a port).lq = [] → linkUp a port = true → paused a port = false → shaped a port g.cls = false → isMig g.what = false →
    isLate a port false g = false → staleCtr a g = none → (a.tt.rings.all fun (_, r) => r.taken == r.prod) = true →
    Does (.txFrameDone dt port) s a [.ctrs, .boot, .tm, .net, .cond, .pub, .parts, .tt, .ph, .pair, .pf, .logb, .cap, .mem,
    .dirty] fun t =>
    ((portOf t port).wire.map fun x => (x.job, x.cls, x.len, x.what)) = some (g.job, g.cls, g.len, g.what)) ∧
  (∀ port f r, (portOf a port).lq = f :: r → f.launch.getD 0 ≤ tai a → (portOf a port).wire.isSome = true → (a.tt.rings.all fun (_,
    r) => r.taken == r.prod) = true → Does (.launchTimeReached dt port) s a [.ctrs, .boot, .tm, .net, .cond, .pub, .parts, .tt, .ph,
    .pf, .logb, .cap, .mem, .dirty] fun t =>
    t.net = (setPort a port { portOf a port with lq := r, q := headInsert f (portOf a port).q }).net) ∧
  (∀ port f, (portOf a port).lq = [f] → (portOf a port).q = [] → isLate a port true f = true → f.dropLate = false →
    (portOf a port).wire.isSome = true → linkUp a port = true → (a.tt.rings.all fun (_, r) => r.taken == r.prod) = true →
    Does (.launchLate dt port) s a [.ctrs, .boot, .tm, .net, .cond, .pub, .parts, .tt, .ph, .pf, .logb, .cap, .mem, .dirty] fun t =>
    (portOf t port).lq = [] ∧ (portOf t port).q = [{ f with late := true, launch := none }] ∧ t.ctrs = (bump a 0x180062 port).ctrs) ∧
  (∀ group, group ≤ 2 → gmode a group ≠ 0 → life a = 2 → running a = true → unitOk a (portUnit (2 * group)) = true →
    tabGetD a.net.superDue group 0 ≤ a.now → Does (.supervisionTx dt group) s a [.ctrs, .boot, .tm, .net, .cond, .pub, .tt, .ph, .logb,
    .cap, .mem, .dirty] fun t =>
    tabGetD t.net.superDue group 0 = a.now + 2000000000 ∧ a.net.nextJob < t.net.nextJob)

/-- SECOND_ROLLOVER: at the nominal increment the tick that reaches 10^9 ns carries into SEC; SERVO_FREQ_WRITE within its range sets the
increment; SLEW_COMPLETE ends a slew whose offset is taken out; TIME_SET and TIME_ADJUST with no source step the counter within
STEP_BOUND or in FREE_RUN since the start, and otherwise hold the step, LOCKED or not, and with a source answer STATE; STEP_CONFIRM
applies the held step, beyond its MAX_OFFSET it answers RANGE and without one STATE; LEAP_SECOND moves UTC_OFFSET by one and records
0x0156. -/
def Obligations.TimeCounterServoAndSteps : Prop := ∀ (dt : Nat) (s : State),
  let a := advance dt s
  (s.tm.run = true → s.tm.slew = 0 → s.tm.incr = 0x200000000 → s.tm.frac < 4294967296 → s.tm.ns + 2 * dt = 1000000000 →
    Does (.secondRollover dt) s a [] fun t =>
    t.tm = { s.tm with sec := s.tm.sec + 1, ns := 0 }) ∧
  (∀ incr, 1999 * 4294967296 ≤ 1000 * incr → 1000 * incr ≤ 2001 * 4294967296 → Does (.servoFreqWrite dt incr) s a [.tm] fun t =>
    t.tm = { a.tm with incr := incr, incrAns := okS }) ∧
  (a.tm.slew = 0 → Does (.slewComplete dt) s a [.tm] fun t =>
    t.tm = { a.tm with slewing := false }) ∧
  (∀ rq (x : Int), cmdRuns a rq 0x18000F 0 [.i x] = true → a.tm.source = 0 → 0 ≤ x → a.tm.frac < 4294967296 →
    (x - tai a).natAbs ≤ a.vn 0x440020 0 → Does (.timeSet dt rq x) s a [.ctrs, .boot, .tm, .net, .plan, .cond, .pub, .parts, .tt, .ph,
    .lg, .pair, .pf, .logb, .cap, .mem, .dirty] fun t =>
    tai t = x ∧ t.tm.lastStep = x - tai a ∧ t.tm.held = false ∧ answered t rq okS = true) ∧
  (∀ rq (d : Int), cmdRuns a rq 0x180010 0 [.i d] = true → a.tm.source = 0 → 0 ≤ tai a + d → a.tm.frac < 4294967296 →
    d.natAbs ≤ a.vn 0x440020 0 → Does (.timeAdjust dt rq d) s a [.ctrs, .boot, .tm, .net, .plan, .cond, .pub, .parts, .tt, .ph, .lg,
    .pair, .pf, .logb, .cap, .mem, .dirty] fun t =>
    tai t = tai a + d ∧ t.tm.lastStep = d ∧ t.tm.held = false ∧ answered t rq okS = true) ∧
  (∀ rq (d : Int), cmdRuns a rq 0x180010 0 [.i d] = true → a.tm.source = 0 → a.vn 0x440020 0 < d.natAbs → (a.tm.freeSince &&
    a.tm.quality == 2) = false → Does (.timeAdjust dt rq d) s a [.ctrs, .boot, .tm, .net, .plan, .cond, .pub, .parts, .tt, .ph, .lg,
    .pair, .pf, .logb, .cap, .mem, .dirty] fun t =>
    tai t = tai a ∧ t.tm.held = true ∧ t.tm.heldAmt = d ∧ t.tm.quality = (if a.tm.quality = 0 then 1 else a.tm.quality) ∧
    answered t rq okS = true) ∧
  (∀ rq (x : Int), cmdRuns a rq 0x18000F 0 [.i x] = true → a.tm.source = 0 → a.vn 0x440020 0 < (x - tai a).natAbs → (a.tm.freeSince &&
    a.tm.quality == 2) = false → Does (.timeSet dt rq x) s a [.ctrs, .boot, .tm, .net, .plan, .cond, .pub, .parts, .tt, .ph, .lg, .pair,
    .pf, .logb, .cap, .mem, .dirty] fun t =>
    tai t = tai a ∧ t.tm.held = true ∧ t.tm.heldAmt = x - tai a ∧ t.tm.quality = (if a.tm.quality = 0 then 1 else a.tm.quality) ∧
    answered t rq okS = true) ∧
  (∀ rq (x : Int), cmdRuns a rq 0x18000F 0 [.i x] = true → a.tm.source ≠ 0 → Does (.timeSet dt rq x) s a [] fun t =>
    t.tm = a.tm ∧ answered t rq stateS = true) ∧
  (∀ rq (d : Int), cmdRuns a rq 0x180010 0 [.i d] = true → a.tm.source ≠ 0 → Does (.timeAdjust dt rq d) s a [] fun t =>
    t.tm = a.tm ∧ answered t rq stateS = true) ∧
  (∀ rq (d : Int), cmdRuns a rq 0x180010 0 [.i d] = true → a.tm.source = 0 → 0 ≤ tai a + d → a.tm.frac < 4294967296 → a.tm.freeSince =
    true → a.tm.quality = 2 → Does (.timeAdjust dt rq d) s a [.ctrs, .boot, .tm, .net, .plan, .cond, .pub, .parts, .tt, .ph, .lg, .pair,
    .pf, .logb, .cap, .mem, .dirty] fun t =>
    tai t = tai a + d ∧ t.tm.lastStep = d ∧ t.tm.held = false ∧ answered t rq okS = true) ∧
  (∀ rq maxOffset, cmdRuns a rq 0x440021 0 [.i maxOffset] = true → a.tm.held = true → maxOffset < (a.tm.heldAmt.natAbs : Int) →
    Does (.stepConfirm dt rq maxOffset) s a [] fun t =>
    t.tm = a.tm ∧ answered t rq rangeS = true) ∧
  (∀ rq maxOffset, cmdRuns a rq 0x440021 0 [.i maxOffset] = true → a.tm.held = false →
    Does (.stepConfirm dt rq maxOffset) s a [] fun t =>
    t.tm = a.tm ∧ answered t rq stateS = true) ∧
  (∀ rq maxOffset, cmdRuns a rq 0x440021 0 [.i maxOffset] = true → a.tm.held = true → (a.tm.heldAmt.natAbs : Int) ≤ maxOffset →
    0 ≤ tai a + a.tm.heldAmt → a.tm.frac < 4294967296 → Does (.stepConfirm dt rq maxOffset) s a [.ctrs, .boot, .tm, .net, .plan, .cond,
    .pub, .parts, .tt, .ph, .lg, .pair, .pf, .logb, .cap, .mem, .dirty] fun t =>
    tai t = tai a + a.tm.heldAmt ∧ t.tm.held = false ∧ answered t rq okS = true) ∧
  (a.tm.leap ≠ 0 → a.tm.leapAt ≤ tai a → Does (.leapSecond dt) s a [.store, .tm, .logb] fun t =>
    t.vi 0x180005 0 = a.vi 0x180005 0 + (if a.tm.leap = 1 then 1 else -1) ∧ t.tm =
    { a.tm with leap := 0, leapWas := some (a.tm.leapAt, a.tm.leap) } ∧
    t.logb.offered = a.logb.offered ++ [⟨0x0156, 0x86, [a.vi 0x180005 0, t.vi 0x180005 0]⟩])

/-- SYNC_RECEIPT_TIMEOUT takes LOCKED to HOLDOVER; HOLDOVER_LIMIT_EXPIRY takes HOLDOVER to FREE_RUN with record 0x0150;
ANNOUNCE_RECEIPT_TIMEOUT forgets the masters of the port not heard for three intervals, and the BMCA then selects the parent anew;
PTP_SYNC_TX and PTP_ANNOUNCE_TX of a MASTER port and PDELAY_REQ_TX each send a frame; a third Pdelay_Req unanswered makes the port
FAULTY for 16 s; PTP_FAULTY_RETRY tries again; a write of PTP_PROFILE sets the profile and the domain it implies and drops the parent.
-/
def Obligations.TimeQualityAndPtp : Prop := ∀ (dt : Nat) (s : State),
  let a := advance dt s
  (a.tm.lastMeas + 2200000000 ≤ a.now → a.tm.quality = 0 → Does (.syncReceiptTimeout dt) s a [.boot, .tm, .logb] fun t =>
    t.tm.quality = 1 ∧ t.tm.holdAt = a.now ∧ t.tm.lockRun = 0) ∧
  (a.tm.quality = 1 → a.tm.holdAt + a.vn 0x180008 0 * 1000000000 ≤ a.now → Does (.holdoverLimitExpiry dt) s a [.tm, .logb] fun t =>
    t.tm.quality = 2 ∧ t.logb.offered = a.logb.offered ++ [⟨0x0150, 0x86, [1, 2]⟩]) ∧
  (∀ port also u, (ptpOf a port).lastAnn = some u → u + 3000000000 ≤ a.now → Does (.announceReceiptTimeout dt port also) s a [.store,
    .boot, .tm, .logb] fun t =>
    (∀ q ∈ port :: also, annDead a q = true → (ptpOf t q).foreign = (ptpOf a q).foreign.filter (fun f => a.now < f.last + 3000000000) ∧
      ((ptpOf t q).foreign = [] → (ptpOf t q).lastAnn = none ∧ (ptpOf t q).silent = true)) ∧
    (∀ q ∈ upto 6, q ∉ port :: also → (ptpOf t q).lastAnn = (ptpOf a q).lastAnn ∧ (ptpOf t q).foreign = (ptpOf a q).foreign) ∧
    t.tm.parent = bmca t) ∧
  (∀ port, life a = 1 ∨ life a = 2 → ptpRuns a port = true → (ptpOf a port).st = 6 → linkUp a port = true →
    (ptpOf a port).syncDue ≤ a.now → Does (.ptpSyncTx dt port) s a [.ctrs, .boot, .tm, .net, .cond, .pub, .tt, .ph, .logb, .cap, .mem,
    .dirty] fun t =>
    a.net.nextJob < t.net.nextJob ∧ (ptpOf t port).syncDue = a.now + 1000000000) ∧
  (∀ port, life a = 1 ∨ life a = 2 → ptpRuns a port = true → (ptpOf a port).st = 6 → linkUp a port = true →
    (ptpOf a port).annDue ≤ a.now → Does (.ptpAnnounceTx dt port) s a [.ctrs, .boot, .tm, .net, .cond, .pub, .tt, .ph, .logb, .cap,
    .mem, .dirty] fun t =>
    a.net.nextJob < t.net.nextJob ∧ (ptpOf t port).annDue = a.now + 1000000000) ∧
  (∀ port, life a = 1 ∨ life a = 2 → ptpRuns a port = true → (ptpOf a port).st ≠ 2 → linkUp a port = true →
    (ptpOf a port).reqDue ≤ a.now → (ptpOf a port).waiting = false → Does (.pdelayReqTx dt port) s a [.store, .ctrs, .boot, .tm, .net,
    .cond, .pub, .tt, .ph, .logb, .cap, .mem, .dirty] fun t =>
    a.net.nextJob < t.net.nextJob ∧ (ptpOf t port).missed = 0 ∧ (ptpOf t port).waiting = true) ∧
  (∀ port, ptpRuns a port = true → (ptpOf a port).st ≠ 2 → linkUp a port = true → (ptpOf a port).reqDue ≤ a.now →
    (ptpOf a port).waiting = true → 2 ≤ (ptpOf a port).missed → Does (.pdelayReqTx dt port) s a [.store, .ctrs, .boot, .tm, .net, .cond,
    .pub, .tt, .ph, .logb, .cap, .mem, .dirty] fun t =>
    (ptpOf t port).st = 2 ∧ (ptpOf t port).retry = some (a.now + 16000000000) ∧ t.ctrs = (bump a 0x180037 port).ctrs) ∧
  (∀ port, life a = 1 ∨ life a = 2 → (ptpOf a port).st = 2 → dueBy a (ptpOf a port).retry = true → linkUp a port = true →
    Does (.ptpFaultyRetry dt port) s a [.ctrs, .boot, .tm, .net, .cond, .pub, .tt, .ph, .logb, .cap, .mem, .dirty] fun t =>
    a.net.nextJob < t.net.nextJob ∧ (ptpOf t port).retry = some (a.now + 16000000000)) ∧
  (∀ rq profile, writeRuns a rq 0x180021 0 [.n profile] = true → profile ≤ 1 → Does (.ptpProfileWrite dt rq profile) s a [.store, .boot,
    .tm, .logb] fun t =>
    t.vn 0x180021 0 = profile ∧ t.vn 0x180022 0 = (if profile = 1 then 254 else 0) ∧ t.tm.parent = none ∧ answered t rq okS = true)

/-- An edge or frame held for less than its filter only counts; an accepted PPS edge is stamped with the filter and 40 ns taken off; the
third good IRIG-B frame in a row makes the input good and its second known; PPS_ABSENT clears the edge state after 1.5 s; PPS_OUT_RISE,
when driven within its width of a second, raises the output and PPS_OUT_FALL lowers it after the width and no less than 1 us. -/
def Obligations.TimingInputsAndPpsOutput : Prop := ∀ (dt : Nat) (s : State),
  let a := advance dt s
  (∀ held, held < a.vn 0x600121 0 → Does (.ppsInEdge dt held) s a [.ctrs] fun t =>
    t.ctrs = (bump a 0x600124 0).ctrs) ∧
  (∀ held, a.vn 0x600121 0 ≤ held → unitOk a 6 = true → Does (.ppsInEdge dt held) s a [.ctrs, .boot, .tm, .net, .plan, .cond, .pub,
    .parts, .tt, .ph, .lg, .pair, .pf, .logb, .cap, .mem, .dirty] fun t =>
    t.tm.ppsLast = some (tai a - (a.vn 0x600121 0 : Int) - 40) ∧ t.tm.ppsSeen = a.now) ∧
  (∀ held fr, held < a.vn 0x600123 0 → Does (.irigFrame dt held fr) s a [.ctrs] fun t =>
    t.ctrs = (bump a 0x600124 1).ctrs) ∧
  (∀ held fr, a.vn 0x600123 0 ≤ held → unitOk a 6 = true → fr.ok = true → fr.code ≤ 7 → 2 ≤ a.tm.irigGood → irigSecond a fr =
    a.tm.irigLast + 1 → Does (.irigFrame dt held fr) s a [.store, .ctrs, .boot, .tm, .net, .plan, .cond, .pub, .parts, .tt, .ph, .lg,
    .pair, .pf, .logb, .cap, .mem, .dirty] fun t =>
    t.tm.irigSt = 1 ∧ t.tm.irigGood = a.tm.irigGood + 1 ∧ t.tm.irigLast = a.tm.irigLast + 1 ∧ t.tm.irigBad = 0) ∧
  (a.tm.ppsSeen + 1500000000 ≤ a.now → Does (.ppsAbsent dt) s a [.tm, .pair, .logb] fun t =>
    t.tm = { a.tm with ppsSt := 0, ppsRun := 0, ppsLast := none }) ∧
  (ppsDriven a = true → a.tm.ppsOut = false → a.tm.ns < 3 → Does (.ppsOutRise dt) s a [.tm] fun t =>
    t.tm = { a.tm with ppsOut := true, ppsRise := a.now, ppsFall := a.tm.sec * 1000000000 + a.vn 0x180051 0 }) ∧
  (a.tm.ppsOut = true → a.tm.ppsFall ≤ tai a → a.tm.ppsRise + 1000 ≤ a.now → Does (.ppsOutFall dt) s a [.tm] fun t =>
    t.tm = { a.tm with ppsOut := false })

/-- ROW_CLOSE closes the next row once its close instant has passed, alone where no commit has changed W; ROW_RELEASE releases the
oldest closed row whose equalisation does not run and hands it to a unit 9 that takes rows, and while it runs changes nothing;
CONDITIONING_COMPLETE takes the oldest released row and notes the longest time taken; LEARNED_RATE_UPDATE takes the largest count plus
one once its second and W have passed; FILTER_KAT counts a pass, remembers a first failure and takes the array out at a second, and
counts a test without an idle interval as skipped. -/
def Obligations.RowsCloseReleaseAndAreConditioned : Prop := ∀ (dt : Nat) (s : State),
  let a := advance dt s
  (∀ entry m, (streamOf a entry).carried = none → (streamOf a entry).learnMax = some m →
    tai a > (((streamOf a entry).learnSec + 1) * 1000000000 + a.plan.w : Nat) → Does (.learnedRateUpdate dt entry) s a [.plan,
    .logb] fun t =>
    (streamOf t entry).learnedRate = m + 1 ∧ (streamOf t entry).learnMax = none) ∧
  (∀ l, planOn a = true → a.plan.lastClosed = some l → closeDue a (l + 1) = true → Does (.rowClose dt) s a [.ctrs, .plan, .pair,
    .logb] fun t =>
    (planRow t (l + 1)).closed = true ∧ (l + 1 ≤ t.plan.lastClosed.getD 0 ∧ t.plan.lastClosed.isSome = true) ∧
    (a.plan.wCuts = [] → t.plan.lastClosed = some (l + 1) ∧ (a.pair.eqOn = false → t.ctrs = (bump a 0x210012 0).ctrs))) ∧
  (∀ r, nextRow a = some r → running a = true → eqOf a r = none → Does (.rowRelease dt) s a [.freeCtr, .store, .ctrs, .boot, .tm, .net,
    .plan, .cond, .pub, .parts, .tt, .ph, .lg, .pair, .pf, .vault, .logb, .cap, .mem, .dirty] fun t =>
    t.plan.lastReleased = r ∧ t.plan.everReleased = true ∧ (planRow t r).released = true ∧ (planRow t r).relNow = a.now ∧
    (unitTakes a 9 = true → r ∈ t.cond.queue)) ∧
  (nextRow a = none ∨ running a = false ∨ ((nextRow a).any fun r => (eqOf a r).isSome) = true → Does (.rowRelease dt) s a [] fun t =>
    t.plan = a.plan) ∧
  (∀ r q, a.cond.queue = r :: q → condUp a = true → Does (.conditioningComplete dt) s a [.freeCtr, .store, .ctrs, .boot, .tm, .net,
    .plan, .cond, .pub, .parts, .tt, .ph, .pair, .logb, .cap, .mem, .dirty] fun t =>
    t.cond.queue = q ∧ t.cond.timeMax = max a.cond.timeMax (a.now - (planRow a r).relNow)) ∧
  (∀ array idle pass, array < 4 → array ∉ a.cond.failed → unitOk a 9 = true → idle = false → tabGetD a.cond.katAt array 0 ≤ a.now →
    Does (.filterKat dt array idle pass) s a [.ctrs, .cond] fun t =>
    t.ctrs = (bump a 0x240006 0).ctrs ∧ t.cond = { a.cond with katAt := tabPut a.cond.katAt array (a.now + 1000000000) }) ∧
  (∀ array idle pass, array < 4 → array ∉ a.cond.failed → unitOk a 9 = true → idle = true → pass = true →
    tabGetD a.cond.katAt array 0 ≤ a.now → Does (.filterKat dt array idle pass) s a [.ctrs, .cond, .pair] fun t =>
    t.ctrs = (bump a 0x240004 0).ctrs ∧ t.cond =
    { a.cond with katAt := tabPut a.cond.katAt array (a.now + 1000000000), failOnce := without a.cond.failOnce array }) ∧
  (∀ array idle pass, array < 4 → array ∉ a.cond.failed → unitOk a 9 = true → idle = true → pass = false → array ∈ a.cond.failOnce →
    Does (.filterKat dt array idle pass) s a [.freeCtr, .store, .ctrs, .boot, .tm, .net, .cond, .pub, .parts, .tt, .ph, .pair, .logb,
    .cap, .mem, .dirty] fun t =>
    t.cond.failed = a.cond.failed ++ [array] ∧ unitSt t 9 = (if a.cond.failed.length = 0 then .degraded else .fault))

/-- Without a settled pair, BANK_SEAL of a bank that passes its checks makes it SEALED and of one whose checks fail makes it BAD and
answers RANGE; PROFILE_SWAP whose conditions hold arms the profile with its row, mode and cross-fade, holds the bank and records 0x0170;
PROFILE_DISARM returns an armed profile to IDLE and its bank to SEALED; each answers the status of the check that refuses it and then
changes nothing else. On a module without a pair, STAGE_COMMIT by the holder of a set that passes its checks keeps the set for the first
row boundary 1 ms or more ahead; at that row STAGE_APPLY empties the set, notes the row, records 0x0133 and, for a set without partition
table rows, each object of it holds its value; STAGE_DISCARD by the holder with no commit under way empties the set with record 0x0134.
Of another session both answer STATE, a discard under a commit BUSY, and a set that fails its checks the status of the first failure. -/
def Obligations.BanksProfilesAndTheStageSet : Prop := ∀ (dt : Nat) (s : State),
  let a := advance dt s
  (∀ rq bank, cmdRuns a rq 0x240014 bank [] = true → mirrors a = false → sealCheck a bank = okS →
    Does (.bankSeal dt rq bank) s a [.cond] fun t =>
    t.cond = { a.cond with banks := tabPut a.cond.banks bank 2 } ∧ answered t rq okS = true) ∧
  (∀ rq bank, cmdRuns a rq 0x240014 bank [] = true → sealCheck a bank = rangeS → Does (.bankSeal dt rq bank) s a [.cond] fun t =>
    bankSt t bank = 3 ∧ answered t rq rangeS = true) ∧
  (∀ rq bank, cmdRuns a rq 0x240014 bank [] = true → sealCheck a bank ≠ okS → sealCheck a bank ≠ rangeS →
    Does (.bankSeal dt rq bank) s a [] fun t =>
    t.cond = a.cond ∧ answered t rq (sealCheck a bank) = true) ∧
  (∀ rq profile row mode xfade, cmdRuns a rq 0x240015 profile [.n row, .n mode, .n xfade] = true →
    swapCheck a profile row mode xfade ≠ okS → Does (.profileSwap dt rq profile row mode xfade) s a [] fun t =>
    t.cond = a.cond ∧ answered t rq (swapCheck a profile row mode xfade) = true) ∧
  (∀ rq profile, cmdRuns a rq 0x240016 profile [] = true → (profOf a profile).st ≠ 1 →
    Does (.profileDisarm dt rq profile) s a [] fun t =>
    t.cond = a.cond ∧ answered t rq stateS = true) ∧
  (∀ rq profile row mode xfade, cmdRuns a rq 0x240015 profile [.n row, .n mode, .n xfade] = true → mirrors a = false →
    swapCheck a profile row mode xfade = okS → Does (.profileSwap dt rq profile row mode xfade) s a [.cond, .logb] fun t =>
    profOf t profile = { profOf a profile with st := 1, swapRow := row, fade := mode == 0, x := xfade } ∧ bankSt t (othBank a profile) =
    5 ∧ answered t rq okS = true ∧
    t.logb.offered = a.logb.offered ++ [⟨0x0170, 0x89, [(profile : Int), 0, (row : Int)]⟩]) ∧
  (∀ rq profile, cmdRuns a rq 0x240016 profile [] = true → mirrors a = false → (profOf a profile).st = 1 →
    Does (.profileDisarm dt rq profile) s a [.cond] fun t =>
    (profOf t profile).st = 0 ∧ bankSt t (othBank a profile) = 2 ∧ answered t rq okS = true) ∧
  (∀ rq, cmdRuns a rq 0x020022 0 [] = true → mirrors a = false → a.jal.holder = some rq.sess → committing a = false →
    commitFail a a.jal.stage = none → Does (.stageCommit dt rq) s a [.jal, .plan] fun t =>
    t.jal.commitRow = some (rowAhead a 1000000) ∧ t.jal.commitSet = a.jal.stage ∧ t.jal.stage = a.jal.stage ∧ t.jal.commitOwn = true ∧
    t.jal.commitRq = some (rq.sess, rq.seq)) ∧
  (∀ row l ob sub v, a.jal.commitRow = some row → row ≤ curRow a → running a = true → a.jal.commitSet = l → (l.filter fun x => x.1 ==
    okey ob sub 0) = [(okey ob sub 0, v)] → (l.all fun x => x.1 / 4294967296 != 0x300010) = true → sub < 65536 → v ≠ [] →
    a.jal.commitOwn = true → Does (.stageApply dt) s a Comp.hub fun t =>
    t.jal.commitRow = none ∧ t.jal.commitSet = [] ∧ t.jal.lastCommitRow = row ∧ t.jal.stage = [] ∧ t.jal.holder = none ∧
    t.val ob sub 0 = v ∧ ⟨0x0133, 65, [(row : Int), (l.length : Int)]⟩ ∈ t.logb.offered) ∧
  (∀ rq, cmdRuns a rq 0x020022 0 [] = true → a.jal.holder ≠ some rq.sess ∨ (mirrors a = true ∧ a.pair.link = false) →
    Does (.stageCommit dt rq) s a [] fun t =>
    t.jal.stage = a.jal.stage ∧ answered t rq stateS = true) ∧
  (∀ rq k st, cmdRuns a rq 0x020022 0 [] = true → mirrors a = false → a.jal.holder = some rq.sess → committing a = false →
    commitFail a a.jal.stage = some (k, st) → st ≠ deferS → st ≠ pendingS → Does (.stageCommit dt rq) s a [] fun t =>
    t.jal.stage = a.jal.stage ∧ answered t rq st = true) ∧
  (∀ rq, cmdRuns a rq 0x020023 0 [] = true → a.jal.holder ≠ some rq.sess → Does (.stageDiscard dt rq) s a [] fun t =>
    t.jal.stage = a.jal.stage ∧ answered t rq stateS = true) ∧
  (∀ rq, cmdRuns a rq 0x020023 0 [] = true → a.jal.holder = some rq.sess → a.jal.commitOwn = true → committing a = true →
    Does (.stageDiscard dt rq) s a [] fun t =>
    t.jal.stage = a.jal.stage ∧ answered t rq busyS = true) ∧
  (∀ rq, cmdRuns a rq 0x020023 0 [] = true → a.jal.holder = some rq.sess → committing a = false → Does (.stageDiscard dt rq) s a [.jal,
    .vault, .logb] fun t =>
    t.jal.stage = [] ∧ t.jal.holder = none ∧ t.vault = { a.vault with bundlePend := none } ∧ t.logb.offered = a.logb.offered ++
    [⟨0x0134, 65, []⟩] ∧ answered t rq okS = true)

/-- GOOSE_REQUEST with an accepted change and no launch time takes the entry and gives the block the new values (the claim's slot apart)
with the next stNum and the present time, and for a block that the ring's owner does not hold leaves every block as it is;
GOOSE_RETRANSMIT of a block due lengthens its gap by the multiplier up to the maximum and is due again after it; GOOSE_TAL_EXPIRY of an
active entry 20 us past its deadline makes it LOST and counts; LATCH_LISTEN_END ends a latch's listening. -/
def Obligations.GoosePublishingAndSubscription : Prop := ∀ (dt : Nat) (s : State),
  let a := advance dt s
  (∀ ring i r ws slots, rType a ring = 2 → rEngine a ring = 2 → running a = true → a.vn 0x280120 (rOwner a ring) = ring →
    nextEntry a ring = some (i, .goose r) → r.launch = false → r.block < 512 → unitTakes a 10 = true → vB (gbCfg a r.block) 0 = true →
    vN (gbCfg a r.block) 1 = rOwner a ring → gbBasics a r.block = ws → ((upto ws.length).any fun k => gbClaimSlot a r.block != some k &&
    !(slotFits (nth ws k (1, 0)).1 (nth ws k (1, 0)).2 (nth r.image k 0))) = false → slots = ((upto ws.length).map fun k =>
    if gbClaimSlot a r.block == some k then 0 else nth r.image k 0) → (gbOf a r.block).held = none → logicBlock a r.block = false →
    ¬((gbOf a r.block).has = true ∧ (gbOf a r.block).slots = slots) →
    pfState (takeEntry a ring) (rOwner a ring) (servedEntry (takeEntry a ring) ring i) = true →
    (pfFrame (takeEntry a ring) (rOwner a ring) (servedEntry (takeEntry a ring) ring i) (gbEgress a r.block)).1 = true →
    Does (.gooseRequest dt ring) s a [.ctrs, .boot, .tm, .net, .cond, .pub, .parts, .tt, .ph, .pf, .logb, .cap, .mem, .dirty] fun t =>
    (gbOf t r.block).has = true ∧ (gbOf t r.block).slots = slots ∧ (gbOf t r.block).st = nextNum (gbOf a r.block).st ∧
    (gbOf t r.block).t = tai a) ∧
  (∀ ring i r, rType a ring = 2 → rEngine a ring = 2 → running a = true → a.vn 0x280120 (rOwner a ring) = ring → nextEntry a ring =
    some (i, .goose r) → r.launch = false → unitTakes a 10 = true → 512 ≤ r.block ∨ vB (gbCfg a r.block) 0 = false ∨
    vN (gbCfg a r.block) 1 ≠ rOwner a ring → Does (.gooseRequest dt ring) s a [.ctrs, .boot, .tm, .net, .cond, .pub, .parts, .tt, .ph,
    .pf, .logb, .cap, .mem, .dirty] fun t =>
    t.pub.blocks = a.pub.blocks) ∧
  (∀ block d, (gbOf a block).due = some d → (gbOf a block).has = true → running a = true → vB (gbCfg a block) 0 = true →
    d ≤ tai a + 5000 → (gbOf a block).held = none → Does (.gooseRetransmit dt block) s a [.ctrs, .boot, .tm, .net, .cond, .pub, .parts,
    .tt, .ph, .pf, .logb, .cap, .mem, .dirty] fun t =>
    (gbOf t block).due = some (d + (min ((gbOf a block).gap * vN (gbCfg a block) 12) (vN (gbCfg a block) 13 * 1000000) : Nat)) ∧
    (gbOf t block).st = (gbOf a block).st) ∧
  (∀ entry, (gsOf a entry).st = 2 → unitOk a 10 = true → (gsOf a entry).deadline + 20000 ≤ tai a →
    Does (.gooseTalExpiry dt entry) s a [.ctrs, .pub, .tt, .ph, .logb, .mem, .dirty] fun t =>
    (gsOf t entry).st = 3 ∧ t.ctr 0x290126 entry = (bump a 0x290126 entry).ctr 0x290126 entry) ∧
  (∀ latch, dueBy a (latchOf a latch).listen = true → Does (.latchListenEnd dt latch) s a [.pub] fun t =>
    t.pub = (setLatch a latch { latchOf a latch with listen := none }).pub)

/-- PART_START of a STOPPED partition with a usable core begins its start and queues its image; PART_IMAGE_READ moves the first image
read to verification; PART_IMAGE_VERIFIED of an accepted image makes the partition RUNNING and of a refused one faults it with cause 1;
PART_STOP of a RUNNING one begins STOPPING; PART_RESET begins RESETTING and its fence; a drained partition is STOPPED; the disable
time-out and the restart delay fence it; the time-out of a unit's drain leaves it OFF with a record, and of a flow's close ends the flow
with what it held. A command refused answers its status and changes nothing. -/
def Obligations.PartitionsStartStopAndReset : Prop := ∀ (dt : Nat) (s : State),
  let a := advance dt s
  (∀ rq p, cmdRuns a rq 0x300030 p [] = true → (partOf a p).st ≠ .stopped ∨ (partOf a p).fence.isSome = true ∨
    (partOf a p).zeroing ≠ 0 ∨ (workCores a p).isEmpty = true → Does (.partStart dt rq p) s a [] fun t =>
    answered t rq stateS = true) ∧
  (∀ rq p, cmdRuns a rq 0x300030 p [] = true → (partOf a p).st = .stopped → (partOf a p).fence = none → (partOf a p).zeroing = 0 →
    (workCores a p).isEmpty = false → p ∈ a.jal.heldParts → Does (.partStart dt rq p) s a [] fun t =>
    answered t rq busyS = true) ∧
  (∀ rq p, cmdRuns a rq 0x300030 p [] = true → (partOf a p).st = .stopped → (partOf a p).fence = none → (partOf a p).zeroing = 0 →
    (workCores a p).isEmpty = false → p ∉ a.jal.heldParts → Does (.partStart dt rq p) s a [.boot, .parts, .pair, .logb] fun t =>
    (partOf t p).st = .starting ∧ t.parts.reading = a.parts.reading ++ [p] ∧ answered t rq okS = true) ∧
  (∀ p r, a.parts.reading = p :: r → running a = true → Does (.partImageRead dt) s a [.parts] fun t =>
    t.parts = { a.parts with reading := r, verifying := a.parts.verifying ++ [p] }) ∧
  (∀ obj p r, a.parts.verifying = p :: r → running a = true → (partOf a p).stored = true → unitSt a 0 ≠ .fault →
    signedFail a 2 (partOf a p).svnMin obj = 0 → (partOf a p).st = .starting → (partOf a p).fence = none → placed a p = true →
    Does (.partImageVerified dt obj) s a [.freeCtr, .ctrs, .boot, .tm, .net, .cond, .pub, .parts, .tt, .ph, .lg, .pair, .pf, .vault,
    .logb, .cap, .mem, .dirty] fun t =>
    (partOf t p).st = .running ∧ (partOf t p).verified = true ∧ t.parts.verifying = r) ∧
  (∀ obj p r, a.parts.verifying = p :: r → running a = true → (partOf a p).stored = true → signedFail a 2 (partOf a p).svnMin obj ≠ 0 →
    (partOf a p).st = .starting → (partOf a p).fence = none → preCopy a p = false → Does (.partImageVerified dt obj) s a [.freeCtr,
    .ctrs, .boot, .jal, .tm, .net, .cond, .pub, .parts, .tt, .ph, .lg, .pair, .pf, .vault, .logb, .cap, .mem, .dirty] fun t =>
    (partOf t p).fault = ⟨1, 0xFF, 0, tai a⟩ ∧ (partOf t p).fence = some (a.now + 20000, 1) ∧ t.parts.verifying = r ∧
    t.jal = { a.jal with sess := t.jal.sess, lostCtr := t.jal.lostCtr, gw := t.jal.gw, gwLate := t.jal.gwLate }) ∧
  (∀ rq p, cmdRuns a rq 0x300031 p [] = true → (partOf a p).st ≠ .fault → (partOf a p).st ≠ .running →
    Does (.partStop dt rq p) s a [] fun t =>
    answered t rq stateS = true) ∧
  (∀ rq p, cmdRuns a rq 0x300031 p [] = true → (partOf a p).st = .fault → (partOf a p).fence = none → (partOf a p).zeroing = 0 →
    Does (.partStop dt rq p) s a [.freeCtr, .ctrs, .boot, .tm, .net, .cond, .pub, .parts, .tt, .ph, .lg, .pair, .pf, .vault, .logb,
    .cap, .mem, .dirty] fun t =>
    (partOf t p).st = .stopped ∧ (partOf t p).restartDue = none ∧ answered t rq okS = true) ∧
  (∀ rq p, cmdRuns a rq 0x300031 p [] = true → (partOf a p).st = .running → (partOf a p).fence = none → preCopy a p = false →
    Does (.partStop dt rq p) s a [.freeCtr, .ctrs, .boot, .tm, .net, .cond, .pub, .parts, .tt, .ph, .lg, .pair, .pf, .vault, .logb,
    .cap, .mem, .dirty] fun t =>
    (partOf t p).st = .stopping ∧ (partOf t p).drainDue = some (a.now + a.vn 0x300003 0) ∧ answered t rq okS = true) ∧
  (∀ rq p, cmdRuns a rq 0x300032 p [] = true → (partOf a p).st = .resetting → Does (.partReset dt rq p) s a [] fun t =>
    answered t rq okS = true) ∧
  (∀ rq p, cmdRuns a rq 0x300032 p [] = true → (partOf a p).st = .stopped ∨ (partOf a p).st = .none ∨ (partOf a p).st = .frozen ∨
    (partOf a p).st = .restoring → Does (.partReset dt rq p) s a [] fun t =>
    answered t rq stateS = true) ∧
  (∀ rq p, cmdRuns a rq 0x300032 p [] = true → (partOf a p).st = .running ∨ (partOf a p).st = .stopping ∨ (partOf a p).st = .starting ∨
    (partOf a p).st = .fault → (partOf a p).zeroing = 0 → (partOf a p).fence = none → preCopy a p = false →
    Does (.partReset dt rq p) s a [.freeCtr, .ctrs, .boot, .jal, .tm, .net, .cond, .pub, .parts, .tt, .ph, .lg, .pair, .pf, .vault,
    .logb, .cap, .mem, .dirty] fun t =>
    (partOf t p).st = .resetting ∧ (partOf t p).fence = some (a.now + 20000, 0) ∧ answered t rq okS = true ∧
    t.jal = { a.jal with sess := t.jal.sess, lostCtr := t.jal.lostCtr, gw := t.jal.gw, gwLate := t.jal.gwLate }) ∧
  (∀ p, pst a p = .stopping → drained a p = true → Does (.partitionDrained dt p) s a [.parts, .pair, .logb] fun t =>
    (partOf t p).st = .stopped ∧ (partOf t p).drainDue = none) ∧
  (∀ p, pst a p = .stopping → dueBy a (partOf a p).drainDue = true → Does (.disableTimeoutExpiry dt (.part p)) s a [.freeCtr, .store,
    .ctrs, .boot, .jal, .tm, .net, .plan, .cond, .pub, .parts, .tt, .ph, .lg, .pair, .pf, .vault, .logb, .cap, .mem, .dirty] fun t =>
    (partOf t p).fence = some (a.now + 20000, 2) ∧ (partOf t p).drainDue = none ∧
    t.jal = { a.jal with sess := t.jal.sess, lostCtr := t.jal.lostCtr, gw := t.jal.gw, gwLate := t.jal.gwLate }) ∧
  (∀ sub, (rollOf a sub).draining = true → unitOk a sub = true → dueBy a (rollOf a sub).drainDue = true →
    Does (.disableTimeoutExpiry dt (.unit sub)) s a [.freeCtr, .store, .ctrs, .boot, .tm, .net, .plan, .cond, .pub, .parts, .tt, .ph,
    .lg, .pair, .pf, .vault, .logb, .cap, .mem, .dirty] fun t =>
    unitSt t sub = .off ∧ ⟨0x0190, 64, [((256 + sub : Nat) : Int), 10]⟩ ∈ t.logb.offered) ∧
  (∀ f x, flowOf a f = some x → x.closing = true → x.logic = false → dueBy a x.closeDue = true →
    Does (.disableTimeoutExpiry dt (.flow f)) s a [.freeCtr, .store, .ctrs, .boot, .tm, .net, .plan, .cond, .pub, .parts, .tt, .ph, .lg,
    .pair, .pf, .vault, .logb, .cap, .mem, .dirty] fun t =>
    flowOf t f = none ∧ (t.tt.ready.all fun i => i.d.flow != f) = true ∧ (t.tt.run.all fun r => r.2.item.d.flow != f) = true) ∧
  (∀ p, pst a p = .fault → dueBy a (partOf a p).restartDue = true → p ∉ a.jal.heldParts → preCopy a p = false →
    Does (.restartDelayExpiry dt p) s a [.freeCtr, .ctrs, .boot, .jal, .tm, .net, .cond, .pub, .parts, .tt, .ph, .lg, .pair, .pf,
    .vault, .logb, .cap, .mem, .dirty] fun t =>
    (partOf t p).st = .resetting ∧ (partOf t p).fence = some (a.now + 20000, 0) ∧ (partOf t p).restartDue = none ∧
    t.jal = { a.jal with sess := t.jal.sess, lostCtr := t.jal.lostCtr, gw := t.jal.gw, gwLate := t.jal.gwLate })

/-- PART_FAULT, PW_ABORT_WRITE with KEY 0xDEAD by a core that runs its item, and BUDGET_STOP record cause, core, detail and time, count,
and begin the fence; FENCE_COMPLETE of a fault's fence leaves FAULT, of a stop's STOPPED, of a reset's RUNNING with a verified copy kept
and otherwise STARTING with the image to be read; PARTITION_ZEROED at creation leaves STOPPED with every address reading zero and at
removal forgets all but the stored image, and a partition created anew meanwhile is overwritten as a creation next; PART_IMAGE_APPLY
pends on the vault. A command refused answers its status and changes nothing. -/
def Obligations.PartitionFaultsAndTheirFences : Prop := ∀ (dt : Nat) (s : State),
  let a := advance dt s
  (∀ p cause core detail, 1 ≤ cause → cause ≤ 8 → running a = true → (partOf a p).st = .running → (partOf a p).fence = none →
    preCopy a p = false → Does (.partFault dt p cause core detail) s a [.freeCtr, .ctrs, .boot, .jal, .tm, .net, .cond, .pub, .parts,
    .tt, .ph, .lg, .pair, .pf, .vault, .logb, .cap, .mem, .dirty] fun t =>
    (partOf t p).fault = ⟨cause, core, detail, tai a⟩ ∧ (partOf t p).faults = min ((partOf a p).faults + 1) 4294967295 ∧
    (partOf t p).fence = some (a.now + 20000, 1) ∧
    t.jal = { a.jal with sess := t.jal.sess, lostCtr := t.jal.lostCtr, gw := t.jal.gw, gwLate := t.jal.gwLate }) ∧
  (∀ p core w x, runOf a p core = some x → bits w.toNat 16 16 = 0xDEAD → (partOf a p).st = .running → (partOf a p).fence = none →
    preCopy a p = false → Does (.pwAbortWrite dt p core w) s a [.freeCtr, .ctrs, .boot, .jal, .tm, .net, .cond, .pub, .parts, .tt, .ph,
    .lg, .pair, .pf, .vault, .logb, .cap, .mem, .dirty] fun t =>
    (partOf t p).fault = ⟨6, core, bits w.toNat 0 16, tai a⟩ ∧ (partOf t p).faults = min ((partOf a p).faults + 1) 4294967295 ∧
    (partOf t p).fence = some (a.now + 20000, 1) ∧
    t.jal = { a.jal with sess := t.jal.sess, lostCtr := t.jal.lostCtr, gw := t.jal.gw, gwLate := t.jal.gwLate }) ∧
  (∀ core x, tabGet a.tt.run core = some x → x.startNow + x.item.budget ≤ a.now → running a = true → (partOf a x.item.part).st =
    .running → (partOf a x.item.part).fence = none → preCopy a x.item.part = false → Does (.budgetStop dt core) s a [.freeCtr, .ctrs,
    .boot, .jal, .tm, .net, .cond, .pub, .parts, .tt, .ph, .lg, .pair, .pf, .vault, .logb, .cap, .mem, .dirty] fun t =>
    (partOf t x.item.part).fault = ⟨4, core, x.item.d.tag % 4294967296, tai a⟩ ∧ (partOf t x.item.part).faults =
    min ((partOf a x.item.part).faults + 1) 4294967295 ∧ (partOf t x.item.part).fence = some (a.now + 20000, 1) ∧
    t.jal = { a.jal with sess := t.jal.sess, lostCtr := t.jal.lostCtr, gw := t.jal.gw, gwLate := t.jal.gwLate }) ∧
  (∀ p u, (partOf a p).fence = some (u, 1) → Does (.fenceComplete dt p) s a [.freeCtr, .ctrs, .boot, .tm, .net, .cond, .pub, .parts,
    .tt, .ph, .lg, .pair, .pf, .vault, .logb, .cap, .mem, .dirty] fun t =>
    (partOf t p).st = .fault ∧ (partOf t p).fence = none) ∧
  (∀ p u, (partOf a p).fence = some (u, 2) → Does (.fenceComplete dt p) s a [.freeCtr, .ctrs, .boot, .tm, .net, .cond, .pub, .parts,
    .tt, .ph, .lg, .pair, .pf, .vault, .logb, .cap, .mem, .dirty] fun t =>
    (partOf t p).st = .stopped ∧ (partOf t p).fence = none) ∧
  (∀ p u, (partOf a p).fence = some (u, 0) → (partOf a p).verified = true → placed a p = true →
    Does (.fenceComplete dt p) s a [.freeCtr, .ctrs, .boot, .tm, .net, .cond, .pub, .parts, .tt, .ph, .lg, .pair, .pf, .vault, .logb,
    .cap, .mem, .dirty] fun t =>
    (partOf t p).st = .running ∧ (partOf t p).fence = none) ∧
  (∀ p u, (partOf a p).fence = some (u, 0) → (partOf a p).verified = false → Does (.fenceComplete dt p) s a [.freeCtr, .ctrs, .boot,
    .tm, .net, .cond, .pub, .parts, .tt, .ph, .lg, .pair, .pf, .vault, .logb, .cap, .mem, .dirty] fun t =>
    (partOf t p).st = .starting ∧ (partOf t p).fence = none ∧ t.parts.reading = adjoin a.parts.reading p) ∧
  (∀ p, (partOf a p).zeroing = 1 → Does (.partitionZeroed dt p) s a [.boot, .parts, .pair, .logb, .mem] fun t =>
    (partOf t p).st = .stopped ∧ (partOf t p).zeroing = 0 ∧ ∀ x < 18446744073709551616, memByte t p x = 0) ∧
  (∀ p, (partOf a p).zeroing = 2 → Does (.partitionZeroed dt p) s a [.boot, .jal, .parts, .pair, .logb, .mem] fun t =>
    partOf t p =
    { stored := (partOf a p).stored, digest := (partOf a p).digest, svn := (partOf a p).svn, svnMin := (partOf a p).svnMin, zeroing := b2n (partValid a p) }) ∧
  (∀ rq p, cmdRuns a rq 0x300013 p [] = true → vaultRoom a 2 = false → Does (.partImageApply dt rq p) s a [] fun t =>
    answered t rq busyS = true) ∧
  (∀ rq p, cmdRuns a rq 0x300013 p [] = true → vaultRoom a 2 = true → Does (.partImageApply dt rq p) s a [.vault] fun t =>
    t.vault = (vaultPush a 2 (.verifyImage p rq.sess rq.reqId)).vault ∧ answered t rq pendingS = true ∧ execRuns t (addrOf 0x300013 p) =
    true)

/-- MIG_PREPARE takes a STOPPED partition alone in its domain to RESTORING; MIG_START begins the handshake and pends on the migration
key; MIG_ROUND_END with the marked bytes within the threshold, or of the last round under MIG_FORCE, sets the freeze, of the last round
otherwise aborts with the reason rounds, and of an earlier one sends the marked granules and clears the map; MIG_RESTORE_COMPLETE at the
destination notes that it is restored; MIG_ABORT and MIG_PATH_FAIL end a migration before its resume with ABORTED and their reasons;
IMPORT_CHECKPOINT ends the hold of dispatch. A command refused answers its status and changes nothing. -/
def Obligations.MigrationSteps : Prop := ∀ (dt : Nat) (s : State),
  let a := advance dt s
  (∀ rq p, cmdRuns a rq 0x300050 p [] = true → (partOf a p).st ≠ .stopped ∨ (partOf a p).fence.isSome = true ∨
    (partOf a p).zeroing ≠ 0 ∨ (created a).any (fun q => q != p && domainOf a q == domainOf a p) = true →
    Does (.migPrepare dt rq p) s a [] fun t =>
    answered t rq stateS = true) ∧
  (∀ rq p, cmdRuns a rq 0x300050 p [] = true → (partOf a p).st = .stopped → (partOf a p).fence = none → (partOf a p).zeroing = 0 →
    (created a).any (fun q => q != p && domainOf a q == domainOf a p) = false → p ∉ a.jal.heldParts →
    Does (.migPrepare dt rq p) s a [.boot, .parts, .pair, .logb] fun t =>
    (partOf t p).st = .restoring ∧ (partOf t p).mig = { st := 1 } ∧ answered t rq okS = true) ∧
  (∀ rq p path peer dest force, cmdRuns a rq 0x300051 p [.n path, .o (leN 6 peer), .n dest, .n (b2n force)] = true →
    pst a p ≠ .running ∨ preCopy a p = true ∨ (created a).any (fun q => q != p && domainOf a q == domainOf a p) = true →
    Does (.migStart dt rq p path peer dest force) s a [] fun t =>
    answered t rq stateS = true) ∧
  (∀ rq p path peer dest force, cmdRuns a rq 0x300051 p [.n path, .o (leN 6 peer), .n dest, .n (b2n force)] = true → pst a p =
    .running → preCopy a p = false → (created a).any (fun q => q != p && domainOf a q == domainOf a p) = false → vaultRoom a 3 = true →
    Does (.migStart dt rq p path peer dest force) s a [.boot, .parts, .vault, .logb] fun t =>
    (partOf t p).mig =
    { st := 0, path := path, peer := peer, dest := dest, force := force, hand := true, rq := some (rq.sess, rq.reqId) } ∧
    answered t rq pendingS = true) ∧
  (∀ p round marked n, (partOf a p).mig.st = 2 → (partOf a p).mig.freeze = false → running a = true → round =
    (partOf a p).mig.rounds + 1 → n = 4096 * (dirtySpans (coresMark a p marked) p).length → n ≤ a.vn 0x300040 0 ∨
    (partOf a p).mig.force = true ∧ a.vn 0x300041 0 ≤ round → Does (.migRoundEnd dt p round marked) s a [.freeCtr, .ctrs, .boot, .tm,
    .net, .cond, .pub, .parts, .tt, .ph, .pair, .vault, .logb, .cap, .mem, .dirty] fun t =>
    (partOf t p).mig = { (partOf a p).mig with rounds := round, finalBytes := n, freeze := true }) ∧
  (∀ p round marked, (partOf a p).mig.st = 2 → (partOf a p).mig.freeze = false → running a = true → round =
    (partOf a p).mig.rounds + 1 → a.vn 0x300040 0 < 4096 * (dirtySpans (coresMark a p marked) p).length → (partOf a p).mig.force =
    false → a.vn 0x300041 0 ≤ round → Does (.migRoundEnd dt p round marked) s a [.freeCtr, .ctrs, .boot, .tm, .net, .cond, .pub, .parts,
    .tt, .ph, .pair, .vault, .logb, .cap, .mem, .dirty] fun t =>
    (partOf t p).mig.st = 6 ∧ (partOf t p).mig.reason = 6) ∧
  (∀ p round marked, (partOf a p).mig.st = 2 → (partOf a p).mig.freeze = false → running a = true → round =
    (partOf a p).mig.rounds + 1 → a.vn 0x300040 0 < 4096 * (dirtySpans (coresMark a p marked) p).length → round < a.vn 0x300041 0 →
    Does (.migRoundEnd dt p round marked) s a [.freeCtr, .ctrs, .boot, .tm, .net, .cond, .pub, .parts, .tt, .ph, .pair, .vault, .logb,
    .cap, .mem, .dirty] fun t =>
    (partOf t p).mig.st = 2 ∧ (partOf t p).mig.rounds = round ∧ dirtySpans t p = []) ∧
  (∀ p, (partOf a p).st = .restoring → (partOf a p).mig.st = 4 → running a = true → (partOf a p).mig.import_ = false →
    Does (.migRestoreComplete dt p) s a [.freeCtr, .store, .ctrs, .boot, .tm, .net, .cond, .pub, .parts, .tt, .ph, .lg, .pair, .pf,
    .vault, .logb, .cap, .mem, .dirty] fun t =>
    (partOf t p).mig = { (partOf a p).mig with restored := true }) ∧
  (∀ rq p, cmdRuns a rq 0x300054 p [] = true → preCopy a p = false → (partOf a p).st ≠ .frozen ∨ (partOf a p).mig.st ≠ 3 →
    (partOf a p).st ≠ .restoring → Does (.migAbort dt rq p) s a [] fun t =>
    answered t rq stateS = true) ∧
  (∀ rq p, cmdRuns a rq 0x300054 p [] = true → preCopy a p = true ∨ (partOf a p).st = .frozen ∧ (partOf a p).mig.st = 3 ∨
    (partOf a p).st = .restoring → Does (.migAbort dt rq p) s a [.freeCtr, .ctrs, .boot, .tm, .net, .cond, .pub, .parts, .tt, .ph,
    .pair, .vault, .logb, .cap, .mem, .dirty] fun t =>
    (partOf t p).mig.st = 6 ∧ (partOf t p).mig.reason = 8 ∧ (partOf t p).mig.hand = false ∧ answered t rq okS = true) ∧
  (∀ p, preCopy a p = true ∨ (partOf a p).st = .frozen ∧ (partOf a p).mig.st = 3 ∨ (partOf a p).st = .restoring →
    Does (.migPathFail dt p) s a [.freeCtr, .ctrs, .boot, .tm, .net, .cond, .pub, .parts, .tt, .ph, .pair, .vault, .logb, .cap, .mem,
    .dirty] fun t =>
    (partOf t p).mig.st = 6 ∧ (partOf t p).mig.reason = 7 ∧ (partOf t p).mig.hand = false) ∧
  (∀ p, (stepOf a p).hold = true → running a = true → inService a p = 0 → enginesClear a p = true →
    Does (.importCheckpoint dt p) s a [.ctrs, .boot, .tm, .net, .cond, .pub, .tt, .ph, .pair, .logb, .cap, .mem, .dirty] fun t =>
    (stepOf t p).hold = false)

/-- UNIT_DISABLE of a unit that takes work marks it draining with record 0x0129; UNIT_DRAINED takes it to OFF when its work is done;
UNIT_ENABLE starts a unit that is OFF; INTERNAL_CHECK_FAIL takes a unit to FAULT; DIE_POWER_UP_DONE ends a die's start; the first
D2D_LINK_FAIL of a die makes it DEGRADED and the second FAULT; LOGIC_UNIT_FAULT takes unit 20 to FAULT. A command refused answers its
status and changes nothing. -/
def Obligations.UnitsAndDies : Prop := ∀ (dt : Nat) (s : State),
  let a := advance dt s
  (∀ rq sub, cmdRuns a rq 0x010102 sub [] = true → unitPresent a sub = true → canDisable sub = false ∨ unitTakes a sub = false →
    Does (.unitDisable dt rq sub) s a [] fun t =>
    answered t rq stateS = true) ∧
  (∀ rq sub, cmdRuns a rq 0x010102 sub [] = true → unitPresent a sub = true → canDisable sub = true → unitTakes a sub = true →
    Does (.unitDisable dt rq sub) s a [.freeCtr, .ctrs, .boot, .tm, .net, .cond, .pub, .parts, .tt, .ph, .pair, .vault, .logb, .cap,
    .mem, .dirty] fun t =>
    (rollOf t sub).draining = true ∧ answered t rq okS = true) ∧
  (∀ sub, (rollOf a sub).draining = true → unitOk a sub = true → unitDrainedNow a sub = true → Does (.unitDrained dt sub) s a [.ctrs,
    .boot, .tm, .net, .cond, .pub, .parts, .tt, .ph, .pair, .pf, .logb, .cap, .mem, .dirty] fun t =>
    unitSt t sub = .off ∧ (rollOf t sub).draining = false) ∧
  (∀ rq sub, cmdRuns a rq 0x010103 sub [] = true → unitPresent a sub = true → canDisable sub = false ∨ unitSt a sub ≠ .off →
    Does (.unitEnable dt rq sub) s a [] fun t =>
    answered t rq stateS = true) ∧
  (∀ rq sub, cmdRuns a rq 0x010103 sub [] = true → unitPresent a sub = true → canDisable sub = true → unitSt a sub = .off →
    Does (.unitEnable dt rq sub) s a [.boot, .plan, .logb] fun t =>
    unitSt t sub = .starting ∧ answered t rq okS = true) ∧
  (∀ sub, hubUpNow a = true → unitSt a sub = .starting ∨ unitOk a sub = true → sub = 1 ∨ sub = 6 ∨ sub = 7 ∨ sub = 8 ∨ sub = 14 ∨ sub =
    15 ∨ sub = 18 ∨ sub = 21 ∨ sub = 23 → Does (.internalCheckFail dt sub) s a [.boot, .logb] fun t =>
    unitSt t sub = .fault ∧ t.logb.offered = a.logb.offered ++ [⟨0x0120, 64, [(sub : Int), ((unitSt a sub).code : Int), 4]⟩]) ∧
  (∀ die, unitSt a (24 + die) = .starting → die < 6 → running a = true → Does (.diePowerUpDone dt die) s a [.boot, .logb] fun t =>
    unitSt t (24 + die) = (if a.boot.d2dFailed.any (·.1 == die) then .degraded else .ready)) ∧
  (∀ die link, die < dieCount a → link ≤ 1 → (die, link) ∉ a.boot.d2dFailed → (die, 1 - link) ∉ a.boot.d2dFailed → unitOk a (24 + die) =
    true → Does (.d2dLinkFail dt die link) s a [.boot, .logb] fun t =>
    unitSt t (24 + die) = .degraded ∧ t.boot.d2dFailed = a.boot.d2dFailed ++ [(die, link)]) ∧
  (∀ die link, die < dieCount a → link ≤ 1 → (die, link) ∉ a.boot.d2dFailed → (die, 1 - link) ∈ a.boot.d2dFailed → unitOk a (24 + die) =
    true → Does (.d2dLinkFail dt die link) s a [.freeCtr, .ctrs, .boot, .tm, .net, .cond, .pub, .parts, .tt, .ph, .lg, .pair, .pf,
    .vault, .logb, .cap, .mem, .dirty] fun t =>
    unitSt t (24 + die) = .fault ∧ t.boot.d2dFailed = a.boot.d2dFailed ++ [(die, link)]) ∧
  (unitOk a 20 = true → Does (.logicUnitFault dt) s a [.freeCtr, .ctrs, .boot, .tm, .net, .cond, .pub, .parts, .tt, .ph, .lg, .pair,
    .pf, .vault, .logb, .cap, .mem, .dirty] fun t =>
    unitSt t 20 = .fault)

/-- TT_SUBMIT and SUBMIT_RING_ENTRY of a descriptor that passes the four checks make the item ready behind the others with the next
number; a refused TT_SUBMIT leaves its status in TT_RESULT, a refused ring entry in its slot, and makes nothing ready;
TRIGGER_PENDING_RELEASE makes a ring's waiting trigger ready once checks 2 and 3 admit it; TT_CANCEL withdraws the ready item of the TAG
and answers the number cancelled. The item's row is the model's reading of R444. -/
def Obligations.ItemsAreSubmittedAndCancelled : Prop := ∀ (dt : Nat) (s : State),
  let a := advance dt s
  (∀ p core x, runOf a p core = some x → (coreOf a core).stall = none → submitCheck a p (itemOf (portBytes a core)) = 0 →
    (itemOf (portBytes a core)).complete = false → Does (.ttSubmit dt p core) s a [.ctrs, .tt, .ph, .mem, .dirty] fun t =>
    (coreOf t core).result = 0x10000000 ∧ t.tt.nextItem = a.tt.nextItem + 1 ∧ t.tt.ready = a.tt.ready ++
    [{ num := a.tt.nextItem, part := p, d := (itemOf (portBytes a core)), src := .port, row := (if x.item.row == 0 then lastImg a p else x.item.row), atNow := a.now, budget := effBudget a p (itemOf (portBytes a core)).budget }]) ∧
  (∀ p core x, runOf a p core = some x → (coreOf a core).stall = none → submitCheck a p (itemOf (portBytes a core)) ≠ 0 →
    Does (.ttSubmit dt p core) s a [.ctrs, .tt, .ph, .mem, .dirty] fun t =>
    (coreOf t core).result = BitVec.ofNat 32 (268435456 + submitCheck a p (itemOf (portBytes a core)) * 65536) ∧ t.tt.ready =
    a.tt.ready) ∧
  (∀ ring i d, rType a ring = 2 → rEngine a ring = 0 → rPort a ring = false → 64 ≤ a.fn 0x310010 ring 13 → hubLive a = true →
    nextEntry a ring = some (i, .item d) → submitCheck (takeEntry a ring) (rOwner a ring) d = 0 → d.complete = false →
    Does (.submitRingEntry dt ring) s a [.ctrs, .tt, .ph, .mem, .dirty] fun t =>
    (ringOf t ring).taken = w32 ((ringOf a ring).taken + 1) ∧ tabGet (ringOf t ring).slots (slotOf a ring i) = some (.itemDone d 0) ∧
    (t.tt.ready.map fun x => (x.num, x.part, x.d.tag, x.src)) = (a.tt.ready.map fun x => (x.num, x.part, x.d.tag, x.src)) ++
    [(a.tt.nextItem, rOwner a ring, d.tag, .ring ring i)]) ∧
  (∀ ring i d, rType a ring = 2 → rEngine a ring = 0 → rPort a ring = false → 64 ≤ a.fn 0x310010 ring 13 → hubLive a = true →
    nextEntry a ring = some (i, .item d) → submitCheck (takeEntry a ring) (rOwner a ring) d ≠ 0 →
    Does (.submitRingEntry dt ring) s a [.ctrs, .tt, .ph, .mem, .dirty] fun t =>
    (ringOf t ring).taken = w32 ((ringOf a ring).taken + 1) ∧ tabGet (ringOf t ring).slots (slotOf a ring i) =
    some (.itemDone d (submitCheck (takeEntry a ring) (rOwner a ring) d)) ∧ t.tt.ready = a.tt.ready) ∧
  (∀ ring i j row, hubLive a = true → (ringOf a ring).pend = [(i, j, row)] → takesItems a (rOwner a ring) = true →
    quotaOk a (rOwner a ring) = true → vB (a.val 0x340110 (rOwner a ring) 0) 0 = false → tasksOf a (rOwner a ring) = [] →
    Does (.triggerPendingRelease dt ring) s a [.ctrs, .tt, .ph, .lg, .mem, .dirty] fun t =>
    (ringOf t ring).pend = [] ∧ (t.tt.ready.map fun x => (x.num, x.part, x.src)) = (a.tt.ready.map fun x => (x.num, x.part, x.src)) ++
    [(a.tt.nextItem, rOwner a ring, .trigger ring i j)]) ∧
  (∀ p core tag x it, runOf a p core = some x → (coreOf a core).stall = none → (a.tt.ready.filter fun i => i.part == p && i.d.tag ==
    tag.toNat) = [it] → it.src = .port → it.d.complete = false → flowOf a it.d.flow = none → Does (.ttCancel dt p core tag) s a [.ctrs,
    .boot, .tm, .net, .cond, .pub, .parts, .tt, .ph, .lg, .pair, .pf, .logb, .cap, .mem, .dirty] fun t =>
    t.tt.ready = a.tt.ready.filter (fun i => !(i.part == p && i.d.tag == tag.toNat)) ∧ (coreOf t core).result = 0x40000001)

/-- TT_DISPATCH, when an eligible item has a core, takes one off the ready list whose PRIO no other eligible item with a core undercuts,
and the core runs it from the present time, entering at ITEM_ENTRY with the four double words of its descriptor; with none it changes
nothing but time; TT_DONE of a core that runs an item of no flow leaves the core idle and awake. For an item that is no logic body of a
partition not being moved. -/
def Obligations.DispatchTakesTheLeastPriority : Prop := ∀ (dt : Nat) (s : State),
  let a := advance dt s
  (∀ it c, ttRuns a = true → nextDispatch a = some (it, c) → (match it.src with | .trigger .. => false | _ => true) = true →
    Does (.ttDispatch dt) s a [.ctrs, .boot, .plan, .cond, .tt, .ph, .logb, .mem, .dirty] fun t =>
    t.tt.ready = a.tt.ready.filter (fun j => j.num != it.num) ∧ (tabGet t.tt.run c).map (fun r => (r.item, r.start, r.startNow,
    r.commits)) = some (it, tai a, a.now, 0) ∧
    (tabGet t.tt.run c).map (fun r => (r.pc, r.args)) = some (a.fn 0x310020 it.part 0, [0, 8, 16, 24].map fun o =>
    fieldN (itemBytes it.d it.d.stat) o 8) ∧ it ∈ a.tt.ready ∧ (tabGet a.tt.run c).isNone = true ∧ eligible a it = true ∧
    ∀ j ∈ a.tt.ready, eligible a j = true → (coreFor a j).isSome = true → it.d.prio ≤ j.d.prio) ∧
  (ttRuns a = true → nextDispatch a = none → Does (.ttDispatch dt) s a [] fun t =>
    t.tt = a.tt) ∧
  (∀ core result outputs x, tabGet a.tt.run core = some x → x.item.src = .port → x.item.d.complete = false → flowOf a x.item.d.flow =
    none → (coreOf a core).stall = none → hubLive a = true → (partOf a x.item.part).mig.st = 0 →
    Does (.ttDone dt core result outputs) s a [.ctrs, .boot, .tm, .net, .cond, .pub, .parts, .tt, .ph, .lg, .pair, .pf, .logb, .cap,
    .mem, .dirty] fun t =>
    tabGet t.tt.run core = none ∧ tabGet t.tt.awake core = some a.now ∧ t.tt.ready = a.tt.ready)

/-- TT_COMMIT to a target that is none answers NOT_TARGET and counts; of an item that is not the oldest of its ORDERED flow it is held;
with a free slot it is copied into the next slot and PROD advances; on a full ring the core stalls with it; COMMIT_SLOT_FREE of a ring
with a free slot copies a released commit that waits. Stated for commits without a completion ring, into rings of an engine. -/
def Obligations.CommitsEnterTheirRingInOrder : Prop := ∀ (dt : Nat) (s : State),
  let a := advance dt s
  (∀ p core w mem x, runOf a p core = some x → (coreOf a core).stall = none → commitTarget a p (bits w.toNat 0 8) = false →
    Does (.ttCommit dt core w mem) s a [.ctrs, .boot, .tm, .net, .cond, .pub, .parts, .tt, .ph, .pair, .pf, .logb, .cap, .mem,
    .dirty] fun t =>
    (coreOf t core).result = 0x200A0000 ∧ t.tt.rings = a.tt.rings ∧ t.tt.held = a.tt.held) ∧
  (∀ p core w mem x f, runOf a p core = some x → (coreOf a core).stall = none → commitTarget a p (bits w.toNat 0 8) = true →
    bit w.toNat 16 = false → flowOf a x.item.d.flow = some f → f.typ = 2 → x.commits < 16 → isOldest a x.item = false →
    Does (.ttCommit dt core w mem) s a [.ctrs, .boot, .tm, .net, .cond, .pub, .parts, .tt, .ph, .pair, .pf, .logb, .cap, .mem,
    .dirty] fun t =>
    (coreOf t core).result = 0x20000000 ∧ t.tt.rings = a.tt.rings ∧ t.tt.held = a.tt.held ++ [⟨x.item.num, p, bits w.toNat 0 8, none,
    entryOf a p (bits w.toNat 0 8) (portBytes a core) mem, x.item.row⟩]) ∧
  (∀ p core w mem x, runOf a p core = some x → (coreOf a core).stall = none → commitTarget a p (bits w.toNat 0 8) = true →
    bit w.toNat 16 = false → flowOf a x.item.d.flow = none → rSpace a (bits w.toNat 0 8) ≠ 0 → (a.tt.waitRel.any fun h => h.q ==
    bits w.toNat 0 8) = false → rType a (bits w.toNat 0 8) = 2 → (stepOf a p).live ≤ x.item.row →
    Does (.ttCommit dt core w mem) s a [.ctrs, .boot, .tm, .net, .cond, .pub, .parts, .tt, .ph, .pair, .pf, .logb, .cap, .mem,
    .dirty] fun t =>
    (coreOf t core).result = 0x20000000 ∧ (ringOf t (bits w.toNat 0 8)).prod = w32 ((ringOf a (bits w.toNat 0 8)).prod + 1) ∧
    tabGet (ringOf t (bits w.toNat 0 8)).slots (slotOf a (bits w.toNat 0 8) (ringOf a (bits w.toNat 0 8)).prod) =
    some (entryOf a p (bits w.toNat 0 8) (portBytes a core) mem)) ∧
  (∀ p core w mem x, runOf a p core = some x → (coreOf a core).stall = none → commitTarget a p (bits w.toNat 0 8) = true →
    bit w.toNat 16 = false → flowOf a x.item.d.flow = none → rSpace a (bits w.toNat 0 8) = 0 →
    Does (.ttCommit dt core w mem) s a [.ctrs, .boot, .tm, .net, .cond, .pub, .parts, .tt, .ph, .pair, .pf, .logb, .cap, .mem,
    .dirty] fun t =>
    (coreOf t core).stall = some (bits w.toNat 0 8, none, entryOf a p (bits w.toNat 0 8) (portBytes a core) mem, x.item.row) ∧
    t.tt.rings = a.tt.rings) ∧
  (∀ ring h, hubLive a = true → rType a ring = 2 → rSpace a ring ≠ 0 → a.tt.waitRel = [h] → h.q = ring → h.comp = none →
    (stepOf a h.part).live ≤ h.row → (a.tt.cores.all fun x => x.2.stall.isNone) = true → Does (.commitSlotFree dt ring) s a [.ctrs,
    .boot, .tm, .net, .cond, .pub, .parts, .tt, .ph, .pair, .pf, .logb, .cap, .mem, .dirty] fun t =>
    t.tt.waitRel = [] ∧ (ringOf t ring).prod = w32 ((ringOf a ring).prod + 1) ∧
    tabGet (ringOf t ring).slots (slotOf a ring (ringOf a ring).prod) = some h.entry)

/-- For a core that runs an item of the partition and is not stalled: TT_FLOW_OPEN of type 1 or 2 within the quota takes a flow number
not in use and answers it, beyond the quota or with no number left answers NO_FLOW and opens none, and of type 0 or 3 answers BAD_DESC
and opens none; TT_FLOW_CLOSE of a flow of the partition that no item uses frees the flow, of one that items use leaves it closing with
its time-out, and of any other flow changes nothing. A core that runs no item of the partition, or is stalled, does neither.
TT_RESULT_READ changes nothing. By the ring's owner, RING_PROD_WRITE and RING_CONS_WRITE of a legal index move it, the entry of a
doorbell that is not a TX ring's into its slot, and any other write changes the ring's count of errors alone; another partition's write
changes nothing. Which free number an open flow takes is a free value. That a logic task's flow is not the partition's to close is the
model's reading of R405. -/
def Obligations.FlowsAndRingIndices : Prop := ∀ (dt : Nat) (s : State),
  let a := advance dt s
  (∀ p core w x, runOf a p core = some x → (coreOf a core).stall = none → w.toNat % 4 = 1 ∨ w.toNat % 4 = 2 → (freeFlows a).isEmpty =
    false → (a.tt.flows.filter fun y => y.2.owner == p).length < pcfg a p 5 → Does (.ttFlowOpen dt p core w) s a [.freeCtr,
    .tt] fun t =>
    (coreOf t core).result.toNat / 65536 = 0x3000 ∧ flowOf a ((coreOf t core).result.toNat % 65536) = none ∧ t.tt.flows =
    tabPut a.tt.flows ((coreOf t core).result.toNat % 65536) { owner := p, typ := w.toNat % 4 }) ∧
  (∀ p core w x, runOf a p core = some x → (coreOf a core).stall = none → w.toNat % 4 = 1 ∨ w.toNat % 4 = 2 → (freeFlows a).isEmpty =
    true ∨ pcfg a p 5 ≤ (a.tt.flows.filter fun y => y.2.owner == p).length → Does (.ttFlowOpen dt p core w) s a [.freeCtr, .tt] fun t =>
    (coreOf t core).result = 0x300B0000 ∧ t.tt.flows = a.tt.flows) ∧
  (∀ p core w x, runOf a p core = some x → (coreOf a core).stall = none → w.toNat % 4 = 0 ∨ w.toNat % 4 = 3 →
    Does (.ttFlowOpen dt p core w) s a [.freeCtr, .tt] fun t =>
    (coreOf t core).result = 0x30050000 ∧ t.tt.flows = a.tt.flows) ∧
  (∀ p core w, runOf a p core = none ∨ (coreOf a core).stall ≠ none → Does (.ttFlowOpen dt p core w) s a [] fun t =>
    t.tt = a.tt) ∧
  (∀ p core w f x y, runOf a p core = some x → (coreOf a core).stall = none → f = bits w.toNat 0 14 → flowOf a f = some y → y.owner =
    p → y.logic = false → flowUsed a f y = false → Does (.ttFlowClose dt p core w) s a [.tt] fun t =>
    t.tt =
    { a.tt with flows := tabDel (tabPut a.tt.flows f { y with closing := true, closeDue := some (a.now + a.vn 0x300003 0) }) f } ∧
    flowOf t f = none) ∧
  (∀ p core w f x y, runOf a p core = some x → (coreOf a core).stall = none → f = bits w.toNat 0 14 → flowOf a f = some y → y.owner =
    p → y.logic = false → flowUsed a f y = true → Does (.ttFlowClose dt p core w) s a [.tt] fun t =>
    t.tt = { a.tt with flows := tabPut a.tt.flows f { y with closing := true, closeDue := some (a.now + a.vn 0x300003 0) } }) ∧
  (∀ p core w, runOf a p core = none ∨ (coreOf a core).stall ≠ none ∨ (flowOf a (bits w.toNat 0 14)).all (fun y => y.owner != p ||
    y.logic) = true → Does (.ttFlowClose dt p core w) s a [] fun t =>
    t.tt = a.tt) ∧
  (∀ core, Does (.ttResultRead dt core) s a [] fun t =>
    coreOf t core = coreOf a core) ∧
  (∀ p ring value entries, ownsRing a p ring = true → prodHard a ring = false → 1 ≤ idxDist (ringOf a ring).prod value.toNat →
    idxDist (ringOf a ring).prod value.toNat ≤ rSpace a ring → Does (.ringProdWrite dt p ring value entries) s a [.ctrs, .boot, .tm,
    .net, .cond, .pub, .parts, .tt, .ph, .pf, .logb, .cap, .mem, .dirty] fun t =>
    (ringOf t ring).prod = value.toNat ∧ (ringOf t ring).cons = (ringOf a ring).cons) ∧
  (∀ p ring value entries e more, ownsRing a p ring = true → prodHard a ring = false → rType a ring ≠ 1 →
    idxDist (ringOf a ring).prod value.toNat = 1 → 1 ≤ rSpace a ring → entries = e :: more →
    Does (.ringProdWrite dt p ring value entries) s a [.tt] fun t =>
    (ringOf t ring).prod = value.toNat ∧ tabGet (ringOf t ring).slots (slotOf a ring (ringOf a ring).prod) = some e ∧ t.tt =
    { a.tt with rings := tabPut a.tt.rings ring (ringOf t ring) }) ∧
  (∀ p ring value entries, ownsRing a p ring = true → prodHard a ring = true ∨ idxDist (ringOf a ring).prod value.toNat = 0 ∨
    rSpace a ring < idxDist (ringOf a ring).prod value.toNat → Does (.ringProdWrite dt p ring value entries) s a [.ctrs] fun t =>
    t.ctrs = (bump a 0x310012 ring).ctrs) ∧
  (∀ p ring value entries, ownsRing a p ring = false → Does (.ringProdWrite dt p ring value entries) s a [] fun t =>
    t.tt = a.tt) ∧
  (∀ p ring value, ownsRing a p ring = true → 3 ≤ rType a ring ∨ rPort a ring = false ∨ rType a ring = 0 →
    1 ≤ idxDist (ringOf a ring).cons value.toNat →
    idxDist (ringOf a ring).cons value.toNat ≤ idxDist (ringOf a ring).cons (if 3 ≤ rType a ring then (ringOf a ring).prod else (ringOf a ring).done) →
    Does (.ringConsWrite dt p ring value) s a [.tt] fun t =>
    t.tt = { a.tt with rings := tabPut a.tt.rings ring { ringOf a ring with cons := value.toNat } } ∧ (ringOf t ring).cons =
    value.toNat) ∧
  (∀ p ring value, ownsRing a p ring = true → rPort a ring = true ∧ (rType a ring = 1 ∨ rType a ring = 2) ∨
    idxDist (ringOf a ring).cons value.toNat = 0 ∨
    idxDist (ringOf a ring).cons (if 3 ≤ rType a ring then (ringOf a ring).prod else (ringOf a ring).done) < idxDist (ringOf a ring).cons value.toNat →
    Does (.ringConsWrite dt p ring value) s a [.ctrs] fun t =>
    t.ctrs = (bump a 0x310012 ring).ctrs) ∧
  (∀ p ring value, ownsRing a p ring = false → Does (.ringConsWrite dt p ring value) s a [] fun t =>
    t.tt = a.tt)

/-- DMA_ENTRY of a malformed descriptor completes it with BAD_DESC and of a good one starts an operation under the next number on a
working engine; DMA_COMPLETE of a copy that faulted nowhere moves its source octets to its destination and changes no other byte of any
partition; DMA_ENGINE_FAULT ends every operation of the engine and marks unit 13 DEGRADED, or FAULT with the last engine. Guest memory
in canonical form. -/
def Obligations.DmaMovesMemory : Prop := ∀ (dt : Nat) (s : State),
  let a := advance dt s
  (∀ ring i d, rType a ring = 2 → rEngine a ring = 1 → rPort a ring = false → hubLive a = true → dmaTags a < 256 → nextEntry a ring =
    some (i, .dma d) → d.reservedOk = false → Does (.dmaEntry dt ring) s a [.freeCtr, .ctrs, .tt, .ph, .mem, .dirty] fun t =>
    tabGet (ringOf t ring).slots (slotOf a ring i) = some (.dmaDone d 5) ∧ t.tt.dma = a.tt.dma) ∧
  (∀ ring i d, rType a ring = 2 → rEngine a ring = 1 → rPort a ring = false → hubLive a = true → dmaTags a < 256 → nextEntry a ring =
    some (i, .dma d) → d.reservedOk = true → d.op ≤ 2 → 1 ≤ d.len → d.len ≤ 16777216 → unitTakes a 13 = true → pst a (rOwner a ring) =
    .running → dmaCount a (rOwner a ring) < pcfg a (rOwner a ring) 11 → d.complete = false → (dmaWorking a).isEmpty = false →
    Does (.dmaEntry dt ring) s a [.freeCtr, .ctrs, .tt, .ph, .mem, .dirty] fun t =>
    t.tt.nextDma = a.tt.nextDma + 1 ∧ (tabGet t.tt.dma a.tt.nextDma).map (fun o => (o.part, o.q, o.d)) = some (rOwner a ring, ring, d) ∧
    ((tabGet t.tt.dma a.tt.nextDma).any fun o => (dmaWorking a).contains o.engine) = true ∧
    tabGet (ringOf t ring).slots (slotOf a ring i) = some (.dmaDone d 0)) ∧
  (∀ dmaId o, tabGet a.tt.dma dmaId = some o → hubLive a = true → o.d.fence = false → o.d.op = 0 → o.faulted = false → o.suppressed =
    false → o.d.complete = false → Memory.wf a.mem = true → Does (.dmaComplete dt dmaId) s a [.ctrs, .tt, .ph, .mem, .dirty] fun t =>
    tabGet t.tt.dma dmaId = none ∧ memRead t o.part o.d.dst o.d.len = memRead a o.part o.d.src o.d.len ∧ ∀ k : Nat,
    ¬(memKey o.part o.d.dst ≤ k ∧ k < memKey o.part o.d.dst + o.d.len) → cellGet t.mem k = cellGet a.mem k) ∧
  (∀ engine, engine < 8 → a.tt.dmaFailed.contains engine = false → unitOk a 13 = true → Does (.dmaEngineFault dt engine) s a [.ctrs,
    .boot, .tt, .ph, .logb, .mem, .dirty] fun t =>
    t.tt.dmaFailed = a.tt.dmaFailed ++ [engine] ∧ (t.tt.dma.any fun o => o.2.engine == engine) = false ∧ unitSt t 13 =
    (if a.tt.dmaFailed.length ≥ 7 then .fault else .degraded))

/-- SNAPSHOT_LO_READ of a register pair latches bits 63 to 32 and the status word of that instant for the reading core, so that the HI
register and the status register read them; CF_MISSED_READ, PF_DENIED_READ and LG_OVERRUN_READ clear their count with its SAT bit and
nothing else of the unit. -/
def Obligations.WindowReadsLatchAndClear : Prop := ∀ (dt : Nat) (s : State),
  let a := advance dt s
  (∀ p core offset v st, pairAt a p offset = some (v, st) → Does (.snapshotLoRead dt p core offset) s a [.tt] fun t =>
    snapOf t p core offset = (v / 4294967296, st) ∧ (offset = 0x30 → winRead t p core 0x34 = v / 4294967296 ∧ winRead t p core 0x38 =
    st)) ∧
  (∀ p core, Does (.cfMissedRead dt p core) s a [.cond] fun t =>
    t.cond = { a.cond with imgs := tabPut a.cond.imgs p { imgOf a p with cfMissed := 0, cfSat := false } }) ∧
  (∀ p core, Does (.pfDeniedRead dt p core) s a [.parts, .pf] fun t =>
    pfOf t p = { pfOf a p with denied := 0, deniedSat := false }) ∧
  (∀ p core slot j, ((tasksOf a p).find? fun j => ltF a j 2 == slot) = some j → Does (.lgOverrunRead dt p core slot) s a [.lg] fun t =>
    taskOf t j = { taskOf a j with overrun := 0, overrunSat := false })

/-- REGISTER_WRITE to a port register of a core that runs an item of the partition and is not stalled stages the word; to a bell pending
register clears the bits written as 1; to a channel status register with bit 9 of a channel the partition sends on clears ABORTED; to an
offset below the pigeonholes' range that no chapter defines changes nothing. A write by a core that runs no item of the partition stages
nothing. -/
def Obligations.WindowWrites : Prop := ∀ (dt : Nat) (s : State),
  let a := advance dt s
  (∀ p core offset w i, offset = 0x200 + 4 * i → i < 8 → p < 64 → (runOf a p core).isSome = true → (coreOf a core).stall = none →
    Does (.registerWrite dt .window p core offset w) s a [.tt] fun t =>
    (coreOf t core).regs = setNth (coreOf a core).regs i w ∧ t.tt.rings = a.tt.rings ∧ t.tt.run = a.tt.run) ∧
  (∀ p core offset w, 0x200 ≤ offset → offset < 0x1000 → p < 64 → runOf a p core = none →
    Does (.registerWrite dt .window p core offset w) s a [] fun t =>
    t.tt = a.tt) ∧
  (∀ p core w, 64 ≤ p ∨ (coreOf a core).stall = none → Does (.registerWrite dt .window p core 0x4050 w) s a [.ph] fun t =>
    (bellOf t p).pend = (bellOf a p).pend &&& (bellOf a p).pend ^^^ ((bellOf a p).pend &&& w.toNat) ∧ (bellOf t p).mask =
    (bellOf a p).mask) ∧
  (∀ p core offset w i c, offset = 0x4400 + 4 * i → i < 256 → 64 ≤ p ∨ (coreOf a core).stall = none → chanFor a p i true = some c →
    bit w.toNat 9 = true → Does (.registerWrite dt .window p core offset w) s a [.ph] fun t =>
    (chanOf t c).aborted = false ∧ (chanOf t c).q = (chanOf a c).q) ∧
  (∀ p core offset w, offset < 0x200 ∨ 0x2000 ≤ offset → offset < 0x4000 ∨ 0x8000 ≤ offset → offset ≠ 0x48 →
    Does (.registerWrite dt .window p core offset w) s a [] fun t =>
    True)

/-- PH_STAGE_HEADER stages every bit of the header but ORPHAN and posts nothing. PH_POST stages its header and then, on a channel that
may take it, appends the staged message, its words beyond LENGTH zero, counts it, raises RX_BELL at the receiver where the channel has
one and answers OK; with the fabric not up or the posting partition neither RUNNING nor STOPPING it answers NOT_READY, on no channel of
this sender NOT_OWNER, to a receiver being fenced ABORTED and on a full channel, counted, FULL, and appends nothing. PH_TAKE by the
receiver of the oldest message removes it, fills the registers with its header and words, clears TIMEOUT, raises ACK_BELL at the sender
where the channel has one and the message is no orphan, and answers OK with the number left; of an empty channel it answers EMPTY with
every register zero, of a channel of another receiver NOT_OWNER, with the fabric not up NOT_READY, and by an endpoint being fenced it
does nothing. PH_BELL_RING raises the bit at an endpoint that a channel joins and answers OK, at another answers NOT_OWNER, with bit 63
changes nothing but its count and with the fabric not up answers NOT_READY. PH_ACK_TIMEOUT of an overdue oldest message marks the
channel, counts and records it and raises bell 63 at the sender, once; otherwise it does nothing. A bit is raised when it is pending or
carried by a bell item. Which refusal answers where several hold is the order of entry 100; a channel whose sender keeps messages
waiting for room fills up behind the take. -/
def Obligations.PigeonholesCarryMessages : Prop := ∀ (dt : Nat) (s : State),
  let a := advance dt s
  (∀ ep core w, Does (.phStageHeader dt ep core w) s a [.ph] fun t =>
    (phCore t ep core).regs = ((w &&& 0xBFFFFFFF) ||| (nth (phCore a ep core).regs 0 0 &&&
    0x40000000)) :: (phCore a ep core).regs.tail ∧ (phCore t ep core).result = (phCore a ep core).result ∧ t.ph.chans = a.ph.chans) ∧
  (∀ ep core w c, chanFor a ep (bits w.toNat 16 10) true = some c → postCheck a ep (some c) = 0 →
    Does (.phPost dt ep core w) s a [.ctrs, .tt, .ph, .mem, .dirty] fun t =>
    (chanOf t c).q = (chanOf a c).q ++ [stagedMsg (phHeader a ep core w) ep core] ∧ (phCore t ep core).result = 0x10000000 ∧
    (stagedMsg (phHeader a ep core w) ep core).code = bits w.toNat 0 16 ∧
    ((stagedMsg (phHeader a ep core w) ep core).words.drop (bits w.toNat 26 4)).all (· == 0) = true ∧ t.ctr 0x340102 c =
    min (a.ctr 0x340102 c + 1) 0xFFFFFFFF ∧ (chF a c 5 < 64 → rung t (chF a c 2) (chF a c 5) = true)) ∧
  (∀ ep core w c, chanFor a ep (bits w.toNat 16 10) true = some c → postCheck a ep (some c) = 2 →
    Does (.phPost dt ep core w) s a [.ctrs, .tt, .ph, .mem, .dirty] fun t =>
    t.ph.chans = a.ph.chans ∧ (phCore t ep core).result = 0x10020000 ∧ t.ctr 0x340103 c = min (a.ctr 0x340103 c + 1) 0xFFFFFFFF) ∧
  (∀ ep core w k, k = postCheck a ep (chanFor a ep (bits w.toNat 16 10) true) → k = 3 ∨ k = 4 ∨ k = 5 →
    Does (.phPost dt ep core w) s a [.ph] fun t =>
    t.ph.chans = a.ph.chans ∧ t.ph.bells = a.ph.bells ∧ (phCore t ep core).result = BitVec.ofNat 32 (0x10000000 + k * 65536)) ∧
  (∀ ep core w c, fabricUp a = true → 64 ≤ ep ∨ pst a ep = .running ∨ pst a ep = .stopping → chanFor a ep (bits w.toNat 16 10) true =
    c → c = none ∨ c.any (fun c => fencing a (chF a c 2)) = true → Does (.phPost dt ep core w) s a [.ph] fun t =>
    t.ph.chans = a.ph.chans ∧ (phCore t ep core).result = (if c = none then 0x10030000 else 0x10040000)) ∧
  (∀ ep core w c m rest, fencing a ep = false → fabricUp a = true → chanFor a ep (bits w.toNat 0 10) false = some c → (chanOf a c).q =
    m :: rest → Does (.phTake dt ep core w) s a [.ctrs, .tt, .ph, .mem, .dirty] fun t =>
    (chanOf t c).q.take rest.length = rest ∧ (phCore t ep core).regs =
    BitVec.ofNat 32 (2147483648 + b2n m.orphan * 1073741824 + m.len * 67108864 + bits w.toNat 0 10 * 65536 + m.code) :: m.words ∧
    (phCore t ep core).result = BitVec.ofNat 32 (0x20000000 + rest.length) ∧ (chanOf t c).timeout = false ∧ (chF a c 6 < 64 → m.orphan =
    false → rung t (chF a c 1) (chF a c 6) = true)) ∧
  (∀ ep core w c m rest, fencing a ep = false → fabricUp a = true → chanFor a ep (bits w.toNat 0 10) false = some c → (chanOf a c).q =
    m :: rest → (chanOf a c).wait = [] → chF a c 1 ≠ 65 → Does (.phTake dt ep core w) s a [.ctrs, .tt, .ph, .mem, .dirty] fun t =>
    (chanOf t c).q = rest) ∧
  (∀ ep core w c, fencing a ep = false → fabricUp a = true → chanFor a ep (bits w.toNat 0 10) false = some c → (chanOf a c).q = [] →
    Does (.phTake dt ep core w) s a [.ph] fun t =>
    (phCore t ep core).result = 0x20010000 ∧ (phCore t ep core).regs = List.replicate 16 0 ∧ t.ph.chans = a.ph.chans ∧ t.ph.bells =
    a.ph.bells) ∧
  (∀ ep core w, fencing a ep = false → fabricUp a = false ∨ chanFor a ep (bits w.toNat 0 10) false = none →
    Does (.phTake dt ep core w) s a [.ph] fun t =>
    (phCore t ep core).result = (if fabricUp a then 0x20030000 else 0x20050000) ∧ (phCore t ep core).regs = (phCore a ep core).regs ∧
    t.ph.chans = a.ph.chans ∧ t.ph.bells = a.ph.bells) ∧
  (∀ ep core w, fencing a ep = true → Does (.phTake dt ep core w) s a [] fun t =>
    t.ph = a.ph) ∧
  (∀ ep core w, fabricUp a = true → bits w.toNat 0 6 ≠ 63 → joined a ep (bits w.toNat 8 7) = false →
    Does (.phBellRing dt ep core w) s a [.ph, .ctrs] fun t =>
    (phCore t ep core).result = 0x30030000 ∧ t.ph.bells = a.ph.bells ∧ t.ctrs =
    (if ep < 64 then (bump a 0x340111 ep).ctrs else a.ctrs)) ∧
  (∀ ep core w, fabricUp a = true → bits w.toNat 0 6 ≠ 63 → joined a ep (bits w.toNat 8 7) = true →
    Does (.phBellRing dt ep core w) s a [.ctrs, .tt, .ph, .mem, .dirty] fun t =>
    (phCore t ep core).result = 0x30000000 ∧ rung t (bits w.toNat 8 7) (bits w.toNat 0 6) = true) ∧
  (∀ ep core w, fabricUp a = true → bits w.toNat 0 6 = 63 → Does (.phBellRing dt ep core w) s a [.ctrs] fun t =>
    t.ctrs = (if ep < 64 then (bump a 0x340111 ep).ctrs else a.ctrs)) ∧
  (∀ ep core w, fabricUp a = false → Does (.phBellRing dt ep core w) s a [.ph] fun t =>
    (phCore t ep core).result = 0x30050000 ∧ t.ph.bells = a.ph.bells) ∧
  (∀ c m rest, (chanOf a c).q = m :: rest → (chanOf a c).timed = false → m.postedAt + chF a c 7 ≤ a.now → fabricUp a = true →
    Does (.phAckTimeout dt c) s a [.ctrs, .tt, .ph, .logb, .mem, .dirty] fun t =>
    (chanOf t c).timeout = true ∧ (chanOf t c).timed = true ∧ (chanOf t c).q = (chanOf a c).q ∧ t.ctr 0x340106 c =
    min (a.ctr 0x340106 c + 1) 0xFFFFFFFF ∧ rung t (chF a c 1) 63 = true ∧ t.logb.offered = a.logb.offered ++ [⟨0x01A0, 0x8E,
    [(c : Int)]⟩]) ∧
  (∀ c, (chanOf a c).timed = true ∨ fabricUp a = false ∨ (chanOf a c).q.head?.all (fun m => decide (a.now < m.postedAt + chF a c 7)) =
    true → Does (.phAckTimeout dt c) s a [] fun t =>
    t.ph = a.ph)

/-- CYCLE_BOUNDARY at a new boundary of a valid task of a running partition without pending forces starts the cycle, whose number and
snapshot time it notes, when no body lives, and otherwise counts one skipped boundary with record 0x01B0 and leaves the cycle; a
boundary judged before does nothing; LOGIC_SHADOW_COPY_DONE makes the shadow what the retained part of memory holds. The record's place
is the model's. -/
def Obligations.LogicCyclesStartOrAreSkipped : Prop := ∀ (dt : Nat) (s : State),
  let a := advance dt s
  (∀ j, (ltasks a).contains j = true → (taskOf a j).seen < cycleNo a j → hubLive a = true → a.lg.forcePend = [] → pst a (ltF a j 1) =
    .running → unitOk a 20 = true → (taskOf a j).cycle < cycleNo a j → (retainOf a (ltF a j 1)).copying = false → (taskOf a j).body =
    false → a.rows 0x380013 j = [] → Does (.cycleBoundary dt j) s a [.store, .ctrs, .tt, .ph, .lg, .logb, .mem, .dirty] fun t =>
    (taskOf t j).cycle = cycleNo a j ∧ (taskOf t j).started = true ∧ (taskOf t j).ever = true ∧ (taskOf t j).snapAt = a.now ∧
    (taskOf t j).first = false ∧ (taskOf t j).seen = cycleNo a j) ∧
  (∀ j, (ltasks a).contains j = true → (taskOf a j).seen < cycleNo a j → hubLive a = true → a.lg.forcePend = [] → pst a (ltF a j 1) =
    .running → unitOk a 20 = true → (taskOf a j).cycle < cycleNo a j → (retainOf a (ltF a j 1)).copying = false → (taskOf a j).body =
    true → Does (.cycleBoundary dt j) s a [.store, .ctrs, .tt, .ph, .lg, .logb, .mem, .dirty] fun t =>
    (taskOf t j).cycle = (taskOf a j).cycle ∧ (taskOf t j).body = true ∧ (taskOf t j).seen = cycleNo a j ∧ t.ctr 0x380016 j =
    min (a.ctr 0x380016 j + 1) 0xFFFFFFFF ∧ t.logb.offered = a.logb.offered ++ [⟨0x01B0, 0x94, [(j : Int), (cycleNo a j : Int)]⟩] ∧
    t.tt = a.tt) ∧
  (∀ j, cycleNo a j ≤ (taskOf a j).seen → Does (.cycleBoundary dt j) s a [] fun t =>
    t.lg = a.lg) ∧
  (∀ p, (retainOf a p).copying = true → hubLive a = true → Does (.logicShadowCopyDone dt p) s a [.lg] fun t =>
    (retainOf t p).copying = false ∧ (retainOf t p).shadow = memRead a p (lgF a p 1) (lgF a p 3) ∧ (retainOf t p).shadowOk = true ∧
    t.lg.tasks = a.lg.tasks)

/-- On a module without a pair ONLINE_WRITE within a member of the task is kept pending, and with pairing enabled but no settled pair it
answers STATE; LOGIC_RESTART of a STOPPED partition keeps the mode for its next start and of any other answers STATE; FORCE_TABLE_WRITE
of an acceptable row sets the row, counts and records it; FORCE_CLEAR_ALL leaves no row valid; FORCE_NOTIFY_PERIODIC, when due with a
row valid, is due again 60 s on and watches a notice for each session. That an online write takes effect at the next snapshot after its
acceptance is the model's. -/
def Obligations.LogicCommandsAndForces : Prop := ∀ (dt : Nat) (s : State),
  let a := advance dt s
  (∀ rq p task offset size value, cmdRuns a rq 0x380030 p [.n task, .n offset, .n size, .n value] = true → pairOn a = false →
    onlineCheck a p task offset size = 0 → Does (.onlineWrite dt rq p task offset size value) s a [.lg] fun t =>
    (taskOf t task).online = (taskOf a task).online ++ [(offset, size, value, a.now)] ∧ answered t rq okS = true) ∧
  (∀ rq p task offset size value, cmdRuns a rq 0x380030 p [.n task, .n offset, .n size, .n value] = true → pairOn a = true → settled a =
    false → onlineCheck a p task offset size = 0 → Does (.onlineWrite dt rq p task offset size value) s a [] fun t =>
    answered t rq stateS = true) ∧
  (∀ rq p mode clear, cmdRuns a rq 0x380031 p [.n mode, .n (b2n clear)] = true → (partOf a p).st = .stopped →
    Does (.logicRestart dt rq p mode clear) s a [.lg] fun t =>
    (retainOf t p).mode = some (mode, clear) ∧ answered t rq okS = true) ∧
  (∀ rq p mode clear, cmdRuns a rq 0x380031 p [.n mode, .n (b2n clear)] = true → (partOf a p).st ≠ .stopped →
    Does (.logicRestart dt rq p mode clear) s a [] fun t =>
    answered t rq stateS = true) ∧
  (∀ rq row bytes v, rowRuns a rq 0x380041 0 row bytes v = true → pairOn a = false → forceOk a v = true → a.val 0x380041 0 row ≠ v →
    Does (.forceTableWrite dt rq row bytes) s a Comp.hub fun t =>
    t.val 0x380041 0 row = v ∧ t.lg.forceChanges = (a.lg.forceChanges + 1) % 4294967296 ∧ t.logb.offered = a.logb.offered ++ [⟨0x01B2,
    0x94, if vB v 0 then [(vN v 1 : Int), (vN v 2 : Int), (vN v 3 : Int), (vN v 4 : Int)] else [(vN (a.val 0x380041 0 row) 1 : Int),
    (vN (a.val 0x380041 0 row) 2 : Int), (vN (a.val 0x380041 0 row) 3 : Int), (vN (a.val 0x380041 0 row) 4 : Int)]⟩] ∧
    answeredWith t rq 6 okS [] [⟨okS, 0, 0, []⟩] = true) ∧
  (∀ rq, cmdRuns a rq 0x380042 0 [] = true → Does (.forceClearAll dt rq) s a [.store, .lg, .pair, .logb] fun t =>
    forcesAll t = 0 ∧ t.lg.forcePend = [] ∧ answered t rq okS = true) ∧
  (dueBy a a.lg.forceDue = true → hubLive a = true → forcesAll a ≠ 0 → Does (.forceNotifyPeriodic dt) s a [.lg, .pair] fun t =>
    t.lg.forceDue = some (a.now + 60000000000) ∧ t.lg.noticeOut.length = a.lg.noticeOut.length + a.jal.sess.length)

/-- LANE_TRAIN_SWITCH at the end of an attempt tries the other speed for 500 ms, and a lane that is down begins at 25 Gbit/s; LANE_UP of
a training lane shows it up at the speed tried and brings the link up; PAIR_HELLO_TX while not settled sends a hello and the next is due
10 ms on; PAIR_HELLO that agrees settles the pair with record 0x01C8, one of another PAIR_ID leaves it FAILED with WRONG_PAIR;
PAIR_ENABLE written 0 leaves STANDALONE, link down and no equalisation. -/
def Obligations.LanesTrainAndThePairSettles : Prop := ∀ (dt : Nat) (s : State),
  let a := advance dt s
  (∀ lane, laneReady a lane = true → (laneOf a lane).st = 1 → dueBy a (laneOf a lane).due = true →
    Does (.laneTrainSwitch dt lane) s a [.pair] fun t =>
    laneOf t lane = { laneOf a lane with try25 := !(laneOf a lane).try25, due := some (a.now + 500000000) }) ∧
  (∀ lane, laneReady a lane = true → (laneOf a lane).st = 0 → Does (.laneTrainSwitch dt lane) s a [.pair] fun t =>
    laneOf t lane = { st := 1, try25 := true, due := some (a.now + 500000000) }) ∧
  (∀ lane, laneReady a lane = true → (laneOf a lane).st = 1 → (lanesUp a).isEmpty = true ∨ a.pair.link = true →
    Does (.laneUp dt lane) s a [.boot, .net, .pair, .logb] fun t =>
    (laneOf t lane).st = (if (laneOf a lane).try25 then 3 else 2) ∧ (laneOf t lane).due = none ∧ t.pair.link = true ∧
    (portOf t (6 + lane)).st = 2) ∧
  (hubLive a = true → pairOn a = true → a.pair.link = true → a.pair.round = false → a.pair.heard = false → a.pair.fail = 0 →
    a.pair.helloDue ≤ a.now → Does (.pairHelloTx dt) s a [.freeCtr, .ctrs, .boot, .tm, .net, .cond, .pub, .parts, .tt, .ph, .pair,
    .vault, .logb, .cap, .mem, .dirty] fun t =>
    t.pair.helloSent = true ∧ t.pair.helloDue = a.now + 10000000 ∧ t.pair.round = false) ∧
  (∀ h, hubLive a = true → pairOn a = true → a.pair.link = true → a.pair.fail = 0 → a.pair.helloSent = true → judgeHello a h = 0 →
    Does (.pairHello dt h) s a [.freeCtr, .ctrs, .boot, .tm, .net, .cond, .pub, .parts, .tt, .ph, .pair, .vault, .logb, .cap, .mem,
    .dirty] fun t =>
    t.pair.round = true ∧ t.pair.partner = some h ∧ t.pair.settled = some ⟨min h.fcl a.boot.runFcl, unitsPresent a &&& h.units,
    h.serial⟩ ∧ t.pair.mismatch = false ∧ ⟨0x01C8, 0x85, [0]⟩ ∈ t.logb.offered) ∧
  (∀ h, hubLive a = true → pairOn a = true → a.pair.link = true → a.pair.fail = 0 → a.pair.helloSent = true →
    h.pairId ≠ a.vn 0x400002 0 → Does (.pairHello dt h) s a [.freeCtr, .ctrs, .boot, .tm, .net, .cond, .pub, .parts, .tt, .ph, .pair,
    .vault, .logb, .cap, .mem, .dirty] fun t =>
    t.pair.fail = 1 ∧ t.pair.st = 1 ∧ t.pair.settled = none ∧ ⟨0x01C8, 0x85, [1]⟩ ∈ t.logb.offered) ∧
  (∀ rq, writeRuns a rq 0x400001 0 [.n 0] = true → Does (.pairEnableWrite dt rq false) s a [.freeCtr, .store, .ctrs, .boot, .jal, .tm,
    .net, .cond, .pub, .parts, .tt, .ph, .pair, .pf, .vault, .logb, .cap, .mem, .dirty] fun t =>
    t.pair.st = 0 ∧ t.pair.link = false ∧ t.pair.eq = [] ∧ t.pair.settled = none ∧ pairOn t = false ∧ answered t rq okS = true)

/-- PRESENCE, SEATS, TAGS, AGREE and EQ_LOST for a row not yet closed are held for it; for a closed row in equalisation PRESENCE gives
the partner's units and digest, SEATS its copies, TAGS its records; AGREE with the digest this unit sent ends the row as equalised and
counts it; EQ_LOST and EQ_DEADLINE_EXPIRY end it as UNEQUALISED. For PRESENCE and SEATS the partner's AGREE has not yet come, for TAGS
its PRESENCE not. -/
def Obligations.EqualisationMessages : Prop := ∀ (dt : Nat) (s : State),
  let a := advance dt s
  (∀ row present digest, pairOn a = true → a.pair.eqOn = true → rowClosed a row = false →
    Does (.presence dt row present digest) s a [.pair] fun t =>
    t.pair.held = a.pair.held ++ [(row, .presence dt row present digest)] ∧ t.pair.eq = a.pair.eq) ∧
  (∀ row seats, pairOn a = true → a.pair.eqOn = true → rowClosed a row = false → Does (.seats dt row seats) s a [.pair] fun t =>
    t.pair.held = a.pair.held ++ [(row, .seats dt row seats)] ∧ t.pair.eq = a.pair.eq) ∧
  (∀ row tags, pairOn a = true → a.pair.eqOn = true → rowClosed a row = false → Does (.tags dt row tags) s a [.pair] fun t =>
    t.pair.held = a.pair.held ++ [(row, .tags dt row tags)] ∧ t.pair.eq = a.pair.eq) ∧
  (∀ row final, pairOn a = true → a.pair.eqOn = true → rowClosed a row = false → Does (.agree dt row final) s a [.pair] fun t =>
    t.pair.held = a.pair.held ++ [(row, .agree dt row final)] ∧ t.pair.eq = a.pair.eq) ∧
  (∀ row, pairOn a = true → a.pair.eqOn = true → rowClosed a row = false → Does (.eqLost dt row) s a [.pair] fun t =>
    t.pair.held = a.pair.held ++ [(row, .eqLost dt row)] ∧ t.pair.eq = a.pair.eq) ∧
  (∀ row present digest x, pairOn a = true → a.pair.eqOn = true → rowClosed a row = true → eqOf a row = some x → x.part = none →
    x.agree = none → Does (.presence dt row present digest) s a [.ctrs, .plan, .pair] fun t =>
    (eqOf t row).map (fun y => y.part) = some (some (present, digest))) ∧
  (∀ row seats x, pairOn a = true → a.pair.eqOn = true → rowClosed a row = true → eqOf a row = some x → x.agree = none →
    Does (.seats dt row seats) s a [.ctrs, .plan, .pair] fun t =>
    (eqOf t row).map (fun y => y.copies) = some (x.copies.filter (fun c => !seats.any fun d => d.unit == c.unit) ++ seats)) ∧
  (∀ row tags x, pairOn a = true → a.pair.eqOn = true → rowClosed a row = true → eqOf a row = some x → x.part = none →
    Does (.tags dt row tags) s a [.ctrs, .plan, .pair] fun t =>
    eqOf t row = some { x with tags := some tags }) ∧
  (∀ row final x pu pd, pairOn a = true → a.pair.eqOn = true → rowClosed a row = true → eqOf a row = some x → x.part = some (pu, pd) →
    (pu.all fun u => x.own.contains u) = true → x.asked = true → x.want = [] → x.wins = [] → x.final = some final →
    Does (.agree dt row final) s a [.ctrs, .plan, .pair] fun t =>
    eqOf t row = none ∧ row ∈ t.pair.eqdRows ∧ (planRow t row).uneq = (planRow a row).uneq ∧ t.ctr 0x400030 0 =
    min (a.ctr 0x400030 0 + 1) 0xFFFFFFFF) ∧
  (∀ row, pairOn a = true → a.pair.eqOn = true → rowClosed a row = true → (eqOf a row).isSome = true → Does (.eqLost dt row) s a [.pair,
    .logb] fun t =>
    eqOf t row = none ∧ row ∈ t.pair.uneqRows ∧ t.pair.eqdRows = a.pair.eqdRows) ∧
  (∀ row x, eqOf a row = some x → x.due ≤ a.now → Does (.eqDeadlineExpiry dt) s a [.pair] fun t =>
    eqOf t row = none ∧ row ∈ t.pair.uneqRows ∧ t.pair.eqdRows = a.pair.eqdRows)

/-- DIGEST for a row whose own digest is still open is kept; one that differs from the closed own digest of a partition in step takes
the partition out of step, counts and records 0x01C4; one that agrees only removes the row's digest; DIGEST_WAIT_EXPIRY judges a digest
not received in time no more, of a partition in step counts it and of one converging counts its equal rows anew; ALIGN on unit B during
re-entry is kept for its row. -/
def Obligations.OutputDigestsJudgeTheStep : Prop := ∀ (dt : Nat) (s : State),
  let a := advance dt s
  (∀ p row digest, pairOn a = true → hubLive a = true → 3 ≤ stepState a p → (stepOf a p).from_ ≤ row → (digOf a p row).judged = false →
    (digOf a p row).closed = none → (stepOf a p).dug.contains row = false → Does (.digest dt p row digest) s a [.ctrs, .pair,
    .logb] fun t =>
    digOf t p row = { digOf a p row with theirs := some digest }) ∧
  (∀ p row digest, pairOn a = true → hubLive a = true → stepState a p = 4 → (stepOf a p).from_ ≤ row → (digOf a p row).judged = false →
    (digOf a p row).closed.isSome = true → row ∉ a.pair.uneqRows → (digOf a p row).sum ≠ digest →
    Does (.digest dt p row digest) s a [.ctrs, .pair, .logb] fun t =>
    (stepOf t p).st = 1 ∧ t.pair.digCount = min (a.pair.digCount + 1) 4294967295 ∧ t.pair.allIn = false ∧ ⟨0x01C4, 0x85, [(p : Int),
    (row : Int)]⟩ ∈ t.logb.offered) ∧
  (∀ p row digest, pairOn a = true → hubLive a = true → stepState a p = 4 → (stepOf a p).from_ ≤ row → (digOf a p row).judged = false →
    (digOf a p row).closed.isSome = true → row ∉ a.pair.uneqRows → (digOf a p row).sum = digest →
    Does (.digest dt p row digest) s a [.ctrs, .pair, .logb] fun t =>
    stepOf t p = stepOf a p ∧ t.pair.digCount = a.pair.digCount ∧ digOf t p row = {}) ∧
  (∀ p row u, (digOf a p row).closed = some u → (digOf a p row).judged = false → u + a.vn 0x40000F 0 ≤ a.now →
    Does (.digestWaitExpiry dt p row) s a [.ctrs, .pair] fun t =>
    (digOf t p row).judged = true ∧ (stepOf t p).st = (stepOf a p).st ∧ (stepState a p = 4 → t.ctr 0x400026 p =
    min (a.ctr 0x400026 p + 1) 0xFFFFFFFF ∧ t.pair.steps = a.pair.steps) ∧ (stepState a p = 3 → (stepOf t p).conv = 0)) ∧
  (∀ row recs, eqRuns a = true → a.pair.reentry = 2 → a.pair.unitB = true → Does (.align dt row recs) s a [.pair] fun t =>
    t.pair = { a.pair with alignIn := some (row, recs) })

/-- MIRROR of an online write that this unit accepts is kept pending from 2 ms on; one it refuses changes only what goes to the partner;
that of a bundle waits for the vault of this unit; MIRROR_ACK with OK of a disarm keeps it for its row, with another status drops it.
The row is the first 2 ms or more after the instant that MIRROR_ACK carries. -/
def Obligations.MirroredOperationsNeedBothUnits : Prop := ∀ (dt : Nat) (s : State),
  let a := advance dt s
  (∀ p task off size v mid, hubLive a = true → mirrors a = true → a.pair.link = true → onlineCheck a p task off size = 0 →
    Does (.mirror dt (.online p task off size v) mid) s a [.lg, .pair] fun t =>
    (taskOf t task).online = (taskOf a task).online ++ [(off, size, v, a.now + 2000000)]) ∧
  (∀ op mid, hubLive a = true → mirrors a = true → a.pair.link = true → mirrorCheck a op ≠ 0 →
    (match op with | .bundle _ => true | _ => false) = false → Does (.mirror dt op mid) s a [.pair] fun t =>
    t.pair = { a.pair with lanes := t.pair.lanes, iulSeq := t.pair.iulSeq }) ∧
  (∀ l mid, hubLive a = true → mirrors a = true → a.pair.link = true → vaultRoom a 2 = true →
    Does (.mirror dt (.bundle l) mid) s a [.pair, .vault] fun t =>
    t.pair.mirrors = a.pair.mirrors ++ [{ id := mid, op := .bundle l, own := false }] ∧ t.vault =
    (vaultPush a 2 (.verifyMirror mid)).vault) ∧
  (∀ mid status u m p, (a.pair.mirrors.find? fun m => m.own && !m.acked && m.id == mid) = some m → m.op = .disarm p → status = 0 →
    Does (.mirrorAck dt mid status u) s a [.pair] fun t =>
    t.pair.mirrors = a.pair.mirrors.filter (fun x => !(x.own && x.id == mid)) ++
    [{ m with acked := true, row := ceilDiv ((u + 2000000).toNat * baseHz a) 1000000000 }]) ∧
  (∀ mid status u m p, (a.pair.mirrors.find? fun m => m.own && !m.acked && m.id == mid) = some m → m.op = .disarm p → status ≠ 0 →
    Does (.mirrorAck dt mid status u) s a [.pair] fun t =>
    t.pair.mirrors = a.pair.mirrors.filter (fun x => !(x.own && x.id == mid)))

/-- REPORT_TX when due forms the next card and is due again; a valid REPORT, its length, MAGIC, VERSION and CRC right, is kept with its
arrival; IUL_DOWN with no lane up, or 30 ms without a card, leaves the pair DEGRADED with LINK_DOWN and no partition in step;
TIME_XCHECK keeps the offset measured; SELFTEST_CHECK of a directly checked bit that fails sets it with record 0x01C7 and one that
passes clears it. The 9 ms guard of REPORT_TX, the least interval that the rule lets two cards have, is the reading of the model. -/
def Obligations.ReportsSelfTestAndTheLink : Prop := ∀ (dt : Nat) (s : State),
  let a := advance dt s
  (a.pair.rptDue ≤ a.now → hubLive a = true → a.ident.optP = true → Does (.reportTx dt) s a [.pair, .logb] fun t =>
    t.pair.rptDue = a.now + 9000000 ∧ t.pair.rptSeq = (a.pair.rptSeq + 1) % 4294967296 ∧ t.pair.ownRpt.take 3 = [0x43, 0x52, 1]) ∧
  (∀ card, cardOk card = true → pairOn a = true → hubLive a = true → Does (.report dt card) s a [.pair, .logb] fun t =>
    t.pair.partRpt = some card ∧ t.pair.rptAt = a.now) ∧
  ((lanesUp a).isEmpty = true ∨ a.pair.rptAt + 30000000 ≤ a.now → a.pair.link = true → pairOn a = true → a.pair.fail = 0 →
    Does (.iulDown dt) s a [.freeCtr, .ctrs, .boot, .jal, .tm, .net, .cond, .pub, .parts, .tt, .ph, .pair, .vault, .logb, .cap, .mem,
    .dirty] fun t =>
    t.pair.link = false ∧ t.pair.round = false ∧ t.pair.st = 2 ∧ t.pair.reason = 1 ∧ (∀ x ∈ t.pair.steps, x.2.st ≤ 1)) ∧
  (∀ offset, (lanesUp a).isEmpty = false → pairOn a = true → a.pair.xcheckDue ≤ a.now → Does (.timeXcheck dt offset) s a [.pair,
    .logb] fun t =>
    t.pair.xcheck = offset ∧ t.pair.xcheckOk = true ∧ t.pair.xcheckDue = a.now + 10000000) ∧
  (∀ n, n = 1 ∨ n = 2 ∨ n = 4 ∨ n = 8 → hubLive a = true → a.pair.selfFail.contains n = false →
    Does (.selftestCheck dt n false) s a [.pair, .logb] fun t =>
    t.pair.selfFail = adjoin a.pair.selfFail n ∧ t.logb.offered = a.logb.offered ++ [⟨0x01C7, 0x85, [(n : Int), 1]⟩]) ∧
  (∀ n, n = 1 ∨ n = 2 ∨ n = 4 ∨ n = 8 → hubLive a = true → a.pair.selfFail.contains n = true →
    Does (.selftestCheck dt n true) s a [.pair, .logb] fun t =>
    t.pair.selfFail = without a.pair.selfFail n ∧ t.logb.offered = a.logb.offered ++ [⟨0x01C7, 0x85, [(n : Int), 0]⟩])

/-- BEACON_TX in OPERATIONAL sends a beacon with the next SEQ on every process-bus port that is up and is due again; TAKEOVER_EVAL
raises, to one above every epoch seen, every latch and its counter, the claim of a fit domain whose higher claim was last beaconed a
claim window ago, or of which no beacon has come and that has been fit so long while another claim is highest, or whose accepted
handover has reached its row, and beyond the highest epoch marks it saturated with record 0x01C6; CLAIM_RAISE puts the new epoch in use,
counts and records it; HANDOVER pends with its row 4 ms ahead and the signing asked of the vault; HANDOVER_RX asks the vault;
HANDOVER_ACK accepts or drops it; its time-out drops it; ISOLATION_TIME_EXPIRY without a process-bus link leaves no domain of the unit
fit. A command refused answers its status and changes nothing. -/
def Obligations.ClaimsAreRaisedAndHandedOver : Prop := ∀ (dt : Nat) (s : State),
  let a := advance dt s
  (∀ n, a.pair.bcnDue ≤ a.now → hubLive a = true → life a = 2 → a.pf.beaconsOff = false → a.pf.blocked = false → n < 4 → linkUp a n =
    true → Does (.beaconTx dt) s a [.ctrs, .boot, .tm, .net, .cond, .pub, .tt, .ph, .pair, .logb, .cap, .mem, .dirty] fun t =>
    t.pair.bcnDue = a.now + 950000 ∧ tabGet t.pair.bcnSeq n = some (tabGetD a.pair.bcnSeq n 0 % 4294967295 + 1)) ∧
  (∀ d u, a.pair.evalDue ≤ a.now → hubLive a = true → d ∈ domains a → fit a d = true → (claimOf a d).raising = false →
    (claimOf a d).sat = false → (claimOf a d).above = some u → u + a.vn 0x400006 0 ≤ a.now →
    1 + max (claimOf a d).counter (max (claimOf a d).highest (latchHigh a d) / 256) ≤ 0xFFFFFF → Does (.takeoverEval dt) s a [.boot,
    .pair, .vault, .logb] fun t =>
    (claimOf t d).raising = true ∧ (claimOf t d).raiseTo =
    1 + max (claimOf a d).counter (max (claimOf a d).highest (latchHigh a d) / 256) ∧ t.pair.evalDue = a.now + 100000) ∧
  (∀ d u, a.pair.evalDue ≤ a.now → hubLive a = true → d ∈ domains a → fit a d = true → (claimOf a d).raising = false →
    (claimOf a d).sat = false → (claimOf a d).above = none → holder a d = false → (claimOf a d).fitSince = some u →
    u + a.vn 0x400006 0 ≤ a.now → 1 + max (claimOf a d).counter (max (claimOf a d).highest (latchHigh a d) / 256) ≤ 0xFFFFFF →
    Does (.takeoverEval dt) s a [.boot, .pair, .vault, .logb] fun t =>
    (claimOf t d).raising = true ∧ (claimOf t d).raiseTo =
    1 + max (claimOf a d).counter (max (claimOf a d).highest (latchHigh a d) / 256)) ∧
  (∀ d h, a.pair.evalDue ≤ a.now → hubLive a = true → d ∈ domains a → fit a d = true → (claimOf a d).raising = false →
    (claimOf a d).sat = false → (claimOf a d).hoIn = some h → h ≤ a.plan.lastReleased → migDest a d = false →
    1 + max (claimOf a d).counter (max (claimOf a d).highest (latchHigh a d) / 256) ≤ 0xFFFFFF → Does (.takeoverEval dt) s a [.boot,
    .pair, .vault, .logb] fun t =>
    (claimOf t d).raising = true ∧ (claimOf t d).raiseTo =
    1 + max (claimOf a d).counter (max (claimOf a d).highest (latchHigh a d) / 256) ∧ (claimOf t d).hoIn = none) ∧
  (∀ d u, a.pair.evalDue ≤ a.now → hubLive a = true → d ∈ domains a → fit a d = true → (claimOf a d).raising = false →
    (claimOf a d).sat = false → (claimOf a d).above = some u → u + a.vn 0x400006 0 ≤ a.now →
    0xFFFFFF < 1 + max (claimOf a d).counter (max (claimOf a d).highest (latchHigh a d) / 256) → Does (.takeoverEval dt) s a [.boot,
    .pair, .vault, .logb] fun t =>
    (claimOf t d).sat = true ∧ (claimOf t d).raising = false ∧ ⟨0x01C6, 0x92, [(d : Int)]⟩ ∈ t.logb.offered) ∧
  (∀ d, pbOk a = false → hubLive a = true → d ∈ domains a → Does (.isolationTimeExpiry dt) s a [.boot, .pair, .vault, .logb] fun t =>
    fit t d = false ∧ (claimOf t d).fitSince = none) ∧
  (∀ d, (claimOf a d).raising = true → hubLive a = true → Does (.claimRaise dt d) s a [.ctrs, .boot, .tm, .net, .cond, .pub, .parts,
    .tt, .ph, .pair, .pf, .logb, .cap, .mem, .dirty] fun t =>
    (claimOf t d).epoch = (claimOf a d).raiseTo ∧ (claimOf t d).counter = (claimOf a d).raiseTo ∧ (claimOf t d).raising = false ∧
    (claimOf t d).holding = true ∧ claimNo t d = (claimOf a d).raiseTo * 256 + a.pair.rank ∧ holder t d = true ∧
    t.ctr 0x400023 d = min (a.ctr 0x400023 d + 1) 0xFFFFFFFF ∧ ⟨0x01C1, 0x92, [(d : Int), (claimNo a d : Int), (claimNo t d : Int),
    0]⟩ ∈ t.logb.offered) ∧
  (∀ rq d, cmdRuns a rq 0x400021 d [] = true → (claimOf a d).handover.isSome = true ∨ vaultRoom a 0 = false →
    Does (.handover dt rq d) s a [] fun t =>
    answered t rq busyS = true) ∧
  (∀ rq d, cmdRuns a rq 0x400021 d [] = true → (claimOf a d).handover = none → vaultRoom a 0 = true → hoCan a d = false →
    Does (.handover dt rq d) s a [] fun t =>
    answered t rq stateS = true) ∧
  (∀ rq d, cmdRuns a rq 0x400021 d [] = true → (claimOf a d).handover = none → vaultRoom a 0 = true → hoCan a d = true →
    Does (.handover dt rq d) s a [.boot, .pair, .vault, .logb] fun t =>
    (claimOf t d).handover = some (rowFrom a (tai a + 4000000), some (a.now + 10000000), rq.sess, rq.reqId) ∧ (claimOf t d).acked =
    false ∧ t.vault = (vaultPush a 0 (.handoverSign d)).vault ∧ answered t rq pendingS = true) ∧
  (∀ d claim row tagOk, hubLive a = true → settled a = true → d < 64 → vaultRoom a 0 = true →
    Does (.handoverRx dt d claim row tagOk) s a [.vault] fun t =>
    t.vault = (vaultPush a 0 (.handoverVerify d claim row tagOk)).vault) ∧
  (∀ d h lim n r, (claimOf a d).handover = some (h, lim, n, r) → (claimOf a d).acked = false →
    Does (.handoverAck dt d true) s a [.freeCtr, .pair, .logb] fun t =>
    (claimOf t d).handover = some (h, none, 0, 0) ∧ (claimOf t d).acked = true ∧ ⟨0x01C2, 0x92, [(d : Int), (claimNo a d : Int),
    (h : Int), 0]⟩ ∈ t.logb.offered) ∧
  (∀ d, (claimOf a d).handover.isSome = true → (claimOf a d).acked = false → Does (.handoverAck dt d false) s a [.freeCtr, .pair,
    .logb] fun t =>
    (claimOf t d).handover = none) ∧
  (∀ d h u n r, (claimOf a d).handover = some (h, some u, n, r) → u ≤ a.now → Does (.handoverAckTimeout dt d) s a [.freeCtr, .pair,
    .logb] fun t =>
    (claimOf t d).handover = none)

/-- BOLPEL_CYCLE when due sets the next cycle and puts a keepalive of each configured domain whose last outputs are still repeated and a
poll of one board in the queue or on the bus; BOLPEL_REQUEST for a board of another domain completes with NOT_ASSIGNED and changes no
board, an admitted one gives the board its new accepted outputs and puts its command on the bus or in the queue; BOLPEL_FRAME_END frees
the bus, for one board opens the 20 us echo slot, and after a frame for every board puts the next frame of the queue on the bus 2 us on,
in Manchester code; a good BOLPEL_ECHO, its CRC, board and SEQ right, keeps latch, readback and status and clears the failures, a bad
one or its time-out counts a failure and leaves the rest; what does not begin with SYNC is no echo. Requests of a ring whose PRODUCER is
the commit port. -/
def Obligations.TheBolpelBusCommandsBoards : Prop := ∀ (dt : Nat) (s : State),
  let a := advance dt s
  (a.pair.bol.due ≤ a.now → bolRuns a = true → unitTakes a 19 = true → Does (.bolpelCycle dt) s a [.ctrs, .boot, .cond, .pair,
    .logb] fun t =>
    t.pair.bol.due = max (a.pair.bol.due + 250000) (a.now + 1) ∧ t.pair.bol.boards = a.pair.bol.boards ∧ (∀ b ∈ boards a,
    domMute a (a.fn 0x400040 b 1) = false → ((t.pair.bol.bus.toList ++ t.pair.bol.q).any fun c => c.board == 0xFF && c.domain ==
    a.fn 0x400040 b 1) = true) ∧ (boards a ≠ [] → ((t.pair.bol.bus.toList ++ t.pair.bol.q).any fun c => c.poll &&
    (boards a).contains c.board) = true)) ∧
  (∀ ring i r, rType a ring = 2 → rEngine a ring = 3 → rPort a ring = true → hubLive a = true → a.pf.blocked = false → unitTakes a 19 =
    true → bolRuns a = true → nextEntry a ring = some (i, .bolpel r) → ((boards a).contains r.board && a.fn 0x400040 r.board 1 ==
    domainOf a (rOwner a ring)) = false → Does (.bolpelRequest dt ring) s a [.ctrs, .boot, .cond, .parts, .tt, .ph, .pair, .pf, .logb,
    .mem, .dirty] fun t =>
    tabGet (ringOf t ring).slots (slotOf a ring i) = some (.bolpelDone r 4 0 0 0) ∧ t.pair.bol = a.pair.bol) ∧
  (∀ ring i r, rType a ring = 2 → rEngine a ring = 3 → rPort a ring = true → hubLive a = true → a.pf.blocked = false → unitTakes a 19 =
    true → bolRuns a = true → nextEntry a ring = some (i, .bolpel r) → ((boards a).contains r.board && a.fn 0x400040 r.board 1 ==
    domainOf a (rOwner a ring)) = true → (pfBoard a (rOwner a ring) r.board true).1 = true → Does (.bolpelRequest dt ring) s a [.ctrs,
    .boot, .cond, .parts, .tt, .ph, .pair, .pf, .logb, .mem, .dirty] fun t =>
    (boardOf t r.board).state = ((boardOf a r.board).state ||| r.mask ^^^ r.mask) ||| (r.out &&& r.mask) ∧ (ringOf t ring).taken =
    w32 ((ringOf a ring).taken + 1) ∧
    ((t.pair.bol.bus.toList ++ t.pair.bol.q).any fun c => c.board == r.board && c.mask == r.mask && c.out == r.out && c.req ==
    some (ring, i)) = true) ∧
  (∀ c, a.pair.bol.bus = some c → a.pair.bol.endDue ≤ a.now → c.board ≠ 0xFF → Does (.bolpelFrameEnd dt) s a [.pair] fun t =>
    t.pair.bol =
    { a.pair.bol with bus := none, line := [], echo := some c, echoDue := a.pair.bol.endDue + 20000, freeAt := a.pair.bol.endDue + 20000, slotEnd := a.pair.bol.endDue + 20000 }) ∧
  (∀ c, a.pair.bol.bus = some c → a.pair.bol.endDue ≤ a.now → c.board = 0xFF → a.pair.bol.q = [] →
    Does (.bolpelFrameEnd dt) s a [.pair] fun t =>
    t.pair.bol = { a.pair.bol with bus := none, line := [], freeAt := a.pair.bol.endDue + 2000, slotEnd := a.pair.bol.endDue }) ∧
  (∀ c d r, a.pair.bol.bus = some c → a.pair.bol.endDue ≤ a.now → c.board = 0xFF → a.pair.bol.q = d :: r → bolRuns a = true →
    a.pair.bol.echo = none → Does (.bolpelFrameEnd dt) s a [.ctrs, .boot, .cond, .pair, .logb] fun t =>
    t.pair.bol.q = r ∧ t.pair.bol.bus.map (fun x => (x.board, x.domain, x.poll, x.seq)) = some (d.board, d.domain, d.poll,
    a.pair.bol.seq) ∧ t.pair.bol.seq = (a.pair.bol.seq + 1) % 65536 ∧ t.pair.bol.endDue = max a.now (a.pair.bol.endDue + 2000) + 17600 ∧
    t.pair.bol.bus.map (fun x => manchester (bitsOf (bolFrame x))) = some t.pair.bol.line) ∧
  (∀ e c, a.pair.bol.echo = some c → e.sync = 0xAAAB → e.crc = crcBolpel (echoFields e) → e.board = c.board → e.seq = c.seq →
    Does (.bolpelEcho dt e) s a [.ctrs, .boot, .cond, .tt, .ph, .pair, .logb, .mem, .dirty] fun t =>
    t.pair.bol.echo = none ∧ (boardOf t c.board).latch = e.latch ∧ (boardOf t c.board).readback = e.readback ∧
    (boardOf t c.board).status = e.status ∧ (boardOf t c.board).fails = 0 ∧ (boardOf t c.board).ok = true ∧
    (boardOf t c.board).lastEcho = tai a) ∧
  (∀ e c, a.pair.bol.echo = some c → e.sync = 0xAAAB → e.crc ≠ crcBolpel (echoFields e) ∨ e.board ≠ c.board ∨ e.seq ≠ c.seq →
    Does (.bolpelEcho dt e) s a [.ctrs, .boot, .cond, .tt, .ph, .pair, .logb, .mem, .dirty] fun t =>
    t.pair.bol.echo = none ∧ (boardOf t c.board).fails = (boardOf a c.board).fails + 1 ∧ (boardOf t c.board).latch =
    (boardOf a c.board).latch ∧ (boardOf t c.board).readback = (boardOf a c.board).readback) ∧
  (∀ e, e.sync ≠ 0xAAAB → Does (.bolpelEcho dt e) s a [] fun t =>
    t.pair.bol = a.pair.bol) ∧
  (∀ c, a.pair.bol.echo = some c → a.pair.bol.echoDue ≤ a.now → Does (.bolpelEchoTimeout dt) s a [.ctrs, .boot, .cond, .tt, .ph, .pair,
    .logb, .mem, .dirty] fun t =>
    t.pair.bol.echo = none ∧ (boardOf t c.board).fails = (boardOf a c.board).fails + 1 ∧ (boardOf t c.board).latch =
    (boardOf a c.board).latch)

/-- TAMPER_SAMPLE shows the lines as sampled; a line whose second consecutive sample is open, enabled and with no service window, writes
a tamper record and clears the working key register, the shadow register and the traffic keys, as an internal sensor's event does, which
in OPERATIONAL puts the module into quarantine, the hub in reset or, met in its start-up, at the gateway; SERVICE_WINDOW of 60 to 3600 s
opens a window and 0 closes it, and its expiry ends it with record 0x01E7; VAULT_SUPPLY_LOW with VIN absent stops sensing and the
crystal, below 1.2 V the RTC loses its fields; RTC_OSC_STOP sets OSF and holds the calendar, and while the vault senses it makes the
source CLOCK active, CRYSTAL_RESTART runs it on. The queue of requests not begun survives by the model's reading. A command refused
answers its status and changes nothing. -/
def Obligations.TamperSourcesAndTheirResponse : Prop := ∀ (dt : Nat) (s : State),
  let a := advance dt s
  (∀ e l, senses a = true → a.vault.sampleAt ≤ a.now → a.vault.tamper < 4 → e = false → l = false → a.hw.seated = true →
    Does (.tamperSample dt e l) s a [.hw, .vault] fun t =>
    t.hw = { a.hw with enclOpen := false, loopOpen := false } ∧ t.vault.sampleAt = a.now + 125000000 ∧ t.vault.openEncl = 0 ∧
    t.vault.openLoop = 0 ∧ t.vault.tamper = 0 ∧ t.vault.recs = a.vault.recs) ∧
  (senses a = true → a.vault.sampleAt ≤ a.now → a.vault.tamper = 0 → a.vault.openEncl = 1 → a.hw.seated = true → a.vb 0x4C0002 0 =
    true → a.vault.service = none → life a = 0 ∨ life a = 3 → Does (.tamperSample dt true false) s a Comp.hub fun t =>
    t.vault.recCount = a.vault.recCount + 1 ∧ bit t.vault.tamper 0 = true ∧ t.vault.shadow = none ∧ (∀ x ∈ t.vault.tkeys, x.2 = {}) ∧
    t.vault.suspended = [] ∧ (a.vault.q = [] → t.vault.work = none) ∧ (t.vault.recs.getLast?).map (fun r => (r.seq, r.sources,
    r.action)) = some (a.vault.recCount + 1, 1, 1)) ∧
  (senses a = true → a.vault.sampleAt ≤ a.now → a.vault.tamper = 0 → a.vault.openEncl = 1 → a.hw.seated = true → a.vb 0x4C0002 0 =
    true → a.vault.service = none → running a = true → startingUp a = false → life a = 2 →
    Does (.tamperSample dt true false) s a Comp.hub fun t =>
    life t = 3 ∧ t.boot.phase = .reset ∧ t.pf.blocked = true ∧ t.vault.recCount = a.vault.recCount + 1 ∧ (∀ x ∈ t.vault.tkeys, x.2 =
    {}) ∧ (t.vault.recs.getLast?).map (fun r => (r.sources, r.action)) = some (1, 2)) ∧
  (senses a = true → a.vault.sampleAt ≤ a.now → a.vault.tamper = 0 → a.vault.openLoop = 1 → a.vb 0x4C0002 1 = true → a.vault.service =
    none → life a = 0 ∨ life a = 3 → Does (.tamperSample dt false true) s a Comp.hub fun t =>
    t.vault.recCount = a.vault.recCount + 1 ∧ bit t.vault.tamper 1 = true ∧ t.vault.shadow = none ∧ (∀ x ∈ t.vault.tkeys, x.2 = {}) ∧
    t.vault.suspended = [] ∧ (a.vault.q = [] → t.vault.work = none) ∧ (t.vault.recs.getLast?).map (fun r => (r.seq, r.sources,
    r.action)) = some (a.vault.recCount + 1, 2, 1)) ∧
  (∀ e l, a.now < a.vault.sampleAt → Does (.tamperSample dt e l) s a [] fun t =>
    t.vault = a.vault) ∧
  (∀ source, senses a = true → 2 ≤ source → source ≤ 5 → running a = true → startingUp a = false → life a = 2 →
    Does (.tamperSensorEvent dt source) s a Comp.hub fun t =>
    life t = 3 ∧ t.boot.phase = .reset ∧ (∀ x ∈ t.vault.tkeys, x.2 = {}) ∧ t.vault.shadow = none ∧ t.vault.recCount =
    a.vault.recCount + 1 ∧ bit t.vault.tamper source = true) ∧
  (∀ source, senses a = true → 2 ≤ source → source ≤ 5 → a.boot.phase ≠ .reset → startingUp a = true → life a = 2 →
    Does (.tamperSensorEvent dt source) s a Comp.hub fun t =>
    life t = 3 ∧ t.boot.phase = .gateway ∧ (∀ x ∈ t.vault.tkeys, x.2 = {}) ∧ t.vault.shadow = none ∧ t.vault.recCount =
    a.vault.recCount + 1 ∧ bit t.vault.tamper source = true) ∧
  (∀ rq secs, cmdRuns a rq 0x4C0003 0 [.n secs] = true → 0 < secs → secs < 60 ∨ 3600 < secs →
    Does (.serviceWindow dt rq secs) s a [] fun t =>
    answered t rq rangeS = true) ∧
  (∀ rq secs, cmdRuns a rq 0x4C0003 0 [.n secs] = true → 60 ≤ secs → secs ≤ 3600 → Does (.serviceWindow dt rq secs) s a [.vault,
    .logb] fun t =>
    t.vault = { a.vault with service := some secs } ∧ t.logb.offered = a.logb.offered ++ [⟨0x01E7, 0x80, [1, (secs : Int)]⟩] ∧
    answered t rq okS = true) ∧
  (∀ rq, cmdRuns a rq 0x4C0003 0 [.n 0] = true → a.vault.service.isSome = true → Does (.serviceWindow dt rq 0) s a [.vault,
    .logb] fun t =>
    t.vault.service = none ∧ t.vault.openEncl = 0 ∧ answered t rq okS = true) ∧
  (a.vault.service = some 0 → Does (.serviceWindowExpiry dt) s a [.vault, .logb] fun t =>
    t.vault.service = none ∧ t.vault.openEncl = 0 ∧ t.vault.openLoop = 0 ∧ t.logb.offered = a.logb.offered ++ [⟨0x01E7, 0x80, [0]⟩]) ∧
  (∀ low, a.hw.vinGood = false → a.hw.pf = false → Does (.vaultSupplyLow dt low) s a [.vault, .rtc, .logb] fun t =>
    t.vault = { a.vault with gap := true } ∧ t.rtc.oscRun = false ∧ (low = true → t.rtc.cal = {} ∧ t.rtc.osf = true ∧ t.rtc.alarm =
    none)) ∧
  (a.rtc.oscRun = true → senses a = false → Does (.rtcOscStop dt) s a [.rtc, .logb] fun t =>
    t.rtc.oscRun = false ∧ t.rtc.osf = true ∧ t.rtc.cal = a.rtc.cal ∧ t.rtc.stopped = some (prescale a)) ∧
  (a.rtc.oscRun = true → senses a = true → Does (.rtcOscStop dt) s a Comp.hub fun t =>
    t.rtc.oscRun = false ∧ t.rtc.osf = true ∧ t.rtc.cal = a.rtc.cal ∧ bit t.vault.tamper 3 = true) ∧
  (a.rtc.oscRun = false → Does (.crystalRestart dt) s a [.rtc] fun t =>
    t.rtc.oscRun = true ∧ t.rtc.stopped = none ∧ t.rtc.cal = a.rtc.cal ∧ t.rtc.osf = a.rtc.osf)

/-- KEY_WRITE that the vault admits waits for it; KEY_COMMIT of the shadow's slot by its session makes the slot VALID with the next GEN
and the shadow empty, with record 0x01E2; KEY_DISCARD empties the shadow; KEY_INVALIDATE advances GEN and leaves INVALIDATED, KEY_ERASE
leaves EMPTY without key, both with record 0x01E3; KEY_SLOT_INTEGRITY_CHECK makes each slot that fails BAD with record 0x01E1 and leaves
the others. KEY_ERASE keeps GEN and attributes by the model's reading. A command refused answers its status and changes nothing. -/
def Obligations.KeySlotsOfTheVault : Prop := ∀ (dt : Nat) (s : State),
  let a := advance dt s
  (∀ rq slot kind use world masters life_ wrapSlot kcv key, cmdRuns a rq 0x480011 0 [.n slot, .n kind, .n use, .n world, .n masters,
    .n life_, .n wrapSlot, .n kcv, .o key] = true → 72 < key.length →
    Does (.keyWrite dt rq slot kind use world masters life_ wrapSlot kcv key) s a [] fun t =>
    answered t rq lengthS = true) ∧
  (∀ rq slot kind use world masters life_ wrapSlot kcv key, cmdRuns a rq 0x480011 0 [.n slot, .n kind, .n use, .n world, .n masters,
    .n life_, .n wrapSlot, .n kcv, .o key] = true → key.length ≤ 72 → wrapCheck a wrapSlot ≠ 0 →
    Does (.keyWrite dt rq slot kind use world masters life_ wrapSlot kcv key) s a [] fun t =>
    answered t rq (wrapCheck a wrapSlot) = true) ∧
  (∀ rq slot kind use world masters life_ wrapSlot kcv key, cmdRuns a rq 0x480011 0 [.n slot, .n kind, .n use, .n world, .n masters,
    .n life_, .n wrapSlot, .n kcv, .o key] = true → key.length ≤ 72 → wrapCheck a wrapSlot = 0 → shadowBusy a = true ∨ vaultRoom a 2 =
    false → Does (.keyWrite dt rq slot kind use world masters life_ wrapSlot kcv key) s a [] fun t =>
    answered t rq busyS = true) ∧
  (∀ rq slot kind use world masters life_ wrapSlot kcv key, cmdRuns a rq 0x480011 0 [.n slot, .n kind, .n use, .n world, .n masters,
    .n life_, .n wrapSlot, .n kcv, .o key] = true → key.length ≤ 72 → wrapCheck a wrapSlot = 0 → shadowBusy a = false → vaultRoom a 2 =
    true → Does (.keyWrite dt rq slot kind use world masters life_ wrapSlot kcv key) s a [.boot, .vault, .logb] fun t =>
    t.vault = (vaultPush a 2 (.keyWrite rq.sess rq.seq slot wrapSlot ⟨kind, use, world, masters, life_⟩ kcv key)).vault) ∧
  (∀ rq slot, cmdRuns a rq 0x480012 0 [.n slot] = true → a.vault.shadow = none ∨ (a.vault.shadow.any fun h => h.sess != rq.sess ||
    h.slot != slot) = true → Does (.keyCommit dt rq slot) s a [] fun t =>
    answered t rq stateS = true) ∧
  (∀ rq slot h, cmdRuns a rq 0x480012 0 [.n slot] = true → a.vault.shadow = some h → h.sess = rq.sess → h.slot = slot →
    Does (.keyCommit dt rq slot) s a [.boot, .vault, .logb] fun t =>
    slotOfKey t slot = ⟨1, ((slotOfKey a slot).gen + 1) % 65536, h.attr, h.key, h.kcv⟩ ∧ t.vault.shadow = none ∧ ⟨0x01E2, 0x80,
    [(slot : Int), (((slotOfKey a slot).gen + 1) % 65536 : Nat)]⟩ ∈ t.logb.offered ∧ answered t rq okS = true) ∧
  (∀ rq, cmdRuns a rq 0x480013 0 [] = true → Does (.keyDiscard dt rq) s a [.vault] fun t =>
    t.vault = { a.vault with shadow := none } ∧ answered t rq okS = true) ∧
  (∀ rq slot, cmdRuns a rq 0x480014 slot [] = true → (slotOfKey a slot).st ≠ 3 → Does (.keyInvalidate dt rq slot) s a [.boot, .vault,
    .logb] fun t =>
    slotOfKey t slot = { slotOfKey a slot with st := 2, gen := ((slotOfKey a slot).gen + 1) % 65536 } ∧ t.vault.shadow =
    a.vault.shadow ∧ ⟨0x01E3, 0x80, [(slot : Int), (((slotOfKey a slot).gen + 1) % 65536 : Nat), 0]⟩ ∈ t.logb.offered ∧
    answered t rq okS = true) ∧
  (∀ rq slot, cmdRuns a rq 0x480015 slot [] = true → Does (.keyErase dt rq slot) s a [.boot, .vault, .logb] fun t =>
    (slotOfKey t slot).st = 0 ∧ (slotOfKey t slot).key = [] ∧ (slotOfKey t slot).kcv = 0 ∧ ⟨0x01E3, 0x80, [(slot : Int),
    ((slotOfKey a slot).gen : Int), 1]⟩ ∈ t.logb.offered ∧ answered t rq okS = true) ∧
  (∀ bad k, hubLive a = true → bad.Nodup → k ∈ bad → k < 64 → (slotOfKey a k).st = 1 ∨ (slotOfKey a k).st = 2 →
    Does (.keySlotIntegrityCheck dt bad) s a [.boot, .pair, .vault, .logb] fun t =>
    (slotOfKey t k).st = 3 ∧ (slotOfKey t k).gen = ((slotOfKey a k).gen + 1) % 65536 ∧ ⟨0x01E1, 0x80, [(k : Int)]⟩ ∈ t.logb.offered ∧
    t.pair.selfFail.contains 7 = true) ∧
  (∀ bad k, hubLive a = true → k ∉ bad → Does (.keySlotIntegrityCheck dt bad) s a [.boot, .pair, .vault, .logb] fun t =>
    slotOfKey t k = slotOfKey a k)

/-- VAULT_OP_COMPLETE of a handshake makes its association ready and frees the register, and of a MAC answers the partition with the
first 40 octets of the HMAC over the loaded key; VAULT_SEGMENT_END suspends a long operation while a request of a lower class waits and
otherwise changes nothing; TRAFFIC_KEY_DERIVED makes the entry READY with the GEN loaded and its derived key, or, with no key loaded or
the vault in FAULT, leaves no entry that was not READY; VAULT_MAC_REQUEST that passes its checks joins class 1; ATTEST and BUNDLE_APPLY
wait for the vault; IMAGE_SVN_CONFIRM raises the minimum; CLAIM_REARM with every partition of the domain STOPPED returns the domain's
claim to epoch 0. The bundle answer's delay is the model's. A command refused answers its status and changes nothing. -/
def Obligations.TheWorkingKeyRegisterServesItsClasses : Prop := ∀ (dt : Nat) (s : State),
  let a := advance dt s
  (∀ facts r n x, a.vault.work = some r → r.op = .handshake n → tabGet a.jal.assocs n = some x → unitSt a 0 ≠ .fault →
    Does (.vaultOpComplete dt facts) s a [.jal, .vault] fun t =>
    tabGet t.jal.assocs n = some { x with ready := true } ∧ (a.vault.q = [] → a.vault.suspended = [] → t.vault.work = none)) ∧
  (∀ facts r ch p k input tag c, a.vault.work = some r → r.op = .mac ch false p k input tag → r.gen.isSome = true →
    unitSt a 0 ≠ .fault → answerChan a 64 p = some c → 64 ≤ chF a c 5 → fencing a p = false → fabricUp a = true →
    (chanOf a c).q.length < 4 → (chanOf a c).wait = [] → Does (.vaultOpComplete dt facts) s a [.freeCtr, .store, .ctrs, .boot, .tm,
    .net, .cond, .pub, .parts, .tt, .ph, .pair, .pf, .vault, .logb, .cap, .mem, .dirty] fun t =>
    ((chanOf t c).q.getLast?).map (fun m => (m.code, m.words)) = some (0x0901, 0 :: ((upto 10).map fun i =>
    BitVec.ofNat 32 (ofLe (((hmac384 r.key input).drop (4 * i)).take 4))) ++ List.replicate 4 0)) ∧
  (∀ w, a.vault.work = some w → w.op.long = false ∨ (a.vault.q.any fun r => r.cls < w.cls) = false →
    Does (.vaultSegmentEnd dt) s a [] fun t =>
    t.vault = a.vault) ∧
  (∀ w r, a.vault.work = some w → a.vault.suspended = [] → a.vault.q = [r] → r.cls < w.cls → w.op.long = true →
    Does (.vaultSegmentEnd dt) s a [.vault] fun t =>
    t.vault = { a.vault with work := some (vaultLoad a r), suspended := [w], q := [] }) ∧
  (∀ idx w g, a.vault.work = some w → w.op = .derive idx → w.gen = some g → unitSt a 0 ≠ .fault →
    Does (.trafficKeyDerived dt idx) s a [.boot, .vault, .logb] fun t =>
    tabGet t.vault.tkeys idx = some ⟨1, g, tai a, childKey a idx w.key⟩) ∧
  (∀ idx w, a.vault.work = some w → w.op = .derive idx → w.gen = none ∨ unitSt a 0 = .fault → (tabGetD a.vault.tkeys idx {}).st ≠ 1 →
    Does (.trafficKeyDerived dt idx) s a [.boot, .vault, .logb] fun t =>
    tabGetD t.vault.tkeys idx {} = {}) ∧
  (∀ chan p m b, serveMsg a 64 chan [0x0901, 0x0902] = some (p, m, b) → unitSt b 0 ≠ .fault →
    macCheck b p (msgWord m 1 % 256) (msgWord m 1 / 256 % 256) = 0 → Does (.vaultMacRequest dt chan) s a [.ctrs, .boot, .tt, .ph,
    .vault, .logb, .mem, .dirty] fun t =>
    t.vault = (vaultPush b 1 (.mac chan (m.code ==
    0x0902) p (msgWord m 1 % 256) ((msgOctets m 2 10).take (msgWord m 1 / 256 % 256)) (msgOctets m 12 4))).vault ∧ (chanOf t chan).q =
    (chanOf b chan).q ∧ ((chanOf a chan).wait = [] → (chanOf t chan).q = (chanOf a chan).q.tail)) ∧
  (∀ rq nonce, cmdRuns a rq 0x480032 0 [.o nonce] = true → 64 < nonce.length → Does (.attest dt rq nonce) s a [] fun t =>
    answered t rq lengthS = true) ∧
  (∀ rq nonce, cmdRuns a rq 0x480032 0 [.o nonce] = true → nonce.length ≤ 64 → a.vault.attesting = true ∨ vaultRoom a 3 = false →
    Does (.attest dt rq nonce) s a [] fun t =>
    answered t rq busyS = true) ∧
  (∀ rq nonce, cmdRuns a rq 0x480032 0 [.o nonce] = true → nonce.length ≤ 64 → a.vault.attesting = false → vaultRoom a 3 = true →
    Does (.attest dt rq nonce) s a [.boot, .vault, .logb] fun t =>
    t.vault.attesting = true ∧ ((t.vault.work.toList ++ t.vault.q).any fun r => r.op == .attest rq.sess rq.reqId nonce) = true ∧
    answered t rq pendingS = true ∧ execRuns t (addrOf 0x480032 0) = true) ∧
  (∀ rq, cmdRuns a rq 0x020031 0 [] = true → pairOn a = true → settled a = true → a.pair.link = false →
    Does (.bundleApply dt rq) s a [] fun t =>
    answered t rq stateS = true) ∧
  (∀ rq, cmdRuns a rq 0x020031 0 [] = true → (pairOn a && settled a && !a.pair.link) = false → a.jal.bundleRq.isSome = true ∨
    a.jal.commitRow.isSome = true ∨ a.jal.commitMid.isSome = true ∨ a.jal.holder.isSome = true ∧ a.jal.holder ≠ some rq.sess ∨
    vaultRoom a 2 = false → Does (.bundleApply dt rq) s a [] fun t =>
    answered t rq busyS = true) ∧
  (∀ rq, cmdRuns a rq 0x020031 0 [] = true → (pairOn a && settled a && !a.pair.link) = false → a.jal.bundleRq = none → a.jal.commitRow =
    none → a.jal.commitMid = none → a.jal.holder = none ∨ a.jal.holder = some rq.sess → vaultRoom a 2 = true →
    Does (.bundleApply dt rq) s a [.jal, .vault] fun t =>
    t.jal.bundleRq = some (rq.sess, rq.seq) ∧ t.vault = (vaultPush a 2 (.verifyBundle rq.sess rq.seq)).vault) ∧
  (∀ rq p, cmdRuns a rq 0x480043 p [] = true → (partOf a p).stored = false → Does (.imageSvnConfirm dt rq p) s a [] fun t =>
    answered t rq stateS = true) ∧
  (∀ rq p, cmdRuns a rq 0x480043 p [] = true → (partOf a p).stored = true → Does (.imageSvnConfirm dt rq p) s a [.parts] fun t =>
    partOf t p = { partOf a p with svnMin := max (partOf a p).svnMin (partOf a p).svn } ∧ answered t rq okS = true) ∧
  (∀ rq d, cmdRuns a rq 0x480050 d [] = true → ((domParts a d).all fun p => (partOf a p).st == .stopped) = false →
    Does (.claimRearm dt rq d) s a [] fun t =>
    answered t rq stateS = true) ∧
  (∀ rq d, cmdRuns a rq 0x480050 d [] = true → ((domParts a d).all fun p => (partOf a p).st == .stopped) = true →
    Does (.claimRearm dt rq d) s a [.freeCtr, .pair, .logb] fun t =>
    (claimOf t d).epoch = 0 ∧ (claimOf t d).counter = 0 ∧ (claimOf t d).highest = 0 ∧ (claimOf t d).above = none ∧
    (claimOf t d).handover = none ∧ answered t rq okS = true)

/-- RTC_SECOND_BOUNDARY with nothing staged puts the calendar on to the next second, carrying through minutes, hours, weekday, days,
months and years, and with a staged write takes its date and time with record 0x01F0; reaching the armed alarm fires it with record
0x01F1; RTC_COMMIT of a valid date stages it and RTC_COMMIT_IMMEDIATE takes it at once; ALARM_ARM arms the alarm registers;
RTC_LATCH_READ latches the calendar until all three registers are read, or 1 ms; RTC_TRIM_WINDOW, 64 s after the last, puts the new TRIM
in force. -/
def Obligations.TheRealTimeClockTicks : Prop := ∀ (dt : Nat) (s : State),
  let a := advance dt s
  (a.rtc.oscRun = true → a.rtc.staged = none → a.rtc.alarm = none → a.tm.leap = 0 → calSecs a.rtc.cal + 1 =
    calSecs (calTick a.rtc.cal).1 → Does (.rtcSecondBoundary dt) s a [.vault, .rtc, .logb] fun t =>
    t.rtc.cal = (calTick a.rtc.cal).1 ∧ t.rtc.secBase = a.now ∧ t.rtc.osf = a.rtc.osf ∧ (a.rtc.cal.sec < 59 → t.rtc.cal =
    { a.rtc.cal with sec := a.rtc.cal.sec + 1 })) ∧
  (∀ c, a.rtc.oscRun = true → a.rtc.staged = some c → a.rtc.alarm = none → Does (.rtcSecondBoundary dt) s a [.rtc, .vault,
    .logb] fun t =>
    t.rtc.cal = c ∧ t.rtc.staged = none ∧ t.logb.offered = a.logb.offered ++ [⟨0x01F0, 0x80, calInts a.rtc.cal ++ calInts c⟩]) ∧
  (a.rtc.oscRun = true → a.rtc.staged = none → a.rtc.vbak = false → a.rtc.cal.sec < 59 → a.rtc.alarm =
    some { a.rtc.cal with sec := a.rtc.cal.sec + 1 } → Does (.rtcSecondBoundary dt) s a [.vault, .rtc, .logb] fun t =>
    t.rtc.fired = true ∧ t.rtc.alarm = none ∧ t.rtc.skipped = a.rtc.skipped ∧ ⟨0x01F1, 0x80,
    calInts { a.rtc.cal with sec := a.rtc.cal.sec + 1 }⟩ ∈ t.logb.offered) ∧
  (a.rtc.lockout = false → calOk (calOf a.rtc.stTime.toNat a.rtc.stDate.toNat) = true → Does (.rtcCommit dt) s a [.rtc] fun t =>
    t.rtc = { a.rtc with staged := some (calOf a.rtc.stTime.toNat a.rtc.stDate.toNat) }) ∧
  (a.rtc.lockout = false → a.rtc.alarm = none → calOk (calOf a.rtc.stTime.toNat a.rtc.stDate.toNat) = true →
    Does (.rtcCommitImmediate dt) s a [.rtc, .logb] fun t =>
    t.rtc.cal = calOf a.rtc.stTime.toNat a.rtc.stDate.toNat ∧ t.rtc.staged = none ∧ t.rtc.secBase = a.now) ∧
  (a.rtc.lockout = false → Does (.alarmArm dt) s a [.rtc] fun t =>
    t.rtc.alarm = some (calOf a.rtc.alTime.toNat a.rtc.alDate.toNat) ∧ t.rtc.fired = false ∧ t.rtc.skipped = false ∧ t.rtc.cal =
    a.rtc.cal) ∧
  (∀ offset, a.rtc.lockout = false → offset = 0 ∨ offset = 4 ∨ offset = 8 → latchNow a = none →
    Does (.rtcLatchRead dt offset) s a [.rtc] fun t =>
    t.rtc.latch = some (a.rtc.cal, prescale a) ∧ t.rtc.latchDue = a.now + 1000000 ∧ t.rtc.latchRead = [offset] ∧ t.rtc.cal =
    a.rtc.cal) ∧
  (∀ offset, a.rtc.lockout = false → offset = 0 ∨ offset = 4 ∨ offset = 8 → (latchNow a).isSome = true →
    Does (.rtcLatchRead dt offset) s a [.rtc] fun t =>
    t.rtc = (if (adjoin a.rtc.latchRead offset).length =
    3 then { a.rtc with latch := none, latchRead := [] } else { a.rtc with latchRead := adjoin a.rtc.latchRead offset })) ∧
  (a.rtc.latch.isSome = true → a.rtc.latchDue ≤ a.now → Does (.rtcLatchExpiry dt) s a [.rtc] fun t =>
    t.rtc = { a.rtc with latch := none, latchRead := [] }) ∧
  (a.rtc.oscRun = true → 64 ≤ a.rtc.trimSecs → Does (.rtcTrimWindow dt) s a [.rtc] fun t =>
    t.rtc = { a.rtc with trim := a.rtc.trimNext, trimBase := a.now, trimSecs := 0 })

/-- RTC_SET of a date that does not exist answers RANGE, of one that does stages it or with IMMEDIATE takes it at once, and under the
discipline of a locked counter answers STATE; RTC_OSF_CLEAR clears OSF, and answers STATE while the crystal stands still; RTC_ALARM_ACK
clears FIRED and SKIPPED; RTC_DISCIPLINE of an error within 2 ms corrects nothing and records 0x01F3, the error being that at the RTC's
tick with a free 5 us either way; VAULT_LOCKOUT locks the port out; VBAK_SWITCH goes to backup 100 us after lockout, and returns with
the main rail. -/
def Obligations.TheRealTimeClockIsCommanded : Prop := ∀ (dt : Nat) (s : State),
  let a := advance dt s
  (∀ rq y mo d h mi sc wd im, cmdRuns a rq 0x500002 0 [.n y, .n mo, .n d, .n h, .n mi, .n sc, .n wd, .n (b2n im)] = true → calOk ⟨y, mo,
    d, h, mi, sc, wd⟩ = false → Does (.rtcSet dt rq y mo d h mi sc wd im) s a [] fun t =>
    answered t rq rangeS = true) ∧
  (∀ rq y mo d h mi sc wd, cmdRuns a rq 0x500002 0 [.n y, .n mo, .n d, .n h, .n mi, .n sc, .n wd, .n 0] = true → calOk ⟨y, mo, d, h, mi,
    sc, wd⟩ = true → (a.vb 0x500020 0 && a.tm.quality == 0) = false → a.rtc.lockout = false →
    Does (.rtcSet dt rq y mo d h mi sc wd false) s a [.rtc] fun t =>
    t.rtc.staged = some ⟨y, mo, d, h, mi, sc, wd⟩ ∧ t.rtc.cal = a.rtc.cal ∧ answered t rq okS = true) ∧
  (∀ rq y mo d h mi sc wd, cmdRuns a rq 0x500002 0 [.n y, .n mo, .n d, .n h, .n mi, .n sc, .n wd, .n 1] = true → calOk ⟨y, mo, d, h, mi,
    sc, wd⟩ = true → (a.vb 0x500020 0 && a.tm.quality == 0) = false → a.rtc.lockout = false → a.rtc.alarm = none →
    Does (.rtcSet dt rq y mo d h mi sc wd true) s a [.rtc, .logb] fun t =>
    t.rtc.cal = ⟨y, mo, d, h, mi, sc, wd⟩ ∧ t.rtc.staged = none ∧ t.rtc.secBase = a.now ∧ answered t rq okS = true) ∧
  (∀ rq y mo d h mi sc wd im, cmdRuns a rq 0x500002 0 [.n y, .n mo, .n d, .n h, .n mi, .n sc, .n wd, .n (b2n im)] = true → calOk ⟨y, mo,
    d, h, mi, sc, wd⟩ = true → (a.vb 0x500020 0 && a.tm.quality == 0) = true → Does (.rtcSet dt rq y mo d h mi sc wd im) s a [] fun t =>
    answered t rq stateS = true) ∧
  (∀ rq, cmdRuns a rq 0x500004 0 [] = true → a.rtc.oscRun = true → Does (.rtcOsfClear dt rq) s a [.rtc] fun t =>
    t.rtc = { a.rtc with osf := false } ∧ answered t rq okS = true) ∧
  (∀ rq, cmdRuns a rq 0x500004 0 [] = true → a.rtc.oscRun = false → Does (.rtcOsfClear dt rq) s a [] fun t =>
    t.rtc = a.rtc ∧ answered t rq stateS = true) ∧
  (∀ rq, cmdRuns a rq 0x500007 0 [] = true → Does (.rtcAlarmAck dt rq) s a [.rtc] fun t =>
    t.rtc = { a.rtc with fired := false, skipped := false } ∧ answered t rq okS = true) ∧
  (∀ off, discDue a = true → (discErr a off).natAbs ≤ 2000000 → Does (.rtcDiscipline dt off) s a [.rtc, .logb] fun t =>
    t.rtc.cal = a.rtc.cal ∧ t.rtc.discLeft = discErr a off ∧ t.rtc.engWrite = false ∧ t.rtc.trim = a.rtc.trim ∧
    (t.rtc.lastDisc.map fun x => (x.1, x.2.2.1)) = some (a.now, discErr a off) ∧ (a.rtc.lastDisc = none → t.rtc.trimNext =
    a.rtc.trimNext) ∧
    t.logb.offered = a.logb.offered ++ [⟨0x01F3, 64, [clamp32 (discErr a off), a.rtc.trimNext, t.rtc.trimNext, 0]⟩]) ∧
  (Does (.vaultLockout dt) s a [.rtc] fun t =>
    t.rtc.lockout = true ∧ t.rtc.latch = a.rtc.latch ∧ t.rtc.cal = a.rtc.cal ∧ (a.rtc.lockout = false → t.rtc.lockAt = a.now)) ∧
  (a.rtc.vbak = false → a.rtc.lockout = true → a.rtc.lockAt + 100000 ≤ a.now → a.hw.vinGood = false →
    Does (.vbakSwitch dt true) s a [.ctrs, .rtc] fun t =>
    t.rtc.vbak = true ∧ t.rtc.vbakSince = a.now ∧ t.rtc.cal = a.rtc.cal) ∧
  (a.rtc.vbak = true → a.hw.vinGood = true → Does (.vbakSwitch dt false) s a [.rtc] fun t =>
    t.rtc.vbak = false ∧ t.rtc.cal = a.rtc.cal)

/-- LOG_RECORD_INTAKE takes, 10 ns after the last, a record of those offered, writes an exempt one under the next LOG_SEQ, spends a
token on any other, and without a token writes nothing and counts it suppressed; LOG_MIRROR_WRITE puts the oldest record not yet
mirrored into the mirror; LOG_TOKEN_RETURN gives the tokens due back up to BURST; LOG_CLEAR keeps the protected records and answers the
number removed; LOG_WRITE_MSG of a code of the partition with a token writes its words as a record and answers its LOG_SEQ, of a code
outside the partition's range answers RANGE and writes nothing; LOG_READ_MSG answers the oldest record from the LOG_SEQ asked for on,
and past the end NO_OBJECT; LOG_CLEAR_MSG keeps the protected records. -/
def Obligations.TheLogbookTakesAndKeepsRecords : Prop := ∀ (dt : Nat) (s : State),
  let a := advance dt s
  (∀ o b, offerTake a.logb = some (o, b) → a.logb.nextAt ≤ a.now → running a = true → unitSt a 15 ≠ .fault → logExempt o.code = true →
    a.logb.intake.length < 64 → a.logb.recs.length < 32768 → logProtect a o.code = false ∨ (a.logb.recs.filter fun r =>
    r.prot).length < 1024 → Does (.logRecordIntake dt) s a [.ctrs, .logb] fun t =>
    t.logb.seq = a.logb.seq + 1 ∧ t.logb.offered = b.offered ∧ o ∈ a.logb.offered ∧ t.logb.nextAt = a.now + 10 ∧ t.logb.intake =
    a.logb.intake ++ [a.logb.seq + 1] ∧ t.logb.recs = a.logb.recs ++ [⟨a.logb.seq + 1, (logTime a).1, o.code, o.src,
    logProtect a o.code, (logTime a).2.1, (logTime a).2.1 && (logTime a).2.2, o.data⟩]) ∧
  (∀ o b, offerTake a.logb = some (o, b) → a.logb.nextAt ≤ a.now → running a = true → unitSt a 15 ≠ .fault → logExempt o.code = false →
    dueBy a (codeOf a o.code).next = false → a.logb.intake.length < 48 → (codeOf a o.code).tokens = 0 →
    Does (.logRecordIntake dt) s a [.ctrs, .logb] fun t =>
    t.logb.seq = a.logb.seq ∧ t.logb.recs = a.logb.recs ∧ t.logb.offered = b.offered ∧ (codeOf t o.code).supp =
    (codeOf a o.code).supp + 1 ∧ t.ctr 0x580006 0 = min (a.ctr 0x580006 0 + 1) 0xFFFFFFFF) ∧
  (∀ o b, offerTake a.logb = some (o, b) → a.logb.nextAt ≤ a.now → running a = true → unitSt a 15 ≠ .fault → logExempt o.code = false →
    dueBy a (codeOf a o.code).next = false → a.logb.intake.length < 48 → 0 < (codeOf a o.code).tokens → a.logb.recs.length < 32768 →
    logProtect a o.code = false ∨ (a.logb.recs.filter fun r => r.prot).length < 1024 → Does (.logRecordIntake dt) s a [.ctrs,
    .logb] fun t =>
    t.logb.seq = a.logb.seq + 1 ∧ t.logb.offered = b.offered ∧ (codeOf t o.code).tokens + 1 = (codeOf a o.code).tokens ∧ t.logb.recs =
    a.logb.recs ++ [⟨a.logb.seq + 1, (logTime a).1, o.code, o.src, logProtect a o.code, (logTime a).2.1, (logTime a).2.1 &&
    (logTime a).2.2, o.data⟩]) ∧
  (∀ n rest, a.logb.intake = n :: rest → running a = true → unitSt a 15 ≠ .fault → unitOk a 22 = true → (a.logb.codes.filter fun x =>
    logExempt x.1 && x.2.supp > 0) = [] → Does (.logMirrorWrite dt) s a [.ctrs, .boot, .logb] fun t =>
    t.logb.intake = rest ∧ t.logb.mirror = a.logb.mirror ++ a.logb.recs.filter (fun r => r.num == n) ∧ t.logb.recs = a.logb.recs) ∧
  (∀ code, logExempt code = false → dueBy a (codeOf a code).next = true → a.boot.phase ≠ .reset → (codeOf a code).supp = 0 →
    Does (.logTokenReturn dt code) s a [.ctrs, .logb] fun t =>
    (codeOf t code).tokens =
    min (a.fn 0x580020 code 1) ((codeOf a code).tokens + ((a.now - (codeOf a code).next.getD a.now) / logPeriod a code + 1)) ∧
    t.logb.recs = a.logb.recs) ∧
  (∀ rq, cmdRuns a rq 0x580011 0 [] = true → unitSt a 15 ≠ .fault → a.logb.intake.length < 64 → (a.logb.recs.filter fun r =>
    r.prot).length < 1024 → Does (.logClear dt rq) s a [.ctrs, .logb] fun t =>
    t.logb.recs.map (·.num) = (a.logb.recs.filter (·.prot)).map (·.num) ++ [a.logb.seq + 1] ∧ (t.logb.recs.getLast?).map (·.code) =
    some 0x0200 ∧ t.logb.seq = a.logb.seq + 1 ∧ answered t rq okS = true ∧
    ((sessOf t rq.sess).any fun se => se.resps.any fun r => r.seq == rq.seq && r.entries == [⟨okS, 4, 0,
    leN 4 (a.logb.recs.filter fun x => !x.prot).length⟩]) = true) ∧
  (∀ chan p m b, serveMsg a 64 chan [0x0A01] = some (p, m, b) → msgWord m 1 % 65536 < pcfg a p 12 ∨
    pcfg a p 12 + pcfg a p 13 ≤ msgWord m 1 % 65536 → Does (.logWriteMsg dt chan) s a [.ctrs, .tt, .ph, .logb, .mem, .dirty] fun t =>
    t.logb = a.logb ∧ (chanOf t chan).q = (chanOf b chan).q ∧ ((chanOf a chan).wait = [] → (chanOf t chan).q =
    (chanOf a chan).q.tail)) ∧
  (∀ chan p m b c, serveMsg a 64 chan [0x0A01] = some (p, m, b) → msgWord m 1 % 65536 < pcfg a p 12 ∨
    pcfg a p 12 + pcfg a p 13 ≤ msgWord m 1 % 65536 → answerChan a 64 p = some c → 64 ≤ chF a c 5 → fencing a p = false →
    (chanOf a c).q.length < 4 → (chanOf a c).wait = [] → Does (.logWriteMsg dt chan) s a [.ctrs, .tt, .ph, .logb, .mem, .dirty] fun t =>
    ((chanOf t c).q.getLast?).map (fun x => (x.code, x.len, x.words.take 2)) = some (0x0A01, 2, [0, BitVec.ofNat 32 (rangeS * 65536)]) ∧
    t.logb = a.logb) ∧
  (∀ chan p m b c, serveMsg a 64 chan [0x0A01] = some (p, m, b) → pcfg a p 12 ≤ msgWord m 1 % 65536 →
    msgWord m 1 % 65536 < pcfg a p 12 + pcfg a p 13 → unitSt a 15 ≠ .fault → logExempt (msgWord m 1 % 65536) = false →
    dueBy a (codeOf a (msgWord m 1 % 65536)).next = false → 0 < (codeOf a (msgWord m 1 % 65536)).tokens → a.logb.intake.length < 48 →
    a.logb.recs.length < 32768 → logProtect a (msgWord m 1 % 65536) = false ∨ (a.logb.recs.filter fun r => r.prot).length < 1024 →
    answerChan a 64 p = some c → 64 ≤ chF a c 5 → fencing a p = false → (chanOf a c).q.length < 4 → (chanOf a c).wait = [] →
    Does (.logWriteMsg dt chan) s a [.ctrs, .tt, .ph, .logb, .mem, .dirty] fun t =>
    t.logb.seq = a.logb.seq + 1 ∧ t.logb.recs = a.logb.recs ++ [⟨a.logb.seq + 1, (logTime a).1, msgWord m 1 % 65536, p,
    logProtect a (msgWord m 1 % 65536), (logTime a).2.1, (logTime a).2.1 && (logTime a).2.2, [(msgWord m 2 : Int), (msgWord m 3 : Int),
    (msgWord m 4 : Int), (msgWord m 5 : Int)]⟩] ∧ (codeOf t (msgWord m 1 % 65536)).tokens + 1 =
    (codeOf a (msgWord m 1 % 65536)).tokens ∧ ((chanOf t c).q.getLast?).map (fun x => (x.code, x.len, x.words.take 2)) = some (0x0A01,
    2, [BitVec.ofNat 32 (a.logb.seq + 1), 0])) ∧
  (∀ chan p m b c r rs, serveMsg a 64 chan [0x0A02] = some (p, m, b) → logFrom a (msgWord m 1) = r :: rs → answerChan a 64 p = some c →
    64 ≤ chF a c 5 → fencing a p = false → (chanOf a c).q.length < 4 → (chanOf a c).wait = [] → Does (.logReadMsg dt chan) s a [.ctrs,
    .tt, .ph, .mem, .dirty] fun t =>
    t.logb = a.logb ∧ ((chanOf t c).q.getLast?).map (fun x => (x.code, x.len, x.words.take 10)) = some (0x0A02, 10,
    ([r.num % 4294967296, 0] ++ (upto 8).map fun i => ofLe (((logBytes r).drop (4 * i)).take 4)).map (BitVec.ofNat 32))) ∧
  (∀ chan p m b c, serveMsg a 64 chan [0x0A02] = some (p, m, b) → logFrom a (msgWord m 1) = [] → answerChan a 64 p = some c →
    64 ≤ chF a c 5 → fencing a p = false → (chanOf a c).q.length < 4 → (chanOf a c).wait = [] → Does (.logReadMsg dt chan) s a [.ctrs,
    .tt, .ph, .mem, .dirty] fun t =>
    t.logb = a.logb ∧ ((chanOf t c).q.getLast?).map (fun x => (x.code, x.len, x.words.take 2)) = some (0x0A02, 2, [0,
    BitVec.ofNat 32 (noObject * 65536)])) ∧
  (∀ chan p m b, serveMsg a 64 chan [0x0A03] = some (p, m, b) → unitSt a 15 ≠ .fault → a.logb.intake.length < 64 →
    (a.logb.recs.filter fun r => r.prot).length < 1024 → Does (.logClearMsg dt chan) s a [.ctrs, .tt, .ph, .logb, .mem, .dirty] fun t =>
    t.logb.recs.map (·.num) = (a.logb.recs.filter (·.prot)).map (·.num) ++ [a.logb.seq + 1] ∧ (t.logb.recs.getLast?).map (fun r =>
    (r.code, r.src)) = some (0x0200, p))

/-- Each of the 18 counters-reset commands that a session runs leaves every counter of its objects, for its instance where it has one,
at zero with SAT clear, every other counter as it was, and answers OK; PATH_RESET also clears the path maxima. -/
def Obligations.CounterResetsClearTheirCounters : Prop := ∀ (dt : Nat) (s : State),
  let a := advance dt s
  (∀ rq port, cmdRuns a rq 0x100030 port [] = true → Does (.portCountersReset dt rq port) s a [.ctrs] fun t =>
    answered t rq okS = true ∧ cleared a t (fun ob sub => 0x100020 ≤ ob && ob ≤ 0x10002F && sub == port)) ∧
  (∀ rq group, cmdRuns a rq 0x110030 group [] = true → Does (.groupCountersReset dt rq group) s a [.ctrs] fun t =>
    answered t rq okS = true ∧ cleared a t (fun ob sub => 0x110020 ≤ ob && ob ≤ 0x110027 && sub == group)) ∧
  (∀ rq, cmdRuns a rq 0x180070 0 [] = true → Does (.timeCountersReset dt rq) s a [.ctrs] fun t =>
    answered t rq okS = true ∧ cleared a t (fun ob _ => (0x180000 ≤ ob && ob ≤ 0x18FFFF))) ∧
  (∀ rq entry, cmdRuns a rq 0x200140 entry [] = true → Does (.streamCountersReset dt rq entry) s a [.ctrs] fun t =>
    answered t rq okS = true ∧ cleared a t (fun ob sub => 0x200120 ≤ ob && ob ≤ 0x200132 && sub == entry)) ∧
  (∀ rq, cmdRuns a rq 0x200203 0 [] = true → Does (.svPortCountersReset dt rq) s a [.ctrs] fun t =>
    answered t rq okS = true ∧ cleared a t (fun ob _ => (0x200200 ≤ ob && ob ≤ 0x200201))) ∧
  (∀ rq, cmdRuns a rq 0x210020 0 [] = true → Does (.planCountersReset dt rq) s a [.ctrs] fun t =>
    answered t rq okS = true ∧ cleared a t (fun ob _ => (0x210012 ≤ ob && ob ≤ 0x210015))) ∧
  (∀ rq, cmdRuns a rq 0x240200 0 [] = true → Does (.condCountersReset dt rq) s a [.ctrs] fun t =>
    answered t rq okS = true ∧ cleared a t (fun ob _ => (0x240004 ≤ ob && ob ≤ 0x240006) || (0x24001A ≤ ob && ob ≤ 0x240110))) ∧
  (∀ rq, cmdRuns a rq 0x280130 0 [] = true → Does (.goCountersReset dt rq) s a [.ctrs] fun t =>
    answered t rq okS = true ∧ cleared a t (fun ob _ => (0x280112 ≤ ob && ob ≤ 0x280114))) ∧
  (∀ rq, cmdRuns a rq 0x280230 0 [] = true → Does (.osCountersReset dt rq) s a [.ctrs] fun t =>
    answered t rq okS = true ∧ cleared a t (fun ob _ => (0x280210 ≤ ob && ob ≤ 0x280213))) ∧
  (∀ rq, cmdRuns a rq 0x290230 0 [] = true → Does (.gsubCountersReset dt rq) s a [.ctrs] fun t =>
    answered t rq okS = true ∧ cleared a t (fun ob _ => (0x290120 ≤ ob && ob ≤ 0x290201) || (0x290211 ≤ ob && ob ≤ 0x290211))) ∧
  (∀ rq, cmdRuns a rq 0x310006 0 [] = true → Does (.ttCountersReset dt rq) s a [.ctrs] fun t =>
    answered t rq okS = true ∧ cleared a t (fun ob _ => (0x310003 ≤ ob && ob ≤ 0x310005) || (0x310012 ≤ ob && ob ≤ 0x310022) ||
    (0x310042 ≤ ob && ob ≤ 0x310042))) ∧
  (∀ rq, cmdRuns a rq 0x340120 0 [] = true → Does (.phCountersReset dt rq) s a [.ctrs] fun t =>
    answered t rq okS = true ∧ cleared a t (fun ob _ => (0x340102 ≤ ob && ob ≤ 0x340111))) ∧
  (∀ rq, cmdRuns a rq 0x380050 0 [] = true → Does (.logicCountersReset dt rq) s a [.ctrs] fun t =>
    answered t rq okS = true ∧ cleared a t (fun ob _ => (0x380016 ≤ ob && ob ≤ 0x380016) || (0x380023 ≤ ob && ob ≤ 0x380023))) ∧
  (∀ rq, cmdRuns a rq 0x400050 0 [] = true → Does (.pairCountersReset dt rq) s a [.ctrs] fun t =>
    answered t rq okS = true ∧ cleared a t (fun ob _ => (0x400023 ≤ ob && ob ≤ 0x400026) || (0x400030 ≤ ob && ob ≤ 0x400035) ||
    (0x400042 ≤ ob && ob ≤ 0x400043))) ∧
  (∀ rq, cmdRuns a rq 0x440070 0 [] = true → Does (.pfCountersReset dt rq) s a [.ctrs] fun t =>
    answered t rq okS = true ∧ cleared a t (fun ob _ => (0x440033 ≤ ob && ob ≤ 0x440035) || (0x440041 ≤ ob && ob ≤ 0x440051))) ∧
  (∀ rq, cmdRuns a rq 0x580030 0 [] = true → Does (.logCountersReset dt rq) s a [.ctrs] fun t =>
    answered t rq okS = true ∧ cleared a t (fun ob _ => (0x580005 ≤ ob && ob ≤ 0x580008))) ∧
  (∀ rq, cmdRuns a rq 0x5C0060 0 [] = true → Does (.captureCountersReset dt rq) s a [.ctrs] fun t =>
    answered t rq okS = true ∧ cleared a t (fun ob _ => (0x5C0050 ≤ ob && ob ≤ 0x5C0054))) ∧
  (∀ rq, cmdRuns a rq 0x600204 0 [] = true → Does (.pathReset dt rq) s a [.ctrs, .boot] fun t =>
    answered t rq okS = true ∧ t.boot = { a.boot with pathClose := 0, pathWire := 0, pathStage := 0 } ∧ cleared a t (fun ob _ =>
    (0x600202 ≤ ob && ob ≤ 0x600202)))

/-- PICKUP_ENTRY sets the partition's word by the entry's mask and value; CAPTURE_TRIGGER arms the manual trigger of a ready fault
recorder and answers STATE for a trend recorder; CAPTURE_REARM re-arms an overflowed recorder; TREND_RATE_RESTORE after 60 s below one
eighth halves the interval of a slowed trend recorder; RECORD_PROTECT marks a retained record, RECORD_RELEASE frees it or, held by an
export, answers STATE, and for either a number not retained answers RANGE; CAPTURE_EXPORT pends and holds its record,
CAPTURE_EXPORT_DONE ends the hold, and an export under way answers BUSY. The files hold the record's content of R559, whose octets are a
free value. -/
def Obligations.CaptureKeepsReleasesAndExports : Prop := ∀ (dt : Nat) (s : State),
  let a := advance dt s
  (∀ ring i r, rType a ring = 2 → rEngine a ring = 4 → rPort a ring = false → hubLive a = true → unitTakes a 16 = true →
    nextEntry a ring = some (i, .pickup r) → rOwner a ring < 64 → pst a (rOwner a ring) = .running ∨ pst a (rOwner a ring) = .stopping ∨
    pst a (rOwner a ring) = .frozen → Does (.pickupEntry dt ring) s a [.ctrs, .tt, .ph, .cap, .mem, .dirty] fun t =>
    tabGet t.cap.pickup (rOwner a ring) = some (((tabGetD a.cap.pickup (rOwner a ring) 0 ||| r.mask) ^^^ r.mask) ||| (r.value &&&
    r.mask)) ∧ (ringOf t ring).taken = w32 ((ringOf a ring).taken + 1)) ∧
  (∀ rq k, cmdRuns a rq 0x5C0025 k [] = true → rcF a k 0 ≠ 0 → rcF a k 1 ≠ 1 → recState a k ≠ 3 →
    Does (.captureTrigger dt rq k) s a [.cap] fun t =>
    recOf t k = { recOf a k with manual := true } ∧ answered t rq okS = true) ∧
  (∀ rq k, cmdRuns a rq 0x5C0025 k [] = true → rcF a k 0 ≠ 0 → rcF a k 1 = 1 → Does (.captureTrigger dt rq k) s a [] fun t =>
    t.cap = a.cap ∧ answered t rq stateS = true) ∧
  (∀ k, capOn a = true → (recOf a k).st = 3 → (recOf a k).ovfWait = true → Does (.captureRearm dt k) s a [.boot, .logb, .cap] fun t =>
    recOf t k = { recOf a k with st := 1, ovfWait := false, pre := [] } ∧ t.cap.fill = min a.cap.fill 131071) ∧
  (∀ u k, a.cap.lowSince = some u → capOn a = true → u + 60000000000 ≤ a.now → k ∈ recorders a → rcF a k 1 = 1 →
    rcF a k 12 < (recOf a k).interval → Does (.trendRateRestore dt) s a [.cap] fun t =>
    (recOf t k).newInterval = some ((recOf a k).interval / 2) ∧ (recOf t k).newAfter = 0 ∧ t.cap.lowSince = some a.now) ∧
  (∀ rq k number r, cmdRuns a rq 0x5C0031 k [.n number] = true → recNum a k number = some r →
    Does (.recordProtect dt rq k number) s a [.cap] fun t =>
    recNum t k number = some { r with prot := true } ∧ answered t rq okS = true) ∧
  (∀ rq k number, cmdRuns a rq 0x5C0031 k [.n number] = true → recNum a k number = none →
    Does (.recordProtect dt rq k number) s a [] fun t =>
    t.cap = a.cap ∧ answered t rq rangeS = true) ∧
  (∀ rq k number r, cmdRuns a rq 0x5C0032 k [.n number] = true → recNum a k number = some r → r.held = false →
    Does (.recordRelease dt rq k number) s a [.boot, .logb, .cap] fun t =>
    recNum t k number = none ∧ answered t rq okS = true) ∧
  (∀ rq k number, cmdRuns a rq 0x5C0032 k [.n number] = true → recNum a k number = none →
    Does (.recordRelease dt rq k number) s a [] fun t =>
    t.cap = a.cap ∧ answered t rq rangeS = true) ∧
  (∀ rq k number r, cmdRuns a rq 0x5C0032 k [.n number] = true → recNum a k number = some r → r.held = true →
    Does (.recordRelease dt rq k number) s a [] fun t =>
    t.cap = a.cap ∧ answered t rq stateS = true) ∧
  (∀ rq k number t0 t1, cmdRuns a rq 0x5C0040 0 [.n k, .n number, .i t0, .i t1] = true → k < 16 → rcF a k 0 ≠ 0 → rcF a k 1 ≠ 1 →
    (recNum a k number).isSome = true → a.cap.export_.isSome = true → Does (.captureExport dt rq k number t0 t1) s a [] fun t =>
    t.cap = a.cap ∧ answered t rq busyS = true) ∧
  (∀ rq k number t0 t1 r, cmdRuns a rq 0x5C0040 0 [.n k, .n number, .i t0, .i t1] = true → k < 16 → rcF a k 0 ≠ 0 → rcF a k 1 ≠ 1 →
    recNum a k number = some r → a.cap.export_ = none → Does (.captureExport dt rq k number t0 t1) s a [.cap] fun t =>
    t.cap.export_ = some ⟨k, number, t0, t1, rq.sess, rq.reqId⟩ ∧ (recNum t k number).map (fun y => y.held) = some true ∧
    answered t rq pendingS = true) ∧
  (∀ e r, a.cap.export_ = some e → hubLive a = true → recNum a e.rec_ e.num = some r → Does (.captureExportDone dt) s a [.freeCtr,
    .parts, .logb, .cap] fun t =>
    t.cap.export_ = none ∧ (recNum t e.rec_ e.num).map (fun y => y.held) = some false ∧ t.cap.files =
    some (comtradeOf a e.rec_ (exportOf a e)) ∧ ⟨0x0215, 0x90, [(e.rec_ : Int), (e.num : Int)]⟩ ∈ t.logb.offered)

/-- PF_TOKEN_REFILL when due returns one token, never above BURST, and sets the next return only below it; before its time it changes
nothing; IMAGE_LOADER_WRITE_REFUSED counts and records 0x01D4 and changes nothing else. -/
def Obligations.ThePrefectRefillsAndRefuses : Prop := ∀ (dt : Nat) (s : State),
  let a := advance dt s
  (∀ p u, (pfOf a p).next = some u → dueBy a (tokenDue (pfOf a p)) = true → Does (.pfTokenRefill dt p) s a [.pf] fun t =>
    (pfOf t p).tokens = min ((pfOf a p).tokens + 1) (a.fn 0x440031 p 1) ∧ ((pfOf t p).next.isSome =
    true ↔ (pfOf t p).tokens < a.fn 0x440031 p 1) ∧ (pfOf t p).denied = (pfOf a p).denied) ∧
  (∀ p, dueBy a (tokenDue (pfOf a p)) = false → Does (.pfTokenRefill dt p) s a [] fun t =>
    t.pf = a.pf) ∧
  (∀ region, Does (.imageLoaderWriteRefused dt region) s a [.ctrs, .logb] fun t =>
    t.ctr 0x440060 0 = min (a.ctr 0x440060 0 + 1) 0xFFFFFFFF ∧ t.logb.offered = a.logb.offered ++ [⟨0x01D4, 0x92, [(region : Int)]⟩])

/-- DTLS_CLIENT_HELLO on an open port with a good cookie and certificate enters an association with the stronger suite offered and asks
the vault; with a port or a cookie, a signature scheme or a certificate that is not, with two handshakes under way or without a common
suite nothing happens; HELLO on a ready association with a role its certificate carries opens the lowest free session under the agreed
version with record 0x0130 and answers it; one without the role is answered ROLE, one without a common version UNSUPPORTED, one beyond
the sessions SESSION_LIMIT, and each closes the association, counts and records; a second HELLO is answered SEQUENCE; session and
request numbers go on from the HELLO's. -/
def Obligations.HandshakesAndHelloOpenSessions : Prop := ∀ (dt : Nat) (s : State),
  let a := advance dt s
  (∀ port h u, jalynPort a port = true → h.cookieOk = true → helloSchemes h = true → h.cert.chainsToAnchor = true →
    (a.jal.assocs.filter fun x => !x.2.ready).length < 2 → unitSt a 0 ≠ .fault → vaultRoom a 3 = true → suiteFor a h = some u →
    Does (.dtlsClientHello dt port h) s a [.jal, .vault] fun t =>
    tabGet t.jal.assocs a.jal.nextAssoc = some { port := port, suite := u, cert := h.cert, group384 := h.group384 } ∧ t.jal.nextAssoc =
    a.jal.nextAssoc + 1 ∧ t.vault = (vaultPush a 3 (.handshake a.jal.nextAssoc)).vault ∧ (h.offers256 = true → u = 0x1302)) ∧
  (∀ port h, jalynPort a port = false ∨ h.cookieOk = false ∨ helloSchemes h = false ∨ h.cert.chainsToAnchor = false ∨
    2 ≤ (a.jal.assocs.filter fun x => !x.2.ready).length ∨ suiteFor a h = none → Does (.dtlsClientHello dt port h) s a [] fun t =>
    t.jal.assocs = a.jal.assocs) ∧
  (∀ k h x v r n, tabGet a.jal.assocs k = some x → jalynUp a = true → x.ready = true → x.sess = none →
    agreeVersion a h.versMin h.versMax = some v → grantRole a x.cert h = some r → freeSess a = some n → r ≠ .sec ∨
    (a.jal.sess.any fun y => y.2.role == .sec) = false → Does (.hello dt k h) s a [.jal, .logb] fun t =>
    (sessOf t n).map (fun y => (y.role, y.port, y.version, y.suite, y.reqSeq, y.rxSeq)) = some (r, x.port, v, x.suite, h.seq + 1,
    h.seq + 1) ∧ ((sessOf t n).any fun y => y.resps.any fun z => z.seq == h.seq && z.reqId == h.reqId && z.op == 1 && z.mstatus == 0 &&
    z.sent) = true ∧ (tabGet t.jal.assocs k).map (fun y => y.sess) = some (some n) ∧ t.logb.offered = a.logb.offered ++ [⟨0x0130, 65,
    [(n : Int), (h.role : Int), (x.port : Int), 0]⟩]) ∧
  (∀ k h x v j, tabGet a.jal.assocs k = some x → jalynUp a = true → x.ready = true → x.sess = none →
    agreeVersion a h.versMin h.versMax = some v → grantRole a x.cert h = none → Does (.hello dt k h) s a [.ctrs, .jal, .logb] fun t =>
    tabGet t.jal.assocs k = none ∧ t.jal.out = a.jal.out ++ [(x.port, msgBytes v 1 true x.txSeq h.seq h.reqId (leN 2 roleS))] ∧
    (sessOf t j).isSome = (sessOf a j).isSome ∧ t.ctr 0x020014 0 = min (a.ctr 0x020014 0 + 1) 0xFFFFFFFF ∧ t.logb.offered =
    a.logb.offered ++ [⟨0x0130, 65, [0xFF, (h.role : Int), (x.port : Int), (roleS : Int)]⟩]) ∧
  (∀ k h x v r st j, tabGet a.jal.assocs k = some x → jalynUp a = true → x.ready = true → x.sess = none →
    (agreeVersion a h.versMin h.versMax = none ∧ v = 0x10 ∧ st = unsupported) ∨ (agreeVersion a h.versMin h.versMax = some v ∧
    grantRole a x.cert h = some r ∧ (freeSess a = none ∨ r = .sec ∧ (a.jal.sess.any fun y => y.2.role == .sec) = true) ∧ st =
    sessionLimit) → Does (.hello dt k h) s a [.ctrs, .jal, .logb] fun t =>
    tabGet t.jal.assocs k = none ∧ t.jal.out = a.jal.out ++ [(x.port, msgBytes v 1 true x.txSeq h.seq h.reqId (leN 2 st))] ∧
    (sessOf t j).isSome = (sessOf a j).isSome ∧ t.ctr 0x020014 0 = min (a.ctr 0x020014 0 + 1) 0xFFFFFFFF ∧ t.logb.offered =
    a.logb.offered ++ [⟨0x0130, 65, [0xFF, (h.role : Int), (x.port : Int), (st : Int)]⟩]) ∧
  (∀ k h x n se, tabGet a.jal.assocs k = some x → jalynUp a = true → x.ready = true → x.sess = some n → sessOf a n = some se →
    inTurn se { sess := n, seq := h.seq, reqId := h.reqId } = true → Does (.hello dt k h) s a [.ctrs, .jal, .logb] fun t =>
    answeredWith t { sess := n, seq := h.seq, reqId := h.reqId } 1 sequenceS [] [] = true ∧ t.ctr 0x020014 0 =
    min (a.ctr 0x020014 0 + 1) 0xFFFFFFFF ∧ t.logb.offered = a.logb.offered ++ [⟨0x0130, 65, [(n : Int), (h.role : Int),
    (se.port : Int), (sequenceS : Int)]⟩])

/-- JALYN_DATAGRAM over 1,400 octets or of another version only counts; one with the next number moves the number received on, one with
a later number is held and acknowledged within 20 ms, one received before changes no number; ACK removes what it covers, on an
association without a session (its number from 16 on) too; JALYN_ACK_DUE sends an acknowledgement of its own; JALYN_RETRANSMIT of a due
message sends it with the present acknowledgement and doubles its interval, at most 4 s, and after six times closes the session with
reason TIMEOUT. -/
def Obligations.MessagesAreNumberedAndAcknowledged : Prop := ∀ (dt : Nat) (s : State),
  let a := advance dt s
  (∀ n size version seq ackValid ackNo, jalynUp a = true → 1400 < size →
    Does (.jalynDatagram dt n size version seq ackValid ackNo) s a [.ctrs] fun t =>
    t.ctr 0x020015 0 = min (a.ctr 0x020015 0 + 1) 0xFFFFFFFF) ∧
  (∀ n size version seq ackValid ackNo se, jalynUp a = true → sessOf a n = some se → size ≤ 1400 → version = se.version → seq =
    se.rxSeq → se.rxHeld = [] → Does (.jalynDatagram dt n size version seq ackValid ackNo) s a [] fun t =>
    (sessOf t n).map (fun x => (x.rxSeq, x.lastRx, x.noticed)) = some (se.rxSeq + 1, a.now, false)) ∧
  (∀ n size version seq ackValid ackNo se, jalynUp a = true → sessOf a n = some se → size ≤ 1400 → version = se.version →
    seq < se.rxSeq → Does (.jalynDatagram dt n size version seq ackValid ackNo) s a [] fun t =>
    (sessOf t n).map (fun x => (x.rxSeq, x.rxHeld)) = some (se.rxSeq, se.rxHeld)) ∧
  (∀ n size version seq ackValid ackNo se, jalynUp a = true → sessOf a n = some se → size ≤ 1400 → version ≠ se.version →
    Does (.jalynDatagram dt n size version seq ackValid ackNo) s a [.ctrs] fun t =>
    t.ctr 0x020015 0 = min (a.ctr 0x020015 0 + 1) 0xFFFFFFFF ∧ (sessOf t n).map (fun x => (x.rxSeq, x.rxHeld, x.ackDue, x.lastRx)) =
    some (se.rxSeq, se.rxHeld, se.ackDue, se.lastRx)) ∧
  (∀ n size version seq ackValid ackNo se, jalynUp a = true → sessOf a n = some se → size ≤ 1400 → version = se.version →
    se.rxSeq < seq → se.rxHeld.length < 32 → Does (.jalynDatagram dt n size version seq ackValid ackNo) s a [] fun t =>
    (sessOf t n).map (fun x => (x.rxSeq, x.rxHeld.contains seq, x.ackDue)) = some (se.rxSeq, true,
    some (se.ackDue.getD (a.now + 20000000)))) ∧
  (∀ n ackNo k x, jalynUp a = true → sessOf a n = none → tabGet a.jal.assocs k = some x → n = k + 16 →
    Does (.ack dt n ackNo) s a [.jal] fun t =>
    ∀ y ∈ (tabGet t.jal.assocs k).toList, ∀ m ∈ y.unacked, ackNo < m.seq) ∧
  (∀ n ackNo se, jalynUp a = true → sessOf a n = some se → ackNo < se.txSeq → Does (.ack dt n ackNo) s a [] fun t =>
    ((sessOf t n).map fun x => x.lastRx) = some a.now ∧ (∀ x ∈ (sessOf t n).toList, ∀ m ∈ x.unacked, ackNo < m.seq)) ∧
  (∀ n se, jalynUp a = true → sessOf a n = some se → dueBy a se.ackDue = true → Does (.jalynAckDue dt n) s a [] fun t =>
    ((sessOf t n).map fun x => x.ackDue) = some none ∧ (∀ x ∈ (sessOf t n).toList, se.txSeq + 1 ≤ x.txSeq ∧
    msgBytes se.version 10 false se.txSeq (se.rxSeq - 1) 0 [] ∈ x.out)) ∧
  (∀ n seq se m, jalynUp a = true → sessOf a n = some se → (se.unacked.find? fun m => m.seq == seq && m.gap != 0 && m.due ≤ a.now) =
    some m → m.tries < 6 → Does (.jalynRetransmit dt n seq) s a [] fun t =>
    ∀ x ∈ (sessOf t n).toList, (⟨seq, m.tries + 1, min 4000000000 (2 * m.gap), a.now + min 4000000000 (2 * m.gap),
    m.bytes⟩ : Unacked) ∈ x.unacked ∧ withAck m.bytes (se.rxSeq - 1) ∈ x.out ∧ x.ackDue = none) ∧
  (∀ n seq se m, jalynUp a = true → sessOf a n = some se → (se.unacked.find? fun m => m.seq == seq && m.gap != 0 && m.due ≤ a.now) =
    some m → 6 ≤ m.tries → Does (.jalynRetransmit dt n seq) s a [.boot, .parts, .vault, .logb] fun t =>
    sessOf t n = none ∧ ⟨0x0131, 65, [(n : Int), 1]⟩ ∈ t.logb.offered)

/-- SESSION_IDLE_NOTICE within 1 s of the idle time marks the session warned and, with room in its queue, queues a SESSION notification;
SESSION_IDLE_EXPIRY at the idle time closes it with record 0x0131, reason IDLE; SESSION_CLOSE queues one too, sets the close 1 s ahead
and answers OK; its notice's expiry closes the session; a closed holder's staged set is discarded unless its commit is accepted. The
reason codes are as the model reads them. A command refused answers its status and changes nothing. -/
def Obligations.SessionsEnd : Prop := ∀ (dt : Nat) (s : State),
  let a := advance dt s
  (∀ n se, jalynUp a = true → sessOf a n = some se → se.lastRx + se.idleNs ≤ a.now + 1000000000 → se.noticed = false →
    Does (.sessionIdleNotice dt n) s a [] fun t =>
    (sessOf t n).map (fun x => x.noticed) = some true ∧ (se.nq.length < 254 → (sessOf t n).map (fun x => x.nq.any fun m => m.kind ==
    3 && m.reason == 0) = some true)) ∧
  (∀ n se, jalynUp a = true → sessOf a n = some se → se.lastRx + se.idleNs ≤ a.now → Does (.sessionIdleExpiry dt n) s a [.boot, .parts,
    .vault, .logb] fun t =>
    sessOf t n = none ∧ ⟨0x0131, 65, [(n : Int), 0]⟩ ∈ t.logb.offered ∧ (a.jal.holder = some n → a.jal.commitRow = none →
    a.jal.commitMid = none → t.jal.holder = none ∧ t.jal.stage = [])) ∧
  (∀ rq n, cmdRuns a rq 0x020012 n [] = true → sessOf a n = none ∨ ((sessOf a n).any fun x => x.closeDue.isSome) = true →
    Does (.sessionClose dt rq n) s a [] fun t =>
    answered t rq stateS = true) ∧
  (∀ rq n se, cmdRuns a rq 0x020012 n [] = true → sessOf a n = some se → se.closeDue = none →
    Does (.sessionClose dt rq n) s a [] fun t =>
    (sessOf t n).map (fun x => x.closeDue) = some (some (a.now + 1000000000)) ∧ (se.nq.length < 254 → (sessOf t n).map (fun x =>
    x.nq.any fun m => m.kind == 3 && m.reason == 2) = some true) ∧ answered t rq okS = true) ∧
  (∀ n se, jalynUp a = true → sessOf a n = some se → dueBy a se.closeDue = true → Does (.sessionCloseNoticeExpiry dt n) s a [.boot,
    .parts, .vault, .logb] fun t =>
    sessOf t n = none ∧ ⟨0x0131, 65, [(n : Int), 2]⟩ ∈ t.logb.offered ∧ (a.jal.holder = some n → a.jal.commitRow = none →
    a.jal.commitMid = none → t.jal.holder = none ∧ t.jal.stage = []))

/-- READ of up to 64 objects outside the partitions' areas answers each with its own entry, one that another session's requests
interrupt keeps the entries still to be read, and one of none, of more, or too long to answer answers LENGTH; WRITE of a value of an S
object stages it for the session, WRITE that a check refuses changes nothing and answers the status; EXEC of LAMP_TEST does what the
command does, and one that a check refuses changes nothing and answers the status; TABLE_READ answers the rows asked for; TABLE_WRITE of
a row of an S table stages it; FIRST beyond the capacity answers RANGE. -/
def Obligations.ObjectsAreReadWrittenAndExecuted : Prop := ∀ (dt : Nat) (s : State),
  let a := advance dt s
  (∀ rq staged addrs se, rqOpen a rq se → addrs ≠ [] → addrs.length ≤ 64 → addrs.length ≤ max 1 rq.cut → (addrs.any inGateway) = false →
    readSize a se staged addrs ≤ 1344 → Does (.readMsg dt rq staged addrs) s a [] fun t =>
    answeredWith t rq 2 okS [] (addrs.map (readEntry a se staged)) = true) ∧
  (∀ rq staged addrs se, rqOpen a rq se → addrs = [] ∨ 64 < addrs.length ∨ 1344 < readSize a se staged addrs →
    Does (.readMsg dt rq staged addrs) s a [] fun t =>
    answeredWith t rq 2 lengthS [] [] = true) ∧
  (∀ rq staged addrs se, rqOpen a rq se → addrs.length ≤ 64 → max 1 rq.cut < addrs.length → (addrs.any inGateway) = false →
    readSize a se staged addrs ≤ 1344 → Does (.readMsg dt rq staged addrs) s a [] fun t =>
    (sessOf t rq.sess).map (fun x => (x.rest, x.resps.any fun r => r.seq == rq.seq && r.entries ==
    (addrs.take (max 1 rq.cut)).map (readEntry a se staged) && !r.sent)) = some (some ⟨rq, .read staged (addrs.drop (max 1 rq.cut)),
    max 1 rq.cut⟩, true)) ∧
  (∀ rq ob sub typ bs se d v, running a = true → rqOpen a rq se → descOf ob = some d → inGateway (addrOf ob sub) = false → d.pers = .s →
    entryTyp d.typ = true → decodes d.typ typ bs v = true → objCheck a se (addrOf ob sub) .write = 0 → inLims d v = true →
    ownLimit a ob sub v = 0 → unitCheck a (addrOf ob sub) d .write = 0 → committing a = false → a.jal.holder = none ∨ a.jal.holder =
    some rq.sess → sub < 65536 → Does (.writeMsg dt rq [⟨addrOf ob sub, typ, bs⟩]) s a [.jal] fun t =>
    stagedVal t ob sub 0 = v ∧ t.jal.holder = some rq.sess ∧ t.val ob sub 0 = a.val ob sub 0 ∧ answeredWith t rq 3 okS [] [⟨okS, 0, 0,
    []⟩] = true) ∧
  (∀ rq e se, running a = true → rqOpen a rq se → inGateway e.addr = false → objCheck a se e.addr .write ≠ 0 →
    Does (.writeMsg dt rq [e]) s a [] fun t =>
    answeredWith t rq 3 okS [] [⟨objCheck a se e.addr .write, 0, 0, []⟩] = true) ∧
  (∀ rq e se, rqOpen a rq se → inGateway e.addr = false → objCheck a se e.addr .exec ≠ 0 → Does (.execMsg dt rq e) s a [] fun t =>
    answered t rq (objCheck a se e.addr .exec) = true) ∧
  (∀ rq, cmdRuns a rq 0x600140 0 [] = true → Does (.execMsg dt rq ⟨addrOf 0x600140 0, typCode .none, []⟩) s a [.hw] fun t =>
    t.hw = { a.hw with lampEnd := some (a.now + 3000000000) } ∧ answered t rq okS = true) ∧
  (∀ rq ad first rows se f len rs, rqOpen a rq se → tableRows a se ad first rows = (0, f, len, rs) →
    Does (.tableRead dt rq ad first rows) s a [] fun t =>
    answeredWith t rq 5 okS [f, rs.length, len] (rs.map fun b => ⟨okS, 0, 0, b⟩) = true) ∧
  (∀ rq ad first rows se st f len rs, rqOpen a rq se → tableRows a se ad first rows = (st, f, len, rs) → st ≠ 0 →
    Does (.tableRead dt rq ad first rows) s a [] fun t =>
    answeredWith t rq 5 st [] [] = true) ∧
  (∀ rq ad first rows se d cap, rqOpen a rq se → inGateway ad = false → objCheck a se ad .tableRead = 0 → descOf (obAddr ad) = some d →
    tblCap d.typ = some cap → obAddr ad ≠ 0x580010 → cap ≤ first → Does (.tableRead dt rq ad first rows) s a [] fun t =>
    answeredWith t rq 5 rangeS [] [] = true) ∧
  (∀ rq ob sub first bs v, rowRuns a rq ob sub first bs v = true → inGateway (addrOf ob sub) = false → (descOf ob).map (fun d =>
    d.pers) = some .s → committing a = false → a.jal.holder = none ∨ a.jal.holder = some rq.sess → sub < 65536 →
    Does (.tableWrite dt rq (addrOf ob sub) first [bs]) s a [.jal] fun t =>
    stagedVal t ob sub first = v ∧ t.jal.holder = some rq.sess ∧ answeredWith t rq 6 okS [] [⟨okS, 0, 0, []⟩] = true)

/-- BULK write at the end of what is there joins its octets to the object's content, and at another offset answers RANGE; BULK read
answers the octets from the offset; SUBSCRIBE with mode 0 or 1 enters a subscription under an ID it answers, mode 2 removes it; a
refused one changes nothing. That a later offset is refused and an ID replaced is the model's reading. -/
def Obligations.BulkAndSubscriptions : Prop := ∀ (dt : Nat) (s : State),
  let a := advance dt s
  (∀ rq ad offset count data se, rqOpen a rq se → bulkCheck a rq.sess se ad true offset count data = 0 → obAddr ad = 0x010020 ∨
    obAddr ad = 0x020030 ∨ obAddr ad = 0x300012 → Does (.bulk dt rq ad true offset count data) s a [.boot, .jal, .parts] fun t =>
    bulkBuf t ad = bulkBuf a ad ++ data ∧ (sessOf t rq.sess).map (fun x => x.bulk.contains ad) = some true ∧
    answeredWith t rq 7 okS [offset, count, 0] [] = true) ∧
  (∀ rq ad wr offset count data se m, rqOpen a rq se → bulkCheck a rq.sess se ad wr offset count data ≠ 0 →
    Does (.bulk dt rq ad wr offset count data) s a [] fun t =>
    bulkBuf t ad = bulkBuf a ad ∧ (wr = true → inGateway ad = false → count ≤ 1320 → data.length = count → objCheck a se ad .bulkWrite =
    0 → octCap ad = some m → 1024 < m → offset + count ≤ m → offset ≠ (bulkBuf a ad).length →
    bulkCheck a rq.sess se ad wr offset count data = rangeS) ∧
    answeredWith t rq 7 (bulkCheck a rq.sess se ad wr offset count data) [] [] = true) ∧
  (∀ rq ad offset count data se bs len, rqOpen a rq se → bulkCheck a rq.sess se ad false offset count data = 0 →
    octRange a (obAddr ad) ad.sub offset count = (bs, len) → Does (.bulk dt rq ad false offset count data) s a [] fun t =>
    answeredWith t rq 7 okS [offset, bs.length, b2n (offset + count ≥ len)] [⟨okS, 14, 0, bs⟩] = true) ∧
  (∀ rq ad mode mi per band se, rqOpen a rq se → running a = true → subCheck a se ad mode mi per band = 0 → mode < 2 →
    (se.subs.any fun x => x.2.addr == ad) = false → Does (.subscribe dt rq ad mode mi per band) s a [] fun t =>
    (sessOf t rq.sess).map (fun x => (tabGet x.subs (freeSub se)).map fun y => (y.addr, y.mode, y.minNs, y.periodNs, y.deadband)) =
    some (some (ad, mode, mi * 1000000, per * 1000000, band)) ∧ answeredWith t rq 8 okS [freeSub se] [] = true) ∧
  (∀ rq ad mode mi per band se k y, rqOpen a rq se → running a = true → subCheck a se ad mode mi per band = 0 → mode < 2 →
    (se.subs.find? fun x => x.2.addr == ad) = some (k, y) → Does (.subscribe dt rq ad mode mi per band) s a [] fun t =>
    (sessOf t rq.sess).map (fun x => (tabGet x.subs k).map fun y => (y.addr, y.mode, y.minNs, y.periodNs, y.deadband)) = some (some (ad,
    mode, mi * 1000000, per * 1000000, band)) ∧ (sessOf t rq.sess).map (fun x => x.nextSub) = some se.nextSub ∧
    answeredWith t rq 8 okS [k] [] = true) ∧
  (∀ rq ad mi per band se k y, rqOpen a rq se → running a = true → subCheck a se ad 2 mi per band = 0 → (se.subs.find? fun x =>
    x.2.addr == ad) = some (k, y) → Does (.subscribe dt rq ad 2 mi per band) s a [] fun t =>
    (sessOf t rq.sess).map (fun x => tabGet x.subs k) = some none ∧ answeredWith t rq 8 okS [k] [] = true) ∧
  (∀ rq ad mode mi per band se, rqOpen a rq se → running a = true → subCheck a se ad mode mi per band ≠ 0 →
    Does (.subscribe dt rq ad mode mi per band) s a [] fun t =>
    (sessOf t rq.sess).map (fun x => x.subs.map fun y => (y.1, y.2.addr, y.2.mode, y.2.periodNs)) = some (se.subs.map fun y => (y.1,
    y.2.addr, y.2.mode, y.2.periodNs)) ∧ answeredWith t rq 8 (subCheck a se ad mode mi per band) [] [] = true)

/-- NOTIFY_PERIODIC of a due subscription queues the present value and is due again a period later; NOTIFY_MIN_INTERVAL_END with a
merged change that passes the DEADBAND queues the present value and begins the next interval, and without one ends the interval;
EXEC_DONE of an ended command queues its status under its REQ_ID and removes it from the ended ones; on a queue of 255 each is discarded
and counted; NOTIFY_LOST with room queues the count and its times and adds it to the session's counter, and without room or loss does
nothing. -/
def Obligations.NotificationsAreDelivered : Prop := ∀ (dt : Nat) (s : State),
  let a := advance dt s
  (∀ n k se x u, jalynUp a = true → sessOf a n = some se → tabGet se.subs k = some x → x.mode = 1 → x.due = some u → u ≤ a.now →
    se.nq.length < 254 → Does (.notifyPeriodic dt n k) s a [] fun t =>
    (sessOf t n).map (fun y => (tabGet y.subs k).map fun z => z.due) = some (some (some (u + x.periodNs))) ∧ (sessOf t n).map (fun y =>
    y.nq.any fun m => m.kind == 0 && m.addr == x.addr && m.time == tai a && m.bytes == curBytes a (obAddr x.addr) x.addr.sub) =
    some true) ∧
  (∀ n k se x u, jalynUp a = true → sessOf a n = some se → tabGet se.subs k = some x → x.mode = 1 → x.due = some u → u ≤ a.now →
    255 ≤ se.nq.length → Does (.notifyPeriodic dt n k) s a [] fun t =>
    (sessOf t n).map (fun y => (tabGet y.subs k).map fun z => z.due) = some (some (some (u + x.periodNs))) ∧ (sessOf t n).map (fun y =>
    (y.nq == se.nq, decide (se.lost < y.lost), y.lostLast)) = some (true, true, tai a)) ∧
  (∀ n k se x d, jalynUp a = true → sessOf a n = some se → tabGet se.subs k = some x → dueBy a x.held = true → x.merged = true →
    descOf (obAddr x.addr) = some d → passBand d (se.version == 0x10) x.deadband x.seen (curBytes a (obAddr x.addr) x.addr.sub) = true →
    se.nq.length < 254 → Does (.notifyMinIntervalEnd dt n k) s a [] fun t =>
    (sessOf t n).map (fun y => (tabGet y.subs k).map fun z => z.held) = some (some (some (a.now + x.minNs))) ∧
    (sessOf t n).map (fun y => y.nq.any fun m => m.kind == 0 && m.addr == x.addr && m.time == tai a && m.bytes ==
    curBytes a (obAddr x.addr) x.addr.sub) = some true) ∧
  (∀ n k se x d, jalynUp a = true → sessOf a n = some se → tabGet se.subs k = some x → dueBy a x.held = true → x.merged = true →
    descOf (obAddr x.addr) = some d → passBand d (se.version == 0x10) x.deadband x.seen (curBytes a (obAddr x.addr) x.addr.sub) = true →
    255 ≤ se.nq.length → Does (.notifyMinIntervalEnd dt n k) s a [] fun t =>
    (sessOf t n).map (fun y => (tabGet y.subs k).map fun z => z.held) = some (some (some (a.now + x.minNs))) ∧
    (sessOf t n).map (fun y => (y.nq == se.nq, decide (se.lost < y.lost), y.lostLast)) = some (true, true, tai a)) ∧
  (∀ n k se x, jalynUp a = true → sessOf a n = some se → tabGet se.subs k = some x → dueBy a x.held = true → x.merged = false → x.seen =
    curBytes a (obAddr x.addr) x.addr.sub → Does (.notifyMinIntervalEnd dt n k) s a [] fun t =>
    (sessOf t n).map (fun y => ((tabGet y.subs k).map fun z => z.held, y.nq == se.nq)) = some (some none, true)) ∧
  (∀ n reqId se r ad st bs, sessOf a n = some se → (se.doneQ.find? fun x => x.1 == reqId) = some (r, ad, st, bs) → se.nq.length < 254 →
    Does (.execDone dt n reqId) s a [] fun t =>
    (∀ x ∈ (sessOf t n).toList, (∀ y ∈ x.doneQ, y.1 ≠ reqId) ∧ (x.nq.any fun m => m.kind == 1 && m.reqId == reqId && m.addr == ad &&
    m.status == st && m.bytes == bs) = true) ∧ (sessOf t n).isSome = true) ∧
  (∀ n reqId se r ad st bs, sessOf a n = some se → (se.doneQ.find? fun x => x.1 == reqId) = some (r, ad, st, bs) → 255 ≤ se.nq.length →
    Does (.execDone dt n reqId) s a [] fun t =>
    (∀ x ∈ (sessOf t n).toList, (∀ y ∈ x.doneQ, y.1 ≠ reqId) ∧ x.nq = se.nq ∧ se.lost < x.lost ∧ x.lostLast = tai a) ∧
    (sessOf t n).isSome = true) ∧
  (∀ n se, jalynUp a = true → sessOf a n = some se → 0 < se.lost → se.nq.length < 255 → Does (.notifyLost dt n) s a [] fun t =>
    (sessOf t n).map (fun x => x.nq.any fun m => m.kind == 2 && m.lost == se.lost && m.firstTime == se.lostFirst && m.lastTime ==
    se.lostLast) = some true ∧ (se.subs = [] → (sessOf t n).map (fun x => x.lost) = some 0) ∧ tabGetD t.jal.lostCtr n {} =
    (tabGetD a.jal.lostCtr n {}).up se.lost 0xFFFFFFFF) ∧
  (∀ n se, jalynUp a = true → sessOf a n = some se → se.lost = 0 ∨ 255 ≤ se.nq.length → Does (.notifyLost dt n) s a [] fun t =>
    (se.subs = [] → sessOf t n = some se) ∧ t.jal.lostCtr = a.jal.lostCtr)

/-- RELAY_DATAGRAM from the partner is kept for its client while the link is up, one from a client joins an inter-unit lane; without
option P or the link nothing changes; GATEWAY_REPLY takes the message its channel holds or, with none there and the partition free to
post, the one that arrives with it: one that answers the request under way answers it with the message's status, type and octets, and of
any other message, as one that answers a request whose time has passed, discards it; GATEWAY_TIMEOUT answers with PARTITION_TIMEOUT, and
the request leaves the queue. The reply's channel is the lowest of the pair, the model's choice (log entry 89). -/
def Obligations.RelayAndGateway : Prop := ∀ (dt : Nat) (s : State),
  let a := advance dt s
  (∀ bytes, a.ident.optP = true → a.pair.link = true → running a = true → Does (.relayDatagram dt true bytes) s a [.jal] fun t =>
    t.jal.relayBack = a.jal.relayBack ++ [bytes]) ∧
  (∀ bytes, a.ident.optP = true → a.pair.link = true → running a = true → pairOn a = true → (lanesUp a).isEmpty = false →
    Does (.relayDatagram dt false bytes) s a [.pair] fun t =>
    ((upto 2).any fun k => (laneOf t k).busy.any (fun f => f.msg == some (.relay bytes)) || (laneOf t k).q.any fun f => f.msg ==
    some (.relay bytes)) = true ∧ t.pair =
    { a.pair with lanes := t.pair.lanes, iulSeq := (a.pair.iulSeq + (iulFrames a (.relay bytes)).length) % 4294967296 }) ∧
  (∀ w bytes, a.ident.optP = false ∨ a.pair.link = false ∨ running a = false → Does (.relayDatagram dt w bytes) s a [] fun t =>
    t.pair = a.pair) ∧
  (∀ p code len ws c m rest g st typ bs se x, hubLive a = true → fabricUp a = true → gwChan a p false = some c → (chanOf a c).q =
    m :: rest → gwQ a p = [g] → (a.jal.gwLate.find? fun y => y.1 == p && (gwReply m y.2).isSome) = none → gwReply m g = some (st, typ,
    bs) → dueBy a g.due = false → sessOf a g.sess = some se → (se.resps.find? fun r => r.seq == g.seq && r.wait.contains g.idx) =
    some x → x.wait = [g.idx] → x.entries.length = 1 → g.idx = 0 → Does (.gatewayReply dt p code len ws) s a Comp.hub fun t =>
    gwQ t p = [] ∧ (chanOf t c).q.length ≤ (chanOf a c).q.length ∧ (∀ y ∈ (sessOf t g.sess).toList, (y.resps.any fun r => r.seq ==
    g.seq && r.entries == [⟨st, typ, 0, bs⟩] && r.wait.isEmpty) = true) ∧ (sessOf t g.sess).isSome = true) ∧
  (∀ p code len ws c m g st typ bs se x, hubLive a = true → fabricUp a = true → gwChan a p false = some c → (chanOf a c).q = [] →
    postCheck a p (some c) = 0 → replyMsg a code len ws = m → gwQ a p = [g] → (a.jal.gwLate.find? fun y => y.1 == p &&
    (gwReply m y.2).isSome) = none → gwReply m g = some (st, typ, bs) → dueBy a g.due = false → sessOf a g.sess = some se →
    (se.resps.find? fun r => r.seq == g.seq && r.wait.contains g.idx) = some x → x.wait = [g.idx] → x.entries.length = 1 → g.idx = 0 →
    Does (.gatewayReply dt p code len ws) s a Comp.hub fun t =>
    gwQ t p = [] ∧ (chanOf t c).q = [] ∧ (∀ y ∈ (sessOf t g.sess).toList, (y.resps.any fun r => r.seq == g.seq && r.entries == [⟨st,
    typ, 0, bs⟩] && r.wait.isEmpty) = true) ∧ (sessOf t g.sess).isSome = true) ∧
  (∀ p code len ws c m rest g, hubLive a = true → fabricUp a = true → gwChan a p false = some c →
    (chanOf (replyIn a c p code len ws) c).q = m :: rest → gwQ a p = [g] → gwReply m g = none ∨ dueBy a g.due = true →
    Does (.gatewayReply dt p code len ws) s a Comp.hub fun t =>
    gwQ t p = [g] ∧ (t.jal.sess.map fun y => (y.1, y.2.resps)) = a.jal.sess.map fun y => (y.1, y.2.resps)) ∧
  (∀ p code len ws c m rest z, hubLive a = true → fabricUp a = true → gwChan a p false = some c → (chanOf a c).q = m :: rest →
    (a.jal.gwLate.find? fun y => y.1 == p && (gwReply m y.2).isSome) = some z →
    Does (.gatewayReply dt p code len ws) s a Comp.hub fun t =>
    gwQ t p = gwQ a p ∧ (t.jal.sess.map fun y => (y.1, y.2.resps)) = (a.jal.sess.map fun y => (y.1, y.2.resps)) ∧ t.jal.gwLate =
    a.jal.gwLate.erase z) ∧
  (∀ p g se x, hubLive a = true → gwQ a p = [g] → dueBy a g.due = true → sessOf a g.sess = some se → (se.resps.find? fun r => r.seq ==
    g.seq && r.wait.contains g.idx) = some x → x.wait = [g.idx] → x.entries.length = 1 → g.idx = 0 →
    Does (.gatewayTimeout dt p) s a [.jal] fun t =>
    gwQ t p = [] ∧ (∀ y ∈ (sessOf t g.sess).toList, (y.resps.any fun r => r.seq == g.seq && r.entries == [⟨partTimeout, 0, 0, []⟩] &&
    r.wait.isEmpty) = true) ∧ (sessOf t g.sess).isSome = true)

/-- In every state with VIN present and HOLDUP_STATE reading CHARGING, VIN_LOSS_CHARGING takes the hub into reset in the same step, and
the power-fail sequence does not run: PF is not asserted, no ride-through timer runs, and the sequence is not under way after it. The
next start shows the cause of a supply loss, but for a first power-up broken off, which stays one by the model's reading. -/
def Obligations.AHubResetWithoutPowerFailSequence : Prop := ∀ (dt : Nat) (s : State),
  let a := advance dt s
  (a.hw.vinGood = true → curVal a 0x600102 0 = [.n 0] → Does (.vinLossCharging dt) s a Comp.hub fun t =>
    heldReset a t (if a.boot.phase == .reset && a.boot.cause == 0 then 0 else 1) ∧ t.rtc.lockout = true ∧ t.hw.vinGood = false ∧
    t.hw.pf = false ∧ t.hw.rideDue = none ∧ t.hw.pfSeq = none)

/-- For every window, ring and core: where the partition does not own the ring, each of the ring's four registers reads 0 through the
window, and a REGISTER_WRITE of any word to any of them, a doorbell and a write of CONS leave the whole state as it was. -/
def Obligations.RingRegistersOfAnotherOwner : Prop := ∀ (dt : Nat) (s : State),
  let a := advance dt s
  (∀ p core q i, q < 256 → i < 4 → ownsRing a p q = false → winRead a p core (0x1000 + 16 * q + 4 * i) = 0) ∧
  (∀ p core q i w, q < 256 → i < 4 → ownsRing a p q = false →
    Does (.registerWrite dt .window p core (0x1000 + 16 * q + 4 * i) w) s a [] fun t =>
    t.tt = a.tt) ∧
  (∀ p q w es, ownsRing a p q = false → Does (.ringProdWrite dt p q w es) s a [] fun t =>
    t.tt = a.tt) ∧
  (∀ p q w, ownsRing a p q = false → Does (.ringConsWrite dt p q w) s a [] fun t =>
    t.tt = a.tt)

/-- For every command c, queue r and state s: the step of s with c and then r waiting is exec of c on s with r waiting; with nothing
waiting a step is the platform's turn, which sends Jalyn's messages and lets the requests begun or held go on, and which with no message
and no such request, or without Jalyn, answers the state unchanged. The queue of waiting commands and what a step does without one are
the model's (log entries 1 and 2). -/
def Obligations.AStepRunsTheFrontCommand : Prop :=
(∀ (c : Instr) (r : List Instr) (s : State), step { s with pending := c :: r } = exec c { s with pending := r }) ∧
  (∀ s : State, s.pending = [] → step s = .next (platformTurn s)) ∧
  (∀ s : State, s.pending = [] → (jalynUp s = false ∨ (s.jal.out = [] ∧ ∀ x ∈ s.jal.sess, x.2.out = [] ∧ x.2.rest = none ∧ x.2.held =
    [] ∧ x.2.left = none)) → step s = .next s)

/-- For every command and every state exec answers a next state: no command faults and none is refused, whatever the operands. What the
next state is, the statements about each command say. -/
def Obligations.EveryCommandCompletes : Prop :=
∀ (i : Instr) (s : State), ∃ t, exec i s = .next t

/-- For every state whose guest memory is in canonical form (addresses rising, no entry equal to the zero an unlisted address reads as)
and every step that answers a next state, that state's memory is in canonical form. What an unlisted address reads as is the model's
(log entry 3). -/
def Obligations.MemoryKeepsItsForm : Prop :=
∀ s t : State, Inv s → step s = .next t → Inv t

/-- Guest memory after reset is in canonical form and lists nothing, no command waits, no session is open and local time is 0. That
local time starts at 0 is the model's (log entry 4). -/
def Obligations.ResetMeetsTheInvariant : Prop :=
Inv State.reset ∧ State.reset.mem = [] ∧ State.reset.pending = [] ∧ State.reset.jal.sess = [] ∧ State.reset.now = 0

/-- For every command and state, in the next state exec answers: every life-cycle fuse blown before is blown, the firmware and bundle
minima and the vault's count of tamper records are no lower, local time is no earlier, and the waiting commands are those that waited.
-/
def Obligations.NothingIsTakenBack : Prop :=
∀ (i : Instr) (s t : State), exec i s = .next t → Onward s t ∧ t.pending = s.pending

/-- For every object type and every value of it, decoding the value's octets under the type's code gives that value; octets under any
other code answer TYPE; and octets of a length other than that of a scalar type of fixed length answer LENGTH. A text within a record is
one without trailing zero octets, as a record's padding is zero octets (log entry 86). -/
def Obligations.ValuesDecodeAsEncoded : Prop :=
(∀ (ty : OTyp) (v : Val), valOk ty v = true → decVal ty (typCode ty) (encVal ty v) = .ok v) ∧
  (∀ (ty : OTyp) (typ : Nat) (bs : List Byte), typ ≠ typCode ty → decVal ty typ bs = .error typeS) ∧
  (∀ (t : FT) (bs : List Byte), ftVar t = false → bs.length ≠ ftLen t → decVal (.one t) (ftCode t) bs = .error lengthS)

/-- After reset, in the dictionary of every area, every scalar or record object that may be read and whose Default the spec states reads
that Default at sub 0. Left out are the objects whose Default the spec gives by variant or not at all, and the five live supply and
temperature measurements, all of them listed; with option O fitted HOLDOVER_LIMIT reads 3600. That the module modelled is the fully
fitted one, provisioned and without supply, is the model's (log entry 5). -/
def Obligations.ResetShowsTheDefaults : Prop :=
(∀ ar ∈ List.range 128, ∀ d ∈ areaDict ar, d.acc ≠ .cmd → d.acc ≠ .wo → isTable d.typ = false →
      ar * 65536 + d.obj ∉ [0x000001, 0x000010, 0x000020, 0x000021, 0x000022, 0x010001, 0x100003, 0x100010, 0x180008, 0x180026,
    0x200102, 0x210003,
        0x240013, 0x240101, 0x290111, 0x300001, 0x300002, 0x300021, 0x310050, 0x380001, 0x400004, 0x400015, 0x400016, 0x400020,
    0x440001, 0x480030,
        0x480031, 0x480033, 0x500001, 0x500003, 0x580022, 0x5C0002, 0x5C0041, 0x600100, 0x600101, 0x600104, 0x600105, 0x600110,
    0x600141, 0x700014] →
      curVal State.reset (ar * 65536 + d.obj) 0 = d.dflt) ∧
    curVal State.reset 0x180008 0 = [.n 3600] ∧ curVal State.reset 0x240013 0 = [.n 4] ∧ curVal State.reset 0x240013 1 = [.n 0] ∧
    curVal State.reset 0x400004 0 = [.n 1] ∧ curVal State.reset 0x010001 0 = [.n 1]
end

