-- ==== Sys2Proof/Laws/State.lean ====
section
/-! SUPPORT. What each named update of the state leaves in every component: one lemma per component. -/

namespace Sys2Proof.Machine

@[simp] theorem advance_pending (dt : Nat) (s : State) : (advance dt s).pending = s.pending := rfl
@[simp] theorem advance_now (dt : Nat) (s : State) : (advance dt s).now = s.now + 2 * dt := rfl
@[simp] theorem advance_freeCtr (dt : Nat) (s : State) : (advance dt s).freeCtr = s.freeCtr := rfl
@[simp] theorem advance_ident (dt : Nat) (s : State) : (advance dt s).ident = s.ident := rfl
@[simp] theorem advance_store (dt : Nat) (s : State) : (advance dt s).store = s.store := rfl
@[simp] theorem advance_ctrs (dt : Nat) (s : State) : (advance dt s).ctrs = s.ctrs := rfl
@[simp] theorem advance_hw (dt : Nat) (s : State) : (advance dt s).hw = s.hw := rfl
@[simp] theorem advance_boot (dt : Nat) (s : State) : (advance dt s).boot = s.boot := rfl
@[simp] theorem advance_jal (dt : Nat) (s : State) : (advance dt s).jal = s.jal := rfl
@[simp] theorem advance_tm (dt : Nat) (s : State) : (advance dt s).tm = tickTm s.tm dt (slewTick s) := rfl
@[simp] theorem advance_net (dt : Nat) (s : State) : (advance dt s).net = s.net := rfl
@[simp] theorem advance_plan (dt : Nat) (s : State) : (advance dt s).plan = s.plan := rfl
@[simp] theorem advance_cond (dt : Nat) (s : State) : (advance dt s).cond = s.cond := rfl
@[simp] theorem advance_pub (dt : Nat) (s : State) : (advance dt s).pub = s.pub := rfl
@[simp] theorem advance_parts (dt : Nat) (s : State) : (advance dt s).parts = s.parts := rfl
@[simp] theorem advance_tt (dt : Nat) (s : State) : (advance dt s).tt = s.tt := rfl
@[simp] theorem advance_ph (dt : Nat) (s : State) : (advance dt s).ph = s.ph := rfl
@[simp] theorem advance_lg (dt : Nat) (s : State) : (advance dt s).lg = s.lg := rfl
@[simp] theorem advance_pair (dt : Nat) (s : State) : (advance dt s).pair = s.pair := rfl
@[simp] theorem advance_pf (dt : Nat) (s : State) : (advance dt s).pf = s.pf := rfl
@[simp] theorem advance_vault (dt : Nat) (s : State) : (advance dt s).vault = s.vault := rfl
@[simp] theorem advance_rtc (dt : Nat) (s : State) : (advance dt s).rtc = s.rtc := rfl
@[simp] theorem advance_logb (dt : Nat) (s : State) : (advance dt s).logb = s.logb := rfl
@[simp] theorem advance_cap (dt : Nat) (s : State) : (advance dt s).cap = s.cap := rfl
@[simp] theorem advance_mem (dt : Nat) (s : State) : (advance dt s).mem = s.mem := rfl
@[simp] theorem advance_dirty (dt : Nat) (s : State) : (advance dt s).dirty = s.dirty := rfl

@[simp] theorem settleOf_pending (pick : Addr → Bool) (s : State) : (settleOf pick s).pending = s.pending := rfl
@[simp] theorem settleOf_now (pick : Addr → Bool) (s : State) : (settleOf pick s).now = s.now := rfl
@[simp] theorem settleOf_freeCtr (pick : Addr → Bool) (s : State) : (settleOf pick s).freeCtr = s.freeCtr := rfl
@[simp] theorem settleOf_ident (pick : Addr → Bool) (s : State) : (settleOf pick s).ident = s.ident := rfl
@[simp] theorem settleOf_store (pick : Addr → Bool) (s : State) : (settleOf pick s).store = s.store := rfl
@[simp] theorem settleOf_ctrs (pick : Addr → Bool) (s : State) : (settleOf pick s).ctrs = s.ctrs := rfl
@[simp] theorem settleOf_hw (pick : Addr → Bool) (s : State) : (settleOf pick s).hw = s.hw := rfl
@[simp] theorem settleOf_boot (pick : Addr → Bool) (s : State) : (settleOf pick s).boot = s.boot := rfl
@[simp] theorem settleOf_tm (pick : Addr → Bool) (s : State) : (settleOf pick s).tm = s.tm := rfl
@[simp] theorem settleOf_net (pick : Addr → Bool) (s : State) : (settleOf pick s).net = s.net := rfl
@[simp] theorem settleOf_plan (pick : Addr → Bool) (s : State) : (settleOf pick s).plan = s.plan := rfl
@[simp] theorem settleOf_cond (pick : Addr → Bool) (s : State) : (settleOf pick s).cond = s.cond := rfl
@[simp] theorem settleOf_pub (pick : Addr → Bool) (s : State) : (settleOf pick s).pub = s.pub := rfl
@[simp] theorem settleOf_parts (pick : Addr → Bool) (s : State) : (settleOf pick s).parts = s.parts := rfl
@[simp] theorem settleOf_tt (pick : Addr → Bool) (s : State) : (settleOf pick s).tt = s.tt := rfl
@[simp] theorem settleOf_ph (pick : Addr → Bool) (s : State) : (settleOf pick s).ph = s.ph := rfl
@[simp] theorem settleOf_lg (pick : Addr → Bool) (s : State) : (settleOf pick s).lg = s.lg := rfl
@[simp] theorem settleOf_pair (pick : Addr → Bool) (s : State) : (settleOf pick s).pair = s.pair := rfl
@[simp] theorem settleOf_pf (pick : Addr → Bool) (s : State) : (settleOf pick s).pf = s.pf := rfl
@[simp] theorem settleOf_vault (pick : Addr → Bool) (s : State) : (settleOf pick s).vault = s.vault := rfl
@[simp] theorem settleOf_rtc (pick : Addr → Bool) (s : State) : (settleOf pick s).rtc = s.rtc := rfl
@[simp] theorem settleOf_logb (pick : Addr → Bool) (s : State) : (settleOf pick s).logb = s.logb := rfl
@[simp] theorem settleOf_cap (pick : Addr → Bool) (s : State) : (settleOf pick s).cap = s.cap := rfl
@[simp] theorem settleOf_mem (pick : Addr → Bool) (s : State) : (settleOf pick s).mem = s.mem := rfl
@[simp] theorem settleOf_dirty (pick : Addr → Bool) (s : State) : (settleOf pick s).dirty = s.dirty := rfl

@[simp] theorem settle_pending (s : State) : (settle s).pending = s.pending := rfl
@[simp] theorem settle_now (s : State) : (settle s).now = s.now := rfl
@[simp] theorem settle_freeCtr (s : State) : (settle s).freeCtr = s.freeCtr := rfl
@[simp] theorem settle_ident (s : State) : (settle s).ident = s.ident := rfl
@[simp] theorem settle_store (s : State) : (settle s).store = s.store := rfl
@[simp] theorem settle_ctrs (s : State) : (settle s).ctrs = s.ctrs := rfl
@[simp] theorem settle_hw (s : State) : (settle s).hw = s.hw := rfl
@[simp] theorem settle_boot (s : State) : (settle s).boot = s.boot := rfl
@[simp] theorem settle_tm (s : State) : (settle s).tm = s.tm := rfl
@[simp] theorem settle_net (s : State) : (settle s).net = s.net := rfl
@[simp] theorem settle_plan (s : State) : (settle s).plan = s.plan := rfl
@[simp] theorem settle_cond (s : State) : (settle s).cond = s.cond := rfl
@[simp] theorem settle_pub (s : State) : (settle s).pub = s.pub := rfl
@[simp] theorem settle_parts (s : State) : (settle s).parts = s.parts := rfl
@[simp] theorem settle_tt (s : State) : (settle s).tt = s.tt := rfl
@[simp] theorem settle_ph (s : State) : (settle s).ph = s.ph := rfl
@[simp] theorem settle_lg (s : State) : (settle s).lg = s.lg := rfl
@[simp] theorem settle_pair (s : State) : (settle s).pair = s.pair := rfl
@[simp] theorem settle_pf (s : State) : (settle s).pf = s.pf := rfl
@[simp] theorem settle_vault (s : State) : (settle s).vault = s.vault := rfl
@[simp] theorem settle_rtc (s : State) : (settle s).rtc = s.rtc := rfl
@[simp] theorem settle_logb (s : State) : (settle s).logb = s.logb := rfl
@[simp] theorem settle_cap (s : State) : (settle s).cap = s.cap := rfl
@[simp] theorem settle_mem (s : State) : (settle s).mem = s.mem := rfl
@[simp] theorem settle_dirty (s : State) : (settle s).dirty = s.dirty := rfl

@[simp] theorem logRec_pending (s : State) (code src : Nat) (data : List Int) : (logRec s code src data).pending = s.pending := rfl
@[simp] theorem logRec_now (s : State) (code src : Nat) (data : List Int) : (logRec s code src data).now = s.now := rfl
@[simp] theorem logRec_freeCtr (s : State) (code src : Nat) (data : List Int) : (logRec s code src data).freeCtr = s.freeCtr := rfl
@[simp] theorem logRec_ident (s : State) (code src : Nat) (data : List Int) : (logRec s code src data).ident = s.ident := rfl
@[simp] theorem logRec_store (s : State) (code src : Nat) (data : List Int) : (logRec s code src data).store = s.store := rfl
@[simp] theorem logRec_ctrs (s : State) (code src : Nat) (data : List Int) : (logRec s code src data).ctrs = s.ctrs := rfl
@[simp] theorem logRec_hw (s : State) (code src : Nat) (data : List Int) : (logRec s code src data).hw = s.hw := rfl
@[simp] theorem logRec_boot (s : State) (code src : Nat) (data : List Int) : (logRec s code src data).boot = s.boot := rfl
@[simp] theorem logRec_jal (s : State) (code src : Nat) (data : List Int) : (logRec s code src data).jal = s.jal := rfl
@[simp] theorem logRec_tm (s : State) (code src : Nat) (data : List Int) : (logRec s code src data).tm = s.tm := rfl
@[simp] theorem logRec_net (s : State) (code src : Nat) (data : List Int) : (logRec s code src data).net = s.net := rfl
@[simp] theorem logRec_plan (s : State) (code src : Nat) (data : List Int) : (logRec s code src data).plan = s.plan := rfl
@[simp] theorem logRec_cond (s : State) (code src : Nat) (data : List Int) : (logRec s code src data).cond = s.cond := rfl
@[simp] theorem logRec_pub (s : State) (code src : Nat) (data : List Int) : (logRec s code src data).pub = s.pub := rfl
@[simp] theorem logRec_parts (s : State) (code src : Nat) (data : List Int) : (logRec s code src data).parts = s.parts := rfl
@[simp] theorem logRec_tt (s : State) (code src : Nat) (data : List Int) : (logRec s code src data).tt = s.tt := rfl
@[simp] theorem logRec_ph (s : State) (code src : Nat) (data : List Int) : (logRec s code src data).ph = s.ph := rfl
@[simp] theorem logRec_lg (s : State) (code src : Nat) (data : List Int) : (logRec s code src data).lg = s.lg := rfl
@[simp] theorem logRec_pair (s : State) (code src : Nat) (data : List Int) : (logRec s code src data).pair = s.pair := rfl
@[simp] theorem logRec_pf (s : State) (code src : Nat) (data : List Int) : (logRec s code src data).pf = s.pf := rfl
@[simp] theorem logRec_vault (s : State) (code src : Nat) (data : List Int) : (logRec s code src data).vault = s.vault := rfl
@[simp] theorem logRec_rtc (s : State) (code src : Nat) (data : List Int) : (logRec s code src data).rtc = s.rtc := rfl
@[simp] theorem logRec_logb (s : State) (code src : Nat) (data : List Int) : (logRec s code src data).logb = { s.logb with offered := s.logb.offered ++ [⟨code, src, data⟩], offerAt := s.logb.offerAt ++ [s.now] } := rfl
@[simp] theorem logRec_cap (s : State) (code src : Nat) (data : List Int) : (logRec s code src data).cap = s.cap := rfl
@[simp] theorem logRec_mem (s : State) (code src : Nat) (data : List Int) : (logRec s code src data).mem = s.mem := rfl
@[simp] theorem logRec_dirty (s : State) (code src : Nat) (data : List Int) : (logRec s code src data).dirty = s.dirty := rfl

@[simp] theorem bumpBy_pending (s : State) (ob sub n : Nat) : (bumpBy s ob sub n).pending = s.pending := rfl
@[simp] theorem bumpBy_now (s : State) (ob sub n : Nat) : (bumpBy s ob sub n).now = s.now := rfl
@[simp] theorem bumpBy_freeCtr (s : State) (ob sub n : Nat) : (bumpBy s ob sub n).freeCtr = s.freeCtr := rfl
@[simp] theorem bumpBy_ident (s : State) (ob sub n : Nat) : (bumpBy s ob sub n).ident = s.ident := rfl
@[simp] theorem bumpBy_store (s : State) (ob sub n : Nat) : (bumpBy s ob sub n).store = s.store := rfl
@[simp] theorem bumpBy_hw (s : State) (ob sub n : Nat) : (bumpBy s ob sub n).hw = s.hw := rfl
@[simp] theorem bumpBy_boot (s : State) (ob sub n : Nat) : (bumpBy s ob sub n).boot = s.boot := rfl
@[simp] theorem bumpBy_jal (s : State) (ob sub n : Nat) : (bumpBy s ob sub n).jal = s.jal := rfl
@[simp] theorem bumpBy_tm (s : State) (ob sub n : Nat) : (bumpBy s ob sub n).tm = s.tm := rfl
@[simp] theorem bumpBy_net (s : State) (ob sub n : Nat) : (bumpBy s ob sub n).net = s.net := rfl
@[simp] theorem bumpBy_plan (s : State) (ob sub n : Nat) : (bumpBy s ob sub n).plan = s.plan := rfl
@[simp] theorem bumpBy_cond (s : State) (ob sub n : Nat) : (bumpBy s ob sub n).cond = s.cond := rfl
@[simp] theorem bumpBy_pub (s : State) (ob sub n : Nat) : (bumpBy s ob sub n).pub = s.pub := rfl
@[simp] theorem bumpBy_parts (s : State) (ob sub n : Nat) : (bumpBy s ob sub n).parts = s.parts := rfl
@[simp] theorem bumpBy_tt (s : State) (ob sub n : Nat) : (bumpBy s ob sub n).tt = s.tt := rfl
@[simp] theorem bumpBy_ph (s : State) (ob sub n : Nat) : (bumpBy s ob sub n).ph = s.ph := rfl
@[simp] theorem bumpBy_lg (s : State) (ob sub n : Nat) : (bumpBy s ob sub n).lg = s.lg := rfl
@[simp] theorem bumpBy_pair (s : State) (ob sub n : Nat) : (bumpBy s ob sub n).pair = s.pair := rfl
@[simp] theorem bumpBy_pf (s : State) (ob sub n : Nat) : (bumpBy s ob sub n).pf = s.pf := rfl
@[simp] theorem bumpBy_vault (s : State) (ob sub n : Nat) : (bumpBy s ob sub n).vault = s.vault := rfl
@[simp] theorem bumpBy_rtc (s : State) (ob sub n : Nat) : (bumpBy s ob sub n).rtc = s.rtc := rfl
@[simp] theorem bumpBy_logb (s : State) (ob sub n : Nat) : (bumpBy s ob sub n).logb = s.logb := rfl
@[simp] theorem bumpBy_cap (s : State) (ob sub n : Nat) : (bumpBy s ob sub n).cap = s.cap := rfl
@[simp] theorem bumpBy_mem (s : State) (ob sub n : Nat) : (bumpBy s ob sub n).mem = s.mem := rfl
@[simp] theorem bumpBy_dirty (s : State) (ob sub n : Nat) : (bumpBy s ob sub n).dirty = s.dirty := rfl

@[simp] theorem bump_pending (s : State) (ob sub : Nat) : (bump s ob sub).pending = s.pending := rfl
@[simp] theorem bump_now (s : State) (ob sub : Nat) : (bump s ob sub).now = s.now := rfl
@[simp] theorem bump_freeCtr (s : State) (ob sub : Nat) : (bump s ob sub).freeCtr = s.freeCtr := rfl
@[simp] theorem bump_ident (s : State) (ob sub : Nat) : (bump s ob sub).ident = s.ident := rfl
@[simp] theorem bump_store (s : State) (ob sub : Nat) : (bump s ob sub).store = s.store := rfl
@[simp] theorem bump_hw (s : State) (ob sub : Nat) : (bump s ob sub).hw = s.hw := rfl
@[simp] theorem bump_boot (s : State) (ob sub : Nat) : (bump s ob sub).boot = s.boot := rfl
@[simp] theorem bump_jal (s : State) (ob sub : Nat) : (bump s ob sub).jal = s.jal := rfl
@[simp] theorem bump_tm (s : State) (ob sub : Nat) : (bump s ob sub).tm = s.tm := rfl
@[simp] theorem bump_net (s : State) (ob sub : Nat) : (bump s ob sub).net = s.net := rfl
@[simp] theorem bump_plan (s : State) (ob sub : Nat) : (bump s ob sub).plan = s.plan := rfl
@[simp] theorem bump_cond (s : State) (ob sub : Nat) : (bump s ob sub).cond = s.cond := rfl
@[simp] theorem bump_pub (s : State) (ob sub : Nat) : (bump s ob sub).pub = s.pub := rfl
@[simp] theorem bump_parts (s : State) (ob sub : Nat) : (bump s ob sub).parts = s.parts := rfl
@[simp] theorem bump_tt (s : State) (ob sub : Nat) : (bump s ob sub).tt = s.tt := rfl
@[simp] theorem bump_ph (s : State) (ob sub : Nat) : (bump s ob sub).ph = s.ph := rfl
@[simp] theorem bump_lg (s : State) (ob sub : Nat) : (bump s ob sub).lg = s.lg := rfl
@[simp] theorem bump_pair (s : State) (ob sub : Nat) : (bump s ob sub).pair = s.pair := rfl
@[simp] theorem bump_pf (s : State) (ob sub : Nat) : (bump s ob sub).pf = s.pf := rfl
@[simp] theorem bump_vault (s : State) (ob sub : Nat) : (bump s ob sub).vault = s.vault := rfl
@[simp] theorem bump_rtc (s : State) (ob sub : Nat) : (bump s ob sub).rtc = s.rtc := rfl
@[simp] theorem bump_logb (s : State) (ob sub : Nat) : (bump s ob sub).logb = s.logb := rfl
@[simp] theorem bump_cap (s : State) (ob sub : Nat) : (bump s ob sub).cap = s.cap := rfl
@[simp] theorem bump_mem (s : State) (ob sub : Nat) : (bump s ob sub).mem = s.mem := rfl
@[simp] theorem bump_dirty (s : State) (ob sub : Nat) : (bump s ob sub).dirty = s.dirty := rfl

@[simp] theorem clearCtrs_pending (s : State) (lo hi : Nat) (sub : Option Nat) : (clearCtrs s lo hi sub).pending = s.pending := rfl
@[simp] theorem clearCtrs_now (s : State) (lo hi : Nat) (sub : Option Nat) : (clearCtrs s lo hi sub).now = s.now := rfl
@[simp] theorem clearCtrs_freeCtr (s : State) (lo hi : Nat) (sub : Option Nat) : (clearCtrs s lo hi sub).freeCtr = s.freeCtr := rfl
@[simp] theorem clearCtrs_ident (s : State) (lo hi : Nat) (sub : Option Nat) : (clearCtrs s lo hi sub).ident = s.ident := rfl
@[simp] theorem clearCtrs_store (s : State) (lo hi : Nat) (sub : Option Nat) : (clearCtrs s lo hi sub).store = s.store := rfl
@[simp] theorem clearCtrs_hw (s : State) (lo hi : Nat) (sub : Option Nat) : (clearCtrs s lo hi sub).hw = s.hw := rfl
@[simp] theorem clearCtrs_boot (s : State) (lo hi : Nat) (sub : Option Nat) : (clearCtrs s lo hi sub).boot = s.boot := rfl
@[simp] theorem clearCtrs_jal (s : State) (lo hi : Nat) (sub : Option Nat) : (clearCtrs s lo hi sub).jal = s.jal := rfl
@[simp] theorem clearCtrs_tm (s : State) (lo hi : Nat) (sub : Option Nat) : (clearCtrs s lo hi sub).tm = s.tm := rfl
@[simp] theorem clearCtrs_net (s : State) (lo hi : Nat) (sub : Option Nat) : (clearCtrs s lo hi sub).net = s.net := rfl
@[simp] theorem clearCtrs_plan (s : State) (lo hi : Nat) (sub : Option Nat) : (clearCtrs s lo hi sub).plan = s.plan := rfl
@[simp] theorem clearCtrs_cond (s : State) (lo hi : Nat) (sub : Option Nat) : (clearCtrs s lo hi sub).cond = s.cond := rfl
@[simp] theorem clearCtrs_pub (s : State) (lo hi : Nat) (sub : Option Nat) : (clearCtrs s lo hi sub).pub = s.pub := rfl
@[simp] theorem clearCtrs_parts (s : State) (lo hi : Nat) (sub : Option Nat) : (clearCtrs s lo hi sub).parts = s.parts := rfl
@[simp] theorem clearCtrs_tt (s : State) (lo hi : Nat) (sub : Option Nat) : (clearCtrs s lo hi sub).tt = s.tt := rfl
@[simp] theorem clearCtrs_ph (s : State) (lo hi : Nat) (sub : Option Nat) : (clearCtrs s lo hi sub).ph = s.ph := rfl
@[simp] theorem clearCtrs_lg (s : State) (lo hi : Nat) (sub : Option Nat) : (clearCtrs s lo hi sub).lg = s.lg := rfl
@[simp] theorem clearCtrs_pair (s : State) (lo hi : Nat) (sub : Option Nat) : (clearCtrs s lo hi sub).pair = s.pair := rfl
@[simp] theorem clearCtrs_pf (s : State) (lo hi : Nat) (sub : Option Nat) : (clearCtrs s lo hi sub).pf = s.pf := rfl
@[simp] theorem clearCtrs_vault (s : State) (lo hi : Nat) (sub : Option Nat) : (clearCtrs s lo hi sub).vault = s.vault := rfl
@[simp] theorem clearCtrs_rtc (s : State) (lo hi : Nat) (sub : Option Nat) : (clearCtrs s lo hi sub).rtc = s.rtc := rfl
@[simp] theorem clearCtrs_logb (s : State) (lo hi : Nat) (sub : Option Nat) : (clearCtrs s lo hi sub).logb = s.logb := rfl
@[simp] theorem clearCtrs_cap (s : State) (lo hi : Nat) (sub : Option Nat) : (clearCtrs s lo hi sub).cap = s.cap := rfl
@[simp] theorem clearCtrs_mem (s : State) (lo hi : Nat) (sub : Option Nat) : (clearCtrs s lo hi sub).mem = s.mem := rfl
@[simp] theorem clearCtrs_dirty (s : State) (lo hi : Nat) (sub : Option Nat) : (clearCtrs s lo hi sub).dirty = s.dirty := rfl

@[simp] theorem setPart_pending (s : State) (p : Nat) (x : Part) : (setPart s p x).pending = s.pending := rfl
@[simp] theorem setPart_now (s : State) (p : Nat) (x : Part) : (setPart s p x).now = s.now := rfl
@[simp] theorem setPart_freeCtr (s : State) (p : Nat) (x : Part) : (setPart s p x).freeCtr = s.freeCtr := rfl
@[simp] theorem setPart_ident (s : State) (p : Nat) (x : Part) : (setPart s p x).ident = s.ident := rfl
@[simp] theorem setPart_store (s : State) (p : Nat) (x : Part) : (setPart s p x).store = s.store := rfl
@[simp] theorem setPart_ctrs (s : State) (p : Nat) (x : Part) : (setPart s p x).ctrs = s.ctrs := rfl
@[simp] theorem setPart_hw (s : State) (p : Nat) (x : Part) : (setPart s p x).hw = s.hw := rfl
@[simp] theorem setPart_boot (s : State) (p : Nat) (x : Part) : (setPart s p x).boot = s.boot := rfl
@[simp] theorem setPart_jal (s : State) (p : Nat) (x : Part) : (setPart s p x).jal = s.jal := rfl
@[simp] theorem setPart_tm (s : State) (p : Nat) (x : Part) : (setPart s p x).tm = s.tm := rfl
@[simp] theorem setPart_net (s : State) (p : Nat) (x : Part) : (setPart s p x).net = s.net := rfl
@[simp] theorem setPart_plan (s : State) (p : Nat) (x : Part) : (setPart s p x).plan = s.plan := rfl
@[simp] theorem setPart_cond (s : State) (p : Nat) (x : Part) : (setPart s p x).cond = s.cond := rfl
@[simp] theorem setPart_pub (s : State) (p : Nat) (x : Part) : (setPart s p x).pub = s.pub := rfl
@[simp] theorem setPart_parts (s : State) (p : Nat) (x : Part) : (setPart s p x).parts = { s.parts with ps := tabPut s.parts.ps p x } := rfl
@[simp] theorem setPart_tt (s : State) (p : Nat) (x : Part) : (setPart s p x).tt = s.tt := rfl
@[simp] theorem setPart_ph (s : State) (p : Nat) (x : Part) : (setPart s p x).ph = s.ph := rfl
@[simp] theorem setPart_lg (s : State) (p : Nat) (x : Part) : (setPart s p x).lg = s.lg := rfl
@[simp] theorem setPart_pair (s : State) (p : Nat) (x : Part) : (setPart s p x).pair = s.pair := rfl
@[simp] theorem setPart_pf (s : State) (p : Nat) (x : Part) : (setPart s p x).pf = s.pf := rfl
@[simp] theorem setPart_vault (s : State) (p : Nat) (x : Part) : (setPart s p x).vault = s.vault := rfl
@[simp] theorem setPart_rtc (s : State) (p : Nat) (x : Part) : (setPart s p x).rtc = s.rtc := rfl
@[simp] theorem setPart_logb (s : State) (p : Nat) (x : Part) : (setPart s p x).logb = s.logb := rfl
@[simp] theorem setPart_cap (s : State) (p : Nat) (x : Part) : (setPart s p x).cap = s.cap := rfl
@[simp] theorem setPart_mem (s : State) (p : Nat) (x : Part) : (setPart s p x).mem = s.mem := rfl
@[simp] theorem setPart_dirty (s : State) (p : Nat) (x : Part) : (setPart s p x).dirty = s.dirty := rfl

@[simp] theorem setPort_pending (s : State) (n : Nat) (x : Port) : (setPort s n x).pending = s.pending := rfl
@[simp] theorem setPort_now (s : State) (n : Nat) (x : Port) : (setPort s n x).now = s.now := rfl
@[simp] theorem setPort_freeCtr (s : State) (n : Nat) (x : Port) : (setPort s n x).freeCtr = s.freeCtr := rfl
@[simp] theorem setPort_ident (s : State) (n : Nat) (x : Port) : (setPort s n x).ident = s.ident := rfl
@[simp] theorem setPort_store (s : State) (n : Nat) (x : Port) : (setPort s n x).store = s.store := rfl
@[simp] theorem setPort_ctrs (s : State) (n : Nat) (x : Port) : (setPort s n x).ctrs = s.ctrs := rfl
@[simp] theorem setPort_hw (s : State) (n : Nat) (x : Port) : (setPort s n x).hw = s.hw := rfl
@[simp] theorem setPort_boot (s : State) (n : Nat) (x : Port) : (setPort s n x).boot = s.boot := rfl
@[simp] theorem setPort_jal (s : State) (n : Nat) (x : Port) : (setPort s n x).jal = s.jal := rfl
@[simp] theorem setPort_tm (s : State) (n : Nat) (x : Port) : (setPort s n x).tm = s.tm := rfl
@[simp] theorem setPort_net (s : State) (n : Nat) (x : Port) : (setPort s n x).net = { s.net with ports := tabPut s.net.ports n x } := rfl
@[simp] theorem setPort_plan (s : State) (n : Nat) (x : Port) : (setPort s n x).plan = s.plan := rfl
@[simp] theorem setPort_cond (s : State) (n : Nat) (x : Port) : (setPort s n x).cond = s.cond := rfl
@[simp] theorem setPort_pub (s : State) (n : Nat) (x : Port) : (setPort s n x).pub = s.pub := rfl
@[simp] theorem setPort_parts (s : State) (n : Nat) (x : Port) : (setPort s n x).parts = s.parts := rfl
@[simp] theorem setPort_tt (s : State) (n : Nat) (x : Port) : (setPort s n x).tt = s.tt := rfl
@[simp] theorem setPort_ph (s : State) (n : Nat) (x : Port) : (setPort s n x).ph = s.ph := rfl
@[simp] theorem setPort_lg (s : State) (n : Nat) (x : Port) : (setPort s n x).lg = s.lg := rfl
@[simp] theorem setPort_pair (s : State) (n : Nat) (x : Port) : (setPort s n x).pair = s.pair := rfl
@[simp] theorem setPort_pf (s : State) (n : Nat) (x : Port) : (setPort s n x).pf = s.pf := rfl
@[simp] theorem setPort_vault (s : State) (n : Nat) (x : Port) : (setPort s n x).vault = s.vault := rfl
@[simp] theorem setPort_rtc (s : State) (n : Nat) (x : Port) : (setPort s n x).rtc = s.rtc := rfl
@[simp] theorem setPort_logb (s : State) (n : Nat) (x : Port) : (setPort s n x).logb = s.logb := rfl
@[simp] theorem setPort_cap (s : State) (n : Nat) (x : Port) : (setPort s n x).cap = s.cap := rfl
@[simp] theorem setPort_mem (s : State) (n : Nat) (x : Port) : (setPort s n x).mem = s.mem := rfl
@[simp] theorem setPort_dirty (s : State) (n : Nat) (x : Port) : (setPort s n x).dirty = s.dirty := rfl

@[simp] theorem setSess_pending (s : State) (n : Nat) (x : Sess) : (setSess s n x).pending = s.pending := rfl
@[simp] theorem setSess_now (s : State) (n : Nat) (x : Sess) : (setSess s n x).now = s.now := rfl
@[simp] theorem setSess_freeCtr (s : State) (n : Nat) (x : Sess) : (setSess s n x).freeCtr = s.freeCtr := rfl
@[simp] theorem setSess_ident (s : State) (n : Nat) (x : Sess) : (setSess s n x).ident = s.ident := rfl
@[simp] theorem setSess_store (s : State) (n : Nat) (x : Sess) : (setSess s n x).store = s.store := rfl
@[simp] theorem setSess_ctrs (s : State) (n : Nat) (x : Sess) : (setSess s n x).ctrs = s.ctrs := rfl
@[simp] theorem setSess_hw (s : State) (n : Nat) (x : Sess) : (setSess s n x).hw = s.hw := rfl
@[simp] theorem setSess_boot (s : State) (n : Nat) (x : Sess) : (setSess s n x).boot = s.boot := rfl
@[simp] theorem setSess_jal (s : State) (n : Nat) (x : Sess) : (setSess s n x).jal = { s.jal with sess := tabPut s.jal.sess n x } := rfl
@[simp] theorem setSess_tm (s : State) (n : Nat) (x : Sess) : (setSess s n x).tm = s.tm := rfl
@[simp] theorem setSess_net (s : State) (n : Nat) (x : Sess) : (setSess s n x).net = s.net := rfl
@[simp] theorem setSess_plan (s : State) (n : Nat) (x : Sess) : (setSess s n x).plan = s.plan := rfl
@[simp] theorem setSess_cond (s : State) (n : Nat) (x : Sess) : (setSess s n x).cond = s.cond := rfl
@[simp] theorem setSess_pub (s : State) (n : Nat) (x : Sess) : (setSess s n x).pub = s.pub := rfl
@[simp] theorem setSess_parts (s : State) (n : Nat) (x : Sess) : (setSess s n x).parts = s.parts := rfl
@[simp] theorem setSess_tt (s : State) (n : Nat) (x : Sess) : (setSess s n x).tt = s.tt := rfl
@[simp] theorem setSess_ph (s : State) (n : Nat) (x : Sess) : (setSess s n x).ph = s.ph := rfl
@[simp] theorem setSess_lg (s : State) (n : Nat) (x : Sess) : (setSess s n x).lg = s.lg := rfl
@[simp] theorem setSess_pair (s : State) (n : Nat) (x : Sess) : (setSess s n x).pair = s.pair := rfl
@[simp] theorem setSess_pf (s : State) (n : Nat) (x : Sess) : (setSess s n x).pf = s.pf := rfl
@[simp] theorem setSess_vault (s : State) (n : Nat) (x : Sess) : (setSess s n x).vault = s.vault := rfl
@[simp] theorem setSess_rtc (s : State) (n : Nat) (x : Sess) : (setSess s n x).rtc = s.rtc := rfl
@[simp] theorem setSess_logb (s : State) (n : Nat) (x : Sess) : (setSess s n x).logb = s.logb := rfl
@[simp] theorem setSess_cap (s : State) (n : Nat) (x : Sess) : (setSess s n x).cap = s.cap := rfl
@[simp] theorem setSess_mem (s : State) (n : Nat) (x : Sess) : (setSess s n x).mem = s.mem := rfl
@[simp] theorem setSess_dirty (s : State) (n : Nat) (x : Sess) : (setSess s n x).dirty = s.dirty := rfl

@[simp] theorem put_pending (s : State) (ob sub row : Nat) (v : Val) : (s.put ob sub row v).pending = s.pending := rfl
@[simp] theorem put_now (s : State) (ob sub row : Nat) (v : Val) : (s.put ob sub row v).now = s.now := rfl
@[simp] theorem put_freeCtr (s : State) (ob sub row : Nat) (v : Val) : (s.put ob sub row v).freeCtr = s.freeCtr := rfl
@[simp] theorem put_ident (s : State) (ob sub row : Nat) (v : Val) : (s.put ob sub row v).ident = s.ident := rfl
@[simp] theorem put_store (s : State) (ob sub row : Nat) (v : Val) : (s.put ob sub row v).store = tabSet s.store (okey ob sub row) v (putDfl s ob sub) := rfl
@[simp] theorem put_ctrs (s : State) (ob sub row : Nat) (v : Val) : (s.put ob sub row v).ctrs = s.ctrs := rfl
@[simp] theorem put_hw (s : State) (ob sub row : Nat) (v : Val) : (s.put ob sub row v).hw = s.hw := rfl
@[simp] theorem put_boot (s : State) (ob sub row : Nat) (v : Val) : (s.put ob sub row v).boot = s.boot := rfl
@[simp] theorem put_jal (s : State) (ob sub row : Nat) (v : Val) : (s.put ob sub row v).jal = s.jal := rfl
@[simp] theorem put_tm (s : State) (ob sub row : Nat) (v : Val) : (s.put ob sub row v).tm = s.tm := rfl
@[simp] theorem put_net (s : State) (ob sub row : Nat) (v : Val) : (s.put ob sub row v).net = s.net := rfl
@[simp] theorem put_plan (s : State) (ob sub row : Nat) (v : Val) : (s.put ob sub row v).plan = s.plan := rfl
@[simp] theorem put_cond (s : State) (ob sub row : Nat) (v : Val) : (s.put ob sub row v).cond = s.cond := rfl
@[simp] theorem put_pub (s : State) (ob sub row : Nat) (v : Val) : (s.put ob sub row v).pub = s.pub := rfl
@[simp] theorem put_parts (s : State) (ob sub row : Nat) (v : Val) : (s.put ob sub row v).parts = s.parts := rfl
@[simp] theorem put_tt (s : State) (ob sub row : Nat) (v : Val) : (s.put ob sub row v).tt = s.tt := rfl
@[simp] theorem put_ph (s : State) (ob sub row : Nat) (v : Val) : (s.put ob sub row v).ph = s.ph := rfl
@[simp] theorem put_lg (s : State) (ob sub row : Nat) (v : Val) : (s.put ob sub row v).lg = s.lg := rfl
@[simp] theorem put_pair (s : State) (ob sub row : Nat) (v : Val) : (s.put ob sub row v).pair = s.pair := rfl
@[simp] theorem put_pf (s : State) (ob sub row : Nat) (v : Val) : (s.put ob sub row v).pf = s.pf := rfl
@[simp] theorem put_vault (s : State) (ob sub row : Nat) (v : Val) : (s.put ob sub row v).vault = s.vault := rfl
@[simp] theorem put_rtc (s : State) (ob sub row : Nat) (v : Val) : (s.put ob sub row v).rtc = s.rtc := rfl
@[simp] theorem put_logb (s : State) (ob sub row : Nat) (v : Val) : (s.put ob sub row v).logb = s.logb := rfl
@[simp] theorem put_cap (s : State) (ob sub row : Nat) (v : Val) : (s.put ob sub row v).cap = s.cap := rfl
@[simp] theorem put_mem (s : State) (ob sub row : Nat) (v : Val) : (s.put ob sub row v).mem = s.mem := rfl
@[simp] theorem put_dirty (s : State) (ob sub row : Nat) (v : Val) : (s.put ob sub row v).dirty = s.dirty := rfl

@[simp] theorem memWrite_pending (s : State) (p a : Nat) (l : List Byte) : (memWrite s p a l).pending = s.pending := rfl
@[simp] theorem memWrite_now (s : State) (p a : Nat) (l : List Byte) : (memWrite s p a l).now = s.now := rfl
@[simp] theorem memWrite_freeCtr (s : State) (p a : Nat) (l : List Byte) : (memWrite s p a l).freeCtr = s.freeCtr := rfl
@[simp] theorem memWrite_ident (s : State) (p a : Nat) (l : List Byte) : (memWrite s p a l).ident = s.ident := rfl
@[simp] theorem memWrite_store (s : State) (p a : Nat) (l : List Byte) : (memWrite s p a l).store = s.store := rfl
@[simp] theorem memWrite_ctrs (s : State) (p a : Nat) (l : List Byte) : (memWrite s p a l).ctrs = s.ctrs := rfl
@[simp] theorem memWrite_hw (s : State) (p a : Nat) (l : List Byte) : (memWrite s p a l).hw = s.hw := rfl
@[simp] theorem memWrite_boot (s : State) (p a : Nat) (l : List Byte) : (memWrite s p a l).boot = s.boot := rfl
@[simp] theorem memWrite_jal (s : State) (p a : Nat) (l : List Byte) : (memWrite s p a l).jal = s.jal := rfl
@[simp] theorem memWrite_tm (s : State) (p a : Nat) (l : List Byte) : (memWrite s p a l).tm = s.tm := rfl
@[simp] theorem memWrite_net (s : State) (p a : Nat) (l : List Byte) : (memWrite s p a l).net = s.net := rfl
@[simp] theorem memWrite_plan (s : State) (p a : Nat) (l : List Byte) : (memWrite s p a l).plan = s.plan := rfl
@[simp] theorem memWrite_cond (s : State) (p a : Nat) (l : List Byte) : (memWrite s p a l).cond = s.cond := rfl
@[simp] theorem memWrite_pub (s : State) (p a : Nat) (l : List Byte) : (memWrite s p a l).pub = s.pub := rfl
@[simp] theorem memWrite_parts (s : State) (p a : Nat) (l : List Byte) : (memWrite s p a l).parts = s.parts := rfl
@[simp] theorem memWrite_tt (s : State) (p a : Nat) (l : List Byte) : (memWrite s p a l).tt = s.tt := rfl
@[simp] theorem memWrite_ph (s : State) (p a : Nat) (l : List Byte) : (memWrite s p a l).ph = s.ph := rfl
@[simp] theorem memWrite_lg (s : State) (p a : Nat) (l : List Byte) : (memWrite s p a l).lg = s.lg := rfl
@[simp] theorem memWrite_pair (s : State) (p a : Nat) (l : List Byte) : (memWrite s p a l).pair = s.pair := rfl
@[simp] theorem memWrite_pf (s : State) (p a : Nat) (l : List Byte) : (memWrite s p a l).pf = s.pf := rfl
@[simp] theorem memWrite_vault (s : State) (p a : Nat) (l : List Byte) : (memWrite s p a l).vault = s.vault := rfl
@[simp] theorem memWrite_rtc (s : State) (p a : Nat) (l : List Byte) : (memWrite s p a l).rtc = s.rtc := rfl
@[simp] theorem memWrite_logb (s : State) (p a : Nat) (l : List Byte) : (memWrite s p a l).logb = s.logb := rfl
@[simp] theorem memWrite_cap (s : State) (p a : Nat) (l : List Byte) : (memWrite s p a l).cap = s.cap := rfl
@[simp] theorem memWrite_mem (s : State) (p a : Nat) (l : List Byte) : (memWrite s p a l).mem = cellsPut s.mem (memKey p a) l := rfl
@[simp] theorem memWrite_dirty (s : State) (p a : Nat) (l : List Byte) : (memWrite s p a l).dirty = if mapOn s p then (granules p a l.length).foldl adjoin s.dirty else s.dirty := rfl

@[simp] theorem memZero_pending (s : State) (p : Nat) : (memZero s p).pending = s.pending := rfl
@[simp] theorem memZero_now (s : State) (p : Nat) : (memZero s p).now = s.now := rfl
@[simp] theorem memZero_freeCtr (s : State) (p : Nat) : (memZero s p).freeCtr = s.freeCtr := rfl
@[simp] theorem memZero_ident (s : State) (p : Nat) : (memZero s p).ident = s.ident := rfl
@[simp] theorem memZero_store (s : State) (p : Nat) : (memZero s p).store = s.store := rfl
@[simp] theorem memZero_ctrs (s : State) (p : Nat) : (memZero s p).ctrs = s.ctrs := rfl
@[simp] theorem memZero_hw (s : State) (p : Nat) : (memZero s p).hw = s.hw := rfl
@[simp] theorem memZero_boot (s : State) (p : Nat) : (memZero s p).boot = s.boot := rfl
@[simp] theorem memZero_jal (s : State) (p : Nat) : (memZero s p).jal = s.jal := rfl
@[simp] theorem memZero_tm (s : State) (p : Nat) : (memZero s p).tm = s.tm := rfl
@[simp] theorem memZero_net (s : State) (p : Nat) : (memZero s p).net = s.net := rfl
@[simp] theorem memZero_plan (s : State) (p : Nat) : (memZero s p).plan = s.plan := rfl
@[simp] theorem memZero_cond (s : State) (p : Nat) : (memZero s p).cond = s.cond := rfl
@[simp] theorem memZero_pub (s : State) (p : Nat) : (memZero s p).pub = s.pub := rfl
@[simp] theorem memZero_parts (s : State) (p : Nat) : (memZero s p).parts = s.parts := rfl
@[simp] theorem memZero_tt (s : State) (p : Nat) : (memZero s p).tt = s.tt := rfl
@[simp] theorem memZero_ph (s : State) (p : Nat) : (memZero s p).ph = s.ph := rfl
@[simp] theorem memZero_lg (s : State) (p : Nat) : (memZero s p).lg = s.lg := rfl
@[simp] theorem memZero_pair (s : State) (p : Nat) : (memZero s p).pair = s.pair := rfl
@[simp] theorem memZero_pf (s : State) (p : Nat) : (memZero s p).pf = s.pf := rfl
@[simp] theorem memZero_vault (s : State) (p : Nat) : (memZero s p).vault = s.vault := rfl
@[simp] theorem memZero_rtc (s : State) (p : Nat) : (memZero s p).rtc = s.rtc := rfl
@[simp] theorem memZero_logb (s : State) (p : Nat) : (memZero s p).logb = s.logb := rfl
@[simp] theorem memZero_cap (s : State) (p : Nat) : (memZero s p).cap = s.cap := rfl
@[simp] theorem memZero_dirty (s : State) (p : Nat) : (memZero s p).dirty = s.dirty := rfl

@[simp] theorem setUnit_pending (s : State) (n : Nat) (st : USt) : (setUnit s n st).pending = s.pending := by
  unfold setUnit
  split
  · rfl
  · dsimp only [seeNow]; simp
@[simp] theorem setUnit_now (s : State) (n : Nat) (st : USt) : (setUnit s n st).now = s.now := by
  unfold setUnit
  split
  · rfl
  · dsimp only [seeNow]; simp
@[simp] theorem setUnit_freeCtr (s : State) (n : Nat) (st : USt) : (setUnit s n st).freeCtr = s.freeCtr := by
  unfold setUnit
  split
  · rfl
  · dsimp only [seeNow]; simp
@[simp] theorem setUnit_ident (s : State) (n : Nat) (st : USt) : (setUnit s n st).ident = s.ident := by
  unfold setUnit
  split
  · rfl
  · dsimp only [seeNow]; simp
@[simp] theorem setUnit_store (s : State) (n : Nat) (st : USt) : (setUnit s n st).store = s.store := by
  unfold setUnit
  split
  · rfl
  · dsimp only [seeNow]; simp
@[simp] theorem setUnit_ctrs (s : State) (n : Nat) (st : USt) : (setUnit s n st).ctrs = s.ctrs := by
  unfold setUnit
  split
  · rfl
  · dsimp only [seeNow]; simp
@[simp] theorem setUnit_hw (s : State) (n : Nat) (st : USt) : (setUnit s n st).hw = s.hw := by
  unfold setUnit
  split
  · rfl
  · dsimp only [seeNow]; simp
@[simp] theorem setUnit_tm (s : State) (n : Nat) (st : USt) : (setUnit s n st).tm = s.tm := by
  unfold setUnit
  split
  · rfl
  · dsimp only [seeNow]; simp
@[simp] theorem setUnit_net (s : State) (n : Nat) (st : USt) : (setUnit s n st).net = s.net := by
  unfold setUnit
  split
  · rfl
  · dsimp only [seeNow]; simp
@[simp] theorem setUnit_plan (s : State) (n : Nat) (st : USt) : (setUnit s n st).plan = s.plan := by
  unfold setUnit
  split
  · rfl
  · dsimp only [seeNow]; simp
@[simp] theorem setUnit_cond (s : State) (n : Nat) (st : USt) : (setUnit s n st).cond = s.cond := by
  unfold setUnit
  split
  · rfl
  · dsimp only [seeNow]; simp
@[simp] theorem setUnit_pub (s : State) (n : Nat) (st : USt) : (setUnit s n st).pub = s.pub := by
  unfold setUnit
  split
  · rfl
  · dsimp only [seeNow]; simp
@[simp] theorem setUnit_parts (s : State) (n : Nat) (st : USt) : (setUnit s n st).parts = s.parts := by
  unfold setUnit
  split
  · rfl
  · dsimp only [seeNow]; simp
@[simp] theorem setUnit_tt (s : State) (n : Nat) (st : USt) : (setUnit s n st).tt = s.tt := by
  unfold setUnit
  split
  · rfl
  · dsimp only [seeNow]; simp
@[simp] theorem setUnit_ph (s : State) (n : Nat) (st : USt) : (setUnit s n st).ph = s.ph := by
  unfold setUnit
  split
  · rfl
  · dsimp only [seeNow]; simp
@[simp] theorem setUnit_lg (s : State) (n : Nat) (st : USt) : (setUnit s n st).lg = s.lg := by
  unfold setUnit
  split
  · rfl
  · dsimp only [seeNow]; simp
@[simp] theorem setUnit_pair (s : State) (n : Nat) (st : USt) : (setUnit s n st).pair = s.pair := by
  unfold setUnit
  split
  · rfl
  · dsimp only [seeNow]; simp
@[simp] theorem setUnit_pf (s : State) (n : Nat) (st : USt) : (setUnit s n st).pf = s.pf := by
  unfold setUnit
  split
  · rfl
  · dsimp only [seeNow]; simp
@[simp] theorem setUnit_vault (s : State) (n : Nat) (st : USt) : (setUnit s n st).vault = s.vault := by
  unfold setUnit
  split
  · rfl
  · dsimp only [seeNow]; simp
@[simp] theorem setUnit_rtc (s : State) (n : Nat) (st : USt) : (setUnit s n st).rtc = s.rtc := by
  unfold setUnit
  split
  · rfl
  · dsimp only [seeNow]; simp
@[simp] theorem setUnit_cap (s : State) (n : Nat) (st : USt) : (setUnit s n st).cap = s.cap := by
  unfold setUnit
  split
  · rfl
  · dsimp only [seeNow]; simp
@[simp] theorem setUnit_mem (s : State) (n : Nat) (st : USt) : (setUnit s n st).mem = s.mem := by
  unfold setUnit
  split
  · rfl
  · dsimp only [seeNow]; simp
@[simp] theorem setUnit_dirty (s : State) (n : Nat) (st : USt) : (setUnit s n st).dirty = s.dirty := by
  unfold setUnit
  split
  · rfl
  · dsimp only [seeNow]; simp

@[simp] theorem judgeUnit_pending (s : State) (n : Nat) (bad : Bool) : (judgeUnit s n bad).pending = s.pending := by
  unfold judgeUnit
  split
  · exact setUnit_pending _ _ _
  · rfl
@[simp] theorem judgeUnit_now (s : State) (n : Nat) (bad : Bool) : (judgeUnit s n bad).now = s.now := by
  unfold judgeUnit
  split
  · exact setUnit_now _ _ _
  · rfl
@[simp] theorem judgeUnit_freeCtr (s : State) (n : Nat) (bad : Bool) : (judgeUnit s n bad).freeCtr = s.freeCtr := by
  unfold judgeUnit
  split
  · exact setUnit_freeCtr _ _ _
  · rfl
@[simp] theorem judgeUnit_ident (s : State) (n : Nat) (bad : Bool) : (judgeUnit s n bad).ident = s.ident := by
  unfold judgeUnit
  split
  · exact setUnit_ident _ _ _
  · rfl
@[simp] theorem judgeUnit_store (s : State) (n : Nat) (bad : Bool) : (judgeUnit s n bad).store = s.store := by
  unfold judgeUnit
  split
  · exact setUnit_store _ _ _
  · rfl
@[simp] theorem judgeUnit_ctrs (s : State) (n : Nat) (bad : Bool) : (judgeUnit s n bad).ctrs = s.ctrs := by
  unfold judgeUnit
  split
  · exact setUnit_ctrs _ _ _
  · rfl
@[simp] theorem judgeUnit_hw (s : State) (n : Nat) (bad : Bool) : (judgeUnit s n bad).hw = s.hw := by
  unfold judgeUnit
  split
  · exact setUnit_hw _ _ _
  · rfl
@[simp] theorem judgeUnit_tm (s : State) (n : Nat) (bad : Bool) : (judgeUnit s n bad).tm = s.tm := by
  unfold judgeUnit
  split
  · exact setUnit_tm _ _ _
  · rfl
@[simp] theorem judgeUnit_net (s : State) (n : Nat) (bad : Bool) : (judgeUnit s n bad).net = s.net := by
  unfold judgeUnit
  split
  · exact setUnit_net _ _ _
  · rfl
@[simp] theorem judgeUnit_plan (s : State) (n : Nat) (bad : Bool) : (judgeUnit s n bad).plan = s.plan := by
  unfold judgeUnit
  split
  · exact setUnit_plan _ _ _
  · rfl
@[simp] theorem judgeUnit_cond (s : State) (n : Nat) (bad : Bool) : (judgeUnit s n bad).cond = s.cond := by
  unfold judgeUnit
  split
  · exact setUnit_cond _ _ _
  · rfl
@[simp] theorem judgeUnit_pub (s : State) (n : Nat) (bad : Bool) : (judgeUnit s n bad).pub = s.pub := by
  unfold judgeUnit
  split
  · exact setUnit_pub _ _ _
  · rfl
@[simp] theorem judgeUnit_parts (s : State) (n : Nat) (bad : Bool) : (judgeUnit s n bad).parts = s.parts := by
  unfold judgeUnit
  split
  · exact setUnit_parts _ _ _
  · rfl
@[simp] theorem judgeUnit_tt (s : State) (n : Nat) (bad : Bool) : (judgeUnit s n bad).tt = s.tt := by
  unfold judgeUnit
  split
  · exact setUnit_tt _ _ _
  · rfl
@[simp] theorem judgeUnit_ph (s : State) (n : Nat) (bad : Bool) : (judgeUnit s n bad).ph = s.ph := by
  unfold judgeUnit
  split
  · exact setUnit_ph _ _ _
  · rfl
@[simp] theorem judgeUnit_lg (s : State) (n : Nat) (bad : Bool) : (judgeUnit s n bad).lg = s.lg := by
  unfold judgeUnit
  split
  · exact setUnit_lg _ _ _
  · rfl
@[simp] theorem judgeUnit_pair (s : State) (n : Nat) (bad : Bool) : (judgeUnit s n bad).pair = s.pair := by
  unfold judgeUnit
  split
  · exact setUnit_pair _ _ _
  · rfl
@[simp] theorem judgeUnit_pf (s : State) (n : Nat) (bad : Bool) : (judgeUnit s n bad).pf = s.pf := by
  unfold judgeUnit
  split
  · exact setUnit_pf _ _ _
  · rfl
@[simp] theorem judgeUnit_vault (s : State) (n : Nat) (bad : Bool) : (judgeUnit s n bad).vault = s.vault := by
  unfold judgeUnit
  split
  · exact setUnit_vault _ _ _
  · rfl
@[simp] theorem judgeUnit_rtc (s : State) (n : Nat) (bad : Bool) : (judgeUnit s n bad).rtc = s.rtc := by
  unfold judgeUnit
  split
  · exact setUnit_rtc _ _ _
  · rfl
@[simp] theorem judgeUnit_cap (s : State) (n : Nat) (bad : Bool) : (judgeUnit s n bad).cap = s.cap := by
  unfold judgeUnit
  split
  · exact setUnit_cap _ _ _
  · rfl
@[simp] theorem judgeUnit_mem (s : State) (n : Nat) (bad : Bool) : (judgeUnit s n bad).mem = s.mem := by
  unfold judgeUnit
  split
  · exact setUnit_mem _ _ _
  · rfl
@[simp] theorem judgeUnit_dirty (s : State) (n : Nat) (bad : Bool) : (judgeUnit s n bad).dirty = s.dirty := by
  unfold judgeUnit
  split
  · exact setUnit_dirty _ _ _
  · rfl

@[simp] theorem setRing_pending (s : State) (q : Nat) (r : Ring) : (setRing s q r).pending = s.pending := rfl
@[simp] theorem setRing_now (s : State) (q : Nat) (r : Ring) : (setRing s q r).now = s.now := rfl
@[simp] theorem setRing_freeCtr (s : State) (q : Nat) (r : Ring) : (setRing s q r).freeCtr = s.freeCtr := rfl
@[simp] theorem setRing_ident (s : State) (q : Nat) (r : Ring) : (setRing s q r).ident = s.ident := rfl
@[simp] theorem setRing_store (s : State) (q : Nat) (r : Ring) : (setRing s q r).store = s.store := rfl
@[simp] theorem setRing_ctrs (s : State) (q : Nat) (r : Ring) : (setRing s q r).ctrs = s.ctrs := rfl
@[simp] theorem setRing_hw (s : State) (q : Nat) (r : Ring) : (setRing s q r).hw = s.hw := rfl
@[simp] theorem setRing_boot (s : State) (q : Nat) (r : Ring) : (setRing s q r).boot = s.boot := rfl
@[simp] theorem setRing_jal (s : State) (q : Nat) (r : Ring) : (setRing s q r).jal = s.jal := rfl
@[simp] theorem setRing_tm (s : State) (q : Nat) (r : Ring) : (setRing s q r).tm = s.tm := rfl
@[simp] theorem setRing_net (s : State) (q : Nat) (r : Ring) : (setRing s q r).net = s.net := rfl
@[simp] theorem setRing_plan (s : State) (q : Nat) (r : Ring) : (setRing s q r).plan = s.plan := rfl
@[simp] theorem setRing_cond (s : State) (q : Nat) (r : Ring) : (setRing s q r).cond = s.cond := rfl
@[simp] theorem setRing_pub (s : State) (q : Nat) (r : Ring) : (setRing s q r).pub = s.pub := rfl
@[simp] theorem setRing_parts (s : State) (q : Nat) (r : Ring) : (setRing s q r).parts = s.parts := rfl
@[simp] theorem setRing_tt (s : State) (q : Nat) (r : Ring) : (setRing s q r).tt = { s.tt with rings := tabPut s.tt.rings q r } := rfl
@[simp] theorem setRing_ph (s : State) (q : Nat) (r : Ring) : (setRing s q r).ph = s.ph := rfl
@[simp] theorem setRing_lg (s : State) (q : Nat) (r : Ring) : (setRing s q r).lg = s.lg := rfl
@[simp] theorem setRing_pair (s : State) (q : Nat) (r : Ring) : (setRing s q r).pair = s.pair := rfl
@[simp] theorem setRing_pf (s : State) (q : Nat) (r : Ring) : (setRing s q r).pf = s.pf := rfl
@[simp] theorem setRing_vault (s : State) (q : Nat) (r : Ring) : (setRing s q r).vault = s.vault := rfl
@[simp] theorem setRing_rtc (s : State) (q : Nat) (r : Ring) : (setRing s q r).rtc = s.rtc := rfl
@[simp] theorem setRing_logb (s : State) (q : Nat) (r : Ring) : (setRing s q r).logb = s.logb := rfl
@[simp] theorem setRing_cap (s : State) (q : Nat) (r : Ring) : (setRing s q r).cap = s.cap := rfl
@[simp] theorem setRing_mem (s : State) (q : Nat) (r : Ring) : (setRing s q r).mem = s.mem := rfl
@[simp] theorem setRing_dirty (s : State) (q : Nat) (r : Ring) : (setRing s q r).dirty = s.dirty := rfl

@[simp] theorem setChan_pending (s : State) (c : Nat) (x : Chan) : (setChan s c x).pending = s.pending := rfl
@[simp] theorem setChan_now (s : State) (c : Nat) (x : Chan) : (setChan s c x).now = s.now := rfl
@[simp] theorem setChan_freeCtr (s : State) (c : Nat) (x : Chan) : (setChan s c x).freeCtr = s.freeCtr := rfl
@[simp] theorem setChan_ident (s : State) (c : Nat) (x : Chan) : (setChan s c x).ident = s.ident := rfl
@[simp] theorem setChan_store (s : State) (c : Nat) (x : Chan) : (setChan s c x).store = s.store := rfl
@[simp] theorem setChan_ctrs (s : State) (c : Nat) (x : Chan) : (setChan s c x).ctrs = s.ctrs := rfl
@[simp] theorem setChan_hw (s : State) (c : Nat) (x : Chan) : (setChan s c x).hw = s.hw := rfl
@[simp] theorem setChan_boot (s : State) (c : Nat) (x : Chan) : (setChan s c x).boot = s.boot := rfl
@[simp] theorem setChan_jal (s : State) (c : Nat) (x : Chan) : (setChan s c x).jal = s.jal := rfl
@[simp] theorem setChan_tm (s : State) (c : Nat) (x : Chan) : (setChan s c x).tm = s.tm := rfl
@[simp] theorem setChan_net (s : State) (c : Nat) (x : Chan) : (setChan s c x).net = s.net := rfl
@[simp] theorem setChan_plan (s : State) (c : Nat) (x : Chan) : (setChan s c x).plan = s.plan := rfl
@[simp] theorem setChan_cond (s : State) (c : Nat) (x : Chan) : (setChan s c x).cond = s.cond := rfl
@[simp] theorem setChan_pub (s : State) (c : Nat) (x : Chan) : (setChan s c x).pub = s.pub := rfl
@[simp] theorem setChan_parts (s : State) (c : Nat) (x : Chan) : (setChan s c x).parts = s.parts := rfl
@[simp] theorem setChan_tt (s : State) (c : Nat) (x : Chan) : (setChan s c x).tt = s.tt := rfl
@[simp] theorem setChan_ph (s : State) (c : Nat) (x : Chan) : (setChan s c x).ph = { s.ph with chans := tabPut s.ph.chans c x } := rfl
@[simp] theorem setChan_lg (s : State) (c : Nat) (x : Chan) : (setChan s c x).lg = s.lg := rfl
@[simp] theorem setChan_pair (s : State) (c : Nat) (x : Chan) : (setChan s c x).pair = s.pair := rfl
@[simp] theorem setChan_pf (s : State) (c : Nat) (x : Chan) : (setChan s c x).pf = s.pf := rfl
@[simp] theorem setChan_vault (s : State) (c : Nat) (x : Chan) : (setChan s c x).vault = s.vault := rfl
@[simp] theorem setChan_rtc (s : State) (c : Nat) (x : Chan) : (setChan s c x).rtc = s.rtc := rfl
@[simp] theorem setChan_logb (s : State) (c : Nat) (x : Chan) : (setChan s c x).logb = s.logb := rfl
@[simp] theorem setChan_cap (s : State) (c : Nat) (x : Chan) : (setChan s c x).cap = s.cap := rfl
@[simp] theorem setChan_mem (s : State) (c : Nat) (x : Chan) : (setChan s c x).mem = s.mem := rfl
@[simp] theorem setChan_dirty (s : State) (c : Nat) (x : Chan) : (setChan s c x).dirty = s.dirty := rfl

@[simp] theorem setTask_pending (s : State) (j : Nat) (x : Task) : (setTask s j x).pending = s.pending := rfl
@[simp] theorem setTask_now (s : State) (j : Nat) (x : Task) : (setTask s j x).now = s.now := rfl
@[simp] theorem setTask_freeCtr (s : State) (j : Nat) (x : Task) : (setTask s j x).freeCtr = s.freeCtr := rfl
@[simp] theorem setTask_ident (s : State) (j : Nat) (x : Task) : (setTask s j x).ident = s.ident := rfl
@[simp] theorem setTask_store (s : State) (j : Nat) (x : Task) : (setTask s j x).store = s.store := rfl
@[simp] theorem setTask_ctrs (s : State) (j : Nat) (x : Task) : (setTask s j x).ctrs = s.ctrs := rfl
@[simp] theorem setTask_hw (s : State) (j : Nat) (x : Task) : (setTask s j x).hw = s.hw := rfl
@[simp] theorem setTask_boot (s : State) (j : Nat) (x : Task) : (setTask s j x).boot = s.boot := rfl
@[simp] theorem setTask_jal (s : State) (j : Nat) (x : Task) : (setTask s j x).jal = s.jal := rfl
@[simp] theorem setTask_tm (s : State) (j : Nat) (x : Task) : (setTask s j x).tm = s.tm := rfl
@[simp] theorem setTask_net (s : State) (j : Nat) (x : Task) : (setTask s j x).net = s.net := rfl
@[simp] theorem setTask_plan (s : State) (j : Nat) (x : Task) : (setTask s j x).plan = s.plan := rfl
@[simp] theorem setTask_cond (s : State) (j : Nat) (x : Task) : (setTask s j x).cond = s.cond := rfl
@[simp] theorem setTask_pub (s : State) (j : Nat) (x : Task) : (setTask s j x).pub = s.pub := rfl
@[simp] theorem setTask_parts (s : State) (j : Nat) (x : Task) : (setTask s j x).parts = s.parts := rfl
@[simp] theorem setTask_tt (s : State) (j : Nat) (x : Task) : (setTask s j x).tt = s.tt := rfl
@[simp] theorem setTask_ph (s : State) (j : Nat) (x : Task) : (setTask s j x).ph = s.ph := rfl
@[simp] theorem setTask_lg (s : State) (j : Nat) (x : Task) : (setTask s j x).lg = { s.lg with tasks := tabPut s.lg.tasks j x } := rfl
@[simp] theorem setTask_pair (s : State) (j : Nat) (x : Task) : (setTask s j x).pair = s.pair := rfl
@[simp] theorem setTask_pf (s : State) (j : Nat) (x : Task) : (setTask s j x).pf = s.pf := rfl
@[simp] theorem setTask_vault (s : State) (j : Nat) (x : Task) : (setTask s j x).vault = s.vault := rfl
@[simp] theorem setTask_rtc (s : State) (j : Nat) (x : Task) : (setTask s j x).rtc = s.rtc := rfl
@[simp] theorem setTask_logb (s : State) (j : Nat) (x : Task) : (setTask s j x).logb = s.logb := rfl
@[simp] theorem setTask_cap (s : State) (j : Nat) (x : Task) : (setTask s j x).cap = s.cap := rfl
@[simp] theorem setTask_mem (s : State) (j : Nat) (x : Task) : (setTask s j x).mem = s.mem := rfl
@[simp] theorem setTask_dirty (s : State) (j : Nat) (x : Task) : (setTask s j x).dirty = s.dirty := rfl

@[simp] theorem setRec_pending (s : State) (k : Nat) (x : Recorder) : (setRec s k x).pending = s.pending := rfl
@[simp] theorem setRec_now (s : State) (k : Nat) (x : Recorder) : (setRec s k x).now = s.now := rfl
@[simp] theorem setRec_freeCtr (s : State) (k : Nat) (x : Recorder) : (setRec s k x).freeCtr = s.freeCtr := rfl
@[simp] theorem setRec_ident (s : State) (k : Nat) (x : Recorder) : (setRec s k x).ident = s.ident := rfl
@[simp] theorem setRec_store (s : State) (k : Nat) (x : Recorder) : (setRec s k x).store = s.store := rfl
@[simp] theorem setRec_ctrs (s : State) (k : Nat) (x : Recorder) : (setRec s k x).ctrs = s.ctrs := rfl
@[simp] theorem setRec_hw (s : State) (k : Nat) (x : Recorder) : (setRec s k x).hw = s.hw := rfl
@[simp] theorem setRec_boot (s : State) (k : Nat) (x : Recorder) : (setRec s k x).boot = s.boot := rfl
@[simp] theorem setRec_jal (s : State) (k : Nat) (x : Recorder) : (setRec s k x).jal = s.jal := rfl
@[simp] theorem setRec_tm (s : State) (k : Nat) (x : Recorder) : (setRec s k x).tm = s.tm := rfl
@[simp] theorem setRec_net (s : State) (k : Nat) (x : Recorder) : (setRec s k x).net = s.net := rfl
@[simp] theorem setRec_plan (s : State) (k : Nat) (x : Recorder) : (setRec s k x).plan = s.plan := rfl
@[simp] theorem setRec_cond (s : State) (k : Nat) (x : Recorder) : (setRec s k x).cond = s.cond := rfl
@[simp] theorem setRec_pub (s : State) (k : Nat) (x : Recorder) : (setRec s k x).pub = s.pub := rfl
@[simp] theorem setRec_parts (s : State) (k : Nat) (x : Recorder) : (setRec s k x).parts = s.parts := rfl
@[simp] theorem setRec_tt (s : State) (k : Nat) (x : Recorder) : (setRec s k x).tt = s.tt := rfl
@[simp] theorem setRec_ph (s : State) (k : Nat) (x : Recorder) : (setRec s k x).ph = s.ph := rfl
@[simp] theorem setRec_lg (s : State) (k : Nat) (x : Recorder) : (setRec s k x).lg = s.lg := rfl
@[simp] theorem setRec_pair (s : State) (k : Nat) (x : Recorder) : (setRec s k x).pair = s.pair := rfl
@[simp] theorem setRec_pf (s : State) (k : Nat) (x : Recorder) : (setRec s k x).pf = s.pf := rfl
@[simp] theorem setRec_vault (s : State) (k : Nat) (x : Recorder) : (setRec s k x).vault = s.vault := rfl
@[simp] theorem setRec_rtc (s : State) (k : Nat) (x : Recorder) : (setRec s k x).rtc = s.rtc := rfl
@[simp] theorem setRec_logb (s : State) (k : Nat) (x : Recorder) : (setRec s k x).logb = s.logb := rfl
@[simp] theorem setRec_cap (s : State) (k : Nat) (x : Recorder) : (setRec s k x).cap = { s.cap with recs := tabPut s.cap.recs k x } := rfl
@[simp] theorem setRec_mem (s : State) (k : Nat) (x : Recorder) : (setRec s k x).mem = s.mem := rfl
@[simp] theorem setRec_dirty (s : State) (k : Nat) (x : Recorder) : (setRec s k x).dirty = s.dirty := rfl

@[simp] theorem setRow_pending (s : State) (r : Nat) (x : Row) : (setRow s r x).pending = s.pending := rfl
@[simp] theorem setRow_now (s : State) (r : Nat) (x : Row) : (setRow s r x).now = s.now := rfl
@[simp] theorem setRow_freeCtr (s : State) (r : Nat) (x : Row) : (setRow s r x).freeCtr = s.freeCtr := rfl
@[simp] theorem setRow_ident (s : State) (r : Nat) (x : Row) : (setRow s r x).ident = s.ident := rfl
@[simp] theorem setRow_store (s : State) (r : Nat) (x : Row) : (setRow s r x).store = s.store := rfl
@[simp] theorem setRow_ctrs (s : State) (r : Nat) (x : Row) : (setRow s r x).ctrs = s.ctrs := rfl
@[simp] theorem setRow_hw (s : State) (r : Nat) (x : Row) : (setRow s r x).hw = s.hw := rfl
@[simp] theorem setRow_boot (s : State) (r : Nat) (x : Row) : (setRow s r x).boot = s.boot := rfl
@[simp] theorem setRow_jal (s : State) (r : Nat) (x : Row) : (setRow s r x).jal = s.jal := rfl
@[simp] theorem setRow_tm (s : State) (r : Nat) (x : Row) : (setRow s r x).tm = s.tm := rfl
@[simp] theorem setRow_net (s : State) (r : Nat) (x : Row) : (setRow s r x).net = s.net := rfl
@[simp] theorem setRow_plan (s : State) (r : Nat) (x : Row) : (setRow s r x).plan = { s.plan with rows := tabPut s.plan.rows r x } := rfl
@[simp] theorem setRow_cond (s : State) (r : Nat) (x : Row) : (setRow s r x).cond = s.cond := rfl
@[simp] theorem setRow_pub (s : State) (r : Nat) (x : Row) : (setRow s r x).pub = s.pub := rfl
@[simp] theorem setRow_parts (s : State) (r : Nat) (x : Row) : (setRow s r x).parts = s.parts := rfl
@[simp] theorem setRow_tt (s : State) (r : Nat) (x : Row) : (setRow s r x).tt = s.tt := rfl
@[simp] theorem setRow_ph (s : State) (r : Nat) (x : Row) : (setRow s r x).ph = s.ph := rfl
@[simp] theorem setRow_lg (s : State) (r : Nat) (x : Row) : (setRow s r x).lg = s.lg := rfl
@[simp] theorem setRow_pair (s : State) (r : Nat) (x : Row) : (setRow s r x).pair = s.pair := rfl
@[simp] theorem setRow_pf (s : State) (r : Nat) (x : Row) : (setRow s r x).pf = s.pf := rfl
@[simp] theorem setRow_vault (s : State) (r : Nat) (x : Row) : (setRow s r x).vault = s.vault := rfl
@[simp] theorem setRow_rtc (s : State) (r : Nat) (x : Row) : (setRow s r x).rtc = s.rtc := rfl
@[simp] theorem setRow_logb (s : State) (r : Nat) (x : Row) : (setRow s r x).logb = s.logb := rfl
@[simp] theorem setRow_cap (s : State) (r : Nat) (x : Row) : (setRow s r x).cap = s.cap := rfl
@[simp] theorem setRow_mem (s : State) (r : Nat) (x : Row) : (setRow s r x).mem = s.mem := rfl
@[simp] theorem setRow_dirty (s : State) (r : Nat) (x : Row) : (setRow s r x).dirty = s.dirty := rfl

@[simp] theorem setStream_pending (s : State) (e : Nat) (x : Stream) : (setStream s e x).pending = s.pending := rfl
@[simp] theorem setStream_now (s : State) (e : Nat) (x : Stream) : (setStream s e x).now = s.now := rfl
@[simp] theorem setStream_freeCtr (s : State) (e : Nat) (x : Stream) : (setStream s e x).freeCtr = s.freeCtr := rfl
@[simp] theorem setStream_ident (s : State) (e : Nat) (x : Stream) : (setStream s e x).ident = s.ident := rfl
@[simp] theorem setStream_store (s : State) (e : Nat) (x : Stream) : (setStream s e x).store = s.store := rfl
@[simp] theorem setStream_ctrs (s : State) (e : Nat) (x : Stream) : (setStream s e x).ctrs = s.ctrs := rfl
@[simp] theorem setStream_hw (s : State) (e : Nat) (x : Stream) : (setStream s e x).hw = s.hw := rfl
@[simp] theorem setStream_boot (s : State) (e : Nat) (x : Stream) : (setStream s e x).boot = s.boot := rfl
@[simp] theorem setStream_jal (s : State) (e : Nat) (x : Stream) : (setStream s e x).jal = s.jal := rfl
@[simp] theorem setStream_tm (s : State) (e : Nat) (x : Stream) : (setStream s e x).tm = s.tm := rfl
@[simp] theorem setStream_net (s : State) (e : Nat) (x : Stream) : (setStream s e x).net = s.net := rfl
@[simp] theorem setStream_plan (s : State) (e : Nat) (x : Stream) : (setStream s e x).plan = { s.plan with streams := tabPut s.plan.streams e x } := rfl
@[simp] theorem setStream_cond (s : State) (e : Nat) (x : Stream) : (setStream s e x).cond = s.cond := rfl
@[simp] theorem setStream_pub (s : State) (e : Nat) (x : Stream) : (setStream s e x).pub = s.pub := rfl
@[simp] theorem setStream_parts (s : State) (e : Nat) (x : Stream) : (setStream s e x).parts = s.parts := rfl
@[simp] theorem setStream_tt (s : State) (e : Nat) (x : Stream) : (setStream s e x).tt = s.tt := rfl
@[simp] theorem setStream_ph (s : State) (e : Nat) (x : Stream) : (setStream s e x).ph = s.ph := rfl
@[simp] theorem setStream_lg (s : State) (e : Nat) (x : Stream) : (setStream s e x).lg = s.lg := rfl
@[simp] theorem setStream_pair (s : State) (e : Nat) (x : Stream) : (setStream s e x).pair = s.pair := rfl
@[simp] theorem setStream_pf (s : State) (e : Nat) (x : Stream) : (setStream s e x).pf = s.pf := rfl
@[simp] theorem setStream_vault (s : State) (e : Nat) (x : Stream) : (setStream s e x).vault = s.vault := rfl
@[simp] theorem setStream_rtc (s : State) (e : Nat) (x : Stream) : (setStream s e x).rtc = s.rtc := rfl
@[simp] theorem setStream_logb (s : State) (e : Nat) (x : Stream) : (setStream s e x).logb = s.logb := rfl
@[simp] theorem setStream_cap (s : State) (e : Nat) (x : Stream) : (setStream s e x).cap = s.cap := rfl
@[simp] theorem setStream_mem (s : State) (e : Nat) (x : Stream) : (setStream s e x).mem = s.mem := rfl
@[simp] theorem setStream_dirty (s : State) (e : Nat) (x : Stream) : (setStream s e x).dirty = s.dirty := rfl

@[simp] theorem setStep_pending (s : State) (p : Nat) (x : StepSt) : (setStep s p x).pending = s.pending := rfl
@[simp] theorem setStep_now (s : State) (p : Nat) (x : StepSt) : (setStep s p x).now = s.now := rfl
@[simp] theorem setStep_freeCtr (s : State) (p : Nat) (x : StepSt) : (setStep s p x).freeCtr = s.freeCtr := rfl
@[simp] theorem setStep_ident (s : State) (p : Nat) (x : StepSt) : (setStep s p x).ident = s.ident := rfl
@[simp] theorem setStep_store (s : State) (p : Nat) (x : StepSt) : (setStep s p x).store = s.store := rfl
@[simp] theorem setStep_ctrs (s : State) (p : Nat) (x : StepSt) : (setStep s p x).ctrs = s.ctrs := rfl
@[simp] theorem setStep_hw (s : State) (p : Nat) (x : StepSt) : (setStep s p x).hw = s.hw := rfl
@[simp] theorem setStep_boot (s : State) (p : Nat) (x : StepSt) : (setStep s p x).boot = s.boot := rfl
@[simp] theorem setStep_jal (s : State) (p : Nat) (x : StepSt) : (setStep s p x).jal = s.jal := rfl
@[simp] theorem setStep_tm (s : State) (p : Nat) (x : StepSt) : (setStep s p x).tm = s.tm := rfl
@[simp] theorem setStep_net (s : State) (p : Nat) (x : StepSt) : (setStep s p x).net = s.net := rfl
@[simp] theorem setStep_plan (s : State) (p : Nat) (x : StepSt) : (setStep s p x).plan = s.plan := rfl
@[simp] theorem setStep_cond (s : State) (p : Nat) (x : StepSt) : (setStep s p x).cond = s.cond := rfl
@[simp] theorem setStep_pub (s : State) (p : Nat) (x : StepSt) : (setStep s p x).pub = s.pub := rfl
@[simp] theorem setStep_parts (s : State) (p : Nat) (x : StepSt) : (setStep s p x).parts = s.parts := rfl
@[simp] theorem setStep_tt (s : State) (p : Nat) (x : StepSt) : (setStep s p x).tt = s.tt := rfl
@[simp] theorem setStep_ph (s : State) (p : Nat) (x : StepSt) : (setStep s p x).ph = s.ph := rfl
@[simp] theorem setStep_lg (s : State) (p : Nat) (x : StepSt) : (setStep s p x).lg = s.lg := rfl
@[simp] theorem setStep_pair (s : State) (p : Nat) (x : StepSt) : (setStep s p x).pair = { s.pair with steps := tabPut s.pair.steps p x } := rfl
@[simp] theorem setStep_pf (s : State) (p : Nat) (x : StepSt) : (setStep s p x).pf = s.pf := rfl
@[simp] theorem setStep_vault (s : State) (p : Nat) (x : StepSt) : (setStep s p x).vault = s.vault := rfl
@[simp] theorem setStep_rtc (s : State) (p : Nat) (x : StepSt) : (setStep s p x).rtc = s.rtc := rfl
@[simp] theorem setStep_logb (s : State) (p : Nat) (x : StepSt) : (setStep s p x).logb = s.logb := rfl
@[simp] theorem setStep_cap (s : State) (p : Nat) (x : StepSt) : (setStep s p x).cap = s.cap := rfl
@[simp] theorem setStep_mem (s : State) (p : Nat) (x : StepSt) : (setStep s p x).mem = s.mem := rfl
@[simp] theorem setStep_dirty (s : State) (p : Nat) (x : StepSt) : (setStep s p x).dirty = s.dirty := rfl

@[simp] theorem setLane_pending (s : State) (n : Nat) (x : Lane) : (setLane s n x).pending = s.pending := rfl
@[simp] theorem setLane_now (s : State) (n : Nat) (x : Lane) : (setLane s n x).now = s.now := rfl
@[simp] theorem setLane_freeCtr (s : State) (n : Nat) (x : Lane) : (setLane s n x).freeCtr = s.freeCtr := rfl
@[simp] theorem setLane_ident (s : State) (n : Nat) (x : Lane) : (setLane s n x).ident = s.ident := rfl
@[simp] theorem setLane_store (s : State) (n : Nat) (x : Lane) : (setLane s n x).store = s.store := rfl
@[simp] theorem setLane_ctrs (s : State) (n : Nat) (x : Lane) : (setLane s n x).ctrs = s.ctrs := rfl
@[simp] theorem setLane_hw (s : State) (n : Nat) (x : Lane) : (setLane s n x).hw = s.hw := rfl
@[simp] theorem setLane_boot (s : State) (n : Nat) (x : Lane) : (setLane s n x).boot = s.boot := rfl
@[simp] theorem setLane_jal (s : State) (n : Nat) (x : Lane) : (setLane s n x).jal = s.jal := rfl
@[simp] theorem setLane_tm (s : State) (n : Nat) (x : Lane) : (setLane s n x).tm = s.tm := rfl
@[simp] theorem setLane_net (s : State) (n : Nat) (x : Lane) : (setLane s n x).net = s.net := rfl
@[simp] theorem setLane_plan (s : State) (n : Nat) (x : Lane) : (setLane s n x).plan = s.plan := rfl
@[simp] theorem setLane_cond (s : State) (n : Nat) (x : Lane) : (setLane s n x).cond = s.cond := rfl
@[simp] theorem setLane_pub (s : State) (n : Nat) (x : Lane) : (setLane s n x).pub = s.pub := rfl
@[simp] theorem setLane_parts (s : State) (n : Nat) (x : Lane) : (setLane s n x).parts = s.parts := rfl
@[simp] theorem setLane_tt (s : State) (n : Nat) (x : Lane) : (setLane s n x).tt = s.tt := rfl
@[simp] theorem setLane_ph (s : State) (n : Nat) (x : Lane) : (setLane s n x).ph = s.ph := rfl
@[simp] theorem setLane_lg (s : State) (n : Nat) (x : Lane) : (setLane s n x).lg = s.lg := rfl
@[simp] theorem setLane_pair (s : State) (n : Nat) (x : Lane) : (setLane s n x).pair = { s.pair with lanes := tabPut s.pair.lanes n x } := rfl
@[simp] theorem setLane_pf (s : State) (n : Nat) (x : Lane) : (setLane s n x).pf = s.pf := rfl
@[simp] theorem setLane_vault (s : State) (n : Nat) (x : Lane) : (setLane s n x).vault = s.vault := rfl
@[simp] theorem setLane_rtc (s : State) (n : Nat) (x : Lane) : (setLane s n x).rtc = s.rtc := rfl
@[simp] theorem setLane_logb (s : State) (n : Nat) (x : Lane) : (setLane s n x).logb = s.logb := rfl
@[simp] theorem setLane_cap (s : State) (n : Nat) (x : Lane) : (setLane s n x).cap = s.cap := rfl
@[simp] theorem setLane_mem (s : State) (n : Nat) (x : Lane) : (setLane s n x).mem = s.mem := rfl
@[simp] theorem setLane_dirty (s : State) (n : Nat) (x : Lane) : (setLane s n x).dirty = s.dirty := rfl

@[simp] theorem setBol_pending (s : State) (x : Bolpel) : (setBol s x).pending = s.pending := rfl
@[simp] theorem setBol_now (s : State) (x : Bolpel) : (setBol s x).now = s.now := rfl
@[simp] theorem setBol_freeCtr (s : State) (x : Bolpel) : (setBol s x).freeCtr = s.freeCtr := rfl
@[simp] theorem setBol_ident (s : State) (x : Bolpel) : (setBol s x).ident = s.ident := rfl
@[simp] theorem setBol_store (s : State) (x : Bolpel) : (setBol s x).store = s.store := rfl
@[simp] theorem setBol_ctrs (s : State) (x : Bolpel) : (setBol s x).ctrs = s.ctrs := rfl
@[simp] theorem setBol_hw (s : State) (x : Bolpel) : (setBol s x).hw = s.hw := rfl
@[simp] theorem setBol_boot (s : State) (x : Bolpel) : (setBol s x).boot = s.boot := rfl
@[simp] theorem setBol_jal (s : State) (x : Bolpel) : (setBol s x).jal = s.jal := rfl
@[simp] theorem setBol_tm (s : State) (x : Bolpel) : (setBol s x).tm = s.tm := rfl
@[simp] theorem setBol_net (s : State) (x : Bolpel) : (setBol s x).net = s.net := rfl
@[simp] theorem setBol_plan (s : State) (x : Bolpel) : (setBol s x).plan = s.plan := rfl
@[simp] theorem setBol_cond (s : State) (x : Bolpel) : (setBol s x).cond = s.cond := rfl
@[simp] theorem setBol_pub (s : State) (x : Bolpel) : (setBol s x).pub = s.pub := rfl
@[simp] theorem setBol_parts (s : State) (x : Bolpel) : (setBol s x).parts = s.parts := rfl
@[simp] theorem setBol_tt (s : State) (x : Bolpel) : (setBol s x).tt = s.tt := rfl
@[simp] theorem setBol_ph (s : State) (x : Bolpel) : (setBol s x).ph = s.ph := rfl
@[simp] theorem setBol_lg (s : State) (x : Bolpel) : (setBol s x).lg = s.lg := rfl
@[simp] theorem setBol_pair (s : State) (x : Bolpel) : (setBol s x).pair = { s.pair with bol := x } := rfl
@[simp] theorem setBol_pf (s : State) (x : Bolpel) : (setBol s x).pf = s.pf := rfl
@[simp] theorem setBol_vault (s : State) (x : Bolpel) : (setBol s x).vault = s.vault := rfl
@[simp] theorem setBol_rtc (s : State) (x : Bolpel) : (setBol s x).rtc = s.rtc := rfl
@[simp] theorem setBol_logb (s : State) (x : Bolpel) : (setBol s x).logb = s.logb := rfl
@[simp] theorem setBol_cap (s : State) (x : Bolpel) : (setBol s x).cap = s.cap := rfl
@[simp] theorem setBol_mem (s : State) (x : Bolpel) : (setBol s x).mem = s.mem := rfl
@[simp] theorem setBol_dirty (s : State) (x : Bolpel) : (setBol s x).dirty = s.dirty := rfl

@[simp] theorem setPf_pending (s : State) (p : Nat) (x : PfPart) : (setPf s p x).pending = s.pending := rfl
@[simp] theorem setPf_now (s : State) (p : Nat) (x : PfPart) : (setPf s p x).now = s.now := rfl
@[simp] theorem setPf_freeCtr (s : State) (p : Nat) (x : PfPart) : (setPf s p x).freeCtr = s.freeCtr := rfl
@[simp] theorem setPf_ident (s : State) (p : Nat) (x : PfPart) : (setPf s p x).ident = s.ident := rfl
@[simp] theorem setPf_store (s : State) (p : Nat) (x : PfPart) : (setPf s p x).store = s.store := rfl
@[simp] theorem setPf_ctrs (s : State) (p : Nat) (x : PfPart) : (setPf s p x).ctrs = s.ctrs := rfl
@[simp] theorem setPf_hw (s : State) (p : Nat) (x : PfPart) : (setPf s p x).hw = s.hw := rfl
@[simp] theorem setPf_boot (s : State) (p : Nat) (x : PfPart) : (setPf s p x).boot = s.boot := rfl
@[simp] theorem setPf_jal (s : State) (p : Nat) (x : PfPart) : (setPf s p x).jal = s.jal := rfl
@[simp] theorem setPf_tm (s : State) (p : Nat) (x : PfPart) : (setPf s p x).tm = s.tm := rfl
@[simp] theorem setPf_net (s : State) (p : Nat) (x : PfPart) : (setPf s p x).net = s.net := rfl
@[simp] theorem setPf_plan (s : State) (p : Nat) (x : PfPart) : (setPf s p x).plan = s.plan := rfl
@[simp] theorem setPf_cond (s : State) (p : Nat) (x : PfPart) : (setPf s p x).cond = s.cond := rfl
@[simp] theorem setPf_pub (s : State) (p : Nat) (x : PfPart) : (setPf s p x).pub = s.pub := rfl
@[simp] theorem setPf_parts (s : State) (p : Nat) (x : PfPart) : (setPf s p x).parts = s.parts := rfl
@[simp] theorem setPf_tt (s : State) (p : Nat) (x : PfPart) : (setPf s p x).tt = s.tt := rfl
@[simp] theorem setPf_ph (s : State) (p : Nat) (x : PfPart) : (setPf s p x).ph = s.ph := rfl
@[simp] theorem setPf_lg (s : State) (p : Nat) (x : PfPart) : (setPf s p x).lg = s.lg := rfl
@[simp] theorem setPf_pair (s : State) (p : Nat) (x : PfPart) : (setPf s p x).pair = s.pair := rfl
@[simp] theorem setPf_pf (s : State) (p : Nat) (x : PfPart) : (setPf s p x).pf = { s.pf with parts := tabPut s.pf.parts p x } := rfl
@[simp] theorem setPf_vault (s : State) (p : Nat) (x : PfPart) : (setPf s p x).vault = s.vault := rfl
@[simp] theorem setPf_rtc (s : State) (p : Nat) (x : PfPart) : (setPf s p x).rtc = s.rtc := rfl
@[simp] theorem setPf_logb (s : State) (p : Nat) (x : PfPart) : (setPf s p x).logb = s.logb := rfl
@[simp] theorem setPf_cap (s : State) (p : Nat) (x : PfPart) : (setPf s p x).cap = s.cap := rfl
@[simp] theorem setPf_mem (s : State) (p : Nat) (x : PfPart) : (setPf s p x).mem = s.mem := rfl
@[simp] theorem setPf_dirty (s : State) (p : Nat) (x : PfPart) : (setPf s p x).dirty = s.dirty := rfl

@[simp] theorem setTKey_pending (s : State) (i : Nat) (x : TKey) : (setTKey s i x).pending = s.pending := rfl
@[simp] theorem setTKey_now (s : State) (i : Nat) (x : TKey) : (setTKey s i x).now = s.now := rfl
@[simp] theorem setTKey_freeCtr (s : State) (i : Nat) (x : TKey) : (setTKey s i x).freeCtr = s.freeCtr := rfl
@[simp] theorem setTKey_ident (s : State) (i : Nat) (x : TKey) : (setTKey s i x).ident = s.ident := rfl
@[simp] theorem setTKey_store (s : State) (i : Nat) (x : TKey) : (setTKey s i x).store = s.store := rfl
@[simp] theorem setTKey_ctrs (s : State) (i : Nat) (x : TKey) : (setTKey s i x).ctrs = s.ctrs := rfl
@[simp] theorem setTKey_hw (s : State) (i : Nat) (x : TKey) : (setTKey s i x).hw = s.hw := rfl
@[simp] theorem setTKey_boot (s : State) (i : Nat) (x : TKey) : (setTKey s i x).boot = s.boot := rfl
@[simp] theorem setTKey_jal (s : State) (i : Nat) (x : TKey) : (setTKey s i x).jal = s.jal := rfl
@[simp] theorem setTKey_tm (s : State) (i : Nat) (x : TKey) : (setTKey s i x).tm = s.tm := rfl
@[simp] theorem setTKey_net (s : State) (i : Nat) (x : TKey) : (setTKey s i x).net = s.net := rfl
@[simp] theorem setTKey_plan (s : State) (i : Nat) (x : TKey) : (setTKey s i x).plan = s.plan := rfl
@[simp] theorem setTKey_cond (s : State) (i : Nat) (x : TKey) : (setTKey s i x).cond = s.cond := rfl
@[simp] theorem setTKey_pub (s : State) (i : Nat) (x : TKey) : (setTKey s i x).pub = s.pub := rfl
@[simp] theorem setTKey_parts (s : State) (i : Nat) (x : TKey) : (setTKey s i x).parts = s.parts := rfl
@[simp] theorem setTKey_tt (s : State) (i : Nat) (x : TKey) : (setTKey s i x).tt = s.tt := rfl
@[simp] theorem setTKey_ph (s : State) (i : Nat) (x : TKey) : (setTKey s i x).ph = s.ph := rfl
@[simp] theorem setTKey_lg (s : State) (i : Nat) (x : TKey) : (setTKey s i x).lg = s.lg := rfl
@[simp] theorem setTKey_pair (s : State) (i : Nat) (x : TKey) : (setTKey s i x).pair = s.pair := rfl
@[simp] theorem setTKey_pf (s : State) (i : Nat) (x : TKey) : (setTKey s i x).pf = s.pf := rfl
@[simp] theorem setTKey_vault (s : State) (i : Nat) (x : TKey) : (setTKey s i x).vault = { s.vault with tkeys := tabPut s.vault.tkeys i x } := rfl
@[simp] theorem setTKey_rtc (s : State) (i : Nat) (x : TKey) : (setTKey s i x).rtc = s.rtc := rfl
@[simp] theorem setTKey_logb (s : State) (i : Nat) (x : TKey) : (setTKey s i x).logb = s.logb := rfl
@[simp] theorem setTKey_cap (s : State) (i : Nat) (x : TKey) : (setTKey s i x).cap = s.cap := rfl
@[simp] theorem setTKey_mem (s : State) (i : Nat) (x : TKey) : (setTKey s i x).mem = s.mem := rfl
@[simp] theorem setTKey_dirty (s : State) (i : Nat) (x : TKey) : (setTKey s i x).dirty = s.dirty := rfl

@[simp] theorem setDump_pending (s : State) (k : Nat) (x : Dump) : (setDump s k x).pending = s.pending := rfl
@[simp] theorem setDump_now (s : State) (k : Nat) (x : Dump) : (setDump s k x).now = s.now := rfl
@[simp] theorem setDump_freeCtr (s : State) (k : Nat) (x : Dump) : (setDump s k x).freeCtr = s.freeCtr := rfl
@[simp] theorem setDump_ident (s : State) (k : Nat) (x : Dump) : (setDump s k x).ident = s.ident := rfl
@[simp] theorem setDump_store (s : State) (k : Nat) (x : Dump) : (setDump s k x).store = s.store := rfl
@[simp] theorem setDump_ctrs (s : State) (k : Nat) (x : Dump) : (setDump s k x).ctrs = s.ctrs := rfl
@[simp] theorem setDump_hw (s : State) (k : Nat) (x : Dump) : (setDump s k x).hw = s.hw := rfl
@[simp] theorem setDump_boot (s : State) (k : Nat) (x : Dump) : (setDump s k x).boot = { s.boot with dumps := tabPut s.boot.dumps k x } := rfl
@[simp] theorem setDump_jal (s : State) (k : Nat) (x : Dump) : (setDump s k x).jal = s.jal := rfl
@[simp] theorem setDump_tm (s : State) (k : Nat) (x : Dump) : (setDump s k x).tm = s.tm := rfl
@[simp] theorem setDump_net (s : State) (k : Nat) (x : Dump) : (setDump s k x).net = s.net := rfl
@[simp] theorem setDump_plan (s : State) (k : Nat) (x : Dump) : (setDump s k x).plan = s.plan := rfl
@[simp] theorem setDump_cond (s : State) (k : Nat) (x : Dump) : (setDump s k x).cond = s.cond := rfl
@[simp] theorem setDump_pub (s : State) (k : Nat) (x : Dump) : (setDump s k x).pub = s.pub := rfl
@[simp] theorem setDump_parts (s : State) (k : Nat) (x : Dump) : (setDump s k x).parts = s.parts := rfl
@[simp] theorem setDump_tt (s : State) (k : Nat) (x : Dump) : (setDump s k x).tt = s.tt := rfl
@[simp] theorem setDump_ph (s : State) (k : Nat) (x : Dump) : (setDump s k x).ph = s.ph := rfl
@[simp] theorem setDump_lg (s : State) (k : Nat) (x : Dump) : (setDump s k x).lg = s.lg := rfl
@[simp] theorem setDump_pair (s : State) (k : Nat) (x : Dump) : (setDump s k x).pair = s.pair := rfl
@[simp] theorem setDump_pf (s : State) (k : Nat) (x : Dump) : (setDump s k x).pf = s.pf := rfl
@[simp] theorem setDump_vault (s : State) (k : Nat) (x : Dump) : (setDump s k x).vault = s.vault := rfl
@[simp] theorem setDump_rtc (s : State) (k : Nat) (x : Dump) : (setDump s k x).rtc = s.rtc := rfl
@[simp] theorem setDump_logb (s : State) (k : Nat) (x : Dump) : (setDump s k x).logb = s.logb := rfl
@[simp] theorem setDump_cap (s : State) (k : Nat) (x : Dump) : (setDump s k x).cap = s.cap := rfl
@[simp] theorem setDump_mem (s : State) (k : Nat) (x : Dump) : (setDump s k x).mem = s.mem := rfl
@[simp] theorem setDump_dirty (s : State) (k : Nat) (x : Dump) : (setDump s k x).dirty = s.dirty := rfl

@[simp] theorem setClaim_pending (s : State) (d : Nat) (c : Claim) : (setClaim s d c).pending = s.pending := rfl
@[simp] theorem setClaim_now (s : State) (d : Nat) (c : Claim) : (setClaim s d c).now = s.now := rfl
@[simp] theorem setClaim_freeCtr (s : State) (d : Nat) (c : Claim) : (setClaim s d c).freeCtr = s.freeCtr := rfl
@[simp] theorem setClaim_ident (s : State) (d : Nat) (c : Claim) : (setClaim s d c).ident = s.ident := rfl
@[simp] theorem setClaim_store (s : State) (d : Nat) (c : Claim) : (setClaim s d c).store = s.store := rfl
@[simp] theorem setClaim_ctrs (s : State) (d : Nat) (c : Claim) : (setClaim s d c).ctrs = s.ctrs := rfl
@[simp] theorem setClaim_hw (s : State) (d : Nat) (c : Claim) : (setClaim s d c).hw = s.hw := rfl
@[simp] theorem setClaim_boot (s : State) (d : Nat) (c : Claim) : (setClaim s d c).boot = s.boot := rfl
@[simp] theorem setClaim_jal (s : State) (d : Nat) (c : Claim) : (setClaim s d c).jal = s.jal := rfl
@[simp] theorem setClaim_tm (s : State) (d : Nat) (c : Claim) : (setClaim s d c).tm = s.tm := rfl
@[simp] theorem setClaim_net (s : State) (d : Nat) (c : Claim) : (setClaim s d c).net = s.net := rfl
@[simp] theorem setClaim_plan (s : State) (d : Nat) (c : Claim) : (setClaim s d c).plan = s.plan := rfl
@[simp] theorem setClaim_cond (s : State) (d : Nat) (c : Claim) : (setClaim s d c).cond = s.cond := rfl
@[simp] theorem setClaim_pub (s : State) (d : Nat) (c : Claim) : (setClaim s d c).pub = s.pub := rfl
@[simp] theorem setClaim_parts (s : State) (d : Nat) (c : Claim) : (setClaim s d c).parts = s.parts := rfl
@[simp] theorem setClaim_tt (s : State) (d : Nat) (c : Claim) : (setClaim s d c).tt = s.tt := rfl
@[simp] theorem setClaim_ph (s : State) (d : Nat) (c : Claim) : (setClaim s d c).ph = s.ph := rfl
@[simp] theorem setClaim_lg (s : State) (d : Nat) (c : Claim) : (setClaim s d c).lg = s.lg := rfl
@[simp] theorem setClaim_pair (s : State) (d : Nat) (c : Claim) : (setClaim s d c).pair = { s.pair with claims := tabPut s.pair.claims d c } := rfl
@[simp] theorem setClaim_pf (s : State) (d : Nat) (c : Claim) : (setClaim s d c).pf = s.pf := rfl
@[simp] theorem setClaim_vault (s : State) (d : Nat) (c : Claim) : (setClaim s d c).vault = s.vault := rfl
@[simp] theorem setClaim_rtc (s : State) (d : Nat) (c : Claim) : (setClaim s d c).rtc = s.rtc := rfl
@[simp] theorem setClaim_logb (s : State) (d : Nat) (c : Claim) : (setClaim s d c).logb = s.logb := rfl
@[simp] theorem setClaim_cap (s : State) (d : Nat) (c : Claim) : (setClaim s d c).cap = s.cap := rfl
@[simp] theorem setClaim_mem (s : State) (d : Nat) (c : Claim) : (setClaim s d c).mem = s.mem := rfl
@[simp] theorem setClaim_dirty (s : State) (d : Nat) (c : Claim) : (setClaim s d c).dirty = s.dirty := rfl

@[simp] theorem setSlot_pending (s : State) (k : Nat) (x : KeySlot) : (setSlot s k x).pending = s.pending := rfl
@[simp] theorem setSlot_now (s : State) (k : Nat) (x : KeySlot) : (setSlot s k x).now = s.now := rfl
@[simp] theorem setSlot_freeCtr (s : State) (k : Nat) (x : KeySlot) : (setSlot s k x).freeCtr = s.freeCtr := rfl
@[simp] theorem setSlot_ident (s : State) (k : Nat) (x : KeySlot) : (setSlot s k x).ident = s.ident := rfl
@[simp] theorem setSlot_store (s : State) (k : Nat) (x : KeySlot) : (setSlot s k x).store = s.store := rfl
@[simp] theorem setSlot_ctrs (s : State) (k : Nat) (x : KeySlot) : (setSlot s k x).ctrs = s.ctrs := rfl
@[simp] theorem setSlot_hw (s : State) (k : Nat) (x : KeySlot) : (setSlot s k x).hw = s.hw := rfl
@[simp] theorem setSlot_boot (s : State) (k : Nat) (x : KeySlot) : (setSlot s k x).boot = s.boot := rfl
@[simp] theorem setSlot_jal (s : State) (k : Nat) (x : KeySlot) : (setSlot s k x).jal = s.jal := rfl
@[simp] theorem setSlot_tm (s : State) (k : Nat) (x : KeySlot) : (setSlot s k x).tm = s.tm := rfl
@[simp] theorem setSlot_net (s : State) (k : Nat) (x : KeySlot) : (setSlot s k x).net = s.net := rfl
@[simp] theorem setSlot_plan (s : State) (k : Nat) (x : KeySlot) : (setSlot s k x).plan = s.plan := rfl
@[simp] theorem setSlot_cond (s : State) (k : Nat) (x : KeySlot) : (setSlot s k x).cond = s.cond := rfl
@[simp] theorem setSlot_pub (s : State) (k : Nat) (x : KeySlot) : (setSlot s k x).pub = s.pub := rfl
@[simp] theorem setSlot_parts (s : State) (k : Nat) (x : KeySlot) : (setSlot s k x).parts = s.parts := rfl
@[simp] theorem setSlot_tt (s : State) (k : Nat) (x : KeySlot) : (setSlot s k x).tt = s.tt := rfl
@[simp] theorem setSlot_ph (s : State) (k : Nat) (x : KeySlot) : (setSlot s k x).ph = s.ph := rfl
@[simp] theorem setSlot_lg (s : State) (k : Nat) (x : KeySlot) : (setSlot s k x).lg = s.lg := rfl
@[simp] theorem setSlot_pair (s : State) (k : Nat) (x : KeySlot) : (setSlot s k x).pair = s.pair := rfl
@[simp] theorem setSlot_pf (s : State) (k : Nat) (x : KeySlot) : (setSlot s k x).pf = s.pf := rfl
@[simp] theorem setSlot_vault (s : State) (k : Nat) (x : KeySlot) : (setSlot s k x).vault = { s.vault with slots := tabPut s.vault.slots k x } := rfl
@[simp] theorem setSlot_rtc (s : State) (k : Nat) (x : KeySlot) : (setSlot s k x).rtc = s.rtc := rfl
@[simp] theorem setSlot_logb (s : State) (k : Nat) (x : KeySlot) : (setSlot s k x).logb = s.logb := rfl
@[simp] theorem setSlot_cap (s : State) (k : Nat) (x : KeySlot) : (setSlot s k x).cap = s.cap := rfl
@[simp] theorem setSlot_mem (s : State) (k : Nat) (x : KeySlot) : (setSlot s k x).mem = s.mem := rfl
@[simp] theorem setSlot_dirty (s : State) (k : Nat) (x : KeySlot) : (setSlot s k x).dirty = s.dirty := rfl

@[simp] theorem setRtc_pending (s : State) (r : Rtc) : (setRtc s r).pending = s.pending := rfl
@[simp] theorem setRtc_now (s : State) (r : Rtc) : (setRtc s r).now = s.now := rfl
@[simp] theorem setRtc_freeCtr (s : State) (r : Rtc) : (setRtc s r).freeCtr = s.freeCtr := rfl
@[simp] theorem setRtc_ident (s : State) (r : Rtc) : (setRtc s r).ident = s.ident := rfl
@[simp] theorem setRtc_store (s : State) (r : Rtc) : (setRtc s r).store = s.store := rfl
@[simp] theorem setRtc_ctrs (s : State) (r : Rtc) : (setRtc s r).ctrs = s.ctrs := rfl
@[simp] theorem setRtc_hw (s : State) (r : Rtc) : (setRtc s r).hw = s.hw := rfl
@[simp] theorem setRtc_boot (s : State) (r : Rtc) : (setRtc s r).boot = s.boot := rfl
@[simp] theorem setRtc_jal (s : State) (r : Rtc) : (setRtc s r).jal = s.jal := rfl
@[simp] theorem setRtc_tm (s : State) (r : Rtc) : (setRtc s r).tm = s.tm := rfl
@[simp] theorem setRtc_net (s : State) (r : Rtc) : (setRtc s r).net = s.net := rfl
@[simp] theorem setRtc_plan (s : State) (r : Rtc) : (setRtc s r).plan = s.plan := rfl
@[simp] theorem setRtc_cond (s : State) (r : Rtc) : (setRtc s r).cond = s.cond := rfl
@[simp] theorem setRtc_pub (s : State) (r : Rtc) : (setRtc s r).pub = s.pub := rfl
@[simp] theorem setRtc_parts (s : State) (r : Rtc) : (setRtc s r).parts = s.parts := rfl
@[simp] theorem setRtc_tt (s : State) (r : Rtc) : (setRtc s r).tt = s.tt := rfl
@[simp] theorem setRtc_ph (s : State) (r : Rtc) : (setRtc s r).ph = s.ph := rfl
@[simp] theorem setRtc_lg (s : State) (r : Rtc) : (setRtc s r).lg = s.lg := rfl
@[simp] theorem setRtc_pair (s : State) (r : Rtc) : (setRtc s r).pair = s.pair := rfl
@[simp] theorem setRtc_pf (s : State) (r : Rtc) : (setRtc s r).pf = s.pf := rfl
@[simp] theorem setRtc_vault (s : State) (r : Rtc) : (setRtc s r).vault = s.vault := rfl
@[simp] theorem setRtc_rtc (s : State) (r : Rtc) : (setRtc s r).rtc = r := rfl
@[simp] theorem setRtc_logb (s : State) (r : Rtc) : (setRtc s r).logb = s.logb := rfl
@[simp] theorem setRtc_cap (s : State) (r : Rtc) : (setRtc s r).cap = s.cap := rfl
@[simp] theorem setRtc_mem (s : State) (r : Rtc) : (setRtc s r).mem = s.mem := rfl
@[simp] theorem setRtc_dirty (s : State) (r : Rtc) : (setRtc s r).dirty = s.dirty := rfl

@[simp] theorem flushLost_pending (s : State) (n : Nat) : (flushLost s n).pending = s.pending := by
  unfold flushLost
  split
  · rfl
  · split <;> rfl
@[simp] theorem flushLost_now (s : State) (n : Nat) : (flushLost s n).now = s.now := by
  unfold flushLost
  split
  · rfl
  · split <;> rfl
@[simp] theorem flushLost_freeCtr (s : State) (n : Nat) : (flushLost s n).freeCtr = s.freeCtr := by
  unfold flushLost
  split
  · rfl
  · split <;> rfl
@[simp] theorem flushLost_ident (s : State) (n : Nat) : (flushLost s n).ident = s.ident := by
  unfold flushLost
  split
  · rfl
  · split <;> rfl
@[simp] theorem flushLost_store (s : State) (n : Nat) : (flushLost s n).store = s.store := by
  unfold flushLost
  split
  · rfl
  · split <;> rfl
@[simp] theorem flushLost_ctrs (s : State) (n : Nat) : (flushLost s n).ctrs = s.ctrs := by
  unfold flushLost
  split
  · rfl
  · split <;> rfl
@[simp] theorem flushLost_hw (s : State) (n : Nat) : (flushLost s n).hw = s.hw := by
  unfold flushLost
  split
  · rfl
  · split <;> rfl
@[simp] theorem flushLost_boot (s : State) (n : Nat) : (flushLost s n).boot = s.boot := by
  unfold flushLost
  split
  · rfl
  · split <;> rfl
@[simp] theorem flushLost_tm (s : State) (n : Nat) : (flushLost s n).tm = s.tm := by
  unfold flushLost
  split
  · rfl
  · split <;> rfl
@[simp] theorem flushLost_net (s : State) (n : Nat) : (flushLost s n).net = s.net := by
  unfold flushLost
  split
  · rfl
  · split <;> rfl
@[simp] theorem flushLost_plan (s : State) (n : Nat) : (flushLost s n).plan = s.plan := by
  unfold flushLost
  split
  · rfl
  · split <;> rfl
@[simp] theorem flushLost_cond (s : State) (n : Nat) : (flushLost s n).cond = s.cond := by
  unfold flushLost
  split
  · rfl
  · split <;> rfl
@[simp] theorem flushLost_pub (s : State) (n : Nat) : (flushLost s n).pub = s.pub := by
  unfold flushLost
  split
  · rfl
  · split <;> rfl
@[simp] theorem flushLost_parts (s : State) (n : Nat) : (flushLost s n).parts = s.parts := by
  unfold flushLost
  split
  · rfl
  · split <;> rfl
@[simp] theorem flushLost_tt (s : State) (n : Nat) : (flushLost s n).tt = s.tt := by
  unfold flushLost
  split
  · rfl
  · split <;> rfl
@[simp] theorem flushLost_ph (s : State) (n : Nat) : (flushLost s n).ph = s.ph := by
  unfold flushLost
  split
  · rfl
  · split <;> rfl
@[simp] theorem flushLost_lg (s : State) (n : Nat) : (flushLost s n).lg = s.lg := by
  unfold flushLost
  split
  · rfl
  · split <;> rfl
@[simp] theorem flushLost_pair (s : State) (n : Nat) : (flushLost s n).pair = s.pair := by
  unfold flushLost
  split
  · rfl
  · split <;> rfl
@[simp] theorem flushLost_pf (s : State) (n : Nat) : (flushLost s n).pf = s.pf := by
  unfold flushLost
  split
  · rfl
  · split <;> rfl
@[simp] theorem flushLost_vault (s : State) (n : Nat) : (flushLost s n).vault = s.vault := by
  unfold flushLost
  split
  · rfl
  · split <;> rfl
@[simp] theorem flushLost_rtc (s : State) (n : Nat) : (flushLost s n).rtc = s.rtc := by
  unfold flushLost
  split
  · rfl
  · split <;> rfl
@[simp] theorem flushLost_logb (s : State) (n : Nat) : (flushLost s n).logb = s.logb := by
  unfold flushLost
  split
  · rfl
  · split <;> rfl
@[simp] theorem flushLost_cap (s : State) (n : Nat) : (flushLost s n).cap = s.cap := by
  unfold flushLost
  split
  · rfl
  · split <;> rfl
@[simp] theorem flushLost_mem (s : State) (n : Nat) : (flushLost s n).mem = s.mem := by
  unfold flushLost
  split
  · rfl
  · split <;> rfl
@[simp] theorem flushLost_dirty (s : State) (n : Nat) : (flushLost s n).dirty = s.dirty := by
  unfold flushLost
  split
  · rfl
  · split <;> rfl

@[simp] theorem notify_pending (s : State) (n : Nat) (m : Notif) : (notify s n m).pending = s.pending := by
  unfold notify
  dsimp only
  split
  · exact flushLost_pending s n
  · split <;> exact flushLost_pending s n
@[simp] theorem notify_now (s : State) (n : Nat) (m : Notif) : (notify s n m).now = s.now := by
  unfold notify
  dsimp only
  split
  · exact flushLost_now s n
  · split <;> exact flushLost_now s n
@[simp] theorem notify_freeCtr (s : State) (n : Nat) (m : Notif) : (notify s n m).freeCtr = s.freeCtr := by
  unfold notify
  dsimp only
  split
  · exact flushLost_freeCtr s n
  · split <;> exact flushLost_freeCtr s n
@[simp] theorem notify_ident (s : State) (n : Nat) (m : Notif) : (notify s n m).ident = s.ident := by
  unfold notify
  dsimp only
  split
  · exact flushLost_ident s n
  · split <;> exact flushLost_ident s n
@[simp] theorem notify_store (s : State) (n : Nat) (m : Notif) : (notify s n m).store = s.store := by
  unfold notify
  dsimp only
  split
  · exact flushLost_store s n
  · split <;> exact flushLost_store s n
@[simp] theorem notify_ctrs (s : State) (n : Nat) (m : Notif) : (notify s n m).ctrs = s.ctrs := by
  unfold notify
  dsimp only
  split
  · exact flushLost_ctrs s n
  · split <;> exact flushLost_ctrs s n
@[simp] theorem notify_hw (s : State) (n : Nat) (m : Notif) : (notify s n m).hw = s.hw := by
  unfold notify
  dsimp only
  split
  · exact flushLost_hw s n
  · split <;> exact flushLost_hw s n
@[simp] theorem notify_boot (s : State) (n : Nat) (m : Notif) : (notify s n m).boot = s.boot := by
  unfold notify
  dsimp only
  split
  · exact flushLost_boot s n
  · split <;> exact flushLost_boot s n
@[simp] theorem notify_tm (s : State) (n : Nat) (m : Notif) : (notify s n m).tm = s.tm := by
  unfold notify
  dsimp only
  split
  · exact flushLost_tm s n
  · split <;> exact flushLost_tm s n
@[simp] theorem notify_net (s : State) (n : Nat) (m : Notif) : (notify s n m).net = s.net := by
  unfold notify
  dsimp only
  split
  · exact flushLost_net s n
  · split <;> exact flushLost_net s n
@[simp] theorem notify_plan (s : State) (n : Nat) (m : Notif) : (notify s n m).plan = s.plan := by
  unfold notify
  dsimp only
  split
  · exact flushLost_plan s n
  · split <;> exact flushLost_plan s n
@[simp] theorem notify_cond (s : State) (n : Nat) (m : Notif) : (notify s n m).cond = s.cond := by
  unfold notify
  dsimp only
  split
  · exact flushLost_cond s n
  · split <;> exact flushLost_cond s n
@[simp] theorem notify_pub (s : State) (n : Nat) (m : Notif) : (notify s n m).pub = s.pub := by
  unfold notify
  dsimp only
  split
  · exact flushLost_pub s n
  · split <;> exact flushLost_pub s n
@[simp] theorem notify_parts (s : State) (n : Nat) (m : Notif) : (notify s n m).parts = s.parts := by
  unfold notify
  dsimp only
  split
  · exact flushLost_parts s n
  · split <;> exact flushLost_parts s n
@[simp] theorem notify_tt (s : State) (n : Nat) (m : Notif) : (notify s n m).tt = s.tt := by
  unfold notify
  dsimp only
  split
  · exact flushLost_tt s n
  · split <;> exact flushLost_tt s n
@[simp] theorem notify_ph (s : State) (n : Nat) (m : Notif) : (notify s n m).ph = s.ph := by
  unfold notify
  dsimp only
  split
  · exact flushLost_ph s n
  · split <;> exact flushLost_ph s n
@[simp] theorem notify_lg (s : State) (n : Nat) (m : Notif) : (notify s n m).lg = s.lg := by
  unfold notify
  dsimp only
  split
  · exact flushLost_lg s n
  · split <;> exact flushLost_lg s n
@[simp] theorem notify_pair (s : State) (n : Nat) (m : Notif) : (notify s n m).pair = s.pair := by
  unfold notify
  dsimp only
  split
  · exact flushLost_pair s n
  · split <;> exact flushLost_pair s n
@[simp] theorem notify_pf (s : State) (n : Nat) (m : Notif) : (notify s n m).pf = s.pf := by
  unfold notify
  dsimp only
  split
  · exact flushLost_pf s n
  · split <;> exact flushLost_pf s n
@[simp] theorem notify_vault (s : State) (n : Nat) (m : Notif) : (notify s n m).vault = s.vault := by
  unfold notify
  dsimp only
  split
  · exact flushLost_vault s n
  · split <;> exact flushLost_vault s n
@[simp] theorem notify_rtc (s : State) (n : Nat) (m : Notif) : (notify s n m).rtc = s.rtc := by
  unfold notify
  dsimp only
  split
  · exact flushLost_rtc s n
  · split <;> exact flushLost_rtc s n
@[simp] theorem notify_logb (s : State) (n : Nat) (m : Notif) : (notify s n m).logb = s.logb := by
  unfold notify
  dsimp only
  split
  · exact flushLost_logb s n
  · split <;> exact flushLost_logb s n
@[simp] theorem notify_cap (s : State) (n : Nat) (m : Notif) : (notify s n m).cap = s.cap := by
  unfold notify
  dsimp only
  split
  · exact flushLost_cap s n
  · split <;> exact flushLost_cap s n
@[simp] theorem notify_mem (s : State) (n : Nat) (m : Notif) : (notify s n m).mem = s.mem := by
  unfold notify
  dsimp only
  split
  · exact flushLost_mem s n
  · split <;> exact flushLost_mem s n
@[simp] theorem notify_dirty (s : State) (n : Nat) (m : Notif) : (notify s n m).dirty = s.dirty := by
  unfold notify
  dsimp only
  split
  · exact flushLost_dirty s n
  · split <;> exact flushLost_dirty s n

@[simp] theorem respond_pending (s : State) (n : Nat) (r : Resp) : (respond s n r).pending = s.pending := by
  unfold respond
  split <;> rfl
@[simp] theorem respond_now (s : State) (n : Nat) (r : Resp) : (respond s n r).now = s.now := by
  unfold respond
  split <;> rfl
@[simp] theorem respond_freeCtr (s : State) (n : Nat) (r : Resp) : (respond s n r).freeCtr = s.freeCtr := by
  unfold respond
  split <;> rfl
@[simp] theorem respond_ident (s : State) (n : Nat) (r : Resp) : (respond s n r).ident = s.ident := by
  unfold respond
  split <;> rfl
@[simp] theorem respond_store (s : State) (n : Nat) (r : Resp) : (respond s n r).store = s.store := by
  unfold respond
  split <;> rfl
@[simp] theorem respond_ctrs (s : State) (n : Nat) (r : Resp) : (respond s n r).ctrs = s.ctrs := by
  unfold respond
  split <;> rfl
@[simp] theorem respond_hw (s : State) (n : Nat) (r : Resp) : (respond s n r).hw = s.hw := by
  unfold respond
  split <;> rfl
@[simp] theorem respond_boot (s : State) (n : Nat) (r : Resp) : (respond s n r).boot = s.boot := by
  unfold respond
  split <;> rfl
@[simp] theorem respond_tm (s : State) (n : Nat) (r : Resp) : (respond s n r).tm = s.tm := by
  unfold respond
  split <;> rfl
@[simp] theorem respond_net (s : State) (n : Nat) (r : Resp) : (respond s n r).net = s.net := by
  unfold respond
  split <;> rfl
@[simp] theorem respond_plan (s : State) (n : Nat) (r : Resp) : (respond s n r).plan = s.plan := by
  unfold respond
  split <;> rfl
@[simp] theorem respond_cond (s : State) (n : Nat) (r : Resp) : (respond s n r).cond = s.cond := by
  unfold respond
  split <;> rfl
@[simp] theorem respond_pub (s : State) (n : Nat) (r : Resp) : (respond s n r).pub = s.pub := by
  unfold respond
  split <;> rfl
@[simp] theorem respond_parts (s : State) (n : Nat) (r : Resp) : (respond s n r).parts = s.parts := by
  unfold respond
  split <;> rfl
@[simp] theorem respond_tt (s : State) (n : Nat) (r : Resp) : (respond s n r).tt = s.tt := by
  unfold respond
  split <;> rfl
@[simp] theorem respond_ph (s : State) (n : Nat) (r : Resp) : (respond s n r).ph = s.ph := by
  unfold respond
  split <;> rfl
@[simp] theorem respond_lg (s : State) (n : Nat) (r : Resp) : (respond s n r).lg = s.lg := by
  unfold respond
  split <;> rfl
@[simp] theorem respond_pair (s : State) (n : Nat) (r : Resp) : (respond s n r).pair = s.pair := by
  unfold respond
  split <;> rfl
@[simp] theorem respond_pf (s : State) (n : Nat) (r : Resp) : (respond s n r).pf = s.pf := by
  unfold respond
  split <;> rfl
@[simp] theorem respond_vault (s : State) (n : Nat) (r : Resp) : (respond s n r).vault = s.vault := by
  unfold respond
  split <;> rfl
@[simp] theorem respond_rtc (s : State) (n : Nat) (r : Resp) : (respond s n r).rtc = s.rtc := by
  unfold respond
  split <;> rfl
@[simp] theorem respond_logb (s : State) (n : Nat) (r : Resp) : (respond s n r).logb = s.logb := by
  unfold respond
  split <;> rfl
@[simp] theorem respond_cap (s : State) (n : Nat) (r : Resp) : (respond s n r).cap = s.cap := by
  unfold respond
  split <;> rfl
@[simp] theorem respond_mem (s : State) (n : Nat) (r : Resp) : (respond s n r).mem = s.mem := by
  unfold respond
  split <;> rfl
@[simp] theorem respond_dirty (s : State) (n : Nat) (r : Resp) : (respond s n r).dirty = s.dirty := by
  unfold respond
  split <;> rfl

@[simp] theorem answerLate_pending (s : State) (n seq idx : Nat) (e : RespE) : (answerLate s n seq idx e).pending = s.pending := by
  unfold answerLate
  split
  · rfl
  · split <;> rfl
@[simp] theorem answerLate_now (s : State) (n seq idx : Nat) (e : RespE) : (answerLate s n seq idx e).now = s.now := by
  unfold answerLate
  split
  · rfl
  · split <;> rfl
@[simp] theorem answerLate_freeCtr (s : State) (n seq idx : Nat) (e : RespE) : (answerLate s n seq idx e).freeCtr = s.freeCtr := by
  unfold answerLate
  split
  · rfl
  · split <;> rfl
@[simp] theorem answerLate_ident (s : State) (n seq idx : Nat) (e : RespE) : (answerLate s n seq idx e).ident = s.ident := by
  unfold answerLate
  split
  · rfl
  · split <;> rfl
@[simp] theorem answerLate_store (s : State) (n seq idx : Nat) (e : RespE) : (answerLate s n seq idx e).store = s.store := by
  unfold answerLate
  split
  · rfl
  · split <;> rfl
@[simp] theorem answerLate_ctrs (s : State) (n seq idx : Nat) (e : RespE) : (answerLate s n seq idx e).ctrs = s.ctrs := by
  unfold answerLate
  split
  · rfl
  · split <;> rfl
@[simp] theorem answerLate_hw (s : State) (n seq idx : Nat) (e : RespE) : (answerLate s n seq idx e).hw = s.hw := by
  unfold answerLate
  split
  · rfl
  · split <;> rfl
@[simp] theorem answerLate_boot (s : State) (n seq idx : Nat) (e : RespE) : (answerLate s n seq idx e).boot = s.boot := by
  unfold answerLate
  split
  · rfl
  · split <;> rfl
@[simp] theorem answerLate_tm (s : State) (n seq idx : Nat) (e : RespE) : (answerLate s n seq idx e).tm = s.tm := by
  unfold answerLate
  split
  · rfl
  · split <;> rfl
@[simp] theorem answerLate_net (s : State) (n seq idx : Nat) (e : RespE) : (answerLate s n seq idx e).net = s.net := by
  unfold answerLate
  split
  · rfl
  · split <;> rfl
@[simp] theorem answerLate_plan (s : State) (n seq idx : Nat) (e : RespE) : (answerLate s n seq idx e).plan = s.plan := by
  unfold answerLate
  split
  · rfl
  · split <;> rfl
@[simp] theorem answerLate_cond (s : State) (n seq idx : Nat) (e : RespE) : (answerLate s n seq idx e).cond = s.cond := by
  unfold answerLate
  split
  · rfl
  · split <;> rfl
@[simp] theorem answerLate_pub (s : State) (n seq idx : Nat) (e : RespE) : (answerLate s n seq idx e).pub = s.pub := by
  unfold answerLate
  split
  · rfl
  · split <;> rfl
@[simp] theorem answerLate_parts (s : State) (n seq idx : Nat) (e : RespE) : (answerLate s n seq idx e).parts = s.parts := by
  unfold answerLate
  split
  · rfl
  · split <;> rfl
@[simp] theorem answerLate_tt (s : State) (n seq idx : Nat) (e : RespE) : (answerLate s n seq idx e).tt = s.tt := by
  unfold answerLate
  split
  · rfl
  · split <;> rfl
@[simp] theorem answerLate_ph (s : State) (n seq idx : Nat) (e : RespE) : (answerLate s n seq idx e).ph = s.ph := by
  unfold answerLate
  split
  · rfl
  · split <;> rfl
@[simp] theorem answerLate_lg (s : State) (n seq idx : Nat) (e : RespE) : (answerLate s n seq idx e).lg = s.lg := by
  unfold answerLate
  split
  · rfl
  · split <;> rfl
@[simp] theorem answerLate_pair (s : State) (n seq idx : Nat) (e : RespE) : (answerLate s n seq idx e).pair = s.pair := by
  unfold answerLate
  split
  · rfl
  · split <;> rfl
@[simp] theorem answerLate_pf (s : State) (n seq idx : Nat) (e : RespE) : (answerLate s n seq idx e).pf = s.pf := by
  unfold answerLate
  split
  · rfl
  · split <;> rfl
@[simp] theorem answerLate_vault (s : State) (n seq idx : Nat) (e : RespE) : (answerLate s n seq idx e).vault = s.vault := by
  unfold answerLate
  split
  · rfl
  · split <;> rfl
@[simp] theorem answerLate_rtc (s : State) (n seq idx : Nat) (e : RespE) : (answerLate s n seq idx e).rtc = s.rtc := by
  unfold answerLate
  split
  · rfl
  · split <;> rfl
@[simp] theorem answerLate_logb (s : State) (n seq idx : Nat) (e : RespE) : (answerLate s n seq idx e).logb = s.logb := by
  unfold answerLate
  split
  · rfl
  · split <;> rfl
@[simp] theorem answerLate_cap (s : State) (n seq idx : Nat) (e : RespE) : (answerLate s n seq idx e).cap = s.cap := by
  unfold answerLate
  split
  · rfl
  · split <;> rfl
@[simp] theorem answerLate_mem (s : State) (n seq idx : Nat) (e : RespE) : (answerLate s n seq idx e).mem = s.mem := by
  unfold answerLate
  split
  · rfl
  · split <;> rfl
@[simp] theorem answerLate_dirty (s : State) (n seq idx : Nat) (e : RespE) : (answerLate s n seq idx e).dirty = s.dirty := by
  unfold answerLate
  split
  · rfl
  · split <;> rfl

@[simp] theorem orphanEnd_pending (s : State) (n reqId status : Nat) : (orphanEnd s n reqId status).pending = s.pending := by
  unfold orphanEnd
  split <;> rfl
@[simp] theorem orphanEnd_now (s : State) (n reqId status : Nat) : (orphanEnd s n reqId status).now = s.now := by
  unfold orphanEnd
  split <;> rfl
@[simp] theorem orphanEnd_ident (s : State) (n reqId status : Nat) : (orphanEnd s n reqId status).ident = s.ident := by
  unfold orphanEnd
  split <;> rfl
@[simp] theorem orphanEnd_store (s : State) (n reqId status : Nat) : (orphanEnd s n reqId status).store = s.store := by
  unfold orphanEnd
  split <;> rfl
@[simp] theorem orphanEnd_ctrs (s : State) (n reqId status : Nat) : (orphanEnd s n reqId status).ctrs = s.ctrs := by
  unfold orphanEnd
  split <;> rfl
@[simp] theorem orphanEnd_hw (s : State) (n reqId status : Nat) : (orphanEnd s n reqId status).hw = s.hw := by
  unfold orphanEnd
  split <;> rfl
@[simp] theorem orphanEnd_boot (s : State) (n reqId status : Nat) : (orphanEnd s n reqId status).boot = s.boot := by
  unfold orphanEnd
  split <;> rfl
@[simp] theorem orphanEnd_tm (s : State) (n reqId status : Nat) : (orphanEnd s n reqId status).tm = s.tm := by
  unfold orphanEnd
  split <;> rfl
@[simp] theorem orphanEnd_net (s : State) (n reqId status : Nat) : (orphanEnd s n reqId status).net = s.net := by
  unfold orphanEnd
  split <;> rfl
@[simp] theorem orphanEnd_plan (s : State) (n reqId status : Nat) : (orphanEnd s n reqId status).plan = s.plan := by
  unfold orphanEnd
  split <;> rfl
@[simp] theorem orphanEnd_cond (s : State) (n reqId status : Nat) : (orphanEnd s n reqId status).cond = s.cond := by
  unfold orphanEnd
  split <;> rfl
@[simp] theorem orphanEnd_pub (s : State) (n reqId status : Nat) : (orphanEnd s n reqId status).pub = s.pub := by
  unfold orphanEnd
  split <;> rfl
@[simp] theorem orphanEnd_parts (s : State) (n reqId status : Nat) : (orphanEnd s n reqId status).parts = s.parts := by
  unfold orphanEnd
  split <;> rfl
@[simp] theorem orphanEnd_tt (s : State) (n reqId status : Nat) : (orphanEnd s n reqId status).tt = s.tt := by
  unfold orphanEnd
  split <;> rfl
@[simp] theorem orphanEnd_ph (s : State) (n reqId status : Nat) : (orphanEnd s n reqId status).ph = s.ph := by
  unfold orphanEnd
  split <;> rfl
@[simp] theorem orphanEnd_lg (s : State) (n reqId status : Nat) : (orphanEnd s n reqId status).lg = s.lg := by
  unfold orphanEnd
  split <;> rfl
@[simp] theorem orphanEnd_pair (s : State) (n reqId status : Nat) : (orphanEnd s n reqId status).pair = s.pair := by
  unfold orphanEnd
  split <;> rfl
@[simp] theorem orphanEnd_pf (s : State) (n reqId status : Nat) : (orphanEnd s n reqId status).pf = s.pf := by
  unfold orphanEnd
  split <;> rfl
@[simp] theorem orphanEnd_vault (s : State) (n reqId status : Nat) : (orphanEnd s n reqId status).vault = s.vault := by
  unfold orphanEnd
  split <;> rfl
@[simp] theorem orphanEnd_rtc (s : State) (n reqId status : Nat) : (orphanEnd s n reqId status).rtc = s.rtc := by
  unfold orphanEnd
  split <;> rfl
@[simp] theorem orphanEnd_cap (s : State) (n reqId status : Nat) : (orphanEnd s n reqId status).cap = s.cap := by
  unfold orphanEnd
  split <;> rfl
@[simp] theorem orphanEnd_mem (s : State) (n reqId status : Nat) : (orphanEnd s n reqId status).mem = s.mem := by
  unfold orphanEnd
  split <;> rfl
@[simp] theorem orphanEnd_dirty (s : State) (n reqId status : Nat) : (orphanEnd s n reqId status).dirty = s.dirty := by
  unfold orphanEnd
  split <;> rfl

@[simp] theorem execEnd_pending (s : State) (n reqId status : Nat) (bytes : List Byte) : (execEnd s n reqId status bytes).pending = s.pending := by
  unfold execEnd
  split
  · exact orphanEnd_pending s n reqId status
  · split
    · exact orphanEnd_pending s n reqId status
    · rfl
@[simp] theorem execEnd_now (s : State) (n reqId status : Nat) (bytes : List Byte) : (execEnd s n reqId status bytes).now = s.now := by
  unfold execEnd
  split
  · exact orphanEnd_now s n reqId status
  · split
    · exact orphanEnd_now s n reqId status
    · rfl
@[simp] theorem execEnd_ident (s : State) (n reqId status : Nat) (bytes : List Byte) : (execEnd s n reqId status bytes).ident = s.ident := by
  unfold execEnd
  split
  · exact orphanEnd_ident s n reqId status
  · split
    · exact orphanEnd_ident s n reqId status
    · rfl
@[simp] theorem execEnd_store (s : State) (n reqId status : Nat) (bytes : List Byte) : (execEnd s n reqId status bytes).store = s.store := by
  unfold execEnd
  split
  · exact orphanEnd_store s n reqId status
  · split
    · exact orphanEnd_store s n reqId status
    · rfl
@[simp] theorem execEnd_ctrs (s : State) (n reqId status : Nat) (bytes : List Byte) : (execEnd s n reqId status bytes).ctrs = s.ctrs := by
  unfold execEnd
  split
  · exact orphanEnd_ctrs s n reqId status
  · split
    · exact orphanEnd_ctrs s n reqId status
    · rfl
@[simp] theorem execEnd_hw (s : State) (n reqId status : Nat) (bytes : List Byte) : (execEnd s n reqId status bytes).hw = s.hw := by
  unfold execEnd
  split
  · exact orphanEnd_hw s n reqId status
  · split
    · exact orphanEnd_hw s n reqId status
    · rfl
@[simp] theorem execEnd_boot (s : State) (n reqId status : Nat) (bytes : List Byte) : (execEnd s n reqId status bytes).boot = s.boot := by
  unfold execEnd
  split
  · exact orphanEnd_boot s n reqId status
  · split
    · exact orphanEnd_boot s n reqId status
    · rfl
@[simp] theorem execEnd_tm (s : State) (n reqId status : Nat) (bytes : List Byte) : (execEnd s n reqId status bytes).tm = s.tm := by
  unfold execEnd
  split
  · exact orphanEnd_tm s n reqId status
  · split
    · exact orphanEnd_tm s n reqId status
    · rfl
@[simp] theorem execEnd_net (s : State) (n reqId status : Nat) (bytes : List Byte) : (execEnd s n reqId status bytes).net = s.net := by
  unfold execEnd
  split
  · exact orphanEnd_net s n reqId status
  · split
    · exact orphanEnd_net s n reqId status
    · rfl
@[simp] theorem execEnd_plan (s : State) (n reqId status : Nat) (bytes : List Byte) : (execEnd s n reqId status bytes).plan = s.plan := by
  unfold execEnd
  split
  · exact orphanEnd_plan s n reqId status
  · split
    · exact orphanEnd_plan s n reqId status
    · rfl
@[simp] theorem execEnd_cond (s : State) (n reqId status : Nat) (bytes : List Byte) : (execEnd s n reqId status bytes).cond = s.cond := by
  unfold execEnd
  split
  · exact orphanEnd_cond s n reqId status
  · split
    · exact orphanEnd_cond s n reqId status
    · rfl
@[simp] theorem execEnd_pub (s : State) (n reqId status : Nat) (bytes : List Byte) : (execEnd s n reqId status bytes).pub = s.pub := by
  unfold execEnd
  split
  · exact orphanEnd_pub s n reqId status
  · split
    · exact orphanEnd_pub s n reqId status
    · rfl
@[simp] theorem execEnd_parts (s : State) (n reqId status : Nat) (bytes : List Byte) : (execEnd s n reqId status bytes).parts = s.parts := by
  unfold execEnd
  split
  · exact orphanEnd_parts s n reqId status
  · split
    · exact orphanEnd_parts s n reqId status
    · rfl
@[simp] theorem execEnd_tt (s : State) (n reqId status : Nat) (bytes : List Byte) : (execEnd s n reqId status bytes).tt = s.tt := by
  unfold execEnd
  split
  · exact orphanEnd_tt s n reqId status
  · split
    · exact orphanEnd_tt s n reqId status
    · rfl
@[simp] theorem execEnd_ph (s : State) (n reqId status : Nat) (bytes : List Byte) : (execEnd s n reqId status bytes).ph = s.ph := by
  unfold execEnd
  split
  · exact orphanEnd_ph s n reqId status
  · split
    · exact orphanEnd_ph s n reqId status
    · rfl
@[simp] theorem execEnd_lg (s : State) (n reqId status : Nat) (bytes : List Byte) : (execEnd s n reqId status bytes).lg = s.lg := by
  unfold execEnd
  split
  · exact orphanEnd_lg s n reqId status
  · split
    · exact orphanEnd_lg s n reqId status
    · rfl
@[simp] theorem execEnd_pair (s : State) (n reqId status : Nat) (bytes : List Byte) : (execEnd s n reqId status bytes).pair = s.pair := by
  unfold execEnd
  split
  · exact orphanEnd_pair s n reqId status
  · split
    · exact orphanEnd_pair s n reqId status
    · rfl
@[simp] theorem execEnd_pf (s : State) (n reqId status : Nat) (bytes : List Byte) : (execEnd s n reqId status bytes).pf = s.pf := by
  unfold execEnd
  split
  · exact orphanEnd_pf s n reqId status
  · split
    · exact orphanEnd_pf s n reqId status
    · rfl
@[simp] theorem execEnd_vault (s : State) (n reqId status : Nat) (bytes : List Byte) : (execEnd s n reqId status bytes).vault = s.vault := by
  unfold execEnd
  split
  · exact orphanEnd_vault s n reqId status
  · split
    · exact orphanEnd_vault s n reqId status
    · rfl
@[simp] theorem execEnd_rtc (s : State) (n reqId status : Nat) (bytes : List Byte) : (execEnd s n reqId status bytes).rtc = s.rtc := by
  unfold execEnd
  split
  · exact orphanEnd_rtc s n reqId status
  · split
    · exact orphanEnd_rtc s n reqId status
    · rfl
@[simp] theorem execEnd_cap (s : State) (n reqId status : Nat) (bytes : List Byte) : (execEnd s n reqId status bytes).cap = s.cap := by
  unfold execEnd
  split
  · exact orphanEnd_cap s n reqId status
  · split
    · exact orphanEnd_cap s n reqId status
    · rfl
@[simp] theorem execEnd_mem (s : State) (n reqId status : Nat) (bytes : List Byte) : (execEnd s n reqId status bytes).mem = s.mem := by
  unfold execEnd
  split
  · exact orphanEnd_mem s n reqId status
  · split
    · exact orphanEnd_mem s n reqId status
    · rfl
@[simp] theorem execEnd_dirty (s : State) (n reqId status : Nat) (bytes : List Byte) : (execEnd s n reqId status bytes).dirty = s.dirty := by
  unfold execEnd
  split
  · exact orphanEnd_dirty s n reqId status
  · split
    · exact orphanEnd_dirty s n reqId status
    · rfl

end Sys2Proof.Machine
end

