-- ==== Sys2Proof/Laws/Table.lean ====
section
/-! SUPPORT. Sparse tables: what a key reads after a key is set or removed; the roll call and the named accessors after an update. -/

namespace Sys2Proof.Machine

variable {α : Type}

@[simp] theorem tabGet_nil (k : Nat) : tabGet ([] : Tab α) k = none := rfl

theorem tabGet_tabDel (t : Tab α) (k j : Nat) : tabGet (tabDel t k) j = if j = k then none else tabGet t j := by
  induction t with
  | nil => simp [tabDel]
  | cons c r ih =>
    obtain ⟨i, a⟩ := c
    simp only [tabDel]
    by_cases h : i = k
    · simp only [h, beq_self_eq_true, if_true, ih, tabGet]
      by_cases hj : j = k
      · simp [hj]
      · simp [hj, Ne.symm hj]
    · by_cases hj : j = k
      · subst hj
        simp [h, tabGet, ih]
      · simp [h, tabGet, ih, hj]

theorem tabGet_tabIns (t : Tab α) (k : Nat) (a : α) (h : tabGet t k = none) (j : Nat) :
    tabGet (tabIns t k a) j = if j = k then some a else tabGet t j := by
  induction t with
  | nil =>
    by_cases hj : j = k
    · simp [tabIns, tabGet, hj]
    · simp [tabIns, tabGet, hj, Ne.symm hj]
  | cons c r ih =>
    obtain ⟨i, b⟩ := c
    simp only [tabGet] at h
    by_cases hi : i = k
    · simp [hi] at h
    · simp only [beq_iff_eq, hi, if_false] at h
      simp only [tabIns]
      split
      · by_cases hj : j = k
        · simp [tabGet, hj]
        · simp [tabGet, hj, Ne.symm hj]
      · simp only [tabGet, ih h]
        by_cases hj : j = k
        · subst hj
          simp [hi]
        · simp [hj]

/-- A key set reads its value; every other key reads what it read. -/
theorem tabGet_tabPut (t : Tab α) (k : Nat) (a : α) (j : Nat) :
    tabGet (tabPut t k a) j = if j = k then some a else tabGet t j := by
  unfold tabPut
  rw [tabGet_tabIns _ _ _ (by simp [tabGet_tabDel]), tabGet_tabDel]
  by_cases h : j = k <;> simp [h]

@[simp] theorem tabGet_tabPut_self (t : Tab α) (k : Nat) (a : α) : tabGet (tabPut t k a) k = some a := by simp [tabGet_tabPut]

@[simp] theorem tabGetD_tabPut_self (t : Tab α) (k : Nat) (a d : α) : tabGetD (tabPut t k a) k d = a := by simp [tabGetD]

theorem tabGetD_tabPut (t : Tab α) (k : Nat) (a d : α) (j : Nat) :
    tabGetD (tabPut t k a) j d = if j = k then a else tabGetD t j d := by
  unfold tabGetD
  rw [tabGet_tabPut]
  split <;> rfl

@[simp] theorem tabGet_tabDel_self (t : Tab α) (k : Nat) : tabGet (tabDel t k) k = none := by simp [tabGet_tabDel]

/-- An entry found is a member. -/
theorem mem_of_tabGet {t : Tab α} {k : Nat} {a : α} (h : tabGet t k = some a) : (k, a) ∈ t := by
  induction t with
  | nil => simp at h
  | cons c r ih =>
    obtain ⟨i, b⟩ := c
    simp only [tabGet] at h
    split at h
    · simp_all
    · exact List.mem_cons_of_mem _ (ih h)

/-- An entry after a key is set is the one set, or stood there before. -/
theorem mem_tabPut {t : Tab α} {k : Nat} {a : α} {x : Nat × α} (h : x ∈ tabPut t k a) : x = (k, a) ∨ x ∈ t := by
  have hd : ∀ u : Tab α, x ∈ tabDel u k → x ∈ u := by
    intro u
    induction u with
    | nil => simp [tabDel]
    | cons c r ih =>
      obtain ⟨i, b⟩ := c
      simp only [tabDel]
      split
      · exact fun h => List.mem_cons_of_mem _ (ih h)
      · exact fun h => (List.mem_cons.mp h).elim (fun e => e ▸ List.mem_cons_self ..) fun h => List.mem_cons_of_mem _ (ih h)
  have hi : ∀ u : Tab α, x ∈ tabIns u k a → x = (k, a) ∨ x ∈ u := by
    intro u
    induction u with
    | nil => simp [tabIns]
    | cons c r ih =>
      obtain ⟨i, b⟩ := c
      simp only [tabIns]
      split
      · exact fun h => (List.mem_cons.mp h).imp id id
      · intro h
        rcases List.mem_cons.mp h with h | h
        · exact .inr (h ▸ List.mem_cons_self ..)
        · exact (ih h).imp id (List.mem_cons_of_mem _)
  rcases hi _ h with h | h
  · exact .inl h
  · exact .inr (hd _ h)

/-! The accessors after their own update -/

@[simp] theorem partOf_setPart (s : State) (p : Nat) (x : Part) : partOf (setPart s p x) p = x := by simp [partOf]

@[simp] theorem portOf_setPort (s : State) (n : Nat) (x : Port) : portOf (setPort s n x) n = x := by simp [portOf]

@[simp] theorem sessOf_setSess (s : State) (n : Nat) (x : Sess) : sessOf (setSess s n x) n = some x := by simp [sessOf]

@[simp] theorem taskOf_setTask (s : State) (j : Nat) (x : Task) : taskOf (setTask s j x) j = x := by simp [taskOf]

@[simp] theorem ringOf_setRing (s : State) (q : Nat) (x : Ring) : ringOf (setRing s q x) q = x := by simp [ringOf]

@[simp] theorem chanOf_setChan (s : State) (c : Nat) (x : Chan) : chanOf (setChan s c x) c = x := by simp [chanOf]

@[simp] theorem claimOf_setClaim (s : State) (d : Nat) (x : Claim) : claimOf (setClaim s d x) d = x := by simp [claimOf]

@[simp] theorem slotOfKey_setSlot (s : State) (k : Nat) (x : KeySlot) : slotOfKey (setSlot s k x) k = x := by simp [slotOfKey]

@[simp] theorem recOf_setRec (s : State) (k : Nat) (x : Recorder) : recOf (setRec s k x) k = x := by simp [recOf]

/-- Which units are present depends on the identity alone. -/
theorem unitPresent_congr {s t : State} (h : t.ident = s.ident) (n : Nat) : unitPresent t n = unitPresent s n := by
  unfold unitPresent dieCount
  rw [h]

/-- A roll-call state depends on the identity and the roll alone. -/
theorem unitSt_congr {s t : State} (h : t.ident = s.ident) (hb : t.boot.roll = s.boot.roll) (n : Nat) : unitSt t n = unitSt s n := by
  simp only [unitSt, rollOf, unitPresent_congr h, hb]

/-- A present unit set to a state is in it. -/
@[simp] theorem unitSt_setUnit (s : State) (n : Nat) (st : USt) (h : unitPresent s n = true) : unitSt (setUnit s n st) n = st := by
  by_cases e : unitSt s n = st
  · have : setUnit s n st = s := by simp [setUnit, e]
    rw [this, e]
  · have hp : unitPresent (setUnit s n st) n = true := by rw [unitPresent_congr (setUnit_ident s n st), h]
    have hr : rollOf (setUnit s n st) n = { rollOf s n with st := st, since := tai s, draining := (rollOf s n).draining && st != .off } := by
      have : (unitSt s n == st) = false := by simp [e]
      simp only [setUnit, h, this, rollOf, seeNow]
      simp
    simp only [unitSt, hp, hr, if_true]

end Sys2Proof.Machine
end

