-- ==== Sys2Proof/Laws/Done.lean ====
section
/-! SUPPORT. The end of a command: what `settle` may change, and how a statement about a command's effect follows from the state its
meaning builds. -/

namespace Sys2Proof.Machine

theorem jalBut_refl (s : State) : jalBut s s := rfl

theorem jalBut_trans {s t u : State} (h : jalBut s t) (k : jalBut t u) : jalBut s u := by
  unfold jalBut at *
  rw [h] at k
  exact k

theorem jalBut_setSess (s : State) (n : Nat) (x : Sess) : jalBut s (setSess s n x) := rfl

theorem jalBut_flushLost (s : State) (n : Nat) : jalBut s (flushLost s n) := by
  unfold flushLost
  split
  · rfl
  · split <;> rfl

theorem jalBut_notify (s : State) (n : Nat) (m : Notif) : jalBut s (notify s n m) := by
  unfold notify
  dsimp only
  split
  · exact jalBut_flushLost s n
  · split <;> exact jalBut_trans (jalBut_flushLost s n) (jalBut_setSess _ n _)

theorem jalBut_subSees (s : State) (n id : Nat) (x : Sub) : jalBut s (subSees s n id x) := by
  unfold subSees
  split
  · split
    · rfl
    · dsimp only
      split
      · rfl
      · split
        · exact jalBut_setSess s n _
        · exact jalBut_trans (jalBut_setSess s n _) (jalBut_notify _ n _)
  · rfl

/-- A fold of steps that keep a reflexive and transitive relation keeps it. -/
theorem foldl_keeps {α : Type} (R : State → State → Prop) (hr : ∀ s, R s s) (ht : ∀ s t u, R s t → R t u → R s u)
    (f : State → α → State) (hf : ∀ s a, R s (f s a)) (l : List α) (s : State) : R s (l.foldl f s) := by
  induction l generalizing s with
  | nil => exact hr s
  | cons a r ih => exact ht _ _ _ (hf s a) (ih (f s a))

/-- Only the sessions' entries and their lost counts change when the subscriptions to some addresses see the values now. -/
theorem jalBut_settleOf (pick : Addr → Bool) (s : State) : jalBut s (settleOf pick s) := by
  have h : jalBut s (s.jal.sess.foldl (fun s (n, se) => se.subs.foldl (fun s (id, x) => if pick x.addr then subSees s n id x else s) s) s) := by
    apply foldl_keeps jalBut jalBut_refl (fun _ _ _ => jalBut_trans)
    rintro u ⟨n, se⟩
    apply foldl_keeps jalBut jalBut_refl (fun _ _ _ => jalBut_trans)
    rintro v ⟨id, x⟩
    dsimp only
    split
    · exact jalBut_subSees v n id x
    · exact jalBut_refl v
  unfold jalBut at *
  unfold settleOf
  exact h

/-- Only the sessions' entries and their lost counts change when the subscriptions see a command's end. -/
theorem jalBut_settle (s : State) : jalBut s (settle s) := jalBut_settleOf _ s

/-- The end of a command changes no component but the Jalyn one. -/
theorem same_settle (c : Comp) (h : c ≠ .jal) (s : State) : c.same s (settle s) := by
  cases c <;> first | exact absurd rfl h | rfl

/-- A frame holds of a command's end when it holds of the state the meaning builds. -/
theorem frame_settle {but : List Comp} {a x : State} (h : Comp.jal ∉ but → jalBut a x) (k : agree (.jal :: but) a x) :
    Frame but a (settle x) := by
  refine ⟨fun hj => jalBut_trans (h hj) (jalBut_settle x), fun c hc => ?_⟩
  have hs := same_settle c (fun e => hc (by simp [e])) x
  have hk := k c hc
  cases c <;> simp only [Comp.same] at * <;> rw [hs, hk]

/-- A command completes with the effect of the state its meaning builds. -/
theorem does_of {i : Instr} {s a : State} {but : List Comp} {eff : State → Prop} (x : State) (h : exec i s = done x)
    (hj : Comp.jal ∉ but → jalBut a x) (hk : agree (.jal :: but) a x) (he : eff (settle x)) : Does i s a but eff :=
  ⟨_, h, frame_settle hj hk, he⟩

/-- The roll call after a command's end. -/
@[simp] theorem unitSt_settle (s : State) (n : Nat) : unitSt (settle s) n = unitSt s n := rfl

end Sys2Proof.Machine
end

