-- ==== Sys2Proof/Laws/Answer.lean ====
section
/-! SUPPORT. Requests of a session: a command or a write that may run does run, its answer is stored, and the end of a command keeps it. -/

namespace Sys2Proof.Machine

/-- An object's number is the number of its own address. -/
@[simp] theorem obAddr_addrOf (ob sub : Nat) : obAddr (addrOf ob sub) = ob := by
  simp only [obAddr, addrOf, arOf, obOf]
  omega

@[simp] theorem addrOf_sub (ob sub : Nat) : (addrOf ob sub).sub = sub := rfl

/-- The stored responses of a session. -/
def respsOf (s : State) (n : Nat) : Option (List Resp) := (sessOf s n).map Sess.resps

theorem respsOf_setSess (s : State) (n m : Nat) (x : Sess) :
    respsOf (setSess s n x) m = if m = n then some x.resps else respsOf s m := by
  simp only [respsOf, sessOf, setSess, tabGet_tabPut]
  split <;> rfl

/-- A session's entry changed outside its responses keeps them. -/
theorem respsOf_keep (s : State) (n m : Nat) (x y : Sess) (h : sessOf s n = some y) (k : x.resps = y.resps) :
    respsOf (setSess s n x) m = respsOf s m := by
  rw [respsOf_setSess]
  split
  · subst m
    simp [respsOf, h, k]
  · rfl

theorem respsOf_flushLost (s : State) (n m : Nat) : respsOf (flushLost s n) m = respsOf s m := by
  unfold flushLost
  split
  · rfl
  · rename_i y hy
    split
    · rfl
    · exact respsOf_keep _ n m _ y hy rfl

theorem respsOf_notify (s : State) (n m : Nat) (x : Notif) : respsOf (notify s n x) m = respsOf s m := by
  unfold notify
  dsimp only
  split
  · exact respsOf_flushLost s n m
  · rename_i z hz
    split <;> exact Eq.trans (respsOf_keep _ n m _ z hz rfl) (respsOf_flushLost s n m)

theorem respsOf_subSees (s : State) (n id m : Nat) (x : Sub) : respsOf (subSees s n id x) m = respsOf s m := by
  unfold subSees
  split
  · rename_i y d hy hd
    split
    · rfl
    · dsimp only
      split
      · rfl
      · split
        · exact respsOf_keep _ n m _ y hy rfl
        · rw [respsOf_notify]
          exact respsOf_keep _ n m _ y hy rfl
  · rfl

/-- What the subscriptions see keeps every stored response. -/
theorem respsOf_settleOf (pick : Addr → Bool) (s : State) (m : Nat) : respsOf (settleOf pick s) m = respsOf s m := by
  have h : respsOf (s.jal.sess.foldl (fun s (n, se) => se.subs.foldl (fun s (id, x) => if pick x.addr then subSees s n id x else s) s) s) m =
      respsOf s m := by
    apply foldl_keeps (fun s t => respsOf t m = respsOf s m) (fun _ => rfl) (fun _ _ _ a b => b.trans a)
    rintro u ⟨n, se⟩
    apply foldl_keeps (fun s t => respsOf t m = respsOf s m) (fun _ => rfl) (fun _ _ _ a b => b.trans a)
    rintro v ⟨id, x⟩
    dsimp only
    split
    · exact respsOf_subSees v n id m x
    · rfl
  exact h

/-- The end of a command keeps every stored response. -/
@[simp] theorem respsOf_settle (s : State) (m : Nat) : respsOf (settle s) m = respsOf s m := respsOf_settleOf _ s m

/-- Whether a request is answered depends on the stored responses alone. -/
theorem answered_eq (t : State) (rq : Req) (st : Nat) :
    answered t rq st = match respsOf t rq.sess with
      | some l => l.any fun r => r.seq == rq.seq && r.entries.map RespE.status == [st]
      | none => false := by
  unfold answered respsOf
  cases sessOf t rq.sess <;> rfl

@[simp] theorem answered_settle (s : State) (rq : Req) (st : Nat) : answered (settle s) rq st = answered s rq st := by
  simp only [answered_eq, respsOf_settle]

/-- Sending changes no response's number and no entry. -/
theorem any_sendGo (t : Nat) (f : Nat → List RespE → Bool) (l : List Resp) (se : Sess) :
    ((sendGo t l se).1.any fun r => f r.seq r.entries) = l.any fun r => f r.seq r.entries := by
  induction l generalizing se with
  | nil => rfl
  | cons r l ih =>
    unfold sendGo
    split
    · simp [ih]
    · split <;> simp [ih]

/-- A property of a response's number and entries holds of some response sent exactly when it held of one stored. -/
theorem any_sendResps (t : Nat) (se : Sess) (f : Nat → List RespE → Bool) :
    ((sendResps t se).resps.any fun r => f r.seq r.entries) = se.resps.any fun r => f r.seq r.entries := any_sendGo t f se.resps se

/-- A response stored on an open session answers its request. -/
theorem answered_respond (s : State) (rq : Req) (r : Resp) (st : Nat) (h : (sessOf s rq.sess).isSome = true)
    (hs : r.seq = rq.seq) (he : r.entries.map RespE.status = [st]) : answered (respond s rq.sess r) rq st = true := by
  cases k : sessOf s rq.sess with
  | none => simp [k] at h
  | some se =>
    unfold respond answered
    simp only [k, sessOf_setSess]
    rw [any_sendResps _ _ fun q es => q == rq.seq && es.map RespE.status == [st]]
    simp only [lastN, List.any_eq_true, Bool.and_eq_true, beq_iff_eq]
    refine ⟨r, ?_, hs, he⟩
    have : (se.resps ++ [r]).drop ((se.resps ++ [r]).length - 32) = se.resps.drop (se.resps.length - 31) ++ [r] := by
      rw [List.length_append, List.length_singleton, List.drop_append_of_le_length (by omega)]
      congr 2
    rw [this]
    simp

/-! ## A request that runs -/

/-- The session's entry when its request runs: its number is received and the idle time begins anew (R151, R154). -/
def heardSess (s : State) (rq : Req) (se : Sess) : Sess := rxParts { se with lastRx := s.now, noticed := false } rq

/-- The state a request that runs begins from. -/
def began (s : State) (rq : Req) : State :=
  match sessOf s rq.sess with
  | some se => setSess s rq.sess (heardSess s rq se)
  | none => s

theorem began_eq {s : State} {rq : Req} {se : Sess} (k : sessOf s rq.sess = some se) : began s rq = setSess s rq.sess (heardSess s rq se) := by
  simp [began, k]

/-- Receiving a number changes the session's numbering alone. -/
theorem rxNumber_eq (se : Sess) (q : Nat) : rxNumber se q = { se with rxSeq := (rxNumber se q).rxSeq, rxHeld := (rxNumber se q).rxHeld } := by
  unfold rxNumber
  split
  · rfl
  · split <;> rfl

/-- The numbering does not look at the idle time. -/
theorem rxNumber_idle (se : Sess) (q a : Nat) (b : Bool) :
    rxNumber { se with lastRx := a, noticed := b } q = { rxNumber se q with lastRx := a, noticed := b } := by
  unfold rxNumber
  dsimp only
  split
  · rfl
  · split <;> rfl

theorem rxParts_idle (se : Sess) (rq : Req) (a : Nat) (b : Bool) :
    rxParts { se with lastRx := a, noticed := b } rq = { rxParts se rq with lastRx := a, noticed := b } := by
  have h : ∀ (l : List Nat) (se : Sess),
      l.foldl (fun se k => rxNumber se (rq.seq + 1 - rq.parts + k)) { se with lastRx := a, noticed := b } =
        { l.foldl (fun se k => rxNumber se (rq.seq + 1 - rq.parts + k)) se with lastRx := a, noticed := b } := by
    intro l
    induction l with
    | nil => exact fun _ => rfl
    | cons k r ih => exact fun se => by simp only [List.foldl_cons, rxNumber_idle, ih]
  unfold rxParts
  rw [h, rxNumber_idle]

/-- Receiving a request's numbers changes the session's numbering alone. -/
theorem rxParts_eq (se : Sess) (rq : Req) : rxParts se rq = { se with rxSeq := (rxParts se rq).rxSeq, rxHeld := (rxParts se rq).rxHeld } := by
  have h : ∀ (l : List Nat) (x : Sess), (∃ a b, x = { se with rxSeq := a, rxHeld := b }) →
      ∃ a b, l.foldl (fun se k => rxNumber se (rq.seq + 1 - rq.parts + k)) x = { se with rxSeq := a, rxHeld := b } := by
    intro l
    induction l with
    | nil => exact fun _ hx => hx
    | cons k r ih =>
      rintro x ⟨a, b, rfl⟩
      exact ih _ ⟨_, _, rxNumber_eq _ _⟩
  obtain ⟨a, b, e⟩ := h (upto (rq.parts - 1)) se ⟨_, _, rfl⟩
  unfold rxParts
  rw [e, rxNumber_eq]

theorem heardSess_eq (s : State) (rq : Req) (se : Sess) :
    heardSess s rq se = { se with lastRx := s.now, noticed := false, rxSeq := (heardSess s rq se).rxSeq, rxHeld := (heardSess s rq se).rxHeld } :=
  rxParts_eq _ _

theorem jalBut_began (s : State) (rq : Req) : jalBut s (began s rq) := by
  unfold began
  split <;> rfl

/-- A request whose turn it is runs from `began`. -/
theorem onRequest_runs {s : State} {rq : Req} {b : ReqBody} {run : State → Sess → State} {se : Sess} (hj : jalynUp s = true)
    (k : sessOf s rq.sess = some se) (ht : inTurn se rq = true) : onRequest s rq b run = run (began s rq) (heardSess s rq se) := by
  simp only [inTurn, Bool.and_eq_true, decide_eq_true_eq, Bool.not_eq_true'] at ht
  obtain ⟨⟨⟨hl, hq⟩, hx⟩, hb⟩ := ht
  have h1 : rq.seq < (heardSess s rq se).rxSeq := by rwa [heardSess, rxParts_idle]
  have h2 : behind (heardSess s rq se) rq.seq = false := by rw [heardSess_eq]; exact hb
  unfold heardSess at h1 h2
  unfold onRequest
  simp only [k, hj, Bool.not_true, Bool.false_eq_true, if_false, Nat.not_lt.mpr hq, h1, h2, decide_true, Bool.not_false, Bool.and_self, if_true]
  simp [runReq, hl, began_eq k, heardSess]

/-- The checks of an object do not look at the sessions, and at a session's role, partition and port alone. -/
theorem objCheck_heard (s : State) (rq : Req) (se : Sess) (n : Nat) (x : Sess) (ad : Addr) (op : JOp) :
    objCheck (setSess s n x) (heardSess s rq se) ad op = objCheck s se ad op := by
  rw [heardSess_eq]
  rfl

/-- Whether a command runs does not change with what a session hears. -/
theorem execRuns_began {s : State} {rq : Req} {ad : Addr} (h : execRuns s ad = false) : execRuns (began s rq) ad = false := by
  unfold began
  split
  · rename_i se k
    simp only [execRuns, Bool.or_eq_false_iff, List.any_eq_false] at h ⊢
    refine ⟨fun x hx => ?_, h.2⟩
    rcases mem_tabPut hx with rfl | hx
    · have := h.1 _ (mem_of_tabGet k)
      rw [heardSess_eq]
      exact this
    · exact h.1 x hx
  · exact h

/-- What a command that may run has before it. -/
theorem sess_of_cmdRuns {s : State} {rq : Req} {ob sub : Nat} {arg : Val} (h : cmdRuns s rq ob sub arg = true) :
    (sessOf s rq.sess).isSome = true := by
  unfold cmdRuns at h
  cases k : sessOf s rq.sess with
  | none => simp [k] at h
  | some se => rfl

/-- A command that may run runs on what its request begins from: its own effect, a pending one entered as running, and its answer. -/
theorem doExec_eq {s : State} {rq : Req} {ob sub : Nat} {op : State → Res} {arg : Val} (h : cmdRuns s rq ob sub arg = true) :
    doExec s rq ob sub op arg = answer rq 4 (if (op (began s rq)).status == pendingS then
      (match sessOf (op (began s rq)).s rq.sess with
        | none => op (began s rq)
        | some se => { op (began s rq) with s := setSess (op (began s rq)).s rq.sess { se with execs := se.execs ++ [(rq.reqId, addrOf ob sub)] } })
      else op (began s rq)) := by
  unfold cmdRuns at h
  simp only [Bool.and_eq_true] at h
  obtain ⟨hj, hm⟩ := h
  cases k : sessOf s rq.sess with
  | none => simp [k] at hm
  | some se =>
    cases kd : descOf ob with
    | none => simp [k, kd] at hm
    | some d =>
      simp only [k, kd, Bool.and_eq_true, beq_iff_eq, Bool.not_eq_true'] at hm
      obtain ⟨⟨⟨⟨ht, hc⟩, hl⟩, hu⟩, hx⟩ := hm
      have hx' := execRuns_began (rq := rq) hx
      have hc' : objCheck (began s rq) (heardSess s rq se) (addrOf ob sub) .exec = okS := by rw [began_eq k, objCheck_heard, hc]
      have hu' : unitCheck (began s rq) (addrOf ob sub) d .exec = okS := by rw [began_eq k]; exact hu
      unfold doExec
      rw [onRequest_runs hj k ht]
      unfold runExec
      simp [hc', kd, hl, hu', hx'] <;> rfl

/-- A command that may run, and does not stay pending, runs and is answered. -/
theorem doExec_runs {s : State} {rq : Req} {ob sub : Nat} {op : State → Res} {arg : Val} (h : cmdRuns s rq ob sub arg = true)
    (hr : (op (began s rq)).status ≠ pendingS) : doExec s rq ob sub op arg = answer rq 4 (op (began s rq)) := by
  rw [doExec_eq h]
  simp [hr]

/-- A command that may run and stays pending runs, is entered as running on its session, and is answered PENDING. -/
theorem doExec_pends {s : State} {rq : Req} {ob sub : Nat} {op : State → Res} {arg : Val} {se : Sess}
    (h : cmdRuns s rq ob sub arg = true) (hr : (op (began s rq)).status = pendingS) (hs : sessOf (op (began s rq)).s rq.sess = some se) :
    doExec s rq ob sub op arg = answer rq 4
      { op (began s rq) with s := setSess (op (began s rq)).s rq.sess { se with execs := se.execs ++ [(rq.reqId, addrOf ob sub)] } } := by
  rw [doExec_eq h]
  simp [hr, hs]

/-- An answer on an open session is stored. -/
theorem answered_answer (rq : Req) (op : Nat) (r : Res) (h : (sessOf r.s rq.sess).isSome = true) :
    answered (answer rq op r) rq r.status = true :=
  answered_respond r.s rq _ r.status h rfl rfl

/-- What answering leaves: every component but the Jalyn one as the command left it. -/
theorem same_answer (c : Comp) (hc : c ≠ .jal) (rq : Req) (op : Nat) (r : Res) : c.same r.s (answer rq op r) := by
  cases c <;> first | exact absurd rfl hc | (simp [Comp.same, answer])

theorem jalBut_respond (s : State) (n : Nat) (r : Resp) : jalBut s (respond s n r) := by
  unfold respond
  split <;> rfl

/-- A state that differs from a command's in the session entries alone agrees with it everywhere else. -/
theorem frame_of {but : List Comp} {a x y : State} (hy : ∀ c : Comp, c ≠ .jal → c.same x y) (hj : jalBut x y) (h : Comp.jal ∉ but → jalBut a x)
    (k : agree (.jal :: but) a x) : Frame but a (settle y) := by
  refine frame_settle (fun e => jalBut_trans (h e) hj) fun c hc => ?_
  have h1 := hy c fun e => hc (by simp [e])
  have h2 := k c hc
  cases c <;> simp only [Comp.same] at * <;> rw [h1, h2]

/-- A session's command completes with its own effect: what its op does to the state its request begins from, and its answer. -/
theorem does_cmd {i : Instr} {s a : State} {rq : Req} {ob sub : Nat} {op : State → Res} {arg : Val} {but : List Comp} {eff : State → Prop}
    (hx : exec i s = done (doExec a rq ob sub op arg)) (h : cmdRuns a rq ob sub arg = true) (hr : (op (began a rq)).status ≠ pendingS)
    (hj : Comp.jal ∉ but → jalBut a (op (began a rq)).s) (hk : agree (.jal :: but) a (op (began a rq)).s)
    (he : eff (settle (answer rq 4 (op (began a rq))))) : Does i s a but eff := by
  refine ⟨_, by rw [hx, doExec_runs h hr]; rfl, ?_, he⟩
  exact frame_of (fun c hc => same_answer c hc rq 4 _) (jalBut_respond _ _ _) hj hk

/-- A session's command that stays pending. -/
theorem does_pend {i : Instr} {s a : State} {rq : Req} {ob sub : Nat} {op : State → Res} {arg : Val} {but : List Comp} {eff : State → Prop}
    {se : Sess} (hx : exec i s = done (doExec a rq ob sub op arg)) (h : cmdRuns a rq ob sub arg = true) (hr : (op (began a rq)).status = pendingS)
    (hs : sessOf (op (began a rq)).s rq.sess = some se) (hj : Comp.jal ∉ but → jalBut a (op (began a rq)).s)
    (hk : agree (.jal :: but) a (op (began a rq)).s)
    (he : eff (settle (answer rq 4
      { op (began a rq) with s := setSess (op (began a rq)).s rq.sess { se with execs := se.execs ++ [(rq.reqId, addrOf ob sub)] } }))) :
    Does i s a but eff := by
  refine ⟨_, by rw [hx, doExec_pends h hr hs]; rfl, ?_, he⟩
  exact frame_of (fun c hc => same_answer c hc rq 4 _) (jalBut_respond _ _ _)
    (fun e => jalBut_trans (hj e) (jalBut_setSess _ _ _)) (by
      intro c hc
      have := hk c hc
      by_cases e : c = .jal
      · exact absurd (by simp [e]) hc
      · cases c <;> first | exact absurd rfl e | exact this)

end Sys2Proof.Machine
end

