-- ==== Sys2Proof/Laws/Memory.lean ====
section
/-! SUPPORT. Guest memory: the canonical form, reading after writing, and that every operation on memory keeps the form. -/

namespace Sys2Proof.Machine

/-- The canonical form, said of the list as a whole. -/
theorem cellsWf_iff (m : List Host.Cell) :
    cellsWf m = true ↔ m.Pairwise (fun x y => x.1 < y.1) ∧ ∀ c ∈ m, c.2 ≠ 0 := by
  induction m with
  | nil => simp [cellsWf]
  | cons c r ih =>
    obtain ⟨a, x⟩ := c
    cases r with
    | nil => simp [cellsWf]
    | cons d r =>
      obtain ⟨b, y⟩ := d
      simp only [cellsWf, Bool.and_eq_true, decide_eq_true_eq, ih, bne_iff_ne, ne_eq]
      constructor
      · rintro ⟨⟨hab, hx⟩, hp, hz⟩
        refine ⟨List.pairwise_cons.2 ⟨?_, hp⟩, ?_⟩
        · intro c hc
          rcases List.mem_cons.1 hc with rfl | hc
          · exact hab
          · exact lt_trans hab ((List.pairwise_cons.1 hp).1 c hc)
        · intro c hc
          rcases List.mem_cons.1 hc with rfl | hc
          · exact hx
          · exact hz c hc
      · rintro ⟨hp, hz⟩
        have h := List.pairwise_cons.1 hp
        exact ⟨⟨h.1 (b, y) (by simp), hz (a, x) (by simp)⟩, h.2, fun c hc => hz c (by simp [List.mem_cons.1 hc])⟩

theorem wf_iff (m : List Host.Cell) : Memory.wf m = true ↔ m.Pairwise (fun x y => x.1 < y.1) ∧ ∀ c ∈ m, c.2 ≠ 0 := cellsWf_iff m

theorem mem_cellSet {m : List Host.Cell} {k : Nat} {b : Byte} {c : Host.Cell} (h : c ∈ cellSet m k b) :
    c ∈ m ∨ (c = (k, b) ∧ b ≠ 0) := by
  induction m with
  | nil =>
    simp only [cellSet] at h
    split at h
    · simp at h
    · exact Or.inr ⟨by simpa using h, ‹_›⟩
  | cons d r ih =>
    obtain ⟨a, x⟩ := d
    simp only [cellSet] at h
    split at h
    · split at h
      · exact Or.inl h
      · rcases List.mem_cons.1 h with h | h
        · exact Or.inr ⟨h, ‹_›⟩
        · exact Or.inl h
    · split at h
      · split at h
        · exact Or.inl (List.mem_cons_of_mem _ h)
        · rcases List.mem_cons.1 h with h | h
          · exact Or.inr ⟨h, ‹_›⟩
          · exact Or.inl (List.mem_cons_of_mem _ h)
      · rcases List.mem_cons.1 h with h | h
        · exact Or.inl (by simp [h])
        · rcases ih h with h | h
          · exact Or.inl (List.mem_cons_of_mem _ h)
          · exact Or.inr h

theorem wf_cellSet {m : List Host.Cell} (k : Nat) (b : Byte) (h : Memory.wf m = true) : Memory.wf (cellSet m k b) = true := by
  rw [wf_iff] at h ⊢
  refine ⟨?_, fun c hc => ?_⟩
  · obtain ⟨hp, -⟩ := h
    induction m with
    | nil =>
      simp only [cellSet]
      split <;> simp
    | cons d r ih =>
      obtain ⟨a, x⟩ := d
      have hc := List.pairwise_cons.1 hp
      simp only [cellSet]
      split
      · split
        · exact hp
        · refine List.pairwise_cons.2 ⟨fun c hc' => ?_, hp⟩
          rcases List.mem_cons.1 hc' with rfl | h'
          · assumption
          · exact lt_trans ‹k < a› (hc.1 c h')
      · split
        · split
          · exact hc.2
          · subst_vars
            exact List.pairwise_cons.2 ⟨hc.1, hc.2⟩
        · refine List.pairwise_cons.2 ⟨fun c h' => ?_, ih hc.2⟩
          rcases mem_cellSet h' with h' | ⟨rfl, -⟩
          · exact hc.1 c h'
          · simp only
            omega
  · rcases mem_cellSet hc with hc | ⟨rfl, hb⟩
    · exact h.2 c hc
    · exact hb

theorem wf_cellsPut {m : List Host.Cell} (k : Nat) (l : List Byte) (h : Memory.wf m = true) : Memory.wf (cellsPut m k l) = true := by
  induction l generalizing m k with
  | nil => exact h
  | cons b r ih => exact ih (k + 1) (wf_cellSet k b h)

theorem wf_filter {m : List Host.Cell} (f : Host.Cell → Bool) (h : Memory.wf m = true) : Memory.wf (m.filter f) = true := by
  rw [wf_iff] at h ⊢
  exact ⟨h.1.filter f, fun c hc => h.2 c (List.mem_filter.1 hc).1⟩

/-- Writing bytes keeps the canonical form. -/
theorem wf_memWrite (s : State) (p a : Nat) (l : List Byte) (h : Memory.wf s.mem = true) : Memory.wf (memWrite s p a l).mem = true :=
  wf_cellsPut _ l h

/-- Zeroing a partition's memory keeps the canonical form. -/
theorem wf_memZero (s : State) (p : Nat) (h : Memory.wf s.mem = true) : Memory.wf (memZero s p).mem = true := wf_filter _ h

/-- Zeroing a partition's regions keeps the canonical form. -/
theorem wf_zeroRegions (s : State) (p : Nat) (h : Memory.wf s.mem = true) : Memory.wf (zeroRegions s p).mem = true := wf_filter _ h

/-- Taking over spans of a partition's memory keeps the canonical form. -/
theorem wf_memTake (s : State) (p : Nat) (spans : List (Nat × Nat)) (l : List (Nat × Byte)) (h : Memory.wf s.mem = true) :
    Memory.wf (memTake s p spans l).mem = true := by
  have step : ∀ (l : List (Nat × Byte)) (m : List Host.Cell), Memory.wf m = true →
      Memory.wf (l.foldl (fun m (x : Nat × Byte) => cellSet m (memKey p x.1) x.2) m) = true := by
    intro l
    induction l with
    | nil => exact fun m hm => hm
    | cons x r ih => exact fun m hm => ih _ (wf_cellSet _ _ hm)
  exact step _ _ (wf_filter _ h)

/-- What a hub reset keeps of guest memory is in canonical form. -/
theorem wf_memKept (s : State) (lost : Bool) (h : Memory.wf s.mem = true) : Memory.wf (memKept s lost) = true := by
  unfold memKept
  split
  · exact h
  · split
    · rfl
    · exact wf_filter _ h

/-- The form holds after reset. -/
theorem wf_reset : Memory.wf State.reset.mem = true := rfl

/-- An address below every entry reads zero. -/
theorem cellGet_below {m : List Host.Cell} {k : Nat} (h : ∀ c ∈ m, k < c.1) : cellGet m k = 0 := by
  induction m with
  | nil => rfl
  | cons d r ih =>
    obtain ⟨a, x⟩ := d
    have ha : k < a := h (a, x) (by simp)
    simp only [cellGet]
    split
    · omega
    · exact ih fun c hc => h c (List.mem_cons_of_mem _ hc)

/-- A read of the address written gives the byte written, whatever the list; a read elsewhere gives what it gave. -/
theorem cellGet_cellSet {m : List Host.Cell} (h : Memory.wf m = true) (k j : Nat) (b : Byte) :
    cellGet (cellSet m k b) j = if j = k then b else cellGet m j := by
  induction m with
  | nil =>
    simp only [cellSet]
    split
    · subst_vars
      simp [cellGet]
    · simp only [cellGet, eq_comm]
  | cons d r ih =>
    obtain ⟨a, x⟩ := d
    have hw := (wf_iff _).1 h
    have hc := List.pairwise_cons.1 hw.1
    have hr : Memory.wf r = true := (wf_iff _).2 ⟨hc.2, fun c h' => hw.2 c (List.mem_cons_of_mem _ h')⟩
    simp only [cellSet]
    split
    · rename_i hk
      split
      · subst_vars
        split
        · subst_vars
          exact cellGet_below fun c h' => by
            rcases List.mem_cons.1 h' with rfl | h'
            · exact hk
            · exact lt_trans hk (hc.1 c h')
        · rfl
      · simp only [cellGet, eq_comm (a := j)]
    · split
      · subst_vars
        split
        · subst_vars
          split
          · subst_vars
            exact cellGet_below hc.1
          · simp only [cellGet]
            rw [if_neg (fun e : a = j => ‹¬j = a› e.symm)]
        · simp only [cellGet, eq_comm (a := j)]
          split <;> rfl
      · simp only [cellGet, ih hr]
        split
        · subst_vars
          rw [if_neg (fun e => ‹¬k = a› e.symm)]
        · rfl

/-- Bytes written are read back, and no other address changes. -/
theorem cellGet_cellsPut {m : List Host.Cell} (h : Memory.wf m = true) (k j : Nat) (l : List Byte) :
    cellGet (cellsPut m k l) j = if k ≤ j ∧ j < k + l.length then (l[j - k]?).getD 0 else cellGet m j := by
  induction l generalizing m k with
  | nil =>
    simp only [cellsPut, List.length_nil, Nat.add_zero]
    rw [if_neg (by omega)]
  | cons b r ih =>
    simp only [cellsPut, ih (wf_cellSet k b h) (k + 1), cellGet_cellSet h, List.length_cons]
    by_cases h1 : j = k
    · subst h1
      rw [if_neg (by omega), if_pos rfl, if_pos (by omega)]
      simp
    · by_cases h2 : k + 1 ≤ j ∧ j < k + 1 + r.length
      · rw [if_pos h2, if_pos (by omega)]
        have : j - k = (j - (k + 1)) + 1 := by omega
        rw [this, List.getElem?_cons_succ]
      · rw [if_neg h2, if_neg h1, if_neg (by omega)]

end Sys2Proof.Machine
end

