-- ==== Sys2Proof/Tests/Slice0.lean ====
section
/-! SUPPORT. Tests: ill-formed commands the check refuses, small facts worked by hand from the manual, and for every statement with
hypotheses a state and operands that meet them. -/

set_option linter.unusedVariables false
set_option Elab.async false

namespace Sys2Proof.Tests

open Sys2Proof Sys2Proof.Machine

/-- Every unit READY. -/
def wRoll : Tab Roll := (List.range 31).map fun n => (n, ({ st := .ready } : Roll))

/-- The module runs in OPERATIONAL: session 0 is MGR, session 1 SEC. -/
def wRun : State :=
  { State.reset with
    ident := { romRsa := [], romSlh := [] }
    hw := { vinGood := true, holdup := 1, osc := 1 }
    boot := { phase := .run, roll := wRoll, fuseComm := true, partsUp := true, runFcl := 1, runFclMin := 1 }
    tm := { run := true, sec := 1000, quality := 1 }
    jal := { sess := [(0, { role := .mgr }), (1, { role := .sec })] } }

/-- A platform firmware's trailer whose keys the ROM of `wRom` holds. -/
def wRomObj : SignedObj :=
  { magic := [0x54, 0x5A, 0x53, 0x47], version := 1, kind := 1, rsaAnchor := 0xFF, slhAnchor := 0xFF, svn := 3, contentLength := 0, digest := [7]
    rsaN := [], rsaE := 65537, slhPk := [], running := [7], sigsOk := true }

/-- An identity whose ROM holds the hashes of that trailer's keys. -/
def wRom : Identity := { romRsa := rsaHash wRomObj, romSlh := slhHash wRomObj }

/-- A partition image's trailer, its keys in anchor rows 1 and 2. -/
def wImgObj : SignedObj := { wRomObj with kind := 2, rsaAnchor := 1, slhAnchor := 2 }

/-- A request of session n. -/
def rqN (n : Nat) : Req := { sess := n, seq := 1, reqId := 7 }

/-- Partition 0 runs; ring 0 is its, of a type and engine, with four slots. -/
def wRing (typ eng : Nat) (r : Ring) : State :=
  { wRun with
    store := [(okey 0x300010 0 0, [.n 1, .o [1], .n 1, .n 8, .n 0, .n 0, .n 0, .n 0, .n 0, .n 1, .n 0, .n 0, .n 0, .n 0, .n 0]),
              (okey 0x310010 0 0, [.n 0, .n typ, .n 64, .n 4, .n 0, .n 0, .n eng, .n 0, .n 0, .n 65535, .n 0, .n 0, .n 0, .n 255]),
              (okey 0x280120 0 0, [.n 0]),
              (okey 0x280100 0 0, [.n 1, .n 0, .n 0, .o [1, 0x0C, 0xCD, 1, 0, 1], .n 5, .n 0, .n 0, .n 1, .n 0, .n 0, .n 0, .n 2000000, .n 2, .n 1000,
                .n 2, .n 0, .n 0]),
              (okey 0x280102 0 0, [.n 1, .n 0]),
              (okey 0x440030 0 0, [.n 1, .n 1, .n 0x88B8, .o [0, 0, 0, 0, 0, 0], .n 0, .n 65535, .n 65535])]
    parts := { ps := [(0, { st := .running })] }
    pf := { parts := [(0, { tokens := 4 })] }
    tt := { rings := [(0, r)] } }

/-- Bank 1 of profile 0 is ready to be sealed. -/
def wSeal : State := { wRun with store := [(okey 0x240011 1 0, [.n 1, .n 0, .n 0, .n 0, .n 0, .n 577528503])] }

/-- Pairing enabled, both lanes up, settled and out of step; partition 0 runs in domain 0. -/
def wPair : State :=
  let b := (wRing 2 3 {}).put 0x400001 0 0 [.n 1]
  { b with
    hw := { b.hw with cages := [(6, { present := true, powered := true }), (7, { present := true, powered := true })] }
    pair := { st := 2, reason := 6, link := true, round := true, helloSent := true, heard := true, settled := some {}, eqOn := true, reentry := 2
              lanes := [(0, { st := 3 }), (1, { st := 3 })] } }

/-- wPair with the keys of the pair and a process-bus link up: fit for domain 0. -/
def wFit : State :=
  let b := wPair.put 0x480020 0 0 [.n 1, .n 1, .n 1, .n 16, .n 0, .n 0, .o beaconInfo]
  { b with
    net := { ports := [(0, { st := 2 })] }
    vault := { slots := [(1, { st := 1, attr := { kind := 3, use := 24, world := 0, masters := 4, life := 4 } })], tkeys := [(0, { st := 1 })] } }

/-! ## Ill-formed commands -/

/-- One command for each bound of a place's number: each is refused, and the largest number within the bound is not. -/
theorem test_illFormed_places :
    (wellFormed (.hubRelease 0 32 false false) || wellFormed (.unitStartComplete 0 31) || wellFormed (.diePowerUpDone 0 6) ||
      wellFormed (.d2dLinkFail 0 0 2) || wellFormed (.ccLockstepMismatch 0 2) || wellFormed (.wdtService 0 2) ||
      wellFormed (.dumpProtect 0 ⟨0, 1, 1, true, 1, 64⟩ 5) || wellFormed (.fwActivate 0 ⟨0, 1, 1, true, 1, 64⟩ 2) || wellFormed (.transceiverInsert 0 8) ||
      wellFormed (.tamperSensorEvent 0 6) || wellFormed (.jalynAckDue 0 16) || wellFormed (.linkDown 0 9)) = false ∧
    (wellFormed (.hubRelease 0 31 false false) && wellFormed (.unitStartComplete 0 30) && wellFormed (.diePowerUpDone 0 5) &&
      wellFormed (.dumpProtect 0 ⟨0, 1, 1, true, 1, 64⟩ 4) && wellFormed (.linkDown 0 8)) = true := by
  decide +kernel

theorem test_illFormed_units :
    (wellFormed (.supervisionTx 0 3) || wellFormed (.announceReceiptTimeout 0 6 []) || wellFormed (.learnedRateUpdate 0 2048) ||
      wellFormed (.bankSeal 0 ⟨0, 1, 1, true, 1, 64⟩ 128) || wellFormed (.profileDisarm 0 ⟨0, 1, 1, true, 1, 64⟩ 64) || wellFormed (.filterKat 0 4 true false) ||
      wellFormed (.gooseRetransmit 0 512) || wellFormed (.gooseTalExpiry 0 4096) || wellFormed (.latchListenEnd 0 64) ||
      wellFormed (.fenceComplete 0 66) || wellFormed (.ttResultRead 0 128) || wellFormed (.dmaEntry 0 256) ||
      wellFormed (.dmaEngineFault 0 8) || wellFormed (.phAckTimeout 0 1024) || wellFormed (.cycleBoundary 0 64) ||
      wellFormed (.laneUp 0 2) || wellFormed (.claimRaise 0 64) || wellFormed (.selftestCheck 0 10 true) ||
      wellFormed (.keyCommit 0 ⟨0, 1, 1, true, 1, 64⟩ 64) || wellFormed (.trafficKeyDerived 0 32) || wellFormed (.logTokenReturn 0 4096) ||
      wellFormed (.captureRearm 0 16)) = false := by
  decide +kernel

/-- A request, an address and a frame each out of its widths. -/
theorem test_illFormed_requests :
    (wellFormed (.restart 0 ⟨16, 1, 1, true, 1, 64⟩) || wellFormed (.restart 0 ⟨0, 4294967296, 1, true, 1, 64⟩) || wellFormed (.restart 0 ⟨0, 1, 65536, true, 1, 64⟩) ||
      wellFormed (.readMsg 0 ⟨0, 1, 1, true, 1, 64⟩ false [⟨256, 0, 0⟩]) || wellFormed (.readMsg 0 ⟨0, 1, 1, true, 1, 64⟩ false [⟨0, 65536, 0⟩]) ||
      wellFormed (.readMsg 0 ⟨0, 1, 1, true, 1, 64⟩ false [⟨0, 0, 65536⟩]) || wellFormed (.subscribe 0 ⟨0, 1, 1, true, 1, 64⟩ ⟨0, 0, 0⟩ 256 0 0 0) ||
      wellFormed (.presence 0 18446744073709551616 [] [])) = false := by
  decide +kernel

/-! ## Facts worked by hand -/

/-- No row of the table gives bits: no word spells a command. -/
theorem test_noWord : decodeTableWord 8 0 = none ∧ State.reset.withFetchWord 8 0 = State.reset := ⟨rfl, rfl⟩

/-- The published check values of the CRCs R445, R464 and R533 name, over the nine digits. -/
theorem test_crcs : crc32c [49, 50, 51, 52, 53, 54, 55, 56, 57] = 0xE3069283 ∧
    crc64 [49, 50, 51, 52, 53, 54, 55, 56, 57] = 0x995DC9BBDF1939FA ∧ crcBolpel [49, 50, 51, 52, 53, 54, 55, 56, 57] = 0xFC891918 := by
  decide +kernel

/-- FIPS 180's one-block example. -/
theorem test_sha256 : (sha256 [97, 98, 99]).take 8 = [0xBA, 0x78, 0x16, 0xBF, 0x8F, 0x01, 0xCF, 0xEA] := by
  decide +kernel

/-- FIPS 180's one-block example of SHA-384, and RFC 4231's second case of its HMAC. -/
theorem test_sha384 : (sha384 [97, 98, 99]).take 8 = [0xCB, 0x00, 0x75, 0x3F, 0x45, 0xA3, 0x5E, 0x8B] := by
  decide +kernel

theorem test_hmac384 : (hmac384 [74, 101, 102, 101] ("what do ya want for nothing?".toList.map fun c => BitVec.ofNat 8 c.toNat)).take 8 =
    [0xAF, 0x45, 0xD2, 0xE3, 0x76, 0x48, 0x40, 0x31] := by
  decide +kernel

/-- 2024-02-29 23:59:59 is 1,709,251,199 s after 1970; the RTC's year 2000 begins 946,684,800 s after it (R519). -/
theorem test_calendar : calSecs { year := 2024, month := 2, day := 29, hour := 23, min := 59, sec := 59 } = 1709251199 ∧
    calSecs {} = 946684800 ∧ calOk { year := 2023, month := 2, day := 29 } = false := by
  decide +kernel

/-- R235: the row of index 5 of second 1000 at 4,800 samples/s is 4,800,005. -/
theorem test_rowNumber : rowOf 5 4800 (1000 * 1000000000 + 1041667) = 4800005 := by
  decide +kernel

/-- R105: with slots 0 PROTECTED, 1 and 3 VALID and 2 VALID and oldest, the writer chooses slot 2. -/
theorem test_dumpSlot : dumpSlot { wRun with boot := { wRun.boot with
    dumps := [(0, { st := 2, time := 1 }), (1, { st := 1, time := 7 }), (2, { st := 1, time := 5 }), (3, { st := 1, time := 6 })] } } = some 2 := by
  decide +kernel

/-- R38: a tripped cage reports OVERCURRENT and loses its power. -/
theorem test_cageOvercurrent :
    (match exec (.cageOvercurrent 0 2) { wRun with hw := { wRun.hw with cages := [(2, { present := true, powered := true })] } } with
      | .next t => (cageOf t 2).powered
      | _ => true) = false := by
  decide +kernel

/-- R54, R208: two ticks of 2 ns carry the counter from 999,999,997 ns into the next second. -/
theorem test_rollover :
    (match exec (.secondRollover 2) { wRun with tm := { wRun.tm with ns := 999999997 } } with
      | .next t => (t.tm.sec, t.tm.ns)
      | _ => (0, 0)) = (1001, 1) := by
  decide +kernel

theorem wit_SupplyEventsHubResetsAndRelease :
    (let s := State.reset; let a := advance 0 s; (a.hw.vinGood = false) ∧ (a.hw.pf = false) ∧ (a.boot.phase = .reset)) ∧
    (let s := { wRun with hw := { vinGood := true } }; let a := advance 0 s; (a.hw.vinGood = true) ∧ (a.hw.holdup = 0)) ∧
    (let s := { wRun with hw := { vinGood := true } }; let a := advance 0 s; (a.hw.osc = 0) ∧ (a.hw.vinGood = true)) ∧
    (let s := wRun; let a := advance 0 s; let ov := true; (a.hw.pf = false) ∧ (a.hw.vinGood = true) ∧ (a.hw.holdup = 1)) := by
  decide +kernel
theorem wit_SupplyEventsHubResetsAndRelease_2 :
    (let s := { wRun with hw := { vinGood := true } }; let a := advance 0 s; let ov := false; (a.hw.pf = false) ∧ (a.hw.vinGood =
      true) ∧ (a.hw.holdup ≠ 1)) ∧
    (let s := { wRun with hw := { pf := true, rideDue := some 20000000, holdup := 2 } }; let a := advance 0 s; (a.hw.pf = true) ∧
      (dueBy a a.hw.rideDue = false)) ∧
    (let s := { State.reset with hw := { seated := false, loopOpen := true } }; let a := advance 0 s; (a.hw.seated = false)) ∧
    (let s := { State.reset with hw := { vinGood := true, hubDue := some 0 } }; let a := advance 0 s; let ga := 5; let gap := true;
      let selB := false; (a.boot.phase = .reset) ∧ (a.hw.vinGood = true) ∧ (dueBy a a.hw.hubDue = true) ∧ (life a < 3)) := by
  decide +kernel
theorem wit_SupplyEventsHubResetsAndRelease_3 :
    (let s := { State.reset with hw := { vinGood := true, hubDue := some 0 }, boot := { State.reset.boot with fuseComm := true, qLatch := true } };
      let a := advance 0 s; let ga := 5; let gap := true; let selB := false; (a.boot.phase = .reset) ∧ (a.hw.vinGood = true) ∧
      (dueBy a a.hw.hubDue = true) ∧ (3 ≤ life a)) ∧
    (let s := { wRun with hw := { pf := true, rideDue := some 0, holdup := 2 } }; let a := advance 0 s; (a.hw.pf = true) ∧
      (dueBy a a.hw.rideDue = true)) ∧
    (let s := wRun; let a := advance 0 s; let rq := rqN 0; (cmdRuns a rq 0x010014 0 [] = true)) := by
  decide +kernel

theorem wit_FirmwareStartsFromAVerifiedSlot :
    (let s := { wRun with boot := { wRun.boot with phase := .rom } }; let a := advance 0 s; (a.boot.phase = .rom)) ∧
    (let s := { wRun with ident := wRom, boot := { wRun.boot with phase := .verify } }; let a := advance 0 s; let obj := wRomObj;
      (a.boot.phase = .verify) ∧ (fwFail a obj = 0)) ∧
    (let s := { wRun with boot := { wRun.boot with phase := .verify } }; let a := advance 0 s; let obj := { wRomObj with magic := [] };
      (a.boot.phase = .verify) ∧ (fwFail a obj ≠ 0) ∧ (a.boot.triedOther = false)) ∧
    (let s := { wRun with boot := { wRun.boot with phase := .verify, triedOther := true } }; let a := advance 0 s;
      let obj := { wRomObj with svn := 0, version := 2 }; (a.boot.phase = .verify) ∧ (fwFail a obj ≠ 0) ∧ (a.boot.triedOther =
      true)) := by
  decide +kernel
theorem wit_FirmwareStartsFromAVerifiedSlot_2 :
    (let s := { wRun with boot := { wRun.boot with roll := [(7, { st := .starting })] } }; let a := advance 0 s; let sub := 7;
      (unitSt a sub = .starting) ∧ (hubUpNow a = true ∨ a.boot.phase = .halt) ∧ (sub ≤ 23) ∧ (keysWait a sub = false)) ∧
    (let s := { wRun with store := [(okey 0x480020 2 0, [.n 1])], vault := { tkeys := [(2, { st := 3 })] } }; let a := advance 0 s;
      let sub := 10; (keysWait a sub = true)) ∧
    (let s := wRun; let a := advance 0 s; let rq := rqN 0; let slot := 1; (cmdRuns a rq 0x010021 0 [.n slot] = true) ∧ (a.boot.fwApply =
      none) ∧ (¬(running a = true ∧ slot = a.boot.bootSlot))) ∧
    (let s := wRun; let a := advance 0 s; let rq := rqN 0; let slot := 0; (cmdRuns a rq 0x010021 0 [.n slot] = true) ∧ (a.boot.fwApply =
      none) ∧ (running a = true) ∧ (slot = a.boot.bootSlot)) := by
  decide +kernel
theorem wit_FirmwareStartsFromAVerifiedSlot_3 :
    (let s := { wRun with ident := wRom, boot := { wRun.boot with fwApply := some (1, 1, 7) } }; let a := advance 0 s;
      let obj := { wRomObj with magic := [] }; let slot := 1; let n := 1; let r := 7; (a.boot.fwApply = some (slot, n, r)) ∧
      (signedFail a 1 a.boot.svnMin obj ≠ 0)) ∧
    (let s := { wRun with ident := wRom, boot := { wRun.boot with phase := .recovery, fwApply := some (1, 1, 7) } };
      let a := advance 0 s; let obj := wRomObj; let slot := 1; let n := 1; let r := 7; (a.boot.fwApply = some (slot, n, r)) ∧
      (signedFail a 1 a.boot.svnMin obj = 0) ∧ (a.boot.phase = .recovery) ∧ (slot < 2)) ∧
    (let s := { wRun with ident := wRom, boot := { wRun.boot with fwApply := some (1, 1, 7) } }; let a := advance 0 s;
      let obj := wRomObj; let slot := 1; let n := 1; let r := 7; (a.boot.fwApply = some (slot, n, r)) ∧
      (signedFail a 1 a.boot.svnMin obj = 0) ∧ (a.boot.phase ≠ .recovery)) ∧
    (let s := { wRun with boot := { wRun.boot with slots := [(1, { st := 1 })] } }; let a := advance 0 s; let rq := rqN 0;
      let slot := 1; (cmdRuns a rq 0x010022 0 [.n slot] = true) ∧ ((fwOf a slot).st = 1) ∧ (slot < 2)) := by
  decide +kernel
theorem wit_FirmwareStartsFromAVerifiedSlot_4 :
    (let s := wRun; let a := advance 0 s; let rq := rqN 0; let slot := 1; (cmdRuns a rq 0x010022 0 [.n slot] = true) ∧
      ((fwOf a slot).st ≠ 1)) ∧
    (let s := { wRun with boot := { wRun.boot with slots := [(1, { st := 1, svn := 0 })], runSvn := 3 } }; let a := advance 0 s;
      let rq := rqN 1; (cmdRuns a rq 0x480040 0 [] = true) ∧ ((fwOf a (1 - a.boot.bootSlot)).st = 1) ∧
      ((fwOf a (1 - a.boot.bootSlot)).svn < a.boot.runSvn)) ∧
    (let s := wRun; let a := advance 0 s; let rq := rqN 1; (cmdRuns a rq 0x480040 0 [] = true) ∧ (¬((fwOf a (1 - a.boot.bootSlot)).st =
      1 ∧ (fwOf a (1 - a.boot.bootSlot)).svn < a.boot.runSvn))) := by
  decide +kernel

theorem wit_FatalErrorsFreezeTheHub :
    (let s := wRun; let a := advance 0 s; let cause := 7; (1 ≤ cause) ∧ (cause ≤ 7) ∧ (hubUpNow a = true) ∧ (pfRuns a = false)) ∧
    (let s := { wRun with hw := { wRun.hw with pfSeq := some 9 } }; let a := advance 0 s; let cause := 7; (1 ≤ cause) ∧ (cause ≤ 7) ∧
      (pfRuns a = true)) ∧
    (let s := { wRun with boot := { wRun.boot with phase := .dump, dumpNow := some 2 } }; let a := advance 0 s; let die := 0;
      let milliC := 125000; let k := 2; (die ≤ 1 + dieCount a) ∧ (milliC ≥ 125000) ∧ (pfRuns a = false) ∧ (a.boot.phase = .dump) ∧
      (a.boot.dumpNow = some k) ∧ (k < 4)) ∧
    (let s := wRun; let a := advance 0 s; let pair := 1; (pair < 2) ∧ (hubUpNow a = true) ∧ (pfRuns a = false)) := by
  decide +kernel
theorem wit_FatalErrorsFreezeTheHub_2 :
    (let s := wRun; let a := advance 0 s; let die := 0; let milliC := 125000; (die ≤ 1 + dieCount a) ∧ (milliC ≥ 125000) ∧ (hubUpNow a =
      true) ∧ (pfRuns a = false)) ∧
    (let s := { wRun with now := 9, parts := { ps := [(3, { st := .resetting, fence := some (8, 0) })] } }; let a := advance 0 s;
      let p := 3; let x := (8, 0); ((partOf a p).fence = some x) ∧ (x.1 < a.now) ∧ (running a = true) ∧ (pfRuns a = false)) ∧
    (let s := { wRun with now := 50000000 }; let a := advance 0 s; (running a = true) ∧ (wdtEnd a 0 ≤ a.now) ∧ (pfRuns a = false)) ∧
    (let s := { wRun with now := 9, boot := { wRun.boot with wdt1 := { last := some 0 } } }; let a := advance 0 s; let pair := 1;
      let u := 0; (pair ≤ 1) ∧ (running a = true) ∧ ((wdtOf a pair).last = some u) ∧ (4 * (a.now - u) < a.boot.wdtPeriod) ∧ (pfRuns a =
      false)) := by
  decide +kernel
theorem wit_FatalErrorsFreezeTheHub_3 :
    (let s := { wRun with now := 50000000, boot := { wRun.boot with wdt1 := { last := some 0 } } }; let a := advance 0 s; let pair := 1;
      let u := 0; (pair ≤ 1) ∧ (running a = true) ∧ ((wdtOf a pair).last = some u) ∧ (a.boot.wdtPeriod ≤ 4 * (a.now - u)) ∧
      (a.now ≤ wdtEnd a pair) ∧ (a.boot.wdtBoot = none)) ∧
    (let s := { wRun with lg := { noticeOut := [(0, 0, 0)] } }; let a := advance 0 s; (running a = true) ∧ (pfRuns a = false) ∧
      ((a.lg.noticeOut.any fun (n, q, u) => decide (u ≤ a.now) && !noticeSent a n q) = true)) := by
  decide +kernel

theorem wit_DumpSlotsLampsAndTemperature :
    (let s := { wRun with boot := { wRun.boot with phase := .dump, dumpNow := some 2 } }; let a := advance 0 s; let k := 2;
      (a.boot.phase = .dump) ∧ (a.boot.dumpNow = some k) ∧ (k < 4)) ∧
    (let s := { wRun with boot := { wRun.boot with dumps := [(2, { st := 1 })] } }; let a := advance 0 s; let rq := rqN 0;
      let slot := 2; (cmdRuns a rq 0x700015 slot [] = true) ∧ ((dumpOf a slot).st = 1)) ∧
    (let s := wRun; let a := advance 0 s; let rq := rqN 0; let slot := 2; (cmdRuns a rq 0x700015 slot [] = true) ∧
      ((dumpOf a slot).st ≠ 1)) ∧
    (let s := { wRun with boot := { wRun.boot with phase := .dump } }; let a := advance 0 s; (a.boot.phase = .dump) ∧ (a.boot.dumpNow =
      none)) := by
  decide +kernel
theorem wit_DumpSlotsLampsAndTemperature_2 :
    (let s := wRun; let a := advance 0 s; let rq := rqN 0; let slot := 4; (cmdRuns a rq 0x700016 slot [] = true)) ∧
    (let s := wRun; let a := advance 0 s; let rq := rqN 0; (cmdRuns a rq 0x600140 0 [] = true)) ∧
    (let s := { wRun with hw := { wRun.hw with lampEnd := some 0 } }; let a := advance 0 s; (dueBy a a.hw.lampEnd = true)) ∧
    (let s := wRun; let a := advance 0 s; let die := 7; let milliC := 110000; (die ≤ 1 + dieCount a) ∧ (milliC ≥ 110000) ∧ (hubUpNow a =
      true)) := by
  decide +kernel

theorem wit_LifeCycleCommands :
    (let s := { wRun with boot := { wRun.boot with fuseComm := false }, store := [(okey 0x480030 1 0, [.n 1, .n 7, .n 0, .o [1]]), (okey 0x480030 2 0, [.n 1, .n 7, .n 1, .o [2]])] };
      let a := advance 0 s; let rq := rqN 1; (cmdRuns a rq 0x010003 0 [] = true) ∧ (life a = 1) ∧ (anchorSet a = true)) ∧
    (let s := wRun; let a := advance 0 s; let rq := rqN 1; (cmdRuns a rq 0x010003 0 [] = true) ∧ (life a ≠ 1 ∨ anchorSet a = false)) ∧
    (let s := { wRun with boot := { wRun.boot with fuseComm := false } }; let a := advance 0 s; let rq := rqN 1;
      (cmdRuns a rq 0x010004 0 [] = true) ∧ (life a ≠ 2)) ∧
    (let s := wRun; let a := advance 0 s; let rq := rqN 1; (cmdRuns a rq 0x010004 0 [] = true) ∧ (life a = 2)) := by
  decide +kernel
theorem wit_LifeCycleCommands_2 :
    (let s := { wRun with boot := { wRun.boot with qLatch := true, phase := .gateway } }; let a := advance 0 s; let rq := rqN 1;
      (cmdRuns a rq 0x010005 0 [] = true) ∧ (life a = 3) ∧ (activeOn a = 0)) ∧
    (let s := { wRun with boot := { wRun.boot with qLatch := true, phase := .gateway }, vault := { tamper := 4 }, store := [(okey 0x4C0002 2 0, [.n 1])] };
      let a := advance 0 s; let rq := rqN 1; (cmdRuns a rq 0x010005 0 [] = true) ∧ (life a = 3) ∧ (activeOn a ≠ 0)) ∧
    (let s := wRun; let a := advance 0 s; let rq := rqN 1; let serial := [9]; (cmdRuns a rq 0x010006 0 [.o serial] = true) ∧
      (trimZ serial ≠ trimZ a.ident.serial)) ∧
    (let s := wRun; let a := advance 0 s; let rq := rqN 1; let serial := []; (cmdRuns a rq 0x010006 0 [.o serial] = true) ∧ (life a =
      1 ∨ life a = 2 ∨ life a = 3) ∧ (trimZ serial = trimZ a.ident.serial)) := by
  decide +kernel

theorem wit_CagesAndTransceivers :
    (let s := wRun; let a := advance 0 s; let cage := 7; (cageFits a cage = true) ∧ ((cageOf a cage).present = false)) ∧
    (let s := { wRun with hw := { wRun.hw with cages := [(5, { present := true, onDue := some 0 })] } }; let a := advance 0 s;
      let cage := 5; (cageFits a cage = true) ∧ ((cageOf a cage).present = true) ∧ ((cageOf a cage).tripped = false) ∧
      (dueBy a (cageOf a cage).onDue = true)) ∧
    (let s := { wRun with hw := { wRun.hw with cages := [(1, { present := true, powered := true })] }, net := { ports := [(1, { st := 2, speed := 1000 })] } };
      let a := advance 0 s; let cage := 1; ((cageOf a cage).present = true)) ∧
    (let s := { wRun with hw := { wRun.hw with cages := [(7, { present := true, powered := true })] } }; let a := advance 0 s;
      let cage := 7; ((cageOf a cage).powered = true)) := by
  decide +kernel
theorem wit_CagesAndTransceivers_2 :
    (let s := wRun; let a := advance 0 s; let rq := rqN 0; let cage := 2; (cmdRuns a rq 0x600112 cage [] = true) ∧
      ((cageOf a cage).tripped = false)) ∧
    (let s := { wRun with hw := { wRun.hw with cages := [(2, { present := true, tripped := true })] } }; let a := advance 0 s;
      let rq := rqN 0; let cage := 2; (cmdRuns a rq 0x600112 cage [] = true) ∧ ((cageOf a cage).tripped = true)) ∧
    (let s := { wRun with hw := { wRun.hw with cages := [(2, { present := true, powered := true })] } }; let a := advance 0 s;
      let cage := 2; let id := (⟨3, 7, [], [], [], [], 850, true, true, false, true⟩ : SfpId); ((cageOf a cage).powered = true)) ∧
    (let s := { wRun with hw := { wRun.hw with cages := [(2, { present := true, powered := true })] }, net := { ports := [(2, { sfp := some ⟨3, 7, [], [], [], [], 850, true, true, false, true⟩ })] } };
      let a := advance 0 s; let cage := 2; let ddm := (⟨1, 2, 3, 4, 5⟩ : SfpDdm); let id := (⟨3, 7, [], [], [], [], 850, true, true,
      false, true⟩ : SfpId); ((portOf a cage).sfp = some id) ∧ (id.ddm = true) ∧ ((cageOf a cage).powered = true) ∧ (∀ u,
      (portOf a cage).ddmAt = some u → u + 1000000000 ≤ a.now)) := by
  decide +kernel

theorem wit_LinksAndPauseEnd :
    (let s := { wRun with net := { ports := [(5, { st := 2, speed := 1000 })] }, hw := { wRun.hw with cages := [(5, { present := true, powered := true })] } };
      let a := advance 0 s; let port := 5; (port < 6 ∨ port = 8) ∧ (linkUp a port = true)) ∧
    (let s := wRun; let a := advance 0 s; let port := 8; let speed := 1000; let partner := 0; (port < 6 ∨ port = 8) ∧
      (unitOk a (portUnit port) = true) ∧ (adminOn a port = true) ∧ (linkUp a port = false) ∧ ((portOf a port).hold = none) ∧ (port =
      8 ∨ (cageOf a port).powered = true ∧ modeSpeed a port = some speed) ∧ (speedClash a port speed = false)) ∧
    (let s := { wRun with net := { ports := [(3, { hold := some 0 })] } }; let a := advance 0 s; let port := 3;
      (dueBy a (portOf a port).hold = true)) ∧
    (let s := wRun; let a := advance 0 s; let rq := rqN 0; let port := 1; let on := true; (writeRuns a rq 0x100001 port [.n (b2n on)] =
      true)) := by
  decide +kernel
theorem wit_LinksAndPauseEnd_2 :
    (let s := wRun.put 0x110001 0 0 [.n 0]; let a := advance 0 s; let rq := rqN 0; let port := 1; let mode := 2;
      (writeRuns a rq 0x100002 port [.n mode] = true) ∧ (port < 6) ∧ (modeOk port mode = true) ∧ (gmode a (groupOf port) = 0) ∧
      (a.vn 0x100002 port ≠ mode)) ∧
    (let s := { wRun with net := { ports := [(3, { pauseFrom := some 0, pauseEnd := 0 })] } }; let a := advance 0 s; let port := 3;
      ((portOf a port).pauseFrom.isSome = true) ∧ ((portOf a port).pauseEnd ≤ a.now)) ∧
    (let s := { wRun with now := 1000000000, net := { ports := [(3, { pauseFrom := some 0, pauseEnd := 2000000000 })] } };
      let a := advance 0 s; let port := 3; let u := 0; ((portOf a port).pauseFrom = some u) ∧ (u + a.vn 0x440010 port ≤ a.now)) ∧
    (let s := { wRun with net := { ports := [(3, { lockEnd := some 0 })] } }; let a := advance 0 s; let port := 3;
      (dueBy a (portOf a port).lockEnd = true)) := by
  decide +kernel
theorem wit_LinksAndPauseEnd_3 :
    (let s := { wRun with now := 60000000000, net := { nodes := [(nodeKey 1 5, {})] } }; let a := advance 0 s; let group := 1;
      let mac := 5; let e := ({} : Node); (tabGet a.net.nodes (nodeKey group mac) = some e) ∧ (e.seen + 60000000000 ≤ a.now)) := by
  decide +kernel

theorem wit_FramesLeaveAndArrive :
    (let s := { wRun with net := { ports := [(8, { st := 2, speed := 1000 })] } }; let a := advance 0 s; let port := 8; let f := (⟨60,
      true, 1, 2, none, 0x88F7, none, none, .iul⟩ : Frame); (port ≤ 8) ∧ (linkUp a port = true) ∧ (unitOk a (portUnit port) = true) ∧
      (running a = true) ∧ (f.len < 64)) ∧
    (let s := { wRun with net := { ports := [(8, { st := 2, speed := 1000 })] } }; let a := advance 0 s; let port := 8; let f := (⟨1537,
      true, 1, 2, none, 0x88F7, none, none, .iul⟩ : Frame); (port ≤ 8) ∧ (linkUp a port = true) ∧ (unitOk a (portUnit port) = true) ∧
      (running a = true) ∧ (f.len > 1536)) ∧
    (let s := { wRun with net := { ports := [(8, { st := 2, speed := 1000 })] } }; let a := advance 0 s; let port := 8; let f := (⟨64,
      true, 1, 2, none, 0x88F7, none, none, .iul⟩ : Frame); (port = 8 ∨ port = 4 ∨ port = 5) ∧ (linkUp a port = true) ∧
      (unitOk a (portUnit port) = true) ∧ (running a = true) ∧ (64 ≤ f.len) ∧ (f.len ≤ 1536) ∧ (f.fcsOk = true) ∧ (f.etype ≠ 0x8808) ∧
      (dstOk a port f = false)) ∧
    (let s := { wRun with store := [(okey 0x110001 0 0, [.n 1])], net := { ports := [(1, { st := 2, speed := 1000 })] }, hw := { wRun.hw with cages := [(1, { present := true, powered := true })] } };
      let a := advance 0 s; let port := 1; let f := (⟨64, true, 0x01154E000100, 2, none, 0x88FB, none, none, .supervision 9⟩ : Frame);
      let src := 9; (port < 4) ∧ (linkUp a port = true) ∧ (unitOk a (portUnit port) = true) ∧ (running a = true) ∧ (64 ≤ f.len) ∧
      (f.len ≤ 1536) ∧ (f.fcsOk = true) ∧ (f.etype = 0x88FB) ∧ (f.body = .supervision src) ∧ (f.rct = none) ∧ (gmode a (groupOf port) =
      1) ∧ (f.dst = 0x01154E000100 + a.vn 0x110002 0) ∧ (vlanOk a port (effTag a port f).1 = true) ∧ (a.net.nodes.length < 4096)) := by
  decide +kernel
theorem wit_FramesLeaveAndArrive_2 :
    (let s := { wRun with net := { ports := [(1, { st := 2, wire := some { job := 0, cls := 5, len := 100, what := .supervision 0 0 } })], jobs := [(0, { owner := .none, copies := 1, cls := 5 })] } };
      let a := advance 0 s; let port := 1; let f := ({ job := 0, cls := 5, len := 100, what := .supervision 0 0 } : TxFrame);
      (port < 6 ∨ port = 8) ∧ ((portOf a port).wire = some f) ∧ ((portOf a port).q = []) ∧ ((portOf a port).lq = []) ∧
      ((a.tt.rings.all fun (_, r) => r.taken == r.prod) = true)) ∧
    (let s := { wRun with net := { ports := [(1, { st := 2, speed := 1000, wire := some { job := 0, cls := 5, len := 100, what := .supervision 0 0 }, q := [{ job := 0, cls := 5, len := 100, what := .supervision 0 0 }] })], jobs := [(0, { owner := .none, copies := 2, cls := 5 })] }, hw := { wRun.hw with cages := [(1, { present := true, powered := true })] } };
      let a := advance 0 s; let port := 1; let f := ({ job := 0, cls := 5, len := 100, what := .supervision 0 0 } : TxFrame);
      let g := ({ job := 0, cls := 5, len := 100, what := .supervision 0 0 } : TxFrame); let r := ([] : List TxFrame); (port < 6 ∨
      port = 8) ∧ ((portOf a port).wire = some f) ∧ ((portOf a port).q = g :: r) ∧ ((r.all fun x => x.cls == g.cls) = true) ∧
      ((portOf a port).lq = []) ∧ (linkUp a port = true) ∧ (paused a port = false) ∧ (shaped a port g.cls = false) ∧ (isMig g.what =
      false) ∧ (isLate a port false g = false) ∧ (staleCtr a g = none) ∧ ((a.tt.rings.all fun (_, r) => r.taken == r.prod) = true)) ∧
    (let s := { wRun with net := { ports := [(1, { st := 2, lq := [{ job := 0, cls := 5, len := 100, launch := some 0, what := .supervision 0 0 }], wire := some { job := 0, cls := 5, len := 100, what := .supervision 0 0 } })] } };
      let a := advance 0 s; let port := 1;
      let f := ({ job := 0, cls := 5, len := 100, launch := some 0, what := .supervision 0 0 } : TxFrame); let r := ([] : List TxFrame);
      ((portOf a port).lq = f :: r) ∧ (f.launch.getD 0 ≤ tai a) ∧ ((portOf a port).wire.isSome = true) ∧ ((a.tt.rings.all fun (_, r) =>
      r.taken == r.prod) = true)) ∧
    (let s := { wRun with net := { ports := [(1, { st := 2, lq := [{ job := 0, cls := 5, len := 100, launch := some 0, what := .supervision 0 0 }], wire := some { job := 0, cls := 5, len := 100, what := .supervision 0 0 } })] } };
      let a := advance 0 s; let port := 1;
      let f := ({ job := 0, cls := 5, len := 100, launch := some 0, what := .supervision 0 0 } : TxFrame); ((portOf a port).lq = [f]) ∧
      ((portOf a port).q = []) ∧ (isLate a port true f = true) ∧ (f.dropLate = false) ∧ ((portOf a port).wire.isSome = true) ∧
      (linkUp a port = true) ∧ ((a.tt.rings.all fun (_, r) => r.taken == r.prod) = true)) := by
  decide +kernel
theorem wit_FramesLeaveAndArrive_3 :
    (let s := { wRun with store := [(okey 0x110001 0 0, [.n 1])], net := { ports := [(0, { st := 2, speed := 1000 })] }, hw := { wRun.hw with cages := [(0, { present := true, powered := true })] } };
      let a := advance 0 s; let group := 0; (group ≤ 2) ∧ (gmode a group ≠ 0) ∧ (life a = 2) ∧ (running a = true) ∧
      (unitOk a (portUnit (2 * group)) = true) ∧ (tabGetD a.net.superDue group 0 ≤ a.now)) := by
  decide +kernel

theorem wit_TimeCounterServoAndSteps :
    (let dt := 2; let s := { wRun with tm := { wRun.tm with ns := 999999996 } }; let a := advance dt s; (s.tm.run = true) ∧ (s.tm.slew =
      0) ∧ (s.tm.incr = 0x200000000) ∧ (s.tm.frac < 4294967296) ∧ (s.tm.ns + 2 * dt = 1000000000)) ∧
    (let s := wRun; let a := advance 0 s; let incr := 8585639689; (1999 * 4294967296 ≤ 1000 * incr) ∧
      (1000 * incr ≤ 2001 * 4294967296)) ∧
    (let s := wRun; let a := advance 0 s; (a.tm.slew = 0)) ∧
    (let s := wRun; let a := advance 0 s; let rq := rqN 0; let x := (1000000000900 : Int); (cmdRuns a rq 0x18000F 0 [.i x] = true) ∧
      (a.tm.source = 0) ∧ (0 ≤ x) ∧ (a.tm.frac < 4294967296) ∧ ((x - tai a).natAbs ≤ a.vn 0x440020 0)) := by
  decide +kernel
theorem wit_TimeCounterServoAndSteps_2 :
    (let s := wRun; let a := advance 0 s; let rq := rqN 0; let d := (-5 : Int); (cmdRuns a rq 0x180010 0 [.i d] = true) ∧ (a.tm.source =
      0) ∧ (0 ≤ tai a + d) ∧ (a.tm.frac < 4294967296) ∧ (d.natAbs ≤ a.vn 0x440020 0)) ∧
    (let s := wRun; let a := advance 0 s; let rq := rqN 0; let d := (2000000000000 : Int); (cmdRuns a rq 0x180010 0 [.i d] = true) ∧
      (a.tm.source = 0) ∧ (a.vn 0x440020 0 < d.natAbs) ∧ ((a.tm.freeSince && a.tm.quality == 2) = false)) ∧
    (let s := wRun; let a := advance 0 s; let rq := rqN 0; let x := (9000000000000 : Int); (cmdRuns a rq 0x18000F 0 [.i x] = true) ∧
      (a.tm.source = 0) ∧ (a.vn 0x440020 0 < (x - tai a).natAbs) ∧ ((a.tm.freeSince && a.tm.quality == 2) = false)) ∧
    (let s := { wRun with tm := { wRun.tm with source := 1 } }; let a := advance 0 s; let rq := rqN 0; let x := (9000000000000 : Int);
      (cmdRuns a rq 0x18000F 0 [.i x] = true) ∧ (a.tm.source ≠ 0)) := by
  decide +kernel
theorem wit_TimeCounterServoAndSteps_3 :
    (let s := { wRun with tm := { wRun.tm with source := 1 } }; let a := advance 0 s; let rq := rqN 0; let d := (5 : Int);
      (cmdRuns a rq 0x180010 0 [.i d] = true) ∧ (a.tm.source ≠ 0)) ∧
    (let s := { wRun with tm := { wRun.tm with quality := 2, freeSince := true } }; let a := advance 0 s; let rq := rqN 0;
      let d := (2000000000000 : Int); (cmdRuns a rq 0x180010 0 [.i d] = true) ∧ (a.tm.source = 0) ∧ (0 ≤ tai a + d) ∧
      (a.tm.frac < 4294967296) ∧ (a.tm.freeSince = true) ∧ (a.tm.quality = 2)) ∧
    (let s := { wRun with tm := { wRun.tm with held := true, heldAmt := 77 } }; let a := advance 0 s; let rq := rqN 1;
      let maxOffset := (76 : Int); (cmdRuns a rq 0x440021 0 [.i maxOffset] = true) ∧ (a.tm.held = true) ∧
      (maxOffset < (a.tm.heldAmt.natAbs : Int))) ∧
    (let s := wRun; let a := advance 0 s; let rq := rqN 1; let maxOffset := (76 : Int); (cmdRuns a rq 0x440021 0 [.i maxOffset] =
      true) ∧ (a.tm.held = false)) := by
  decide +kernel
theorem wit_TimeCounterServoAndSteps_4 :
    (let s := { wRun with tm := { wRun.tm with held := true, heldAmt := 77 } }; let a := advance 0 s; let rq := rqN 1;
      let maxOffset := (77 : Int); (cmdRuns a rq 0x440021 0 [.i maxOffset] = true) ∧ (a.tm.held = true) ∧
      ((a.tm.heldAmt.natAbs : Int) ≤ maxOffset) ∧ (0 ≤ tai a + a.tm.heldAmt) ∧ (a.tm.frac < 4294967296)) ∧
    (let s := { wRun with tm := { wRun.tm with leap := 2 } }; let a := advance 0 s; (a.tm.leap ≠ 0) ∧ (a.tm.leapAt ≤ tai a)) := by
  decide +kernel

theorem wit_TimeQualityAndPtp :
    (let s := { wRun with now := 2200000000, tm := { wRun.tm with quality := 0 } }; let a := advance 0 s;
      (a.tm.lastMeas + 2200000000 ≤ a.now) ∧ (a.tm.quality = 0)) ∧
    (let s := { wRun with now := 3600000000000 }; let a := advance 0 s; (a.tm.quality = 1) ∧
      (a.tm.holdAt + a.vn 0x180008 0 * 1000000000 ≤ a.now)) ∧
    (let s := { wRun with now := 3000000000, tm := { wRun.tm with ports := [(2, { lastAnn := some 0 })] } }; let a := advance 0 s;
      let port := 2; let also := ([] : List Nat); let u := 0; ((ptpOf a port).lastAnn = some u) ∧ (u + 3000000000 ≤ a.now)) ∧
    (let s := { wRun with tm := { wRun.tm with ports := [(1, { st := 6 })] }, net := { ports := [(1, { st := 2, speed := 1000 })] }, hw := { wRun.hw with cages := [(1, { present := true, powered := true })] } };
      let a := advance 0 s; let port := 1; (life a = 1 ∨ life a = 2) ∧ (ptpRuns a port = true) ∧ ((ptpOf a port).st = 6) ∧
      (linkUp a port = true) ∧ ((ptpOf a port).syncDue ≤ a.now)) := by
  decide +kernel
theorem wit_TimeQualityAndPtp_2 :
    (let s := { wRun with tm := { wRun.tm with ports := [(1, { st := 6 })] }, net := { ports := [(1, { st := 2, speed := 1000 })] }, hw := { wRun.hw with cages := [(1, { present := true, powered := true })] } };
      let a := advance 0 s; let port := 1; (life a = 1 ∨ life a = 2) ∧ (ptpRuns a port = true) ∧ ((ptpOf a port).st = 6) ∧
      (linkUp a port = true) ∧ ((ptpOf a port).annDue ≤ a.now)) ∧
    (let s := { wRun with net := { ports := [(1, { st := 2, speed := 1000 })] }, hw := { wRun.hw with cages := [(1, { present := true, powered := true })] } };
      let a := advance 0 s; let port := 1; (life a = 1 ∨ life a = 2) ∧ (ptpRuns a port = true) ∧ ((ptpOf a port).st ≠ 2) ∧
      (linkUp a port = true) ∧ ((ptpOf a port).reqDue ≤ a.now) ∧ ((ptpOf a port).waiting = false)) ∧
    (let s := { wRun with tm := { wRun.tm with ports := [(1, { waiting := true, missed := 2 })] }, net := { ports := [(1, { st := 2, speed := 1000 })] }, hw := { wRun.hw with cages := [(1, { present := true, powered := true })] } };
      let a := advance 0 s; let port := 1; (ptpRuns a port = true) ∧ ((ptpOf a port).st ≠ 2) ∧ (linkUp a port = true) ∧
      ((ptpOf a port).reqDue ≤ a.now) ∧ ((ptpOf a port).waiting = true) ∧ (2 ≤ (ptpOf a port).missed)) ∧
    (let s := { wRun with tm := { wRun.tm with ports := [(1, { st := 2, retry := some 0 })] }, net := { ports := [(1, { st := 2, speed := 1000 })] }, hw := { wRun.hw with cages := [(1, { present := true, powered := true })] } };
      let a := advance 0 s; let port := 1; (life a = 1 ∨ life a = 2) ∧ ((ptpOf a port).st = 2) ∧ (dueBy a (ptpOf a port).retry = true) ∧
      (linkUp a port = true)) := by
  decide +kernel
theorem wit_TimeQualityAndPtp_3 :
    (let s := wRun; let a := advance 0 s; let rq := rqN 0; let profile := 1; (writeRuns a rq 0x180021 0 [.n profile] = true) ∧
      (profile ≤ 1)) := by
  decide +kernel

theorem wit_TimingInputsAndPpsOutput :
    (let s := wRun; let a := advance 0 s; let held := 0; (held < a.vn 0x600121 0)) ∧
    (let s := wRun; let a := advance 0 s; let held := 100000; (a.vn 0x600121 0 ≤ held) ∧ (unitOk a 6 = true)) ∧
    (let s := wRun; let a := advance 0 s; let held := 0; let fr := (⟨true, 3, none, 5, none⟩ : IrigFrame); (held < a.vn 0x600123 0)) ∧
    (let s := { wRun with tm := { wRun.tm with irigGood := 2, irigLast := 1704067204 } }; let a := advance 0 s; let held := 1000000;
      let fr := (⟨true, 3, some 24, 5, none⟩ : IrigFrame); (a.vn 0x600123 0 ≤ held) ∧ (unitOk a 6 = true) ∧ (fr.ok = true) ∧
      (fr.code ≤ 7) ∧ (2 ≤ a.tm.irigGood) ∧ (irigSecond a fr = a.tm.irigLast + 1)) := by
  decide +kernel
theorem wit_TimingInputsAndPpsOutput_2 :
    (let s := { wRun with now := 1500000000 }; let a := advance 0 s; (a.tm.ppsSeen + 1500000000 ≤ a.now)) ∧
    (let s := wRun; let a := advance 0 s; (ppsDriven a = true) ∧ (a.tm.ppsOut = false) ∧ (a.tm.ns < 3)) ∧
    (let s := { wRun with now := 1000, tm := { wRun.tm with ppsOut := true } }; let a := advance 0 s; (a.tm.ppsOut = true) ∧
      (a.tm.ppsFall ≤ tai a) ∧ (a.tm.ppsRise + 1000 ≤ a.now)) := by
  decide +kernel

theorem wit_RowsCloseReleaseAndAreConditioned :
    (let s := { wRun with plan := { streams := [(3, { learnMax := some 4799, learnSec := 7 })] } }; let a := advance 0 s;
      let entry := 3; let m := 4799; ((streamOf a entry).carried = none) ∧ ((streamOf a entry).learnMax = some m) ∧
      (tai a > (((streamOf a entry).learnSec + 1) * 1000000000 + a.plan.w : Nat))) ∧
    (let s := { wRun with plan := { lastClosed := some 5 } }; let a := advance 0 s; let l := 5; (planOn a = true) ∧ (a.plan.lastClosed =
      some l) ∧ (closeDue a (l + 1) = true)) ∧
    (let s := { wRun with plan := { lastClosed := some 6, rows := [(6, { closed := true })] } }; let a := advance 0 s; let r := 6;
      (nextRow a = some r) ∧ (running a = true) ∧ (eqOf a r = none)) ∧
    (let s := { wRun with plan := { lastClosed := some 6, lastReleased := 6, everReleased := true } }; let a := advance 0 s;
      (nextRow a = none ∨ running a = false ∨ ((nextRow a).any fun r => (eqOf a r).isSome) = true)) := by
  decide +kernel
theorem wit_RowsCloseReleaseAndAreConditioned_2 :
    (let s := { wRun with cond := { queue := [6, 7] }, plan := { rows := [(6, { closed := true, released := true })] } };
      let a := advance 0 s; let r := 6; let q := [7]; (a.cond.queue = r :: q) ∧ (condUp a = true)) ∧
    (let s := wRun; let a := advance 0 s; let array := 3; let idle := false; let pass := true; (array < 4) ∧ (array ∉ a.cond.failed) ∧
      (unitOk a 9 = true) ∧ (idle = false) ∧ (tabGetD a.cond.katAt array 0 ≤ a.now)) ∧
    (let s := wRun; let a := advance 0 s; let array := 3; let idle := true; let pass := true; (array < 4) ∧ (array ∉ a.cond.failed) ∧
      (unitOk a 9 = true) ∧ (idle = true) ∧ (pass = true) ∧ (tabGetD a.cond.katAt array 0 ≤ a.now)) ∧
    (let s := { wRun with cond := { failOnce := [3] } }; let a := advance 0 s; let array := 3; let idle := true; let pass := false;
      (array < 4) ∧ (array ∉ a.cond.failed) ∧ (unitOk a 9 = true) ∧ (idle = true) ∧ (pass = false) ∧ (array ∈ a.cond.failOnce)) := by
  decide +kernel

theorem wit_BanksProfilesAndTheStageSet :
    (let s := wSeal; let a := advance 0 s; let rq := rqN 0; let bank := 1; (cmdRuns a rq 0x240014 bank [] = true) ∧ (mirrors a =
      false) ∧ (sealCheck a bank = okS)) ∧
    (let s := wRun; let a := advance 0 s; let rq := rqN 0; let bank := 1; (cmdRuns a rq 0x240014 bank [] = true) ∧ (sealCheck a bank =
      rangeS)) ∧
    (let s := { wRun with cond := { banks := [(1, 5)] } }; let a := advance 0 s; let rq := rqN 0; let bank := 1;
      (cmdRuns a rq 0x240014 bank [] = true) ∧ (sealCheck a bank ≠ okS) ∧ (sealCheck a bank ≠ rangeS)) ∧
    (let s := wRun; let a := advance 0 s; let rq := rqN 0; let profile := 0; let row := 5000000; let mode := 0; let xfade := 10;
      (cmdRuns a rq 0x240015 profile [.n row, .n mode, .n xfade] = true) ∧ (swapCheck a profile row mode xfade ≠ okS)) := by
  decide +kernel
theorem wit_BanksProfilesAndTheStageSet_2 :
    (let s := wRun; let a := advance 0 s; let rq := rqN 0; let profile := 2; (cmdRuns a rq 0x240016 profile [] = true) ∧
      ((profOf a profile).st ≠ 1)) ∧
    (let s := { wRun with cond := { banks := [(1, 2)] } }; let a := advance 0 s; let rq := rqN 0; let profile := 0; let row := 5000000;
      let mode := 0; let xfade := 10; (cmdRuns a rq 0x240015 profile [.n row, .n mode, .n xfade] = true) ∧ (mirrors a = false) ∧
      (swapCheck a profile row mode xfade = okS)) ∧
    (let s := { wRun with cond := { profiles := [(2, { st := 1 })] } }; let a := advance 0 s; let rq := rqN 0; let profile := 2;
      (cmdRuns a rq 0x240016 profile [] = true) ∧ (mirrors a = false) ∧ ((profOf a profile).st = 1)) ∧
    (let s := { wRun with jal := { wRun.jal with stage := [(okey 0x210002 0 0, [.n 700000])], holder := some 0 } };
      let a := advance 0 s; let rq := rqN 0; (cmdRuns a rq 0x020022 0 [] = true) ∧ (mirrors a = false) ∧ (a.jal.holder = some rq.sess) ∧
      (committing a = false) ∧ (commitFail a a.jal.stage = none)) := by
  decide +kernel
theorem wit_BanksProfilesAndTheStageSet_3 :
    (let s := { wRun with jal := { wRun.jal with stage := [(okey 0x210002 0 0, [.n 700000])], holder := some 0, commitRow := some 9, commitSet := [(okey 0x210002 0 0, [.n 700000])] } };
      let a := advance 0 s; let row := 9; let l := ([(okey 0x210002 0 0, [.n 700000])] : List (Nat × Val)); let ob := 0x210002;
      let sub := 0; let v := ([.n 700000] : Val); (a.jal.commitRow = some row) ∧ (row ≤ curRow a) ∧ (running a = true) ∧
      (a.jal.commitSet = l) ∧ ((l.filter fun x => x.1 == okey ob sub 0) = [(okey ob sub 0, v)]) ∧ ((l.all fun x => x.1 / 4294967296 !=
      0x300010) = true) ∧ (sub < 65536) ∧ (v ≠ []) ∧ (a.jal.commitOwn = true)) ∧
    (let s := wRun; let a := advance 0 s; let rq := rqN 0; (cmdRuns a rq 0x020022 0 [] = true) ∧ (a.jal.holder ≠ some rq.sess ∨
      (mirrors a = true ∧ a.pair.link = false))) ∧
    (let s := { wRun with jal := { wRun.jal with stage := [(okey 0x280120 3 0, [.n 300])], holder := some 0 } }; let a := advance 0 s;
      let rq := rqN 0; let k := okey 0x280120 3 0; let st := rangeS; (cmdRuns a rq 0x020022 0 [] = true) ∧ (mirrors a = false) ∧
      (a.jal.holder = some rq.sess) ∧ (committing a = false) ∧ (commitFail a a.jal.stage = some (k, st)) ∧ (st ≠ deferS) ∧
      (st ≠ pendingS)) ∧
    (let s := wRun; let a := advance 0 s; let rq := rqN 0; (cmdRuns a rq 0x020023 0 [] = true) ∧ (a.jal.holder ≠ some rq.sess)) := by
  decide +kernel
theorem wit_BanksProfilesAndTheStageSet_4 :
    (let s := { wRun with jal := { wRun.jal with stage := [(okey 0x210002 0 0, [.n 700000])], holder := some 0, commitRow := some 9, commitSet := [(okey 0x210002 0 0, [.n 700000])] } };
      let a := advance 0 s; let rq := rqN 0; (cmdRuns a rq 0x020023 0 [] = true) ∧ (a.jal.holder = some rq.sess) ∧ (a.jal.commitOwn =
      true) ∧ (committing a = true)) ∧
    (let s := { wRun with jal := { wRun.jal with stage := [(okey 0x210002 0 0, [.n 700000])], holder := some 0 } };
      let a := advance 0 s; let rq := rqN 0; (cmdRuns a rq 0x020023 0 [] = true) ∧ (a.jal.holder = some rq.sess) ∧ (committing a =
      false)) := by
  decide +kernel

theorem wit_GoosePublishingAndSubscription :
    (let s := wRing 2 2 { prod := 1, slots := [(0, .goose (⟨0, 0, false, false, 3, 0, [1]⟩ : GReq))] }; let a := advance 0 s;
      let ring := 0; let i := 0; let r := (⟨0, 0, false, false, 3, 0, [1]⟩ : GReq); let ws := ([(1, 0)] : List (Nat × Nat));
      let slots := ([1] : List Nat); (rType a ring = 2) ∧ (rEngine a ring = 2) ∧ (running a = true) ∧ (a.vn 0x280120 (rOwner a ring) =
      ring) ∧ (nextEntry a ring = some (i, .goose r)) ∧ (r.launch = false) ∧ (r.block < 512) ∧ (unitTakes a 10 = true) ∧
      (vB (gbCfg a r.block) 0 = true) ∧ (vN (gbCfg a r.block) 1 = rOwner a ring) ∧ (gbBasics a r.block = ws) ∧
      (((upto ws.length).any fun k => gbClaimSlot a r.block != some k && !(slotFits (nth ws k (1, 0)).1 (nth ws k (1,
      0)).2 (nth r.image k 0))) = false) ∧ (slots = ((upto ws.length).map fun k => if gbClaimSlot a r.block ==
      some k then 0 else nth r.image k 0)) ∧ ((gbOf a r.block).held = none) ∧ (logicBlock a r.block = false) ∧ (¬((gbOf a r.block).has =
      true ∧ (gbOf a r.block).slots = slots)) ∧ (pfState (takeEntry a ring) (rOwner a ring) (servedEntry (takeEntry a ring) ring i) =
      true) ∧ ((pfFrame (takeEntry a ring) (rOwner a ring) (servedEntry (takeEntry a ring) ring i) (gbEgress a r.block)).1 = true)) ∧
    (let s := wRing 2 2 { prod := 1, slots := [(0, .goose (⟨0, 511, false, false, 3, 0, [1]⟩ : GReq))] }; let a := advance 0 s;
      let ring := 0; let i := 0; let r := (⟨0, 511, false, false, 3, 0, [1]⟩ : GReq); (rType a ring = 2) ∧ (rEngine a ring = 2) ∧
      (running a = true) ∧ (a.vn 0x280120 (rOwner a ring) = ring) ∧ (nextEntry a ring = some (i, .goose r)) ∧ (r.launch = false) ∧
      (unitTakes a 10 = true) ∧ (512 ≤ r.block ∨ vB (gbCfg a r.block) 0 = false ∨ vN (gbCfg a r.block) 1 ≠ rOwner a ring)) ∧
    (let s := { wRing 2 2 {} with pub := { blocks := [(0, { has := true, due := some 5, gap := 2000000 })] } }; let a := advance 0 s;
      let block := 0; let d := (5 : Int); ((gbOf a block).due = some d) ∧ ((gbOf a block).has = true) ∧ (running a = true) ∧
      (vB (gbCfg a block) 0 = true) ∧ (d ≤ tai a + 5000) ∧ ((gbOf a block).held = none)) ∧
    (let s := { wRun with pub := { subs := [(9, { st := 2 })] } }; let a := advance 0 s; let entry := 9; ((gsOf a entry).st = 2) ∧
      (unitOk a 10 = true) ∧ ((gsOf a entry).deadline + 20000 ≤ tai a)) := by
  decide +kernel
theorem wit_GoosePublishingAndSubscription_2 :
    (let s := { wRun with pub := { latches := [(9, { listen := some 0 })] } }; let a := advance 0 s; let latch := 9;
      (dueBy a (latchOf a latch).listen = true)) := by
  decide +kernel

theorem wit_PartitionsStartStopAndReset :
    (let s := wRing 2 0 {}; let a := advance 0 s; let rq := rqN 0; let p := 0; (cmdRuns a rq 0x300030 p [] = true) ∧
      ((partOf a p).st ≠ .stopped ∨ (partOf a p).fence.isSome = true ∨ (partOf a p).zeroing ≠ 0 ∨ (workCores a p).isEmpty = true)) ∧
    (let s := { wRing 2 0 {} with parts := { ps := [(0, { st := .stopped })] } , store := [(okey 0x300010 0 0, [.n 1, .o [1], .n 1, .n 8])], jal := { wRun.jal with heldParts := [0] } };
      let a := advance 0 s; let rq := rqN 0; let p := 0; (cmdRuns a rq 0x300030 p [] = true) ∧ ((partOf a p).st = .stopped) ∧
      ((partOf a p).fence = none) ∧ ((partOf a p).zeroing = 0) ∧ ((workCores a p).isEmpty = false) ∧ (p ∈ a.jal.heldParts)) ∧
    (let s := { wRing 2 0 {} with parts := { ps := [(0, { st := .stopped })] }, store := [(okey 0x300010 0 0, [.n 1, .o [1], .n 1, .n 8])] };
      let a := advance 0 s; let rq := rqN 0; let p := 0; (cmdRuns a rq 0x300030 p [] = true) ∧ ((partOf a p).st = .stopped) ∧
      ((partOf a p).fence = none) ∧ ((partOf a p).zeroing = 0) ∧ ((workCores a p).isEmpty = false) ∧ (p ∉ a.jal.heldParts)) ∧
    (let s := { wRun with parts := { reading := [4, 5] } }; let a := advance 0 s; let p := 4; let r := [5]; (a.parts.reading = p :: r) ∧
      (running a = true)) := by
  decide +kernel
theorem wit_PartitionsStartStopAndReset_2 :
    (let s := { wRun with store := [(okey 0x300010 4 0, [.n 1, .o [2], .n 1, .n 8]), (okey 0x480030 1 0, [.n 1, .n 7, .n 0, .o (rsaHash wImgObj)]), (okey 0x480030 2 0, [.n 1, .n 7, .n 1, .o (slhHash wImgObj)])], boot := { wRun.boot with fuseComm := false }, parts := { verifying := [4], ps := [(4, { st := .starting, stored := true })] } };
      let a := advance 0 s; let obj := wImgObj; let p := 4; let r := ([] : List Nat); (a.parts.verifying = p :: r) ∧ (running a =
      true) ∧ ((partOf a p).stored = true) ∧ (unitSt a 0 ≠ .fault) ∧ (signedFail a 2 (partOf a p).svnMin obj = 0) ∧ ((partOf a p).st =
      .starting) ∧ ((partOf a p).fence = none) ∧ (placed a p = true)) ∧
    (let s := { wRun with store := [(okey 0x300010 4 0, [.n 1, .o [2], .n 1, .n 8]), (okey 0x480030 1 0, [.n 1, .n 7, .n 0, .o (rsaHash wImgObj)]), (okey 0x480030 2 0, [.n 1, .n 7, .n 1, .o (slhHash wImgObj)])], boot := { wRun.boot with fuseComm := false }, parts := { verifying := [4], ps := [(4, { st := .starting, stored := true })] } };
      let a := advance 0 s; let obj := wRomObj; let p := 4; let r := ([] : List Nat); (a.parts.verifying = p :: r) ∧ (running a =
      true) ∧ ((partOf a p).stored = true) ∧ (signedFail a 2 (partOf a p).svnMin obj ≠ 0) ∧ ((partOf a p).st = .starting) ∧
      ((partOf a p).fence = none) ∧ (preCopy a p = false)) ∧
    (let s := { wRing 2 0 {} with parts := { ps := [(0, { st := .stopped })] } }; let a := advance 0 s; let rq := rqN 0; let p := 0;
      (cmdRuns a rq 0x300031 p [] = true) ∧ ((partOf a p).st ≠ .fault) ∧ ((partOf a p).st ≠ .running)) ∧
    (let s := { wRing 2 0 {} with parts := { ps := [(0, { st := .fault, restartDue := some 9 })] } }; let a := advance 0 s;
      let rq := rqN 0; let p := 0; (cmdRuns a rq 0x300031 p [] = true) ∧ ((partOf a p).st = .fault) ∧ ((partOf a p).fence = none) ∧
      ((partOf a p).zeroing = 0)) := by
  decide +kernel
theorem wit_PartitionsStartStopAndReset_3 :
    (let s := wRing 2 0 {}; let a := advance 0 s; let rq := rqN 0; let p := 0; (cmdRuns a rq 0x300031 p [] = true) ∧ ((partOf a p).st =
      .running) ∧ ((partOf a p).fence = none) ∧ (preCopy a p = false)) ∧
    (let s := { wRing 2 0 {} with parts := { ps := [(0, { st := .resetting, fence := some (9, 0) })] } }; let a := advance 0 s;
      let rq := rqN 0; let p := 0; (cmdRuns a rq 0x300032 p [] = true) ∧ ((partOf a p).st = .resetting)) ∧
    (let s := { wRing 2 0 {} with parts := { ps := [(0, { st := .stopped })] } }; let a := advance 0 s; let rq := rqN 0; let p := 0;
      (cmdRuns a rq 0x300032 p [] = true) ∧ ((partOf a p).st = .stopped ∨ (partOf a p).st = .none ∨ (partOf a p).st = .frozen ∨
      (partOf a p).st = .restoring)) ∧
    (let s := wRing 2 0 {}; let a := advance 0 s; let rq := rqN 0; let p := 0; (cmdRuns a rq 0x300032 p [] = true) ∧ ((partOf a p).st =
      .running ∨ (partOf a p).st = .stopping ∨ (partOf a p).st = .starting ∨ (partOf a p).st = .fault) ∧ ((partOf a p).zeroing = 0) ∧
      ((partOf a p).fence = none) ∧ (preCopy a p = false)) := by
  decide +kernel
theorem wit_PartitionsStartStopAndReset_4 :
    (let s := { wRing 2 0 {} with parts := { ps := [(0, { st := .stopping })] } }; let a := advance 0 s; let p := 0; (pst a p =
      .stopping) ∧ (drained a p = true)) ∧
    (let s := { wRing 2 0 {} with parts := { ps := [(0, { st := .stopping, drainDue := some 0 })] } }; let a := advance 0 s; let p := 0;
      (pst a p = .stopping) ∧ (dueBy a (partOf a p).drainDue = true)) ∧
    (let s := { wRun with boot := { wRun.boot with roll := [(19, { st := .ready, draining := true, drainDue := some 0 })] } };
      let a := advance 0 s; let sub := 19; ((rollOf a sub).draining = true) ∧ (unitOk a sub = true) ∧ (dueBy a (rollOf a sub).drainDue =
      true)) ∧
    (let s := { wRun with tt := { flows := [(5, { owner := 0, typ := 2, closing := true, closeDue := some 0 })] } };
      let a := advance 0 s; let f := 5; let x := ({ owner := 0, typ := 2, closing := true, closeDue := some 0 } : Flow); (flowOf a f =
      some x) ∧ (x.closing = true) ∧ (x.logic = false) ∧ (dueBy a x.closeDue = true)) := by
  decide +kernel
theorem wit_PartitionsStartStopAndReset_5 :
    (let s := { wRing 2 0 {} with parts := { ps := [(0, { st := .fault, restartDue := some 0 })] } }; let a := advance 0 s; let p := 0;
      (pst a p = .fault) ∧ (dueBy a (partOf a p).restartDue = true) ∧ (p ∉ a.jal.heldParts) ∧ (preCopy a p = false)) := by
  decide +kernel

theorem wit_PartitionFaultsAndTheirFences :
    (let s := wRing 2 0 {}; let a := advance 0 s; let p := 0; let cause := 2; let core := 3; let detail := 9; (1 ≤ cause) ∧
      (cause ≤ 8) ∧ (running a = true) ∧ ((partOf a p).st = .running) ∧ ((partOf a p).fence = none) ∧ (preCopy a p = false)) ∧
    (let s := { wRing 2 0 {} with now := 9000, tt := { run := [(2, { item := ⟨0, 0, { arg0 := 0, arg1 := 0, tag := 7, flow := 0xFFFF, prio := 0, complete := false, budget := 5000, compRing := 0 }, .bell, 0, 0, 5000⟩, start := 0, startNow := 0 })] } };
      let a := advance 0 s; let p := 0; let core := 2; let w := (0xDEAD0005 : Word);
      let x := ({ item := ⟨0, 0, { arg0 := 0, arg1 := 0, tag := 7, flow := 0xFFFF, prio := 0, complete := false, budget := 5000, compRing := 0 }, .bell, 0, 0, 5000⟩, start := 0, startNow := 0 } : Run);
      (runOf a p core = some x) ∧ (bits w.toNat 16 16 = 0xDEAD) ∧ ((partOf a p).st = .running) ∧ ((partOf a p).fence = none) ∧
      (preCopy a p = false)) ∧
    (let s := { wRing 2 0 {} with now := 9000, tt := { run := [(2, { item := ⟨0, 0, { arg0 := 0, arg1 := 0, tag := 7, flow := 0xFFFF, prio := 0, complete := false, budget := 5000, compRing := 0 }, .bell, 0, 0, 5000⟩, start := 0, startNow := 0 })] } };
      let a := advance 0 s; let core := 2;
      let x := ({ item := ⟨0, 0, { arg0 := 0, arg1 := 0, tag := 7, flow := 0xFFFF, prio := 0, complete := false, budget := 5000, compRing := 0 }, .bell, 0, 0, 5000⟩, start := 0, startNow := 0 } : Run);
      (tabGet a.tt.run core = some x) ∧ (x.startNow + x.item.budget ≤ a.now) ∧ (running a = true) ∧ ((partOf a x.item.part).st =
      .running) ∧ ((partOf a x.item.part).fence = none) ∧ (preCopy a x.item.part = false)) ∧
    (let s := { wRing 2 0 {} with parts := { ps := [(0, { st := .running, fence := some (9, 1) })] } }; let a := advance 0 s;
      let p := 0; let u := 9; ((partOf a p).fence = some (u, 1))) := by
  decide +kernel
theorem wit_PartitionFaultsAndTheirFences_2 :
    (let s := { wRing 2 0 {} with parts := { ps := [(0, { st := .stopping, fence := some (9, 2) })] } }; let a := advance 0 s;
      let p := 0; let u := 9; ((partOf a p).fence = some (u, 2))) ∧
    (let s := { wRing 2 0 {} with parts := { ps := [(0, { st := .resetting, verified := true, fence := some (9, 0) })] } };
      let a := advance 0 s; let p := 0; let u := 9; ((partOf a p).fence = some (u, 0)) ∧ ((partOf a p).verified = true) ∧ (placed a p =
      true)) ∧
    (let s := { wRing 2 0 {} with parts := { ps := [(0, { st := .resetting, fence := some (9, 0) })] } }; let a := advance 0 s;
      let p := 0; let u := 9; ((partOf a p).fence = some (u, 0)) ∧ ((partOf a p).verified = false)) ∧
    (let s := { wRing 2 0 {} with parts := { ps := [(0, { zeroing := 1 })] } }; let a := advance 0 s; let p := 0;
      ((partOf a p).zeroing = 1)) := by
  decide +kernel
theorem wit_PartitionFaultsAndTheirFences_3 :
    (let s := { wRing 2 0 {} with parts := { ps := [(0, { st := .stopped, zeroing := 2 })] } }; let a := advance 0 s; let p := 0;
      ((partOf a p).zeroing = 2)) ∧
    (let s := { wRun with vault := { q := List.replicate 16 ⟨2, .verifyBundle 0 0, none, []⟩ } }; let a := advance 0 s; let rq := rqN 0;
      let p := 4; (cmdRuns a rq 0x300013 p [] = true) ∧ (vaultRoom a 2 = false)) ∧
    (let s := wRun; let a := advance 0 s; let rq := rqN 0; let p := 3; (cmdRuns a rq 0x300013 p [] = true) ∧ (vaultRoom a 2 =
      true)) := by
  decide +kernel

theorem wit_MigrationSteps :
    (let s := wRing 2 0 {}; let a := advance 0 s; let rq := rqN 0; let p := 0; (cmdRuns a rq 0x300050 p [] = true) ∧
      ((partOf a p).st ≠ .stopped ∨ (partOf a p).fence.isSome = true ∨ (partOf a p).zeroing ≠ 0 ∨ (created a).any (fun q => q != p &&
      domainOf a q == domainOf a p) = true)) ∧
    (let s := { wRing 2 0 {} with parts := { ps := [(0, { st := .stopped })] } }; let a := advance 0 s; let rq := rqN 0; let p := 0;
      (cmdRuns a rq 0x300050 p [] = true) ∧ ((partOf a p).st = .stopped) ∧ ((partOf a p).fence = none) ∧ ((partOf a p).zeroing = 0) ∧
      ((created a).any (fun q => q != p && domainOf a q == domainOf a p) = false) ∧ (p ∉ a.jal.heldParts)) ∧
    (let s := { wRing 2 0 {} with parts := { ps := [(0, { st := .stopped })] } }; let a := advance 0 s; let rq := rqN 0; let p := 0;
      let path := 0; let peer := 5; let dest := 7; let force := false; (cmdRuns a rq 0x300051 p [.n path, .o (leN 6 peer), .n dest,
      .n (b2n force)] = true) ∧ (pst a p ≠ .running ∨ preCopy a p = true ∨ (created a).any (fun q => q != p && domainOf a q ==
      domainOf a p) = true)) ∧
    (let s := wRing 2 0 {}; let a := advance 0 s; let rq := rqN 0; let p := 0; let path := 0; let peer := 0; let dest := 5;
      let force := false; (cmdRuns a rq 0x300051 p [.n path, .o (leN 6 peer), .n dest, .n (b2n force)] = true) ∧ (pst a p = .running) ∧
      (preCopy a p = false) ∧ ((created a).any (fun q => q != p && domainOf a q == domainOf a p) = false) ∧ (vaultRoom a 3 =
      true)) := by
  decide +kernel
theorem wit_MigrationSteps_2 :
    (let s := { wRing 2 0 {} with parts := { ps := [(0, { st := .running, mig := { st := 2 } })] } }; let a := advance 0 s; let p := 0;
      let round := 1; let marked := ([] : List Nat); let n := 0; ((partOf a p).mig.st = 2) ∧ ((partOf a p).mig.freeze = false) ∧
      (running a = true) ∧ (round = (partOf a p).mig.rounds + 1) ∧ (n = 4096 * (dirtySpans (coresMark a p marked) p).length) ∧
      (n ≤ a.vn 0x300040 0 ∨ (partOf a p).mig.force = true ∧ a.vn 0x300041 0 ≤ round)) ∧
    (let s := { wRing 2 0 {} with parts := { ps := [(0, { st := .running, mig := { st := 2, rounds := 15 } })] }, dirty := upto 513 };
      let a := advance 0 s; let p := 0; let round := 16; let marked := ([] : List Nat); ((partOf a p).mig.st = 2) ∧
      ((partOf a p).mig.freeze = false) ∧ (running a = true) ∧ (round = (partOf a p).mig.rounds + 1) ∧
      (a.vn 0x300040 0 < 4096 * (dirtySpans (coresMark a p marked) p).length) ∧ ((partOf a p).mig.force = false) ∧
      (a.vn 0x300041 0 ≤ round)) ∧
    (let s := { wRing 2 0 {} with parts := { ps := [(0, { st := .running, mig := { st := 2 } })] }, dirty := upto 513 };
      let a := advance 0 s; let p := 0; let round := 1; let marked := ([] : List Nat); ((partOf a p).mig.st = 2) ∧
      ((partOf a p).mig.freeze = false) ∧ (running a = true) ∧ (round = (partOf a p).mig.rounds + 1) ∧
      (a.vn 0x300040 0 < 4096 * (dirtySpans (coresMark a p marked) p).length) ∧ (round < a.vn 0x300041 0)) ∧
    (let s := { wRing 2 0 {} with parts := { ps := [(0, { st := .restoring, mig := { st := 4 } })] } }; let a := advance 0 s;
      let p := 0; ((partOf a p).st = .restoring) ∧ ((partOf a p).mig.st = 4) ∧ (running a = true) ∧ ((partOf a p).mig.import_ =
      false)) := by
  decide +kernel
theorem wit_MigrationSteps_3 :
    (let s := { wRing 2 0 {} with parts := { ps := [(0, { st := .stopped })] } }; let a := advance 0 s; let rq := rqN 0; let p := 0;
      (cmdRuns a rq 0x300054 p [] = true) ∧ (preCopy a p = false) ∧ ((partOf a p).st ≠ .frozen ∨ (partOf a p).mig.st ≠ 3) ∧
      ((partOf a p).st ≠ .restoring)) ∧
    (let s := { wRing 2 0 {} with parts := { ps := [(0, { st := .running, mig := { st := 2 } })] } }; let a := advance 0 s;
      let rq := rqN 0; let p := 0; (cmdRuns a rq 0x300054 p [] = true) ∧ (preCopy a p = true ∨ (partOf a p).st = .frozen ∧
      (partOf a p).mig.st = 3 ∨ (partOf a p).st = .restoring)) ∧
    (let s := { wRing 2 0 {} with parts := { ps := [(0, { st := .running, mig := { st := 2 } })] } }; let a := advance 0 s; let p := 0;
      (preCopy a p = true ∨ (partOf a p).st = .frozen ∧ (partOf a p).mig.st = 3 ∨ (partOf a p).st = .restoring)) ∧
    (let s := { wRun with pair := { steps := [(3, { hold := true })] } }; let a := advance 0 s; let p := 3; ((stepOf a p).hold = true) ∧
      (running a = true) ∧ (inService a p = 0) ∧ (enginesClear a p = true)) := by
  decide +kernel

theorem wit_UnitsAndDies :
    (let s := wRun; let a := advance 0 s; let rq := rqN 0; let sub := 0; (cmdRuns a rq 0x010102 sub [] = true) ∧ (unitPresent a sub =
      true) ∧ (canDisable sub = false ∨ unitTakes a sub = false)) ∧
    (let s := wRun; let a := advance 0 s; let rq := rqN 0; let sub := 19; (cmdRuns a rq 0x010102 sub [] = true) ∧ (unitPresent a sub =
      true) ∧ (canDisable sub = true) ∧ (unitTakes a sub = true)) ∧
    (let s := { wRun with boot := { wRun.boot with roll := [(19, { st := .ready, draining := true })] } }; let a := advance 0 s;
      let sub := 19; ((rollOf a sub).draining = true) ∧ (unitOk a sub = true) ∧ (unitDrainedNow a sub = true)) ∧
    (let s := wRun; let a := advance 0 s; let rq := rqN 0; let sub := 0; (cmdRuns a rq 0x010103 sub [] = true) ∧ (unitPresent a sub =
      true) ∧ (canDisable sub = false ∨ unitSt a sub ≠ .off)) := by
  decide +kernel
theorem wit_UnitsAndDies_2 :
    (let s := { wRun with boot := { wRun.boot with roll := [(1, { st := .ready })] } }; let a := advance 0 s; let rq := rqN 0;
      let sub := 16; (cmdRuns a rq 0x010103 sub [] = true) ∧ (unitPresent a sub = true) ∧ (canDisable sub = true) ∧ (unitSt a sub =
      .off)) ∧
    (let s := wRun; let a := advance 0 s; let sub := 14; (hubUpNow a = true) ∧ (unitSt a sub = .starting ∨ unitOk a sub = true) ∧ (sub =
      1 ∨ sub = 6 ∨ sub = 7 ∨ sub = 8 ∨ sub = 14 ∨ sub = 15 ∨ sub = 18 ∨ sub = 21 ∨ sub = 23)) ∧
    (let s := { wRun with boot := { wRun.boot with roll := [(29, { st := .starting })] } }; let a := advance 0 s; let die := 5;
      (unitSt a (24 + die) = .starting) ∧ (die < 6) ∧ (running a = true)) ∧
    (let s := wRun; let a := advance 0 s; let die := 5; let link := 1; (die < dieCount a) ∧ (link ≤ 1) ∧ ((die,
      link) ∉ a.boot.d2dFailed) ∧ ((die, 1 - link) ∉ a.boot.d2dFailed) ∧ (unitOk a (24 + die) = true)) := by
  decide +kernel
theorem wit_UnitsAndDies_3 :
    (let s := { wRun with boot := { wRun.boot with d2dFailed := [(5, 0)] } }; let a := advance 0 s; let die := 5; let link := 1;
      (die < dieCount a) ∧ (link ≤ 1) ∧ ((die, link) ∉ a.boot.d2dFailed) ∧ ((die, 1 - link) ∈ a.boot.d2dFailed) ∧ (unitOk a (24 + die) =
      true)) ∧
    (let s := wRun; let a := advance 0 s; (unitOk a 20 = true)) := by
  decide +kernel

theorem wit_ItemsAreSubmittedAndCancelled :
    (let s := { (((wRing 2 0 {}).put 0x310010 0 0 [.n 0, .n 2, .n 64, .n 4, .n 0, .n 0, .n 0, .n 0, .n 0, .n 65535, .n 0, .n 5000, .n 0, .n 255]).put 0x300010 0 0 [.n 1, .o [1], .n 4, .n 8, .n 0, .n 4, .n 0, .n 0, .n 0, .n 1, .n 0, .n 4, .n 0, .n 0, .n 0]).put 0x440032 0 0 [.n 1000000] with tt := { ((((wRing 2 0 {}).put 0x310010 0 0 [.n 0, .n 2, .n 64, .n 4, .n 0, .n 0, .n 0, .n 0, .n 0, .n 65535, .n 0, .n 5000, .n 0, .n 255]).put 0x300010 0 0 [.n 1, .o [1], .n 4, .n 8, .n 0, .n 4, .n 0, .n 0, .n 0, .n 1, .n 0, .n 4, .n 0, .n 0, .n 0]).put 0x440032 0 0 [.n 1000000]).tt with run := [(2, ({ item := ({ num := 3, part := 0, d := ({ arg0 := 0, arg1 := 0, tag := 7, flow := 0xFFFF, prio := 0, complete := false, budget := 5000, compRing := 0 } : ItemDesc), src := .port, budget := 5000 } : Item), start := 0, startNow := 0 } : Run))], cores := [(2, { regs := [0, 0, 0, 0, 0, 0xFFFF, 5000, 0] })] } };
      let a := advance 0 s; let p := 0; let core := 2;
      let x := ({ item := ({ num := 3, part := 0, d := ({ arg0 := 0, arg1 := 0, tag := 7, flow := 0xFFFF, prio := 0, complete := false, budget := 5000, compRing := 0 } : ItemDesc), src := .port, budget := 5000 } : Item), start := 0, startNow := 0 } : Run);
      (runOf a p core = some x) ∧ ((coreOf a core).stall = none) ∧ (submitCheck a p (itemOf (portBytes a core)) = 0) ∧
      ((itemOf (portBytes a core)).complete = false)) ∧
    (let s := { (((wRing 2 0 {}).put 0x310010 0 0 [.n 0, .n 2, .n 64, .n 4, .n 0, .n 0, .n 0, .n 0, .n 0, .n 65535, .n 0, .n 5000, .n 0, .n 255]).put 0x300010 0 0 [.n 1, .o [1], .n 4, .n 8, .n 0, .n 4, .n 0, .n 0, .n 0, .n 1, .n 0, .n 4, .n 0, .n 0, .n 0]).put 0x440032 0 0 [.n 1000000] with tt := { ((((wRing 2 0 {}).put 0x310010 0 0 [.n 0, .n 2, .n 64, .n 4, .n 0, .n 0, .n 0, .n 0, .n 0, .n 65535, .n 0, .n 5000, .n 0, .n 255]).put 0x300010 0 0 [.n 1, .o [1], .n 4, .n 8, .n 0, .n 4, .n 0, .n 0, .n 0, .n 1, .n 0, .n 4, .n 0, .n 0, .n 0]).put 0x440032 0 0 [.n 1000000]).tt with run := [(2, ({ item := ({ num := 3, part := 0, d := ({ arg0 := 0, arg1 := 0, tag := 7, flow := 0xFFFF, prio := 0, complete := false, budget := 5000, compRing := 0 } : ItemDesc), src := .port, budget := 5000 } : Item), start := 0, startNow := 0 } : Run))] } };
      let a := advance 0 s; let p := 0; let core := 2;
      let x := ({ item := ({ num := 3, part := 0, d := ({ arg0 := 0, arg1 := 0, tag := 7, flow := 0xFFFF, prio := 0, complete := false, budget := 5000, compRing := 0 } : ItemDesc), src := .port, budget := 5000 } : Item), start := 0, startNow := 0 } : Run);
      (runOf a p core = some x) ∧ ((coreOf a core).stall = none) ∧ (submitCheck a p (itemOf (portBytes a core)) ≠ 0)) ∧
    (let s := (((wRing 2 0 { prod := 1, slots := [(0, .item ({ arg0 := 0, arg1 := 0, tag := 7, flow := 0xFFFF, prio := 0, complete := false, budget := 5000, compRing := 0 } : ItemDesc))] }).put 0x310010 0 0 [.n 0,
      .n 2, .n 64, .n 4, .n 0, .n 0, .n 0, .n 0, .n 0, .n 65535, .n 0, .n 5000, .n 0, .n 255]).put 0x300010 0 0 [.n 1, .o [1], .n 4,
      .n 8, .n 0, .n 4, .n 0, .n 0, .n 0, .n 1, .n 0, .n 4, .n 0, .n 0, .n 0]).put 0x440032 0 0 [.n 1000000]; let a := advance 0 s;
      let ring := 0; let i := 0;
      let d := ({ arg0 := 0, arg1 := 0, tag := 7, flow := 0xFFFF, prio := 0, complete := false, budget := 5000, compRing := 0 } : ItemDesc);
      (rType a ring = 2) ∧ (rEngine a ring = 0) ∧ (rPort a ring = false) ∧ (64 ≤ a.fn 0x310010 ring 13) ∧ (hubLive a = true) ∧
      (nextEntry a ring = some (i, .item d)) ∧ (submitCheck (takeEntry a ring) (rOwner a ring) d = 0) ∧ (d.complete = false)) ∧
    (let s := (((wRing 2 0 { prod := 1, slots := [(0, .item ({ arg0 := 0, arg1 := 0, tag := 7, flow := 0xFFFF, prio := 64, complete := false, budget := 5000, compRing := 0 } : ItemDesc))] }).put 0x310010 0 0 [.n 0,
      .n 2, .n 64, .n 4, .n 0, .n 0, .n 0, .n 0, .n 0, .n 65535, .n 0, .n 5000, .n 0, .n 255]).put 0x300010 0 0 [.n 1, .o [1], .n 4,
      .n 8, .n 0, .n 4, .n 0, .n 0, .n 0, .n 1, .n 0, .n 4, .n 0, .n 0, .n 0]).put 0x440032 0 0 [.n 1000000]; let a := advance 0 s;
      let ring := 0; let i := 0;
      let d := ({ arg0 := 0, arg1 := 0, tag := 7, flow := 0xFFFF, prio := 64, complete := false, budget := 5000, compRing := 0 } : ItemDesc);
      (rType a ring = 2) ∧ (rEngine a ring = 0) ∧ (rPort a ring = false) ∧ (64 ≤ a.fn 0x310010 ring 13) ∧ (hubLive a = true) ∧
      (nextEntry a ring = some (i, .item d)) ∧ (submitCheck (takeEntry a ring) (rOwner a ring) d ≠ 0)) := by
  decide +kernel
theorem wit_ItemsAreSubmittedAndCancelled_2 :
    (let s := (((wRing 3 0 { pend := [(1, 1, 5)] }).put 0x310010 0 0 [.n 0, .n 3, .n 64, .n 4, .n 0, .n 0, .n 0, .n 0, .n 0, .n 65535,
      .n 0, .n 5000, .n 0, .n 255]).put 0x300010 0 0 [.n 1, .o [1], .n 4, .n 8, .n 0, .n 4, .n 0, .n 0, .n 0, .n 1, .n 0, .n 4, .n 0,
      .n 0, .n 0]).put 0x440032 0 0 [.n 1000000]; let a := advance 0 s; let ring := 0; let i := 1; let j := 1; let row := 5;
      (hubLive a = true) ∧ ((ringOf a ring).pend = [(i, j, row)]) ∧ (takesItems a (rOwner a ring) = true) ∧ (quotaOk a (rOwner a ring) =
      true) ∧ (vB (a.val 0x340110 (rOwner a ring) 0) 0 = false) ∧ (tasksOf a (rOwner a ring) = [])) ∧
    (let s := { (((wRing 2 0 {}).put 0x310010 0 0 [.n 0, .n 2, .n 64, .n 4, .n 0, .n 0, .n 0, .n 0, .n 0, .n 65535, .n 0, .n 5000, .n 0, .n 255]).put 0x300010 0 0 [.n 1, .o [1], .n 4, .n 8, .n 0, .n 4, .n 0, .n 0, .n 0, .n 1, .n 0, .n 4, .n 0, .n 0, .n 0]).put 0x440032 0 0 [.n 1000000] with tt := { ((((wRing 2 0 {}).put 0x310010 0 0 [.n 0, .n 2, .n 64, .n 4, .n 0, .n 0, .n 0, .n 0, .n 0, .n 65535, .n 0, .n 5000, .n 0, .n 255]).put 0x300010 0 0 [.n 1, .o [1], .n 4, .n 8, .n 0, .n 4, .n 0, .n 0, .n 0, .n 1, .n 0, .n 4, .n 0, .n 0, .n 0]).put 0x440032 0 0 [.n 1000000]).tt with run := [(2, ({ item := ({ num := 3, part := 0, d := ({ arg0 := 0, arg1 := 0, tag := 7, flow := 0xFFFF, prio := 0, complete := false, budget := 5000, compRing := 0 } : ItemDesc), src := .port, budget := 5000 } : Item), start := 0, startNow := 0 } : Run))], cores := [(2, { regs := [0, 0, 0, 0, 0, 0xFFFF, 5000, 0] })], ready := [({ num := 3, part := 0, d := ({ arg0 := 0, arg1 := 0, tag := 7, flow := 0xFFFF, prio := 0, complete := false, budget := 5000, compRing := 0 } : ItemDesc), src := .port, budget := 5000 } : Item)] } };
      let a := advance 0 s; let p := 0; let core := 2; let tag := (7 : Word);
      let x := ({ item := ({ num := 3, part := 0, d := ({ arg0 := 0, arg1 := 0, tag := 7, flow := 0xFFFF, prio := 0, complete := false, budget := 5000, compRing := 0 } : ItemDesc), src := .port, budget := 5000 } : Item), start := 0, startNow := 0 } : Run);
      let it := ({ num := 3, part := 0, d := ({ arg0 := 0, arg1 := 0, tag := 7, flow := 0xFFFF, prio := 0, complete := false, budget := 5000, compRing := 0 } : ItemDesc), src := .port, budget := 5000 } : Item);
      (runOf a p core = some x) ∧ ((coreOf a core).stall = none) ∧ ((a.tt.ready.filter fun i => i.part == p && i.d.tag == tag.toNat) =
      [it]) ∧ (it.src = .port) ∧ (it.d.complete = false) ∧ (flowOf a it.d.flow = none)) := by
  decide +kernel

theorem wit_DispatchTakesTheLeastPriority :
    (let s := { (((wRing 2 0 {}).put 0x310010 0 0 [.n 0, .n 2, .n 64, .n 4, .n 0, .n 0, .n 0, .n 0, .n 0, .n 65535, .n 0, .n 5000, .n 0, .n 255]).put 0x300010 0 0 [.n 1, .o [1], .n 4, .n 8, .n 0, .n 4, .n 0, .n 0, .n 0, .n 1, .n 0, .n 4, .n 0, .n 0, .n 0]).put 0x440032 0 0 [.n 1000000] with tt := { ((((wRing 2 0 {}).put 0x310010 0 0 [.n 0, .n 2, .n 64, .n 4, .n 0, .n 0, .n 0, .n 0, .n 0, .n 65535, .n 0, .n 5000, .n 0, .n 255]).put 0x300010 0 0 [.n 1, .o [1], .n 4, .n 8, .n 0, .n 4, .n 0, .n 0, .n 0, .n 1, .n 0, .n 4, .n 0, .n 0, .n 0]).put 0x440032 0 0 [.n 1000000]).tt with ready := [({ num := 3, part := 0, d := ({ arg0 := 0, arg1 := 0, tag := 7, flow := 0xFFFF, prio := 0, complete := false, budget := 5000, compRing := 0 } : ItemDesc), src := .port, budget := 5000 } : Item)] } };
      let a := advance 0 s;
      let it := ({ num := 3, part := 0, d := ({ arg0 := 0, arg1 := 0, tag := 7, flow := 0xFFFF, prio := 0, complete := false, budget := 5000, compRing := 0 } : ItemDesc), src := .port, budget := 5000 } : Item);
      let c := 0; (ttRuns a = true) ∧ (nextDispatch a = some (it, c)) ∧ ((match it.src with | .trigger .. => false | _ => true) =
      true)) ∧
    (let s := (((wRing 2 0 {}).put 0x310010 0 0 [.n 0, .n 2, .n 64, .n 4, .n 0, .n 0, .n 0, .n 0, .n 0, .n 65535, .n 0, .n 5000, .n 0,
      .n 255]).put 0x300010 0 0 [.n 1, .o [1], .n 4, .n 8, .n 0, .n 4, .n 0, .n 0, .n 0, .n 1, .n 0, .n 4, .n 0, .n 0,
      .n 0]).put 0x440032 0 0 [.n 1000000]; let a := advance 0 s; (ttRuns a = true) ∧ (nextDispatch a = none)) ∧
    (let s := { (((wRing 2 0 {}).put 0x310010 0 0 [.n 0, .n 2, .n 64, .n 4, .n 0, .n 0, .n 0, .n 0, .n 0, .n 65535, .n 0, .n 5000, .n 0, .n 255]).put 0x300010 0 0 [.n 1, .o [1], .n 4, .n 8, .n 0, .n 4, .n 0, .n 0, .n 0, .n 1, .n 0, .n 4, .n 0, .n 0, .n 0]).put 0x440032 0 0 [.n 1000000] with tt := { ((((wRing 2 0 {}).put 0x310010 0 0 [.n 0, .n 2, .n 64, .n 4, .n 0, .n 0, .n 0, .n 0, .n 0, .n 65535, .n 0, .n 5000, .n 0, .n 255]).put 0x300010 0 0 [.n 1, .o [1], .n 4, .n 8, .n 0, .n 4, .n 0, .n 0, .n 0, .n 1, .n 0, .n 4, .n 0, .n 0, .n 0]).put 0x440032 0 0 [.n 1000000]).tt with run := [(2, ({ item := ({ num := 3, part := 0, d := ({ arg0 := 0, arg1 := 0, tag := 7, flow := 0xFFFF, prio := 0, complete := false, budget := 5000, compRing := 0 } : ItemDesc), src := .port, budget := 5000 } : Item), start := 0, startNow := 0 } : Run))], cores := [(2, { regs := [0, 0, 0, 0, 0, 0xFFFF, 5000, 0] })] } };
      let a := advance 0 s; let core := 2; let result := (0 : Word); let outputs := ([] : List (List Nat));
      let x := ({ item := ({ num := 3, part := 0, d := ({ arg0 := 0, arg1 := 0, tag := 7, flow := 0xFFFF, prio := 0, complete := false, budget := 5000, compRing := 0 } : ItemDesc), src := .port, budget := 5000 } : Item), start := 0, startNow := 0 } : Run);
      (tabGet a.tt.run core = some x) ∧ (x.item.src = .port) ∧ (x.item.d.complete = false) ∧ (flowOf a x.item.d.flow = none) ∧
      ((coreOf a core).stall = none) ∧ (hubLive a = true) ∧ ((partOf a x.item.part).mig.st = 0)) := by
  decide +kernel

theorem wit_CommitsEnterTheirRingInOrder :
    (let s := { (((wRing 2 0 {}).put 0x310010 0 0 [.n 0, .n 2, .n 64, .n 4, .n 0, .n 0, .n 0, .n 0, .n 0, .n 65535, .n 0, .n 5000, .n 0, .n 255]).put 0x300010 0 0 [.n 1, .o [1], .n 4, .n 8, .n 0, .n 4, .n 0, .n 0, .n 0, .n 1, .n 0, .n 4, .n 0, .n 0, .n 0]).put 0x440032 0 0 [.n 1000000] with tt := { ((((wRing 2 0 {}).put 0x310010 0 0 [.n 0, .n 2, .n 64, .n 4, .n 0, .n 0, .n 0, .n 0, .n 0, .n 65535, .n 0, .n 5000, .n 0, .n 255]).put 0x300010 0 0 [.n 1, .o [1], .n 4, .n 8, .n 0, .n 4, .n 0, .n 0, .n 0, .n 1, .n 0, .n 4, .n 0, .n 0, .n 0]).put 0x440032 0 0 [.n 1000000]).tt with run := [(2, ({ item := ({ num := 3, part := 0, d := ({ arg0 := 0, arg1 := 0, tag := 7, flow := 0xFFFF, prio := 0, complete := false, budget := 5000, compRing := 0 } : ItemDesc), src := .port, budget := 5000 } : Item), start := 0, startNow := 0 } : Run))], cores := [(2, { regs := [0, 0, 0, 0, 0, 0xFFFF, 5000, 0] })] } };
      let a := advance 0 s; let p := 0; let core := 2; let w := (5 : Word); let mem := MemAt.none;
      let x := ({ item := ({ num := 3, part := 0, d := ({ arg0 := 0, arg1 := 0, tag := 7, flow := 0xFFFF, prio := 0, complete := false, budget := 5000, compRing := 0 } : ItemDesc), src := .port, budget := 5000 } : Item), start := 0, startNow := 0 } : Run);
      (runOf a p core = some x) ∧ ((coreOf a core).stall = none) ∧ (commitTarget a p (bits w.toNat 0 8) = false)) ∧
    (let s := { (wRing 2 0 {}).put 0x310010 0 0 [.n 0, .n 2, .n 64, .n 4, .n 0, .n 1, .n 0, .n 0, .n 0, .n 65535, .n 0, .n 5000, .n 0, .n 255] with tt := { ((wRing 2 0 {}).put 0x310010 0 0 [.n 0, .n 2, .n 64, .n 4, .n 0, .n 1, .n 0, .n 0, .n 0, .n 65535, .n 0, .n 5000, .n 0, .n 255]).tt with run := [(2, ({ item := ({ num := 3, part := 0, d := ({ arg0 := 0, arg1 := 0, tag := 7, flow := 4, prio := 0, complete := false, budget := 5000, compRing := 0 } : ItemDesc), src := .port, budget := 5000 } : Item), start := 0, startNow := 0 } : Run))], flows := [(4, { owner := 0, typ := 2, order := [1, 3] })] } };
      let a := advance 0 s; let p := 0; let core := 2; let w := (0 : Word); let mem := MemAt.none;
      let x := ({ item := ({ num := 3, part := 0, d := ({ arg0 := 0, arg1 := 0, tag := 7, flow := 4, prio := 0, complete := false, budget := 5000, compRing := 0 } : ItemDesc), src := .port, budget := 5000 } : Item), start := 0, startNow := 0 } : Run);
      let f := ({ owner := 0, typ := 2, order := [1, 3] } : Flow); (runOf a p core = some x) ∧ ((coreOf a core).stall = none) ∧
      (commitTarget a p (bits w.toNat 0 8) = true) ∧ (bit w.toNat 16 = false) ∧ (flowOf a x.item.d.flow = some f) ∧ (f.typ = 2) ∧
      (x.commits < 16) ∧ (isOldest a x.item = false)) ∧
    (let s := { (wRing 2 0 {}).put 0x310010 0 0 [.n 0, .n 2, .n 64, .n 4, .n 0, .n 1, .n 0, .n 0, .n 0, .n 65535, .n 0, .n 5000, .n 0, .n 255] with tt := { ((wRing 2 0 {}).put 0x310010 0 0 [.n 0, .n 2, .n 64, .n 4, .n 0, .n 1, .n 0, .n 0, .n 0, .n 65535, .n 0, .n 5000, .n 0, .n 255]).tt with run := [(2, ({ item := ({ num := 3, part := 0, d := ({ arg0 := 0, arg1 := 0, tag := 7, flow := 0xFFFF, prio := 0, complete := false, budget := 5000, compRing := 0 } : ItemDesc), src := .port, budget := 5000 } : Item), start := 0, startNow := 0 } : Run))], cores := [(2, { regs := [0, 0, 0, 0, 0, 0xFFFF, 5000, 0] })] } };
      let a := advance 0 s; let p := 0; let core := 2; let w := (0 : Word); let mem := MemAt.none;
      let x := ({ item := ({ num := 3, part := 0, d := ({ arg0 := 0, arg1 := 0, tag := 7, flow := 0xFFFF, prio := 0, complete := false, budget := 5000, compRing := 0 } : ItemDesc), src := .port, budget := 5000 } : Item), start := 0, startNow := 0 } : Run);
      (runOf a p core = some x) ∧ ((coreOf a core).stall = none) ∧ (commitTarget a p (bits w.toNat 0 8) = true) ∧ (bit w.toNat 16 =
      false) ∧ (flowOf a x.item.d.flow = none) ∧ (rSpace a (bits w.toNat 0 8) ≠ 0) ∧ ((a.tt.waitRel.any fun h => h.q ==
      bits w.toNat 0 8) = false) ∧ (rType a (bits w.toNat 0 8) = 2) ∧ ((stepOf a p).live ≤ x.item.row)) ∧
    (let s := { (wRing 2 0 { prod := 4 }).put 0x310010 0 0 [.n 0, .n 2, .n 64, .n 4, .n 0, .n 1, .n 0, .n 0, .n 0, .n 65535, .n 0, .n 5000, .n 0, .n 255] with tt := { ((wRing 2 0 { prod := 4 }).put 0x310010 0 0 [.n 0, .n 2, .n 64, .n 4, .n 0, .n 1, .n 0, .n 0, .n 0, .n 65535, .n 0, .n 5000, .n 0, .n 255]).tt with run := [(2, ({ item := ({ num := 3, part := 0, d := ({ arg0 := 0, arg1 := 0, tag := 7, flow := 0xFFFF, prio := 0, complete := false, budget := 5000, compRing := 0 } : ItemDesc), src := .port, budget := 5000 } : Item), start := 0, startNow := 0 } : Run))], cores := [(2, { regs := [0, 0, 0, 0, 0, 0xFFFF, 5000, 0] })] } };
      let a := advance 0 s; let p := 0; let core := 2; let w := (0 : Word); let mem := MemAt.none;
      let x := ({ item := ({ num := 3, part := 0, d := ({ arg0 := 0, arg1 := 0, tag := 7, flow := 0xFFFF, prio := 0, complete := false, budget := 5000, compRing := 0 } : ItemDesc), src := .port, budget := 5000 } : Item), start := 0, startNow := 0 } : Run);
      (runOf a p core = some x) ∧ ((coreOf a core).stall = none) ∧ (commitTarget a p (bits w.toNat 0 8) = true) ∧ (bit w.toNat 16 =
      false) ∧ (flowOf a x.item.d.flow = none) ∧ (rSpace a (bits w.toNat 0 8) = 0)) := by
  decide +kernel
theorem wit_CommitsEnterTheirRingInOrder_2 :
    (let s := { (wRing 2 0 { prod := 1 }).put 0x310010 0 0 [.n 0, .n 2, .n 64, .n 4, .n 0, .n 1, .n 0, .n 0, .n 0, .n 65535, .n 0, .n 5000, .n 0, .n 255] with tt := { ((wRing 2 0 { prod := 1 }).put 0x310010 0 0 [.n 0, .n 2, .n 64, .n 4, .n 0, .n 1, .n 0, .n 0, .n 0, .n 65535, .n 0, .n 5000, .n 0, .n 255]).tt with waitRel := [⟨3, 0, 0, none, .item ({ arg0 := 0, arg1 := 0, tag := 7, flow := 0xFFFF, prio := 0, complete := false, budget := 5000, compRing := 0 } : ItemDesc), 0⟩] } };
      let a := advance 0 s; let ring := 0; let h := (⟨3, 0, 0, none,
      .item ({ arg0 := 0, arg1 := 0, tag := 7, flow := 0xFFFF, prio := 0, complete := false, budget := 5000, compRing := 0 } : ItemDesc),
      0⟩ : Held); (hubLive a = true) ∧ (rType a ring = 2) ∧ (rSpace a ring ≠ 0) ∧ (a.tt.waitRel = [h]) ∧ (h.q = ring) ∧ (h.comp =
      none) ∧ ((stepOf a h.part).live ≤ h.row) ∧ ((a.tt.cores.all fun x => x.2.stall.isNone) = true)) := by
  decide +kernel

theorem wit_FlowsAndRingIndices :
    (let s := { (((wRing 2 0 {}).put 0x310010 0 0 [.n 0, .n 2, .n 64, .n 4, .n 0, .n 0, .n 0, .n 0, .n 0, .n 65535, .n 0, .n 5000, .n 0, .n 255]).put 0x300010 0 0 [.n 1, .o [1], .n 4, .n 8, .n 0, .n 4, .n 0, .n 0, .n 0, .n 1, .n 0, .n 4, .n 0, .n 0, .n 0]).put 0x440032 0 0 [.n 1000000] with tt := { ((((wRing 2 0 {}).put 0x310010 0 0 [.n 0, .n 2, .n 64, .n 4, .n 0, .n 0, .n 0, .n 0, .n 0, .n 65535, .n 0, .n 5000, .n 0, .n 255]).put 0x300010 0 0 [.n 1, .o [1], .n 4, .n 8, .n 0, .n 4, .n 0, .n 0, .n 0, .n 1, .n 0, .n 4, .n 0, .n 0, .n 0]).put 0x440032 0 0 [.n 1000000]).tt with run := [(2, ({ item := ({ num := 3, part := 0, d := ({ arg0 := 0, arg1 := 0, tag := 7, flow := 0xFFFF, prio := 0, complete := false, budget := 5000, compRing := 0 } : ItemDesc), src := .port, budget := 5000 } : Item), start := 0, startNow := 0 } : Run))], cores := [(2, { regs := [0, 0, 0, 0, 0, 0xFFFF, 5000, 0] })] } };
      let a := advance 0 s; let p := 0; let core := 2; let w := (2 : Word);
      let x := ({ item := ({ num := 3, part := 0, d := ({ arg0 := 0, arg1 := 0, tag := 7, flow := 0xFFFF, prio := 0, complete := false, budget := 5000, compRing := 0 } : ItemDesc), src := .port, budget := 5000 } : Item), start := 0, startNow := 0 } : Run);
      (runOf a p core = some x) ∧ ((coreOf a core).stall = none) ∧ (w.toNat % 4 = 1 ∨ w.toNat % 4 = 2) ∧ ((freeFlows a).isEmpty =
      false) ∧ ((a.tt.flows.filter fun y => y.2.owner == p).length < pcfg a p 5)) ∧
    (let s := { (wRing 2 0 {}).put 0x310010 0 0 [.n 0, .n 2, .n 64, .n 4, .n 0, .n 0, .n 0, .n 0, .n 0, .n 65535, .n 0, .n 5000, .n 0, .n 255] with tt := { ((wRing 2 0 {}).put 0x310010 0 0 [.n 0, .n 2, .n 64, .n 4, .n 0, .n 0, .n 0, .n 0, .n 0, .n 65535, .n 0, .n 5000, .n 0, .n 255]).tt with run := [(2, ({ item := ({ num := 3, part := 0, d := ({ arg0 := 0, arg1 := 0, tag := 7, flow := 0xFFFF, prio := 0, complete := false, budget := 5000, compRing := 0 } : ItemDesc), src := .port, budget := 5000 } : Item), start := 0, startNow := 0 } : Run))], cores := [(2, { regs := [0, 0, 0, 0, 0, 0xFFFF, 5000, 0] })] } };
      let a := advance 0 s; let p := 0; let core := 2; let w := (1 : Word);
      let x := ({ item := ({ num := 3, part := 0, d := ({ arg0 := 0, arg1 := 0, tag := 7, flow := 0xFFFF, prio := 0, complete := false, budget := 5000, compRing := 0 } : ItemDesc), src := .port, budget := 5000 } : Item), start := 0, startNow := 0 } : Run);
      (runOf a p core = some x) ∧ ((coreOf a core).stall = none) ∧ (w.toNat % 4 = 1 ∨ w.toNat % 4 = 2) ∧ ((freeFlows a).isEmpty = true ∨
      pcfg a p 5 ≤ (a.tt.flows.filter fun y => y.2.owner == p).length)) ∧
    (let s := { (((wRing 2 0 {}).put 0x310010 0 0 [.n 0, .n 2, .n 64, .n 4, .n 0, .n 0, .n 0, .n 0, .n 0, .n 65535, .n 0, .n 5000, .n 0, .n 255]).put 0x300010 0 0 [.n 1, .o [1], .n 4, .n 8, .n 0, .n 4, .n 0, .n 0, .n 0, .n 1, .n 0, .n 4, .n 0, .n 0, .n 0]).put 0x440032 0 0 [.n 1000000] with tt := { ((((wRing 2 0 {}).put 0x310010 0 0 [.n 0, .n 2, .n 64, .n 4, .n 0, .n 0, .n 0, .n 0, .n 0, .n 65535, .n 0, .n 5000, .n 0, .n 255]).put 0x300010 0 0 [.n 1, .o [1], .n 4, .n 8, .n 0, .n 4, .n 0, .n 0, .n 0, .n 1, .n 0, .n 4, .n 0, .n 0, .n 0]).put 0x440032 0 0 [.n 1000000]).tt with run := [(2, ({ item := ({ num := 3, part := 0, d := ({ arg0 := 0, arg1 := 0, tag := 7, flow := 0xFFFF, prio := 0, complete := false, budget := 5000, compRing := 0 } : ItemDesc), src := .port, budget := 5000 } : Item), start := 0, startNow := 0 } : Run))], cores := [(2, { regs := [0, 0, 0, 0, 0, 0xFFFF, 5000, 0] })] } };
      let a := advance 0 s; let p := 0; let core := 2; let w := (3 : Word);
      let x := ({ item := ({ num := 3, part := 0, d := ({ arg0 := 0, arg1 := 0, tag := 7, flow := 0xFFFF, prio := 0, complete := false, budget := 5000, compRing := 0 } : ItemDesc), src := .port, budget := 5000 } : Item), start := 0, startNow := 0 } : Run);
      (runOf a p core = some x) ∧ ((coreOf a core).stall = none) ∧ (w.toNat % 4 = 0 ∨ w.toNat % 4 = 3)) ∧
    (let s := { (((wRing 2 0 {}).put 0x310010 0 0 [.n 0, .n 2, .n 64, .n 4, .n 0, .n 0, .n 0, .n 0, .n 0, .n 65535, .n 0, .n 5000, .n 0, .n 255]).put 0x300010 0 0 [.n 1, .o [1], .n 4, .n 8, .n 0, .n 4, .n 0, .n 0, .n 0, .n 1, .n 0, .n 4, .n 0, .n 0, .n 0]).put 0x440032 0 0 [.n 1000000] with tt := { ((((wRing 2 0 {}).put 0x310010 0 0 [.n 0, .n 2, .n 64, .n 4, .n 0, .n 0, .n 0, .n 0, .n 0, .n 65535, .n 0, .n 5000, .n 0, .n 255]).put 0x300010 0 0 [.n 1, .o [1], .n 4, .n 8, .n 0, .n 4, .n 0, .n 0, .n 0, .n 1, .n 0, .n 4, .n 0, .n 0, .n 0]).put 0x440032 0 0 [.n 1000000]).tt with run := [(2, ({ item := ({ num := 3, part := 0, d := ({ arg0 := 0, arg1 := 0, tag := 7, flow := 0xFFFF, prio := 0, complete := false, budget := 5000, compRing := 0 } : ItemDesc), src := .port, budget := 5000 } : Item), start := 0, startNow := 0 } : Run))], cores := [(2, { regs := [0, 0, 0, 0, 0, 0xFFFF, 5000, 0] })] } };
      let a := advance 0 s; let p := 1; let core := 2; let w := (1 : Word); (runOf a p core = none ∨
      (coreOf a core).stall ≠ none)) := by
  decide +kernel
theorem wit_FlowsAndRingIndices_2 :
    (let s := { (((wRing 2 0 {}).put 0x310010 0 0 [.n 0, .n 2, .n 64, .n 4, .n 0, .n 0, .n 0, .n 0, .n 0, .n 65535, .n 0, .n 5000, .n 0, .n 255]).put 0x300010 0 0 [.n 1, .o [1], .n 4, .n 8, .n 0, .n 4, .n 0, .n 0, .n 0, .n 1, .n 0, .n 4, .n 0, .n 0, .n 0]).put 0x440032 0 0 [.n 1000000] with tt := { ((((wRing 2 0 {}).put 0x310010 0 0 [.n 0, .n 2, .n 64, .n 4, .n 0, .n 0, .n 0, .n 0, .n 0, .n 65535, .n 0, .n 5000, .n 0, .n 255]).put 0x300010 0 0 [.n 1, .o [1], .n 4, .n 8, .n 0, .n 4, .n 0, .n 0, .n 0, .n 1, .n 0, .n 4, .n 0, .n 0, .n 0]).put 0x440032 0 0 [.n 1000000]).tt with run := [(2, ({ item := ({ num := 3, part := 0, d := ({ arg0 := 0, arg1 := 0, tag := 7, flow := 0xFFFF, prio := 0, complete := false, budget := 5000, compRing := 0 } : ItemDesc), src := .port, budget := 5000 } : Item), start := 0, startNow := 0 } : Run))], cores := [(2, { regs := [0, 0, 0, 0, 0, 0xFFFF, 5000, 0] })], flows := [(4, { owner := 0, typ := 2 })] } };
      let a := advance 0 s; let p := 0; let core := 2; let w := (4 : Word); let f := 4;
      let x := ({ item := ({ num := 3, part := 0, d := ({ arg0 := 0, arg1 := 0, tag := 7, flow := 0xFFFF, prio := 0, complete := false, budget := 5000, compRing := 0 } : ItemDesc), src := .port, budget := 5000 } : Item), start := 0, startNow := 0 } : Run);
      let y := ({ owner := 0, typ := 2 } : Flow); (runOf a p core = some x) ∧ ((coreOf a core).stall = none) ∧ (f = bits w.toNat 0 14) ∧
      (flowOf a f = some y) ∧ (y.owner = p) ∧ (y.logic = false) ∧ (flowUsed a f y = false)) ∧
    (let s := { (((wRing 2 0 {}).put 0x310010 0 0 [.n 0, .n 2, .n 64, .n 4, .n 0, .n 0, .n 0, .n 0, .n 0, .n 65535, .n 0, .n 5000, .n 0, .n 255]).put 0x300010 0 0 [.n 1, .o [1], .n 4, .n 8, .n 0, .n 4, .n 0, .n 0, .n 0, .n 1, .n 0, .n 4, .n 0, .n 0, .n 0]).put 0x440032 0 0 [.n 1000000] with tt := { ((((wRing 2 0 {}).put 0x310010 0 0 [.n 0, .n 2, .n 64, .n 4, .n 0, .n 0, .n 0, .n 0, .n 0, .n 65535, .n 0, .n 5000, .n 0, .n 255]).put 0x300010 0 0 [.n 1, .o [1], .n 4, .n 8, .n 0, .n 4, .n 0, .n 0, .n 0, .n 1, .n 0, .n 4, .n 0, .n 0, .n 0]).put 0x440032 0 0 [.n 1000000]).tt with run := [(2, ({ item := ({ num := 3, part := 0, d := ({ arg0 := 0, arg1 := 0, tag := 7, flow := 0xFFFF, prio := 0, complete := false, budget := 5000, compRing := 0 } : ItemDesc), src := .port, budget := 5000 } : Item), start := 0, startNow := 0 } : Run))], cores := [(2, { regs := [0, 0, 0, 0, 0, 0xFFFF, 5000, 0] })], flows := [(4, { owner := 0, typ := 2, order := [9] })] } };
      let a := advance 0 s; let p := 0; let core := 2; let w := (4 : Word); let f := 4;
      let x := ({ item := ({ num := 3, part := 0, d := ({ arg0 := 0, arg1 := 0, tag := 7, flow := 0xFFFF, prio := 0, complete := false, budget := 5000, compRing := 0 } : ItemDesc), src := .port, budget := 5000 } : Item), start := 0, startNow := 0 } : Run);
      let y := ({ owner := 0, typ := 2, order := [9] } : Flow); (runOf a p core = some x) ∧ ((coreOf a core).stall = none) ∧ (f =
      bits w.toNat 0 14) ∧ (flowOf a f = some y) ∧ (y.owner = p) ∧ (y.logic = false) ∧ (flowUsed a f y = true)) ∧
    (let s := { (((wRing 2 0 {}).put 0x310010 0 0 [.n 0, .n 2, .n 64, .n 4, .n 0, .n 0, .n 0, .n 0, .n 0, .n 65535, .n 0, .n 5000, .n 0, .n 255]).put 0x300010 0 0 [.n 1, .o [1], .n 4, .n 8, .n 0, .n 4, .n 0, .n 0, .n 0, .n 1, .n 0, .n 4, .n 0, .n 0, .n 0]).put 0x440032 0 0 [.n 1000000] with tt := { ((((wRing 2 0 {}).put 0x310010 0 0 [.n 0, .n 2, .n 64, .n 4, .n 0, .n 0, .n 0, .n 0, .n 0, .n 65535, .n 0, .n 5000, .n 0, .n 255]).put 0x300010 0 0 [.n 1, .o [1], .n 4, .n 8, .n 0, .n 4, .n 0, .n 0, .n 0, .n 1, .n 0, .n 4, .n 0, .n 0, .n 0]).put 0x440032 0 0 [.n 1000000]).tt with run := [(2, ({ item := ({ num := 3, part := 0, d := ({ arg0 := 0, arg1 := 0, tag := 7, flow := 0xFFFF, prio := 0, complete := false, budget := 5000, compRing := 0 } : ItemDesc), src := .port, budget := 5000 } : Item), start := 0, startNow := 0 } : Run))], cores := [(2, { regs := [0, 0, 0, 0, 0, 0xFFFF, 5000, 0] })], flows := [(4, { owner := 1, typ := 2 })] } };
      let a := advance 0 s; let p := 0; let core := 2; let w := (4 : Word); (runOf a p core = none ∨ (coreOf a core).stall ≠ none ∨
      (flowOf a (bits w.toNat 0 14)).all (fun y => y.owner != p || y.logic) = true)) ∧
    (let s := (wRing 2 0 {}).put 0x310010 0 0 [.n 0, .n 2, .n 64, .n 4, .n 0, .n 0, .n 0, .n 0, .n 0, .n 65535, .n 0, .n 5000, .n 0,
      .n 255]; let a := advance 0 s; let p := 0; let ring := 0; let value := (2 : Word); let entries := ([] : List Entry);
      (ownsRing a p ring = true) ∧ (prodHard a ring = false) ∧ (1 ≤ idxDist (ringOf a ring).prod value.toNat) ∧
      (idxDist (ringOf a ring).prod value.toNat ≤ rSpace a ring)) := by
  decide +kernel
theorem wit_FlowsAndRingIndices_3 :
    (let s := (wRing 2 0 {}).put 0x310010 0 0 [.n 0, .n 2, .n 64, .n 4, .n 0, .n 0, .n 0, .n 0, .n 0, .n 65535, .n 0, .n 5000, .n 0,
      .n 255]; let a := advance 0 s; let p := 0; let ring := 0; let value := (1 : Word);
      let entries := ([.item ({ arg0 := 0, arg1 := 0, tag := 7, flow := 0xFFFF, prio := 0, complete := false, budget := 5000, compRing := 0 } : ItemDesc)] : List Entry);
      let e := (.item ({ arg0 := 0, arg1 := 0, tag := 7, flow := 0xFFFF, prio := 0, complete := false, budget := 5000, compRing := 0 } : ItemDesc) : Entry);
      let more := ([] : List Entry); (ownsRing a p ring = true) ∧ (prodHard a ring = false) ∧ (rType a ring ≠ 1) ∧
      (idxDist (ringOf a ring).prod value.toNat = 1) ∧ (1 ≤ rSpace a ring) ∧ (entries = e :: more)) ∧
    (let s := (wRing 2 0 {}).put 0x310010 0 0 [.n 0, .n 2, .n 64, .n 4, .n 0, .n 0, .n 0, .n 0, .n 0, .n 65535, .n 0, .n 5000, .n 0,
      .n 255]; let a := advance 0 s; let p := 0; let ring := 0; let value := (5 : Word); let entries := ([] : List Entry);
      (ownsRing a p ring = true) ∧ (prodHard a ring = true ∨ idxDist (ringOf a ring).prod value.toNat = 0 ∨
      rSpace a ring < idxDist (ringOf a ring).prod value.toNat)) ∧
    (let s := (wRing 2 0 {}).put 0x310010 0 0 [.n 0, .n 2, .n 64, .n 4, .n 0, .n 0, .n 0, .n 0, .n 0, .n 65535, .n 0, .n 5000, .n 0,
      .n 255]; let a := advance 0 s; let p := 1; let ring := 0; let value := (2 : Word); let entries := ([] : List Entry);
      (ownsRing a p ring = false)) ∧
    (let s := (wRing 3 0 { prod := 3 }).put 0x310010 0 0 [.n 0, .n 3, .n 64, .n 4, .n 0, .n 0, .n 0, .n 0, .n 0, .n 65535, .n 0,
      .n 5000, .n 0, .n 255]; let a := advance 0 s; let p := 0; let ring := 0; let value := (2 : Word); (ownsRing a p ring = true) ∧
      (3 ≤ rType a ring ∨ rPort a ring = false ∨ rType a ring = 0) ∧ (1 ≤ idxDist (ringOf a ring).cons value.toNat) ∧
      (idxDist (ringOf a ring).cons value.toNat ≤ idxDist (ringOf a ring).cons (if 3 ≤ rType a ring then (ringOf a ring).prod else (ringOf a ring).done))) := by
  decide +kernel
theorem wit_FlowsAndRingIndices_4 :
    (let s := (wRing 3 0 { prod := 3 }).put 0x310010 0 0 [.n 0, .n 3, .n 64, .n 4, .n 0, .n 0, .n 0, .n 0, .n 0, .n 65535, .n 0,
      .n 5000, .n 0, .n 255]; let a := advance 0 s; let p := 0; let ring := 0; let value := (0 : Word); (ownsRing a p ring = true) ∧
      (rPort a ring = true ∧ (rType a ring = 1 ∨ rType a ring = 2) ∨ idxDist (ringOf a ring).cons value.toNat = 0 ∨
      idxDist (ringOf a ring).cons (if 3 ≤ rType a ring then (ringOf a ring).prod else (ringOf a ring).done) < idxDist (ringOf a ring).cons value.toNat)) ∧
    (let s := (wRing 3 0 {}).put 0x310010 0 0 [.n 0, .n 3, .n 64, .n 4, .n 0, .n 0, .n 0, .n 0, .n 0, .n 65535, .n 0, .n 5000, .n 0,
      .n 255]; let a := advance 0 s; let p := 1; let ring := 0; let value := (2 : Word); (ownsRing a p ring = false)) := by
  decide +kernel

theorem wit_DmaMovesMemory :
    (let s := (wRing 2 1 { prod := 1, slots := [(0, .dma ({ src := 0, dst := 64, tag := 9, len := 4, op := 0, complete := false, fence := false, compRing := 0, rsv := 1 } : DmaDesc))] }).put 0x310010 0 0 [.n 0,
      .n 2, .n 64, .n 4, .n 0, .n 0, .n 1, .n 0, .n 0, .n 65535, .n 0, .n 5000, .n 0, .n 255]; let a := advance 0 s; let ring := 0;
      let i := 0;
      let d := ({ src := 0, dst := 64, tag := 9, len := 4, op := 0, complete := false, fence := false, compRing := 0, rsv := 1 } : DmaDesc);
      (rType a ring = 2) ∧ (rEngine a ring = 1) ∧ (rPort a ring = false) ∧ (hubLive a = true) ∧ (dmaTags a < 256) ∧ (nextEntry a ring =
      some (i, .dma d)) ∧ (d.reservedOk = false)) ∧
    (let s := (((wRing 2 1 { prod := 1, slots := [(0, .dma ({ src := 0, dst := 64, tag := 9, len := 4, op := 0, complete := false, fence := false, compRing := 0 } : DmaDesc))] }).put 0x310010 0 0 [.n 0,
      .n 2, .n 64, .n 4, .n 0, .n 0, .n 1, .n 0, .n 0, .n 65535, .n 0, .n 5000, .n 0, .n 255]).put 0x300010 0 0 [.n 1, .o [1], .n 4,
      .n 8, .n 0, .n 4, .n 0, .n 0, .n 0, .n 1, .n 0, .n 4, .n 0, .n 0, .n 0]).put 0x440032 0 0 [.n 1000000]; let a := advance 0 s;
      let ring := 0; let i := 0;
      let d := ({ src := 0, dst := 64, tag := 9, len := 4, op := 0, complete := false, fence := false, compRing := 0 } : DmaDesc);
      (rType a ring = 2) ∧ (rEngine a ring = 1) ∧ (rPort a ring = false) ∧ (hubLive a = true) ∧ (dmaTags a < 256) ∧ (nextEntry a ring =
      some (i, .dma d)) ∧ (d.reservedOk = true) ∧ (d.op ≤ 2) ∧ (1 ≤ d.len) ∧ (d.len ≤ 16777216) ∧ (unitTakes a 13 = true) ∧
      (pst a (rOwner a ring) = .running) ∧ (dmaCount a (rOwner a ring) < pcfg a (rOwner a ring) 11) ∧ (d.complete = false) ∧
      ((dmaWorking a).isEmpty = false)) ∧
    (let s := { { (wRing 2 1 {}).put 0x310010 0 0 [.n 0, .n 2, .n 64, .n 4, .n 0, .n 0, .n 1, .n 0, .n 0, .n 65535, .n 0, .n 5000, .n 0, .n 255] with tt := { ((wRing 2 1 {}).put 0x310010 0 0 [.n 0, .n 2, .n 64, .n 4, .n 0, .n 0, .n 1, .n 0, .n 0, .n 65535, .n 0, .n 5000, .n 0, .n 255]).tt with dma := [(1, ({ part := 0, q := 0, idx := 0, d := ({ src := 0, dst := 64, tag := 9, len := 4, op := 0, complete := false, fence := false, compRing := 0 } : DmaDesc), start := 0, engine := 3 } : DmaOp))] } } with mem := [(0, 5), (2, 6)] };
      let a := advance 0 s; let dmaId := 1;
      let o := ({ part := 0, q := 0, idx := 0, d := ({ src := 0, dst := 64, tag := 9, len := 4, op := 0, complete := false, fence := false, compRing := 0 } : DmaDesc), start := 0, engine := 3 } : DmaOp);
      (tabGet a.tt.dma dmaId = some o) ∧ (hubLive a = true) ∧ (o.d.fence = false) ∧ (o.d.op = 0) ∧ (o.faulted = false) ∧ (o.suppressed =
      false) ∧ (o.d.complete = false) ∧ (Memory.wf a.mem = true)) ∧
    (let s := { (wRing 2 1 {}).put 0x310010 0 0 [.n 0, .n 2, .n 64, .n 4, .n 0, .n 0, .n 1, .n 0, .n 0, .n 65535, .n 0, .n 5000, .n 0, .n 255] with tt := { ((wRing 2 1 {}).put 0x310010 0 0 [.n 0, .n 2, .n 64, .n 4, .n 0, .n 0, .n 1, .n 0, .n 0, .n 65535, .n 0, .n 5000, .n 0, .n 255]).tt with dma := [(1, ({ part := 0, q := 0, idx := 0, d := ({ src := 0, dst := 64, tag := 9, len := 4, op := 0, complete := false, fence := false, compRing := 0 } : DmaDesc), start := 0, engine := 3 } : DmaOp))] } };
      let a := advance 0 s; let engine := 3; (engine < 8) ∧ (a.tt.dmaFailed.contains engine = false) ∧ (unitOk a 13 = true)) := by
  decide +kernel

theorem wit_WindowReadsLatchAndClear :
    (let s := { wRun with tm := { wRun.tm with sec := 7000000000 } }; let a := advance 0 s; let p := 0; let core := 2;
      let offset := 0x30; let v := 7000000000000000000; let st := timeStat wRun; (pairAt a p offset = some (v, st))) ∧
    (let s := { ((wRing 2 0 {}).put 0x380011 3 0 [.n 1, .n 0, .n 1, .n 4000000, .n 0, .n 0, .n 5000, .n 5000, .n 1, .n 2, .n 0, .n 64]).put 0x380010 0 0 [.n 1, .n 0, .n 256, .n 16, .n 0, .n 0] with lg := { tasks := [(3, { overrun := 4 })] } };
      let a := advance 0 s; let p := 0; let core := 2; let slot := 1; let j := 3; (((tasksOf a p).find? fun j => ltF a j 2 == slot) =
      some j)) := by
  decide +kernel

theorem wit_WindowWrites :
    (let s := { wRun with tt := { run := [(2, ({ item := ({ num := 3, part := 0, d := ({ arg0 := 0, arg1 := 0, tag := 7, flow := 0xFFFF, prio := 0, complete := false, budget := 5000, compRing := 0 } : ItemDesc), src := .port, budget := 5000 } : Item), start := 0, startNow := 0 } : Run))] } };
      let a := advance 0 s; let p := 0; let core := 2; let offset := 0x21C; let w := (9 : Word); let i := 7; (offset = 0x200 + 4 * i) ∧
      (i < 8) ∧ (p < 64) ∧ ((runOf a p core).isSome = true) ∧ ((coreOf a core).stall = none)) ∧
    (let s := wRun; let a := advance 0 s; let p := 0; let core := 2; let offset := 0x220; let w := (9 : Word); (0x200 ≤ offset) ∧
      (offset < 0x1000) ∧ (p < 64) ∧ (runOf a p core = none)) ∧
    (let s := { wRun with ph := { bells := [(0, { pend := 13, mask := 0 })] } }; let a := advance 0 s; let p := (0 : Nat);
      let core := 2; let w := (5 : Word); (64 ≤ p ∨ (coreOf a core).stall = none)) ∧
    (let s := { wRun.put 0x340100 5 0 [.n 1, .n 0, .n 64, .n 2, .n 0, .n 3, .n 4, .n 1000] with ph := { chans := [(5, { aborted := true })] } };
      let a := advance 0 s; let p := (0 : Nat); let core := 2; let offset := 0x4408; let w := (512 : Word); let i := 2; let c := 5;
      (offset = 0x4400 + 4 * i) ∧ (i < 256) ∧ (64 ≤ p ∨ (coreOf a core).stall = none) ∧ (chanFor a p i true = some c) ∧ (bit w.toNat 9 =
      true)) := by
  decide +kernel
theorem wit_WindowWrites_2 :
    (let s := wRun; let a := advance 0 s; let p := 0; let core := 2; let offset := 0x10; let w := (5 : Word); (offset < 0x200 ∨
      0x2000 ≤ offset) ∧ (offset < 0x4000 ∨ 0x8000 ≤ offset) ∧ (offset ≠ 0x48)) := by
  decide +kernel

theorem wit_PigeonholesCarryMessages :
    (let s := { { wRun.put 0x340100 5 0 [.n 1, .n 0, .n 64, .n 2, .n 0, .n 3, .n 4, .n 1000] with ph := { cores := [(2, { regs := [0, 0xABCD, 2, 3, 4, 5, 6, 7, 8, 9, 10, 11, 12, 13, 14, 15] })] } } with parts := { ps := [(0, { st := .running })] } };
      let a := advance 0 s; let ep := 0; let core := 2; let w := (0x84020009 : Word); let c := 5;
      (chanFor a ep (bits w.toNat 16 10) true = some c) ∧ (postCheck a ep (some c) = 0)) ∧
    (let s := { { wRun.put 0x340100 5 0 [.n 1, .n 0, .n 64, .n 2, .n 0, .n 3, .n 4, .n 1000] with ph := { chans := [(5, { q := [({ code := 9, len := 1, words := [7] } : Msg), ({ code := 9, len := 1, words := [7] } : Msg), ({ code := 9, len := 1, words := [7] } : Msg), ({ code := 9, len := 1, words := [7] } : Msg)] })] } } with parts := { ps := [(0, { st := .running })] } };
      let a := advance 0 s; let ep := 0; let core := 2; let w := (0x84020009 : Word); let c := 5;
      (chanFor a ep (bits w.toNat 16 10) true = some c) ∧ (postCheck a ep (some c) = 2)) ∧
    (let s := { wRun.put 0x340100 5 0 [.n 1, .n 0, .n 64, .n 2, .n 0, .n 3, .n 4, .n 1000] with parts := { ps := [(0, { st := .running })] } };
      let a := advance 0 s; let ep := 1; let core := 2; let w := (0x84020009 : Word); let k := 5; (k =
      postCheck a ep (chanFor a ep (bits w.toNat 16 10) true)) ∧ (k = 3 ∨ k = 4 ∨ k = 5)) ∧
    (let s := { wRun.put 0x340100 5 0 [.n 1, .n 0, .n 64, .n 2, .n 0, .n 3, .n 4, .n 1000] with parts := { ps := [(0, { st := .running })] } };
      let a := advance 0 s; let ep := 0; let core := 2; let w := (0x80000009 : Word); let c := (none : Option Nat); (fabricUp a =
      true) ∧ (64 ≤ ep ∨ pst a ep = .running ∨ pst a ep = .stopping) ∧ (chanFor a ep (bits w.toNat 16 10) true = c) ∧ (c = none ∨
      c.any (fun c => fencing a (chF a c 2)) = true)) := by
  decide +kernel
theorem wit_PigeonholesCarryMessages_2 :
    (let s := { { wRun.put 0x340100 5 0 [.n 1, .n 64, .n 0, .n 0, .n 2, .n 3, .n 4, .n 1000] with ph := { chans := [(5, { q := [({ code := 9, len := 1, words := [7] } : Msg)] })] } } with parts := { ps := [(0, { st := .running })] } };
      let a := advance 0 s; let ep := 0; let core := 2; let w := (2 : Word); let c := 5;
      let m := ({ code := 9, len := 1, words := [7] } : Msg); let rest := ([] : List Msg); (fencing a ep = false) ∧ (fabricUp a =
      true) ∧ (chanFor a ep (bits w.toNat 0 10) false = some c) ∧ ((chanOf a c).q = m :: rest)) ∧
    (let s := { { wRun.put 0x340100 5 0 [.n 1, .n 64, .n 0, .n 0, .n 2, .n 3, .n 4, .n 1000] with ph := { chans := [(5, { q := [({ code := 9, len := 1, words := [7] } : Msg), ({ code := 9, len := 1, words := [7] } : Msg)] })] } } with parts := { ps := [(0, { st := .running })] } };
      let a := advance 0 s; let ep := 0; let core := 2; let w := (2 : Word); let c := 5;
      let m := ({ code := 9, len := 1, words := [7] } : Msg); let rest := ([({ code := 9, len := 1, words := [7] } : Msg)] : List Msg);
      (fencing a ep = false) ∧ (fabricUp a = true) ∧ (chanFor a ep (bits w.toNat 0 10) false = some c) ∧ ((chanOf a c).q = m :: rest) ∧
      ((chanOf a c).wait = []) ∧ (chF a c 1 ≠ 65)) ∧
    (let s := { wRun.put 0x340100 5 0 [.n 1, .n 64, .n 0, .n 0, .n 2, .n 3, .n 4, .n 1000] with parts := { ps := [(0, { st := .running })] } };
      let a := advance 0 s; let ep := 0; let core := 2; let w := (2 : Word); let c := 5; (fencing a ep = false) ∧ (fabricUp a = true) ∧
      (chanFor a ep (bits w.toNat 0 10) false = some c) ∧ ((chanOf a c).q = [])) ∧
    (let s := { wRun.put 0x340100 5 0 [.n 1, .n 64, .n 0, .n 0, .n 2, .n 3, .n 4, .n 1000] with parts := { ps := [(0, { st := .running })] } };
      let a := advance 0 s; let ep := 0; let core := 2; let w := (3 : Word); (fencing a ep = false) ∧ (fabricUp a = false ∨
      chanFor a ep (bits w.toNat 0 10) false = none)) := by
  decide +kernel
theorem wit_PigeonholesCarryMessages_3 :
    (let s := { wRun.put 0x340100 5 0 [.n 1, .n 64, .n 0, .n 0, .n 2, .n 3, .n 4, .n 1000] with parts := { ps := [(0, { st := .running, fence := some (9, 1) })] } };
      let a := advance 0 s; let ep := 0; let core := 2; let w := (2 : Word); (fencing a ep = true)) ∧
    (let s := { wRun.put 0x340100 5 0 [.n 1, .n 64, .n 0, .n 0, .n 2, .n 3, .n 4, .n 1000] with parts := { ps := [(0, { st := .running })] } };
      let a := advance 0 s; let ep := 0; let core := 2; let w := (0x0300 : Word); (fabricUp a = true) ∧ (bits w.toNat 0 6 ≠ 63) ∧
      (joined a ep (bits w.toNat 8 7) = false)) ∧
    (let s := { wRun.put 0x340100 5 0 [.n 1, .n 0, .n 64, .n 2, .n 0, .n 3, .n 4, .n 1000] with parts := { ps := [(0, { st := .running })] } };
      let a := advance 0 s; let ep := 0; let core := 2; let w := (0x4005 : Word); (fabricUp a = true) ∧ (bits w.toNat 0 6 ≠ 63) ∧
      (joined a ep (bits w.toNat 8 7) = true)) ∧
    (let s := { wRun.put 0x340100 5 0 [.n 1, .n 0, .n 64, .n 2, .n 0, .n 3, .n 4, .n 1000] with parts := { ps := [(0, { st := .running })] } };
      let a := advance 0 s; let ep := 0; let core := 2; let w := (0x403F : Word); (fabricUp a = true) ∧ (bits w.toNat 0 6 = 63)) := by
  decide +kernel
theorem wit_PigeonholesCarryMessages_4 :
    (let s := { { wRun.put 0x340100 5 0 [.n 1, .n 0, .n 64, .n 2, .n 0, .n 3, .n 4, .n 1000] with parts := { ps := [(0, { st := .running })] } } with boot := { wRun.boot with roll := [] } };
      let a := advance 0 s; let ep := 0; let core := 2; let w := (0x4005 : Word); (fabricUp a = false)) ∧
    (let s := { wRun.put 0x340100 5 0 [.n 1, .n 0, .n 64, .n 2, .n 0, .n 3, .n 4, .n 1000] with now := 2000, ph := { chans := [(5, { q := [({ code := 9, len := 1, words := [7] } : Msg)] })] } };
      let a := advance 0 s; let c := 5; let m := ({ code := 9, len := 1, words := [7] } : Msg); let rest := ([] : List Msg);
      ((chanOf a c).q = m :: rest) ∧ ((chanOf a c).timed = false) ∧ (m.postedAt + chF a c 7 ≤ a.now) ∧ (fabricUp a = true)) ∧
    (let s := { wRun.put 0x340100 5 0 [.n 1, .n 0, .n 64, .n 2, .n 0, .n 3, .n 4, .n 1000] with now := 2000, ph := { chans := [(5, { q := [({ code := 9, len := 1, words := [7] } : Msg)], timed := true })] } };
      let a := advance 0 s; let c := 5; ((chanOf a c).timed = true ∨ fabricUp a = false ∨ (chanOf a c).q.head?.all (fun m =>
      decide (a.now < m.postedAt + chF a c 7)) = true)) := by
  decide +kernel

theorem wit_LogicCyclesStartOrAreSkipped :
    (let s := { (((((wRing 2 0 {}).put 0x380011 3 0 [.n 1, .n 0, .n 1, .n 4000000, .n 0, .n 0, .n 5000, .n 5000, .n 1, .n 2, .n 0, .n 64]).put 0x380010 0 0 [.n 1, .n 0, .n 256, .n 16, .n 0, .n 0]).put 0x300010 0 0 [.n 1, .o [1], .n 4, .n 8, .n 0, .n 4, .n 0, .n 0, .n 0, .n 1, .n 0, .n 4, .n 0, .n 0, .n 0]).put 0x440032 0 0 [.n 1000000]) with lg := { tasks := [(3, { flow := 9 })] }, tt := { flows := [(9, { owner := 0, typ := 1, logic := true })] } };
      let a := advance 0 s; let j := 3; ((ltasks a).contains j = true) ∧ ((taskOf a j).seen < cycleNo a j) ∧ (hubLive a = true) ∧
      (a.lg.forcePend = []) ∧ (pst a (ltF a j 1) = .running) ∧ (unitOk a 20 = true) ∧ ((taskOf a j).cycle < cycleNo a j) ∧
      ((retainOf a (ltF a j 1)).copying = false) ∧ ((taskOf a j).body = false) ∧ (a.rows 0x380013 j = [])) ∧
    (let s := { (((((wRing 2 0 {}).put 0x380011 3 0 [.n 1, .n 0, .n 1, .n 4000000, .n 0, .n 0, .n 5000, .n 5000, .n 1, .n 2, .n 0, .n 64]).put 0x380010 0 0 [.n 1, .n 0, .n 256, .n 16, .n 0, .n 0]).put 0x300010 0 0 [.n 1, .o [1], .n 4, .n 8, .n 0, .n 4, .n 0, .n 0, .n 0, .n 1, .n 0, .n 4, .n 0, .n 0, .n 0]).put 0x440032 0 0 [.n 1000000]) with lg := { tasks := [(3, { flow := 9, body := true })] }, tt := { flows := [(9, { owner := 0, typ := 1, logic := true })] } };
      let a := advance 0 s; let j := 3; ((ltasks a).contains j = true) ∧ ((taskOf a j).seen < cycleNo a j) ∧ (hubLive a = true) ∧
      (a.lg.forcePend = []) ∧ (pst a (ltF a j 1) = .running) ∧ (unitOk a 20 = true) ∧ ((taskOf a j).cycle < cycleNo a j) ∧
      ((retainOf a (ltF a j 1)).copying = false) ∧ ((taskOf a j).body = true)) ∧
    (let s := { (((((wRing 2 0 {}).put 0x380011 3 0 [.n 1, .n 0, .n 1, .n 4000000, .n 0, .n 0, .n 5000, .n 5000, .n 1, .n 2, .n 0, .n 64]).put 0x380010 0 0 [.n 1, .n 0, .n 256, .n 16, .n 0, .n 0]).put 0x300010 0 0 [.n 1, .o [1], .n 4, .n 8, .n 0, .n 4, .n 0, .n 0, .n 0, .n 1, .n 0, .n 4, .n 0, .n 0, .n 0]).put 0x440032 0 0 [.n 1000000]) with lg := { tasks := [(3, { flow := 9, seen := 99999999999 })] }, tt := { flows := [(9, { owner := 0, typ := 1, logic := true })] } };
      let a := advance 0 s; let j := 3; (cycleNo a j ≤ (taskOf a j).seen)) ∧
    (let s := { (((((wRing 2 0 {}).put 0x380011 3 0 [.n 1, .n 0, .n 1, .n 4000000, .n 0, .n 0, .n 5000, .n 5000, .n 1, .n 2, .n 0, .n 64]).put 0x380010 0 0 [.n 1, .n 0, .n 256, .n 16, .n 0, .n 0]).put 0x300010 0 0 [.n 1, .o [1], .n 4, .n 8, .n 0, .n 4, .n 0, .n 0, .n 0, .n 1, .n 0, .n 4, .n 0, .n 0, .n 0]).put 0x440032 0 0 [.n 1000000]) with lg := { retain := [(0, { copying := true })] } };
      let a := advance 0 s; let p := 0; ((retainOf a p).copying = true) ∧ (hubLive a = true)) := by
  decide +kernel

theorem wit_LogicCommandsAndForces :
    (let s := ({ (((((wRing 2 0 {}).put 0x380011 3 0 [.n 1, .n 0, .n 1, .n 4000000, .n 0, .n 0, .n 5000, .n 5000, .n 1, .n 2, .n 0, .n 64]).put 0x380010 0 0 [.n 1, .n 0, .n 256, .n 16, .n 0, .n 0]).put 0x300010 0 0 [.n 1, .o [1], .n 4, .n 8, .n 0, .n 4, .n 0, .n 0, .n 0, .n 1, .n 0, .n 4, .n 0, .n 0, .n 0]).put 0x440032 0 0 [.n 1000000]) with lg := { tasks := [(3, { flow := 9 })] }, tt := { flows := [(9, { owner := 0, typ := 1, logic := true })] } }).put 0x380012 0 0 [.n 0,
      .n 16]; let a := advance 0 s; let rq := rqN 0; let p := 0; let task := 3; let offset := 8; let size := 4; let value := 77;
      (cmdRuns a rq 0x380030 p [.n task, .n offset, .n size, .n value] = true) ∧ (pairOn a = false) ∧
      (onlineCheck a p task offset size = 0)) ∧
    (let s := (({ (((((wRing 2 0 {}).put 0x380011 3 0 [.n 1, .n 0, .n 1, .n 4000000, .n 0, .n 0, .n 5000, .n 5000, .n 1, .n 2, .n 0, .n 64]).put 0x380010 0 0 [.n 1, .n 0, .n 256, .n 16, .n 0, .n 0]).put 0x300010 0 0 [.n 1, .o [1], .n 4, .n 8, .n 0, .n 4, .n 0, .n 0, .n 0, .n 1, .n 0, .n 4, .n 0, .n 0, .n 0]).put 0x440032 0 0 [.n 1000000]) with lg := { tasks := [(3, { flow := 9 })] }, tt := { flows := [(9, { owner := 0, typ := 1, logic := true })] } }).put 0x380012 0 0 [.n 0,
      .n 16]).put 0x400001 0 0 [.n 1]; let a := advance 0 s; let rq := rqN 0; let p := 0; let task := 3; let offset := 8; let size := 4;
      let value := 77; (cmdRuns a rq 0x380030 p [.n task, .n offset, .n size, .n value] = true) ∧ (pairOn a = true) ∧ (settled a =
      false) ∧ (onlineCheck a p task offset size = 0)) ∧
    (let s := { ((wRing 2 0 {}).put 0x380011 3 0 [.n 1, .n 0, .n 1, .n 4000000, .n 0, .n 0, .n 5000, .n 5000, .n 1, .n 2, .n 0, .n 64]).put 0x380010 0 0 [.n 1, .n 0, .n 256, .n 16, .n 0, .n 0] with parts := { ps := [(0, { st := .stopped })] } };
      let a := advance 0 s; let rq := rqN 0; let p := 0; let mode := 1; let clear := true; (cmdRuns a rq 0x380031 p [.n mode,
      .n (b2n clear)] = true) ∧ ((partOf a p).st = .stopped)) ∧
    (let s := ((wRing 2 0 {}).put 0x380011 3 0 [.n 1, .n 0, .n 1, .n 4000000, .n 0, .n 0, .n 5000, .n 5000, .n 1, .n 2, .n 0,
      .n 64]).put 0x380010 0 0 [.n 1, .n 0, .n 256, .n 16, .n 0, .n 0]; let a := advance 0 s; let rq := rqN 0; let p := 0;
      let mode := 1; let clear := true; (cmdRuns a rq 0x380031 p [.n mode, .n (b2n clear)] = true) ∧ ((partOf a p).st ≠ .stopped)) := by
  decide +kernel
theorem wit_LogicCommandsAndForces_2 :
    (let s := (wRing 2 0 {}).put 0x400040 4 0 [.n 1, .n 0, .n 3]; let a := advance 0 s; let rq := rqN 0; let row := 2; let v := ([.n 1,
      .n 0, .n 2, .n 4, .n 1, .n 255, .n 1] : Val); let bytes := encRec [.bool, .u8, .u8, .u16, .u8, .u8, .u64] ([.n 1, .n 0, .n 2,
      .n 4, .n 1, .n 255, .n 1] : Val); (rowRuns a rq 0x380041 0 row bytes v = true) ∧ (pairOn a = false) ∧ (forceOk a v = true) ∧
      (a.val 0x380041 0 row ≠ v)) ∧
    (let s := wRun.put 0x380041 0 2 ([.n 1, .n 0, .n 2, .n 4, .n 1, .n 255, .n 1] : Val); let a := advance 0 s; let rq := rqN 0;
      (cmdRuns a rq 0x380042 0 [] = true)) ∧
    (let s := { wRun.put 0x380041 0 2 ([.n 1, .n 0, .n 2, .n 4, .n 1, .n 255, .n 1] : Val) with lg := { forceDue := some 0 } };
      let a := advance 0 s; (dueBy a a.lg.forceDue = true) ∧ (hubLive a = true) ∧ (forcesAll a ≠ 0)) := by
  decide +kernel

theorem wit_LanesTrainAndThePairSettles :
    (let s := { wPair with pair := { wPair.pair with lanes := [(0, { st := 1, due := some 0 })] } }; let a := advance 0 s;
      let lane := 0; (laneReady a lane = true) ∧ ((laneOf a lane).st = 1) ∧ (dueBy a (laneOf a lane).due = true)) ∧
    (let s := { wPair with pair := { wPair.pair with lanes := [] } }; let a := advance 0 s; let lane := 0; (laneReady a lane = true) ∧
      ((laneOf a lane).st = 0)) ∧
    (let s := { wPair with pair := { wPair.pair with link := false, lanes := [(1, { st := 1, try25 := false, due := some 0 })] } };
      let a := advance 0 s; let lane := 1; (laneReady a lane = true) ∧ ((laneOf a lane).st = 1) ∧ ((lanesUp a).isEmpty = true ∨
      a.pair.link = true)) ∧
    (let s := { wPair with pair := { wPair.pair with round := false, heard := false, helloSent := false } }; let a := advance 0 s;
      (hubLive a = true) ∧ (pairOn a = true) ∧ (a.pair.link = true) ∧ (a.pair.round = false) ∧ (a.pair.heard = false) ∧ (a.pair.fail =
      0) ∧ (a.pair.helloDue ≤ a.now)) := by
  decide +kernel
theorem wit_LanesTrainAndThePairSettles_2 :
    (let s := { wPair with pair := { wPair.pair with round := false, heard := false } }; let a := advance 0 s;
      let h := ({ pairId := 0, unitB := true, rank := 2, serial := [1], units := 3, seatCap := 1, partCap := 1, fcl := 1, fclMin := 1, baseRate := 0, configDigest := configDigest wPair } : PairHello);
      (hubLive a = true) ∧ (pairOn a = true) ∧ (a.pair.link = true) ∧ (a.pair.fail = 0) ∧ (a.pair.helloSent = true) ∧ (judgeHello a h =
      0)) ∧
    (let s := { wPair with pair := { wPair.pair with round := false, heard := false } }; let a := advance 0 s;
      let h := ({ pairId := 9, unitB := true, rank := 2, serial := [1], units := 3, seatCap := 1, partCap := 1, fcl := 1, fclMin := 1, baseRate := 0, configDigest := configDigest wPair } : PairHello);
      (hubLive a = true) ∧ (pairOn a = true) ∧ (a.pair.link = true) ∧ (a.pair.fail = 0) ∧ (a.pair.helloSent = true) ∧
      (h.pairId ≠ a.vn 0x400002 0)) ∧
    (let s := wPair; let a := advance 0 s; let rq := rqN 0; (writeRuns a rq 0x400001 0 [.n 0] = true)) := by
  decide +kernel

theorem wit_EqualisationMessages :
    (let s := wPair; let a := advance 0 s; let row := 7; let present := [4]; let digest := ([] : List Byte); (pairOn a = true) ∧
      (a.pair.eqOn = true) ∧ (rowClosed a row = false)) ∧
    (let s := wPair; let a := advance 0 s; let row := 7; let seats := ([] : List SeatCopy); (pairOn a = true) ∧ (a.pair.eqOn = true) ∧
      (rowClosed a row = false)) ∧
    (let s := wPair; let a := advance 0 s; let row := 7; let tags := ([] : List TagRec); (pairOn a = true) ∧ (a.pair.eqOn = true) ∧
      (rowClosed a row = false)) ∧
    (let s := wPair; let a := advance 0 s; let row := 7; let final := ([] : List Byte); (pairOn a = true) ∧ (a.pair.eqOn = true) ∧
      (rowClosed a row = false)) := by
  decide +kernel
theorem wit_EqualisationMessages_2 :
    (let s := wPair; let a := advance 0 s; let row := 7; (pairOn a = true) ∧ (a.pair.eqOn = true) ∧ (rowClosed a row = false)) ∧
    (let s := { { wPair with pair := { wPair.pair with eq := [(7, { due := 99, own := [4] })] } } with plan := { lastClosed := some 7 } };
      let a := advance 0 s; let row := 7; let present := [4]; let digest := ([] : List Byte); let x := ({ due := 99, own := [4] } : Eq);
      (pairOn a = true) ∧ (a.pair.eqOn = true) ∧ (rowClosed a row = true) ∧ (eqOf a row = some x) ∧ (x.part = none) ∧ (x.agree =
      none)) ∧
    (let s := { { wPair with pair := { wPair.pair with eq := [(7, { due := 99, own := [4] })] } } with plan := { lastClosed := some 7 } };
      let a := advance 0 s; let row := 7; let seats := ([⟨4, [], [], 0, 0, 0, 0⟩] : List SeatCopy);
      let x := ({ due := 99, own := [4] } : Eq); (pairOn a = true) ∧ (a.pair.eqOn = true) ∧ (rowClosed a row = true) ∧ (eqOf a row =
      some x) ∧ (x.agree = none)) ∧
    (let s := { { wPair with pair := { wPair.pair with eq := [(7, { due := 99, own := [4] })] } } with plan := { lastClosed := some 7 } };
      let a := advance 0 s; let row := 7; let tags := ([] : List TagRec); let x := ({ due := 99, own := [4] } : Eq); (pairOn a = true) ∧
      (a.pair.eqOn = true) ∧ (rowClosed a row = true) ∧ (eqOf a row = some x) ∧ (x.part = none)) := by
  decide +kernel
theorem wit_EqualisationMessages_3 :
    (let s := { { wPair with pair := { wPair.pair with eq := [(7, { due := 99, own := [4], part := some ([4], []), asked := true, final := some [5] })] } } with plan := { lastClosed := some 7 } };
      let a := advance 0 s; let row := 7; let final := ([5] : List Byte);
      let x := ({ due := 99, own := [4], part := some ([4], []), asked := true, final := some [5] } : Eq); let pu := [4];
      let pd := ([] : List Byte); (pairOn a = true) ∧ (a.pair.eqOn = true) ∧ (rowClosed a row = true) ∧ (eqOf a row = some x) ∧
      (x.part = some (pu, pd)) ∧ ((pu.all fun u => x.own.contains u) = true) ∧ (x.asked = true) ∧ (x.want = []) ∧ (x.wins = []) ∧
      (x.final = some final)) ∧
    (let s := { { wPair with pair := { wPair.pair with eq := [(7, { due := 99, own := [4] })] } } with plan := { lastClosed := some 7 } };
      let a := advance 0 s; let row := 7; (pairOn a = true) ∧ (a.pair.eqOn = true) ∧ (rowClosed a row = true) ∧ ((eqOf a row).isSome =
      true)) ∧
    (let s := { { wPair with pair := { wPair.pair with eq := [(7, { due := 99, own := [4] })] } } with now := 100, plan := { lastClosed := some 7 } };
      let a := advance 0 s; let row := 7; let x := ({ due := 99, own := [4] } : Eq); (eqOf a row = some x) ∧ (x.due ≤ a.now)) := by
  decide +kernel

theorem wit_OutputDigestsJudgeTheStep :
    (let s := { wPair with pair := { wPair.pair with st := 3, reason := 0, steps := [(0, { st := 4 })] } }; let a := advance 0 s;
      let p := 0; let row := 7; let digest := 5; (pairOn a = true) ∧ (hubLive a = true) ∧ (3 ≤ stepState a p) ∧
      ((stepOf a p).from_ ≤ row) ∧ ((digOf a p row).judged = false) ∧ ((digOf a p row).closed = none) ∧ ((stepOf a p).dug.contains row =
      false)) ∧
    (let s := { wPair with pair := { wPair.pair with st := 3, reason := 0, allIn := true, steps := [(0, { st := 4 })], digs := [(7, { sum := 4, closed := some 0 })] } };
      let a := advance 0 s; let p := 0; let row := 7; let digest := 5; (pairOn a = true) ∧ (hubLive a = true) ∧ (stepState a p = 4) ∧
      ((stepOf a p).from_ ≤ row) ∧ ((digOf a p row).judged = false) ∧ ((digOf a p row).closed.isSome = true) ∧ (row ∉ a.pair.uneqRows) ∧
      ((digOf a p row).sum ≠ digest)) ∧
    (let s := { wPair with pair := { wPair.pair with st := 3, reason := 0, allIn := true, steps := [(0, { st := 4 })], digs := [(7, { sum := 5, closed := some 0 })] } };
      let a := advance 0 s; let p := 0; let row := 7; let digest := 5; (pairOn a = true) ∧ (hubLive a = true) ∧ (stepState a p = 4) ∧
      ((stepOf a p).from_ ≤ row) ∧ ((digOf a p row).judged = false) ∧ ((digOf a p row).closed.isSome = true) ∧ (row ∉ a.pair.uneqRows) ∧
      ((digOf a p row).sum = digest)) ∧
    (let s := { { wPair with pair := { wPair.pair with digs := [(7, { sum := 5, closed := some 0 })] } } with now := 1000000000 };
      let a := advance 0 s; let p := 0; let row := 7; let u := 0; ((digOf a p row).closed = some u) ∧ ((digOf a p row).judged = false) ∧
      (u + a.vn 0x40000F 0 ≤ a.now)) := by
  decide +kernel
theorem wit_OutputDigestsJudgeTheStep_2 :
    (let s := { wPair with pair := { wPair.pair with unitB := true } }; let a := advance 0 s; let row := 9;
      let recs := ([] : List AlignRec); (eqRuns a = true) ∧ (a.pair.reentry = 2) ∧ (a.pair.unitB = true)) := by
  decide +kernel

theorem wit_MirroredOperationsNeedBothUnits :
    (let s := ((wPair.put 0x380011 3 0 [.n 1, .n 0, .n 1, .n 4000000, .n 0, .n 0, .n 5000, .n 5000, .n 1, .n 2, .n 0,
      .n 64]).put 0x380010 0 0 [.n 1, .n 0, .n 256, .n 16, .n 0, .n 0]).put 0x380012 0 0 [.n 0, .n 16]; let a := advance 0 s;
      let p := 0; let task := 3; let off := 8; let size := 4; let v := 77; let mid := 2; (hubLive a = true) ∧ (mirrors a = true) ∧
      (a.pair.link = true) ∧ (onlineCheck a p task off size = 0)) ∧
    (let s := wPair; let a := advance 0 s; let op := MirrorOp.disarm 3; let mid := 2; (hubLive a = true) ∧ (mirrors a = true) ∧
      (a.pair.link = true) ∧ (mirrorCheck a op ≠ 0) ∧ ((match op with | .bundle _ => true | _ => false) = false)) ∧
    (let s := wPair; let a := advance 0 s; let l := ([] : List (Nat × Val)); let mid := 2; (hubLive a = true) ∧ (mirrors a = true) ∧
      (a.pair.link = true) ∧ (vaultRoom a 2 = true)) ∧
    (let s := { wPair with pair := { wPair.pair with mirrors := [{ id := 2, op := .disarm 3 }] } }; let a := advance 0 s; let mid := 2;
      let status := 0; let u := (5 : Int); let m := ({ id := 2, op := .disarm 3 } : Mirrored); let p := 3;
      ((a.pair.mirrors.find? fun m => m.own && !m.acked && m.id == mid) = some m) ∧ (m.op = .disarm p) ∧ (status = 0)) := by
  decide +kernel
theorem wit_MirroredOperationsNeedBothUnits_2 :
    (let s := { wPair with pair := { wPair.pair with mirrors := [{ id := 2, op := .disarm 3 }] } }; let a := advance 0 s; let mid := 2;
      let status := 7; let u := (5 : Int); let m := ({ id := 2, op := .disarm 3 } : Mirrored); let p := 3;
      ((a.pair.mirrors.find? fun m => m.own && !m.acked && m.id == mid) = some m) ∧ (m.op = .disarm p) ∧ (status ≠ 0)) := by
  decide +kernel

theorem wit_ReportsSelfTestAndTheLink :
    (let s := wPair; let a := advance 0 s; (a.pair.rptDue ≤ a.now) ∧ (hubLive a = true) ∧ (a.ident.optP = true)) ∧
    (let s := { { wPair with pair := { wPair.pair with st := 3, reason := 0, allIn := true, steps := [(0, { st := 4 })] } } with now := 30000000 };
      let a := advance 0 s; ((lanesUp a).isEmpty = true ∨ a.pair.rptAt + 30000000 ≤ a.now) ∧ (a.pair.link = true) ∧ (pairOn a = true) ∧
      (a.pair.fail = 0)) ∧
    (let s := wPair; let a := advance 0 s; let offset := (-5 : Int); ((lanesUp a).isEmpty = false) ∧ (pairOn a = true) ∧
      (a.pair.xcheckDue ≤ a.now)) ∧
    (let s := wPair; let a := advance 0 s; let n := 2; (n = 1 ∨ n = 2 ∨ n = 4 ∨ n = 8) ∧ (hubLive a = true) ∧
      (a.pair.selfFail.contains n = false)) := by
  decide +kernel
theorem wit_ReportsSelfTestAndTheLink_2 :
    (let s := { wPair with pair := { wPair.pair with selfFail := [2] } }; let a := advance 0 s; let n := 2; (n = 1 ∨ n = 2 ∨ n = 4 ∨ n =
      8) ∧ (hubLive a = true) ∧ (a.pair.selfFail.contains n = true)) := by
  decide +kernel
/-- The CRC of a report card of zeros, a quarter at a time. -/
theorem card_crc :
    crcRef 0x82F63B78 0xFFFFFFFF ([0x43, 0x52, 1] ++ zeros 60) = 1251976947 ∧ crcRef 0x82F63B78 1251976947 (zeros 63) = 441944926 ∧
      crcRef 0x82F63B78 441944926 (zeros 63) = 3254909078 ∧ crcRef 0x82F63B78 3254909078 (zeros 63) = 582718751 := by
  refine ⟨?_, ?_, ?_, ?_⟩ <;> decide +kernel
theorem wit_ReportsSelfTestAndTheLink_card :
    let s := wPair; let a := advance 0 s; cardOk ([0x43, 0x52, 1] ++ zeros 249 ++ leN 4 3712248544) = true ∧ pairOn a = true ∧ hubLive a = true := by
  refine ⟨?_, by decide +kernel, by decide +kernel⟩
  have h : ([0x43, 0x52, 1] ++ zeros 249 ++ leN 4 3712248544 : List Byte).take 252 =
      ([0x43, 0x52, 1] ++ zeros 60) ++ zeros 63 ++ zeros 63 ++ zeros 63 := by decide +kernel
  obtain ⟨h1, h2, h3, h4⟩ := card_crc
  unfold cardOk
  rw [h, crc32c]
  simp only [crcRef, List.foldl_append] at h1 h2 h3 h4 ⊢
  rw [h1, h2, h3, h4]
  decide +kernel

theorem wit_ClaimsAreRaisedAndHandedOver :
    (let s := wFit; let a := advance 0 s; let n := 0; (a.pair.bcnDue ≤ a.now) ∧ (hubLive a = true) ∧ (life a = 2) ∧ (a.pf.beaconsOff =
      false) ∧ (a.pf.blocked = false) ∧ (n < 4) ∧ (linkUp a n = true)) ∧
    (let s := { { wFit with pair := { wFit.pair with claims := [(0, { above := some 0, highest := 770 })] } } with now := 2000000000 };
      let a := advance 0 s; let d := 0; let u := 0; (a.pair.evalDue ≤ a.now) ∧ (hubLive a = true) ∧ (d ∈ domains a) ∧ (fit a d = true) ∧
      ((claimOf a d).raising = false) ∧ ((claimOf a d).sat = false) ∧ ((claimOf a d).above = some u) ∧ (u + a.vn 0x400006 0 ≤ a.now) ∧
      (1 + max (claimOf a d).counter (max (claimOf a d).highest (latchHigh a d) / 256) ≤ 0xFFFFFF)) ∧
    (let s := { { wFit with pair := { wFit.pair with claims := [(0, { fitSince := some 0, heard := some 2000000000, highest := 770 })] } } with now := 2000000000 };
      let a := advance 0 s; let d := 0; let u := 0; (a.pair.evalDue ≤ a.now) ∧ (hubLive a = true) ∧ (d ∈ domains a) ∧ (fit a d = true) ∧
      ((claimOf a d).raising = false) ∧ ((claimOf a d).sat = false) ∧ ((claimOf a d).above = none) ∧ (holder a d = false) ∧
      ((claimOf a d).fitSince = some u) ∧ (u + a.vn 0x400006 0 ≤ a.now) ∧
      (1 + max (claimOf a d).counter (max (claimOf a d).highest (latchHigh a d) / 256) ≤ 0xFFFFFF)) ∧
    (let s := { { wFit with pair := { wFit.pair with claims := [(0, { hoIn := some 0, highest := 770 })] } } with now := 2000000000 };
      let a := advance 0 s; let d := 0; let h := 0; (a.pair.evalDue ≤ a.now) ∧ (hubLive a = true) ∧ (d ∈ domains a) ∧ (fit a d = true) ∧
      ((claimOf a d).raising = false) ∧ ((claimOf a d).sat = false) ∧ ((claimOf a d).hoIn = some h) ∧ (h ≤ a.plan.lastReleased) ∧
      (migDest a d = false) ∧ (1 + max (claimOf a d).counter (max (claimOf a d).highest (latchHigh a d) / 256) ≤ 0xFFFFFF)) := by
  decide +kernel
theorem wit_ClaimsAreRaisedAndHandedOver_2 :
    (let s := { { wFit with pair := { wFit.pair with claims := [(0, { above := some 0, highest := 4294967295 })] } } with now := 2000000000 };
      let a := advance 0 s; let d := 0; let u := 0; (a.pair.evalDue ≤ a.now) ∧ (hubLive a = true) ∧ (d ∈ domains a) ∧ (fit a d = true) ∧
      ((claimOf a d).raising = false) ∧ ((claimOf a d).sat = false) ∧ ((claimOf a d).above = some u) ∧ (u + a.vn 0x400006 0 ≤ a.now) ∧
      (0xFFFFFF < 1 + max (claimOf a d).counter (max (claimOf a d).highest (latchHigh a d) / 256))) ∧
    (let s := wPair; let a := advance 0 s; let d := 0; (pbOk a = false) ∧ (hubLive a = true) ∧ (d ∈ domains a)) ∧
    (let s := { wFit with pair := { wFit.pair with claims := [(0, { raising := true, raiseTo := 4, above := some 0 })] } };
      let a := advance 0 s; let d := 0; ((claimOf a d).raising = true) ∧ (hubLive a = true)) ∧
    (let s := { wFit with pair := { wFit.pair with claims := [(0, { handover := some (9, some 5, 0, 3) })] } }; let a := advance 0 s;
      let rq := rqN 0; let d := 0; (cmdRuns a rq 0x400021 d [] = true) ∧ ((claimOf a d).handover.isSome = true ∨ vaultRoom a 0 =
      false)) := by
  decide +kernel
theorem wit_ClaimsAreRaisedAndHandedOver_3 :
    (let s := { wFit with pair := { wFit.pair with link := false } }; let a := advance 0 s; let rq := rqN 0; let d := 0;
      (cmdRuns a rq 0x400021 d [] = true) ∧ ((claimOf a d).handover = none) ∧ (vaultRoom a 0 = true) ∧ (hoCan a d = false)) ∧
    (let s := wFit; let a := advance 0 s; let rq := rqN 0; let d := 0; (cmdRuns a rq 0x400021 d [] = true) ∧ ((claimOf a d).handover =
      none) ∧ (vaultRoom a 0 = true) ∧ (hoCan a d = true)) ∧
    (let s := wFit; let a := advance 0 s; let d := 0; let claim := 5; let row := 9; let tagOk := true; (hubLive a = true) ∧ (settled a =
      true) ∧ (d < 64) ∧ (vaultRoom a 0 = true)) ∧
    (let s := { wFit with pair := { wFit.pair with claims := [(0, { handover := some (9, some 5, 0, 3) })] } }; let a := advance 0 s;
      let d := 0; let h := 9; let lim := some 5; let n := 0; let r := 3; ((claimOf a d).handover = some (h, lim, n, r)) ∧
      ((claimOf a d).acked = false)) := by
  decide +kernel
theorem wit_ClaimsAreRaisedAndHandedOver_4 :
    (let s := { wFit with pair := { wFit.pair with claims := [(0, { handover := some (9, some 5, 0, 3) })] } }; let a := advance 0 s;
      let d := 0; ((claimOf a d).handover.isSome = true) ∧ ((claimOf a d).acked = false)) ∧
    (let s := { { wFit with pair := { wFit.pair with claims := [(0, { handover := some (9, some 5, 0, 3) })] } } with now := 5 };
      let a := advance 0 s; let d := 0; let h := 9; let u := 5; let n := 0; let r := 3; ((claimOf a d).handover = some (h, some u, n,
      r)) ∧ (u ≤ a.now)) := by
  decide +kernel

theorem wit_TheBolpelBusCommandsBoards :
    (let s := wFit.put 0x400040 4 0 [.n 1, .n 0, .n 3]; let a := advance 0 s; (a.pair.bol.due ≤ a.now) ∧ (bolRuns a = true) ∧
      (unitTakes a 19 = true)) ∧
    (let s := { wFit.put 0x310010 0 0 [.n 0, .n 2, .n 64, .n 4, .n 0, .n 1, .n 3, .n 0, .n 0, .n 65535, .n 0, .n 0, .n 0, .n 255] with tt := { rings := [(0, { prod := 1, slots := [(0, .bolpel ⟨4, 3, 1, 9⟩)] })] } };
      let a := advance 0 s; let ring := 0; let i := 0; let r := (⟨4, 3, 1, 9⟩ : BReq); (rType a ring = 2) ∧ (rEngine a ring = 3) ∧
      (rPort a ring = true) ∧ (hubLive a = true) ∧ (a.pf.blocked = false) ∧ (unitTakes a 19 = true) ∧ (bolRuns a = true) ∧
      (nextEntry a ring = some (i, .bolpel r)) ∧ (((boards a).contains r.board && a.fn 0x400040 r.board 1 ==
      domainOf a (rOwner a ring)) = false)) ∧
    (let s := { (((wFit.put 0x310010 0 0 [.n 0, .n 2, .n 64, .n 4, .n 0, .n 1, .n 3, .n 0, .n 0, .n 65535, .n 0, .n 0, .n 0, .n 255]).put 0x400040 4 0 [.n 1, .n 0, .n 3]).put 0x440030 0 0 [.n 1, .n 0, .n 0, .o [], .n 16, .n 0, .n 0]).put 0x440040 4 0 [.n 8] with tt := { rings := [(0, { prod := 1, slots := [(0, .bolpel ⟨4, 3, 1, 9⟩)] })] } };
      let a := advance 0 s; let ring := 0; let i := 0; let r := (⟨4, 3, 1, 9⟩ : BReq); (rType a ring = 2) ∧ (rEngine a ring = 3) ∧
      (rPort a ring = true) ∧ (hubLive a = true) ∧ (a.pf.blocked = false) ∧ (unitTakes a 19 = true) ∧ (bolRuns a = true) ∧
      (nextEntry a ring = some (i, .bolpel r)) ∧ (((boards a).contains r.board && a.fn 0x400040 r.board 1 ==
      domainOf a (rOwner a ring)) = true) ∧ ((pfBoard a (rOwner a ring) r.board true).1 = true)) ∧
    (let s := { wPair with pair := { wPair.pair with bol := { bus := some { board := 4, domain := 0, mask := 0, out := 0 } } } };
      let a := advance 0 s; let c := ({ board := 4, domain := 0, mask := 0, out := 0 } : BolCmd); (a.pair.bol.bus = some c) ∧
      (a.pair.bol.endDue ≤ a.now) ∧ (c.board ≠ 0xFF)) := by
  decide +kernel
theorem wit_TheBolpelBusCommandsBoards_2 :
    (let s := { wPair with pair := { wPair.pair with bol := { bus := some { board := 255, domain := 0, mask := 0, out := 0 } } } };
      let a := advance 0 s; let c := ({ board := 255, domain := 0, mask := 0, out := 0 } : BolCmd); (a.pair.bol.bus = some c) ∧
      (a.pair.bol.endDue ≤ a.now) ∧ (c.board = 0xFF) ∧ (a.pair.bol.q = [])) ∧
    (let s := { wPair with pair := { wPair.pair with bol := { bus := some { board := 255, domain := 0, mask := 0, out := 0 }, q := [{ board := 4, domain := 1, mask := 0, out := 0, poll := true }] } } };
      let a := advance 0 s; let c := ({ board := 255, domain := 0, mask := 0, out := 0 } : BolCmd);
      let d := ({ board := 4, domain := 1, mask := 0, out := 0, poll := true } : BolCmd); let r := ([] : List BolCmd); (a.pair.bol.bus =
      some c) ∧ (a.pair.bol.endDue ≤ a.now) ∧ (c.board = 0xFF) ∧ (a.pair.bol.q = d :: r) ∧ (bolRuns a = true) ∧ (a.pair.bol.echo =
      none)) ∧
    (let s := { wPair with pair := { wPair.pair with bol := { echo := some { board := 4, domain := 0, mask := 0, out := 0 } } } };
      let a := advance 0 s;
      let e := ({ board := 4, domain := 0, latch := 6, seq := 0, readback := 7, status := 8, crc := 577901812 } : Echo);
      let c := ({ board := 4, domain := 0, mask := 0, out := 0 } : BolCmd); (a.pair.bol.echo = some c) ∧ (e.sync = 0xAAAB) ∧ (e.crc =
      crcBolpel (echoFields e)) ∧ (e.board = c.board) ∧ (e.seq = c.seq)) ∧
    (let s := { wPair with pair := { wPair.pair with bol := { echo := some { board := 4, domain := 0, mask := 0, out := 0 } } } };
      let a := advance 0 s;
      let e := ({ board := 4, domain := 0, latch := 6, seq := 1, readback := 7, status := 8, crc := 962206092 } : Echo);
      let c := ({ board := 4, domain := 0, mask := 0, out := 0 } : BolCmd); (a.pair.bol.echo = some c) ∧ (e.sync = 0xAAAB) ∧
      (e.crc ≠ crcBolpel (echoFields e) ∨ e.board ≠ c.board ∨ e.seq ≠ c.seq)) := by
  decide +kernel
theorem wit_TheBolpelBusCommandsBoards_3 :
    (let s := { wPair with pair := { wPair.pair with bol := { echo := some { board := 4, domain := 0, mask := 0, out := 0 } } } };
      let a := advance 0 s;
      let e := ({ sync := 0, board := 4, domain := 0, latch := 6, seq := 0, readback := 7, status := 8, crc := 0 } : Echo);
      (e.sync ≠ 0xAAAB)) ∧
    (let s := { wPair with pair := { wPair.pair with bol := { echo := some { board := 4, domain := 0, mask := 0, out := 0 } } } };
      let a := advance 0 s; let c := ({ board := 4, domain := 0, mask := 0, out := 0 } : BolCmd); (a.pair.bol.echo = some c) ∧
      (a.pair.bol.echoDue ≤ a.now)) := by
  decide +kernel

theorem wit_TamperSourcesAndTheirResponse :
    (let s := { wRun with vault := { tamper := 3, openEncl := 1, openLoop := 2 } }; let a := advance 0 s; let e := false;
      let l := false; (senses a = true) ∧ (a.vault.sampleAt ≤ a.now) ∧ (a.vault.tamper < 4) ∧ (e = false) ∧ (l = false) ∧ (a.hw.seated =
      true)) ∧
    (let s := { { wRun with vault := { openEncl := 1, tkeys := [(0, { st := 1 })] } } with boot := { wRun.boot with qLatch := true, phase := .gateway } };
      let a := advance 0 s; (senses a = true) ∧ (a.vault.sampleAt ≤ a.now) ∧ (a.vault.tamper = 0) ∧ (a.vault.openEncl = 1) ∧
      (a.hw.seated = true) ∧ (a.vb 0x4C0002 0 = true) ∧ (a.vault.service = none) ∧ (life a = 0 ∨ life a = 3)) ∧
    (let s := { wRun with vault := { openEncl := 1, tkeys := [(0, { st := 1 })] } }; let a := advance 0 s; (senses a = true) ∧
      (a.vault.sampleAt ≤ a.now) ∧ (a.vault.tamper = 0) ∧ (a.vault.openEncl = 1) ∧ (a.hw.seated = true) ∧ (a.vb 0x4C0002 0 = true) ∧
      (a.vault.service = none) ∧ (running a = true) ∧ (startingUp a = false) ∧ (life a = 2)) ∧
    (let s := { ({ wRun with vault := { openLoop := 1, tkeys := [(0, { st := 1 })] } }).put 0x4C0002 1 0 [.n 1] with boot := { wRun.boot with qLatch := true, phase := .gateway } };
      let a := advance 0 s; (senses a = true) ∧ (a.vault.sampleAt ≤ a.now) ∧ (a.vault.tamper = 0) ∧ (a.vault.openLoop = 1) ∧
      (a.vb 0x4C0002 1 = true) ∧ (a.vault.service = none) ∧ (life a = 0 ∨ life a = 3)) := by
  decide +kernel
theorem wit_TamperSourcesAndTheirResponse_2 :
    (let s := { wRun with vault := { sampleAt := 9 } }; let a := advance 0 s; let e := true; let l := true;
      (a.now < a.vault.sampleAt)) ∧
    (let s := wRun; let a := advance 0 s; let source := 4; (senses a = true) ∧ (2 ≤ source) ∧ (source ≤ 5) ∧ (running a = true) ∧
      (startingUp a = false) ∧ (life a = 2)) ∧
    (let s := { wRun with boot := { wRun.boot with phase := .verify } }; let a := advance 0 s; let source := 4; (senses a = true) ∧
      (2 ≤ source) ∧ (source ≤ 5) ∧ (a.boot.phase ≠ .reset) ∧ (startingUp a = true) ∧ (life a = 2)) ∧
    (let s := wRun; let a := advance 0 s; let rq := rqN 1; let secs := 59; (cmdRuns a rq 0x4C0003 0 [.n secs] = true) ∧ (0 < secs) ∧
      (secs < 60 ∨ 3600 < secs)) := by
  decide +kernel
theorem wit_TamperSourcesAndTheirResponse_3 :
    (let s := wRun; let a := advance 0 s; let rq := rqN 1; let secs := 600; (cmdRuns a rq 0x4C0003 0 [.n secs] = true) ∧ (60 ≤ secs) ∧
      (secs ≤ 3600)) ∧
    (let s := { wRun with vault := { service := some 9 } }; let a := advance 0 s; let rq := rqN 1; (cmdRuns a rq 0x4C0003 0 [.n 0] =
      true) ∧ (a.vault.service.isSome = true)) ∧
    (let s := { wRun with vault := { service := some 0 } }; let a := advance 0 s; (a.vault.service = some 0)) ∧
    (let s := { State.reset with rtc := { cal := (⟨2026, 3, 4, 5, 6, 7, 2⟩ : Cal), osf := false } }; let a := advance 0 s;
      let low := true; (a.hw.vinGood = false) ∧ (a.hw.pf = false)) := by
  decide +kernel
theorem wit_TamperSourcesAndTheirResponse_4 :
    (let s := { State.reset with vault := { gap := true } }; let a := advance 0 s; (a.rtc.oscRun = true) ∧ (senses a = false)) ∧
    (let s := { wRun with rtc := { lockout := false } }; let a := advance 0 s; (a.rtc.oscRun = true) ∧ (senses a = true)) ∧
    (let s := { wRun with rtc := { lockout := false, oscRun := false, stopped := some 9 } }; let a := advance 0 s; (a.rtc.oscRun =
      false)) := by
  decide +kernel

theorem wit_KeySlotsOfTheVault :
    (let s := wRun; let a := advance 0 s; let rq := rqN 1; let slot := 5; let kind := 0; let use := 1; let world := 0; let masters := 4;
      let life_ := 4; let wrapSlot := 3; let kcv := 9; let key := (List.replicate 73 0 : List Byte); (cmdRuns a rq 0x480011 0 [.n slot,
      .n kind, .n use, .n world, .n masters, .n life_, .n wrapSlot, .n kcv, .o key] = true) ∧ (72 < key.length)) ∧
    (let s := wRun; let a := advance 0 s; let rq := rqN 1; let slot := 5; let kind := 0; let use := 1; let world := 0; let masters := 4;
      let life_ := 4; let wrapSlot := 3; let kcv := 9; let key := ([] : List Byte); (cmdRuns a rq 0x480011 0 [.n slot, .n kind, .n use,
      .n world, .n masters, .n life_, .n wrapSlot, .n kcv, .o key] = true) ∧ (key.length ≤ 72) ∧ (wrapCheck a wrapSlot ≠ 0)) ∧
    (let s := { wRun with vault := { slots := [(3, { st := 1, gen := 6, attr := { kind := 1, use := 2, world := 1, masters := 8, life := 7 }, key := [1, 2], kcv := 9 })], shadow := some ⟨5, {}, [1, 2], 9, 1⟩ } };
      let a := advance 0 s; let rq := rqN 1; let slot := 5; let kind := 0; let use := 1; let world := 0; let masters := 4;
      let life_ := 4; let wrapSlot := 3; let kcv := 9; let key := ([] : List Byte); (cmdRuns a rq 0x480011 0 [.n slot, .n kind, .n use,
      .n world, .n masters, .n life_, .n wrapSlot, .n kcv, .o key] = true) ∧ (key.length ≤ 72) ∧ (wrapCheck a wrapSlot = 0) ∧
      (shadowBusy a = true ∨ vaultRoom a 2 = false)) ∧
    (let s := { wRun with vault := { slots := [(3, { st := 1, gen := 6, attr := { kind := 1, use := 2, world := 1, masters := 8, life := 7 }, key := [1, 2], kcv := 9 })] } };
      let a := advance 0 s; let rq := rqN 1; let slot := 5; let kind := 0; let use := 1; let world := 0; let masters := 4;
      let life_ := 4; let wrapSlot := 3; let kcv := 9; let key := ([] : List Byte); (cmdRuns a rq 0x480011 0 [.n slot, .n kind, .n use,
      .n world, .n masters, .n life_, .n wrapSlot, .n kcv, .o key] = true) ∧ (key.length ≤ 72) ∧ (wrapCheck a wrapSlot = 0) ∧
      (shadowBusy a = false) ∧ (vaultRoom a 2 = true)) := by
  decide +kernel
theorem wit_KeySlotsOfTheVault_2 :
    (let s := wRun; let a := advance 0 s; let rq := rqN 1; let slot := 5; (cmdRuns a rq 0x480012 0 [.n slot] = true) ∧ (a.vault.shadow =
      none ∨ (a.vault.shadow.any fun h => h.sess != rq.sess || h.slot != slot) = true)) ∧
    (let s := { wRun with vault := { shadow := some ⟨5, {}, [1, 2], 9, 1⟩ } }; let a := advance 0 s; let rq := rqN 1; let slot := 5;
      let h := (⟨5, {}, [1, 2], 9, 1⟩ : Shadow); (cmdRuns a rq 0x480012 0 [.n slot] = true) ∧ (a.vault.shadow = some h) ∧ (h.sess =
      rq.sess) ∧ (h.slot = slot)) ∧
    (let s := { wRun with vault := { shadow := some ⟨5, {}, [1, 2], 9, 1⟩ } }; let a := advance 0 s; let rq := rqN 1;
      (cmdRuns a rq 0x480013 0 [] = true)) ∧
    (let s := { wRun with vault := { slots := [(3, { st := 1, gen := 6, attr := { kind := 0, use := 2, world := 1, masters := 8, life := 7 }, key := [1, 2], kcv := 9 })] } };
      let a := advance 0 s; let rq := rqN 1; let slot := 3; (cmdRuns a rq 0x480014 slot [] = true) ∧ ((slotOfKey a slot).st ≠ 3)) := by
  decide +kernel
theorem wit_KeySlotsOfTheVault_3 :
    (let s := { wRun with vault := { slots := [(3, { st := 1, gen := 6, attr := { kind := 0, use := 2, world := 1, masters := 8, life := 7 }, key := [1, 2], kcv := 9 })] } };
      let a := advance 0 s; let rq := rqN 1; let slot := 3; (cmdRuns a rq 0x480015 slot [] = true)) ∧
    (let s := { wRun with vault := { slots := [(3, { st := 1, gen := 6, attr := { kind := 0, use := 2, world := 1, masters := 8, life := 7 }, key := [1, 2], kcv := 9 })] } };
      let a := advance 0 s; let bad := [3, 9]; let k := 3; (hubLive a = true) ∧ (bad.Nodup) ∧ (k ∈ bad) ∧ (k < 64) ∧
      ((slotOfKey a k).st = 1 ∨ (slotOfKey a k).st = 2)) ∧
    (let s := { wRun with vault := { slots := [(3, { st := 1, gen := 6, attr := { kind := 0, use := 2, world := 1, masters := 8, life := 7 }, key := [1, 2], kcv := 9 })] } };
      let a := advance 0 s; let bad := [9]; let k := 3; (hubLive a = true) ∧ (k ∉ bad)) := by
  decide +kernel

theorem wit_TheWorkingKeyRegisterServesItsClasses :
    (let s := { { wRun with vault := { work := some { cls := 3, op := .handshake 4 } } } with jal := { wRun.jal with assocs := [(4, { port := 0, suite := 0x1302, cert := ⟨true, [], 0⟩ })] } };
      let a := advance 0 s;
      let facts := ({ signed := wRomObj, unwrapOk := true, key := [], hasPrefect := false, prefectDigest := [], bundle := [] } : VaultFacts);
      let r := ({ cls := 3, op := .handshake 4 } : VReq); let n := 4;
      let x := ({ port := 0, suite := 0x1302, cert := ⟨true, [], 0⟩ } : Assoc); (a.vault.work = some r) ∧ (r.op = .handshake n) ∧
      (tabGet a.jal.assocs n = some x) ∧ (unitSt a 0 ≠ .fault)) ∧
    (let s := { ((wRing 2 3 {}).put 0x340100 5 0 [.n 1, .n 0, .n 64, .n 2, .n 0, .n 255, .n 255, .n 1000]).put 0x340100 6 0 [.n 1, .n 64, .n 0, .n 0, .n 3, .n 255, .n 255, .n 1000] with ph := { chans := [(5, { q := [({ code := 0x0901, len := 1, words := [1029] } : Msg)] })] }, vault := { work := some { cls := 1, op := .mac 5 false 0 5 [1] [], gen := some 4, key := [7] } } };
      let a := advance 0 s;
      let facts := ({ signed := wRomObj, unwrapOk := true, key := [], hasPrefect := false, prefectDigest := [], bundle := [] } : VaultFacts);
      let r := ({ cls := 1, op := .mac 5 false 0 5 [1] [], gen := some 4, key := [7] } : VReq); let ch := 5; let p := 0; let k := 5;
      let input := ([1] : List Byte); let tag := ([] : List Byte); let c := 6; (a.vault.work = some r) ∧ (r.op =
      .mac ch false p k input tag) ∧ (r.gen.isSome = true) ∧ (unitSt a 0 ≠ .fault) ∧ (answerChan a 64 p = some c) ∧ (64 ≤ chF a c 5) ∧
      (fencing a p = false) ∧ (fabricUp a = true) ∧ ((chanOf a c).q.length < 4) ∧ ((chanOf a c).wait = [])) ∧
    (let s := { wRun with vault := { work := some { cls := 1, op := .derive 0, gen := some 4 } } }; let a := advance 0 s;
      let w := ({ cls := 1, op := .derive 0, gen := some 4 } : VReq); (a.vault.work = some w) ∧ (w.op.long = false ∨
      (a.vault.q.any fun r => r.cls < w.cls) = false)) ∧
    (let s := { wRun with vault := { work := some { cls := 1, op := .derive 0, gen := some 4 }, q := [{ cls := 0, op := .handoverSign 2 }] } };
      let a := advance 0 s; let w := ({ cls := 1, op := .derive 0, gen := some 4 } : VReq);
      let r := ({ cls := 0, op := .handoverSign 2 } : VReq); (a.vault.work = some w) ∧ (a.vault.suspended = []) ∧ (a.vault.q = [r]) ∧
      (r.cls < w.cls) ∧ (w.op.long = true)) := by
  decide +kernel
theorem wit_TheWorkingKeyRegisterServesItsClasses_2 :
    (let s := { wRun with vault := { work := some { cls := 1, op := .derive 0, gen := some 4 } } }; let a := advance 0 s; let idx := 0;
      let w := ({ cls := 1, op := .derive 0, gen := some 4 } : VReq); let g := 4; (a.vault.work = some w) ∧ (w.op = .derive idx) ∧
      (w.gen = some g) ∧ (unitSt a 0 ≠ .fault)) ∧
    (let s := { wRun with vault := { work := some { cls := 1, op := .derive 0 }, tkeys := [(0, { st := 3 })] } }; let a := advance 0 s;
      let idx := 0; let w := ({ cls := 1, op := .derive 0 } : VReq); (a.vault.work = some w) ∧ (w.op = .derive idx) ∧ (w.gen = none ∨
      unitSt a 0 = .fault) ∧ ((tabGetD a.vault.tkeys idx {}).st ≠ 1)) ∧
    (let s := { ((wRing 2 3 {}).put 0x340100 5 0 [.n 1, .n 0, .n 64, .n 2, .n 0, .n 255, .n 255, .n 1000]).put 0x340100 6 0 [.n 1, .n 64, .n 0, .n 0, .n 3, .n 255, .n 255, .n 1000] with ph := { chans := [(5, { q := [({ code := 0x0901, len := 1, words := [1029] } : Msg)] })] }, vault := { slots := [(5, { st := 1, attr := { kind := 2, use := 4, world := 2, masters := 1, life := 4 } })] } };
      let a := advance 0 s; let chan := 5; let p := 0; let m := ({ code := 0x0901, len := 1, words := [1029] } : Msg);
      let b := (match serveMsg a 64 chan [0x0901, 0x0902, 0x0A01, 0x0A02, 0x0A03] with | some (_, _, b) => b | none => a);
      (serveMsg a 64 chan [0x0901, 0x0902] = some (p, m, b)) ∧ (unitSt b 0 ≠ .fault) ∧
      (macCheck b p (msgWord m 1 % 256) (msgWord m 1 / 256 % 256) = 0)) ∧
    (let s := wRun; let a := advance 0 s; let rq := rqN 1; let nonce := (List.replicate 65 0 : List Byte);
      (cmdRuns a rq 0x480032 0 [.o nonce] = true) ∧ (64 < nonce.length)) := by
  decide +kernel
theorem wit_TheWorkingKeyRegisterServesItsClasses_3 :
    (let s := { wRun with vault := { attesting := true } }; let a := advance 0 s; let rq := rqN 1; let nonce := ([1] : List Byte);
      (cmdRuns a rq 0x480032 0 [.o nonce] = true) ∧ (nonce.length ≤ 64) ∧ (a.vault.attesting = true ∨ vaultRoom a 3 = false)) ∧
    (let s := wRun; let a := advance 0 s; let rq := rqN 1; let nonce := ([1] : List Byte); (cmdRuns a rq 0x480032 0 [.o nonce] = true) ∧
      (nonce.length ≤ 64) ∧ (a.vault.attesting = false) ∧ (vaultRoom a 3 = true)) ∧
    (let s := { wPair with pair := { wPair.pair with link := false } }; let a := advance 0 s; let rq := rqN 0;
      (cmdRuns a rq 0x020031 0 [] = true) ∧ (pairOn a = true) ∧ (settled a = true) ∧ (a.pair.link = false)) ∧
    (let s := { wRun with jal := { wRun.jal with holder := some 1 } }; let a := advance 0 s; let rq := rqN 0;
      (cmdRuns a rq 0x020031 0 [] = true) ∧ ((pairOn a && settled a && !a.pair.link) = false) ∧ (a.jal.bundleRq.isSome = true ∨
      a.jal.commitRow.isSome = true ∨ a.jal.commitMid.isSome = true ∨ a.jal.holder.isSome = true ∧ a.jal.holder ≠ some rq.sess ∨
      vaultRoom a 2 = false)) := by
  decide +kernel
theorem wit_TheWorkingKeyRegisterServesItsClasses_4 :
    (let s := wRun; let a := advance 0 s; let rq := rqN 0; (cmdRuns a rq 0x020031 0 [] = true) ∧ ((pairOn a && settled a &&
      !a.pair.link) = false) ∧ (a.jal.bundleRq = none) ∧ (a.jal.commitRow = none) ∧ (a.jal.commitMid = none) ∧ (a.jal.holder = none ∨
      a.jal.holder = some rq.sess) ∧ (vaultRoom a 2 = true)) ∧
    (let s := wRun; let a := advance 0 s; let rq := rqN 1; let p := 4; (cmdRuns a rq 0x480043 p [] = true) ∧ ((partOf a p).stored =
      false)) ∧
    (let s := { wRun with parts := { ps := [(4, { st := .stopped, stored := true, svn := 6, svnMin := 2 })] } }; let a := advance 0 s;
      let rq := rqN 1; let p := 4; (cmdRuns a rq 0x480043 p [] = true) ∧ ((partOf a p).stored = true)) ∧
    (let s := wFit; let a := advance 0 s; let rq := rqN 1; let d := 0; (cmdRuns a rq 0x480050 d [] = true) ∧
      (((domParts a d).all fun p => (partOf a p).st == .stopped) = false)) := by
  decide +kernel
theorem wit_TheWorkingKeyRegisterServesItsClasses_5 :
    (let s := { wRun with pair := { claims := [(3, { epoch := 4, counter := 4, highest := 1025 })] } }; let a := advance 0 s;
      let rq := rqN 1; let d := 3; (cmdRuns a rq 0x480050 d [] = true) ∧ (((domParts a d).all fun p => (partOf a p).st == .stopped) =
      true)) := by
  decide +kernel

theorem wit_TheRealTimeClockTicks :
    (let s := { wRun with rtc := { lockout := false, cal := (⟨2026, 3, 4, 5, 6, 7, 2⟩ : Cal), osf := false } }; let a := advance 0 s;
      (a.rtc.oscRun = true) ∧ (a.rtc.staged = none) ∧ (a.rtc.alarm = none) ∧ (a.tm.leap = 0) ∧ (calSecs a.rtc.cal + 1 =
      calSecs (calTick a.rtc.cal).1)) ∧
    (let s := { wRun with rtc := { lockout := false, staged := some (⟨2026, 3, 4, 5, 6, 7, 2⟩ : Cal) } }; let a := advance 0 s;
      let c := (⟨2026, 3, 4, 5, 6, 7, 2⟩ : Cal); (a.rtc.oscRun = true) ∧ (a.rtc.staged = some c) ∧ (a.rtc.alarm = none)) ∧
    (let s := { wRun with rtc := { lockout := false, cal := (⟨2026, 3, 4, 5, 6, 7, 2⟩ : Cal), alarm := some ⟨2026, 3, 4, 5, 6, 8, 2⟩ } };
      let a := advance 0 s; (a.rtc.oscRun = true) ∧ (a.rtc.staged = none) ∧ (a.rtc.vbak = false) ∧ (a.rtc.cal.sec < 59) ∧ (a.rtc.alarm =
      some { a.rtc.cal with sec := a.rtc.cal.sec + 1 })) ∧
    (let s := { wRun with rtc := { lockout := false } }; let a := advance 0 s; (a.rtc.lockout = false) ∧
      (calOk (calOf a.rtc.stTime.toNat a.rtc.stDate.toNat) = true)) := by
  decide +kernel
theorem wit_TheRealTimeClockTicks_2 :
    (let s := { wRun with rtc := { lockout := false, stDate := 0x07EA0304 } }; let a := advance 0 s; (a.rtc.lockout = false) ∧
      (a.rtc.alarm = none) ∧ (calOk (calOf a.rtc.stTime.toNat a.rtc.stDate.toNat) = true)) ∧
    (let s := { wRun with rtc := { lockout := false, fired := true } }; let a := advance 0 s; (a.rtc.lockout = false)) ∧
    (let s := { wRun with rtc := { lockout := false } }; let a := advance 0 s; let offset := 4; (a.rtc.lockout = false) ∧ (offset = 0 ∨
      offset = 4 ∨ offset = 8) ∧ (latchNow a = none)) ∧
    (let s := { wRun with rtc := { lockout := false, latch := some ((⟨2026, 3, 4, 5, 6, 7, 2⟩ : Cal), 3), latchDue := 9, latchRead := [0, 4] } };
      let a := advance 0 s; let offset := 8; (a.rtc.lockout = false) ∧ (offset = 0 ∨ offset = 4 ∨ offset = 8) ∧ ((latchNow a).isSome =
      true)) := by
  decide +kernel
theorem wit_TheRealTimeClockTicks_3 :
    (let s := { wRun with rtc := { lockout := false, latch := some ((⟨2026, 3, 4, 5, 6, 7, 2⟩ : Cal), 3) } }; let a := advance 0 s;
      (a.rtc.latch.isSome = true) ∧ (a.rtc.latchDue ≤ a.now)) ∧
    (let s := { wRun with rtc := { lockout := false, trimNext := 7, trimSecs := 64 } }; let a := advance 0 s; (a.rtc.oscRun = true) ∧
      (64 ≤ a.rtc.trimSecs)) := by
  decide +kernel

theorem wit_TheRealTimeClockIsCommanded :
    (let s := { wRun with rtc := { lockout := false } }; let a := advance 0 s; let rq := rqN 0; let y := 2026; let mo := 2; let d := 30;
      let h := 1; let mi := 1; let sc := 1; let wd := 1; let im := false; (cmdRuns a rq 0x500002 0 [.n y, .n mo, .n d, .n h, .n mi,
      .n sc, .n wd, .n (b2n im)] = true) ∧ (calOk ⟨y, mo, d, h, mi, sc, wd⟩ = false)) ∧
    (let s := { wRun with rtc := { lockout := false } }; let a := advance 0 s; let rq := rqN 0; let y := 2026; let mo := 2; let d := 28;
      let h := 23; let mi := 59; let sc := 59; let wd := 6; (cmdRuns a rq 0x500002 0 [.n y, .n mo, .n d, .n h, .n mi, .n sc, .n wd,
      .n 0] = true) ∧ (calOk ⟨y, mo, d, h, mi, sc, wd⟩ = true) ∧ ((a.vb 0x500020 0 && a.tm.quality == 0) = false) ∧ (a.rtc.lockout =
      false)) ∧
    (let s := { wRun with rtc := { lockout := false } }; let a := advance 0 s; let rq := rqN 0; let y := 2026; let mo := 2; let d := 28;
      let h := 23; let mi := 59; let sc := 59; let wd := 6; (cmdRuns a rq 0x500002 0 [.n y, .n mo, .n d, .n h, .n mi, .n sc, .n wd,
      .n 1] = true) ∧ (calOk ⟨y, mo, d, h, mi, sc, wd⟩ = true) ∧ ((a.vb 0x500020 0 && a.tm.quality == 0) = false) ∧ (a.rtc.lockout =
      false) ∧ (a.rtc.alarm = none)) ∧
    (let s := { { wRun with rtc := { lockout := false } } with tm := { wRun.tm with quality := 0 } }; let a := advance 0 s;
      let rq := rqN 0; let y := 2026; let mo := 2; let d := 28; let h := 1; let mi := 1; let sc := 1; let wd := 6; let im := false;
      (cmdRuns a rq 0x500002 0 [.n y, .n mo, .n d, .n h, .n mi, .n sc, .n wd, .n (b2n im)] = true) ∧ (calOk ⟨y, mo, d, h, mi, sc, wd⟩ =
      true) ∧ ((a.vb 0x500020 0 && a.tm.quality == 0) = true)) := by
  decide +kernel
theorem wit_TheRealTimeClockIsCommanded_2 :
    (let s := { wRun with rtc := { lockout := false } }; let a := advance 0 s; let rq := rqN 0; (cmdRuns a rq 0x500004 0 [] = true) ∧
      (a.rtc.oscRun = true)) ∧
    (let s := { wRun with rtc := { lockout := false, oscRun := false } }; let a := advance 0 s; let rq := rqN 0;
      (cmdRuns a rq 0x500004 0 [] = true) ∧ (a.rtc.oscRun = false)) ∧
    (let s := { wRun with rtc := { lockout := false, fired := true } }; let a := advance 0 s; let rq := rqN 0;
      (cmdRuns a rq 0x500007 0 [] = true)) ∧
    (let s := { { wRun with rtc := { lockout := false, cal := ⟨2026, 3, 4, 5, 6, 7, 2⟩ } } with tm := { wRun.tm with sec := 1772600804, quality := 0 } };
      let a := advance 0 s; let off := 0; (discDue a = true) ∧ ((discErr a off).natAbs ≤ 2000000)) := by
  decide +kernel
theorem wit_TheRealTimeClockIsCommanded_3 :
    (let s := { State.reset with now := 100000 }; let a := advance 0 s; (a.rtc.vbak = false) ∧ (a.rtc.lockout = true) ∧
      (a.rtc.lockAt + 100000 ≤ a.now) ∧ (a.hw.vinGood = false)) ∧
    (let s := { wRun with rtc := { lockout := false, vbak := true } }; let a := advance 0 s; (a.rtc.vbak = true) ∧ (a.hw.vinGood =
      true)) := by
  decide +kernel

theorem wit_TheLogbookTakesAndKeepsRecords :
    (let s := { wRun with logb := { offered := [⟨0x0128, 0x85, [1, 2]⟩, ⟨0x0128, 0x80, [1, 2]⟩], offerAt := [0, 0], seq := 4 } };
      let a := advance 0 s; let o := (⟨0x0128, 0x80, [1, 2]⟩ : LogOffer);
      let b := ({ offered := [⟨0x0128, 0x85, [1, 2]⟩], offerAt := [0], seq := 4 } : Logb); (offerTake a.logb = some (o, b)) ∧
      (a.logb.nextAt ≤ a.now) ∧ (running a = true) ∧ (unitSt a 15 ≠ .fault) ∧ (logExempt o.code = true) ∧ (a.logb.intake.length < 64) ∧
      (a.logb.recs.length < 32768) ∧ (logProtect a o.code = false ∨ (a.logb.recs.filter fun r => r.prot).length < 1024)) ∧
    (let s := { wRun with logb := { offered := [⟨0x0100, 0x80, []⟩], offerAt := [0], codes := [(0x0100, { tokens := 0 })] } };
      let a := advance 0 s; let o := (⟨0x0100, 0x80, []⟩ : LogOffer); let b := ({ codes := [(0x0100, { tokens := 0 })] } : Logb);
      (offerTake a.logb = some (o, b)) ∧ (a.logb.nextAt ≤ a.now) ∧ (running a = true) ∧ (unitSt a 15 ≠ .fault) ∧ (logExempt o.code =
      false) ∧ (dueBy a (codeOf a o.code).next = false) ∧ (a.logb.intake.length < 48) ∧ ((codeOf a o.code).tokens = 0)) ∧
    (let s := { wRun with logb := { offered := [⟨0x0100, 0x80, []⟩], offerAt := [0], codes := [(0x0100, { tokens := 2 })] } };
      let a := advance 0 s; let o := (⟨0x0100, 0x80, []⟩ : LogOffer); let b := ({ codes := [(0x0100, { tokens := 2 })] } : Logb);
      (offerTake a.logb = some (o, b)) ∧ (a.logb.nextAt ≤ a.now) ∧ (running a = true) ∧ (unitSt a 15 ≠ .fault) ∧ (logExempt o.code =
      false) ∧ (dueBy a (codeOf a o.code).next = false) ∧ (a.logb.intake.length < 48) ∧ (0 < (codeOf a o.code).tokens) ∧
      (a.logb.recs.length < 32768) ∧ (logProtect a o.code = false ∨ (a.logb.recs.filter fun r => r.prot).length < 1024)) ∧
    (let s := { wRun with logb := { recs := [⟨1, 5, 0x0100, 64, false, false, false, []⟩], intake := [1], seq := 1 } };
      let a := advance 0 s; let n := 1; let rest := ([] : List Nat); (a.logb.intake = n :: rest) ∧ (running a = true) ∧
      (unitSt a 15 ≠ .fault) ∧ (unitOk a 22 = true) ∧ ((a.logb.codes.filter fun x => logExempt x.1 && x.2.supp > 0) = [])) := by
  decide +kernel
theorem wit_TheLogbookTakesAndKeepsRecords_2 :
    (let s := { wRun with logb := { codes := [(0x0100, { tokens := 0, next := some 0 })] } }; let a := advance 0 s; let code := 0x0100;
      (logExempt code = false) ∧ (dueBy a (codeOf a code).next = true) ∧ (a.boot.phase ≠ .reset) ∧ ((codeOf a code).supp = 0)) ∧
    (let s := { wRun with logb := { recs := [⟨1, 5, 0x0100, 64, false, false, false, []⟩, ⟨2, 5, 0x0100, 64, true, false, false, []⟩], seq := 2 } };
      let a := advance 0 s; let rq := rqN 1; (cmdRuns a rq 0x580011 0 [] = true) ∧ (unitSt a 15 ≠ .fault) ∧
      (a.logb.intake.length < 64) ∧ ((a.logb.recs.filter fun r => r.prot).length < 1024)) ∧
    (let s := ({ ((wRing 2 3 {}).put 0x340100 5 0 [.n 1, .n 0, .n 64, .n 2, .n 0, .n 255, .n 255, .n 1000]).put 0x340100 6 0 [.n 1, .n 64, .n 0, .n 0, .n 3, .n 255, .n 255, .n 1000] with ph := { chans := [(5, { q := [({ code := 0x0A01, len := 5, words := [1, 2, 3, 4, 5] } : Msg)] })] } }).put 0x300010 0 0 [.n 1,
      .o [1], .n 1, .n 8, .n 0, .n 0, .n 0, .n 0, .n 0, .n 1, .n 0, .n 0, .n 2048, .n 16, .n 0]; let a := advance 0 s; let chan := 5;
      let p := 0; let m := ({ code := 0x0A01, len := 5, words := [1, 2, 3, 4, 5] } : Msg);
      let b := (match serveMsg a 64 chan [0x0901, 0x0902, 0x0A01, 0x0A02, 0x0A03] with | some (_, _, b) => b | none => a);
      (serveMsg a 64 chan [0x0A01] = some (p, m, b)) ∧ (msgWord m 1 % 65536 < pcfg a p 12 ∨
      pcfg a p 12 + pcfg a p 13 ≤ msgWord m 1 % 65536)) ∧
    (let s := ({ ((wRing 2 3 {}).put 0x340100 5 0 [.n 1, .n 0, .n 64, .n 2, .n 0, .n 255, .n 255, .n 1000]).put 0x340100 6 0 [.n 1, .n 64, .n 0, .n 0, .n 3, .n 255, .n 255, .n 1000] with ph := { chans := [(5, { q := [({ code := 0x0A01, len := 5, words := [1, 2, 3, 4, 5] } : Msg)] })] } }).put 0x300010 0 0 [.n 1,
      .o [1], .n 1, .n 8, .n 0, .n 0, .n 0, .n 0, .n 0, .n 1, .n 0, .n 0, .n 2048, .n 16, .n 0]; let a := advance 0 s; let chan := 5;
      let p := 0; let m := ({ code := 0x0A01, len := 5, words := [1, 2, 3, 4, 5] } : Msg);
      let b := (match serveMsg a 64 chan [0x0901, 0x0902, 0x0A01, 0x0A02, 0x0A03] with | some (_, _, b) => b | none => a); let c := 6;
      (serveMsg a 64 chan [0x0A01] = some (p, m, b)) ∧ (msgWord m 1 % 65536 < pcfg a p 12 ∨
      pcfg a p 12 + pcfg a p 13 ≤ msgWord m 1 % 65536) ∧ (answerChan a 64 p = some c) ∧ (64 ≤ chF a c 5) ∧ (fencing a p = false) ∧
      ((chanOf a c).q.length < 4) ∧ ((chanOf a c).wait = [])) := by
  decide +kernel
theorem wit_TheLogbookTakesAndKeepsRecords_3 :
    (let s := ({ ((wRing 2 3 {}).put 0x340100 5 0 [.n 1, .n 0, .n 64, .n 2, .n 0, .n 255, .n 255, .n 1000]).put 0x340100 6 0 [.n 1, .n 64, .n 0, .n 0, .n 3, .n 255, .n 255, .n 1000] with ph := { chans := [(5, { q := [({ code := 0x0A01, len := 5, words := [2048, 2, 3, 4, 5] } : Msg)] })] } }).put 0x300010 0 0 [.n 1,
      .o [1], .n 1, .n 8, .n 0, .n 0, .n 0, .n 0, .n 0, .n 1, .n 0, .n 0, .n 2048, .n 16, .n 0]; let a := advance 0 s; let chan := 5;
      let p := 0; let m := ({ code := 0x0A01, len := 5, words := [2048, 2, 3, 4, 5] } : Msg);
      let b := (match serveMsg a 64 chan [0x0901, 0x0902, 0x0A01, 0x0A02, 0x0A03] with | some (_, _, b) => b | none => a); let c := 6;
      (serveMsg a 64 chan [0x0A01] = some (p, m, b)) ∧ (pcfg a p 12 ≤ msgWord m 1 % 65536) ∧
      (msgWord m 1 % 65536 < pcfg a p 12 + pcfg a p 13) ∧ (unitSt a 15 ≠ .fault) ∧ (logExempt (msgWord m 1 % 65536) = false) ∧
      (dueBy a (codeOf a (msgWord m 1 % 65536)).next = false) ∧ (0 < (codeOf a (msgWord m 1 % 65536)).tokens) ∧
      (a.logb.intake.length < 48) ∧ (a.logb.recs.length < 32768) ∧ (logProtect a (msgWord m 1 % 65536) = false ∨
      (a.logb.recs.filter fun r => r.prot).length < 1024) ∧ (answerChan a 64 p = some c) ∧ (64 ≤ chF a c 5) ∧ (fencing a p = false) ∧
      ((chanOf a c).q.length < 4) ∧ ((chanOf a c).wait = [])) ∧
    (let s := ({ ((wRing 2 3 {}).put 0x340100 5 0 [.n 1, .n 0, .n 64, .n 2, .n 0, .n 255, .n 255, .n 1000]).put 0x340100 6 0 [.n 1, .n 64, .n 0, .n 0, .n 3, .n 255, .n 255, .n 1000] with ph := { chans := [(5, { q := [({ code := 0x0A02, len := 1, words := [1] } : Msg)] })] }, logb := { recs := [⟨1, 5, 0x0100, 64, false, false, false, []⟩], seq := 1 } }).put 0x300010 0 0 [.n 1,
      .o [1], .n 1, .n 8, .n 0, .n 0, .n 0, .n 0, .n 0, .n 1, .n 0, .n 0, .n 2048, .n 16, .n 0]; let a := advance 0 s; let chan := 5;
      let p := 0; let m := ({ code := 0x0A02, len := 1, words := [1] } : Msg);
      let b := (match serveMsg a 64 chan [0x0901, 0x0902, 0x0A01, 0x0A02, 0x0A03] with | some (_, _, b) => b | none => a); let c := 6;
      let r := (⟨1, 5, 0x0100, 64, false, false, false, []⟩ : LogRec); let rs := ([] : List LogRec); (serveMsg a 64 chan [0x0A02] =
      some (p, m, b)) ∧ (logFrom a (msgWord m 1) = r :: rs) ∧ (answerChan a 64 p = some c) ∧ (64 ≤ chF a c 5) ∧ (fencing a p = false) ∧
      ((chanOf a c).q.length < 4) ∧ ((chanOf a c).wait = [])) ∧
    (let s := ({ ((wRing 2 3 {}).put 0x340100 5 0 [.n 1, .n 0, .n 64, .n 2, .n 0, .n 255, .n 255, .n 1000]).put 0x340100 6 0 [.n 1, .n 64, .n 0, .n 0, .n 3, .n 255, .n 255, .n 1000] with ph := { chans := [(5, { q := [({ code := 0x0A02, len := 1, words := [1] } : Msg)] })] } }).put 0x300010 0 0 [.n 1,
      .o [1], .n 1, .n 8, .n 0, .n 0, .n 0, .n 0, .n 0, .n 1, .n 0, .n 0, .n 2048, .n 16, .n 0]; let a := advance 0 s; let chan := 5;
      let p := 0; let m := ({ code := 0x0A02, len := 1, words := [1] } : Msg);
      let b := (match serveMsg a 64 chan [0x0901, 0x0902, 0x0A01, 0x0A02, 0x0A03] with | some (_, _, b) => b | none => a); let c := 6;
      (serveMsg a 64 chan [0x0A02] = some (p, m, b)) ∧ (logFrom a (msgWord m 1) = []) ∧ (answerChan a 64 p = some c) ∧
      (64 ≤ chF a c 5) ∧ (fencing a p = false) ∧ ((chanOf a c).q.length < 4) ∧ ((chanOf a c).wait = [])) ∧
    (let s := ({ ((wRing 2 3 {}).put 0x340100 5 0 [.n 1, .n 0, .n 64, .n 2, .n 0, .n 255, .n 255, .n 1000]).put 0x340100 6 0 [.n 1, .n 64, .n 0, .n 0, .n 3, .n 255, .n 255, .n 1000] with ph := { chans := [(5, { q := [({ code := 0x0A03, len := 1, words := [1] } : Msg)] })] }, logb := { recs := [⟨1, 5, 0x0100, 64, false, false, false, []⟩, ⟨2, 5, 0x0100, 64, true, false, false, []⟩], seq := 2 } }).put 0x300010 0 0 [.n 1,
      .o [1], .n 1, .n 8, .n 0, .n 0, .n 0, .n 0, .n 0, .n 1, .n 0, .n 0, .n 2048, .n 16, .n 0]; let a := advance 0 s; let chan := 5;
      let p := 0; let m := ({ code := 0x0A03, len := 1, words := [1] } : Msg);
      let b := (match serveMsg a 64 chan [0x0901, 0x0902, 0x0A01, 0x0A02, 0x0A03] with | some (_, _, b) => b | none => a);
      (serveMsg a 64 chan [0x0A03] = some (p, m, b)) ∧ (unitSt a 15 ≠ .fault) ∧ (a.logb.intake.length < 64) ∧
      ((a.logb.recs.filter fun r => r.prot).length < 1024)) := by
  decide +kernel

theorem wit_CounterResetsClearTheirCounters :
    (let s := { wRun with ctrs := [(okey 0x100029 2 0, { v := 4 }), (okey 0x280112 0 0, { v := 4 })] }; let a := advance 0 s;
      let rq := rqN 0; let port := 2; (cmdRuns a rq 0x100030 port [] = true)) ∧
    (let s := { wRun with ctrs := [(okey 0x100029 2 0, { v := 4 }), (okey 0x280112 0 0, { v := 4 })] }; let a := advance 0 s;
      let rq := rqN 0; let group := 1; (cmdRuns a rq 0x110030 group [] = true)) ∧
    (let s := { wRun with ctrs := [(okey 0x100029 2 0, { v := 4 }), (okey 0x280112 0 0, { v := 4 })] }; let a := advance 0 s;
      let rq := rqN 0; (cmdRuns a rq 0x180070 0 [] = true)) ∧
    (let s := { wRun with ctrs := [(okey 0x100029 2 0, { v := 4 }), (okey 0x280112 0 0, { v := 4 })] }; let a := advance 0 s;
      let rq := rqN 0; let entry := 3; (cmdRuns a rq 0x200140 entry [] = true)) := by
  decide +kernel
theorem wit_CounterResetsClearTheirCounters_2 :
    (let s := { wRun with ctrs := [(okey 0x100029 2 0, { v := 4 }), (okey 0x280112 0 0, { v := 4 })] }; let a := advance 0 s;
      let rq := rqN 0; (cmdRuns a rq 0x200203 0 [] = true)) ∧
    (let s := { wRun with ctrs := [(okey 0x100029 2 0, { v := 4 }), (okey 0x280112 0 0, { v := 4 })] }; let a := advance 0 s;
      let rq := rqN 0; (cmdRuns a rq 0x210020 0 [] = true)) ∧
    (let s := { wRun with ctrs := [(okey 0x100029 2 0, { v := 4 }), (okey 0x280112 0 0, { v := 4 })] }; let a := advance 0 s;
      let rq := rqN 0; (cmdRuns a rq 0x240200 0 [] = true)) ∧
    (let s := { wRun with ctrs := [(okey 0x100029 2 0, { v := 4 }), (okey 0x280112 0 0, { v := 4 })] }; let a := advance 0 s;
      let rq := rqN 0; (cmdRuns a rq 0x280130 0 [] = true)) := by
  decide +kernel
theorem wit_CounterResetsClearTheirCounters_3 :
    (let s := { wRun with ctrs := [(okey 0x100029 2 0, { v := 4 }), (okey 0x280112 0 0, { v := 4 })] }; let a := advance 0 s;
      let rq := rqN 0; (cmdRuns a rq 0x280230 0 [] = true)) ∧
    (let s := { wRun with ctrs := [(okey 0x100029 2 0, { v := 4 }), (okey 0x280112 0 0, { v := 4 })] }; let a := advance 0 s;
      let rq := rqN 0; (cmdRuns a rq 0x290230 0 [] = true)) ∧
    (let s := { wRun with ctrs := [(okey 0x100029 2 0, { v := 4 }), (okey 0x280112 0 0, { v := 4 })] }; let a := advance 0 s;
      let rq := rqN 0; (cmdRuns a rq 0x310006 0 [] = true)) ∧
    (let s := { wRun with ctrs := [(okey 0x100029 2 0, { v := 4 }), (okey 0x280112 0 0, { v := 4 })] }; let a := advance 0 s;
      let rq := rqN 0; (cmdRuns a rq 0x340120 0 [] = true)) := by
  decide +kernel
theorem wit_CounterResetsClearTheirCounters_4 :
    (let s := { wRun with ctrs := [(okey 0x100029 2 0, { v := 4 }), (okey 0x280112 0 0, { v := 4 })] }; let a := advance 0 s;
      let rq := rqN 0; (cmdRuns a rq 0x380050 0 [] = true)) ∧
    (let s := { wRun with ctrs := [(okey 0x100029 2 0, { v := 4 }), (okey 0x280112 0 0, { v := 4 })] }; let a := advance 0 s;
      let rq := rqN 0; (cmdRuns a rq 0x400050 0 [] = true)) ∧
    (let s := { wRun with ctrs := [(okey 0x100029 2 0, { v := 4 }), (okey 0x280112 0 0, { v := 4 })] }; let a := advance 0 s;
      let rq := rqN 0; (cmdRuns a rq 0x440070 0 [] = true)) ∧
    (let s := { wRun with ctrs := [(okey 0x100029 2 0, { v := 4 }), (okey 0x280112 0 0, { v := 4 })] }; let a := advance 0 s;
      let rq := rqN 0; (cmdRuns a rq 0x580030 0 [] = true)) := by
  decide +kernel
theorem wit_CounterResetsClearTheirCounters_5 :
    (let s := { wRun with ctrs := [(okey 0x100029 2 0, { v := 4 }), (okey 0x280112 0 0, { v := 4 })] }; let a := advance 0 s;
      let rq := rqN 0; (cmdRuns a rq 0x5C0060 0 [] = true)) ∧
    (let s := { wRun with boot := { wRun.boot with pathWire := 5 } }; let a := advance 0 s; let rq := rqN 0;
      (cmdRuns a rq 0x600204 0 [] = true)) := by
  decide +kernel

theorem wit_CaptureKeepsReleasesAndExports :
    (let s := { wRing 2 4 {} with tt := { rings := [(0, { prod := 1, slots := [(0, .pickup ⟨5, 12, 9, 3⟩)] })] } };
      let a := advance 0 s; let ring := 0; let i := 0; let r := (⟨5, 12, 9, 3⟩ : PReq); (rType a ring = 2) ∧ (rEngine a ring = 4) ∧
      (rPort a ring = false) ∧ (hubLive a = true) ∧ (unitTakes a 16 = true) ∧ (nextEntry a ring = some (i, .pickup r)) ∧
      (rOwner a ring < 64) ∧ (pst a (rOwner a ring) = .running ∨ pst a (rOwner a ring) = .stopping ∨ pst a (rOwner a ring) = .frozen)) ∧
    (let s := { wRun.put 0x5C0020 3 0 [.n 1, .n 0, .n 1, .n 0, .n 4096, .n 4, .n 4, .n 16] with cap := { recs := [(3, { st := 1 })] } };
      let a := advance 0 s; let rq := rqN 0; let k := 3; (cmdRuns a rq 0x5C0025 k [] = true) ∧ (rcF a k 0 ≠ 0) ∧ (rcF a k 1 ≠ 1) ∧
      (recState a k ≠ 3)) ∧
    (let s := { wRun.put 0x5C0020 3 0 [.n 1, .n 1, .n 1, .n 0, .n 4096, .n 4, .n 4, .n 16] with cap := {  } }; let a := advance 0 s;
      let rq := rqN 0; let k := 3; (cmdRuns a rq 0x5C0025 k [] = true) ∧ (rcF a k 0 ≠ 0) ∧ (rcF a k 1 = 1)) ∧
    (let s := { wRun.put 0x5C0020 3 0 [.n 1, .n 0, .n 1, .n 0, .n 4096, .n 4, .n 4, .n 16] with cap := { fill := 200000, recs := [(3, { st := 3, ovfWait := true })] } };
      let a := advance 0 s; let k := 3; (capOn a = true) ∧ ((recOf a k).st = 3) ∧ ((recOf a k).ovfWait = true)) := by
  decide +kernel
theorem wit_CaptureKeepsReleasesAndExports_2 :
    (let s := { { wRun.put 0x5C0020 3 0 [.n 1, .n 1, .n 1, .n 0, .n 4096, .n 4, .n 4, .n 16] with cap := { lowSince := some 0, recs := [(3, { st := 2, interval := 8 })] } } with now := 60000000000 };
      let a := advance 0 s; let u := 0; let k := 3; (a.cap.lowSince = some u) ∧ (capOn a = true) ∧ (u + 60000000000 ≤ a.now) ∧
      (k ∈ recorders a) ∧ (rcF a k 1 = 1) ∧ (rcF a k 12 < (recOf a k).interval)) ∧
    (let s := { wRun.put 0x5C0020 3 0 [.n 1, .n 0, .n 1, .n 0, .n 4096, .n 4, .n 4, .n 16] with cap := { recs := [(3, { st := 1, recs := [({ num := 7, samples := [], trigRow := 5, trigTime := 0, flags := 0 } : CapRec)] })] } };
      let a := advance 0 s; let rq := rqN 0; let k := 3; let number := 7;
      let r := ({ num := 7, samples := [], trigRow := 5, trigTime := 0, flags := 0 } : CapRec); (cmdRuns a rq 0x5C0031 k [.n number] =
      true) ∧ (recNum a k number = some r)) ∧
    (let s := { wRun.put 0x5C0020 3 0 [.n 1, .n 0, .n 1, .n 0, .n 4096, .n 4, .n 4, .n 16] with cap := { recs := [(3, { st := 1 })] } };
      let a := advance 0 s; let rq := rqN 0; let k := 3; let number := 7; (cmdRuns a rq 0x5C0031 k [.n number] = true) ∧
      (recNum a k number = none)) ∧
    (let s := { wRun.put 0x5C0020 3 0 [.n 1, .n 0, .n 1, .n 0, .n 4096, .n 4, .n 4, .n 16] with cap := { recs := [(3, { st := 3, recs := [({ num := 7, samples := [], trigRow := 5, trigTime := 0, flags := 0 } : CapRec)] })] } };
      let a := advance 0 s; let rq := rqN 0; let k := 3; let number := 7;
      let r := ({ num := 7, samples := [], trigRow := 5, trigTime := 0, flags := 0 } : CapRec); (cmdRuns a rq 0x5C0032 k [.n number] =
      true) ∧ (recNum a k number = some r) ∧ (r.held = false)) := by
  decide +kernel
theorem wit_CaptureKeepsReleasesAndExports_3 :
    (let s := { wRun.put 0x5C0020 3 0 [.n 1, .n 0, .n 1, .n 0, .n 4096, .n 4, .n 4, .n 16] with cap := { recs := [(3, { st := 1 })] } };
      let a := advance 0 s; let rq := rqN 0; let k := 3; let number := 7; (cmdRuns a rq 0x5C0032 k [.n number] = true) ∧
      (recNum a k number = none)) ∧
    (let s := { wRun.put 0x5C0020 3 0 [.n 1, .n 0, .n 1, .n 0, .n 4096, .n 4, .n 4, .n 16] with cap := { recs := [(3, { st := 3, recs := [({ num := 7, samples := [], trigRow := 5, trigTime := 0, flags := 0, held := true } : CapRec)] })] } };
      let a := advance 0 s; let rq := rqN 0; let k := 3; let number := 7;
      let r := ({ num := 7, samples := [], trigRow := 5, trigTime := 0, flags := 0, held := true } : CapRec);
      (cmdRuns a rq 0x5C0032 k [.n number] = true) ∧ (recNum a k number = some r) ∧ (r.held = true)) ∧
    (let s := { wRun.put 0x5C0020 3 0 [.n 1, .n 0, .n 1, .n 0, .n 4096, .n 4, .n 4, .n 16] with cap := { export_ := some ⟨3, 7, 0, 0, 0, 6⟩, recs := [(3, { st := 1, recs := [({ num := 7, samples := [], trigRow := 5, trigTime := 0, flags := 0 } : CapRec)] })] } };
      let a := advance 0 s; let rq := rqN 0; let k := 3; let number := 7; let t0 := 0; let t1 := 0; (cmdRuns a rq 0x5C0040 0 [.n k,
      .n number, .i t0, .i t1] = true) ∧ (k < 16) ∧ (rcF a k 0 ≠ 0) ∧ (rcF a k 1 ≠ 1) ∧ ((recNum a k number).isSome = true) ∧
      (a.cap.export_.isSome = true)) ∧
    (let s := { wRun.put 0x5C0020 3 0 [.n 1, .n 0, .n 1, .n 0, .n 4096, .n 4, .n 4, .n 16] with cap := { recs := [(3, { st := 1, recs := [({ num := 7, samples := [], trigRow := 5, trigTime := 0, flags := 0 } : CapRec)] })] } };
      let a := advance 0 s; let rq := rqN 0; let k := 3; let number := 7; let t0 := 0; let t1 := 0;
      let r := ({ num := 7, samples := [], trigRow := 5, trigTime := 0, flags := 0 } : CapRec); (cmdRuns a rq 0x5C0040 0 [.n k,
      .n number, .i t0, .i t1] = true) ∧ (k < 16) ∧ (rcF a k 0 ≠ 0) ∧ (rcF a k 1 ≠ 1) ∧ (recNum a k number = some r) ∧ (a.cap.export_ =
      none)) := by
  decide +kernel
theorem wit_CaptureKeepsReleasesAndExports_4 :
    (let s := { wRun.put 0x5C0020 3 0 [.n 1, .n 0, .n 1, .n 0, .n 4096, .n 4, .n 4, .n 16] with cap := { export_ := some ⟨3, 7, 0, 0, 0, 7⟩, recs := [(3, { st := 1, recs := [({ num := 7, samples := [], trigRow := 5, trigTime := 0, flags := 0 } : CapRec)] })] } };
      let a := advance 0 s; let e := (⟨3, 7, 0, 0, 0, 7⟩ : Export);
      let r := ({ num := 7, samples := [], trigRow := 5, trigTime := 0, flags := 0 } : CapRec); (a.cap.export_ = some e) ∧ (hubLive a =
      true) ∧ (recNum a e.rec_ e.num = some r)) := by
  decide +kernel

theorem wit_ThePrefectRefillsAndRefuses :
    (let s := { wRun with pf := { parts := [(2, { tokens := 0, next := some 0 })] } }; let a := advance 0 s; let p := 2; let u := 0;
      ((pfOf a p).next = some u) ∧ (dueBy a (tokenDue (pfOf a p)) = true)) ∧
    (let s := { wRun with pf := { parts := [(2, { tokens := 0, next := some 9 })] } }; let a := advance 0 s; let p := 2;
      (dueBy a (tokenDue (pfOf a p)) = false)) := by
  decide +kernel

theorem wit_HandshakesAndHelloOpenSessions :
    (let s := { wRun with net := { ports := [(4, { st := 2 })] } }; let a := advance 0 s; let port := 0;
      let h := ({ cookieOk := true, offers256 := true, offers128 := true, cert := ⟨true, [0, 2, 4], 0⟩ } : ClientHello);
      let u := 0x1302; (jalynPort a port = true) ∧ (h.cookieOk = true) ∧ (helloSchemes h = true) ∧ (h.cert.chainsToAnchor = true) ∧
      ((a.jal.assocs.filter fun x => !x.2.ready).length < 2) ∧ (unitSt a 0 ≠ .fault) ∧ (vaultRoom a 3 = true) ∧ (suiteFor a h =
      some u)) ∧
    (let s := { wRun with net := { ports := [(4, { st := 2 })] } }; let a := advance 0 s; let port := 0;
      let h := ({ cookieOk := true, offers256 := false, offers128 := false, cert := ⟨true, [0, 2, 4], 0⟩ } : ClientHello);
      (jalynPort a port = false ∨ h.cookieOk = false ∨ helloSchemes h = false ∨ h.cert.chainsToAnchor = false ∨
      2 ≤ (a.jal.assocs.filter fun x => !x.2.ready).length ∨ suiteFor a h = none)) ∧
    (let s := { { wRun with net := { ports := [(4, { st := 2 })] } } with jal := { wRun.jal with assocs := [(3, { port := 0, suite := 0x1302, cert := ⟨true, [0, 2, 4], 0⟩, ready := true })] } };
      let a := advance 0 s; let k := 3;
      let h := ({ versMin := 0x10, versMax := 0x11, role := 2, partition := 0, name := [], reqId := 9 } : HelloReq);
      let x := ({ port := 0, suite := 0x1302, cert := ⟨true, [0, 2, 4], 0⟩, ready := true } : Assoc); let v := 0x11; let r := Role.eng;
      let n := 2; (tabGet a.jal.assocs k = some x) ∧ (jalynUp a = true) ∧ (x.ready = true) ∧ (x.sess = none) ∧
      (agreeVersion a h.versMin h.versMax = some v) ∧ (grantRole a x.cert h = some r) ∧ (freeSess a = some n) ∧ (r ≠ .sec ∨
      (a.jal.sess.any fun y => y.2.role == .sec) = false)) ∧
    (let s := { { wRun with net := { ports := [(4, { st := 2 })] } } with jal := { wRun.jal with assocs := [(3, { port := 0, suite := 0x1302, cert := ⟨true, [0, 2, 4], 0⟩, ready := true })] } };
      let a := advance 0 s; let k := 3;
      let h := ({ versMin := 0x10, versMax := 0x11, role := 3, partition := 0, name := [], reqId := 9 } : HelloReq);
      let x := ({ port := 0, suite := 0x1302, cert := ⟨true, [0, 2, 4], 0⟩, ready := true } : Assoc); let v := 0x11; let j := 0;
      (tabGet a.jal.assocs k = some x) ∧ (jalynUp a = true) ∧ (x.ready = true) ∧ (x.sess = none) ∧ (agreeVersion a h.versMin h.versMax =
      some v) ∧ (grantRole a x.cert h = none)) := by
  decide +kernel
theorem wit_HandshakesAndHelloOpenSessions_2 :
    (let s := { { wRun with net := { ports := [(4, { st := 2 })] } } with jal := { wRun.jal with sess := [(1, { role := .sec })], assocs := [(3, { port := 0, suite := 0x1302, cert := ⟨true, [0, 3], 0⟩, ready := true })] } };
      let a := advance 0 s; let k := 3;
      let h := ({ versMin := 0x10, versMax := 0x11, role := 3, partition := 0, name := [], reqId := 9 } : HelloReq);
      let x := ({ port := 0, suite := 0x1302, cert := ⟨true, [0, 3], 0⟩, ready := true } : Assoc); let v := 0x11; let r := Role.sec;
      let st := sessionLimit; let j := 1; (tabGet a.jal.assocs k = some x) ∧ (jalynUp a = true) ∧ (x.ready = true) ∧ (x.sess = none) ∧
      ((agreeVersion a h.versMin h.versMax = none ∧ v = 0x10 ∧ st = unsupported) ∨ (agreeVersion a h.versMin h.versMax = some v ∧
      grantRole a x.cert h = some r ∧ (freeSess a = none ∨ r = .sec ∧ (a.jal.sess.any fun y => y.2.role == .sec) = true) ∧ st =
      sessionLimit))) ∧
    (let s := { { wRun with net := { ports := [(4, { st := 2 })] } } with jal := { wRun.jal with sess := [(0, { role := .mgr })], assocs := [(3, { port := 0, suite := 0x1302, cert := ⟨true, [0, 2, 4], 0⟩, ready := true, sess := some 0 })] } };
      let a := advance 0 s; let k := 3;
      let h := ({ versMin := 0x10, versMax := 0x11, role := 2, partition := 0, name := [], reqId := 9 } : HelloReq);
      let x := ({ port := 0, suite := 0x1302, cert := ⟨true, [0, 2, 4], 0⟩, ready := true, sess := some 0 } : Assoc); let n := 0;
      let se := ({ role := .mgr } : Sess); (tabGet a.jal.assocs k = some x) ∧ (jalynUp a = true) ∧ (x.ready = true) ∧ (x.sess =
      some n) ∧ (sessOf a n = some se) ∧ (inTurn se { sess := n, seq := h.seq, reqId := h.reqId } = true)) := by
  decide +kernel

theorem wit_MessagesAreNumberedAndAcknowledged :
    (let s := wRun; let a := advance 0 s; let n := 0; let size := 1401; let version := 0x11; let seq := 1; let ackValid := false;
      let ackNo := 0; (jalynUp a = true) ∧ (1400 < size)) ∧
    (let s := { wRun with now := 0, jal := { wRun.jal with sess := [(0, { role := .mgr, rxSeq := 4, noticed := true }), (1, { role := .sec })] } };
      let a := advance 0 s; let n := 0; let size := 100; let version := 0x11; let seq := 4; let ackValid := true; let ackNo := 0;
      let se := ({ role := .mgr, rxSeq := 4, noticed := true } : Sess); (jalynUp a = true) ∧ (sessOf a n = some se) ∧ (size ≤ 1400) ∧
      (version = se.version) ∧ (seq = se.rxSeq) ∧ (se.rxHeld = [])) ∧
    (let s := { wRun with now := 0, jal := { wRun.jal with sess := [(0, { role := .mgr, rxSeq := 4 }), (1, { role := .sec })] } };
      let a := advance 0 s; let n := 0; let size := 100; let version := 0x11; let seq := 3; let ackValid := true; let ackNo := 0;
      let se := ({ role := .mgr, rxSeq := 4 } : Sess); (jalynUp a = true) ∧ (sessOf a n = some se) ∧ (size ≤ 1400) ∧ (version =
      se.version) ∧ (seq < se.rxSeq)) ∧
    (let s := { wRun with now := 0, jal := { wRun.jal with sess := [(0, { role := .mgr, rxSeq := 4 }), (1, { role := .sec })] } };
      let a := advance 0 s; let n := 0; let size := 100; let version := 0x12; let seq := 4; let ackValid := false; let ackNo := 0;
      let se := ({ role := .mgr, rxSeq := 4 } : Sess); (jalynUp a = true) ∧ (sessOf a n = some se) ∧ (size ≤ 1400) ∧
      (version ≠ se.version)) := by
  decide +kernel
theorem wit_MessagesAreNumberedAndAcknowledged_2 :
    (let s := { wRun with now := 0, jal := { wRun.jal with sess := [(0, { role := .mgr, rxSeq := 4 }), (1, { role := .sec })] } };
      let a := advance 0 s; let n := 0; let size := 100; let version := 0x11; let seq := 6; let ackValid := false; let ackNo := 0;
      let se := ({ role := .mgr, rxSeq := 4 } : Sess); (jalynUp a = true) ∧ (sessOf a n = some se) ∧ (size ≤ 1400) ∧ (version =
      se.version) ∧ (se.rxSeq < seq) ∧ (se.rxHeld.length < 32)) ∧
    (let s := { wRun with jal := { wRun.jal with assocs := [(3, { port := 0, suite := 0x1302, cert := ⟨true, [0, 2, 4], 0⟩, ready := true, unacked := [⟨1, 0, 5, 9, [1, 2]⟩] })] } };
      let a := advance 0 s; let n := 19; let ackNo := 1; let k := 3;
      let x := ({ port := 0, suite := 0x1302, cert := ⟨true, [0, 2, 4], 0⟩, ready := true, unacked := [⟨1, 0, 5, 9, [1, 2]⟩] } : Assoc);
      (jalynUp a = true) ∧ (sessOf a n = none) ∧ (tabGet a.jal.assocs k = some x) ∧ (n = k + 16)) ∧
    (let s := { wRun with now := 0, jal := { wRun.jal with sess := [(0, { role := .mgr, txSeq := 4, unacked := [⟨2, 0, 5, 9, [1, 2]⟩, ⟨3, 0, 5, 9, [1, 2]⟩] }), (1, { role := .sec })] } };
      let a := advance 0 s; let n := 0; let ackNo := 2;
      let se := ({ role := .mgr, txSeq := 4, unacked := [⟨2, 0, 5, 9, [1, 2]⟩, ⟨3, 0, 5, 9, [1, 2]⟩] } : Sess); (jalynUp a = true) ∧
      (sessOf a n = some se) ∧ (ackNo < se.txSeq)) ∧
    (let s := { wRun with now := 0, jal := { wRun.jal with sess := [(0, { role := .mgr, ackDue := some 0 }), (1, { role := .sec })] } };
      let a := advance 0 s; let n := 0; let se := ({ role := .mgr, ackDue := some 0 } : Sess); (jalynUp a = true) ∧ (sessOf a n =
      some se) ∧ (dueBy a se.ackDue = true)) := by
  decide +kernel
theorem wit_MessagesAreNumberedAndAcknowledged_3 :
    (let s := { wRun with now := 0, jal := { wRun.jal with sess := [(0, { role := .mgr, unacked := [⟨3, 0, 250000000, 0, [1, 2]⟩] }), (1, { role := .sec })] } };
      let a := advance 0 s; let n := 0; let seq := 3; let se := ({ role := .mgr, unacked := [⟨3, 0, 250000000, 0, [1, 2]⟩] } : Sess);
      let m := (⟨3, 0, 250000000, 0, [1, 2]⟩ : Unacked); (jalynUp a = true) ∧ (sessOf a n = some se) ∧ ((se.unacked.find? fun m =>
      m.seq == seq && m.gap != 0 && m.due ≤ a.now) = some m) ∧ (m.tries < 6)) ∧
    (let s := { wRun with now := 0, jal := { wRun.jal with sess := [(0, { role := .mgr, unacked := [⟨3, 6, 250000000, 0, [1, 2]⟩] }), (1, { role := .sec })] } };
      let a := advance 0 s; let n := 0; let seq := 3; let se := ({ role := .mgr, unacked := [⟨3, 6, 250000000, 0, [1, 2]⟩] } : Sess);
      let m := (⟨3, 6, 250000000, 0, [1, 2]⟩ : Unacked); (jalynUp a = true) ∧ (sessOf a n = some se) ∧ ((se.unacked.find? fun m =>
      m.seq == seq && m.gap != 0 && m.due ≤ a.now) = some m) ∧ (6 ≤ m.tries)) := by
  decide +kernel

theorem wit_SessionsEnd :
    (let s := { wRun with now := 0, jal := { wRun.jal with sess := [(0, { role := .mgr, idleNs := 1000000000 }), (1, { role := .sec })] } };
      let a := advance 0 s; let n := 0; let se := ({ role := .mgr, idleNs := 1000000000 } : Sess); (jalynUp a = true) ∧ (sessOf a n =
      some se) ∧ (se.lastRx + se.idleNs ≤ a.now + 1000000000) ∧ (se.noticed = false)) ∧
    (let s := { wRun with now := 0, jal := { wRun.jal with sess := [(0, { role := .mgr }), (1, { role := .sec })] } };
      let a := advance 0 s; let n := 0; let se := ({ role := .mgr } : Sess); (jalynUp a = true) ∧ (sessOf a n = some se) ∧
      (se.lastRx + se.idleNs ≤ a.now)) ∧
    (let s := { wRun with now := 0, jal := { wRun.jal with sess := [(0, { role := .mgr }), (1, { role := .sec })] } };
      let a := advance 0 s; let rq := rqN 1; let n := 7; (cmdRuns a rq 0x020012 n [] = true) ∧ (sessOf a n = none ∨
      ((sessOf a n).any fun x => x.closeDue.isSome) = true)) ∧
    (let s := { wRun with now := 0, jal := { wRun.jal with sess := [(0, { role := .mgr }), (1, { role := .sec })] } };
      let a := advance 0 s; let rq := rqN 1; let n := 0; let se := ({ role := .mgr } : Sess); (cmdRuns a rq 0x020012 n [] = true) ∧
      (sessOf a n = some se) ∧ (se.closeDue = none)) := by
  decide +kernel
theorem wit_SessionsEnd_2 :
    (let s := { wRun with now := 0, jal := { wRun.jal with sess := [(0, { role := .mgr, closeDue := some 0 }), (1, { role := .sec })] } };
      let a := advance 0 s; let n := 0; let se := ({ role := .mgr, closeDue := some 0 } : Sess); (jalynUp a = true) ∧ (sessOf a n =
      some se) ∧ (dueBy a se.closeDue = true)) := by
  decide +kernel

theorem wit_ObjectsAreReadWrittenAndExecuted :
    (let s := wRun; let a := advance 0 s; let rq := rqN 0; let staged := false; let addrs := [addrOf 0x210001 0, addrOf 0x010011 0];
      let se := ({ role := .mgr } : Sess); (rqOpen a rq se) ∧ (addrs ≠ []) ∧ (addrs.length ≤ 64) ∧ (addrs.length ≤ max 1 rq.cut) ∧
      ((addrs.any inGateway) = false) ∧ (readSize a se staged addrs ≤ 1344)) ∧
    (let s := wRun; let a := advance 0 s; let rq := rqN 0; let staged := false; let addrs := ([] : List Addr);
      let se := ({ role := .mgr } : Sess); (rqOpen a rq se) ∧ (addrs = [] ∨ 64 < addrs.length ∨ 1344 < readSize a se staged addrs)) ∧
    (let s := wRun; let a := advance 0 s; let rq := { rqN 0 with cut := 1 }; let staged := false; let addrs := [addrOf 0x210001 0,
      addrOf 0x010011 0]; let se := ({ role := .mgr } : Sess); (rqOpen a rq se) ∧ (addrs.length ≤ 64) ∧ (max 1 rq.cut < addrs.length) ∧
      ((addrs.any inGateway) = false) ∧ (readSize a se staged addrs ≤ 1344)) ∧
    (let s := wRun; let a := advance 0 s; let rq := rqN 0; let ob := 0x210002; let sub := 0; let typ := 11; let bs := ([0xA0, 0xBB,
      0x0D, 0] : List Byte); let se := ({ role := .mgr } : Sess); let d := (descOf 0x210002).getD ⟨0, .none, .ro, .obs, .v, 0, [], []⟩;
      let v := ([.n 900000] : Val); (running a = true) ∧ (rqOpen a rq se) ∧ (descOf ob = some d) ∧ (inGateway (addrOf ob sub) = false) ∧
      (d.pers = .s) ∧ (entryTyp d.typ = true) ∧ (decodes d.typ typ bs v = true) ∧ (objCheck a se (addrOf ob sub) .write = 0) ∧
      (inLims d v = true) ∧ (ownLimit a ob sub v = 0) ∧ (unitCheck a (addrOf ob sub) d .write = 0) ∧ (committing a = false) ∧
      (a.jal.holder = none ∨ a.jal.holder = some rq.sess) ∧ (sub < 65536)) := by
  decide +kernel
theorem wit_ObjectsAreReadWrittenAndExecuted_2 :
    (let s := wRun; let a := advance 0 s; let rq := rqN 0; let e := (⟨addrOf 0x010001 0, 4, [1, 0, 0, 0]⟩ : WEntry);
      let se := ({ role := .mgr } : Sess); (running a = true) ∧ (rqOpen a rq se) ∧ (inGateway e.addr = false) ∧
      (objCheck a se e.addr .write ≠ 0)) ∧
    (let s := wRun; let a := advance 0 s; let rq := rqN 0; let e := (⟨addrOf 0x010001 0, typCode .none, []⟩ : WEntry);
      let se := ({ role := .mgr } : Sess); (rqOpen a rq se) ∧ (inGateway e.addr = false) ∧ (objCheck a se e.addr .exec ≠ 0)) ∧
    (let s := wRun; let a := advance 0 s; let rq := rqN 0; (cmdRuns a rq 0x600140 0 [] = true)) ∧
    (let s := wRing 2 0 {}; let a := advance 0 s; let rq := rqN 0; let ad := addrOf 0x300011 0; let first := 0; let rows := 4;
      let se := ({ role := .mgr } : Sess); let f := 0;
      let len := (tableRows (wRing 2 0 {}) { role := .mgr } (addrOf 0x300011 0) 0 4).2.2.1; let rs := ([] : List (List Byte));
      (rqOpen a rq se) ∧ (tableRows a se ad first rows = (0, f, len, rs))) := by
  decide +kernel
theorem wit_ObjectsAreReadWrittenAndExecuted_3 :
    (let s := wRun; let a := advance 0 s; let rq := rqN 0; let ad := addrOf 0x210001 0; let first := 0; let rows := 4;
      let se := ({ role := .mgr } : Sess); let st := (tableRows wRun { role := .mgr } (addrOf 0x210001 0) 0 4).1; let f := 0;
      let len := 0; let rs := ([] : List (List Byte)); (rqOpen a rq se) ∧ (tableRows a se ad first rows = (st, f, len, rs)) ∧
      (st ≠ 0)) ∧
    (let s := wRun; let a := advance 0 s; let rq := rqN 0; let ad := addrOf 0x300011 0; let first := 9999999; let rows := 4;
      let se := ({ role := .mgr } : Sess); let d := (descOf 0x300011).getD ⟨0, .none, .ro, .obs, .v, 0, [], []⟩;
      let cap := ((tblCap ((descOf 0x300011).getD ⟨0, .none, .ro, .obs, .v, 0, [], []⟩).typ).getD 0); (rqOpen a rq se) ∧ (inGateway ad =
      false) ∧ (objCheck a se ad .tableRead = 0) ∧ (descOf (obAddr ad) = some d) ∧ (tblCap d.typ = some cap) ∧ (obAddr ad ≠ 0x580010) ∧
      (cap ≤ first)) ∧
    (let s := wRun; let a := advance 0 s; let rq := rqN 0; let ob := 0x380012; let sub := 3; let first := 2; let v := ([.n 8,
      .n 4] : Val); let bs := (match descOf 0x380012 with | some d => encVal d.typ [.n 8, .n 4] | none => []);
      (rowRuns a rq ob sub first bs v = true) ∧ (inGateway (addrOf ob sub) = false) ∧ ((descOf ob).map (fun d => d.pers) = some .s) ∧
      (committing a = false) ∧ (a.jal.holder = none ∨ a.jal.holder = some rq.sess) ∧ (sub < 65536)) := by
  decide +kernel

theorem wit_BulkAndSubscriptions :
    (let s := wRun; let a := advance 0 s; let rq := rqN 0; let ad := addrOf 0x010020 0; let offset := 0; let count := 2;
      let data := ([5, 6] : List Byte); let se := ({ role := .mgr } : Sess); (rqOpen a rq se) ∧
      (bulkCheck a rq.sess se ad true offset count data = 0) ∧ (obAddr ad = 0x010020 ∨ obAddr ad = 0x020030 ∨ obAddr ad = 0x300012)) ∧
    (let s := wRun; let a := advance 0 s; let rq := rqN 0; let ad := addrOf 0x010020 0; let wr := true; let offset := 9; let count := 2;
      let data := ([5, 6] : List Byte); let se := ({ role := .mgr } : Sess); let m := ((octCap (addrOf 0x010020 0)).getD 0);
      (rqOpen a rq se) ∧ (bulkCheck a rq.sess se ad wr offset count data ≠ 0)) ∧
    (let s := wRun; let a := advance 0 s; let rq := rqN 0; let ad := addrOf 0x700014 0; let offset := 0; let count := 16;
      let data := ([] : List Byte); let se := ({ role := .mgr } : Sess); let bs := ([] : List Byte); let len := 0; (rqOpen a rq se) ∧
      (bulkCheck a rq.sess se ad false offset count data = 0) ∧ (octRange a (obAddr ad) ad.sub offset count = (bs, len))) ∧
    (let s := wRun; let a := advance 0 s; let rq := rqN 0; let ad := addrOf 0x010011 0; let mode := 1; let mi := 0; let per := 50;
      let band := 0; let se := ({ role := .mgr } : Sess); (rqOpen a rq se) ∧ (running a = true) ∧ (subCheck a se ad mode mi per band =
      0) ∧ (mode < 2) ∧ ((se.subs.any fun x => x.2.addr == ad) = false)) := by
  decide +kernel
theorem wit_BulkAndSubscriptions_2 :
    (let s := { wRun with now := 0, jal := { wRun.jal with sess := [(0, { role := .mgr, subs := [(4, { addr := addrOf 0x010011 0, mode := 1, minNs := 0, periodNs := 50000000, deadband := 0, due := some 0 })] }), (1, { role := .sec })] } };
      let a := advance 0 s; let rq := rqN 0; let ad := addrOf 0x010011 0; let mode := 0; let mi := 0; let per := 0; let band := 0;
      let se := ({ role := .mgr, subs := [(4, { addr := addrOf 0x010011 0, mode := 1, minNs := 0, periodNs := 50000000, deadband := 0, due := some 0 })] } : Sess);
      let k := 4;
      let y := ({ addr := addrOf 0x010011 0, mode := 1, minNs := 0, periodNs := 50000000, deadband := 0, due := some 0 } : Sub);
      (rqOpen a rq se) ∧ (running a = true) ∧ (subCheck a se ad mode mi per band = 0) ∧ (mode < 2) ∧ ((se.subs.find? fun x =>
      x.2.addr == ad) = some (k, y))) ∧
    (let s := { wRun with now := 0, jal := { wRun.jal with sess := [(0, { role := .mgr, subs := [(4, { addr := addrOf 0x010011 0, mode := 1, minNs := 0, periodNs := 50000000, deadband := 0, due := some 0 })] }), (1, { role := .sec })] } };
      let a := advance 0 s; let rq := rqN 0; let ad := addrOf 0x010011 0; let mi := 0; let per := 0; let band := 0;
      let se := ({ role := .mgr, subs := [(4, { addr := addrOf 0x010011 0, mode := 1, minNs := 0, periodNs := 50000000, deadband := 0, due := some 0 })] } : Sess);
      let k := 4;
      let y := ({ addr := addrOf 0x010011 0, mode := 1, minNs := 0, periodNs := 50000000, deadband := 0, due := some 0 } : Sub);
      (rqOpen a rq se) ∧ (running a = true) ∧ (subCheck a se ad 2 mi per band = 0) ∧ ((se.subs.find? fun x => x.2.addr == ad) = some (k,
      y))) ∧
    (let s := wRun; let a := advance 0 s; let rq := rqN 0; let ad := addrOf 0x010011 0; let mode := 1; let mi := 0; let per := 5;
      let band := 0; let se := ({ role := .mgr } : Sess); (rqOpen a rq se) ∧ (running a = true) ∧
      (subCheck a se ad mode mi per band ≠ 0)) := by
  decide +kernel

theorem wit_NotificationsAreDelivered :
    (let s := { wRun with now := 0, jal := { wRun.jal with sess := [(0, { role := .mgr, subs := [(4, { addr := addrOf 0x010011 0, mode := 1, minNs := 0, periodNs := 50000000, deadband := 0, due := some 0 })] }), (1, { role := .sec })] } };
      let a := advance 0 s; let n := 0; let k := 4;
      let se := ({ role := .mgr, subs := [(4, { addr := addrOf 0x010011 0, mode := 1, minNs := 0, periodNs := 50000000, deadband := 0, due := some 0 })] } : Sess);
      let x := ({ addr := addrOf 0x010011 0, mode := 1, minNs := 0, periodNs := 50000000, deadband := 0, due := some 0 } : Sub);
      let u := 0; (jalynUp a = true) ∧ (sessOf a n = some se) ∧ (tabGet se.subs k = some x) ∧ (x.mode = 1) ∧ (x.due = some u) ∧
      (u ≤ a.now) ∧ (se.nq.length < 254)) ∧
    (let s := { wRun with now := 0, jal := { wRun.jal with sess := [(0, { role := .mgr, subs := [(4, { addr := addrOf 0x010011 0, mode := 1, minNs := 0, periodNs := 50000000, deadband := 0, due := some 0 })], nq := List.replicate 255 { kind := 0, seq := 1 } }), (1, { role := .sec })] } };
      let a := advance 0 s; let n := 0; let k := 4;
      let se := ({ role := .mgr, subs := [(4, { addr := addrOf 0x010011 0, mode := 1, minNs := 0, periodNs := 50000000, deadband := 0, due := some 0 })], nq := List.replicate 255 { kind := 0, seq := 1 } } : Sess);
      let x := ({ addr := addrOf 0x010011 0, mode := 1, minNs := 0, periodNs := 50000000, deadband := 0, due := some 0 } : Sub);
      let u := 0; (jalynUp a = true) ∧ (sessOf a n = some se) ∧ (tabGet se.subs k = some x) ∧ (x.mode = 1) ∧ (x.due = some u) ∧
      (u ≤ a.now) ∧ (255 ≤ se.nq.length)) ∧
    (let s := { wRun with now := 0, jal := { wRun.jal with sess := [(0, { role := .mgr, subs := [(4, { addr := addrOf 0x010011 0, mode := 0, minNs := 50000000, periodNs := 0, deadband := 0, seen := [9, 0, 0, 0], held := some 0, merged := true })] }), (1, { role := .sec })] } };
      let a := advance 0 s; let n := 0; let k := 4;
      let se := ({ role := .mgr, subs := [(4, { addr := addrOf 0x010011 0, mode := 0, minNs := 50000000, periodNs := 0, deadband := 0, seen := [9, 0, 0, 0], held := some 0, merged := true })] } : Sess);
      let x := ({ addr := addrOf 0x010011 0, mode := 0, minNs := 50000000, periodNs := 0, deadband := 0, seen := [9, 0, 0, 0], held := some 0, merged := true } : Sub);
      let d := (descOf 0x010011).getD ⟨0, .none, .ro, .obs, .v, 0, [], []⟩; (jalynUp a = true) ∧ (sessOf a n = some se) ∧
      (tabGet se.subs k = some x) ∧ (dueBy a x.held = true) ∧ (x.merged = true) ∧ (descOf (obAddr x.addr) = some d) ∧
      (passBand d (se.version == 0x10) x.deadband x.seen (curBytes a (obAddr x.addr) x.addr.sub) = true) ∧ (se.nq.length < 254)) ∧
    (let s := { wRun with now := 0, jal := { wRun.jal with sess := [(0, { role := .mgr, subs := [(4, { addr := addrOf 0x010011 0, mode := 0, minNs := 50000000, periodNs := 0, deadband := 0, seen := [9, 0, 0, 0], held := some 0, merged := true })], nq := List.replicate 255 { kind := 0, seq := 1 } }), (1, { role := .sec })] } };
      let a := advance 0 s; let n := 0; let k := 4;
      let se := ({ role := .mgr, subs := [(4, { addr := addrOf 0x010011 0, mode := 0, minNs := 50000000, periodNs := 0, deadband := 0, seen := [9, 0, 0, 0], held := some 0, merged := true })], nq := List.replicate 255 { kind := 0, seq := 1 } } : Sess);
      let x := ({ addr := addrOf 0x010011 0, mode := 0, minNs := 50000000, periodNs := 0, deadband := 0, seen := [9, 0, 0, 0], held := some 0, merged := true } : Sub);
      let d := (descOf 0x010011).getD ⟨0, .none, .ro, .obs, .v, 0, [], []⟩; (jalynUp a = true) ∧ (sessOf a n = some se) ∧
      (tabGet se.subs k = some x) ∧ (dueBy a x.held = true) ∧ (x.merged = true) ∧ (descOf (obAddr x.addr) = some d) ∧
      (passBand d (se.version == 0x10) x.deadband x.seen (curBytes a (obAddr x.addr) x.addr.sub) = true) ∧ (255 ≤ se.nq.length)) := by
  decide +kernel
theorem wit_NotificationsAreDelivered_2 :
    (let s := { wRun with now := 0, jal := { wRun.jal with sess := [(0, { role := .mgr, subs := [(4, { addr := addrOf 0x010011 0, mode := 0, minNs := 0, periodNs := 50000000, deadband := 0, held := some 0, seen := curBytes wRun 0x010011 0 })] }), (1, { role := .sec })] } };
      let a := advance 0 s; let n := 0; let k := 4;
      let se := ({ role := .mgr, subs := [(4, { addr := addrOf 0x010011 0, mode := 0, minNs := 0, periodNs := 50000000, deadband := 0, held := some 0, seen := curBytes wRun 0x010011 0 })] } : Sess);
      let x := ({ addr := addrOf 0x010011 0, mode := 0, minNs := 0, periodNs := 50000000, deadband := 0, held := some 0, seen := curBytes wRun 0x010011 0 } : Sub);
      (jalynUp a = true) ∧ (sessOf a n = some se) ∧ (tabGet se.subs k = some x) ∧ (dueBy a x.held = true) ∧ (x.merged = false) ∧
      (x.seen = curBytes a (obAddr x.addr) x.addr.sub)) ∧
    (let s := { wRun with now := 0, jal := { wRun.jal with sess := [(0, { role := .mgr, doneQ := [(7, addrOf 0x480032 0, 0, [])] }), (1, { role := .sec })] } };
      let a := advance 0 s; let n := 0; let reqId := 7; let se := ({ role := .mgr, doneQ := [(7, addrOf 0x480032 0, 0, [])] } : Sess);
      let r := 7; let ad := addrOf 0x480032 0; let st := 0; let bs := ([] : List Byte); (sessOf a n = some se) ∧
      ((se.doneQ.find? fun x => x.1 == reqId) = some (r, ad, st, bs)) ∧ (se.nq.length < 254)) ∧
    (let s := { wRun with now := 0, jal := { wRun.jal with sess := [(0, { role := .mgr, doneQ := [(7, addrOf 0x480032 0, 0, [])], nq := List.replicate 255 { kind := 0, seq := 1 } }), (1, { role := .sec })] } };
      let a := advance 0 s; let n := 0; let reqId := 7;
      let se := ({ role := .mgr, doneQ := [(7, addrOf 0x480032 0, 0, [])], nq := List.replicate 255 { kind := 0, seq := 1 } } : Sess);
      let r := 7; let ad := addrOf 0x480032 0; let st := 0; let bs := ([] : List Byte); (sessOf a n = some se) ∧
      ((se.doneQ.find? fun x => x.1 == reqId) = some (r, ad, st, bs)) ∧ (255 ≤ se.nq.length)) ∧
    (let s := { wRun with now := 0, jal := { wRun.jal with sess := [(0, { role := .mgr, lost := 3, lostFirst := 5, lostLast := 9 }), (1, { role := .sec })] } };
      let a := advance 0 s; let n := 0; let se := ({ role := .mgr, lost := 3, lostFirst := 5, lostLast := 9 } : Sess); (jalynUp a =
      true) ∧ (sessOf a n = some se) ∧ (0 < se.lost) ∧ (se.nq.length < 255)) := by
  decide +kernel
theorem wit_NotificationsAreDelivered_3 :
    (let s := { wRun with now := 0, jal := { wRun.jal with sess := [(0, { role := .mgr }), (1, { role := .sec })] } };
      let a := advance 0 s; let n := 0; let se := ({ role := .mgr } : Sess); (jalynUp a = true) ∧ (sessOf a n = some se) ∧ (se.lost =
      0 ∨ 255 ≤ se.nq.length)) := by
  decide +kernel

theorem wit_RelayAndGateway :
    (let s := wPair; let a := advance 0 s; let bytes := ([1, 2] : List Byte); (a.ident.optP = true) ∧ (a.pair.link = true) ∧
      (running a = true)) ∧
    (let s := wPair; let a := advance 0 s; let bytes := ([1, 2] : List Byte); (a.ident.optP = true) ∧ (a.pair.link = true) ∧
      (running a = true) ∧ (pairOn a = true) ∧ ((lanesUp a).isEmpty = false)) ∧
    (let s := wRun; let a := advance 0 s; let w := false; let bytes := ([1, 2] : List Byte); (a.ident.optP = false ∨ a.pair.link =
      false ∨ running a = false)) ∧
    (let s := { (((wRing 2 3 {}).put 0x340100 5 0 [.n 1, .n 0, .n 65, .n 2, .n 5, .n 255, .n 255, .n 1000]).put 0x340100 6 0 [.n 1, .n 65, .n 0, .n 6, .n 3, .n 255, .n 255, .n 1000]) with now := 0, ph := { chans := [(5, { q := [({ code := 0x0801, len := 4, words := [BitVec.ofNat 32 (gwWord1 { sess := 0, seq := 4, idx := 0, role := 4, op := 1, addr := ⟨0x80, 1, 0⟩, typ := 0, bytes := [], due := some 5, posted := true }), BitVec.ofNat 32 (gwWord2 { sess := 0, seq := 4, idx := 0, role := 4, op := 1, addr := ⟨0x80, 1, 0⟩, typ := 0, bytes := [], due := some 5, posted := true }), 0x00040004, 1] } : Msg)] })] }, jal := { (((wRing 2 3 {}).put 0x340100 5 0 [.n 1, .n 0, .n 65, .n 2, .n 5, .n 255, .n 255, .n 1000]).put 0x340100 6 0 [.n 1, .n 65, .n 0, .n 6, .n 3, .n 255, .n 255, .n 1000]).jal with gw := [(0, [{ sess := 0, seq := 4, idx := 0, role := 4, op := 1, addr := ⟨0x80, 1, 0⟩, typ := 0, bytes := [], due := some 5, posted := true }])], sess := [(0, { role := .mgr, resps := [{ seq := 4, reqId := 7, op := 2, entries := [⟨0xFFFF, 0, 0, []⟩], wait := [0] }] }), (1, { role := .sec })] } };
      let a := advance 0 s; let p := 0; let code := 0; let len := 0; let ws := ([] : List Word); let c := 5;
      let m := ({ code := 0x0801, len := 4, words := [BitVec.ofNat 32 (gwWord1 { sess := 0, seq := 4, idx := 0, role := 4, op := 1, addr := ⟨0x80, 1, 0⟩, typ := 0, bytes := [], due := some 5, posted := true }), BitVec.ofNat 32 (gwWord2 { sess := 0, seq := 4, idx := 0, role := 4, op := 1, addr := ⟨0x80, 1, 0⟩, typ := 0, bytes := [], due := some 5, posted := true }), 0x00040004, 1] } : Msg);
      let rest := ([] : List Msg);
      let g := ({ sess := 0, seq := 4, idx := 0, role := 4, op := 1, addr := ⟨0x80, 1, 0⟩, typ := 0, bytes := [], due := some 5, posted := true } : GwReq);
      let st := 0; let typ := 4; let bs := ([1, 0, 0, 0] : List Byte);
      let se := ({ role := .mgr, resps := [{ seq := 4, reqId := 7, op := 2, entries := [⟨0xFFFF, 0, 0, []⟩], wait := [0] }] } : Sess);
      let x := ({ seq := 4, reqId := 7, op := 2, entries := [⟨0xFFFF, 0, 0, []⟩], wait := [0] } : Resp); (hubLive a = true) ∧
      (fabricUp a = true) ∧ (gwChan a p false = some c) ∧ ((chanOf a c).q = m :: rest) ∧ (gwQ a p = [g]) ∧ ((a.jal.gwLate.find? fun y =>
      y.1 == p && (gwReply m y.2).isSome) = none) ∧ (gwReply m g = some (st, typ, bs)) ∧ (dueBy a g.due = false) ∧ (sessOf a g.sess =
      some se) ∧ ((se.resps.find? fun r => r.seq == g.seq && r.wait.contains g.idx) = some x) ∧ (x.wait = [g.idx]) ∧ (x.entries.length =
      1) ∧ (g.idx = 0)) := by
  decide +kernel
theorem wit_RelayAndGateway_2 :
    (let s := { (((wRing 2 3 {}).put 0x340100 5 0 [.n 1, .n 0, .n 65, .n 2, .n 5, .n 255, .n 255, .n 1000]).put 0x340100 6 0 [.n 1, .n 65, .n 0, .n 6, .n 3, .n 255, .n 255, .n 1000]) with now := 0, ph := { chans := [(5, { q := [] })] }, jal := { (((wRing 2 3 {}).put 0x340100 5 0 [.n 1, .n 0, .n 65, .n 2, .n 5, .n 255, .n 255, .n 1000]).put 0x340100 6 0 [.n 1, .n 65, .n 0, .n 6, .n 3, .n 255, .n 255, .n 1000]).jal with gw := [(0, [{ sess := 0, seq := 4, idx := 0, role := 4, op := 1, addr := ⟨0x80, 1, 0⟩, typ := 0, bytes := [], due := some 5, posted := true }])], sess := [(0, { role := .mgr, resps := [{ seq := 4, reqId := 7, op := 2, entries := [⟨0xFFFF, 0, 0, []⟩], wait := [0] }] }), (1, { role := .sec })] } };
      let a := advance 0 s; let p := 0; let code := 0x0801; let len := 4;
      let ws := ([BitVec.ofNat 32 (gwWord1 { sess := 0, seq := 4, idx := 0, role := 4, op := 1, addr := ⟨0x80, 1, 0⟩, typ := 0, bytes := [], due := some 5, posted := true }),
      BitVec.ofNat 32 (gwWord2 { sess := 0, seq := 4, idx := 0, role := 4, op := 1, addr := ⟨0x80, 1, 0⟩, typ := 0, bytes := [], due := some 5, posted := true }),
      0x00040004, 1] : List Word); let c := 5;
      let m := (replyMsg { (((wRing 2 3 {}).put 0x340100 5 0 [.n 1, .n 0, .n 65, .n 2, .n 5, .n 255, .n 255, .n 1000]).put 0x340100 6 0 [.n 1, .n 65, .n 0, .n 6, .n 3, .n 255, .n 255, .n 1000]) with now := 0, ph := { chans := [(5, { q := [] })] }, jal := { (((wRing 2 3 {}).put 0x340100 5 0 [.n 1, .n 0, .n 65, .n 2, .n 5, .n 255, .n 255, .n 1000]).put 0x340100 6 0 [.n 1, .n 65, .n 0, .n 6, .n 3, .n 255, .n 255, .n 1000]).jal with gw := [(0, [{ sess := 0, seq := 4, idx := 0, role := 4, op := 1, addr := ⟨0x80, 1, 0⟩, typ := 0, bytes := [], due := some 5, posted := true }])], sess := [(0, { role := .mgr, resps := [{ seq := 4, reqId := 7, op := 2, entries := [⟨0xFFFF, 0, 0, []⟩], wait := [0] }] }), (1, { role := .sec })] } } 0x0801 4 [BitVec.ofNat 32 (gwWord1 { sess := 0, seq := 4, idx := 0, role := 4, op := 1, addr := ⟨0x80, 1, 0⟩, typ := 0, bytes := [], due := some 5, posted := true }),
      BitVec.ofNat 32 (gwWord2 { sess := 0, seq := 4, idx := 0, role := 4, op := 1, addr := ⟨0x80, 1, 0⟩, typ := 0, bytes := [], due := some 5, posted := true }),
      0x00040004, 1]);
      let g := ({ sess := 0, seq := 4, idx := 0, role := 4, op := 1, addr := ⟨0x80, 1, 0⟩, typ := 0, bytes := [], due := some 5, posted := true } : GwReq);
      let st := 0; let typ := 4; let bs := ([1, 0, 0, 0] : List Byte);
      let se := ({ role := .mgr, resps := [{ seq := 4, reqId := 7, op := 2, entries := [⟨0xFFFF, 0, 0, []⟩], wait := [0] }] } : Sess);
      let x := ({ seq := 4, reqId := 7, op := 2, entries := [⟨0xFFFF, 0, 0, []⟩], wait := [0] } : Resp); (hubLive a = true) ∧
      (fabricUp a = true) ∧ (gwChan a p false = some c) ∧ ((chanOf a c).q = []) ∧ (postCheck a p (some c) = 0) ∧
      (replyMsg a code len ws = m) ∧ (gwQ a p = [g]) ∧ ((a.jal.gwLate.find? fun y => y.1 == p && (gwReply m y.2).isSome) = none) ∧
      (gwReply m g = some (st, typ, bs)) ∧ (dueBy a g.due = false) ∧ (sessOf a g.sess = some se) ∧ ((se.resps.find? fun r => r.seq ==
      g.seq && r.wait.contains g.idx) = some x) ∧ (x.wait = [g.idx]) ∧ (x.entries.length = 1) ∧ (g.idx = 0)) ∧
    (let s := { (((wRing 2 3 {}).put 0x340100 5 0 [.n 1, .n 0, .n 65, .n 2, .n 5, .n 255, .n 255, .n 1000]).put 0x340100 6 0 [.n 1, .n 65, .n 0, .n 6, .n 3, .n 255, .n 255, .n 1000]) with now := 0, ph := { chans := [(5, { q := [({ code := 0x0802, len := 4, words := [BitVec.ofNat 32 (gwWord1 { sess := 0, seq := 4, idx := 0, role := 4, op := 1, addr := ⟨0x80, 1, 0⟩, typ := 0, bytes := [], due := some 5, posted := true }), BitVec.ofNat 32 (gwWord2 { sess := 0, seq := 4, idx := 0, role := 4, op := 1, addr := ⟨0x80, 1, 0⟩, typ := 0, bytes := [], due := some 5, posted := true }), 0x00040004, 1] } : Msg)] })] }, jal := { (((wRing 2 3 {}).put 0x340100 5 0 [.n 1, .n 0, .n 65, .n 2, .n 5, .n 255, .n 255, .n 1000]).put 0x340100 6 0 [.n 1, .n 65, .n 0, .n 6, .n 3, .n 255, .n 255, .n 1000]).jal with gw := [(0, [{ sess := 0, seq := 4, idx := 0, role := 4, op := 1, addr := ⟨0x80, 1, 0⟩, typ := 0, bytes := [], due := some 5, posted := true }])], sess := [(0, { role := .mgr, resps := [{ seq := 4, reqId := 7, op := 2, entries := [⟨0xFFFF, 0, 0, []⟩], wait := [0] }] }), (1, { role := .sec })] } };
      let a := advance 0 s; let p := 0; let code := 0; let len := 0; let ws := ([] : List Word); let c := 5;
      let m := ({ code := 0x0802, len := 4, words := [BitVec.ofNat 32 (gwWord1 { sess := 0, seq := 4, idx := 0, role := 4, op := 1, addr := ⟨0x80, 1, 0⟩, typ := 0, bytes := [], due := some 5, posted := true }), BitVec.ofNat 32 (gwWord2 { sess := 0, seq := 4, idx := 0, role := 4, op := 1, addr := ⟨0x80, 1, 0⟩, typ := 0, bytes := [], due := some 5, posted := true }), 0x00040004, 1] } : Msg);
      let rest := ([] : List Msg);
      let g := ({ sess := 0, seq := 4, idx := 0, role := 4, op := 1, addr := ⟨0x80, 1, 0⟩, typ := 0, bytes := [], due := some 5, posted := true } : GwReq);
      (hubLive a = true) ∧ (fabricUp a = true) ∧ (gwChan a p false = some c) ∧ ((chanOf (replyIn a c p code len ws) c).q = m :: rest) ∧
      (gwQ a p = [g]) ∧ (gwReply m g = none ∨ dueBy a g.due = true)) ∧
    (let s := { (((wRing 2 3 {}).put 0x340100 5 0 [.n 1, .n 0, .n 65, .n 2, .n 5, .n 255, .n 255, .n 1000]).put 0x340100 6 0 [.n 1, .n 65, .n 0, .n 6, .n 3, .n 255, .n 255, .n 1000]) with now := 0, ph := { chans := [(5, { q := [({ code := 0x0801, len := 4, words := [BitVec.ofNat 32 (gwWord1 { sess := 0, seq := 4, idx := 0, role := 4, op := 1, addr := ⟨0x80, 1, 0⟩, typ := 0, bytes := [], due := some 5, posted := true }), BitVec.ofNat 32 (gwWord2 { sess := 0, seq := 4, idx := 0, role := 4, op := 1, addr := ⟨0x80, 1, 0⟩, typ := 0, bytes := [], due := some 5, posted := true }), 0x00040004, 1] } : Msg)] })] }, jal := { (((wRing 2 3 {}).put 0x340100 5 0 [.n 1, .n 0, .n 65, .n 2, .n 5, .n 255, .n 255, .n 1000]).put 0x340100 6 0 [.n 1, .n 65, .n 0, .n 6, .n 3, .n 255, .n 255, .n 1000]).jal with gwLate := [(0, { sess := 0, seq := 4, idx := 0, role := 4, op := 1, addr := ⟨0x80, 1, 0⟩, typ := 0, bytes := [], due := some 5, posted := true })], gw := [(0, [{ sess := 0, seq := 4, idx := 0, role := 4, op := 1, addr := ⟨0x80, 1, 0⟩, typ := 0, bytes := [], due := some 5, posted := true }])], sess := [(0, { role := .mgr, resps := [{ seq := 4, reqId := 7, op := 2, entries := [⟨0xFFFF, 0, 0, []⟩], wait := [0] }] }), (1, { role := .sec })] } };
      let a := advance 0 s; let p := 0; let code := 0; let len := 0; let ws := ([] : List Word); let c := 5;
      let m := ({ code := 0x0801, len := 4, words := [BitVec.ofNat 32 (gwWord1 { sess := 0, seq := 4, idx := 0, role := 4, op := 1, addr := ⟨0x80, 1, 0⟩, typ := 0, bytes := [], due := some 5, posted := true }), BitVec.ofNat 32 (gwWord2 { sess := 0, seq := 4, idx := 0, role := 4, op := 1, addr := ⟨0x80, 1, 0⟩, typ := 0, bytes := [], due := some 5, posted := true }), 0x00040004, 1] } : Msg);
      let rest := ([] : List Msg); let z := ((0,
      { sess := 0, seq := 4, idx := 0, role := 4, op := 1, addr := ⟨0x80, 1, 0⟩, typ := 0, bytes := [], due := some 5, posted := true }) : Nat × GwReq);
      (hubLive a = true) ∧ (fabricUp a = true) ∧ (gwChan a p false = some c) ∧ ((chanOf a c).q = m :: rest) ∧
      ((a.jal.gwLate.find? fun y => y.1 == p && (gwReply m y.2).isSome) = some z)) ∧
    (let s := { (((wRing 2 3 {}).put 0x340100 5 0 [.n 1, .n 0, .n 65, .n 2, .n 5, .n 255, .n 255, .n 1000]).put 0x340100 6 0 [.n 1, .n 65, .n 0, .n 6, .n 3, .n 255, .n 255, .n 1000]) with now := 5, ph := { chans := [(5, { q := [({ code := 0x0801, len := 4, words := [BitVec.ofNat 32 (gwWord1 { sess := 0, seq := 4, idx := 0, role := 4, op := 1, addr := ⟨0x80, 1, 0⟩, typ := 0, bytes := [], due := some 5, posted := true }), BitVec.ofNat 32 (gwWord2 { sess := 0, seq := 4, idx := 0, role := 4, op := 1, addr := ⟨0x80, 1, 0⟩, typ := 0, bytes := [], due := some 5, posted := true }), 0x00040004, 1] } : Msg)] })] }, jal := { (((wRing 2 3 {}).put 0x340100 5 0 [.n 1, .n 0, .n 65, .n 2, .n 5, .n 255, .n 255, .n 1000]).put 0x340100 6 0 [.n 1, .n 65, .n 0, .n 6, .n 3, .n 255, .n 255, .n 1000]).jal with gw := [(0, [{ sess := 0, seq := 4, idx := 0, role := 4, op := 1, addr := ⟨0x80, 1, 0⟩, typ := 0, bytes := [], due := some 5, posted := true }])], sess := [(0, { role := .mgr, resps := [{ seq := 4, reqId := 7, op := 2, entries := [⟨0xFFFF, 0, 0, []⟩], wait := [0] }] }), (1, { role := .sec })] } };
      let a := advance 0 s; let p := 0;
      let g := ({ sess := 0, seq := 4, idx := 0, role := 4, op := 1, addr := ⟨0x80, 1, 0⟩, typ := 0, bytes := [], due := some 5, posted := true } : GwReq);
      let se := ({ role := .mgr, resps := [{ seq := 4, reqId := 7, op := 2, entries := [⟨0xFFFF, 0, 0, []⟩], wait := [0] }] } : Sess);
      let x := ({ seq := 4, reqId := 7, op := 2, entries := [⟨0xFFFF, 0, 0, []⟩], wait := [0] } : Resp); (hubLive a = true) ∧ (gwQ a p =
      [g]) ∧ (dueBy a g.due = true) ∧ (sessOf a g.sess = some se) ∧ ((se.resps.find? fun r => r.seq == g.seq && r.wait.contains g.idx) =
      some x) ∧ (x.wait = [g.idx]) ∧ (x.entries.length = 1) ∧ (g.idx = 0)) := by
  decide +kernel

theorem wit_AHubResetWithoutPowerFailSequence :
    (let s := { wRun with hw := { vinGood := true } }; let a := advance 0 s; (a.hw.vinGood = true) ∧ (curVal a 0x600102 0 =
      [.n 0])) := by
  decide +kernel

theorem wit_RingRegistersOfAnotherOwner :
    (let s := wRun; let a := advance 0 s; ownsRing a 3 255 = false) ∧
    (let s := wRun; let a := advance 0 s; let p := 3; let core := 2; let q := 255; let i := 3; let w := (7 : Word); (q < 256) ∧
      (i < 4) ∧ (ownsRing a p q = false)) ∧
    (let s := wRun; let a := advance 0 s; let p := 3; let q := 255; let w := (7 : Word); let es := ([] : List Entry); (ownsRing a p q =
      false)) ∧
    (let s := wRun; let a := advance 0 s; let p := 3; let q := 0; let w := (7 : Word); (ownsRing a p q = false)) := by
  decide +kernel

theorem wit_AStepRunsTheFrontCommand :
    State.reset.pending = [] ∧ jalynUp State.reset = false ∧ wRun.pending = [] ∧ wRun.jal.out = [] ∧
      (wRun.jal.sess.all fun x => x.2.out == [] && x.2.rest == none && x.2.held == [] && x.2.left == none) = true := by
  decide +kernel

theorem wit_MemoryKeepsItsForm : Inv { State.reset with pending := [.supplyGood 1] } ∧
    ∃ t, step { State.reset with pending := [.supplyGood 1] } = .next t :=
  ⟨rfl, _, rfl⟩

theorem wit_NothingIsTakenBack : ∃ t, exec (.supplyGood 1) State.reset = .next t := ⟨_, rfl⟩

theorem wit_ValuesDecodeAsEncoded :
    valOk (.record [.i16, .str 4, .f64]) [.i (-32768), .o [0xC3, 0xA9], .n 18446744073709551615] = true ∧ 1 ≠ typCode .none ∧
    ftVar .dur = false ∧ ([1, 2, 3] : List Byte).length ≠ ftLen .dur := by
  decide +kernel

theorem wit_ResetShowsTheDefaults : ∃ d ∈ areaDict 0x20, d.acc ≠ .cmd ∧ d.acc ≠ .wo ∧ isTable d.typ = false := by decide +kernel

end Sys2Proof.Tests
end

section
/-! PROOF. A session's command from what its effect does: the state it runs on differs from the one before in its session's entry alone. -/
namespace Sys2Proof.Machine

/-- The state a command that may run begins from differs from the state before it in its session's entry. -/
theorem began_of_cmdRuns {s : State} {rq : Req} {ob sub : Nat} {arg : Val} (h : cmdRuns s rq ob sub arg = true) :
    ∃ x, began s rq = setSess s rq.sess x := by
  obtain ⟨se, k⟩ := Option.isSome_iff_exists.1 (sess_of_cmdRuns h)
  exact ⟨_, began_eq k⟩

/-- What a command's effect has to be for the command to complete with `eff`: it does not stay pending, keeps its session, changes the
listed components alone, and `eff` holds of every state that has its components and its answer. -/
structure Completes (a : State) (rq : Req) (but : List Comp) (eff : State → Prop) (r : Res) : Prop where
  status : r.status ≠ pendingS
  sess : (sessOf r.s rq.sess).isSome = true
  jal : Comp.jal ∉ but → jalBut a r.s
  frame : agree (.jal :: but) a r.s
  effect : ∀ t, (∀ c : Comp, c ≠ .jal → c.same r.s t) → answered t rq r.status = true → eff t

/-- A command that may run completes with its effect, whatever its session's entry becomes when it begins. -/
theorem does_completes {i : Instr} {s a : State} {rq : Req} {ob sub : Nat} {op : State → Res} {arg : Val} {but : List Comp}
    {eff : State → Prop} (hx : exec i s = done (doExec a rq ob sub op arg)) (h : cmdRuns a rq ob sub arg = true)
    (hp : ∀ x, Completes a rq but eff (op (setSess a rq.sess x))) : Does i s a but eff := by
  obtain ⟨x, hb⟩ := began_of_cmdRuns h
  obtain ⟨hs, hse, hj, hk, he⟩ := hp x
  rw [← hb] at hs hse hj hk he
  refine does_cmd hx h hs hj hk (he _ (fun c hc => ?_) (by rw [answered_settle, answered_answer _ _ _ hse]))
  have h1 := same_answer c hc rq 4 (op (began a rq))
  have h2 := same_settle c hc (answer rq 4 (op (began a rq)))
  cases c <;> first | exact absurd rfl hc | exact Eq.trans h2 h1

end Sys2Proof.Machine
end

section
/-! PROOF. The counters-reset commands (R30, R31). -/
namespace Sys2Proof.Machine

/-- A table filtered by its keys reads what it read at a key that passes, and nothing at any other. -/
theorem tabGet_filter_keys {α : Type} (t : Tab α) (f : Nat → Bool) (k : Nat) :
    tabGet (t.filter fun (j, _) => f j) k = if f k then tabGet t k else none := by
  induction t with
  | nil => simp
  | cons c r ih =>
    obtain ⟨i, a⟩ := c
    by_cases h : i = k
    · subst h
      by_cases hf : f i = true <;> simp_all [tabGet]
    · by_cases hf : f i = true <;> simp_all [tabGet]

/-- The object of a counter's key. -/
theorem okey_obj {ob sub : Nat} (h : sub < 65536) : okey ob sub 0 / 4294967296 = ob := by
  unfold okey
  omega

/-- The SUB of a counter's key. -/
theorem okey_sub {ob sub : Nat} (h : sub < 65536) : okey ob sub 0 / 65536 % 65536 = sub := by
  unfold okey
  omega

/-- A range of objects cleared: the counters of the chosen SUB, or of all, are zero, every other counter is kept. -/
theorem cleared_clearCtrs (s : State) (lo hi : Nat) (only : Option Nat) :
    cleared s (clearCtrs s lo hi only) fun ob sub => decide (lo ≤ ob) && decide (ob ≤ hi) && (only == none || only == some sub) := by
  intro ob sub h
  simp only [clearCtrs, tabGetD]
  rw [tabGet_filter_keys s.ctrs fun k =>
    !(decide (lo ≤ k / 4294967296) && decide (k / 4294967296 ≤ hi) && (only == none || only == some (k / 65536 % 65536)))]
  rw [okey_obj h, okey_sub h]
  by_cases hp : (decide (lo ≤ ob) && decide (ob ≤ hi) && (only == none || only == some sub)) = true
  · simp only [hp, Bool.not_true, Bool.false_eq_true, if_false, if_true, Option.getD_none]
  · simp only [hp, Bool.not_false, if_true, Bool.false_eq_true, if_false]

/-- A change of the state clears the counters a test picks out, and does nothing else. -/
structure Clears (f : State → State) (pick : Nat → Nat → Bool) : Prop where
  same : ∀ u (c : Comp), c ≠ .ctrs → c.same u (f u)
  cleared : ∀ u, cleared u (f u) pick

theorem clears_clearCtrs (lo hi : Nat) (only : Option Nat) : Clears (fun u => clearCtrs u lo hi only) fun ob sub =>
    decide (lo ≤ ob) && decide (ob ≤ hi) && (only == none || only == some sub) where
  same u c h := by cases c <;> first | exact absurd rfl h | rfl
  cleared u := cleared_clearCtrs u lo hi only

/-- A range of objects cleared for every SUB. -/
theorem clears_all (lo hi : Nat) : Clears (fun u => clearCtrs u lo hi none) fun ob _ => decide (lo ≤ ob) && decide (ob ≤ hi) := by
  simpa using clears_clearCtrs lo hi none

/-- A range of objects cleared for one SUB. -/
theorem clears_inst (lo hi n : Nat) :
    Clears (fun u => clearCtrs u lo hi (some n)) fun ob sub => decide (lo ≤ ob) && decide (ob ≤ hi) && sub == n := by
  simpa [eq_comm, Bool.beq_eq_decide_eq] using clears_clearCtrs lo hi (some n)

/-- Two clearings one after the other clear what either picks. -/
theorem Clears.or {f g : State → State} {p q : Nat → Nat → Bool} (hf : Clears f p) (hg : Clears g q) :
    Clears (fun u => g (f u)) fun ob sub => p ob sub || q ob sub where
  same u c h := by
    have h1 := hf.same u c h
    have h2 := hg.same (f u) c h
    cases c <;> exact Eq.trans h2 h1
  cleared u ob sub hs := by
    rw [hg.cleared (f u) ob sub hs, hf.cleared u ob sub hs]
    by_cases hp : p ob sub = true <;> simp [hp]

/-- A command whose effect is cleared counters completes: its session has the answer OK, and no other counter changes. -/
theorem does_clear {i : Instr} {s a : State} {rq : Req} {ob sub : Nat} {f : State → State} {arg : Val} {pick : Nat → Nat → Bool}
    (hf : Clears f pick) (h : cmdRuns a rq ob sub arg = true) (hx : exec i s = done (doExec a rq ob sub (fun u => good (f u)) arg)) :
    Does i s a [.ctrs] fun t => answered t rq okS = true ∧ cleared a t pick := by
  refine does_completes hx h fun x => ?_
  have hj : (f (setSess a rq.sess x)).jal = (setSess a rq.sess x).jal := hf.same _ .jal (by decide)
  refine ⟨show okS ≠ pendingS by decide, ?_, fun _ => ?_, fun c hm => ?_, fun t ht ha => ⟨ha, fun ob sub hs => ?_⟩⟩
  · simp only [good, sessOf, hj]
    exact congrArg Option.isSome (sessOf_setSess a rq.sess x)
  · simp only [jalBut, good, hj]
    rfl
  · have := hf.same (setSess a rq.sess x) c
    cases c <;> simp_all [Comp.same, good]
  · rw [show t.ctrs = _ from ht .ctrs (by decide)]
    exact hf.cleared (setSess a rq.sess x) ob sub hs

/-- PATH_RESET clears the path's counter and its maxima. -/
theorem completes_pathReset (a : State) (rq : Req) (x : Sess) : Completes a rq [.ctrs, .boot] (fun t => answered t rq okS = true ∧
    t.boot = { a.boot with pathClose := 0, pathWire := 0, pathStage := 0 } ∧
    cleared a t fun ob _ => decide (0x600202 ≤ ob) && decide (ob ≤ 0x600202)) (opPathReset (setSess a rq.sess x)) where
  status := show okS ≠ pendingS by decide
  sess := congrArg Option.isSome (sessOf_setSess a rq.sess x)
  jal _ := jalBut_setSess a rq.sess x
  frame c hc := by cases c <;> simp_all [Comp.same, opPathReset, good]
  effect t ht ha := ⟨ha, ht .boot (by decide), fun ob sub hs => by
    rw [show t.ctrs = _ from ht .ctrs (by decide)]
    exact (clears_all 0x600202 0x600202).cleared (setSess a rq.sess x) ob sub hs⟩

end Sys2Proof.Machine

open Sys2Proof Sys2Proof.Machine

/-- Settles O42: each command's effect is the clearing of one, two or three ranges of objects. -/
theorem counterResetsClearTheirCounters : Obligations.CounterResetsClearTheirCounters := by
  intro dt s a
  refine ⟨fun rq port h => ?port, fun rq group h => ?group, fun rq h => ?time, fun rq entry h => ?stream, fun rq h => ?svPort,
    fun rq h => ?plan, fun rq h => ?cond, fun rq h => ?go, fun rq h => ?os, fun rq h => ?gsub, fun rq h => ?tt, fun rq h => ?ph,
    fun rq h => ?logic, fun rq h => ?pair, fun rq h => ?pf, fun rq h => ?log, fun rq h => ?capture, fun rq h => ?path⟩
  case port | group | stream => exact does_clear (clears_inst _ _ _) h rfl
  case time | svPort | plan | go | os | ph | log | capture => exact does_clear (clears_all _ _) h rfl
  case cond | gsub | logic | pf => exact does_clear ((clears_all _ _).or (clears_all _ _)) h rfl
  case tt | pair => exact does_clear (((clears_all _ _).or (clears_all _ _)).or (clears_all _ _)) h rfl
  case path => exact does_completes rfl h (completes_pathReset a rq)
end

section
/-! PROOF. A unit whose internal check fails (R88): for sub 18, the Prefect, more than the roll call and the logbook changes. -/

open Sys2Proof Sys2Proof.Machine

namespace Sys2Proof.Machine

/-- A running hub whose unit 18, the Prefect, is READY and blocks nothing. -/
def prefectReady : State := { boot := { phase := .run, roll := [(18, { st := .ready })] } }

/-- Does a command's next state block egress. -/
def blocksNext (i : Instr) (s : State) : Bool :=
  match exec i s with
  | .next t => t.pf.blocked
  | _ => false

/-- The failed check of the Prefect's unit is a fatal error: it blocks egress at once. -/
theorem internalCheckFail_prefect_blocks : blocksNext (.internalCheckFail 0 18) prefectReady = true := by decide +kernel

/-- Egress stays as it was when a command that completes leaves the Prefect's component alone. -/
theorem blocksNext_of_does {i : Instr} {s a : State} {but : List Comp} {eff : State → Prop} (h : Does i s a but eff)
    (hp : Comp.pf ∉ Comp.jal :: but) : blocksNext i s = a.pf.blocked := by
  obtain ⟨t, hx, ⟨-, hk⟩, -⟩ := h
  simp only [blocksNext, hx]
  exact congrArg Pf.blocked (hk .pf hp)

end Sys2Proof.Machine

/-- Refutes O18: INTERNAL_CHECK_FAIL of unit 18, the Prefect, raises a fatal error and blocks egress, so it changes more than the
roll call and the logbook, the only components its clause lets change. -/
theorem not_unitsAndDies : ¬ Obligations.UnitsAndDies := by
  unfold Obligations.UnitsAndDies
  intro h
  obtain ⟨-, -, -, -, -, hfail, -⟩ := h 0 prefectReady
  have hd := hfail 18 (by decide +kernel) (by decide +kernel) (by decide)
  exact absurd ((blocksNext_of_does hd (by decide)).symm.trans internalCheckFail_prefect_blocks) (by decide +kernel)
end

section
/-! PROOF. Which components the shared operations leave alone: the rings and their bells, the BOLPEL bus, the logbook's intake. -/
namespace Sys2Proof.Machine

/-- A state differs from another within the listed components alone. -/
structure Within (l : List Comp) (s t : State) : Prop where
  agrees : agree l s t

theorem Within.refl (l : List Comp) (s : State) : Within l s s := ⟨fun c _ => by cases c <;> rfl⟩

theorem Within.trans {l : List Comp} {s t u : State} (h : Within l s t) (k : Within l t u) : Within l s u := by
  refine ⟨fun c hc => ?_⟩
  have h1 := h.agrees c hc
  have h2 := k.agrees c hc
  cases c <;> exact Eq.trans h2 h1

theorem Within.mono {l m : List Comp} {s t : State} (h : Within l s t) (hs : l ⊆ m) : Within m s t :=
  ⟨fun c hc => h.agrees c fun e => hc (hs e)⟩

theorem within_foldl {α : Type} {l : List Comp} {f : State → α → State} (hf : ∀ s a, Within l s (f s a)) (as : List α) (s : State) :
    Within l s (as.foldl f s) :=
  foldl_keeps (Within l) (Within.refl l) (fun _ _ _ => Within.trans) f hf as s

/-! The named updates -/

theorem within_put (s : State) (ob sub row : Nat) (v : Val) : Within [.store] s (s.put ob sub row v) :=
  ⟨fun c hc => by cases c <;> simp_all [Comp.same]⟩

theorem within_bump (s : State) (ob sub : Nat) : Within [.ctrs] s (bump s ob sub) :=
  ⟨fun c hc => by cases c <;> simp_all [Comp.same]⟩

theorem within_logRec (s : State) (code src : Nat) (data : List Int) : Within [.logb] s (logRec s code src data) :=
  ⟨fun c hc => by cases c <;> simp_all [Comp.same]⟩

theorem within_setBol (s : State) (x : Bolpel) : Within [.pair] s (setBol s x) :=
  ⟨fun c hc => by cases c <;> simp_all [Comp.same]⟩

theorem within_setDump (s : State) (k : Nat) (x : Dump) : Within [.boot] s (setDump s k x) :=
  ⟨fun c hc => by cases c <;> simp_all [Comp.same]⟩

theorem within_setTask (s : State) (j : Nat) (x : Task) : Within [.lg] s (setTask s j x) :=
  ⟨fun c hc => by cases c <;> simp_all [Comp.same]⟩

theorem within_setRetain (s : State) (p : Nat) (x : Retain) : Within [.lg] s (setRetain s p x) :=
  ⟨fun c hc => by cases c <;> simp_all [Comp.same, setRetain]⟩

theorem within_setCode (s : State) (n : Nat) (x : LogCode) : Within [.logb] s (setCode s n x) :=
  ⟨fun c hc => by cases c <;> simp_all [Comp.same, setCode]⟩

theorem within_setUnit (s : State) (n : Nat) (st : USt) : Within [.boot, .logb, .jal] s (setUnit s n st) :=
  ⟨fun c hc => by cases c <;> simp_all [Comp.same]⟩

/-! ## Rings, triggers and bells -/

/-- The components a ring's own work may change: the timetable with its rings, the bells, the counters, guest memory. -/
def Comp.ring : List Comp := [.ctrs, .tt, .ph, .mem, .dirty]

theorem within_setRing (s : State) (q : Nat) (x : Ring) : Within Comp.ring s (setRing s q x) :=
  ⟨fun c hc => by cases c <;> simp_all [Comp.same, Comp.ring]⟩

theorem within_setBell (s : State) (ep : Nat) (x : Bell) : Within Comp.ring s (setBell s ep x) :=
  ⟨fun c hc => by cases c <;> simp_all [Comp.same, Comp.ring, setBell]⟩

theorem within_ring_bump (s : State) (ob sub : Nat) : Within Comp.ring s (bump s ob sub) := (within_bump s ob sub).mono (by decide)

theorem within_makeReady (s : State) (p row : Nat) (d : ItemDesc) (src : ItemSrc) : Within Comp.ring s (makeReady s p row d src) :=
  ⟨fun c hc => by cases c <;> simp_all [Comp.same, Comp.ring, makeReady]⟩

theorem within_trigItem (s : State) (q i j row : Nat) : Within Comp.ring s (trigItem s q i j row) := by
  unfold trigItem
  dsimp only
  split
  · exact within_ring_bump ..
  · split
    · exact Within.trans (within_setRing ..) (within_makeReady ..)
    · exact Within.trans (within_setRing ..) (within_setRing ..)

theorem within_trigOne (s : State) (q row : Nat) : Within Comp.ring s (trigOne s q row) := by
  unfold trigOne
  dsimp only
  split
  · exact Within.refl ..
  · exact within_trigItem ..

theorem within_trigAdvance (s : State) (q i n row : Nat) : Within Comp.ring s (trigAdvance s q i n row) := by
  unfold trigAdvance
  split
  · exact within_setRing ..
  · split
    · exact within_foldl (fun _ _ => within_trigItem ..) _ _
    · exact within_trigOne ..

theorem within_bellItem (s : State) (p : Nat) : Within Comp.ring s (bellItem s p) := by
  unfold bellItem
  dsimp only
  split
  · exact Within.refl ..
  · split
    · exact within_ring_bump ..
    · split
      · exact Within.refl ..
      · exact Within.trans (within_setBell ..) (within_makeReady ..)

theorem within_bellRaise (s : State) (ep b : Nat) : Within Comp.ring s (bellRaise s ep b) := by
  unfold bellRaise
  split
  · exact Within.refl ..
  · exact Within.trans (within_setBell ..) (within_bellItem ..)

theorem within_handed (s : State) (q i n row : Nat) : Within Comp.ring s (handed s q i n row) := by
  unfold handed
  dsimp only
  split
  · exact Within.trans (within_bellRaise ..) (within_trigAdvance ..)
  · exact within_trigAdvance ..

theorem within_slotWrite (s : State) (q k : Nat) (e : Entry) : Within Comp.ring s (slotWrite s q k e) := by
  unfold slotWrite
  split
  · exact ⟨fun c hc => by cases c <;> simp_all [Comp.same, Comp.ring, memWrite]⟩
  · exact Within.refl ..

theorem within_ringPost (s : State) (q : Nat) (e : Entry) (row : Nat) : Within Comp.ring s (ringPost s q e row) := by
  unfold ringPost
  exact Within.trans (within_slotWrite ..) (Within.trans (within_setRing ..) (within_handed ..))

theorem within_complete (s : State) (q : Nat) (e : Entry) (row : Nat) : Within Comp.ring s (complete s q e row) := by
  unfold complete
  exact Within.trans (within_setRing ..) (within_ringPost ..)

theorem within_ringDone (s : State) (q n row : Nat) : Within Comp.ring s (ringDone s q n row) := by
  unfold ringDone
  exact Within.trans (within_setRing ..) (within_handed ..)

theorem within_sweepDone (n : Nat) (s : State) (q : Nat) : Within Comp.ring s (sweepDone n s q) := by
  induction n generalizing s with
  | zero => exact Within.refl ..
  | succ n ih =>
    unfold sweepDone
    dsimp only
    split
    · exact Within.refl ..
    · split
      · split
        · exact Within.trans (within_ringDone ..) (ih _)
        · exact Within.refl ..
      · exact Within.refl ..

theorem within_entryDone (s : State) (q i : Nat) (e : Entry) : Within Comp.ring s (entryDone s q i e) := by
  unfold entryDone
  refine Within.trans (within_setRing s q (putSlot (ringOf s q) (slotOf s q i) e)) (Within.trans ?_ (within_sweepDone ..))
  split
  · split
    · exact Within.trans (within_setRing ..) (within_complete ..)
    · exact Within.refl ..
  · exact within_slotWrite ..

/-! ## The BOLPEL bus -/

theorem within_bolDone (s : State) (c : BolCmd) (status readback : Nat) : Within Comp.ring s (bolDone s c status readback) := by
  unfold bolDone
  split
  · exact Within.refl ..
  · split
    · exact within_entryDone ..
    · exact Within.refl ..

theorem within_bolStop (s : State) : Within (.pair :: Comp.ring) s (bolStop s) := by
  unfold bolStop
  exact Within.trans ((within_setBol ..).mono (by decide))
    (within_foldl (fun _ _ => (within_bolDone ..).mono (by decide)) _ _)

/-- The Prefect's block stops the outputs and the BOLPEL bus, and changes nothing else. -/
theorem within_blockAll (s : State) : Within (.pf :: .pair :: Comp.ring) s (blockAll s) := by
  unfold blockAll
  refine Within.trans (t := { s with pf := { s.pf with blocked := true, beaconsOff := true, bolpelOff := true } }) ?_
    ((within_bolStop ..).mono (by decide))
  exact ⟨fun c hc => by cases c <;> simp_all [Comp.same]⟩

theorem blockAll_pf (s : State) : (blockAll s).pf = { s.pf with blocked := true, beaconsOff := true, bolpelOff := true } :=
  (within_bolStop _).agrees .pf (by decide)

/-! ## The logbook's intake -/

/-- The components the logbook's own work may change. -/
def Comp.log : List Comp := [.ctrs, .logb]

theorem within_log_bump (s : State) (ob sub : Nat) : Within Comp.log s (bump s ob sub) := (within_bump s ob sub).mono (by decide)

theorem within_log_setCode (s : State) (n : Nat) (x : LogCode) : Within Comp.log s (setCode s n x) :=
  (within_setCode s n x).mono (by decide)

/-- A change of the logbook alone. -/
theorem within_withLogb (s : State) (b : Logb) : Within Comp.log s { s with logb := b } :=
  ⟨fun c hc => by cases c <;> simp_all [Comp.same, Comp.log]⟩

theorem within_logCap (s : State) : Within Comp.log s (logCap s) := by
  unfold logCap
  dsimp only
  split
  · exact Within.refl ..
  · split
    · exact within_withLogb ..
    · exact Within.refl ..

theorem within_logSpace (s : State) : Within Comp.log s (logSpace s) := by
  unfold logSpace
  split
  · exact Within.refl ..
  · split
    · exact Within.trans (within_withLogb ..) (within_log_bump ..)
    · exact Within.refl ..

theorem within_logWrite (s : State) (code src : Nat) (data : List Int) : Within Comp.log s (logWrite s code src data) := by
  unfold logWrite
  dsimp only
  refine Within.trans ?_ (within_withLogb ..)
  refine Within.trans ?_ (within_logSpace ..)
  split
  · exact within_logCap ..
  · exact Within.refl ..

theorem within_logSupp (s : State) (code src : Nat) : Within Comp.log s (logSupp s code src) := by
  unfold logSupp
  exact Within.trans (within_log_setCode ..) (within_log_bump ..)

theorem within_logSuppRec (s : State) (code : Nat) : Within Comp.log s (logSuppRec s code) := by
  unfold logSuppRec
  dsimp only
  split
  · exact Within.refl ..
  · exact Within.trans (within_log_setCode ..) (within_logWrite ..)

theorem within_logRefill (s : State) (code : Nat) : Within Comp.log s (logRefill s code) := by
  unfold logRefill
  dsimp only
  split
  · exact Within.refl ..
  · exact Within.trans (within_log_setCode ..) (within_logSuppRec ..)

theorem within_logIntake (s : State) (code src : Nat) (data : List Int) : Within Comp.log s (logIntake s code src data).2 := by
  unfold logIntake
  refine Within.trans (within_logRefill s code) ?_
  generalize logRefill s code = r
  generalize (if logExempt code then 64 else 48) = room
  dsimp only
  split
  · exact within_log_bump ..
  · split
    · exact Within.trans (within_log_bump ..) (within_logSupp ..)
    · split
      · exact within_logWrite ..
      · split
        · exact within_logSupp ..
        · exact Within.trans (within_log_setCode ..) (within_logWrite ..)

theorem within_logDrain (n : Nat) (s : State) : Within Comp.log s (logDrain n s) := by
  induction n generalizing s with
  | zero => exact Within.refl ..
  | succ n ih =>
    unfold logDrain
    split
    · exact Within.refl ..
    · exact Within.trans (within_withLogb ..) (Within.trans (within_logIntake ..) (ih _))

theorem within_logTake (s : State) : Within Comp.log s (logTake s) := within_logDrain _ s

theorem within_logFlush (s : State) : Within Comp.log s (logFlush s) := by
  unfold logFlush
  refine Within.trans (within_logTake s) ?_
  generalize logTake s = r
  dsimp only
  split
  · exact Within.refl ..
  · have hm : Within Comp.log r (r.logb.intake.foldl mirrorPut r) := within_foldl (fun _ _ => within_withLogb ..) _ _
    exact Within.trans hm (within_withLogb ..)

/-! ## Cyclic logic -/

/-- Abandoning a partition's logic changes the logic alone. -/
theorem within_logicAbandon (s : State) (p : Nat) : Within [.lg] s (logicAbandon s p) := by
  unfold logicAbandon
  refine Within.trans ?_ (within_foldl (fun _ _ => within_setTask ..) _ _)
  dsimp only
  split
  · exact within_setRetain ..
  · exact Within.refl ..

end Sys2Proof.Machine
end

section
/-! PROOF. A fatal error (R96 to R107): the hub is frozen and the dump begun; in the power-fail sequence or during a dump it is not. -/

open Sys2Proof Sys2Proof.Machine

namespace Sys2Proof.Machine

/-- A command completes with the effect of the state its meaning builds within the listed components. -/
theorem does_within {i : Instr} {s a x : State} {l : List Comp} {eff : State → Prop} (hx : exec i s = done x) (hk : Within l a x)
    (he : eff (settle x)) : Does i s a l eff := by
  refine does_of x hx (fun hj => ?_) (hk.mono (List.subset_cons_self ..)).agrees he
  have h : x.jal = a.jal := hk.agrees .jal hj
  simp only [jalBut, h]

/-- With no session open the end of a command changes nothing of the sessions. -/
theorem settle_jal_of_no_session {s : State} (h : s.jal.sess = []) : (settle s).jal = s.jal := by
  simp only [settle, settleOf, h, List.foldl_nil]

/-! ## The freeze -/

/-- The hub frozen with a dump's head, whose writer has chosen a slot or none (R102, R104). -/
def freezeWith (s : State) (h : Dump) (k : Option Nat) : State :=
  let u := hubFreeze (setDump s 4 h)
  let u := { u with boot := { u.boot with phase := .dump, dumpNow := k } }
  match k with
  | some k => setDump u k { h with length := 0 }
  | none => u

/-- The components that change before the freeze itself. -/
def Comp.alarm : List Comp := [.freeCtr, .store, .ctrs, .logb, .pf, .pair, .tt, .ph, .mem, .dirty, .lg]

/-- The slot a dump's writer chooses depends on the slots alone. -/
theorem dumpSlot_congr {s t : State} (h : t.boot.dumps = s.boot.dumps) : dumpSlot t = dumpSlot s := by
  unfold dumpSlot dumpOf
  rw [h]

/-- The outputs are blocked, the fatal error is recorded, and the records offered are taken. -/
def alarmed (s : State) (cause : Nat) : State := logTake (logRec (blockAll (s.put 0x700020 0 0 [.n cause])) 0x0123 64 (ints [cause]))

/-- The state a fatal error freezes: the dump's head is taken and every partition's logic abandoned. -/
def halted (s : State) (cause : Nat) : State :=
  (created (dumpHead (alarmed s cause) cause).2).foldl logicAbandon (dumpHead (alarmed s cause) cause).2

theorem within_alarmed (s : State) (cause : Nat) : Within Comp.alarm s (alarmed s cause) :=
  ((within_put ..).mono (by decide)).trans
    (((within_blockAll ..).mono (by decide)).trans (((within_logRec ..).mono (by decide)).trans ((within_logTake ..).mono (by decide))))

theorem alarmed_pf (s : State) (cause : Nat) : (alarmed s cause).pf = { s.pf with blocked := true, beaconsOff := true, bolpelOff := true } := by
  have h : Within [.ctrs, .logb] (blockAll (s.put 0x700020 0 0 [.n cause])) (alarmed s cause) :=
    ((within_logRec ..).mono (by decide)).trans (within_logTake ..)
  exact (h.agrees .pf (by decide)).trans (blockAll_pf _)

theorem within_dumpHead (s : State) (cause : Nat) : Within [.freeCtr] s (dumpHead s cause).2 :=
  ⟨fun c hc => by cases c <;> simp_all [Comp.same, dumpHead, fresh]⟩

theorem within_halted (s : State) (cause : Nat) : Within [.freeCtr, .lg] (alarmed s cause) (halted s cause) :=
  ((within_dumpHead ..).mono (by decide)).trans (within_foldl (fun _ _ => (within_logicAbandon ..).mono (by decide)) _ _)


/-- A fatal error of a hub that is up freezes it, with the cause in the dump's head and the slot the writer chooses. -/
theorem fatalRaise_up {s : State} (hup : hubUpNow s = true) (hpf : pfRuns s = false) (cause : Nat) :
    fatalRaise s cause = freezeWith (halted s cause) (dumpHead (alarmed s cause) cause).1 (dumpSlot s) := by
  have hd : (s.boot.phase == .dump) = false := by
    cases hp : s.boot.phase <;> simp_all [hubUpNow]
  have hs : dumpSlot (dumpHead (alarmed s cause) cause).2 = dumpSlot s := by
    refine dumpSlot_congr ?_
    rw [show (dumpHead (alarmed s cause) cause).2.boot = _ from (within_dumpHead ..).agrees .boot (by decide),
      show (alarmed s cause).boot = _ from (within_alarmed ..).agrees .boot (by decide)]
  rw [← hs]
  delta fatalRaise
  rw [if_neg (by simp [hpf]), if_neg (by simp [hd]), if_neg (by simp [hup])]
  extract_lets b l
  have hl : l = alarmed s cause := rfl
  clear_value l
  subst hl
  unfold halted
  generalize dumpHead (alarmed s cause) cause = d
  obtain ⟨h, u⟩ := d
  cases hk : dumpSlot u <;> simp only [freezeWith, hk]

theorem freezeWith_frame (s : State) (h : Dump) (k : Option Nat) :
    Within Comp.hub s (freezeWith s h k) ∧ (freezeWith s h k).pf = s.pf ∧ (freezeWith s h k).tm = s.tm ∧
      (freezeWith s h k).jal = { lastCommitRow := s.jal.lastCommitRow } := by
  cases k <;> exact ⟨⟨fun c hc => by cases c <;> simp_all [Comp.same, Comp.hub, freezeWith, hubFreeze]⟩, rfl, rfl, rfl⟩

theorem freezeWith_boot (s : State) (h : Dump) (k : Option Nat) :
    (freezeWith s h k).boot.phase = .dump ∧ (freezeWith s h k).boot.dumpNow = k ∧ (freezeWith s h k).boot.lapsed = s.boot.lapsed ∧
      (dumpOf (freezeWith s h k) 4).st = h.st ∧ (dumpOf (freezeWith s h k) 4).cause = h.cause := by
  cases k with
  | none => exact ⟨rfl, rfl, rfl, by simp [freezeWith, dumpOf, hubFreeze, setDump]⟩
  | some k =>
    refine ⟨rfl, rfl, rfl, ?_⟩
    by_cases hk : 4 = k <;> simp [freezeWith, dumpOf, hubFreeze, setDump, tabGetD_tabPut, hk]

/-- A fatal error of a hub that is up freezes it for its cause; a watchdog's lapse stays noted. -/
theorem fatalRaise_freezes {s : State} (hup : hubUpNow s = true) (hpf : pfRuns s = false) (cause : Nat) :
    Within Comp.hub s (fatalRaise s cause) ∧ frozenFor s (fatalRaise s cause) cause ∧
      (fatalRaise s cause).boot.lapsed = s.boot.lapsed := by
  have ha := within_alarmed s cause
  have hh := within_halted s cause
  have hs : Within (.freeCtr :: Comp.alarm) s (halted s cause) := (ha.mono (by decide)).trans (hh.mono (by decide))
  have hboot : (halted s cause).boot = s.boot := hs.agrees .boot (by decide)
  have hjal : (halted s cause).jal = s.jal := hs.agrees .jal (by decide)
  have htm : (halted s cause).tm = s.tm := hs.agrees .tm (by decide)
  have hpf' : (halted s cause).pf = _ := (hh.agrees .pf (by decide)).trans (alarmed_pf s cause)
  rw [fatalRaise_up hup hpf]
  obtain ⟨fw, fp, ft, fj⟩ := freezeWith_frame (halted s cause) (dumpHead (alarmed s cause) cause).1 (dumpSlot s)
  obtain ⟨bp, bd, bl, bs, bc⟩ := freezeWith_boot (halted s cause) (dumpHead (alarmed s cause) cause).1 (dumpSlot s)
  refine ⟨(hs.mono (by decide)).trans fw, ⟨bp, bd, bs, bc, ?_, ?_, ?_, ft.trans htm⟩, bl.trans (by rw [hboot])⟩
  · rw [fp, hpf']
  · rw [fp, hpf']
  · rw [fj, hjal]

/-- What a frozen hub shows is still so at the command's end, and of every state with the same dumps, sessions and time counter. -/
theorem frozenFor_settle {a s t : State} {cause : Nat} (hd : s.boot.dumps = a.boot.dumps) (hj : s.jal.lastCommitRow = a.jal.lastCommitRow)
    (ht : s.tm = a.tm) (h : frozenFor s t cause) : frozenFor a (settle t) cause := by
  obtain ⟨hp, hn, hst, hc, hb, ho, hs, htm⟩ := h
  refine ⟨hp, hn.trans (dumpSlot_congr hd), hst, hc, hb, ho, ?_, htm.trans ht⟩
  rw [settle_jal_of_no_session (by rw [hs]), hs, hj]

/-- A command that raises a fatal error, of a state u that has the slots, sessions and time counter of a, freezes the hub. -/
theorem does_fatal {i : Instr} {s a u : State} {cause : Nat} (hx : exec i s = done (fatalRaise u cause)) (hup : hubUpNow u = true)
    (hpf : pfRuns u = false) (hu : Within Comp.hub a u) (hd : u.boot.dumps = a.boot.dumps) (hj : u.jal = a.jal) (ht : u.tm = a.tm) :
    Does i s a Comp.hub fun t => frozenFor a t cause ∧ t.boot.lapsed = u.boot.lapsed := by
  obtain ⟨hw, hf, hl⟩ := fatalRaise_freezes hup hpf cause
  exact does_within hx (hu.trans hw) ⟨frozenFor_settle hd (by rw [hj]) ht hf, hl⟩

theorem does_mono {i : Instr} {s a : State} {l : List Comp} {p q : State → Prop} (h : Does i s a l p) (hpq : ∀ t, p t → q t) :
    Does i s a l q := by
  obtain ⟨t, hx, hf, hp⟩ := h
  exact ⟨t, hx, hf, hpq t hp⟩

/-! ## The watchdog -/

/-- A watchdog lapse as noted, counted and recorded, with the outputs blocked (R488). -/
def lapseNoted (s : State) : State :=
  logRec (bump (blockAll { s with boot := { s.boot with lapsed := true } }) 0x440101 0) 0x0126 (0x80 + 18) []

theorem wdtLapse_eq (s : State) : wdtLapse s = fatalRaise (lapseNoted s) 3 := by
  unfold wdtLapse lapseNoted
  rfl

theorem within_lapseNoted (s : State) : Within (.boot :: Comp.alarm) s (lapseNoted s) ∧ (lapseNoted s).boot = { s.boot with lapsed := true } := by
  have hn : Within [.boot] s { s with boot := { s.boot with lapsed := true } } := ⟨fun c hc => by cases c <;> simp_all [Comp.same]⟩
  have hv : Within Comp.alarm { s with boot := { s.boot with lapsed := true } } (lapseNoted s) :=
    ((within_blockAll ..).mono (by decide)).trans (((within_bump ..).mono (by decide)).trans ((within_logRec ..).mono (by decide)))
  exact ⟨(hn.mono (by decide)).trans (hv.mono (by decide)), hv.agrees .boot (by decide)⟩

/-- A watchdog lapse of a hub that is up freezes it for cause 3, and stays noted. -/
theorem does_lapse {i : Instr} {s a u : State} (hx : exec i s = done (wdtLapse u)) (hup : hubUpNow a = true) (hpf : pfRuns a = false)
    (hu : Within [.ctrs, .logb, .lg] a u) : Does i s a Comp.hub fun t => frozenFor a t 3 ∧ t.boot.lapsed = true := by
  obtain ⟨hv, hboot⟩ := within_lapseNoted u
  rw [show u.boot = a.boot from hu.agrees .boot (by decide)] at hboot
  have hn : Within (.boot :: Comp.alarm) a (lapseNoted u) := (hu.mono (by decide)).trans hv
  have hhw : (lapseNoted u).hw = a.hw := hn.agrees .hw (by decide)
  have hnow : (lapseNoted u).now = a.now := hn.agrees .now (by decide)
  rw [wdtLapse_eq] at hx
  refine does_mono (does_fatal hx ?_ ?_ (hn.mono (by decide)) (by rw [hboot]) (hn.agrees .jal (by decide)) (hn.agrees .tm (by decide)))
    fun t ⟨hf, hlapsed⟩ => ⟨hf, by rw [hlapsed, hboot]⟩
  · simpa only [hubUpNow, hboot] using hup
  · simpa only [pfRuns, hhw, hnow] using hpf

/-- A hub whose firmware runs is up. -/
theorem hubUpNow_of_running {s : State} (h : running s = true) : hubUpNow s = true := by
  simp only [running, beq_iff_eq] at h
  simp only [hubUpNow, h]

end Sys2Proof.Machine
end

section
/-! PROOF. A fatal error during a dump or in the power-fail sequence (R102, R107), and the statement on fatal errors. -/

open Sys2Proof Sys2Proof.Machine

namespace Sys2Proof.Machine

/-! ## Kept values -/

/-- A value found in the store is the one shown. -/
theorem val_of_tabGet {s : State} {ob sub row : Nat} {v : Val} (h : tabGet s.store (okey ob sub row) = some v) : s.val ob sub row = v := by
  simp [State.val, tabGetD, h]

/-- The last fatal cause put is in the store. -/
theorem tabGet_put_lastCause (s : State) {cause : Nat} (h : 1 ≤ cause) :
    tabGet (s.put 0x700020 0 0 [.n cause]).store (okey 0x700020 0 0) = some [.n cause] := by
  have hd : putDfl s 0x700020 0 = [.n 0] := rfl
  have hne : cause ≠ 0 := by omega
  simp [State.put, hd, tabSet, hne]

/-- The last fatal cause put changes no other object's value: FATAL_RESTART reads as before. -/
theorem vn_put_lastCause (s : State) (v : Val) : (s.put 0x700020 0 0 v).vn 0x010015 0 = s.vn 0x010015 0 := by
  have hk : okey 0x010015 0 0 ≠ okey 0x700020 0 0 := by decide
  have hg : tabGetD (s.put 0x700020 0 0 v).store (okey 0x010015 0 0) (dfl s 0x010015 0) =
      tabGetD s.store (okey 0x010015 0 0) (dfl s 0x010015 0) := by
    simp only [State.put, tabSet, tabGetD]
    split <;> simp [tabGet_tabDel, tabGet_tabPut, hk]
  exact congrArg (vN · 0) hg

/-- A reset keeps the last fatal cause (R109). -/
theorem tabGet_storeKept_lastCause (s : State) : tabGet (storeKept s) (okey 0x700020 0 0) = tabGet s.store (okey 0x700020 0 0) := by
  exact (tabGet_filter_keys s.store (fun k => match descOf (k / 4294967296) with
    | some d => d.pers != .v
    | none => true) _).trans (if_pos rfl)

/-! ## The hub reset -/

/-- Only the roll call differs in the boot component. -/
def rollBut (s t : State) : Prop := t.boot = { s.boot with roll := t.boot.roll }

theorem rollBut_setUnit (s : State) (n : Nat) (st : USt) : rollBut s (setUnit s n st) := by
  unfold rollBut setUnit
  split <;> rfl

theorem rollBut_foldl_setUnit {α : Type} (f : α → Nat) (st : USt) (l : List α) (s : State) :
    rollBut s (l.foldl (fun s a => setUnit s (f a) st) s) :=
  foldl_keeps rollBut (fun _ => rfl) (fun _ _ _ h k => by unfold rollBut at *; rw [k, h]) _ (fun s a => rollBut_setUnit s (f a) st) l s

theorem within_unitsOff (s : State) (lost : Bool) : Within [.boot, .logb, .jal] s (unitsOff s lost) := by
  unfold unitsOff
  split
  · exact ⟨fun c hc => by cases c <;> simp_all [Comp.same]⟩
  · exact within_foldl (fun _ _ => within_setUnit ..) _ _

theorem within_hubCleared (s : State) (lost : Bool) (cause : Nat) : Within Comp.hub s (hubCleared s lost cause) :=
  ⟨fun c hc => by cases c <;> simp_all [Comp.same, Comp.hub, hubCleared]⟩

/-- A hub reset without loss of supply keeps the dumps' slots, and the parts of the store that are not volatile. -/
theorem hubCleared_boot (s : State) (cause : Nat) : (hubCleared s false cause).boot.phase = .reset ∧
    (hubCleared s false cause).boot.dumpNow = none ∧ (hubCleared s false cause).boot.dumps = s.boot.dumps := ⟨rfl, rfl, rfl⟩

theorem hubCleared_store (s : State) (lost : Bool) (cause : Nat) : (hubCleared s lost cause).store = storeKept s := rfl

/-- The state a hub reset clears. -/
def stopped (s : State) (lost : Bool) : State := unitsOff ((created s).foldl logicAbandon s) lost

theorem within_stopped (s : State) (lost : Bool) : Within [.boot, .logb, .jal, .lg] s (stopped s lost) :=
  (within_foldl (fun _ _ => (within_logicAbandon ..).mono (by decide)) _ _).trans ((within_unitsOff ..).mono (by decide))

theorem hubReset_eq (s : State) (lost : Bool) (cause : Nat) : hubReset s lost cause = hubCleared (stopped s lost) lost cause := by
  unfold hubReset stopped
  rfl

/-- A hub reset changes no component outside the hub. -/
theorem within_hubReset (s : State) (lost : Bool) (cause : Nat) : Within Comp.hub s (hubReset s lost cause) := by
  rw [hubReset_eq]
  exact ((within_stopped s lost).mono (by decide)).trans (within_hubCleared ..)

/-- Stopping the units for a reset changes no more of the boot component than the roll call. -/
theorem stopped_rollBut (s : State) : rollBut s (stopped s false) := by
  have h : ((created s).foldl logicAbandon s).boot = s.boot :=
    (within_foldl (fun _ _ => within_logicAbandon ..) _ _ : Within [.lg] _ _).agrees .boot (by decide)
  have hr : rollBut ((created s).foldl logicAbandon s) (stopped s false) := rollBut_foldl_setUnit (· + 1) .off _ _
  unfold rollBut at hr
  rw [h] at hr
  exact hr

theorem hubReset_keeps (s : State) (cause : Nat) :
    (hubReset s false cause).boot.phase = .reset ∧ (hubReset s false cause).boot.dumpNow = none ∧
      (hubReset s false cause).boot.dumps = s.boot.dumps ∧
      tabGet (hubReset s false cause).store (okey 0x700020 0 0) = tabGet s.store (okey 0x700020 0 0) := by
  obtain ⟨hp, hn, hd⟩ := hubCleared_boot (stopped s false) cause
  have hb : (stopped s false).boot.dumps = s.boot.dumps := by rw [stopped_rollBut s]
  have hs : (stopped s false).store = s.store := (within_stopped s false).agrees .store (by decide)
  rw [hubReset_eq]
  exact ⟨hp, hn, hd.trans hb, by rw [hubCleared_store, tabGet_storeKept_lastCause, hs]⟩

/-- The hub halted, before its units start. -/
def haltPhase (s : State) : State := { s with boot := { s.boot with phase := .halt, wdtBoot := none } }

/-- With the hub halted the ROM starts units 3, 4 and 15 (R107). -/
theorem romGateway_halt (s : State) : romGateway s .halt = [3, 4, 15].foldl unitBegin (haltPhase s) := by
  unfold romGateway
  exact congrArg (fun us : List Nat => us.foldl unitBegin (haltPhase s)) (if_pos rfl)

theorem romGateway_halt_keeps (s : State) : Within [.boot, .logb, .jal] s (romGateway s .halt) ∧
    (romGateway s .halt).boot.phase = .halt ∧ (romGateway s .halt).boot.dumpNow = s.boot.dumpNow ∧
      (romGateway s .halt).boot.dumps = s.boot.dumps := by
  rw [romGateway_halt]
  have hr : rollBut (haltPhase s) ([3, 4, 15].foldl unitBegin (haltPhase s)) := rollBut_foldl_setUnit id .starting [3, 4, 15] _
  have hp : Within [.boot, .logb, .jal] s (haltPhase s) := ⟨fun c hc => by cases c <;> simp_all [Comp.same, haltPhase]⟩
  refine ⟨hp.trans (within_foldl (fun _ _ => within_setUnit ..) _ _), ?_, ?_, ?_⟩ <;> rw [hr] <;> rfl

/-! ## The end of a dump -/

/-- The fatal restarts of the last hour (R107). -/
def recentFatals (s : State) : List Nat := s.boot.fatalRestarts.filter fun t => s.now < t + 3600000000000

/-- No dump is under way any more, and the fatal restarts that count are noted. -/
def dumpOver (s : State) (fs : List Nat) : State := { s with boot := { s.boot with dumpNow := none, fatalRestarts := fs } }

theorem within_dumpOver (s : State) (fs : List Nat) : Within [.boot] s (dumpOver s fs) :=
  ⟨fun c hc => by cases c <;> simp_all [Comp.same, dumpOver]⟩

/-- A dump ended by a reset restarts the hub, or halts it after a third fatal restart within an hour or with FATAL_RESTART 1. -/
theorem fatalEnd_eq (s : State) : fatalEnd s true = if s.vn 0x010015 0 == 1 || (recentFatals s).length ≥ 3
    then resetHalt (dumpOver s (recentFatals s)) else hubReset (dumpOver s (recentFatals s ++ [s.now])) false 2 := rfl

/-- A hub reset with its units off, and no restart due. -/
def haltedReset (s : State) : State := { hubReset s false 2 with hw := { (hubReset s false 2).hw with hubDue := none } }

theorem resetHalt_keeps (s : State) : Within Comp.hub s (resetHalt s) ∧ (resetHalt s).boot.phase = .halt ∧
    (resetHalt s).boot.dumpNow = none ∧ (resetHalt s).boot.dumps = s.boot.dumps ∧
    tabGet (resetHalt s).store (okey 0x700020 0 0) = tabGet s.store (okey 0x700020 0 0) := by
  have he : resetHalt s = romGateway (haltedReset s) .halt := rfl
  have hw : Within [.hw] (hubReset s false 2) (haltedReset s) := ⟨fun c hc => by cases c <;> simp_all [Comp.same, haltedReset]⟩
  obtain ⟨gw, gp, gn, gd⟩ := romGateway_halt_keeps (haltedReset s)
  obtain ⟨-, hn, hd, hs⟩ := hubReset_keeps s 2
  have hb : (haltedReset s).boot = (hubReset s false 2).boot := hw.agrees .boot (by decide)
  have hst : (romGateway (haltedReset s) .halt).store = (hubReset s false 2).store :=
    Eq.trans (gw.agrees .store (by decide)) (hw.agrees .store (by decide))
  rw [he]
  refine ⟨(within_hubReset s false 2).trans ((hw.mono (by decide)).trans (gw.mono (by decide))), gp, ?_, ?_, by rw [hst, hs]⟩
  · rw [gn, hb, hn]
  · rw [gd, hb, hd]

theorem fatalEnd_keeps (s : State) : Within Comp.hub s (fatalEnd s true) ∧
    (fatalEnd s true).boot.phase = (if s.vn 0x010015 0 == 1 || (recentFatals s).length ≥ 3 then .halt else .reset) ∧
    (fatalEnd s true).boot.dumpNow = none ∧ (fatalEnd s true).boot.dumps = s.boot.dumps ∧
    tabGet (fatalEnd s true).store (okey 0x700020 0 0) = tabGet s.store (okey 0x700020 0 0) := by
  rw [fatalEnd_eq]
  split
  case isTrue =>
    obtain ⟨hw, hk⟩ := resetHalt_keeps (dumpOver s (recentFatals s))
    exact ⟨((within_dumpOver ..).mono (by decide)).trans hw, hk⟩
  case isFalse =>
    exact ⟨((within_dumpOver ..).mono (by decide)).trans (within_hubReset ..), hubReset_keeps ..⟩

/-- The dump under way is left INCOMPLETE for a further fatal error, whose cause becomes the last. -/
def dumpBroken (s : State) (cause k : Nat) : State :=
  let u := s.put 0x700020 0 0 [.n cause]
  let v := setDump u k { dumpOf u k with st := 3 }
  setDump v 4 { dumpOf v 4 with st := 3 }

theorem within_dumpBroken (s : State) (cause k : Nat) : Within [.store, .boot] s (dumpBroken s cause k) :=
  ((within_put ..).mono (by decide)).trans (((within_setDump ..).mono (by decide)).trans ((within_setDump ..).mono (by decide)))

theorem dumpBroken_incomplete (s : State) (cause : Nat) {k : Nat} (hk : k < 4) : (dumpOf (dumpBroken s cause k) k).st = 3 := by
  have h4 : k ≠ 4 := by omega
  simp [dumpBroken, dumpOf, setDump, tabGetD_tabPut, h4]

/-- A fatal error during a dump ends it with its slot INCOMPLETE. -/
theorem fatalRaise_dump {s : State} {cause k : Nat} (hpf : pfRuns s = false) (hp : s.boot.phase = .dump) (hn : s.boot.dumpNow = some k) :
    fatalRaise s cause = fatalEnd (dumpBroken s cause k) true := by
  unfold fatalRaise
  rw [if_neg (by simp [hpf]), if_pos (by simp [hp])]
  have hn' : (s.put 0x700020 0 0 [.n cause]).boot.dumpNow = some k := hn
  simp only [hn']
  rfl

/-- FATAL_RESTART is read from the store. -/
theorem vn_restart_congr {s t : State} (h : t.store = s.store) : t.vn 0x010015 0 = s.vn 0x010015 0 :=
  congrArg (fun st => vN (tabGetD st (okey 0x010015 0 0) (dfl s 0x010015 0)) 0) h

theorem recentFatals_congr {s t : State} (hb : t.boot.fatalRestarts = s.boot.fatalRestarts) (hn : t.now = s.now) :
    recentFatals t = recentFatals s := by
  simp only [recentFatals, hb, hn]

/-- A further fatal error during a dump restarts the hub, or halts it, with the dump's slot INCOMPLETE. -/
theorem does_fatal_dump {i : Instr} {s a u : State} {cause k : Nat} (hx : exec i s = done (fatalRaise u cause)) (hc : 1 ≤ cause)
    (hpf : pfRuns u = false) (hp : u.boot.phase = .dump) (hn : u.boot.dumpNow = some k) (hk : k < 4) (hu : Within [.hw] a u) :
    Does i s a Comp.hub fun t => t.val 0x700020 0 0 = [.n cause] ∧ (dumpOf t k).st = 3 ∧ t.boot.dumpNow = none ∧
      t.boot.phase = (if a.vn 0x010015 0 == 1 || (recentFatals a).length ≥ 3 then .halt else .reset) := by
  rw [fatalRaise_dump hpf hp hn] at hx
  have hw := within_dumpBroken u cause k
  obtain ⟨ew, ep, en, ed, es⟩ := fatalEnd_keeps (dumpBroken u cause k)
  have hvn : (dumpBroken u cause k).vn 0x010015 0 = a.vn 0x010015 0 :=
    calc (dumpBroken u cause k).vn 0x010015 0
      _ = (u.put 0x700020 0 0 [.n cause]).vn 0x010015 0 := vn_restart_congr rfl
      _ = u.vn 0x010015 0 := vn_put_lastCause ..
      _ = a.vn 0x010015 0 := vn_restart_congr (hu.agrees .store (by decide))
  have hboot : u.boot = a.boot := hu.agrees .boot (by decide)
  have hrec : recentFatals (dumpBroken u cause k) = recentFatals a :=
    recentFatals_congr (show u.boot.fatalRestarts = _ by rw [hboot])
      (Eq.trans (hw.agrees .now (by decide)) (hu.agrees .now (by decide)))
  refine does_within hx ((hu.mono (by decide)).trans ((hw.mono (by decide)).trans ew)) ⟨?_, ?_, en, ?_⟩
  · exact val_of_tabGet (es.trans (tabGet_put_lastCause u hc))
  · have hd : dumpOf (settle (fatalEnd (dumpBroken u cause k) true)) k = dumpOf (dumpBroken u cause k) k :=
      congrArg (fun d : Tab Dump => tabGetD d k {}) ed
    rw [hd]
    exact dumpBroken_incomplete u cause hk
  · rw [← hvn, ← hrec]
    exact ep

/-- A fatal error in the power-fail sequence becomes the last cause and is recorded; no dump is begun (R102). -/
theorem does_fatal_powerFail {i : Instr} {s a : State} {cause : Nat} (hx : exec i s = done (fatalRaise a cause)) (hc : 1 ≤ cause)
    (hpf : pfRuns a = true) : Does i s a [.store, .logb, .ctrs, .boot] fun t =>
      t.val 0x700020 0 0 = [.n cause] ∧ t.boot.phase = a.boot.phase ∧ t.boot.dumps = a.boot.dumps := by
  have he : fatalRaise a cause = logFlush (logRec (a.put 0x700020 0 0 [.n cause]) 0x0123 64 (ints [cause])) := if_pos hpf
  have hl : Within Comp.log (a.put 0x700020 0 0 [.n cause]) (fatalRaise a cause) := by
    rw [he]
    exact ((within_logRec ..).mono (by decide)).trans (within_logFlush ..)
  have hb : (fatalRaise a cause).boot = a.boot := hl.agrees .boot (by decide)
  have hs : (fatalRaise a cause).store = (a.put 0x700020 0 0 [.n cause]).store := hl.agrees .store (by decide)
  refine does_within hx (((within_put ..).mono (by decide)).trans (hl.mono (by decide))) ⟨?_, ?_, ?_⟩
  · exact val_of_tabGet (by rw [settle_store, hs]; exact tabGet_put_lastCause a hc)
  · rw [settle_boot, hb]
  · rw [settle_boot, hb]

/-! ## The commands that raise a fatal error -/

section
variable {dt : Nat} {s : State}

theorem within_setTemp (a : State) (die : Nat) (t : Int) : Within [.hw] a (setTemp a die t) :=
  ⟨fun c hc => by cases c <;> simp_all [Comp.same, setTemp]⟩

/-- TEMP_FATAL of a sensor there is, with the hub up, in the power-fail sequence or dumping, shows the temperature and judges it (R69). -/
theorem exec_tempFatal {die : Nat} {milliC : Int} (hd : die ≤ 1 + dieCount (advance dt s))
    (hl : hubUpNow (advance dt s) = true ∨ (advance dt s).boot.phase = .dump) :
    exec (.tempFatal dt die milliC) s = done (if milliC ≥ 125000 then fatalRaise (setTemp (advance dt s) die milliC) 4
      else setTemp (advance dt s) die milliC) :=
  if_neg (by rcases hl with h | h <;> simp [h, hd, -advance_boot])

/-- FENCE_TIMEOUT of a fence past its time is a fatal error for cause 7 (R339). -/
theorem exec_fenceTimeout {p : Nat} {x : Nat × Nat} (hx : (partOf (advance dt s) p).fence = some x) (hlt : x.1 < (advance dt s).now)
    (hrun : running (advance dt s) = true) : exec (.fenceTimeout dt p) s = done (fatalRaise (advance dt s) 7) := by
  change execFenceTimeout dt p s = _
  unfold execFenceTimeout
  simp only [hx]
  exact if_pos (by simp [hlt, hubLive, hrun, -advance_now])

/-- WDT_LAPSE of a running hub past the end of pair 0's period is a watchdog lapse (R101). -/
theorem exec_wdtLapse (hrun : running (advance dt s) = true) (hend : wdtEnd (advance dt s) 0 ≤ (advance dt s).now) :
    exec (.wdtLapse dt) s = done (wdtLapse (advance dt s)) :=
  if_pos (by simp [hrun, hend, hubUpNow_of_running hrun, -advance_now])

/-- WDT_SERVICE within the first quarter of its period is a watchdog lapse (R101). -/
theorem exec_wdtService_early {pair u : Nat} (h : pair ≤ 1) (hrun : running (advance dt s) = true)
    (hlast : (wdtOf (advance dt s) pair).last = some u)
    (hearly : 4 * ((advance dt s).now - u) < (advance dt s).boot.wdtPeriod) :
    exec (.wdtService dt pair) s = done (wdtLapse (advance dt s)) := by
  change execWdtService dt pair s = _
  unfold execWdtService
  rw [if_neg (by simp [hrun, h])]
  simp only [hlast]
  exact if_pos (by simp [hearly, -advance_now, -advance_boot])

/-- WDT_SERVICE after the first quarter of its period and before its end, with no boot timeout running, is noted. -/
theorem exec_wdtService_inTime {pair u : Nat} (h : pair ≤ 1) (hrun : running (advance dt s) = true)
    (hlast : (wdtOf (advance dt s) pair).last = some u)
    (hlate : (advance dt s).boot.wdtPeriod ≤ 4 * ((advance dt s).now - u)) (hend : (advance dt s).now ≤ wdtEnd (advance dt s) pair)
    (hboot : (advance dt s).boot.wdtBoot = none) :
    exec (.wdtService dt pair) s = done (setWdt (advance dt s) pair { last := some (advance dt s).now }) := by
  change execWdtService dt pair s = _
  unfold execWdtService
  rw [if_neg (by simp [hrun, h])]
  simp only [hlast, hboot]
  rw [if_neg (by simp [hlate, hend, -advance_now, -advance_boot])]
  rfl

theorem within_setWdt (a : State) (pair : Nat) (x : WdtPair) : Within [.boot] a (setWdt a pair x) :=
  ⟨fun c hc => by cases c <;> simp_all [Comp.same, setWdt]⟩

theorem wdtOf_setWdt (a : State) {pair : Nat} (h : pair ≤ 1) (x : WdtPair) : wdtOf (setWdt a pair x) pair = x := by
  obtain rfl | rfl : pair = 0 ∨ pair = 1 := by omega
  · rfl
  · rfl

theorem setWdt_lapsed (a : State) (pair : Nat) (x : WdtPair) : (setWdt a pair x).boot.lapsed = a.boot.lapsed := by
  unfold setWdt
  dsimp only
  split <;> rfl

/-- The state in which a missed notice lapses the watchdog: it is counted, recorded, and waited for no longer (R488). -/
def noticeMissed (a : State) : State :=
  logRec (bump { a with lg := { a.lg with noticeOut := a.lg.noticeOut.filter fun (n, q, t) => !(t ≤ a.now) && !noticeSent a n q } }
    0x440061 0) 0x01D3 (0x80 + 18) []

theorem within_noticeMissed (a : State) : Within [.ctrs, .logb, .lg] a (noticeMissed a) :=
  ⟨fun c hc => by cases c <;> simp_all [Comp.same, noticeMissed]⟩

/-- FORCE_NOTICE_MISSED of a running hub with a notice due and unsent is a watchdog lapse (R488). -/
theorem exec_forceNoticeMissed (hrun : running (advance dt s) = true)
    (hany : ((advance dt s).lg.noticeOut.any fun (n, q, u) => decide (u ≤ (advance dt s).now) && !noticeSent (advance dt s) n q) = true) :
    exec (.forceNoticeMissed dt) s = done (wdtLapse (noticeMissed (advance dt s))) := by
  have hne : ((advance dt s).lg.noticeOut.filter fun (n, q, u) =>
      decide (u ≤ (advance dt s).now) && !noticeSent (advance dt s) n q).isEmpty = false := by
    obtain ⟨y, hy, hl⟩ := List.any_eq_true.1 hany
    exact List.isEmpty_eq_false_iff_exists_mem.2 ⟨y, List.mem_filter.2 ⟨hy, hl⟩⟩
  change execForceNoticeMissed dt s = _
  unfold execForceNoticeMissed
  rw [if_neg]
  · rfl
  · intro hc
    rcases Bool.or_eq_true_iff.1 hc with h | h
    · exact Bool.noConfusion (hne.symm.trans h)
    · have h' : (!running (advance dt s)) = true := h
      simp [hrun] at h'

end

end Sys2Proof.Machine

/-- Settles O3: the causes meet in `fatalRaise`, which freezes a hub that is up, breaks off a dump, or only notes the cause. -/
theorem fatalErrorsFreezeTheHub : Obligations.FatalErrorsFreezeTheHub := by
  intro dt s a
  refine ⟨fun cause h1 h7 hup hpf => ?fatal, fun cause h1 h7 hpf => ?powerFail, fun die milliC k hdie ht hpf hp hn hk => ?dump,
    fun pair h hup hpf => ?lockstep, fun die milliC hdie ht hup hpf => ?temp, fun p x hx hlt hrun hpf => ?fence,
    fun hrun hend hpf => ?lapse, fun pair u h hrun hlast hearly hpf => ?early, fun pair u h hrun hlast hlate hend hboot => ?inTime,
    fun hrun hpf hany => ?notice⟩
  case fatal =>
    have hx : exec (.fatalError dt cause) s = done (fatalRaise a cause) := if_pos (by simp [h1, h7])
    exact does_mono (does_fatal hx hup hpf (.refl ..) rfl rfl rfl) fun t => And.left
  case powerFail => exact does_fatal_powerFail (if_pos (by simp [h1, h7])) h1 hpf
  case dump =>
    have hx : exec (.tempFatal dt die milliC) s = done (fatalRaise (setTemp a die milliC) 4) := by
      rw [exec_tempFatal hdie (.inr hp), if_pos ht]
    exact does_fatal_dump hx (by decide) hpf hp hn hk (within_setTemp ..)
  case lockstep =>
    have hx : exec (.ccLockstepMismatch dt pair) s = done (fatalRaise a (pair + 1)) := if_pos h
    exact does_mono (does_fatal hx hup hpf (.refl ..) rfl rfl rfl) fun t => And.left
  case temp =>
    have hx : exec (.tempFatal dt die milliC) s = done (fatalRaise (setTemp a die milliC) 4) := by
      rw [exec_tempFatal hdie (.inl hup), if_pos ht]
    exact does_mono (does_fatal hx hup hpf ((within_setTemp ..).mono (by decide)) rfl rfl rfl) fun t => And.left
  case fence =>
    have hx : exec (.fenceTimeout dt p) s = done (fatalRaise a 7) := exec_fenceTimeout hx hlt hrun
    exact does_mono (does_fatal hx (hubUpNow_of_running hrun) hpf (.refl ..) rfl rfl rfl) fun t => And.left
  case lapse =>
    exact does_lapse (exec_wdtLapse hrun hend) (hubUpNow_of_running hrun) hpf (.refl ..)
  case early =>
    exact does_lapse (exec_wdtService_early h hrun hlast hearly) (hubUpNow_of_running hrun) hpf (.refl ..)
  case inTime =>
    refine does_within (exec_wdtService_inTime h hrun hlast hlate hend hboot) (within_setWdt ..) ⟨?_, ?_⟩
    · exact wdtOf_setWdt a h _
    · exact setWdt_lapsed a pair _
  case notice =>
    exact does_lapse (exec_forceNoticeMissed hrun hany) (hubUpNow_of_running hrun) hpf (within_noticeMissed a)
end

section
/-! PROOF. Frames: what a chain of operations leaves alone, with what the sessions see of it. -/

open Sys2Proof Sys2Proof.Machine

namespace Sys2Proof.Machine

theorem Frame.refl (l : List Comp) (s : State) : Frame l s s := ⟨fun _ => rfl, (Within.refl _ s).agrees⟩

theorem Frame.within {l : List Comp} {s t : State} (h : Frame l s t) : Within (.jal :: l) s t := ⟨h.2⟩

theorem Frame.trans {l : List Comp} {s t u : State} (h : Frame l s t) (k : Frame l t u) : Frame l s u :=
  ⟨fun e => jalBut_trans (h.1 e) (k.1 e), (h.within.trans k.within).agrees⟩

theorem Frame.mono {l m : List Comp} {s t : State} (h : Frame l s t) (hs : l ⊆ m) : Frame m s t :=
  ⟨fun e => h.1 fun k => e (hs k), (h.within.mono (List.cons_subset_cons _ hs)).agrees⟩

/-- A change within components is a frame of them. -/
theorem Within.frame {l : List Comp} {s t : State} (h : Within l s t) : Frame l s t := by
  refine ⟨fun hj => ?_, (h.mono (List.subset_cons_self ..)).agrees⟩
  have e : t.jal = s.jal := h.agrees .jal hj
  simp only [jalBut, e]

theorem frame_foldl {α : Type} {l : List Comp} {f : State → α → State} (hf : ∀ s a, Frame l s (f s a)) (as : List α) (s : State) :
    Frame l s (as.foldl f s) :=
  foldl_keeps (Frame l) (Frame.refl l) (fun _ _ _ => Frame.trans) f hf as s

/-- A command completes with the effect of a state that differs within a frame. -/
theorem does_frame {i : Instr} {s a x : State} {l : List Comp} {eff : State → Prop} (hx : exec i s = done x) (hk : Frame l a x)
    (he : eff (settle x)) : Does i s a l eff :=
  does_of x hx hk.1 hk.2 he

/-- What the subscriptions see of a changed object changes the sessions' entries alone. -/
theorem frame_seeNow (s : State) (ob sub : Nat) : Frame [] s (seeNow s ob sub) :=
  ⟨fun _ => jalBut_settleOf _ s, fun c hc => by cases c <;> simp_all [Comp.same, seeNow]⟩

theorem frame_setUnit (s : State) (n : Nat) (st : USt) : Frame [.boot, .logb] s (setUnit s n st) := by
  unfold setUnit
  split
  · exact Frame.refl ..
  · refine Frame.trans (Within.frame ?_) ((frame_seeNow ..).mono (by decide))
    exact ⟨fun c hc => by cases c <;> simp_all [Comp.same]⟩

end Sys2Proof.Machine
end

section
/-! PROOF. A hub reset: what it leaves of the supply, the start-up state, the vault and the RTC (R76, R92, R515, R528). -/

open Sys2Proof Sys2Proof.Machine

namespace Sys2Proof.Machine

theorem unitsOff_rollBut (s : State) (lost : Bool) : rollBut s (unitsOff s lost) := by
  unfold unitsOff
  split
  · rfl
  · exact rollBut_foldl_setUnit (· + 1) .off _ _

/-- Stopping the units for a reset changes no more of the boot component than the roll call. -/
theorem rollBut_stopped (s : State) (lost : Bool) : rollBut s (stopped s lost) := by
  have h : ((created s).foldl logicAbandon s).boot = s.boot :=
    (within_foldl (fun _ _ => within_logicAbandon ..) _ _ : Within [.lg] _ _).agrees .boot (by decide)
  have hr := unitsOff_rollBut ((created s).foldl logicAbandon s) lost
  unfold rollBut at hr
  rw [h] at hr
  exact hr

/-- Stopping the units for a reset leaves the sessions' entries at most. -/
theorem jalBut_stopped (s : State) (lost : Bool) : jalBut s (stopped s lost) := by
  have h : Frame [.lg] s ((created s).foldl logicAbandon s) := (within_foldl (fun _ _ => within_logicAbandon ..) _ _).frame
  refine jalBut_trans (h.1 (by decide)) ?_
  unfold stopped unitsOff
  split
  · rfl
  · exact (frame_foldl (fun _ _ => frame_setUnit ..) _ _).1 (by decide)

/-- A reset hub is held in reset for its cause. -/
theorem heldReset_hubReset (s : State) (lost : Bool) (cause : Nat) : heldReset s (hubReset s lost cause) cause := by
  have h : (stopped s lost).jal.lastCommitRow = s.jal.lastCommitRow := by
    rw [show (stopped s lost).jal = _ from jalBut_stopped s lost]
  rw [hubReset_eq]
  refine ⟨rfl, rfl, rfl, ?_, rfl, rfl, rfl⟩
  rw [← h]
  rfl

/-- Whether a hub is held in reset hangs, of the state before, on the last commit row alone. -/
theorem heldReset_congr {a b t : State} {cause : Nat} (h : b.jal.lastCommitRow = a.jal.lastCommitRow) (k : heldReset b t cause) :
    heldReset a t cause := by
  unfold heldReset
  rw [← h]
  exact k

/-- A hub held in reset is so at the command's end. -/
theorem heldReset_settle {a t : State} {cause : Nat} (h : heldReset a t cause) : heldReset a (settle t) cause := by
  obtain ⟨hp, hc, hb, hj, hn, ht, hph⟩ := h
  exact ⟨hp, hc, hb, (settle_jal_of_no_session (by rw [hj])).trans hj, hn, ht, hph⟩

theorem hubReset_hw (s : State) (lost : Bool) (cause : Nat) : (hubReset s lost cause).hw = hwKept s lost := by
  have hw : (stopped s lost).hw = s.hw := (within_stopped s lost).agrees .hw (by decide)
  have hn : (stopped s lost).now = s.now := (within_stopped s lost).agrees .now (by decide)
  rw [hubReset_eq]
  change hwKept (stopped s lost) lost = _
  simp only [hwKept, cagesKept, hw, hn]

theorem hubReset_rtc (s : State) (lost : Bool) (cause : Nat) : (hubReset s lost cause).rtc = rtcKept s lost := by
  have hr : (stopped s lost).rtc = s.rtc := (within_stopped s lost).agrees .rtc (by decide)
  have hn : (stopped s lost).now = s.now := (within_stopped s lost).agrees .now (by decide)
  rw [hubReset_eq]
  change rtcKept (stopped s lost) lost = _
  simp only [rtcKept, hr, hn]

theorem hubReset_vault (s : State) (lost : Bool) (cause : Nat) : (hubReset s lost cause).vault = vaultKept s := by
  have hv : (stopped s lost).vault = s.vault := (within_stopped s lost).agrees .vault (by decide)
  rw [hubReset_eq]
  change vaultKept (stopped s lost) = _
  simp only [vaultKept, hv]

/-- A hub reset keeps the life cycle. -/
theorem life_hubReset (s : State) (lost : Bool) (cause : Nat) : life (hubReset s lost cause) = life s := by
  have h := rollBut_stopped s lost
  rw [hubReset_eq]
  change (if (stopped s lost).boot.fuseDecom then 4 else if (stopped s lost).boot.qLatch then 3
    else if (stopped s lost).boot.fuseComm then 2 else if (stopped s lost).boot.fuseProv then 1 else 0) = life s
  rw [h]
  rfl

/-- A loss of supply locks the vault's port out (R528). -/
theorem rtcKept_lockout (s : State) : (rtcKept s true).lockout = true := by
  unfold rtcKept
  cases hl : s.rtc.lockout <;> simp [hl]

/-- The state in which VIN is lost while the store charges. -/
theorem vinLost_eq (s : State) : vinLost s =
    hubReset { s with hw := { s.hw with vinGood := false, pfSeq := none } } true (if s.boot.phase == .reset && s.boot.cause == 0 then 0 else 1) := rfl

/-- VIN lost while the store charges resets the hub at once, without the power-fail sequence (R49, R528). -/
theorem vinLost_keeps (s : State) : Within Comp.hub s (vinLost s) ∧
    heldReset s (vinLost s) (if s.boot.phase == .reset && s.boot.cause == 0 then 0 else 1) ∧ (vinLost s).rtc.lockout = true ∧
    (vinLost s).hw.vinGood = false ∧ (vinLost s).hw.pf = false ∧ (vinLost s).hw.rideDue = none ∧ (vinLost s).hw.pfSeq = none := by
  have hw : Within Comp.hub s { s with hw := { s.hw with vinGood := false, pfSeq := none } } :=
    ⟨fun c hc => by cases c <;> simp_all [Comp.same, Comp.hub]⟩
  rw [vinLost_eq]
  refine ⟨hw.trans (within_hubReset ..), heldReset_congr rfl (heldReset_hubReset ..), ?_, ?_⟩
  · rw [hubReset_rtc, rtcKept_lockout]
  · rw [hubReset_hw]
    exact ⟨rfl, rfl, rfl, rfl⟩

/-- HOLDUP_STATE reads the store's state (60.0102). -/
theorem curVal_holdup (s : State) : curVal s 0x600102 0 = [.n s.hw.holdup] := rfl

end Sys2Proof.Machine

/-- Settles O52: the store's state is what HOLDUP_STATE reads, and the loss of VIN resets the hub in the same step. -/
theorem aHubResetWithoutPowerFailSequence : Obligations.AHubResetWithoutPowerFailSequence := by
  intro dt s a hvin hcharging
  have hh : a.hw.holdup = 0 := by
    rw [curVal_holdup] at hcharging
    injection hcharging with h1
    exact Fld.n.inj h1
  have hx : exec (.vinLossCharging dt) s = done (vinLost a) := if_pos (by rw [show (advance dt s).hw.vinGood = true from hvin]; exact beq_iff_eq.2 hh)
  obtain ⟨hw, hr, hlock, hv, hpf, hride, hseq⟩ := vinLost_keeps a
  exact does_within hx hw ⟨heldReset_settle hr, hlock, hv, hpf, hride, hseq⟩
end

section
/-! PROOF. The supply and the hub's start: the supply good, what a hub start brings, the ROM's gateway, the power-fail sequence (R46 to
R49, R76, R77, R99, R107). -/

open Sys2Proof Sys2Proof.Machine

namespace Sys2Proof.Machine

/-! ## A unit set -/

/-- With no session open a unit set leaves the Jalyn component as it was. -/
theorem setUnit_jal_of_no_session {s : State} (h : s.jal.sess = []) (n : Nat) (st : USt) : (setUnit s n st).jal = s.jal := by
  unfold setUnit
  split
  · rfl
  · simp [seeNow, settleOf, h]

/-- A unit that is OFF is present. -/
theorem unitPresent_of_off {s : State} {n : Nat} (h : unitSt s n = .off) : unitPresent s n = true := by
  by_contra hp
  simp [unitSt, hp] at h

/-- The clock unit is always present. -/
theorem unitPresent_clock (s : State) : unitPresent s 30 = true := by
  simp [unitPresent]

/-! ## Supply good -/

theorem within_withHw (s : State) (h : Hw) : Within [.hw] s { s with hw := h } :=
  ⟨fun c hc => by cases c <;> simp_all [Comp.same]⟩

/-- The state at supply good before the vault's unit is judged: the store charges, the oscillator warms up, cages and hub await their times. -/
def charging (s : State) : State :=
  { s with hw := { s.hw with hubDue := some (s.now + 20000000), holdup := 0, osc := 0, cages := tabMap (fun n (c : Cage) =>
    if cageFits s n && c.present && !c.tripped && !c.powered then { c with onDue := some (s.now + 50000000) } else c) s.hw.cages } }

theorem supplyUp_eq (s : State) : supplyUp s = if unitSt s 0 == .off then setUnit (charging s) 0 .ready else charging s := rfl

theorem frame_supplyUp (s : State) : Frame [.hw, .boot, .logb] s (supplyUp s) := by
  have hc : Frame [.hw, .boot, .logb] s (charging s) := ((within_withHw ..).mono (by decide)).frame
  rw [supplyUp_eq]
  split
  · exact hc.trans ((frame_setUnit ..).mono (by decide))
  · exact hc

theorem supplyUp_hw (s : State) : (supplyUp s).hw = (charging s).hw := by
  rw [supplyUp_eq]
  split
  · exact setUnit_hw ..
  · rfl

theorem rollBut_supplyUp (s : State) : rollBut s (supplyUp s) := by
  rw [supplyUp_eq]
  split
  · exact rollBut_setUnit (charging s) 0 .ready
  · rfl

theorem supplyUp_jal_of_no_session {s : State} (h : s.jal.sess = []) : (supplyUp s).jal = s.jal := by
  rw [supplyUp_eq]
  split
  · exact setUnit_jal_of_no_session (s := charging s) h 0 .ready
  · rfl

theorem unitSt_supplyUp (s : State) : unitSt (supplyUp s) 0 = if unitSt s 0 == .off then .ready else unitSt s 0 := by
  have hc : ∀ n, unitSt (charging s) n = unitSt s n := unitSt_congr rfl rfl
  rw [supplyUp_eq]
  split
  case isTrue h => exact unitSt_setUnit _ _ _ (unitPresent_of_off ((hc 0).trans (beq_iff_eq.1 h)))
  case isFalse h => exact hc 0

/-- SUPPLY_GOOD of a hub in reset starts the store's charge and the hub's release (R45, R54, R76). -/
theorem exec_supplyGood {dt : Nat} {s : State} (hv : (advance dt s).hw.vinGood = false) (hpf : (advance dt s).hw.pf = false)
    (hp : (advance dt s).boot.phase = .reset) :
    exec (.supplyGood dt) s = done (supplyUp { advance dt s with hw := { (advance dt s).hw with vinGood := true } }) := by
  change execSupplyGood dt s = _
  unfold execSupplyGood
  generalize advance dt s = a at *
  simp only [hv, hpf, hp]
  rfl

/-- The oscillator is ready, and with a running hub its unit. -/
def oscUp (s : State) : State :=
  if running s then setUnit { s with hw := { s.hw with osc := 1 } } 30 .ready else { s with hw := { s.hw with osc := 1 } }

theorem oscUp_keeps (s : State) : Frame [.hw, .boot, .logb] s (oscUp s) ∧ (oscUp s).hw = { s.hw with osc := 1 } ∧
    unitSt (oscUp s) 30 = if running s then .ready else unitSt s 30 := by
  have ho : Frame [.hw, .boot, .logb] s { s with hw := { s.hw with osc := 1 } } :=
    ((within_withHw ..).mono (by decide)).frame
  unfold oscUp
  split
  · exact ⟨ho.trans ((frame_setUnit ..).mono (by decide)), setUnit_hw .., unitSt_setUnit _ _ _ (unitPresent_clock _)⟩
  · exact ⟨ho, rfl, rfl⟩

theorem exec_oscReady {dt : Nat} {s : State} (ho : (advance dt s).hw.osc = 0) (hv : (advance dt s).hw.vinGood = true) :
    exec (.oscReady dt) s = done (oscUp (advance dt s)) := by
  change execOscReady dt s = _
  unfold execOscReady
  exact if_pos (by rw [ho, hv]; rfl)

/-! ## The hub's release -/

/-- The ROM's gateway enters its phase with no boot timeout; besides, the roll call alone changes. -/
theorem romGateway_keeps (s : State) (ph : Phase) : Frame [.boot, .logb] s (romGateway s ph) ∧
    (romGateway s ph).boot = { s.boot with phase := ph, wdtBoot := none, roll := (romGateway s ph).boot.roll } := by
  have hp : Frame [.boot, .logb] s { s with boot := { s.boot with phase := ph, wdtBoot := none } } :=
    Within.frame ⟨fun c hc => by cases c <;> simp_all [Comp.same]⟩
  exact ⟨hp.trans (frame_foldl (fun _ _ => frame_setUnit ..) _ _), rollBut_foldl_setUnit id .starting _ _⟩

/-- The hub released into the boot ROM, the straps not yet read (R76, R77, R528). -/
def released (s : State) (selB : Bool) : State :=
  { s with hw := { s.hw with hubDue := none, strapB := selB }, rtc := { s.rtc with lockout := false }
           boot := { s.boot with phase := .rom, slotTry := activeSlot s, triedOther := false, resetCause := s.boot.cause, cause := 0
                                 wdtBoot := some (s.now + 2000000000), wdt0 := {}, wdt1 := {}, lapsed := false, partsUp := false } }

/-- The logbook rebuilt at a hub start, with what happened while it did not run (R515, R524, R537). -/
def logRebuilt (s : State) : State := tamperCopy (rtcLogStart (logStart s))

/-- The kept values latched, with the Prefect as at a hub start. -/
def latched (s : State) : State := latchKept { s with pf := { digest := s.pf.digest, bundle := s.pf.bundle } }

/-- A hub start up to the values latched. -/
def hubLatched (s : State) (ga : Nat) (gap selB : Bool) : State :=
  latched (geoRead (bump (logRebuilt (released s selB)) 0x010011 0) ga gap)

/-- The times of the self-test's parts begin at the hub start. -/
def selfTimed (s : State) : State := { s with pair := { s.pair with selfAt := (upto 10).map fun n => (n, s.now) } }

/-- A hub start before a gateway comes up. -/
def hubStarted (s : State) (ga : Nat) (gap selB : Bool) : State := selfTimed (hubLatched s ga gap selB)

theorem hubUp_eq (s : State) (ga : Nat) (gap selB : Bool) : hubUp s ga gap selB = if life (hubStarted s ga gap selB) ≥ 3
    then romGateway (hubStarted s ga gap selB) .gateway else hubStarted s ga gap selB := by
  delta hubUp
  extract_lets b hw rtc u rebuilt read kept pair w
  have hu : u = released s selB := rfl
  clear_value u
  have hr : rebuilt = logRebuilt u := rfl
  clear_value rebuilt
  have hk : kept = latched read := rfl
  clear_value kept
  have hs : w = selfTimed kept := rfl
  have he : w = hubStarted s ga gap selB := by
    unfold hubStarted hubLatched
    rw [hs, hk, ← hu, ← hr]
  rw [he]

theorem within_mirrorPut (s : State) (n : Nat) : Within [.logb] s (mirrorPut s n) :=
  ⟨fun c hc => by cases c <;> simp_all [Comp.same, mirrorPut]⟩

theorem within_mirrorCut (s : State) : Within [.freeCtr, .ctrs, .logb] s (mirrorCut s) := by
  unfold mirrorCut
  split
  case h_1 => exact Within.refl ..
  case h_2 n _ _ =>
    have hf : Within [.freeCtr, .ctrs, .logb] s (fresh s).2 := ⟨fun c hc => by cases c <;> simp_all [Comp.same, fresh]⟩
    refine hf.trans ?_
    generalize fresh s = f
    obtain ⟨v, u⟩ := f
    dsimp only
    split
    · exact Within.refl ..
    · refine Within.trans ((within_mirrorPut u n).mono (by decide)) ?_
      split
      · exact Within.refl ..
      · exact ⟨fun c hc => by cases c <;> simp_all [Comp.same]⟩

theorem within_logStart (s : State) : Within [.freeCtr, .ctrs, .logb] s (logStart s) := by
  unfold logStart
  exact (within_mirrorCut s).trans ⟨fun c hc => by cases c <;> simp_all [Comp.same]⟩

/-- What the RTC forgets when the log of its backup time is written. -/
def rtcTold (r : Rtc) : Rtc := { r with pendFire := none, pendOsf := false, pendSwitch := none }

theorem rtcLogStart_keeps (s : State) : Within [.rtc, .logb] s (rtcLogStart s) ∧ (rtcLogStart s).rtc = rtcTold s.rtc := by
  have hs : Within [.rtc, .logb] s (setRtc s (rtcTold s.rtc)) := ⟨fun c hc => by cases c <;> simp_all [Comp.same, setRtc]⟩
  have hl : Within [.logb] (setRtc s (rtcTold s.rtc)) (rtcLogStart s) := by
    delta rtcLogStart
    extract_lets r u v w
    have hv : Within [.logb] u v := by
      unfold v
      split
      · exact within_logRec ..
      · exact Within.refl ..
    have hw : Within [.logb] v w := by
      unfold w
      split
      · exact within_logRec ..
      · exact Within.refl ..
    refine (hv.trans hw).trans ?_
    split
    · exact within_logRec ..
    · exact Within.refl ..
  exact ⟨hs.trans (hl.mono (by decide)), hl.agrees .rtc (by decide)⟩

theorem within_tamperCopy (s : State) : Within [.vault, .logb] s (tamperCopy s) := by
  delta tamperCopy
  extract_lets u v
  have hu : Within [.logb] s u := within_foldl (fun _ _ => within_logRec ..) _ _
  have hv : Within [.logb] u v := by
    unfold v
    split
    · exact within_logRec ..
    · exact Within.refl ..
  exact ((hu.trans hv).mono (by decide)).trans ⟨fun c hc => by cases c <;> simp_all [Comp.same]⟩

theorem logRebuilt_keeps (s : State) : Within [.freeCtr, .ctrs, .vault, .rtc, .logb] s (logRebuilt s) ∧
    (logRebuilt s).rtc.lockout = s.rtc.lockout := by
  have hl := within_logStart s
  obtain ⟨hr, hrtc⟩ := rtcLogStart_keeps (logStart s)
  have ht := within_tamperCopy (rtcLogStart (logStart s))
  refine ⟨(hl.mono (by decide)).trans ((hr.mono (by decide)).trans (ht.mono (by decide))), ?_⟩
  rw [show (logRebuilt s).rtc = (rtcLogStart (logStart s)).rtc from ht.agrees .rtc (by decide), hrtc,
    show (logStart s).rtc = s.rtc from hl.agrees .rtc (by decide)]
  rfl

/-- The geographic address as R36 reads it, with a record on even parity. -/
theorem geoRead_keeps (s : State) (ga : Nat) (gap : Bool) : Within [.hw, .logb] s (geoRead s ga gap) ∧ (geoRead s ga gap).hw =
    { s.hw with geo := if (b2n gap + sumN ((upto 5).map fun i => b2n (bit ga i))) % 2 == 0 then 0xFF else ga % 32 } := by
  unfold geoRead
  dsimp only
  split
  · exact ⟨⟨fun c hc => by cases c <;> simp_all [Comp.same]⟩, rfl⟩
  · exact ⟨⟨fun c hc => by cases c <;> simp_all [Comp.same]⟩, rfl⟩

/-- Besides the watchdog's period nothing of the start-up state is latched. -/
theorem latched_keeps (s : State) : Within [.pf, .vault, .boot, .cap, .pair] s (latched s) ∧
    (latched s).boot = { s.boot with wdtPeriod := (latched s).boot.wdtPeriod } := by
  have ha : Within [.pf, .vault] s (anchorsStart { s with pf := { digest := s.pf.digest, bundle := s.pf.bundle } }) :=
    ⟨fun c hc => by cases c <;> simp_all [Comp.same, anchorsStart]⟩
  have hb : ∀ u : State, Within [.pf, .vault] u (bucketsFull u) := fun u =>
    within_foldl (fun _ _ => ⟨fun c hc => by cases c <;> simp_all [Comp.same]⟩) _ _
  have h := ha.trans (hb _)
  refine ⟨(h.mono (by decide)).trans ⟨fun c hc => by cases c <;> simp_all [Comp.same, latched, latchKept]⟩, ?_⟩
  unfold latched latchKept
  dsimp only
  rw [show (bucketsFull _).boot = _ from h.agrees .boot (by decide)]

theorem within_withPair (s : State) (p : Pair) : Within [.pair] s { s with pair := p } :=
  ⟨fun c hc => by cases c <;> simp_all [Comp.same]⟩

/-- The components a hub start may change. -/
def Comp.start : List Comp := [.freeCtr, .ctrs, .hw, .boot, .parts, .pair, .pf, .vault, .rtc, .logb, .cap]

/-- What a hub start brings before the values are latched, and that latching keeps it. -/
theorem hubLatched_keeps (s : State) (ga : Nat) (gap selB : Bool) : Within Comp.start s (hubLatched s ga gap selB) ∧
    (hubLatched s ga gap selB).hw = { (released s selB).hw with geo := (if
      (b2n gap + sumN ((upto 5).map fun i => b2n (bit ga i))) % 2 == 0 then 0xFF else ga % 32) } ∧
    (hubLatched s ga gap selB).boot = { (released s selB).boot with wdtPeriod := (hubLatched s ga gap selB).boot.wdtPeriod } ∧
    (hubLatched s ga gap selB).rtc.lockout = false := by
  have hr : Within Comp.start s (released s selB) := ⟨fun c hc => by cases c <;> simp_all [Comp.same, Comp.start, released]⟩
  obtain ⟨hl, hlock⟩ := logRebuilt_keeps (released s selB)
  have hb : Within [.freeCtr, .ctrs, .vault, .rtc, .logb] (released s selB) (bump (logRebuilt (released s selB)) 0x010011 0) :=
    hl.trans ((within_bump ..).mono (by decide))
  have hlock' : (bump (logRebuilt (released s selB)) 0x010011 0).rtc.lockout = false := by rw [bump_rtc, hlock]; rfl
  unfold hubLatched
  generalize bump (logRebuilt (released s selB)) 0x010011 0 = u at *
  obtain ⟨hg, hgeo⟩ := geoRead_keeps u ga gap
  generalize geoRead u ga gap = v at *
  obtain ⟨hk, hboot⟩ := latched_keeps v
  generalize latched v = w at *
  generalize released s selB = r at *
  refine ⟨hr.trans ((hb.mono (by decide)).trans ((hg.mono (by decide)).trans (hk.mono (by decide)))), ?_, ?_, ?_⟩
  · rw [show w.hw = v.hw from hk.agrees .hw (by decide), hgeo, show u.hw = r.hw from hb.agrees .hw (by decide)]
  · rw [hboot, show v.boot = u.boot from hg.agrees .boot (by decide), show u.boot = r.boot from hb.agrees .boot (by decide)]
  · rw [show w.rtc = v.rtc from hk.agrees .rtc (by decide), show v.rtc = u.rtc from hg.agrees .rtc (by decide), hlock']

/-- What a hub start brings (R36, R37, R76, R77, R528). -/
theorem hubStarted_keeps (s : State) (ga : Nat) (gap selB : Bool) : Within Comp.start s (hubStarted s ga gap selB) ∧
    (hubStarted s ga gap selB).hw = { (released s selB).hw with geo := (if
      (b2n gap + sumN ((upto 5).map fun i => b2n (bit ga i))) % 2 == 0 then 0xFF else ga % 32) } ∧
    (hubStarted s ga gap selB).boot = { (released s selB).boot with wdtPeriod := (hubStarted s ga gap selB).boot.wdtPeriod } ∧
    (hubStarted s ga gap selB).rtc.lockout = false := by
  obtain ⟨hw, hk⟩ := hubLatched_keeps s ga gap selB
  unfold hubStarted
  generalize hubLatched s ga gap selB = u at *
  exact ⟨hw.trans ((within_withPair ..).mono (by decide)), hk⟩

theorem life_hubStarted (s : State) (ga : Nat) (gap selB : Bool) : life (hubStarted s ga gap selB) = life s := by
  obtain ⟨-, -, hb, -⟩ := hubStarted_keeps s ga gap selB
  unfold life
  rw [hb]
  rfl

/-- Below QUARANTINE a hub start brings up the boot ROM. -/
theorem hubUp_rom {s : State} (ga : Nat) (gap selB : Bool) (h : life s < 3) : hubUp s ga gap selB = hubStarted s ga gap selB := by
  rw [hubUp_eq, if_neg (by rw [life_hubStarted]; exact Nat.not_le.2 h)]

/-- In QUARANTINE and DECOMMISSIONED the ROM's gateway comes up (R82, R93). -/
theorem hubUp_gateway {s : State} (ga : Nat) (gap selB : Bool) (h : 3 ≤ life s) : Frame Comp.start s (hubUp s ga gap selB) ∧
    (hubUp s ga gap selB).boot.phase = .gateway ∧ (hubUp s ga gap selB).boot.wdtBoot = none ∧
    (hubUp s ga gap selB).boot.resetCause = s.boot.cause ∧ (hubUp s ga gap selB).hw.strapB = selB ∧
    (hubUp s ga gap selB).rtc.lockout = false := by
  obtain ⟨hw, hhw, hboot, hlock⟩ := hubStarted_keeps s ga gap selB
  rw [hubUp_eq, if_pos (by rw [life_hubStarted]; exact h)]
  generalize hubStarted s ga gap selB = u at *
  obtain ⟨hf, hb⟩ := romGateway_keeps u .gateway
  have hr : (romGateway u .gateway).rtc = u.rtc := hf.2 .rtc (by decide)
  have hh : (romGateway u .gateway).hw = u.hw := hf.2 .hw (by decide)
  refine ⟨hw.frame.trans (hf.mono (by decide)), ?_, ?_, ?_, ?_, ?_⟩
  · rw [hb]
  · rw [hb]
  · rw [hb, hboot]
    rfl
  · rw [hh, hhw]
    rfl
  · rw [hr, hlock]

/-- HUB_RELEASE of a hub in reset, with the supply good and its time come, starts the hub (R76). -/
theorem exec_hubRelease {dt ga : Nat} {gap selB : Bool} {s : State} (hp : (advance dt s).boot.phase = .reset)
    (hv : (advance dt s).hw.vinGood = true) (hd : dueBy (advance dt s) (advance dt s).hw.hubDue = true) :
    exec (.hubRelease dt ga gap selB) s = done (hubUp (advance dt s) ga gap selB) := by
  change execHubRelease dt ga gap selB s = _
  unfold execHubRelease
  exact if_pos (by rw [hp, hv, hd]; rfl)

/-! ## The power-fail sequence -/

/-- The state whose hub goes down in the power-fail sequence: outputs safe, retained data saved, the logbook flushed (R48, R99, R100). -/
def madeSafe (s : State) : State := logFlush (retentSave (logRec (blockAll s) 0x0127 64 []))

theorem powerFail_eq (s : State) :
    powerFail s = { hubDown (madeSafe s) with hw := { (hubDown (madeSafe s)).hw with pfSeq := some (s.now + 5000000) } } := by
  unfold powerFail madeSafe
  rfl

theorem within_retentSave (s : State) : Within [.lg] s (retentSave s) := by
  unfold retentSave
  split
  · exact Within.refl ..
  · exact ⟨fun c hc => by cases c <;> simp_all [Comp.same]⟩

theorem within_madeSafe (s : State) : Within (.lg :: .logb :: .pf :: .pair :: Comp.ring) s (madeSafe s) :=
  ((within_blockAll s).mono (by decide)).trans (((within_logRec ..).mono (by decide)).trans
    (((within_retentSave _).mono (by decide)).trans ((within_logFlush _).mono (by decide))))

/-- A hub whose supply is gone is held in reset, its vault's port locked out, also when VIN has returned. -/
theorem hubDown_keeps (s : State) : Within Comp.hub s (hubDown s) ∧ heldReset s (hubDown s) 1 ∧ (hubDown s).rtc.lockout = true ∧
    (hubDown s).hw.pf = false := by
  have hr := within_hubReset s true 1
  have hh := heldReset_hubReset s true 1
  have hl : (hubReset s true 1).rtc.lockout = true := by rw [hubReset_rtc, rtcKept_lockout]
  have hp : (hubReset s true 1).hw.pf = false := by rw [hubReset_hw]; rfl
  have he : hubDown s = if (hubReset s true 1).hw.vinGood then supplyUp (hubReset s true 1) else hubReset s true 1 := rfl
  rw [he]
  generalize hubReset s true 1 = u at *
  split
  case isFalse => exact ⟨hr, hh, hl, hp⟩
  case isTrue =>
    have hu := frame_supplyUp u
    have hw : Within Comp.hub u (supplyUp u) := hu.within.mono (by decide)
    obtain ⟨h1, h2, h3, h4, h5, h6, h7⟩ := hh
    have hb : (supplyUp u).boot = _ := rollBut_supplyUp u
    refine ⟨hr.trans hw, ⟨?_, ?_, ?_, ?_, ?_, ?_, ?_⟩, ?_, ?_⟩
    · rw [hb, ← h1]
    · rw [hb, ← h2]
    · rw [hu.2 .pf (by decide), h3]
    · rw [supplyUp_jal_of_no_session (by rw [h4]), h4]
    · rw [hu.2 .net (by decide), h5]
    · rw [hu.2 .tt (by decide), h6]
    · rw [hu.2 .ph (by decide), h7]
    · rw [hu.2 .rtc (by decide), hl]
    · rw [supplyUp_hw]
      exact hp

theorem powerFail_keeps (s : State) : Within Comp.hub s (powerFail s) ∧ heldReset s (powerFail s) 1 ∧ (powerFail s).rtc.lockout = true ∧
    (powerFail s).hw.pf = false := by
  have hm := within_madeSafe s
  obtain ⟨hw, hh, hl, hp⟩ := hubDown_keeps (madeSafe s)
  have hh' : heldReset s (hubDown (madeSafe s)) 1 := heldReset_congr (by rw [show (madeSafe s).jal = s.jal from hm.agrees .jal (by decide)]) hh
  rw [powerFail_eq]
  generalize hubDown (madeSafe s) = u at *
  exact ⟨(hm.mono (by decide)).trans (hw.trans ((within_withHw ..).mono (by decide))), hh', hl, hp⟩

/-- RIDE_THROUGH_EXPIRY of a power failure whose timer has run out is the power-fail sequence (R48). -/
theorem exec_rideThroughExpiry {dt : Nat} {s : State} (hpf : (advance dt s).hw.pf = true)
    (hd : dueBy (advance dt s) (advance dt s).hw.rideDue = true) : exec (.rideThroughExpiry dt) s = done (powerFail (advance dt s)) := by
  change execRideThroughExpiry dt s = _
  unfold execRideThroughExpiry
  exact if_pos (by rw [hpf, hd]; rfl)

theorem does_rideThroughExpiry {dt : Nat} {s : State} (hpf : (advance dt s).hw.pf = true)
    (hd : dueBy (advance dt s) (advance dt s).hw.rideDue = true) : Does (.rideThroughExpiry dt) s (advance dt s) Comp.hub fun t =>
      heldReset (advance dt s) t 1 ∧ t.rtc.lockout = true ∧ t.hw.pf = false := by
  have hx := exec_rideThroughExpiry hpf hd
  generalize advance dt s = a at *
  obtain ⟨hw, hh, hl, hp⟩ := powerFail_keeps a
  generalize powerFail a = t at *
  exact does_within hx hw ⟨heldReset_settle hh, hl, hp⟩

/-! ## The power-fail signal -/

/-- PF_ASSERT with the store ready starts the ride-through timer (R46). -/
def riding (a : State) (ov : Bool) : State :=
  logRec (bump { a with hw := { a.hw with
    vinGood := false, pf := true, pfAt := a.now - (if ov then 10000 else 100000), holdup := 2
    rideDue := some (a.now + 20000000) } } 0x600103 0) 0x0111 64 []

theorem exec_pfAssert {dt : Nat} {ov : Bool} {s : State} (hpf : (advance dt s).hw.pf = false) (hv : (advance dt s).hw.vinGood = true) :
    exec (.pfAssert dt ov) s = done (if (advance dt s).hw.holdup != 1 then vinLost (advance dt s) else riding (advance dt s) ov) := by
  change execPfAssert dt ov s = _
  unfold execPfAssert
  generalize advance dt s = a at *
  rw [if_neg (by rw [hpf, hv]; decide)]
  split
  · rfl
  · rfl

/-- The state in which VIN has returned within the ride-through time (R47). -/
def ridden (a : State) : State :=
  logRec { a with hw := { a.hw with vinGood := true, pf := false, rideDue := none, holdup := 1 } } 0x0112 64 (ints [a.now - 1000000 - a.hw.pfAt])

theorem exec_pfClear {dt : Nat} {s : State} (hpf : (advance dt s).hw.pf = true)
    (hd : dueBy (advance dt s) (advance dt s).hw.rideDue = false) : exec (.pfClear dt) s = done (ridden (advance dt s)) := by
  change execPfClear dt s = _
  unfold execPfClear
  generalize advance dt s = a at *
  rw [if_neg (by rw [hpf, hd]; decide)]
  rfl

theorem within_riding (a : State) (ov : Bool) : Within [.hw, .ctrs, .logb] a (riding a ov) :=
  ((within_withHw ..).mono (by decide)).trans (((within_bump ..).mono (by decide)).trans ((within_logRec ..).mono (by decide)))

theorem within_ridden (a : State) : Within [.hw, .logb] a (ridden a) :=
  ((within_withHw ..).mono (by decide)).trans ((within_logRec ..).mono (by decide))

/-! ## RESTART -/

/-- A command that closes every session leaves no response. -/
theorem answer_of_no_session {r : Res} (h : r.s.jal.sess = []) (rq : Req) (op : Nat) : answer rq op r = r.s := by
  simp only [answer, respond, sessOf, h, tabGet_nil]

theorem within_setSess (s : State) (n : Nat) (x : Sess) : Within [.jal] s (setSess s n x) :=
  ⟨fun c hc => by cases c <;> simp_all [Comp.same, setSess]⟩

/-- RESTART resets the hub, which is released at once (R54, R107). -/
theorem does_restart {dt : Nat} {s : State} {rq : Req} (h : cmdRuns (advance dt s) rq 0x010014 0 [] = true) :
    Does (.restart dt rq) s (advance dt s) Comp.hub fun t => heldReset (advance dt s) t 3 ∧ t.hw.hubDue = some (advance dt s).now := by
  generalize ha : advance dt s = a at *
  obtain ⟨x, hb⟩ := began_of_cmdRuns h
  have hx : exec (.restart dt rq) s = done (doExec a rq 0x010014 0 opRestart) := by rw [← ha]; rfl
  have hs : Within [.jal] a (began a rq) := by
    rw [hb]
    exact within_setSess ..
  have hw : Within Comp.hub a (hubReset (began a rq) false 3) := (hs.mono (by decide)).trans (within_hubReset ..)
  have hh : heldReset a (hubReset (began a rq) false 3) 3 := heldReset_congr (by rw [hb]; rfl) (heldReset_hubReset ..)
  refine does_cmd hx h (show okS ≠ pendingS by decide) (fun hj => absurd (by decide) hj) (hw.mono (by decide)).agrees ?_
  rw [answer_of_no_session (r := opRestart (began a rq)) (by obtain ⟨-, -, -, hj, -⟩ := hh; exact congrArg Jal.sess hj)]
  refine ⟨heldReset_settle hh, ?_⟩
  change (hubReset (began a rq) false 3).hw.hubDue = _
  rw [hubReset_hw, ← show (began a rq).now = a.now from hs.agrees .now (by decide)]
  rfl

end Sys2Proof.Machine

/-- Settles O1: each event's state is the one its rule builds; the resets go through `hubReset`, and the release through `hubStarted`,
after which in QUARANTINE and DECOMMISSIONED the ROM's gateway comes up. -/
theorem supplyEventsHubResetsAndRelease : Obligations.SupplyEventsHubResetsAndRelease := by
  intro dt s a
  refine ⟨fun hv hpf hp => ?supplyGood, fun hv hh => ?holdupReady, fun ho hv => ?oscReady, fun ov hpf hv hh => ?pfAssert,
    fun ov hpf hv hh => ?pfCharging, fun hpf hd => ?pfClear, fun hs => ?insert, ?remove,
    fun ga gap selB hp hv hd hlife => ?release, fun ga gap selB hp hv hd hlife => ?gateway, fun hpf hd => ?expiry, fun rq h => ?restart⟩
  case supplyGood =>
    have hg : Frame [.hw, .boot, .logb] a { a with hw := { a.hw with vinGood := true } } :=
      ((within_withHw ..).mono (by decide)).frame
    have hw := supplyUp_hw { a with hw := { a.hw with vinGood := true } }
    exact does_frame (exec_supplyGood hv hpf hp) (hg.trans (frame_supplyUp _)) ⟨congrArg Hw.vinGood hw, congrArg Hw.hubDue hw,
      congrArg Hw.holdup hw, congrArg Hw.osc hw, unitSt_supplyUp _, congrArg Hw.cages hw⟩
  case holdupReady =>
    have hx : exec (.holdupReady dt) s = done { a with hw := { a.hw with holdup := 1 } } :=
      if_pos (by rw [show (advance dt s).hw.vinGood = true from hv, show (advance dt s).hw.holdup = 0 from hh]; rfl)
    exact does_within hx (within_withHw ..) rfl
  case oscReady =>
    obtain ⟨hf, hw, hu⟩ := oscUp_keeps a
    exact does_frame (exec_oscReady ho hv) hf ⟨hw, hu⟩
  case pfAssert =>
    have hx : exec (.pfAssert dt ov) s = done (riding a ov) := by
      rw [exec_pfAssert hpf hv, if_neg (by rw [show (advance dt s).hw.holdup = 1 from hh]; decide)]
    exact does_within hx (within_riding ..) ⟨rfl, rfl⟩
  case pfCharging =>
    have hx : exec (.pfAssert dt ov) s = done (vinLost a) := by
      rw [exec_pfAssert hpf hv, if_pos (bne_iff_ne.2 hh)]
    obtain ⟨hw, hr, -, hv', hpf', -⟩ := vinLost_keeps a
    exact does_within hx hw ⟨heldReset_settle hr, hv', hpf'⟩
  case pfClear =>
    exact does_within (exec_pfClear hpf hd) (within_ridden ..) ⟨rfl, rfl⟩
  case insert =>
    have hx : exec (.moduleInsert dt) s = done { a with hw := { a.hw with seated := true, loopOpen := false } } :=
      if_neg (by rw [show (advance dt s).hw.seated = false from hs]; decide)
    exact does_within hx (within_withHw ..) rfl
  case remove =>
    have hx : exec (.moduleRemove dt) s = done { a with hw := { a.hw with seated := false, loopOpen := true } } := rfl
    exact does_within hx (within_withHw ..) rfl
  case release =>
    obtain ⟨hw, hhw, hboot, hlock⟩ := hubStarted_keeps a ga gap selB
    have hx : exec (.hubRelease dt ga gap selB) s = done (hubStarted a ga gap selB) := by
      rw [exec_hubRelease hp hv hd, hubUp_rom _ _ _ hlife]
    exact does_within hx hw ⟨congrArg Boot.phase hboot, congrArg Boot.slotTry hboot, congrArg Boot.wdtBoot hboot,
      congrArg Boot.resetCause hboot, congrArg Hw.strapB hhw, congrArg Hw.geo hhw, hlock⟩
  case gateway =>
    have hx := exec_hubRelease (ga := ga) (gap := gap) (selB := selB) hp hv hd
    obtain ⟨hf, hk⟩ := hubUp_gateway ga gap selB hlife
    generalize hubUp a ga gap selB = t at *
    exact does_frame hx hf hk
  case expiry =>
    exact does_rideThroughExpiry hpf hd
  case restart => exact does_restart h
end

section
/-! PROOF. The dump written, its slots, the lamp test and the temperature warning (R44, R69, R102, R105, R107). -/

open Sys2Proof Sys2Proof.Machine

namespace Sys2Proof.Machine

/-- A command whose effect stays within components other than Jalyn's completes with it. -/
theorem completes_within {a : State} {rq : Req} {l : List Comp} {eff : State → Prop} {r : Res} {x : Sess} (hs : r.status ≠ pendingS)
    (hw : Within l (setSess a rq.sess x) r.s) (hj : Comp.jal ∉ l)
    (he : ∀ t, (∀ c : Comp, c ≠ .jal → c.same r.s t) → answered t rq r.status = true → eff t) : Completes a rq l eff r := by
  have hjal : r.s.jal = (setSess a rq.sess x).jal := hw.agrees .jal hj
  refine ⟨hs, ?_, fun _ => ?_, (((within_setSess a rq.sess x).mono (by simp)).trans (hw.mono (List.subset_cons_self ..))).agrees, he⟩
  · simp only [sessOf, hjal]
    exact congrArg Option.isSome (sessOf_setSess a rq.sess x)
  · simp only [jalBut, hjal]
    rfl

/-- A command denied answers its status and changes nothing. -/
theorem completes_deny {a : State} {rq : Req} {eff : State → Prop} {x : Sess} {st : Nat} (hs : st ≠ pendingS)
    (he : ∀ t, (∀ c : Comp, c ≠ .jal → c.same a t) → answered t rq st = true → eff t) :
    Completes a rq [] eff (deny (setSess a rq.sess x) st) :=
  completes_within hs (Within.refl ..) (by decide) fun t ht ha => he t (fun c hc => by
    have := ht c hc
    cases c <;> first | exact absurd rfl hc | exact this) ha

/-! ## The end of a dump -/

theorem within_withBoot (s : State) (b : Boot) : Within [.boot] s { s with boot := b } :=
  ⟨fun c hc => by cases c <;> simp_all [Comp.same]⟩

/-- A record offered and taken at once. -/
theorem within_logTake_logRec (s : State) (code src : Nat) (data : List Int) : Within Comp.log s (logTake (logRec s code src data)) :=
  ((within_logRec ..).mono (by decide)).trans (within_logTake ..)

/-- The state in which a complete dump ends: its head VALID, with the slot it was copied to, and recorded. -/
def dumpWritten (s : State) : State :=
  let h := { dumpOf s 4 with st := 1 }
  let u := setDump s 4 h
  match s.boot.dumpNow with
  | some k => logTake (logRec (setDump u k h) 0x0124 0x97 (ints [k, h.cause]))
  | none => logTake (logRec u 0x0125 0x97 (ints [h.cause]))

theorem exec_dumpWriteDone {dt : Nat} {s : State} (hp : (advance dt s).boot.phase = .dump) :
    exec (.dumpWriteDone dt) s = done (fatalEnd (dumpWritten (advance dt s)) false) := by
  change execDumpWriteDone dt s = _
  unfold execDumpWriteDone dumpWritten
  generalize advance dt s = a at *
  rw [if_neg (by rw [hp]; decide)]
  dsimp only [setDump]
  cases a.boot.dumpNow <;> rfl

/-- The slots after a dump is written. -/
def dumpsWritten (s : State) : Tab Dump :=
  let h := { dumpOf s 4 with st := 1 }
  match s.boot.dumpNow with
  | some k => tabPut (tabPut s.boot.dumps 4 h) k h
  | none => tabPut s.boot.dumps 4 h

theorem dumpWritten_keeps (s : State) : Within [.boot, .ctrs, .logb] s (dumpWritten s) ∧
    (dumpWritten s).boot = { s.boot with dumps := dumpsWritten s } := by
  unfold dumpWritten dumpsWritten
  cases s.boot.dumpNow with
  | none =>
    have hl := within_logTake_logRec (setDump s 4 { dumpOf s 4 with st := 1 }) 0x0125 0x97 (ints [(dumpOf s 4).cause])
    exact ⟨((within_setDump ..).mono (by decide)).trans (hl.mono (by decide)), hl.agrees .boot (by decide)⟩
  | some k =>
    have hl := within_logTake_logRec (setDump (setDump s 4 { dumpOf s 4 with st := 1 }) k { dumpOf s 4 with st := 1 }) 0x0124 0x97
      (ints [k, (dumpOf s 4).cause])
    exact ⟨((within_setDump ..).mono (by decide)).trans (((within_setDump ..).mono (by decide)).trans (hl.mono (by decide))),
      hl.agrees .boot (by decide)⟩

/-- A dump that ends in its order halts the hub as it stands, or restarts it (R107). -/
theorem fatalEnd_inOrder (s : State) : Within Comp.hub s (fatalEnd s false) ∧
    (fatalEnd s false).boot.phase = (if s.vn 0x010015 0 == 1 || (recentFatals s).length ≥ 3 then .halt else .reset) ∧
    (fatalEnd s false).boot.dumpNow = none ∧ (fatalEnd s false).boot.dumps = s.boot.dumps := by
  have he : fatalEnd s false = if s.vn 0x010015 0 == 1 || (recentFatals s).length ≥ 3
    then { dumpOver s (recentFatals s) with boot := { (dumpOver s (recentFatals s)).boot with phase := .halt } }
    else hubReset (dumpOver s (recentFatals s ++ [s.now])) false 2 := rfl
  rw [he]
  split
  case isTrue =>
    exact ⟨((within_dumpOver ..).mono (by decide)).trans ((within_withBoot ..).mono (by decide)), rfl, rfl, rfl⟩
  case isFalse =>
    obtain ⟨hp, hn, hd, -⟩ := hubReset_keeps (dumpOver s (recentFatals s ++ [s.now])) 2
    exact ⟨((within_dumpOver ..).mono (by decide)).trans (within_hubReset ..), hp, hn, hd⟩

/-- DUMP_WRITE_DONE of a dump ends it: its slots are written, and the hub restarts or halts. -/
theorem does_dumpWriteDone {dt : Nat} {s : State} (hp : (advance dt s).boot.phase = .dump) :
    Does (.dumpWriteDone dt) s (advance dt s) Comp.hub fun t => t.boot.dumps = dumpsWritten (advance dt s) ∧ t.boot.dumpNow = none ∧
      t.boot.phase = (if (advance dt s).vn 0x010015 0 == 1 || (recentFatals (advance dt s)).length ≥ 3 then .halt else .reset) := by
  have hx := exec_dumpWriteDone hp
  generalize advance dt s = a at *
  obtain ⟨hw, hb⟩ := dumpWritten_keeps a
  have hvn : (dumpWritten a).vn 0x010015 0 = a.vn 0x010015 0 := vn_restart_congr (hw.agrees .store (by decide))
  have hrec : recentFatals (dumpWritten a) = recentFatals a := recentFatals_congr (by rw [hb]) (hw.agrees .now (by decide))
  have hd : (dumpWritten a).boot.dumps = dumpsWritten a := by rw [hb]
  obtain ⟨ew, ep, en, ed⟩ := fatalEnd_inOrder (dumpWritten a)
  rw [hvn, hrec] at ep
  generalize fatalEnd (dumpWritten a) false = t at *
  exact does_within hx ((hw.mono (by decide)).trans ew) ⟨ed.trans hd, en, ep⟩

theorem dumpOf_of_dumps {t : State} {d : Tab Dump} (h : t.boot.dumps = d) (k : Nat) : dumpOf t k = tabGetD d k {} := by
  simp only [dumpOf, h]

/-- TEMP_WARNING of a sensor there is shows the temperature and records it from 110 degrees (R69). -/
theorem exec_tempWarning {dt die : Nat} {milliC : Int} {s : State} (hd : die ≤ 1 + dieCount (advance dt s)) (hm : milliC ≥ 110000)
    (hup : hubUpNow (advance dt s) = true) :
    exec (.tempWarning dt die milliC) s = done (logRec (setTemp (advance dt s) die milliC) 0x0113 64 [(die : Int), milliC]) := by
  change execTempWarning dt die milliC s = _
  unfold execTempWarning
  generalize advance dt s = a at *
  rw [if_neg (by simp [hd, hup])]
  exact congrArg done (if_pos hm)

end Sys2Proof.Machine

/-- Settles O4: the end of a dump writes the slots before the hub restarts or halts; the commands' effects are `opDumpProtect`,
`opDumpRelease` and `opLampTest`. -/
theorem dumpSlotsLampsAndTemperature : Obligations.DumpSlotsLampsAndTemperature := by
  intro dt s a
  refine ⟨fun k hp hn hk => ?slot, fun rq slot h hst => ?protect, fun rq slot h hst => ?refused, fun hp hn => ?noSlot,
    fun rq slot h => ?release, fun rq h => ?lamp, fun hd => ?lampEnd, fun die milliC hd hm hup => ?temp⟩
  case slot =>
    refine does_mono (does_dumpWriteDone hp) fun t ⟨hd, hnow, hph⟩ => ⟨?_, hnow, hph⟩
    have hw : dumpsWritten a = tabPut (tabPut a.boot.dumps 4 { dumpOf a 4 with st := 1 }) k { dumpOf a 4 with st := 1 } := by
      simp only [dumpsWritten, hn]
    rw [dumpOf_of_dumps (hd.trans hw), tabGetD_tabPut_self]
  case noSlot =>
    have hw : dumpsWritten a = tabPut a.boot.dumps 4 { dumpOf a 4 with st := 1 } := by
      simp only [dumpsWritten, hn]
    refine does_mono (does_dumpWriteDone hp) fun t ⟨hd, hnow, hph⟩ => ⟨?_, List.all_eq_true.2 fun k hk => ?_, hph⟩
    · rw [dumpOf_of_dumps (hd.trans hw), tabGetD_tabPut_self]
    · have hk4 : k ≠ 4 := by
        intro e
        subst e
        exact absurd hk (by decide)
      rw [dumpOf_of_dumps (hd.trans hw), tabGetD_tabPut, if_neg hk4]
      exact beq_self_eq_true _
  case protect =>
    refine does_completes rfl h fun x => ?_
    have ho : opDumpProtect (setSess a rq.sess x) slot = good (setDump (setSess a rq.sess x) slot { dumpOf a slot with st := 2 }) :=
      if_neg (by rw [show dumpOf (setSess a rq.sess x) slot = dumpOf a slot from rfl, hst]; decide)
    rw [ho]
    exact completes_within (show okS ≠ pendingS by decide) (within_setDump ..) (by decide) fun t ht ha => ⟨ht .boot (by decide), ha⟩
  case refused =>
    refine does_completes rfl h fun x => ?_
    have ho : opDumpProtect (setSess a rq.sess x) slot = deny (setSess a rq.sess x) stateS :=
      if_pos (bne_iff_ne.2 hst)
    rw [ho]
    exact completes_deny (by decide) fun t ht ha => ⟨ht .boot (by decide), ha⟩
  case release =>
    refine does_completes rfl h fun x => ?_
    refine completes_within (show okS ≠ pendingS by decide) (l := [.boot]) (x := x) (within_withBoot ..) (by decide) fun t ht ha => ?_
    have hb : t.boot = { a.boot with dumps := tabDel a.boot.dumps slot } := ht .boot (by decide)
    refine ⟨hb, ?_, ha⟩
    rw [dumpOf, hb, tabGetD, tabGet_tabDel_self]
    rfl
  case lamp =>
    refine does_completes rfl h fun x => ?_
    exact completes_within (show okS ≠ pendingS by decide) (l := [.hw]) (x := x) (within_withHw ..) (by decide) fun t ht ha =>
      ⟨ht .hw (by decide), ha⟩
  case lampEnd =>
    have hx : exec (.lampTestEnd dt) s = done { a with hw := { a.hw with lampEnd := none } } := if_pos hd
    exact does_within hx (within_withHw ..) rfl
  case temp =>
    exact does_within (exec_tempWarning hd hm hup) (((within_setTemp ..).mono (by decide)).trans ((within_logRec ..).mono (by decide)))
      ⟨rfl, rfl⟩
end

section
/-! PROOF. A transceiver removed from the cage of the pair's last lane (R39, R433, R473): a commit that waits for the partner is refused. -/

open Sys2Proof Sys2Proof.Machine

namespace Sys2Proof.Machine

/-- A paired unit whose one lane runs over cage 6 and whose commit, mirrored, waits for the partner's answer. -/
def commitMirrored : State where
  ident := { variant := 2, optP := true }
  boot := { phase := .run }
  hw := { cages := [(6, { present := true, powered := true })] }
  pair := { link := true, settled := some {}, lanes := [(0, { st := 3 })], mirrors := [{ id := 1, op := .commit [] }], nextMirror := 2 }
  jal := { commitMid := some 1 }

/-- The mirrored commit that still waits after a command. -/
def midNext (i : Instr) (s : State) : Option Nat :=
  match exec i s with
  | .next t => t.jal.commitMid
  | _ => none

/-- The removal takes the lane and the link down, and the commit ends without effect. -/
theorem transceiverRemove_refuses_commit : midNext (.transceiverRemove 0 6) commitMirrored = none := by decide +kernel

/-- A command that completes without changing the Jalyn component keeps the commit that waits. -/
theorem midNext_of_does {i : Instr} {s a : State} {but : List Comp} {eff : State → Prop} (h : Does i s a but eff) (hj : Comp.jal ∉ but) :
    midNext i s = a.jal.commitMid := by
  obtain ⟨t, hx, ⟨hjal, -⟩, -⟩ := h
  have ht : t.jal = _ := hjal hj
  simp only [midNext, hx]
  rw [ht]

end Sys2Proof.Machine

/-- Refutes O6: TRANSCEIVER_REMOVE of the cage that carries the pair's last lane takes the link down, which refuses the commit that waits
for the partner (R433): the Jalyn component changes, and its clause does not let it. -/
theorem not_cagesAndTransceivers : ¬ Obligations.CagesAndTransceivers := by
  unfold Obligations.CagesAndTransceivers
  intro h
  obtain ⟨-, -, hremove, -⟩ := h 0 commitMirrored
  have hd := hremove 6 (by decide +kernel)
  exact absurd ((midNext_of_does hd (by decide)).symm.trans transceiverRemove_refuses_commit) (by decide +kernel)
end

section
/-! PROOF. The live hub: what the engines that send frames, close rows and equalise them leave alone — the supply, the identity, the vault,
the kept values, what the timing inputs have seen, and of the start-up state all but the roll call and the measured paths. -/

open Sys2Proof Sys2Proof.Machine

namespace Sys2Proof.Machine

/-- The components the running hub's engines may change. -/
def Comp.live : List Comp :=
  [.ctrs, .boot, .tm, .net, .plan, .cond, .pub, .parts, .tt, .ph, .lg, .pair, .pf, .logb, .cap, .mem, .dirty]

/-- What the timing inputs have seen: the last edge and the last frames (R230, R231). -/
def inputsOf (t : Tm) : (Option Int × Nat) × Nat × Nat × Int × Nat := ((t.ppsLast, t.ppsSeen), t.irigSt, t.irigGood, t.irigLast, t.irigBad)

/-- Only the roll call and the measured paths differ in the boot component. -/
def bootBut (s t : State) : Prop :=
  t.boot = { s.boot with roll := t.boot.roll, pathWire := t.boot.pathWire, pathStage := t.boot.pathStage }

/-- A change that the running hub's engines may make. -/
structure Live (s t : State) : Prop where
  frame : Frame Comp.live s t
  inputs : inputsOf t.tm = inputsOf s.tm
  boot : bootBut s t

theorem Live.refl (s : State) : Live s s := ⟨Frame.refl .., rfl, rfl⟩

theorem bootBut_trans {s t u : State} (h : bootBut s t) (k : bootBut t u) : bootBut s u := by
  unfold bootBut at *
  rw [k, h]

theorem Live.trans {s t u : State} (h : Live s t) (k : Live t u) : Live s u :=
  ⟨h.frame.trans k.frame, k.inputs.trans h.inputs, bootBut_trans h.boot k.boot⟩

theorem live_foldl {α : Type} {f : State → α → State} (hf : ∀ s a, Live s (f s a)) (as : List α) (s : State) : Live s (as.foldl f s) :=
  foldl_keeps Live Live.refl (fun _ _ _ => Live.trans) f hf as s

theorem live_ite {c : Prop} [Decidable c] {s t u : State} (h : Live s t) (k : Live s u) : Live s (if c then t else u) := by
  split
  · exact h
  · exact k

/-- A change within live components other than the time counter and the start-up state. -/
theorem Within.live {l : List Comp} {s t : State} (h : Within l s t) (hs : l ⊆ Comp.live := by decide) (ht : Comp.tm ∉ l := by decide)
    (hb : Comp.boot ∉ l := by decide) : Live s t := by
  refine ⟨h.frame.mono hs, ?_, ?_⟩
  · rw [show t.tm = s.tm from h.agrees .tm ht]
  · unfold bootBut
    rw [show t.boot = s.boot from h.agrees .boot hb]

/-! ## Single changes -/

theorem live_bump (s : State) (ob sub : Nat) : Live s (bump s ob sub) := (within_bump ..).live

theorem live_bumpBy (s : State) (ob sub n : Nat) : Live s (bumpBy s ob sub n) :=
  Within.live (l := [.ctrs]) ⟨fun c hc => by cases c <;> simp_all [Comp.same]⟩

theorem live_logRec (s : State) (code src : Nat) (data : List Int) : Live s (logRec s code src data) := (within_logRec ..).live

theorem live_withNet (s : State) (x : Net) : Live s { s with net := x } :=
  Within.live (l := [.net]) ⟨fun c hc => by cases c <;> simp_all [Comp.same]⟩

theorem live_withPub (s : State) (x : Pub) : Live s { s with pub := x } :=
  Within.live (l := [.pub]) ⟨fun c hc => by cases c <;> simp_all [Comp.same]⟩

theorem live_withPlan (s : State) (x : Plan) : Live s { s with plan := x } :=
  Within.live (l := [.plan]) ⟨fun c hc => by cases c <;> simp_all [Comp.same]⟩

theorem live_withCond (s : State) (x : Cond) : Live s { s with cond := x } :=
  Within.live (l := [.cond]) ⟨fun c hc => by cases c <;> simp_all [Comp.same]⟩

theorem live_withPair (s : State) (x : Pair) : Live s { s with pair := x } := (within_withPair ..).live

theorem live_withPf (s : State) (x : Pf) : Live s { s with pf := x } :=
  Within.live (l := [.pf]) ⟨fun c hc => by cases c <;> simp_all [Comp.same]⟩

theorem live_withLg (s : State) (x : Lg) : Live s { s with lg := x } :=
  Within.live (l := [.lg]) ⟨fun c hc => by cases c <;> simp_all [Comp.same]⟩

theorem live_withParts (s : State) (x : Parts) : Live s { s with parts := x } :=
  Within.live (l := [.parts]) ⟨fun c hc => by cases c <;> simp_all [Comp.same]⟩

theorem live_setRing (s : State) (q : Nat) (x : Ring) : Live s (setRing s q x) := (within_setRing ..).live

/-- The time counter changed otherwise than by what its inputs have seen. -/
theorem live_withTm (s : State) {x : Tm} (h : inputsOf x = inputsOf s.tm) : Live s { s with tm := x } := by
  have hw : Within [.tm] s { s with tm := x } := ⟨fun c hc => by cases c <;> simp_all [Comp.same]⟩
  exact ⟨hw.frame.mono (by decide), h, rfl⟩

/-- The roll call or a measured path changed. -/
theorem live_withBoot (s : State) {x : Boot} (h : x = { s.boot with roll := x.roll, pathWire := x.pathWire, pathStage := x.pathStage }) :
    Live s { s with boot := x } :=
  ⟨(within_withBoot s x).frame.mono (by decide), rfl, h⟩

theorem live_seeNow (s : State) (ob sub : Nat) : Live s (seeNow s ob sub) := ⟨(frame_seeNow ..).mono (by decide), rfl, rfl⟩

theorem live_setUnit (s : State) (n : Nat) (st : USt) : Live s (setUnit s n st) := by
  refine ⟨(frame_setUnit ..).mono (by decide), ?_, ?_⟩
  · rw [setUnit_tm]
  · have h : (setUnit s n st).boot = _ := rollBut_setUnit s n st
    unfold bootBut
    rw [h]

theorem live_judgeUnit (s : State) (n : Nat) (bad : Bool) : Live s (judgeUnit s n bad) := by
  unfold judgeUnit
  exact live_ite (live_setUnit ..) (.refl ..)

/-! ## Jobs and the transmit rings -/

theorem live_setPort (s : State) (n : Nat) (x : Port) : Live s (setPort s n x) := live_withNet ..

theorem live_setJob (s : State) (j : Nat) (x : TxJob) : Live s (setJob s j x) := live_withNet ..

theorem live_setGb (s : State) (b : Nat) (x : GBlock) : Live s (setGb s b x) := live_withPub ..

theorem live_dropJob (s : State) (j : Nat) : Live s (dropJob s j) := live_withNet ..

theorem live_entryDone (s : State) (q i : Nat) (e : Entry) : Live s (entryDone s q i e) := (within_entryDone ..).live

theorem live_gbWithdraw (s : State) (b : Nat) : Live s (gbWithdraw s b) := live_foldl (fun _ _ => live_dropJob ..) _ _

theorem live_gbAdopt (s : State) (b : Nat) (slots : List Nat) (t : Int) : Live s (gbAdopt s b slots t) := by
  unfold gbAdopt
  exact (live_gbWithdraw ..).trans (live_setGb ..)

theorem live_gooseReqAt (s : State) (q i status cflags st : Nat) (t : Int) : Live s (gooseReqAt s q i status cflags st t) := by
  unfold gooseReqAt
  split
  · exact live_entryDone ..
  · exact .refl ..

theorem live_gooseReqDone (s : State) (b q i status cflags : Nat) : Live s (gooseReqDone s b q i status cflags) := live_gooseReqAt ..

theorem live_jobEnd (s : State) (j : Nat) : Live s (jobEnd s j) := by
  unfold jobEnd
  extract_lets x sent status u net v
  have hu : Live s u := live_foldl (fun _ _ => live_setPort ..) _ _
  have hv : Live s v := hu.trans (live_withNet ..)
  refine hv.trans ?_
  clear_value v
  split
  · exact .refl ..
  · split
    · exact live_entryDone ..
    · exact .refl ..
  · split
    · split
      · exact ((live_setGb ..).trans (live_bump ..)).trans (live_gooseReqDone ..)
      · exact (live_gbAdopt ..).trans (live_gooseReqDone ..)
    · exact live_gooseReqAt ..
  · exact .refl ..
  · exact live_ite (live_bump ..) (.refl ..)

theorem live_copyEnd (s : State) (j : Nat) : Live s (copyEnd s j) := by
  unfold copyEnd
  exact live_ite ((live_setJob ..).trans (live_jobEnd ..)) (live_setJob ..)

theorem live_copyDown (s : State) (n j : Nat) : Live s (copyDown s n j) := by
  unfold copyDown
  exact live_ite (.refl ..) ((live_bump ..).trans (live_copyEnd ..))

theorem live_copyLate (s : State) (j : Nat) : Live s (copyLate s j) := (live_setJob ..).trans (live_copyEnd ..)

/-! ## Frames put on the wire -/

theorem live_stageOver (s : State) (stage : Nat) : Live s (stageOver s stage) :=
  ((live_withBoot s (x := { s.boot with pathStage := stage }) rfl).trans (live_bump ..)).trans (live_logRec ..)

theorem live_commitOver (s : State) (stage p : Nat) : Live s (commitOver s stage p) := by
  unfold commitOver
  exact (live_stageOver ..).trans (live_ite (.refl ..) (live_withCond ..))

theorem live_commitPass (s : State) (p took : Nat) : Live s (commitPass s p took) := live_ite (.refl ..) (live_commitOver ..)

theorem live_commitWire (s : State) (p t11 t12 : Nat) : Live s (commitWire s p t11 t12) := by
  unfold commitWire
  exact (live_withBoot s (x := { s.boot with pathWire := max s.boot.pathWire (t11 + t12) }) rfl).trans
    (live_ite (.refl ..) (live_commitOver ..))

theorem live_jobStart (s : State) (n : Nat) (f : TxFrame) : Live s (jobStart s n f) := by
  unfold jobStart
  exact ((live_ite (live_bump ..) (.refl ..)).trans (live_ite (live_setPort ..) (.refl ..))).trans (live_setJob ..)

theorem live_gooseStart (s : State) (j b : Nat) (req : Option (Nat × Nat)) : Live s (gooseStart s j b req) := by
  unfold gooseStart
  extract_lets g u v w jobNew block old job y
  refine (live_bump s 0x280112 b).trans (live_ite ?_ ?_)
  · have hw : Live u w := (live_gbAdopt ..).trans (live_ite (live_bump ..) (.refl ..))
    exact (hw.trans (live_setJob ..)).trans (live_setGb ..)
  · have hy : Live u y := live_ite (.refl ..) ((live_setJob ..).trans (live_setGb ..))
    refine hy.trans ?_
    clear_value y
    split
    · exact .refl ..
    · exact (live_gooseReqAt ..).trans (live_setJob ..)

theorem live_setPtp (s : State) (p : Nat) (x : PtpPort) : Live s (setPtp s p x) := live_withTm s rfl

theorem live_takeSeq (s : State) (g : Nat) : Live s (takeSeq s g).2 := live_withNet ..

theorem live_tagSeq (s : State) (ports : List Nat) : Live s (tagSeq s ports).2 := by
  unfold tagSeq
  dsimp only
  split
  · exact live_takeSeq ..
  · exact .refl ..

theorem live_pushPtp (s : State) (n len kind : Nat) (time : Int) : Live s (pushPtp s n len kind time) := by
  unfold pushPtp
  extract_lets j net u
  have hu : Live s u := (live_withNet ..).trans (live_setJob ..)
  refine hu.trans ?_
  clear_value u
  have hseq : Live u (if ptpLocal kind then (none, u) else tagSeq u [n]).2 := by
    split
    · exact .refl ..
    · exact live_tagSeq ..
  exact hseq.trans (live_setPort ..)

theorem live_ptpStart (s : State) (n : Nat) (f : TxFrame) (room : Bool) : Live s (ptpStart s n f room) := by
  unfold ptpStart
  split
  · exact live_ite (live_pushPtp ..) (.refl ..)
  · exact live_setPtp ..
  · exact live_ite (live_pushPtp ..) (.refl ..)
  · split
    · exact live_setPtp ..
    · exact .refl ..
  · exact .refl ..

theorem live_startFrame (s : State) (n : Nat) (f : TxFrame) : Live s (startFrame s n f) := by
  unfold startFrame
  extract_lets first p toks u v room w z
  have hu : Live s u := live_setPort ..
  have hv : Live u v := by
    unfold v
    split
    · exact live_commitWire ..
    · exact .refl ..
  have hw : Live v w := (live_jobStart ..).trans (live_ptpStart ..)
  have hz : Live w z := by
    unfold z
    split
    · exact live_ite (live_gooseStart ..) (.refl ..)
    · exact live_ite ((live_bump ..).trans (live_ite (live_bump ..) (.refl ..))) (.refl ..)
    · exact .refl ..
  exact (((hu.trans hv).trans hw).trans hz).trans (live_setPort ..)

theorem live_latePolicy (s : State) (n : Nat) (f : TxFrame) (ctr : Nat) : Live s (latePolicy s n f ctr) := by
  unfold latePolicy
  exact ((live_setPort ..).trans (live_bump ..)).trans (live_ite (live_copyLate ..) (live_setPort ..))

theorem live_lateSweep (s : State) (n : Nat) (by_ : Bool) : Live s (lateSweep s n by_) :=
  live_foldl (fun _ _ => live_ite (live_latePolicy ..) (.refl ..)) _ _

theorem live_staleDrop (s : State) (f : TxFrame) (ctr : Nat × Nat) : Live s (staleDrop s f ctr) := by
  unfold staleDrop
  extract_lets x u
  have hu : Live s u := (live_bump ..).trans (live_dropJob ..)
  refine hu.trans ?_
  clear_value u
  split
  · extract_lets g v
    have hv : Live u v := live_ite (live_gbAdopt ..) (.refl ..)
    refine hv.trans ?_
    clear_value v
    split
    · exact live_ite (live_gooseReqDone ..) (live_gooseReqAt ..)
    · exact .refl ..
  · exact .refl ..

theorem live_kickN (k : Nat) (s : State) (n : Nat) : Live s (kickN k s n) := by
  induction k generalizing s with
  | zero => exact .refl ..
  | succ k ih =>
    unfold kickN
    split
    · exact .refl ..
    · split
      · exact (live_staleDrop ..).trans (ih _)
      · exact live_startFrame ..

theorem live_kick (s : State) (n : Nat) : Live s (kick s n) := by
  unfold kick
  exact live_ite (.refl ..) (((live_lateSweep ..).trans (live_setPort ..)).trans (live_kickN ..))

theorem live_launchJudge (s : State) (n : Nat) (f : TxFrame) : Live s (launchJudge s n f) := by
  unfold launchJudge
  split
  · exact .refl ..
  · exact live_ite (live_latePolicy ..) (live_ite (live_latePolicy ..) (live_setPort ..))

theorem live_enqueue (s : State) (n : Nat) (f : TxFrame) : Live s (enqueue s n f) := by
  unfold enqueue
  exact (live_ite (live_launchJudge ..) (live_setPort ..)).trans (live_kick ..)

theorem live_sendJob (s : State) (ports : List Nat) (tag : Bool) (owner : TxOwner) (f : TxFrame) (tsReq : Bool) :
    Live s (sendJob s ports tag owner f tsReq) := by
  unfold sendJob
  extract_lets j net u v job w y
  have hv : Live s v := (live_withNet ..).trans (live_setJob ..)
  have hw : Live v w := by
    unfold w
    split
    · exact live_setJob ..
    · exact .refl ..
  have hy : Live w y := by
    unfold y
    split
    · exact live_ite (live_setGb ..) (.refl ..)
    · exact .refl ..
  refine ((hv.trans hw).trans hy).trans ?_
  clear_value y
  have hseq : Live y (if tag then tagSeq y ports else (none, y)).2 := by
    split
    · exact live_tagSeq ..
    · exact .refl ..
  refine hseq.trans ?_
  exact live_foldl (fun _ _ => live_ite (live_enqueue ..) (live_copyDown ..)) _ _

theorem live_sendTo (s : State) (n : Nat) (owner : TxOwner) (f : TxFrame) (tsReq : Bool) : Live s (sendTo s n owner f tsReq) := by
  unfold sendTo
  exact live_ite (live_sendJob ..) (.refl ..)

end Sys2Proof.Machine
end

section
/-! PROOF. The live hub: the pair's link and its equalisation, the converters, the closing of rows. -/

open Sys2Proof Sys2Proof.Machine

namespace Sys2Proof.Machine

/-! ## The pair's link and states -/

theorem live_setLane (s : State) (n : Nat) (x : Lane) : Live s (setLane s n x) := live_withPair ..

theorem live_sendFrame (s : State) (f : IulFrame) : Live s (sendFrame s f) := by
  unfold sendFrame
  split
  · exact .refl ..
  · exact live_setLane ..

theorem live_sendIul (s : State) (m : IulMsg) : Live s (sendIul s m) := by
  unfold sendIul
  extract_lets fs u
  have hu : Live s u := live_foldl (fun _ _ => live_sendFrame ..) _ _
  refine live_ite (.refl ..) (hu.trans ?_)
  clear_value u
  split
  · exact .refl ..
  · exact live_withPair ..

theorem live_noteRow (s : State) (r : Nat) (eqd : Bool) : Live s (noteRow s r eqd) := by
  unfold noteRow
  exact live_ite (live_withPair ..) (live_withPair ..)

theorem live_eqGiveUp (s : State) (r : Nat) : Live s (eqGiveUp s r) := by
  unfold eqGiveUp
  exact ((live_withPair ..).trans (live_sendIul ..)).trans (live_noteRow ..)

theorem live_eqStop (s : State) : Live s (eqStop s) := by
  unfold eqStop
  exact (live_foldl (fun _ _ => live_eqGiveUp ..) _ _).trans (live_withPair ..)

theorem live_pairEval (s : State) : Live s (pairEval s) := by
  unfold pairEval
  split
  extract_lets was o pair u v
  have hv : Live u v := live_ite (.refl ..) ((live_logRec ..).trans (live_seeNow ..))
  refine ((live_withPair s _).trans hv).trans ?_
  clear_value v
  exact live_ite (live_withPair ..) (live_ite (live_eqStop ..) (.refl ..))

theorem live_leaveStep (s : State) (reason : Nat) : Live s (leaveStep s reason) := by
  unfold leaveStep
  exact ((live_withPair ..).trans (live_pairEval ..)).trans (live_ite (live_withPair ..) (.refl ..))

theorem live_uneqLeave (s : State) : Live s (uneqLeave s) := (live_withPair ..).trans (live_leaveStep ..)

/-! ## Equalisation -/

theorem live_setEq (s : State) (r : Nat) (x : Eq) : Live s (setEq s r x) := live_withPair ..

theorem live_setRow (s : State) (r : Nat) (x : Row) : Live s (setRow s r x) := live_withPlan ..

theorem live_sendSeats (n : Nat) (s : State) (r : Nat) (l : List SeatCopy) : Live s (sendSeats n s r l) := by
  induction n generalizing s l with
  | zero => exact .refl ..
  | succ n ih =>
    unfold sendSeats
    exact live_ite (.refl ..) ((live_sendIul ..).trans (ih ..))

/-- A fold over a state and what goes with it keeps what its step keeps. -/
theorem live_foldl_fst {α β : Type} {f : State × β → α → State × β} (hf : ∀ p a, Live p.1 (f p a).1) (as : List α) (p : State × β) :
    Live p.1 (as.foldl f p).1 := by
  induction as generalizing p with
  | nil => exact .refl ..
  | cons a as ih => exact (hf p a).trans (ih _)

theorem live_eqDecide (s : State) (r : Nat) (x : Eq) (part : List Nat) (tags : List TagRec) : Live s (eqDecide s r x part tags) := by
  unfold eqDecide
  extract_lets y
  refine Live.trans ?_ (live_setEq ..)
  exact live_foldl_fst (fun p e => live_ite (live_sendSeats ..) (.refl ..)) _ (s, y)

theorem live_eqAgreed (s : State) (r : Nat) (x : Eq) : Live s (eqAgreed s r x) := by
  unfold eqAgreed
  exact (((((live_setRow ..).trans (live_withPair ..)).trans (live_bump ..)).trans (live_bumpBy ..)).trans (live_bumpBy ..)).trans
    (live_noteRow ..)

theorem live_eqGo (n : Nat) (s : State) (r : Nat) : Live s (eqGo n s r) := by
  induction n generalizing s with
  | zero => exact .refl ..
  | succ n ih =>
    unfold eqGo
    split
    · exact .refl ..
    next x _ =>
      split
      · exact .refl ..
      · refine live_ite (.refl ..) (live_ite ?_ (live_ite ?_ ?_))
        · exact live_ite ((live_setEq ..).trans (ih _)) (((live_setEq ..).trans (live_sendIul ..)).trans (ih _))
        · split
          · exact .refl ..
          · exact (live_eqDecide ..).trans (ih _)
        · extract_lets y u
          refine (live_setEq s r y).trans (live_ite (.refl ..) ?_)
          split
          · exact ((live_setEq ..).trans (live_sendIul ..)).trans (ih _)
          · exact live_ite (live_eqAgreed ..) (.refl ..)

theorem live_eqOpen (s : State) (r : Nat) : Live s (eqOpen s r) := by
  unfold eqOpen
  exact ((live_setRow ..).trans (live_setEq ..)).trans (live_sendIul ..)

theorem live_eqPresence (s : State) (r : Nat) (part : List Nat) (dig : List Byte) : Live s (eqPresence s r part dig) := by
  unfold eqPresence
  split
  · exact .refl ..
  · exact live_ite (.refl ..) (((live_sendSeats ..).trans (live_setEq ..)).trans (live_eqGo ..))

theorem live_eqSeatsRx (s : State) (r : Nat) (cs : List SeatCopy) : Live s (eqSeatsRx s r cs) := by
  unfold eqSeatsRx
  split
  · exact .refl ..
  · exact (live_setEq ..).trans (live_eqGo ..)

theorem live_eqTagsRx (s : State) (r : Nat) (ts : List TagRec) : Live s (eqTagsRx s r ts) := by
  unfold eqTagsRx
  split
  · exact .refl ..
  · exact (live_setEq ..).trans (live_eqGo ..)

theorem live_eqAgreeRx (s : State) (r : Nat) (d : List Byte) : Live s (eqAgreeRx s r d) := by
  unfold eqAgreeRx
  split
  · exact .refl ..
  · exact (live_setEq ..).trans (live_eqGo ..)

theorem live_eqLostRx (s : State) (r : Nat) : Live s (eqLostRx s r) := by
  unfold eqLostRx
  exact (live_noteRow ..).trans (live_ite (live_eqGiveUp ..) (live_ite (live_uneqLeave ..) (.refl ..)))

theorem live_eqHeld (s : State) (r : Nat) : Live s (eqHeld s r) := by
  unfold eqHeld
  refine (live_withPair ..).trans (live_foldl (fun u m => ?_) _ _)
  obtain ⟨q, i⟩ := m
  dsimp only
  split
  · exact live_eqPresence ..
  · exact live_eqSeatsRx ..
  · exact live_eqTagsRx ..
  · exact live_eqAgreeRx ..
  · exact live_eqLostRx ..
  · exact .refl ..

/-! ## The converters -/

theorem live_setStream (s : State) (e : Nat) (x : Stream) : Live s (setStream s e x) := live_withPlan ..

theorem live_placeSeat (s : State) (e r : Nat) (vals : List Int) (quals : List Nat) (smpCnt : Nat) (conv : Bool) (m : RxMeta) :
    Live s (placeSeat s e r vals quals smpCnt conv m) := by
  unfold placeSeat
  refine live_ite (.refl ..) (live_ite (live_bump ..) (live_ite (live_bump ..) (live_ite (live_bump ..) (live_ite ?_ ?_))))
  · exact live_ite (live_bump ..) ((live_bump ..).trans (live_logRec ..))
  · exact (live_setRow ..).trans (live_bump ..)

theorem live_convEmit (s : State) (e c ch : Nat) (h : List ConvIn) (m : RxMeta) : Live s (convEmit s e c ch h m) := by
  unfold convEmit
  split
  · exact .refl ..
  · refine live_foldl (fun u r => ?_) _ _
    exact ((live_ite (live_bump ..) (.refl ..)).trans (live_bumpBy ..)).trans (live_placeSeat ..)

theorem live_convCatch (e c ch k : Nat) (s : State) (n : Nat) : Live s (convCatch e c ch k s n) := by
  induction k generalizing s with
  | zero => exact .refl ..
  | succ k ih =>
    unfold convCatch
    dsimp only
    split
    · exact .refl ..
    · exact live_ite (.refl ..) (((live_setStream ..).trans (live_ite (live_convEmit ..) (.refl ..))).trans (ih _))

theorem live_convSkip (s : State) (e c n : Nat) : Live s (convSkip s e c n) := by
  unfold convSkip
  dsimp only
  split
  · exact .refl ..
  · exact live_ite (.refl ..) (live_setStream ..)

theorem live_convFillTo (s : State) (e c ch n : Nat) : Live s (convFillTo s e c ch n) := by
  unfold convFillTo
  extract_lets u top v
  have hu : Live s u := live_convSkip ..
  have hv : Live u v := by
    unfold v
    split
    · exact .refl ..
    · exact live_convCatch ..
  exact (hu.trans hv).trans (live_ite (.refl ..) ((live_bumpBy ..).trans (live_convSkip ..)))

theorem live_convClose (s : State) (r : Nat) : Live s (convClose s r) := by
  refine live_foldl (fun u e => ?_) _ _
  dsimp only
  split
  · exact live_ite (live_convFillTo ..) (.refl ..)
  · exact .refl ..

/-! ## Rows -/

theorem live_simKeep (s : State) : Live s (simKeep s) := live_withPlan ..

theorem live_closeRow (s : State) (r : Nat) : Live s (closeRow s r) := by
  unfold closeRow
  extract_lets row u planU v planV w y
  have hv : Live s v := ((live_setRow ..).trans (live_withPlan ..)).trans (live_convClose ..)
  have hw : Live v w := (live_withPlan ..).trans (live_simKeep ..)
  have hy : Live w y := live_bump ..
  exact ((hv.trans hw).trans hy).trans (live_ite ((live_eqOpen ..).trans (live_eqHeld ..)) (.refl ..))

theorem live_closeDueRows (n : Nat) (s : State) (step : Bool) : Live s (closeDueRows n s step) := by
  induction n generalizing s with
  | zero => exact .refl ..
  | succ n ih =>
    unfold closeDueRows
    split
    · exact .refl ..
    · exact live_ite (.refl ..) (((live_closeRow ..).trans (live_ite (live_bump ..) (.refl ..))).trans (ih _))

theorem live_stepRows (s : State) : Live s (stepRows s) := by
  unfold stepRows
  extract_lets plan u
  have hu : Live s u := live_withPlan ..
  refine hu.trans ?_
  clear_value u
  split
  · exact .refl ..
  · refine live_ite (.refl ..) (Live.trans ?_ (live_closeDueRows ..))
    exact live_ite (.refl ..) (((live_withPlan ..).trans (live_bumpBy ..)).trans (live_logRec ..))

end Sys2Proof.Machine
end

section
/-! PROOF. The live hub: transmit rings resumed, the time counter's steps and measurements (R208 to R213, R232). -/

open Sys2Proof Sys2Proof.Machine

namespace Sys2Proof.Machine

/-! ## Transmit requests -/

theorem live_setPf (s : State) (p : Nat) (x : PfPart) : Live s (setPf s p x) := live_withPf ..

theorem live_pfToken {s t : State} {p : Nat} (h : pfToken s p = some t) : Live s t := by
  simp only [pfToken] at h
  split at h
  · exact absurd h (by simp)
  · cases h
    exact live_setPf ..

theorem live_pfRefuse (s : State) (p kind dest : Nat) : Live s (pfRefuse s p kind dest) := by
  unfold pfRefuse
  exact (((live_bump ..).trans (live_ite (live_bump ..) (.refl ..))).trans (live_setPf ..)).trans (live_ite (live_logRec ..) (.refl ..))

theorem live_pfFrame (s : State) (p : Nat) (inService : Bool) (e : Egress) : Live s (pfFrame s p inService e).2 := by
  unfold pfFrame
  split
  · exact live_pfRefuse ..
  · split
    · exact live_pfRefuse ..
    · split
      · exact live_pfRefuse ..
      · exact live_pfToken ‹_›

theorem live_txRequest (s : State) (q i p : Nat) (r : TxReq) (took : Nat) : Live s (txRequest s q i p r took) := by
  unfold txRequest
  refine live_ite (live_entryDone ..) (live_ite (live_entryDone ..) (live_ite (live_entryDone ..) ?_))
  exact (live_pfFrame ..).trans (live_ite (live_entryDone ..) ((live_commitPass ..).trans (live_sendTo ..)))

theorem live_txTake (n : Nat) (s : State) (q : Nat) (waited : Bool) : Live s (txTake n s q waited) := by
  induction n generalizing s with
  | zero => exact .refl ..
  | succ n ih =>
    unfold txTake
    split
    · exact live_ite (.refl ..) (((live_setRing ..).trans (live_txRequest ..)).trans (ih _))
    · exact (live_setRing ..).trans (ih _)
    · exact .refl ..

theorem live_txResume (s : State) : Live s (txResume s) := live_foldl (fun _ _ => live_ite (live_txTake ..) (.refl ..)) _ _

theorem live_launchRejudge (s : State) : Live s (launchRejudge s) := by
  refine Live.trans (live_foldl (fun u n => ?_) _ _) (live_txResume ..)
  exact (live_foldl (fun _ _ => live_launchJudge ..) _ _).trans (live_kick ..)

/-! ## The time counter -/

theorem live_setQuality (s : State) (q : Nat) : Live s (setQuality s q) := by
  unfold setQuality
  extract_lets old y u t v w
  have hv : inputsOf v = inputsOf u.tm := rfl
  have hw : inputsOf w = inputsOf u.tm := by
    unfold w
    split
    · exact hv
    · exact hv
  exact live_ite (.refl ..) (((live_logRec s _ _ _).trans (live_withTm u hw)).trans (live_seeNow ..))

theorem live_startSlew (s : State) (amt : Int) : Live s (startSlew s amt) := live_withTm s rfl

theorem live_dropHeld (s : State) : Live s (dropHeld s) := live_withTm s rfl

theorem live_stepTm (s : State) (amt : Int) : Live s (stepTm s amt) := by
  unfold stepTm
  extract_lets tm t u v lg w
  have hu : Live s u := (live_withTm s (x := { t with lastStep := amt }) rfl).trans (live_dropHeld ..)
  have hv : Live u v := (live_bump ..).trans (live_logRec ..)
  have hw : Live v w := live_withLg ..
  exact ((hu.trans hv).trans hw).trans ((live_launchRejudge ..).trans (live_stepRows ..))

theorem live_requestStep (s : State) (amt : Int) (cmd : Bool) : Live s (requestStep s amt cmd) := by
  unfold requestStep
  extract_lets u tm v
  have hu : Live s u := live_ite (live_logRec ..) (.refl ..)
  have hv : Live u v := live_withTm u rfl
  exact live_ite (live_stepTm ..) ((hu.trans hv).trans (live_ite (live_setQuality ..) (.refl ..)))

theorem live_measure (s : State) (off : Int) : Live s (measure s off) := by
  unfold measure
  extract_lets judge tm u v good bad tm' w
  have hu : Live s u := live_withTm s rfl
  have hv : Live u v :=
    live_ite (live_ite ((live_dropHeld ..).trans (live_startSlew ..)) (live_requestStep ..)) (live_ite (live_startSlew ..) (.refl ..))
  have hw : Live v w := live_withTm v rfl
  refine ((hu.trans hv).trans hw).trans ?_
  clear_value w good bad
  exact live_ite (live_ite (live_setQuality ..) (.refl ..)) (live_ite (live_setQuality ..) (.refl ..))

theorem live_measureAt (s : State) (utc stamp : Int) : Live s (measureAt s utc stamp) := by
  unfold measureAt
  refine live_ite (.refl ..) (Live.trans ?_ (live_measure ..))
  exact live_withTm s rfl

theorem live_sourceChange (s : State) : Live s (sourceChange s) := by
  unfold sourceChange
  extract_lets u v tm
  have hu : Live s u := live_ite (live_setQuality ..) (.refl ..)
  have hv : Live u v := live_ite (live_dropHeld ..) (.refl ..)
  exact (hu.trans hv).trans (live_withTm v rfl)

theorem live_judgeSource (s : State) : Live s (judgeSource s) := live_ite (.refl ..) (live_sourceChange ..)

/-! ## The cross-check's part in the self-test -/

theorem within_selfBit (s : State) (n : Nat) (fails : Bool) : Within [.pair, .logb] s (selfBit s n fails) := by
  unfold selfBit
  split
  · exact Within.refl ..
  · exact ((within_withPair ..).mono (by decide)).trans ((within_logRec ..).mono (by decide))

theorem live_ppsJudge (s : State) : Live s (ppsJudge s) := by
  unfold ppsJudge
  extract_lets was st tm u v
  have hu : Live s u := live_withTm s rfl
  have hv : Live u v := live_ite (live_logRec ..) (.refl ..)
  exact (hu.trans hv).trans (within_selfBit ..).live

end Sys2Proof.Machine
end

section
/-! PROOF. The timing inputs and PPS_OUT (R58, R230, R231, R233). -/

open Sys2Proof Sys2Proof.Machine

namespace Sys2Proof.Machine

section
variable {dt held : Nat} {s : State}

theorem within_withTm (s : State) (x : Tm) : Within [.tm] s { s with tm := x } :=
  ⟨fun c hc => by cases c <;> simp_all [Comp.same]⟩

/-! ## PPS_IN -/

/-- When an accepted edge came: the filter and 40 ns are taken off (R230). -/
def edgeStamp (s : State) : Int := tai s - (s.vn 0x600121 0 : Int) - 40

/-- The state that has seen an accepted edge, before it is judged. -/
def edgeSeen (s : State) : State :=
  let d := match s.tm.ppsLast with
    | some t => edgeStamp s - t
    | none => 0
  let apart := 999000000 ≤ d && d ≤ 1001000000
  let run := if apart then s.tm.ppsRun + 1 else 1
  let st := if s.tm.ppsSt == 0 && run ≥ 3 then 1 else s.tm.ppsSt
  { s with tm := { s.tm with ppsLast := some (edgeStamp s), ppsRun := run, ppsOff := ppsOffset (edgeStamp s), ppsSeen := s.now, ppsSt := st } }

/-- An edge held for less than its filter only counts. -/
theorem exec_ppsInEdge_short (h : held < (advance dt s).vn 0x600121 0) :
    exec (.ppsInEdge dt held) s = done (bump (advance dt s) 0x600124 0) := if_pos h

/-- An accepted edge is seen and judged, and may give a measurement. -/
theorem exec_ppsInEdge (h : (advance dt s).vn 0x600121 0 ≤ held) (hu : unitOk (advance dt s) 6 = true) :
    ∃ x, exec (.ppsInEdge dt held) s = done x ∧ Live (edgeSeen (advance dt s)) x := by
  change ∃ x, execPpsInEdge dt held s = done x ∧ _
  unfold execPpsInEdge
  generalize advance dt s = a at *
  rw [if_neg (Nat.not_lt.2 h), if_neg (by rw [hu]; decide)]
  extract_lets stamp d apart run off st tm u secs
  have hj : Live (edgeSeen a) u := live_ppsJudge (edgeSeen a)
  split
  · exact ⟨_, rfl, hj.trans (live_measureAt ..)⟩
  · exact ⟨_, rfl, hj⟩

/-- PPS_ABSENT clears what the edges have shown (R230). -/
def edgesGone (s : State) : State := { s with tm := { s.tm with ppsSt := 0, ppsRun := 0, ppsLast := none } }

theorem exec_ppsAbsent (h : (advance dt s).tm.ppsSeen + 1500000000 ≤ (advance dt s).now) :
    exec (.ppsAbsent dt) s = done (ppsJudge (edgesGone (advance dt s))) := if_pos h

/-- Without an edge the input is neither good nor bad: judging it leaves the time counter. -/
theorem ppsJudge_edgesGone (s : State) : ppsJudge (edgesGone s) = selfBit (edgesGone s) 5 (xcheckBad (edgesGone s)) := rfl

/-! ## IRIG-B -/

/-- A frame that is good, of a code that is decoded, and the next of its row. -/
def frameNext (s : State) (fr : IrigFrame) : Bool :=
  (fr.ok && fr.code ≤ 7) && (s.tm.irigGood == 0 || irigSecond s fr == s.tm.irigLast + 1)

/-- The state that has judged a frame (R231). -/
def frameSeen (s : State) (fr : IrigFrame) : State :=
  let ok := fr.ok && fr.code ≤ 7
  let good := if frameNext s fr then s.tm.irigGood + 1 else if ok then 1 else 0
  let bad := if frameNext s fr then 0 else s.tm.irigBad + 1
  let st := if good ≥ 3 then 1 else if bad ≥ 2 then 2 else s.tm.irigSt
  let t := { s.tm with irigGood := good, irigBad := bad, irigSt := st }
  let tq := match fr.cf with
    | some c => c.timeQuality
    | none => 15
  { s with tm := if ok then { t with irigLast := irigSecond s fr, irigAt := s.now, irigCode := fr.code, irigTq := tq } else t }

/-- A change of the kept values and of live components that what the inputs have seen outlives. -/
structure Learns (s t : State) : Prop where
  frame : Frame (.store :: Comp.live) s t
  inputs : inputsOf t.tm = inputsOf s.tm

theorem Live.learns {s t : State} (h : Live s t) : Learns s t := ⟨h.frame.mono (by decide), h.inputs⟩

theorem Learns.trans {s t u : State} (h : Learns s t) (k : Learns t u) : Learns s u :=
  ⟨h.frame.trans k.frame, k.inputs.trans h.inputs⟩

theorem learns_learnUtc (s : State) (off : Option Int) (valid : Bool) (leap : Nat) : Learns s (learnUtc s off valid leap) := by
  unfold learnUtc
  extract_lets u o midnight tm
  have hu : Within [.store] s u := by
    unfold u
    split
    · split
      · exact within_put ..
      · exact Within.refl ..
    · exact Within.refl ..
  have htm : u.tm = s.tm := hu.agrees .tm (by decide)
  refine ⟨((hu.mono (by decide)).trans ((within_withTm ..).mono (by decide))).frame, ?_⟩
  rw [← htm]
  rfl

/-- A frame held for less than its filter only counts. -/
theorem exec_irigFrame_short {fr : IrigFrame} (h : held < (advance dt s).vn 0x600123 0) :
    exec (.irigFrame dt held fr) s = done (bump (advance dt s) 0x600124 1) := if_pos h

/-- A frame decoded is judged, and the next of its row may teach UTC and give a measurement. -/
theorem exec_irigFrame {fr : IrigFrame} (h : (advance dt s).vn 0x600123 0 ≤ held) (hu : unitOk (advance dt s) 6 = true) :
    ∃ x, exec (.irigFrame dt held fr) s = done x ∧ Learns (frameSeen (advance dt s) fr) x := by
  change ∃ x, execIrigFrame dt held fr s = done x ∧ _
  unfold execIrigFrame
  generalize advance dt s = a at *
  rw [if_neg (Nat.not_lt.2 h), if_neg (by rw [hu]; decide)]
  extract_lets utc ok tm next good bad st judged tq noted u v
  have hj : Learns (frameSeen a fr) u := (live_judgeSource (frameSeen a fr)).learns
  split
  · have hv : Learns u v := by
      unfold v
      split
      · exact learns_learnUtc ..
      · exact (Live.refl _).learns
    split
    · exact ⟨_, rfl, hj.trans hv⟩
    · exact ⟨_, rfl, (hj.trans hv).trans (live_measureAt ..).learns⟩
  · exact ⟨_, rfl, hj⟩

/-- The third good frame in a row makes the input good and its second known. -/
theorem frameSeen_third {a : State} {fr : IrigFrame} (hok : fr.ok = true) (hcode : fr.code ≤ 7) (hgood : 2 ≤ a.tm.irigGood)
    (hsec : irigSecond a fr = a.tm.irigLast + 1) :
    inputsOf (frameSeen a fr).tm = ((a.tm.ppsLast, a.tm.ppsSeen), 1, a.tm.irigGood + 1, a.tm.irigLast + 1, 0) := by
  have hnext : frameNext a fr = true := by simp [frameNext, hok, hcode, hsec]
  have h3 : a.tm.irigGood + 1 ≥ 3 := by omega
  simp only [frameSeen, hnext, hok, hcode, hsec, h3, inputsOf, if_true, decide_true, Bool.and_self]

end

end Sys2Proof.Machine

/-- Settles O11: an accepted edge or frame is noted first, and what follows from it, a change of source, a measurement, a step with all
that steps, is a live change that keeps what the inputs have seen. -/
theorem timingInputsAndPpsOutput : Obligations.TimingInputsAndPpsOutput := by
  intro dt s a
  refine ⟨fun held h => ?short, fun held h hu => ?edge, fun held fr h => ?shortFrame, fun held fr h hu hok hcode hgood hsec => ?frame,
    fun h => ?absent, fun hd ho hns => ?rise, fun ho hf hr => ?fall⟩
  case short => exact does_within (exec_ppsInEdge_short h) (within_bump ..) rfl
  case shortFrame => exact does_within (exec_irigFrame_short h) (within_bump ..) rfl
  case edge =>
    obtain ⟨x, hx, hl⟩ := exec_ppsInEdge h hu
    have hs : Within [.tm] a (edgeSeen a) := within_withTm ..
    have hi : inputsOf x.tm = inputsOf (edgeSeen a).tm := hl.inputs
    exact does_frame hx ((hs.frame.mono (by decide)).trans hl.frame) ⟨congrArg (·.1.1) hi, congrArg (·.1.2) hi⟩
  case frame =>
    obtain ⟨x, hx, hl⟩ := exec_irigFrame (fr := fr) h hu
    have hs : Within [.tm] a (frameSeen a fr) := within_withTm ..
    have hi : inputsOf x.tm = _ := hl.inputs.trans (frameSeen_third hok hcode hgood hsec)
    exact does_frame hx ((hs.frame.mono (by decide)).trans hl.frame)
      ⟨congrArg (·.2.1) hi, congrArg (·.2.2.1) hi, congrArg (·.2.2.2.1) hi, congrArg (·.2.2.2.2) hi⟩
  case absent =>
    have hg : Within [.tm] a (edgesGone a) := within_withTm ..
    have hb := within_selfBit (edgesGone a) 5 (xcheckBad (edgesGone a))
    have hx := exec_ppsAbsent h
    rw [ppsJudge_edgesGone] at hx
    exact does_within hx ((hg.mono (by decide)).trans (hb.mono (by decide))) (hb.agrees .tm (by decide))
  case rise =>
    have hx : exec (.ppsOutRise dt) s =
        done { a with tm := { a.tm with ppsOut := true, ppsRise := a.now, ppsFall := a.tm.sec * 1000000000 + a.vn 0x180051 0 } } :=
      if_pos (by
        rw [show ppsDriven (advance dt s) = true from hd, show (advance dt s).tm.ppsOut = false from ho]
        exact decide_eq_true hns)
    exact does_within hx (within_withTm ..) rfl
  case fall =>
    have hx : exec (.ppsOutFall dt) s = done { a with tm := { a.tm with ppsOut := false } } :=
      if_pos (by
        rw [show (advance dt s).tm.ppsOut = true from ho, Bool.true_and]
        exact Bool.and_eq_true_iff.2 ⟨decide_eq_true hf, decide_eq_true hr⟩)
    exact does_within hx (within_withTm ..) rfl
end

section
/-! PROOF. A vault operation aborted (R513): what the request it answers, the handover or the migration it ends may change. -/

open Sys2Proof Sys2Proof.Machine

namespace Sys2Proof.Machine

/-! ## The live hub: partitions, handovers, channels -/

theorem live_setPart (s : State) (p : Nat) (x : Part) : Live s (setPart s p x) := live_withParts ..

theorem live_setMig (s : State) (p : Nat) (m : Mig) : Live s (setMig s p m) := live_setPart ..

theorem live_setStep (s : State) (p : Nat) (x : StepSt) : Live s (setStep s p x) := live_withPair ..

theorem live_setClaim (s : State) (d : Nat) (c : Claim) : Live s (setClaim s d c) := live_withPair ..

theorem live_stepOut (s : State) (p : Nat) : Live s (stepOut s p) := (live_setStep ..).trans (live_withPair ..)

theorem live_stepStop (s : State) (p : Nat) : Live s (stepStop s p) := by
  unfold stepStop
  exact (live_ite (live_setStep ..) (.refl ..)).trans (live_ite ((live_stepOut ..).trans (live_leaveStep ..)) (.refl ..))

theorem live_imageTell (s : State) (p : Nat) : Live s (imageTell s p) := live_ite (live_sendIul ..) (.refl ..)

theorem live_toSt (s : State) (p : Nat) (st : PSt) (why : Why) : Live s (toSt s p st why) := by
  unfold toSt
  extract_lets x u
  have hu : Live s u := ((live_setPart ..).trans (live_logRec ..)).trans (live_seeNow ..)
  exact live_ite (.refl ..) (hu.trans (live_ite (live_stepStop ..) (live_ite (live_imageTell ..) (.refl ..))))

theorem live_sendPb (s : State) (n peer : Nat) (m : MigMsg) : Live s (sendPb s n peer m) := live_foldl (fun _ _ => live_sendTo ..) _ _

theorem live_sendMig (s : State) (p : Nat) (m : MigMsg) : Live s (sendMig s p m) := live_ite (live_sendIul ..) (live_sendPb ..)

theorem live_hoSend (s : State) (d : Nat) (m : IulMsg) (g : MigMsg) : Live s (hoSend s d m g) := live_ite (live_sendIul ..) (live_sendPb ..)

theorem live_hoJudge (s : State) (d claim row : Nat) (tagOk : Bool) : Live s (hoJudge s d claim row tagOk) := by
  unfold hoJudge
  exact (live_ite ((live_setClaim ..).trans (live_logRec ..)) (.refl ..)).trans (live_hoSend ..)

theorem live_setChan (s : State) (c : Nat) (x : Chan) : Live s (setChan s c x) :=
  Within.live (l := [.ph]) ⟨fun c hc => by cases c <;> simp_all [Comp.same]⟩

theorem live_chanPut (s : State) (c : Nat) (m : Msg) : Live s (chanPut s c m) := by
  unfold chanPut
  exact ((live_setChan ..).trans (live_bump ..)).trans (live_ite (within_bellRaise ..).live (.refl ..))

theorem live_answerPut (s : State) (ep p code : Nat) (ws : List Nat) : Live s (answerPut s ep p code ws) := by
  unfold answerPut
  split
  · exact .refl ..
  · exact live_ite (.refl ..) (live_ite (live_setChan ..) (live_chanPut ..))

/-! ## What an abort may change -/

/-- The components an aborted operation may change: besides the live hub its request's session, the free values, the vault. -/
def Comp.abort : List Comp := .freeCtr :: .jal :: .vault :: Comp.live

/-- The vault's parts that an aborted operation may change: traffic keys, the migration's agreement, the attestation under way. -/
def abortBut (v w : Vault) : Prop :=
  w = { v with tkeys := w.tkeys, migKey := w.migKey, migDraw := w.migDraw, migPeer := w.migPeer, attesting := w.attesting }

/-- Every traffic key is cleared. -/
def noKeys (v : Vault) : Prop := ∀ x ∈ v.tkeys, x.2 = {}

/-- What the abort of a vault operation may change. -/
structure Aborts (s t : State) : Prop where
  within : Within Comp.abort s t
  boot : bootBut s t
  vault : abortBut s.vault t.vault
  keys : noKeys s.vault → noKeys t.vault

theorem Aborts.refl (s : State) : Aborts s s := ⟨Within.refl .., rfl, rfl, id⟩

theorem Aborts.trans {s t u : State} (h : Aborts s t) (k : Aborts t u) : Aborts s u := by
  refine ⟨h.within.trans k.within, bootBut_trans h.boot k.boot, ?_, k.keys ∘ h.keys⟩
  have h1 : t.vault = _ := h.vault
  have h2 : u.vault = _ := k.vault
  unfold abortBut
  rw [h2, h1]

theorem aborts_foldl {α : Type} {f : State → α → State} (hf : ∀ s a, Aborts s (f s a)) (as : List α) (s : State) :
    Aborts s (as.foldl f s) :=
  foldl_keeps Aborts Aborts.refl (fun _ _ _ => Aborts.trans) f hf as s

theorem aborts_ite {c : Prop} [Decidable c] {s t u : State} (h : Aborts s t) (k : Aborts s u) : Aborts s (if c then t else u) := by
  split
  · exact h
  · exact k

theorem Live.aborts {s t : State} (h : Live s t) : Aborts s t := by
  have hv : t.vault = s.vault := h.frame.within.agrees .vault (by decide)
  refine ⟨h.frame.within.mono (by decide), h.boot, ?_, ?_⟩
  · rw [hv]
    rfl
  · rw [hv]
    exact id

/-- A change within the free values and the Jalyn component. -/
theorem Within.aborts {s t : State} (h : Within [.freeCtr, .jal, .logb] s t) : Aborts s t := by
  have hv : t.vault = s.vault := h.agrees .vault (by decide)
  have hb : t.boot = s.boot := h.agrees .boot (by decide)
  refine ⟨h.mono (by decide), ?_, ?_, ?_⟩
  · unfold bootBut
    rw [hb]
  · rw [hv]
    rfl
  · rw [hv]
    exact id

theorem within_withJal (s : State) (x : Jal) : Within [.jal] s { s with jal := x } :=
  ⟨fun c hc => by cases c <;> simp_all [Comp.same]⟩

theorem within_fresh (s : State) : Within [.freeCtr] s (fresh s).2 :=
  ⟨fun c hc => by cases c <;> simp_all [Comp.same, fresh]⟩

theorem aborts_withJal (s : State) (x : Jal) : Aborts s { s with jal := x } := ((within_withJal ..).mono (by decide)).aborts

theorem aborts_setSess (s : State) (n : Nat) (x : Sess) : Aborts s (setSess s n x) := aborts_withJal ..

/-! ## Requests answered -/

theorem aborts_orphanEnd (s : State) (n reqId status : Nat) : Aborts s (orphanEnd s n reqId status) := by
  unfold orphanEnd
  split
  · exact .refl ..
  · exact ((aborts_withJal ..).trans ((within_fresh _).mono (by decide)).aborts).trans (live_logRec ..).aborts

theorem aborts_execEnd (s : State) (n reqId status : Nat) (bytes : List Byte) : Aborts s (execEnd s n reqId status bytes) := by
  unfold execEnd
  split
  · exact aborts_orphanEnd ..
  · split
    · exact aborts_orphanEnd ..
    · exact aborts_setSess ..

theorem aborts_answerLate (s : State) (n seq idx : Nat) (e : RespE) : Aborts s (answerLate s n seq idx e) := by
  unfold answerLate
  split
  · exact .refl ..
  · split
    · exact .refl ..
    · exact aborts_setSess ..

/-! ## Handovers and migrations ended -/

theorem aborts_hoEnd (s : State) (d status : Nat) : Aborts s (hoEnd s d status) := by
  unfold hoEnd
  split
  · exact (live_setClaim ..).aborts.trans (aborts_ite (.refl ..) (aborts_execEnd ..))
  · exact .refl ..

theorem aborts_hoCancel (s : State) (d : Nat) : Aborts s (hoCancel s d) := (aborts_hoEnd ..).trans (live_setClaim ..).aborts

/-- The vault changed in the parts an abort may change, its traffic keys kept. -/
theorem aborts_withVault (s : State) {v : Vault} (h : abortBut s.vault v) (hk : v.tkeys = s.vault.tkeys) :
    Aborts s { s with vault := v } := by
  refine ⟨⟨fun c hc => by cases c <;> simp_all [Comp.same, Comp.abort]⟩, rfl, h, fun k x hx => k x ?_⟩
  rw [← hk]
  exact hx

theorem aborts_migKeyClear (s : State) : Aborts s (migKeyClear s) := aborts_withVault s rfl rfl

theorem aborts_migEnd (s : State) (p status : Nat) : Aborts s (migEnd s p status) := by
  unfold migEnd
  extract_lets m u
  have hu : Aborts s u := (aborts_migKeyClear ..).trans (live_setMig ..).aborts
  refine hu.trans ?_
  clear_value u
  split
  · exact aborts_execEnd ..
  · exact .refl ..

theorem aborts_migAbort (s : State) (p reason : Nat) (tell : Bool) : Aborts s (migAbort s p reason tell) := by
  unfold migAbort
  extract_lets m u v mig w y
  have hu : Aborts s u := (live_ite (live_sendMig ..) (.refl ..)).aborts
  have hv : Aborts u v := aborts_ite (aborts_hoCancel ..) (.refl ..)
  have hw : Aborts v w := (live_setMig ..).aborts
  have hy : Aborts w y := (live_logRec ..).aborts.trans (aborts_migEnd ..)
  exact (((hu.trans hv).trans hw).trans hy).trans (live_ite (live_toSt ..) (.refl ..)).aborts

/-! ## Traffic keys -/

theorem aborts_setTKey (s : State) (i : Nat) : Aborts s (setTKey s i {}) := by
  refine ⟨⟨fun c hc => by cases c <;> simp_all [Comp.same, Comp.abort]⟩, rfl, rfl, fun k x hx => ?_⟩
  rcases mem_tabPut hx with rfl | hx
  · rfl
  · exact k x hx

/-! ## The operations -/

theorem aborts_opAbort (s : State) (op : VOp) (st : Nat) : Aborts s (opAbort s op st) := by
  cases op with
  | handoverSign d => exact aborts_hoEnd ..
  | handoverVerify d => exact (live_hoJudge ..).aborts
  | derive i => exact aborts_setTKey ..
  | mac => exact (live_answerPut ..).aborts
  | verifyImage => exact aborts_execEnd ..
  | verifyBundle => exact (aborts_withJal ..).trans (aborts_answerLate ..)
  | verifyMirror =>
    simp only [opAbort]
    refine Aborts.trans ?_ (live_sendIul ..).aborts
    exact (live_withPair ..).aborts
  | keyWrite => exact aborts_answerLate ..
  | handshake => exact aborts_withJal ..
  | migAgree p =>
    have h : opAbort s (.migAgree p) st = migAbort s p 12 (partOf s p).mig.hand := rfl
    rw [h]
    exact aborts_migAbort ..
  | attest =>
    refine Aborts.trans ?_ (aborts_execEnd ..)
    exact aborts_withVault s (v := { s.vault with attesting := false }) rfl rfl

end Sys2Proof.Machine
end

section
/-! PROOF. A tamper event and its response (R513 to R515): the record, the keys cleared, the quarantine. -/

open Sys2Proof Sys2Proof.Machine

namespace Sys2Proof.Machine

theorem within_withVault (s : State) (v : Vault) : Within [.vault] s { s with vault := v } :=
  ⟨fun c hc => by cases c <;> simp_all [Comp.same]⟩

/-! ## What a response keeps -/

/-- What the vault knows of tampering: its records and the sources active. -/
def tamperSeen (v : Vault) : List TamperRec × Nat × Nat := (v.recs, v.recCount, v.tamper)

/-- The RTC's calendar and crystal. -/
def clockOf (r : Rtc) : Bool × Bool × Cal := (r.oscRun, r.osf, r.cal)

/-- The shadow register and the traffic keys are cleared. -/
def keysGone (v : Vault) : Prop := v.shadow = none ∧ noKeys v

/-- A change of the hub that keeps the evidence of tampering and the clock, and brings no key back. -/
structure Guards (s t : State) : Prop where
  within : Within Comp.hub s t
  evidence : tamperSeen t.vault = tamperSeen s.vault
  clock : clockOf t.rtc = clockOf s.rtc
  gone : keysGone s.vault → keysGone t.vault

theorem Guards.trans {s t u : State} (h : Guards s t) (k : Guards t u) : Guards s u :=
  ⟨h.within.trans k.within, k.evidence.trans h.evidence, k.clock.trans h.clock, k.gone ∘ h.gone⟩

/-- A change outside the vault and the RTC. -/
theorem Within.guards {l : List Comp} {s t : State} (h : Within l s t) (hl : l ⊆ Comp.hub := by decide) (hv : Comp.vault ∉ l := by decide)
    (hr : Comp.rtc ∉ l := by decide) : Guards s t := by
  have ev : t.vault = s.vault := h.agrees .vault hv
  have er : t.rtc = s.rtc := h.agrees .rtc hr
  refine ⟨h.mono hl, by rw [ev], by rw [er], ?_⟩
  rw [ev]
  exact id

/-- A hub reset keeps the evidence and the clock, and leaves no key. -/
theorem guards_hubReset (s : State) (cause : Nat) : Guards s (hubReset s false cause) ∧ keysGone (hubReset s false cause).vault := by
  have hg : keysGone (hubReset s false cause).vault := by
    rw [hubReset_vault]
    exact ⟨rfl, fun x hx => absurd hx List.not_mem_nil⟩
  refine ⟨⟨within_hubReset .., ?_, ?_, fun _ => hg⟩, hg⟩
  · rw [hubReset_vault]
    rfl
  · rw [hubReset_rtc]
    rfl

/-! ## The queue behind the working key register -/

/-- The vault's own check of a slot: only the slots of the vault change, and with a slot found bad the units that use it are judged. -/
structure SlotChecks (s t : State) : Prop where
  within : Within Comp.abort s t
  boot : bootBut s t
  vault : t.vault = { s.vault with slots := t.vault.slots }

theorem slotChecks_refl (s : State) : SlotChecks s s := ⟨Within.refl .., rfl, rfl⟩

theorem live_judgeKeys (s : State) : Live s (judgeKeys s) :=
  (live_judgeUnit ..).trans ((live_judgeUnit ..).trans (live_judgeUnit ..))

theorem slotChecks_slotBad (s : State) (k : Nat) : SlotChecks s (slotBad s k) := by
  have hj : Live (slotTo s k 3) (judgeKeys (judgeVault (logRec (slotTo s k 3) 0x01E1 0x80 (ints [k])))) :=
    ((live_logRec ..).trans (live_judgeUnit ..)).trans (live_judgeKeys _)
  have hs : Within Comp.abort s (slotTo s k 3) := (within_withVault ..).mono (by decide)
  have hv : _ = (slotTo s k 3).vault := hj.frame.within.agrees .vault (by decide)
  unfold slotBad
  split
  · exact ⟨hs.trans hj.aborts.within, hj.boot, by rw [hv]; rfl⟩
  · exact slotChecks_refl s

theorem slotChecks_slotCheck (s : State) (op : VOp) : SlotChecks s (slotCheck s op) := by
  unfold slotCheck
  split
  · split
    · exact slotChecks_slotBad ..
    · exact slotChecks_refl s
  · exact slotChecks_refl s

/-- With nothing suspended the vault takes up its next request: beyond its queue, its slots and the working key register nothing of it
changes. -/
theorem vaultKick_keeps {s : State} (hw : s.vault.work = none) (hs : s.vault.suspended = []) :
    Within Comp.abort s (vaultKick s) ∧ bootBut s (vaultKick s) ∧
      (vaultKick s).vault =
        { s.vault with slots := (vaultKick s).vault.slots, q := (vaultKick s).vault.q, work := (vaultKick s).vault.work } ∧
      (s.vault.q = [] → (vaultKick s).vault.work = none) := by
  have same : Within Comp.abort s s ∧ bootBut s s ∧
      s.vault = { s.vault with slots := s.vault.slots, q := s.vault.q, work := s.vault.work } ∧
      (s.vault.q = [] → s.vault.work = none) := ⟨Within.refl .., rfl, rfl, fun _ => hw⟩
  have hp : ∀ f : VReq → Bool, pick f s.vault.suspended = none := fun f => by rw [hs]; rfl
  unfold vaultKick
  dsimp only
  split
  next c _ hc =>
    rw [hp]
    dsimp only
    split
    next r l hq =>
      have h := slotChecks_slotCheck { s with vault := { s.vault with q := l } } r.op
      generalize slotCheck _ _ = u at *
      have hv : u.vault = _ := h.vault
      have ha : Within Comp.abort s { s with vault := { s.vault with q := l } } := (within_withVault ..).mono (by decide)
      have hu : Within Comp.abort u { u with vault := { u.vault with work := some (vaultLoad u r) } } :=
        (within_withVault ..).mono (by decide)
      refine ⟨ha.trans (h.within.trans hu), h.boot, ?_, fun hnil => ?_⟩
      · dsimp only
        rw [hv]
      · rw [hnil] at hq
        exact absurd hq (by simp [pick])
    · exact same
  · exact same

/-! ## The keys cleared -/

/-- The vault with its key registers cleared, before what ran in the first is aborted. -/
def registersCleared (v : Vault) : Vault :=
  { v with work := none, suspended := [], shadow := none, tkeys := [], migKey := none, migDraw := none, migPeer := none }

/-- The operations that ran, aborted. -/
def opsAborted (s : State) : State :=
  (keyOps s).foldl (fun s r => opAbort s r.op tamperAbort) { s with vault := registersCleared s.vault }

theorem keysClear_eq (s : State) : keysClear s = vaultKick (opsAborted s) := rfl

/-- The keys cleared leave the evidence; the queue of requests not begun survives, and the first of it may begin. -/
theorem keysClear_keeps (s : State) : Guards s (keysClear s) ∧ bootBut s (keysClear s) ∧ keysGone (keysClear s).vault ∧
    (keysClear s).vault.suspended = [] ∧ (s.vault.q = [] → (keysClear s).vault.work = none) := by
  have hc : Within Comp.abort s { s with vault := registersCleared s.vault } := (within_withVault ..).mono (by decide)
  have ha : Aborts { s with vault := registersCleared s.vault } (opsAborted s) := aborts_foldl (fun _ _ => aborts_opAbort ..) _ _
  have hv : (opsAborted s).vault = _ := ha.vault
  have hn : noKeys (opsAborted s).vault := ha.keys fun x hx => absurd hx List.not_mem_nil
  obtain ⟨hk, hb, hkv, hw⟩ := vaultKick_keeps (s := opsAborted s) (by rw [hv]; rfl) (by rw [hv]; rfl)
  have hwithin : Within Comp.abort s (keysClear s) := hc.trans (ha.within.trans hk)
  have hboot : bootBut s (keysClear s) := bootBut_trans (show bootBut s { s with vault := _ } from rfl) (bootBut_trans ha.boot hb)
  rw [keysClear_eq] at *
  generalize vaultKick (opsAborted s) = t at *
  have hgone : keysGone t.vault := by
    refine ⟨?_, ?_⟩
    · rw [hkv, hv]
      rfl
    · unfold noKeys
      rw [hkv]
      exact hn
  refine ⟨⟨hwithin.mono (by decide), ?_, ?_, fun _ => hgone⟩, hboot, hgone, ?_, fun h => hw ?_⟩
  · rw [hkv, hv]
    rfl
  · rw [hwithin.agrees .rtc (by decide)]
  · rw [hkv, hv]
    rfl
  · rw [hv]
    exact h

/-! ## The quarantine -/

/-- The quarantine latch set, and the change of the life cycle recorded. -/
def qLatched (s : State) (old : Nat) : State := lifeLog { s with boot := { s.boot with qLatch := true } } old

theorem qLatched_keeps (s : State) (old : Nat) : Within [.boot, .logb] s (qLatched s old) ∧
    (qLatched s old).boot = { s.boot with qLatch := true } := by
  have hb : Within [.boot, .logb] s { s with boot := { s.boot with qLatch := true } } := (within_withBoot ..).mono (by decide)
  unfold qLatched lifeLog
  split
  · exact ⟨hb, rfl⟩
  · exact ⟨hb.trans ((within_logRec ..).mono (by decide)), rfl⟩

/-- Short of DECOMMISSIONED the latch is QUARANTINE. -/
theorem life_eq_quarantine {s : State} : life s = 3 ↔ s.boot.fuseDecom = false ∧ s.boot.qLatch = true := by
  unfold life
  split_ifs <;> simp_all

theorem fuseDecom_of_life {s : State} (h : life s ≠ 4) : s.boot.fuseDecom = false := by
  by_contra hd
  simp [life, hd] at h

/-- A hub reset within its start-up goes straight to the gateway, with no release due. -/
def gatewayUp (s : State) : State := romGateway (setUnit { s with hw := { s.hw with hubDue := none } } 18 .ready) .gateway

theorem gatewayUp_keeps (s : State) : Within [.hw, .boot, .logb, .jal] s (gatewayUp s) ∧ (gatewayUp s).boot.phase = .gateway ∧
    (gatewayUp s).boot.fuseDecom = s.boot.fuseDecom ∧ (gatewayUp s).boot.qLatch = s.boot.qLatch := by
  have hu : (setUnit { s with hw := { s.hw with hubDue := none } } 18 .ready).boot = _ := rollBut_setUnit ..
  have hs := within_setUnit { s with hw := { s.hw with hubDue := none } } 18 .ready
  unfold gatewayUp
  generalize setUnit { s with hw := { s.hw with hubDue := none } } 18 .ready = u at *
  obtain ⟨hf, hb⟩ := romGateway_keeps u .gateway
  refine ⟨((within_withHw ..).mono (by decide)).trans ((hs.mono (by decide)).trans (hf.within.mono (by decide))), ?_, ?_, ?_⟩
  · rw [hb]
  · rw [hb, hu]
  · rw [hb, hu]

theorem quarantine_eq (s : State) : quarantine s =
    if s.boot.phase == .reset then qLatched s (life s)
    else if startingUp s then gatewayUp (hubReset (qLatched s (life s)) false s.boot.resetCause)
    else hubReset (qLatched (blockAll (fresh s).2) (life s)) false ((fresh s).1 % 5) := rfl

/-- A hub that runs is reset into QUARANTINE. -/
theorem quarantine_running {s : State} (hp : s.boot.phase ≠ .reset) (hs : startingUp s = false) : Guards s (quarantine s) ∧
    (s.boot.fuseDecom = false → life (quarantine s) = 3) ∧ (quarantine s).boot.phase = .reset ∧ (quarantine s).pf.blocked = true := by
  have hb : Within (.freeCtr :: .pf :: .pair :: Comp.ring) s (blockAll (fresh s).2) :=
    ((within_fresh s).mono (by decide)).trans ((within_blockAll _).mono (by decide))
  rw [quarantine_eq, if_neg (by simpa using hp), if_neg (by simp [hs])]
  generalize (fresh s).1 % 5 = cause
  generalize blockAll (fresh s).2 = u at *
  obtain ⟨hq, hqb⟩ := qLatched_keeps u (life s)
  have hub : u.boot = s.boot := hb.agrees .boot (by decide)
  obtain ⟨hphase, -, hblocked, -⟩ := heldReset_hubReset (qLatched u (life s)) false cause
  refine ⟨hb.guards.trans (hq.guards.trans (guards_hubReset ..).1), fun hd => ?_, hphase, hblocked⟩
  rw [life_hubReset]
  exact life_eq_quarantine.2 ⟨by rw [hqb, hub]; exact hd, by rw [hqb]⟩

/-- A hub that starts up comes up at the gateway in QUARANTINE. -/
theorem quarantine_starting {s : State} (hp : s.boot.phase ≠ .reset) (hs : startingUp s = true) : Guards s (quarantine s) ∧
    (s.boot.fuseDecom = false → life (quarantine s) = 3) ∧ (quarantine s).boot.phase = .gateway := by
  rw [quarantine_eq, if_neg (by simpa using hp), if_pos hs]
  generalize s.boot.resetCause = cause
  obtain ⟨hq, hqb⟩ := qLatched_keeps s (life s)
  have hl : s.boot.fuseDecom = false → life (hubReset (qLatched s (life s)) false cause) = 3 := fun hd => by
    rw [life_hubReset]
    exact life_eq_quarantine.2 ⟨by rw [hqb]; exact hd, by rw [hqb]⟩
  have hr := guards_hubReset (qLatched s (life s)) cause
  generalize hubReset (qLatched s (life s)) false cause = u at *
  obtain ⟨hg, hph, hdec, hql⟩ := gatewayUp_keeps u
  refine ⟨hq.guards.trans (hr.1.trans hg.guards), fun hd => ?_, hph⟩
  obtain ⟨hud, huq⟩ := life_eq_quarantine.1 (hl hd)
  exact life_eq_quarantine.2 ⟨hdec.trans hud, hql.trans huq⟩

/-- The quarantine keeps the evidence at every moment of detection. -/
theorem guards_quarantine (s : State) : Guards s (quarantine s) := by
  by_cases hp : s.boot.phase = .reset
  · rw [quarantine_eq, if_pos (by simp [hp])]
    exact (qLatched_keeps ..).1.guards
  · cases hs : startingUp s
    · exact (quarantine_running hp hs).1
    · exact (quarantine_starting hp hs).1

/-! ## The event -/

/-- ACTION of a tamper record: 2 with a quarantine, from PROVISIONED and OPERATIONAL, else 1 (R513). -/
def actionOf (s : State) : Nat := if life s == 1 || life s == 2 then 2 else 1

/-- A tamper record of a source written. -/
def tamperNoted (s : State) (src : Nat) : State := tamperWrite s (2 ^ src) (tamperMoment s) (actionOf s) (opCode s)

/-- An event of a source that is on, with no service window for the lines, is recorded, the keys are cleared, and by its action the
module enters quarantine. -/
theorem tamperEvent_eq {s : State} {src : Nat} (hon : sourceOn s src = true) (hw : src < 2 → s.vault.service = none) :
    tamperEvent s src = if actionOf s == 2 then quarantine (keysClear (tamperNoted s src)) else keysClear (tamperNoted s src) := by
  unfold tamperEvent
  rw [if_neg (by rw [hon]; decide), if_neg]
  · rfl
  · intro h
    obtain ⟨h2, hsv⟩ := Bool.and_eq_true_iff.1 h
    rw [hw (of_decide_eq_true h2)] at hsv
    exact absurd hsv (by decide)

/-- The newest of a list's last entries is its own last. -/
theorem getLast?_lastN_append {α : Type} (l : List α) (r : α) {n : Nat} (h : 1 ≤ n) : (lastN (l ++ [r]) n).getLast? = some r := by
  unfold lastN
  rw [List.getLast?_drop, if_neg (by simp; omega)]
  simp

/-- The newest record's number, sources and action. -/
def newestRec (v : Vault) : Option (Nat × Nat × Nat) := v.recs.getLast?.map fun r => (r.seq, r.sources, r.action)

theorem tamperNoted_keeps (s : State) (src : Nat) : Within [.vault] s (tamperNoted s src) ∧
    (tamperNoted s src).vault.recCount = s.vault.recCount + 1 ∧ (tamperNoted s src).vault.tamper = s.vault.tamper ∧
    newestRec (tamperNoted s src).vault = some (s.vault.recCount + 1, 2 ^ src, actionOf s) ∧
    (tamperNoted s src).vault.q = s.vault.q := by
  refine ⟨within_withVault .., rfl, rfl, ?_, rfl⟩
  unfold newestRec
  rw [show (tamperNoted s src).vault.recs.getLast? = _ from getLast?_lastN_append s.vault.recs _ (by decide)]
  rfl

/-- What every tamper event leaves: its record, the source's state, the clock, and no key (R513, R515). -/
structure Responds (s : State) (src : Nat) (t : State) : Prop where
  within : Within Comp.hub s t
  count : t.vault.recCount = s.vault.recCount + 1
  newest : newestRec t.vault = some (s.vault.recCount + 1, 2 ^ src, actionOf s)
  tamper : t.vault.tamper = s.vault.tamper
  clock : clockOf t.rtc = clockOf s.rtc
  gone : keysGone t.vault

/-- The keys cleared after a record answer an event. -/
theorem responds_keysClear (s : State) (src : Nat) : Responds s src (keysClear (tamperNoted s src)) := by
  obtain ⟨hn, hcount, htamper, hnew, -⟩ := tamperNoted_keeps s src
  obtain ⟨hg, -, hgone, -⟩ := keysClear_keeps (tamperNoted s src)
  have hclock : clockOf (tamperNoted s src).rtc = clockOf s.rtc := rfl
  have he := hg.evidence
  refine ⟨(hn.mono (by decide)).trans hg.within, (congrArg (·.2.1) he).trans hcount, ?_, (congrArg (·.2.2) he).trans htamper,
    hg.clock.trans hclock, hgone⟩
  rw [← hnew]
  exact congrArg (fun e => (e.1.getLast?).map fun r => (r.seq, r.sources, r.action)) he

/-- What keeps the evidence, the clock and the keys cleared keeps the answer to an event. -/
theorem Responds.guards {s t u : State} {src : Nat} (h : Responds s src t) (k : Guards t u) : Responds s src u := by
  have he := k.evidence
  refine ⟨h.within.trans k.within, (congrArg (·.2.1) he).trans h.count, ?_, (congrArg (·.2.2) he).trans h.tamper, k.clock.trans h.clock,
    k.gone h.gone⟩
  rw [← h.newest]
  exact congrArg (fun e => (e.1.getLast?).map fun r => (r.seq, r.sources, r.action)) he

section
variable {s : State} {src : Nat}

theorem responds_tamperEvent (hon : sourceOn s src = true) (hw : src < 2 → s.vault.service = none) :
    Responds s src (tamperEvent s src) := by
  rw [tamperEvent_eq hon hw]
  split
  · exact (responds_keysClear ..).guards (guards_quarantine _)
  · exact responds_keysClear ..

/-- Outside PROVISIONED and OPERATIONAL the module goes on, its queue of requests with it. -/
theorem tamperEvent_quiet (hon : sourceOn s src = true) (hw : src < 2 → s.vault.service = none) (hl : life s = 0 ∨ life s = 3) :
    (tamperEvent s src).vault.suspended = [] ∧ (s.vault.q = [] → (tamperEvent s src).vault.work = none) := by
  have ha : actionOf s = 1 := by rcases hl with h | h <;> simp [actionOf, h]
  obtain ⟨-, -, -, hs, hk⟩ := keysClear_keeps (tamperNoted s src)
  rw [tamperEvent_eq hon hw, if_neg (by rw [ha]; decide)]
  exact ⟨hs, hk⟩

/-- What the start-up state shows when the module enters quarantine is what it showed at the event. -/
theorem keysClear_startUp (s : State) (src : Nat) : (keysClear (tamperNoted s src)).boot.phase = s.boot.phase ∧
    startingUp (keysClear (tamperNoted s src)) = startingUp s ∧ (keysClear (tamperNoted s src)).boot.fuseDecom = s.boot.fuseDecom := by
  obtain ⟨-, hb, -⟩ := keysClear_keeps (tamperNoted s src)
  have hb' : (keysClear (tamperNoted s src)).boot = _ := hb
  unfold startingUp
  rw [hb']
  exact ⟨rfl, rfl, rfl⟩

theorem actionOf_operational (hl : life s = 2) : actionOf s = 2 := by simp [actionOf, hl]

/-- In OPERATIONAL a running hub is reset into quarantine. -/
theorem tamperEvent_running (hon : sourceOn s src = true) (hw : src < 2 → s.vault.service = none) (hl : life s = 2)
    (hr : running s = true) (hu : startingUp s = false) :
    life (tamperEvent s src) = 3 ∧ (tamperEvent s src).boot.phase = .reset ∧ (tamperEvent s src).pf.blocked = true := by
  obtain ⟨kp, ku, kd⟩ := keysClear_startUp s src
  have hp : (keysClear (tamperNoted s src)).boot.phase ≠ .reset := by
    rw [kp]
    simp only [running, beq_iff_eq] at hr
    rw [hr]
    decide
  obtain ⟨-, hlife, hphase, hblocked⟩ := quarantine_running hp (ku.trans hu)
  rw [tamperEvent_eq hon hw, actionOf_operational hl, if_pos (beq_self_eq_true 2)]
  exact ⟨hlife (kd.trans (fuseDecom_of_life (by omega))), hphase, hblocked⟩

/-- In OPERATIONAL a hub that starts up comes up at the gateway, in quarantine. -/
theorem tamperEvent_starting (hon : sourceOn s src = true) (hw : src < 2 → s.vault.service = none) (hl : life s = 2)
    (hp : s.boot.phase ≠ .reset) (hu : startingUp s = true) :
    life (tamperEvent s src) = 3 ∧ (tamperEvent s src).boot.phase = .gateway := by
  obtain ⟨kp, ku, kd⟩ := keysClear_startUp s src
  obtain ⟨-, hlife, hphase⟩ := quarantine_starting (by rw [kp]; exact hp) (ku.trans hu)
  rw [tamperEvent_eq hon hw, actionOf_operational hl, if_pos (beq_self_eq_true 2)]
  exact ⟨hlife (kd.trans (fuseDecom_of_life (by omega))), hphase⟩

end

end Sys2Proof.Machine
end

section
/-! PROOF. The sources of tamper events, the service window, the vault's supply and the crystal (R51, R67, R511, R512, R526). -/

open Sys2Proof Sys2Proof.Machine

namespace Sys2Proof.Machine

/-! ## Sources -/

/-- A source set active shows so. -/
theorem bit_setActive_on (s : State) (src : Nat) : bit (setActive s src true).vault.tamper src = true := by
  cases hb : bit s.vault.tamper src
  · have ht : (setActive s src true).vault.tamper = s.vault.tamper + 2 ^ src := by simp [setActive, hb]
    have hm : (s.vault.tamper / 2 ^ src) % 2 ≠ 1 := by simpa [bit] using hb
    rw [ht, bit, Nat.add_div_right _ (Nat.two_pow_pos src), beq_iff_eq]
    omega
  · simp [setActive, hb]

/-- A source that is not active stays so. -/
theorem setActive_off {s : State} {src : Nat} (h : bit s.vault.tamper src = false) : setActive s src false = s := by
  simp only [setActive, h, beq_self_eq_true, if_true]

theorem life_of_senses {s : State} (h : senses s = true) : life s ≠ 4 := by
  intro hl
  simp [senses, hl] at h

/-- The internal sensors and the clock cannot be disabled. -/
theorem sourceOn_internal {s : State} {src : Nat} (h : senses s = true) (h2 : 2 ≤ src) : sourceOn s src = true := by
  simp [sourceOn, life_of_senses h, h2]

theorem sourceOn_line {s : State} {src : Nat} (h : senses s = true) (hv : s.vb 0x4C0002 src = true) : sourceOn s src = true := by
  simp [sourceOn, life_of_senses h, hv]

theorem within_setActive (s : State) (src : Nat) (on : Bool) : Within [.vault] s (setActive s src on) := within_withVault ..

/-- With no internal source active and both lines closed no source is. -/
theorem setActive_lines {s : State} (h : s.vault.tamper < 4) : (setActive (setActive s 0 false) 1 false).vault.tamper = 0 := by
  obtain h | h | h | h : s.vault.tamper = 0 ∨ s.vault.tamper = 1 ∨ s.vault.tamper = 2 ∨ s.vault.tamper = 3 := by omega
  all_goals simp [setActive, h, bit]

theorem actionOf_quiet {s : State} (h : life s = 0 ∨ life s = 3) : actionOf s = 1 := by
  rcases h with h | h <;> simp [actionOf, h]

/-! ## The lines sampled -/

/-- A line's count of consecutive open samples after one more. -/
def openCount (opened : Bool) (n : Nat) : Nat := if opened then min (n + 1) 2 else 0

/-- The state that shows a sample of the lines, before it is judged (R67). -/
def sampled (s : State) (e lo : Bool) : State :=
  { s with hw := { s.hw with enclOpen := e, loopOpen := lo }
           vault := { s.vault with openEncl := openCount e s.vault.openEncl, openLoop := openCount lo s.vault.openLoop
                                   sampleAt := s.now + 125000000 } }

theorem within_sampled (s : State) (e lo : Bool) : Within [.hw, .vault] s (sampled s e lo) :=
  ((within_withHw s { s.hw with enclOpen := e, loopOpen := lo }).mono (m := [.hw, .vault]) (by decide)).trans
    ((within_withVault ..).mono (by decide))

/-- No internal source's condition ends where none is active. -/
theorem internalEnd_eq {s : State} (h : s.vault.tamper < 4) : internalEnd s = s := if_pos h

/-- A sample that is due shows the lines and judges both. -/
theorem exec_tamperSample {dt : Nat} {s : State} {e l lo : Bool} (hs : senses (advance dt s) = true)
    (hd : (advance dt s).vault.sampleAt ≤ (advance dt s).now) (ht : (advance dt s).vault.tamper < 4)
    (hlo : (l || !(advance dt s).hw.seated) = lo) :
    exec (.tamperSample dt e l) s = done (lineSample (lineSample (sampled (advance dt s) e lo) 0
      (openCount e (advance dt s).vault.openEncl) e) 1 (openCount lo (advance dt s).vault.openLoop) lo) := by
  subst hlo
  change execTamperSample dt e l s = _
  unfold execTamperSample
  generalize advance dt s = a at *
  have hi : internalEnd (sampled a e (l || !a.hw.seated)) = sampled a e (l || !a.hw.seated) := internalEnd_eq ht
  have hs' : senses { a with hw := { a.hw with enclOpen := e, loopOpen := (l || !a.hw.seated) } } = true := hs
  dsimp only
  rw [if_neg (Nat.not_lt.2 hd), if_neg (by rw [hs']; decide)]
  exact congrArg (fun u => done (lineSample (lineSample u 0 (openCount e a.vault.openEncl) e) 1
    (openCount (l || !a.hw.seated) a.vault.openLoop) (l || !a.hw.seated))) hi

theorem lineSample_closed (s : State) (src n : Nat) : lineSample s src n false = setActive s src false := rfl

/-- The second open sample of a line in a row is an event of its source. -/
theorem lineSample_second {s : State} {src : Nat} (h : bit s.vault.tamper src = false) :
    lineSample s src 2 true = tamperEvent (setActive s src true) src := by
  unfold lineSample
  rw [if_neg (by decide), if_neg (by decide), if_neg (by rw [h]; decide)]

/-- The state in which the second open sample of a line is an event. -/
def lineOpen (s : State) (e lo : Bool) (src : Nat) : State := setActive (sampled s e lo) src true

theorem within_lineOpen (s : State) (e lo : Bool) (src : Nat) : Within [.hw, .vault] s (lineOpen s e lo src) :=
  (within_sampled ..).trans ((within_setActive ..).mono (by decide))

/-- With no source active before, the line's alone is. -/
theorem lineOpen_tamper {s : State} (ht : s.vault.tamper = 0) (e lo : Bool) (src : Nat) :
    (lineOpen s e lo src).vault.tamper = 2 ^ src := by
  have hb : bit 0 src = false := by simp [bit]
  simp only [lineOpen, setActive, sampled, ht, hb, Nat.zero_add]
  rfl

/-- An open line, enabled and with no service window, is an event at its second sample. -/
theorem responds_lineOpen {s : State} (e lo : Bool) {src : Nat} (hs : senses s = true) (hv : s.vb 0x4C0002 src = true)
    (hsv : s.vault.service = none) : Responds (lineOpen s e lo src) src (tamperEvent (lineOpen s e lo src) src) :=
  responds_tamperEvent (sourceOn_line hs hv) fun _ => hsv

section
variable {dt : Nat} {s : State} (hs : senses (advance dt s) = true) (hd : (advance dt s).vault.sampleAt ≤ (advance dt s).now)
  (ht : (advance dt s).vault.tamper = 0)
include hs hd ht

/-- The enclosure's line open a second time, the loop's closed. -/
theorem exec_tamperSample_encl (hn : (advance dt s).vault.openEncl = 1) (hseat : (advance dt s).hw.seated = true)
    (hv : (advance dt s).vb 0x4C0002 0 = true) (hsv : (advance dt s).vault.service = none) :
    exec (.tamperSample dt true false) s = done (tamperEvent (lineOpen (advance dt s) true false 0) 0) := by
  have hr := responds_lineOpen true false hs hv hsv
  have ht' := hr.tamper.trans (lineOpen_tamper ht true false 0)
  have h0 : bit (sampled (advance dt s) true false).vault.tamper 0 = false := show bit (advance dt s).vault.tamper 0 = false by rw [ht]; rfl
  rw [exec_tamperSample hs hd (by omega) (lo := false) (by rw [hseat]; rfl), hn, show openCount true 1 = 2 from rfl,
    lineSample_second h0, lineSample_closed]
  exact congrArg done (setActive_off (by
    change bit (tamperEvent (lineOpen (advance dt s) true false 0) 0).vault.tamper 1 = false
    rw [ht']
    rfl))

/-- The loop open a second time, the enclosure closed. -/
theorem exec_tamperSample_loop (hn : (advance dt s).vault.openLoop = 1) :
    exec (.tamperSample dt false true) s = done (tamperEvent (lineOpen (advance dt s) false true 1) 1) := by
  have h0 : bit (sampled (advance dt s) false true).vault.tamper 0 = false := show bit (advance dt s).vault.tamper 0 = false by rw [ht]; rfl
  have h1 : bit (sampled (advance dt s) false true).vault.tamper 1 = false := show bit (advance dt s).vault.tamper 1 = false by rw [ht]; rfl
  rw [exec_tamperSample hs hd (by omega) (lo := true) rfl, hn, show openCount true 1 = 2 from rfl, lineSample_closed, setActive_off h0,
    lineSample_second h1]
  rfl

end

/-- TAMPER_SENSOR_EVENT of an internal source that is sensed is its event (R511). -/
theorem exec_tamperSensorEvent {dt src : Nat} {s : State} (hs : senses (advance dt s) = true) (h2 : 2 ≤ src) (h5 : src ≤ 5) :
    exec (.tamperSensorEvent dt src) s = done (tamperEvent (setActive (advance dt s) src true) src) :=
  if_neg (by simp [hs]; omega)

/-- The newest record's sources and action, of its number and them. -/
theorem newestRec_sources {v : Vault} {n k m : Nat} (h : newestRec v = some (n, k, m)) :
    (v.recs.getLast?).map (fun r => (r.sources, r.action)) = some (k, m) := by
  have := congrArg (Option.map Prod.snd) h
  rwa [newestRec, Option.map_map] at this

/-! ## Service window -/

theorem within_serviceEnd (s : State) : Within [.vault, .logb] s (serviceEnd s) :=
  ((within_withVault s _).mono (by decide)).trans ((within_logRec ..).mono (by decide))

/-- A service window open for its seconds (R512). -/
def windowOpened (s : State) (secs : Nat) : State :=
  logRec { s with vault := { s.vault with service := some secs } } 0x01E7 0x80 (ints [1, secs])

theorem within_windowOpened (s : State) (secs : Nat) : Within [.vault, .logb] s (windowOpened s secs) :=
  ((within_withVault s _).mono (by decide)).trans ((within_logRec ..).mono (by decide))

/-! ## The RTC's crystal -/

theorem within_setRtc (s : State) (r : Rtc) : Within [.rtc] s (setRtc s r) :=
  ⟨fun c hc => by cases c <;> simp_all [Comp.same, setRtc]⟩

/-- OSF set, with its record or, on backup supply, the note of it (R526). -/
theorem setOsf_keeps (s : State) : Within [.rtc, .logb] s (setOsf s) ∧
    (setOsf s).rtc = { s.rtc with osf := true, pendOsf := s.rtc.pendOsf || s.rtc.vbak } := by
  unfold setOsf
  cases hv : s.rtc.vbak
  · exact ⟨((within_setRtc ..).mono (by decide)).trans ((within_logRec ..).mono (by decide)), by simp [hv]⟩
  · exact ⟨(within_setRtc ..).mono (by decide), by simp [hv]⟩

/-- The crystal stops with its calendar held and OSF set. -/
theorem oscStop_keeps {s : State} (h : s.rtc.oscRun = true) : Within [.rtc, .logb] s (oscStop s) ∧ (oscStop s).rtc =
    { s.rtc with oscRun := false, stopped := some (prescale s), osf := true, pendOsf := s.rtc.pendOsf || s.rtc.vbak } := by
  have hs : oscStop s = setOsf (setRtc s { s.rtc with oscRun := false, stopped := some (prescale s) }) := if_neg (by rw [h]; decide)
  obtain ⟨hw, hr⟩ := setOsf_keeps (setRtc s { s.rtc with oscRun := false, stopped := some (prescale s) })
  rw [hs]
  exact ⟨((within_setRtc ..).mono (by decide)).trans hw, hr⟩

/-- After a stop the crystal does not run, whatever it did. -/
theorem oscStop_stops (s : State) : Within [.rtc, .logb] s (oscStop s) ∧ (oscStop s).rtc.oscRun = false := by
  cases h : s.rtc.oscRun
  · have hs : oscStop s = s := if_pos (by rw [h]; rfl)
    rw [hs]
    exact ⟨Within.refl .., h⟩
  · obtain ⟨hw, hr⟩ := oscStop_keeps h
    exact ⟨hw, by rw [hr]⟩

/-- Whether the vault senses does not hang on the crystal. -/
theorem senses_congr {s t : State} (h : Within [.rtc, .logb] s t) : senses t = senses s := by
  have hb : t.boot = s.boot := h.agrees .boot (by decide)
  have hh : t.hw = s.hw := h.agrees .hw (by decide)
  have hv : t.vault = s.vault := h.agrees .vault (by decide)
  simp only [senses, life, hb, hh, hv]

/-- RTC_OSC_STOP of a crystal that runs stops it, which the vault that senses takes as an event of the source CLOCK. -/
theorem exec_rtcOscStop {dt : Nat} {s : State} (h : (advance dt s).rtc.oscRun = true) : exec (.rtcOscStop dt) s = done (if
    senses (oscStop (advance dt s)) then tamperEvent (setActive (oscStop (advance dt s)) 3 true) 3 else oscStop (advance dt s)) :=
  if_neg (by rw [h]; decide)

/-- The RTC whose crystal runs on, its present second begun at a local time. -/
def crystalOn (r : Rtc) (base : Nat) : Rtc := { r with oscRun := true, stopped := none, secBase := base }

theorem crystalOn_keeps (r : Rtc) (base : Nat) : (crystalOn r base).oscRun = true ∧ (crystalOn r base).stopped = none ∧
    (crystalOn r base).cal = r.cal ∧ (crystalOn r base).osf = r.osf := ⟨rfl, rfl, rfl, rfl⟩

/-- CRYSTAL_RESTART runs the crystal on from the PRESCALE it stopped at (R526). -/
theorem exec_crystalRestart {dt : Nat} {s : State} (h : (advance dt s).rtc.oscRun = false) : exec (.crystalRestart dt) s =
    done (setRtc (advance dt s) (crystalOn (advance dt s).rtc ((advance dt s).now - prescale (advance dt s) * 1000000000 / 32768))) := by
  change execCrystalRestart dt s = _
  unfold execCrystalRestart
  generalize advance dt s = a at *
  dsimp only
  rw [if_neg (by rw [h]; decide)]
  rfl

/-- What VAULT_SUPPLY_LOW leaves: sensing and the crystal stopped, below 1.2 V the RTC's fields lost (R51, R526). -/
def supplyLow (s : State) (low : Bool) : State :=
  let u := oscStop { s with vault := { s.vault with gap := true } }
  if low then rtcLost u else u

theorem supplyLow_keeps (s : State) (low : Bool) : Within [.vault, .rtc, .logb] s (supplyLow s low) ∧
    (supplyLow s low).vault = { s.vault with gap := true } ∧ (supplyLow s low).rtc.oscRun = false ∧
    (low = true → (supplyLow s low).rtc.cal = {} ∧ (supplyLow s low).rtc.osf = true ∧ (supplyLow s low).rtc.alarm = none) := by
  obtain ⟨hw, hr⟩ := oscStop_stops { s with vault := { s.vault with gap := true } }
  have hs : Within [.vault, .rtc, .logb] s _ := ((within_withVault s _).mono (by decide)).trans (hw.mono (by decide))
  have hv := hw.agrees .vault (by decide)
  unfold supplyLow
  generalize oscStop { s with vault := { s.vault with gap := true } } = u at *
  cases low
  · exact ⟨hs, hv, hr, fun h => absurd h (by decide)⟩
  · exact ⟨hs.trans ((within_setRtc ..).mono (by decide)), hv, rfl, fun _ => ⟨rfl, rfl, rfl⟩⟩

end Sys2Proof.Machine

/-- Settles O36: every source's event is `tamperEvent`, which answers as `Responds` says and by the life cycle and the moment of detection
enters quarantine; the service window and the crystal change their own fields alone. -/
theorem tamperSourcesAndTheirResponse : Obligations.TamperSourcesAndTheirResponse := by
  intro dt s a
  refine ⟨fun e l hs hd ht he hl hseat => ?closed, fun hs hd ht hn hseat hv hsv hlife => ?encl,
    fun hs hd ht hn hseat hv hsv hrun hu hlife => ?enclRunning, fun hs hd ht hn hv hsv hlife => ?loop, fun e l hd => ?early,
    fun src hs h2 h5 hrun hu hlife => ?sensorRunning, fun src hs h2 h5 hp hu hlife => ?sensorStarting,
    fun rq secs h h0 hout => ?windowRefused, fun rq secs h h60 h3600 => ?windowOpened, fun rq h hsome => ?windowClosed,
    fun hsv => ?windowOver, fun low hv hp => ?supplyLow, fun hrun hs => ?oscUnsensed, fun hrun hs => ?oscSensed, fun hstop => ?crystal⟩
  case closed =>
    subst he hl
    have hx := exec_tamperSample (e := false) (l := false) (lo := false) hs hd ht (by rw [hseat]; rfl)
    refine does_within hx ((within_sampled a false false).trans (((within_setActive ..).trans (within_setActive ..)).mono (by decide)))
      ⟨rfl, rfl, rfl, rfl, ?_, rfl⟩
    change (setActive (setActive (sampled a false false) 0 false) 1 false).vault.tamper = 0
    exact setActive_lines ht
  case encl =>
    have hon : sourceOn (lineOpen a true false 0) 0 = true := sourceOn_line hs hv
    have hr := responds_lineOpen true false hs hv hsv
    obtain ⟨hsusp, hwork⟩ := tamperEvent_quiet hon (fun _ => hsv) hlife
    have ht' := hr.tamper.trans (lineOpen_tamper ht true false 0)
    have ha : actionOf a = 1 := actionOf_quiet hlife
    have hx := exec_tamperSample_encl hs hd ht hn hseat hv hsv
    obtain ⟨hw, hcount, hnew, -, -, hsh, hkeys⟩ := hr
    generalize tamperEvent _ _ = t at *
    refine does_within hx (((within_lineOpen a true false 0).mono (by decide)).trans hw)
      ⟨hcount, ?_, hsh, hkeys, hsusp, hwork, hnew.trans (congrArg (fun n => some (_, _, n)) ha)⟩
    change bit t.vault.tamper 0 = true
    rw [ht']
    rfl
  case enclRunning =>
    have hon : sourceOn (lineOpen a true false 0) 0 = true := sourceOn_line hs hv
    have hr := responds_lineOpen true false hs hv hsv
    obtain ⟨hl, hphase, hblocked⟩ := tamperEvent_running hon (fun _ => hsv) hlife hrun hu
    have ha : actionOf a = 2 := actionOf_operational hlife
    have hx := exec_tamperSample_encl hs hd ht hn hseat hv hsv
    obtain ⟨hw, hcount, hnew, -, -, -, hkeys⟩ := hr
    generalize tamperEvent _ _ = t at *
    exact does_within hx (((within_lineOpen a true false 0).mono (by decide)).trans hw)
      ⟨hl, hphase, hblocked, hcount, hkeys, newestRec_sources (hnew.trans (congrArg (fun n => some (_, _, n)) ha))⟩
  case loop =>
    have hon : sourceOn (lineOpen a false true 1) 1 = true := sourceOn_line hs hv
    have hr := responds_lineOpen false true hs hv hsv
    obtain ⟨hsusp, hwork⟩ := tamperEvent_quiet hon (fun _ => hsv) hlife
    have ht' := hr.tamper.trans (lineOpen_tamper ht false true 1)
    have ha : actionOf a = 1 := actionOf_quiet hlife
    have hx := exec_tamperSample_loop hs hd ht hn
    obtain ⟨hw, hcount, hnew, -, -, hsh, hkeys⟩ := hr
    generalize tamperEvent _ _ = t at *
    refine does_within hx (((within_lineOpen a false true 1).mono (by decide)).trans hw)
      ⟨hcount, ?_, hsh, hkeys, hsusp, hwork, hnew.trans (congrArg (fun n => some (_, _, n)) ha)⟩
    change bit t.vault.tamper 1 = true
    rw [ht']
    rfl
  case early =>
    have hx : exec (.tamperSample dt e l) s = done a := if_pos hd
    exact does_within hx (Within.refl ..) rfl
  case sensorRunning =>
    have hon : sourceOn (setActive a src true) src = true := sourceOn_internal hs h2
    have hw2 : src < 2 → (setActive a src true).vault.service = none := fun h => absurd h (Nat.not_lt.2 h2)
    obtain ⟨hl, hphase, -⟩ := tamperEvent_running hon hw2 hlife hrun hu
    have hx := exec_tamperSensorEvent hs h2 h5
    obtain ⟨hw, hcount, -, htam, -, hsh, hkeys⟩ := responds_tamperEvent hon hw2
    have hbit := htam ▸ bit_setActive_on a src
    generalize tamperEvent _ _ = t at *
    exact does_within hx (((within_setActive a src true).mono (by decide)).trans hw) ⟨hl, hphase, hkeys, hsh, hcount, hbit⟩
  case sensorStarting =>
    have hon : sourceOn (setActive a src true) src = true := sourceOn_internal hs h2
    have hw2 : src < 2 → (setActive a src true).vault.service = none := fun h => absurd h (Nat.not_lt.2 h2)
    obtain ⟨hl, hphase⟩ := tamperEvent_starting hon hw2 hlife hp hu
    have hx := exec_tamperSensorEvent hs h2 h5
    obtain ⟨hw, hcount, -, htam, -, hsh, hkeys⟩ := responds_tamperEvent hon hw2
    have hbit := htam ▸ bit_setActive_on a src
    generalize tamperEvent _ _ = t at *
    exact does_within hx (((within_setActive a src true).mono (by decide)).trans hw) ⟨hl, hphase, hkeys, hsh, hcount, hbit⟩
  case windowRefused =>
    refine does_completes rfl h fun x => ?_
    have ho : opServiceWindow (setSess a rq.sess x) secs = deny (setSess a rq.sess x) rangeS := by
      unfold opServiceWindow
      rw [if_neg (by simp; omega), if_pos (by simpa using hout)]
    rw [ho]
    exact completes_deny (by decide) fun t _ ha => ha
  case windowOpened =>
    refine does_completes rfl h fun x => ?_
    have ho : opServiceWindow (setSess a rq.sess x) secs = good (windowOpened (setSess a rq.sess x) secs) := by
      unfold opServiceWindow
      rw [if_neg (by simp; omega), if_neg (by simp; omega)]
      rfl
    rw [ho]
    exact completes_within (show okS ≠ pendingS by decide) (within_windowOpened ..) (by decide) fun t ht ha =>
      ⟨ht .vault (by decide), congrArg Logb.offered (ht .logb (by decide)), ha⟩
  case windowClosed =>
    refine does_completes rfl h fun x => ?_
    have ho : opServiceWindow (setSess a rq.sess x) 0 = good (serviceEnd (setSess a rq.sess x)) := by
      unfold opServiceWindow
      rw [if_pos (beq_self_eq_true 0), if_pos (show (setSess a rq.sess x).vault.service.isSome = true from hsome)]
    rw [ho]
    exact completes_within (show okS ≠ pendingS by decide) (within_serviceEnd ..) (by decide) fun t ht ha =>
      ⟨congrArg Vault.service (ht .vault (by decide)), congrArg Vault.openEncl (ht .vault (by decide)), ha⟩
  case windowOver =>
    have hx : exec (.serviceWindowExpiry dt) s = done (serviceEnd a) := if_pos (beq_iff_eq.2 hsv)
    exact does_within hx (within_serviceEnd a) ⟨rfl, rfl, rfl, rfl⟩
  case supplyLow =>
    have hx : exec (.vaultSupplyLow dt low) s = done (supplyLow a low) :=
      if_neg (by rw [show (advance dt s).hw.vinGood = false from hv, show (advance dt s).hw.pf = false from hp]; decide)
    obtain ⟨hw, hvault, hrun, hlost⟩ := supplyLow_keeps a low
    exact does_within hx hw ⟨hvault, hrun, hlost⟩
  case oscUnsensed =>
    obtain ⟨hw, hr⟩ := oscStop_keeps hrun
    have hx : exec (.rtcOscStop dt) s = done (oscStop a) := by
      rw [exec_rtcOscStop hrun, if_neg (by rw [senses_congr hw, hs]; decide)]
    exact does_within hx hw ⟨congrArg Rtc.oscRun hr, congrArg Rtc.osf hr, (congrArg Rtc.cal hr).trans rfl, congrArg Rtc.stopped hr⟩
  case oscSensed =>
    obtain ⟨hw, hr⟩ := oscStop_keeps hrun
    have hs' : senses (oscStop a) = true := (senses_congr hw).trans hs
    have hx : exec (.rtcOscStop dt) s = done (tamperEvent (setActive (oscStop a) 3 true) 3) := by
      rw [exec_rtcOscStop hrun, if_pos hs']
    have hresp : Responds (setActive (oscStop a) 3 true) 3 _ := responds_tamperEvent (sourceOn_internal hs' (by decide))
      fun h => absurd h (by decide)
    obtain ⟨hrw, -, -, htam, hclock, -⟩ := hresp
    have hbit := htam ▸ bit_setActive_on (oscStop a) 3
    have hc : clockOf (setActive (oscStop a) 3 true).rtc = (false, true, a.rtc.cal) := congrArg clockOf hr
    rw [hc] at hclock
    generalize tamperEvent _ _ = t at *
    exact does_within hx ((hw.mono (by decide)).trans (((within_setActive ..).mono (by decide)).trans hrw))
      ⟨congrArg (·.1) hclock, congrArg (·.2.1) hclock, congrArg (·.2.2) hclock, hbit⟩
  case crystal =>
    exact does_within (exec_crystalRestart hstop) (within_setRtc ..) (crystalOn_keeps a.rtc _)
end

section
/-! PROOF. The state after reset. -/

open Sys2Proof Sys2Proof.Machine

/-- Settles O57: every component named has its default in the state after reset. -/
theorem resetMeetsTheInvariant : Obligations.ResetMeetsTheInvariant :=
  ⟨wf_reset, rfl, rfl, rfl, rfl⟩
end

section
/-! PROOF. The end of a firmware load whose session has closed (R83, R146): its result is recorded, which takes a free value. -/

open Sys2Proof Sys2Proof.Machine

namespace Sys2Proof.Machine

/-- A running hub with a firmware load in the vault, whose session 0 has closed. -/
def loadOrphaned : State where
  boot := { phase := .run, fwApply := some (1, 0, 7) }
  jal := { orphans := [(0, 7, addrOf 0x010021 0)] }

/-- An image without the magic of R495. -/
def unsigned : SignedObj where
  magic := []
  version := 1
  kind := 1
  rsaAnchor := 0xFF
  slhAnchor := 0xFF
  svn := 0
  contentLength := 0
  digest := []
  rsaN := []
  rsaE := 65537
  slhPk := []
  running := []
  sigsOk := false

/-- The free values taken after a command. -/
def freeNext (i : Instr) (s : State) : Option Nat :=
  match exec i s with
  | .next t => some t.freeCtr
  | _ => none

/-- The orphaned result of the refused load is recorded under a free code (R146). -/
theorem fwApplyDone_takes_free_value : freeNext (.fwApplyDone 0 unsigned) loadOrphaned = some 1 := by decide +kernel

/-- A command that completes without changing the free values has taken none. -/
theorem freeNext_of_does {i : Instr} {s a : State} {but : List Comp} {eff : State → Prop} (h : Does i s a but eff)
    (hf : Comp.freeCtr ∉ Comp.jal :: but) : freeNext i s = some a.freeCtr := by
  obtain ⟨t, hx, ⟨-, hk⟩, -⟩ := h
  simp only [freeNext, hx]
  exact congrArg some (hk .freeCtr hf)

end Sys2Proof.Machine

/-- Refutes O2: FW_APPLY_DONE of a refused image whose session has closed records the orphaned result (R146), which takes a free value
and drops the orphan, and its clause lets neither `freeCtr` nor the Jalyn component change. -/
theorem not_firmwareStartsFromAVerifiedSlot : ¬ Obligations.FirmwareStartsFromAVerifiedSlot := by
  unfold Obligations.FirmwareStartsFromAVerifiedSlot
  intro h
  obtain ⟨-, -, -, -, -, -, -, -, hrefused, -⟩ := h 0 loadOrphaned
  have hd := hrefused unsigned 1 0 7 rfl (by decide +kernel)
  exact absurd ((freeNext_of_does hd (by decide)).symm.trans fwApplyDone_takes_free_value) (by decide +kernel)
end

section
/-! PROOF. PART_RESET of a faulted partition that an accepted commit holds (R328): it answers BUSY and the partition stays in FAULT. -/

open Sys2Proof Sys2Proof.Machine

namespace Sys2Proof.Machine

/-- A running hub whose partition 0 is in FAULT and held until the commit row, with a session of the role MGR. -/
def faultHeld : State where
  hw := { vinGood := true, holdup := 1, osc := 1 }
  boot := { phase := .run, fuseComm := true, roll := (upto 31).map fun n => (n, { st := .ready }) }
  store := [(okey 0x300010 0 0, [.n 1, .o [1], .n 1, .n 8, .n 0, .n 0, .n 0, .n 0, .n 0, .n 1, .n 0, .n 0, .n 0, .n 0, .n 0])]
  parts := { ps := [(0, { st := .fault })] }
  jal := { sess := [(0, { role := .mgr })], heldParts := [0] }

/-- A first request of session 0. -/
def firstRequest : Req where
  sess := 0
  seq := 1
  reqId := 7

/-- A partition's state after a command. -/
def stNext (i : Instr) (s : State) (p : Nat) : Option PSt :=
  match exec i s with
  | .next t => some (partOf t p).st
  | _ => none

/-- The session may run PART_RESET of partition 0. -/
theorem cmdRuns_faultHeld : cmdRuns (advance 0 faultHeld) firstRequest 0x300032 0 [] = true := by decide +kernel

/-- The reset is refused: the partition stays in FAULT. -/
theorem partReset_held_stays : stNext (.partReset 0 firstRequest 0) faultHeld 0 = some .fault := by decide +kernel

end Sys2Proof.Machine

/-- Refutes O15: its clause for PART_RESET of a partition in FAULT does not exclude one that an accepted commit holds (R328); the model
answers BUSY there, and the partition does not become RESETTING. -/
theorem not_partitionsStartStopAndReset : ¬ Obligations.PartitionsStartStopAndReset := by
  unfold Obligations.PartitionsStartStopAndReset
  intro h
  obtain ⟨-, -, -, -, -, -, -, -, -, -, -, hreset, -⟩ := h 0 faultHeld
  obtain ⟨t, hx, -, hst, -⟩ := hreset firstRequest 0 cmdRuns_faultHeld (by decide +kernel) (by decide +kernel) (by decide +kernel)
    (by decide +kernel)
  have hf := partReset_held_stays
  simp only [stNext, hx, hst] at hf
  exact absurd hf (by decide)
end

section
/-! PROOF. The life-cycle commands (R92 to R95, R516): each acts in its session's turn, and three of them reset the hub. -/

open Sys2Proof Sys2Proof.Machine

namespace Sys2Proof.Machine

/-! ## A session's command that resets the hub -/

/-- A session's command whose effect is a hub reset, after changes that keep the last commit row, completes with the hub held in reset. -/
theorem does_hubReset {i : Instr} {s a : State} {rq : Req} {ob sub cause : Nat} {op : State → Res} {arg : Val} {eff : State → Prop}
    {f : State → State} (hx : exec i s = done (doExec a rq ob sub op arg)) (h : cmdRuns a rq ob sub arg = true)
    (ho : ∀ x, op (setSess a rq.sess x) = good (hubReset (f (setSess a rq.sess x)) false cause))
    (hf : ∀ u, Within Comp.hub u (f u)) (hj : ∀ u, (f u).jal = u.jal)
    (he : ∀ x, eff (settle (hubReset (f (setSess a rq.sess x)) false cause))) :
    Does i s a Comp.hub fun t => eff t ∧ heldReset a t cause := by
  obtain ⟨x, hb⟩ := began_of_cmdRuns h
  have hop := (congrArg op hb).trans (ho x)
  have hw : Within Comp.hub a (hubReset (f (setSess a rq.sess x)) false cause) :=
    ((within_setSess a rq.sess x).mono (by decide)).trans ((hf _).trans (within_hubReset ..))
  have hl : (f (setSess a rq.sess x)).jal.lastCommitRow = a.jal.lastCommitRow := by
    rw [hj]
    rfl
  have hh : heldReset a (hubReset (f (setSess a rq.sess x)) false cause) cause := heldReset_congr hl (heldReset_hubReset ..)
  have hn : (hubReset (f (setSess a rq.sess x)) false cause).jal.sess = [] := by
    obtain ⟨-, -, -, hjal, -⟩ := hh
    exact congrArg Jal.sess hjal
  have heff := he x
  generalize hubReset (f (setSess a rq.sess x)) false cause = t at hop hw hh hn heff
  refine does_cmd hx h ?_ (fun hm => absurd (by decide) hm) ?_ ?_
  · rw [hop]
    exact show okS ≠ pendingS by decide
  · rw [hop]
    exact (hw.mono (by decide)).agrees
  · rw [hop, answer_of_no_session (r := good t) hn]
    exact ⟨heff, heldReset_settle hh⟩

/-! ## What a reset leaves of the life cycle -/

theorem hubReset_qLatch (s : State) (lost : Bool) (cause : Nat) : (hubReset s lost cause).boot.qLatch = s.boot.qLatch := by
  have h := rollBut_stopped s lost
  rw [hubReset_eq]
  change (stopped s lost).boot.qLatch = _
  rw [h]

theorem within_lifeLog (s : State) (old : Nat) : Within [.logb] s (lifeLog s old) := by
  unfold lifeLog
  split
  · exact Within.refl ..
  · exact within_logRec ..

/-- A life cycle other than the one before is recorded (R95). -/
theorem lifeLog_of_ne {s : State} {old : Nat} (h : life s ≠ old) :
    lifeLog s old = logRec s 0x0128 0x80 (ints [old, life s]) :=
  if_neg (by simpa using h)

theorem life_congr {s t : State} (h : t.boot = s.boot) : life t = life s := by
  unfold life
  rw [h]

/-! ## COMMISSION -/

/-- The life cycle moved to OPERATIONAL, with the owner anchors in use (R92, R493). -/
def commissioned (s : State) : State := lifeLog (anchorsStart { s with boot := { s.boot with fuseComm := true } }) 1

/-- PROVISIONED, the commissioning fuse takes the module to OPERATIONAL. -/
theorem life_commissioned_boot {s : State} (h : life s = 1) : life { s with boot := { s.boot with fuseComm := true } } = 2 := by
  unfold life at h ⊢
  dsimp only
  split_ifs at h ⊢ <;> simp_all

/-- What commissioning changes: the fuse, the anchors in use, and the record of the change. -/
theorem commissioned_eq {s : State} (h : life s = 1) : commissioned s =
    logRec (anchorsStart { s with boot := { s.boot with fuseComm := true } }) 0x0128 0x80 [1, 2] := by
  have hl : life (anchorsStart { s with boot := { s.boot with fuseComm := true } }) = 2 := life_commissioned_boot h
  unfold commissioned
  rw [lifeLog_of_ne (by rw [hl]; decide), hl]
  rfl

theorem within_commissioned {s : State} (h : life s = 1) : Within [.boot, .vault, .logb] s (commissioned s) := by
  rw [commissioned_eq h]
  exact ⟨fun c hc => by cases c <;> simp_all [Comp.same, anchorsStart]⟩

/-- The anchors in use are the installed ones. -/
theorem anchorsInUse_commissioned {s : State} (h : life s = 1) :
    (commissioned s).vault.anchorsInUse = (upto 8).map fun n => (n, s.val 0x480030 n 0) := by
  rw [commissioned_eq h]
  rfl

/-! ## QUARANTINE_LEAVE, DECOMMISSION -/

/-- The quarantine latch given up, and the change recorded (R94, R516). -/
def qReleased (s : State) : State := lifeLog { s with boot := { s.boot with qLatch := false } } 3

theorem within_qReleased (s : State) : Within [.boot, .logb] s (qReleased s) :=
  ((within_withBoot ..).mono (by decide)).trans ((within_lifeLog ..).mono (by decide))

theorem qReleased_qLatch (s : State) : (qReleased s).boot.qLatch = false :=
  congrArg Boot.qLatch ((within_lifeLog { s with boot := { s.boot with qLatch := false } } 3).agrees .boot (by decide))

/-- A key slot erased. -/
def slotErased (x : KeySlot) : KeySlot := { x with st := 0, key := [], kcv := 0 }

/-- The fuse of DECOMMISSIONED blown, every key slot and owner anchor erased, sensing off (R92). -/
def erased (s : State) : State :=
  { s with
    boot := { s.boot with fuseDecom := true }
    store := s.store.filter fun (k, _) => k / 4294967296 != 0x480030 || k / 65536 % 65536 == 0
    vault := { s.vault with slots := tabMap (fun _ x => slotErased x) s.vault.slots, tamper := 0, openEncl := 0, openLoop := 0, service := none } }

/-- The state that DECOMMISSION resets: outputs blocked, keys erased, the change recorded. -/
def decommissioned (s : State) : State := lifeLog (erased (blockAll s)) (life s)

theorem within_erased (s : State) : Within [.boot, .store, .vault] s (erased s) :=
  ⟨fun c hc => by cases c <;> simp_all [Comp.same, erased]⟩

theorem within_decommissioned (s : State) : Within (.boot :: .store :: .vault :: .logb :: .pf :: .pair :: Comp.ring) s (decommissioned s) :=
  ((within_blockAll s).mono (by decide)).trans
    (((within_erased _).mono (by decide)).trans ((within_lifeLog ..).mono (by decide)))

theorem decommissioned_boot (s : State) : (decommissioned s).boot = (erased (blockAll s)).boot :=
  (within_lifeLog ..).agrees .boot (by decide)

theorem decommissioned_vault (s : State) : (decommissioned s).vault = (erased (blockAll s)).vault :=
  (within_lifeLog ..).agrees .vault (by decide)

/-- DECOMMISSIONED is final: its fuse decides the life cycle (R92). -/
theorem life_decommissioned (s : State) : life (decommissioned s) = 4 := by
  rw [life_congr (decommissioned_boot s)]
  exact if_pos rfl

theorem all_tabMap {α β : Type} (f : Nat → α → β) (p : Nat × β → Bool) (h : ∀ n x, p (n, f n x) = true) (t : Tab α) :
    (tabMap f t).all p = true := by
  simp [tabMap, h]

/-- No key is left, and no tamper source is active. -/
theorem decommissioned_erased (s : State) : ((decommissioned s).vault.slots.all fun (_, x) => x.st == 0 && x.key.isEmpty) = true ∧
    (decommissioned s).vault.tamper = 0 := by
  rw [decommissioned_vault]
  exact ⟨all_tabMap (fun _ => slotErased) (fun (_, x) => x.st == 0 && x.key.isEmpty) (fun _ _ => rfl) _, rfl⟩

/-- What a session has heard does not change the active tamper sources. -/
theorem activeOn_setSess (s : State) (n : Nat) (x : Sess) : activeOn (setSess s n x) = activeOn s := rfl

end Sys2Proof.Machine

/-- Settles O5: a refused command changes nothing; the others set their fuse or latch, and three go through `hubReset`, which keeps the
life cycle and the vault. -/
theorem lifeCycleCommands : Obligations.LifeCycleCommands := by
  intro dt s a
  refine ⟨fun rq h hl hs => ?commission, fun rq h hn => ?commissionRefused, fun rq h hl => ?enterRefused, fun rq h hl => ?enter,
    fun rq h hl ht => ?leave, fun rq h hl ht => ?leaveRefused, fun rq serial h hs => ?otherSerial, fun rq serial h hl hs => ?decommission⟩
  case commission =>
    refine does_completes rfl h fun x => ?_
    have ho : opCommission (setSess a rq.sess x) = good (commissioned (setSess a rq.sess x)) := by
      refine if_neg ?_
      rw [show life (setSess a rq.sess x) = 1 from hl, show anchorSet (setSess a rq.sess x) = true from hs]
      decide
    have hl' : life (setSess a rq.sess x) = 1 := hl
    rw [ho]
    refine completes_within (show okS ≠ pendingS by decide) (within_commissioned hl') (by decide) fun t ht hans => ?_
    have hb : t.boot = { a.boot with fuseComm := true } := by
      rw [show t.boot = _ from ht .boot (by decide)]
      change (commissioned (setSess a rq.sess x)).boot = _
      rw [commissioned_eq hl']
      rfl
    have hlog : t.logb.offered = a.logb.offered ++ [⟨0x0128, 0x80, [1, 2]⟩] := by
      rw [show t.logb = _ from ht .logb (by decide)]
      change (commissioned (setSess a rq.sess x)).logb.offered = _
      rw [commissioned_eq hl']
      rfl
    refine ⟨?_, hb, ?_, hans, hlog⟩
    · rw [life_congr (s := { a with boot := { a.boot with fuseComm := true } }) hb]
      exact life_commissioned_boot hl
    · rw [show t.vault = _ from ht .vault (by decide)]
      change ((commissioned (setSess a rq.sess x)).vault.anchorsInUse.all fun (n, v) => v == a.val 0x480030 n 0) = true
      rw [anchorsInUse_commissioned hl', List.all_map, List.all_eq_true]
      exact fun n _ => beq_self_eq_true (a.val 0x480030 n 0)
  case commissionRefused =>
    refine does_completes rfl h fun x => ?_
    have ho : opCommission (setSess a rq.sess x) = deny (setSess a rq.sess x) stateS := by
      refine if_pos ?_
      rcases hn with hl | hs
      · exact Bool.or_eq_true_iff.2 (.inl (bne_iff_ne.2 hl))
      · exact Bool.or_eq_true_iff.2 (.inr (by rw [show anchorSet (setSess a rq.sess x) = false from hs]; rfl))
    rw [ho]
    exact completes_deny (by decide) fun t ht hans => ⟨ht .boot (by decide), hans⟩
  case enterRefused =>
    refine does_completes rfl h fun x => ?_
    have ho : opQuarantineEnter (setSess a rq.sess x) = deny (setSess a rq.sess x) stateS := if_pos (bne_iff_ne.2 hl)
    rw [ho]
    exact completes_deny (by decide) fun t ht hans => ⟨ht .boot (by decide), hans⟩
  case enter =>
    refine does_hubReset (f := fun u => qLatched (blockAll u) 2) rfl h (fun x => if_neg ?_) (fun u => ?_) (fun u => ?_) (fun x => ?_)
    · rw [show life (setSess a rq.sess x) = 2 from hl]
      decide
    · exact ((within_blockAll u).mono (by decide)).trans ((qLatched_keeps ..).1.mono (by decide))
    · exact ((qLatched_keeps ..).1.agrees .jal (by decide)).trans ((within_blockAll u).agrees .jal (by decide))
    · rw [life_congr (settle_boot _), life_hubReset, life_eq_quarantine]
      obtain ⟨-, hb⟩ := qLatched_keeps (blockAll (setSess a rq.sess x)) 2
      rw [hb, show (blockAll (setSess a rq.sess x)).boot = a.boot from (within_blockAll ..).agrees .boot (by decide)]
      exact ⟨fuseDecom_of_life (by rw [hl]; decide), rfl⟩
  case leave =>
    refine does_hubReset (f := qReleased) rfl h (fun x => ?_) (fun u => (within_qReleased u).mono (by decide))
      (fun u => (within_qReleased u).agrees .jal (by decide)) (fun x => ?_)
    · unfold opQuarantineLeave
      rw [if_neg (by rw [show life (setSess a rq.sess x) = 3 from hl]; decide), activeOn_setSess, ht]
      rfl
    · rw [settle_boot, hubReset_qLatch, qReleased_qLatch]
  case leaveRefused =>
    refine does_completes rfl h fun x => ?_
    have ho : opQuarantineLeave (setSess a rq.sess x) = deny (logRec (setSess a rq.sess x) 0x01E6 0x80 (ints [activeOn a])) stateS := by
      unfold opQuarantineLeave
      rw [if_neg (by rw [show life (setSess a rq.sess x) = 3 from hl]; decide), activeOn_setSess]
      exact if_pos (bne_iff_ne.2 ht)
    rw [ho]
    exact completes_within (show stateS ≠ pendingS by decide) (within_logRec ..) (by decide) fun t ht' hans =>
      ⟨congrArg Logb.offered (ht' .logb (by decide)), hans⟩
  case otherSerial =>
    refine does_completes rfl h fun x => ?_
    have ho : opDecommission (setSess a rq.sess x) serial = deny (setSess a rq.sess x) stateS :=
      if_pos (Bool.or_eq_true_iff.2 (.inr (bne_iff_ne.2 hs)))
    rw [ho]
    exact completes_deny (by decide) fun t ht hans => ⟨ht .boot (by decide), hans⟩
  case decommission =>
    have hd := does_hubReset (i := .decommission dt rq serial) (s := s) (op := fun u => opDecommission u serial) (cause := 3)
      (f := decommissioned)
      (eff := fun t => life t = 4 ∧ (t.vault.slots.all fun (_, x) => x.st == 0 && x.key.isEmpty) = true ∧ t.vault.tamper = 0)
      rfl h (fun x => ?_) (fun u => (within_decommissioned u).mono (by decide))
      (fun u => (within_decommissioned u).agrees .jal (by decide)) (fun x => ?_)
    · exact does_mono hd fun t ⟨⟨hl4, hk, ht⟩, hr⟩ => ⟨hl4, hr, hk, ht⟩
    · refine if_neg ?_
      rw [show life (setSess a rq.sess x) = life a from rfl, show (setSess a rq.sess x).ident = a.ident from rfl, hs]
      rcases hl with hl | hl | hl <;> simp [hl]
    · rw [life_congr (settle_boot _), life_hubReset, settle_vault, hubReset_vault]
      exact ⟨life_decommissioned _, decommissioned_erased _⟩
end

section
/-! PROOF. What lasts through every command: fuses, minima, the count of tamper records, local time and the waiting commands (O58). -/

set_option Elab.async false

open Sys2Proof Sys2Proof.Machine

namespace Sys2Proof.Machine

/-- What only a few commands change, and those in one direction: the waiting commands, local time, the life-cycle fuses, the firmware and
bundle minima, the vault's count of tamper records. -/
structure Lasting where
  pending : List Instr
  now : Nat
  prov : Bool
  comm : Bool
  decom : Bool
  svnMin : Nat
  bundleSvn : Nat
  recCount : Nat

/-- What of a state lasts. -/
def lasting (s : State) : Lasting :=
  ⟨s.pending, s.now, s.boot.fuseProv, s.boot.fuseComm, s.boot.fuseDecom, s.boot.svnMin, s.vault.bundleSvn, s.vault.recCount⟩

/-- A state written out lasts in the values of its own components. -/
@[simp] theorem lasting_mk (pending now freeCtr ident store ctrs hw boot jal tm net plan cond pub parts tt ph lg pair pf vault rtc logb cap
    mem dirty) : lasting (State.mk pending now freeCtr ident store ctrs hw boot jal tm net plan cond pub parts tt ph lg pair pf vault rtc
    logb cap mem dirty) = ⟨pending, now, boot.fuseProv, boot.fuseComm, boot.fuseDecom, boot.svnMin, vault.bundleSvn, vault.recCount⟩ := rfl

/-- The values that last, read from one state, are what lasts of it. -/
@[simp] theorem lasting_eta (s : State) : Lasting.mk s.pending s.now s.boot.fuseProv s.boot.fuseComm s.boot.fuseDecom s.boot.svnMin
    s.vault.bundleSvn s.vault.recCount = lasting s := rfl

@[simp] theorem lasting_ite (c : Prop) [Decidable c] (s t : State) :
    lasting (if c then s else t) = if c then lasting s else lasting t := apply_ite ..

@[simp] theorem s_ite (c : Prop) [Decidable c] (r q : Res) : (if c then r else q).s = if c then r.s else q.s := apply_ite ..

@[simp] theorem s_good (s : State) : (good s).s = s := rfl

@[simp] theorem s_deny (s : State) (n : Nat) : (deny s n).s = s := rfl

/-- A fold keeps what lasts when its step does. A step's own rule that holds by computation is proved `(rfl)`, which keeps `simp` from
computing with it here. -/
theorem lasting_foldl {α : Type} {f : State → α → State} (h : ∀ s a, lasting (f s a) = lasting s) (l : List α) (s : State) :
    lasting (l.foldl f s) = lasting s :=
  foldl_keeps (fun s t => lasting t = lasting s) (fun _ => rfl) (fun _ _ _ h k => k.trans h) f h l s

/-- A fold that carries a value beside the state. -/
theorem lasting_foldl_fst {α β : Type} {f : State × β → α → State × β} (h : ∀ p a, lasting (f p a).1 = lasting p.1) (l : List α)
    (p : State × β) : lasting (l.foldl f p).1 = lasting p.1 := by
  induction l generalizing p with
  | nil => rfl
  | cons a r ih => exact (ih _).trans (h p a)

theorem Within.lasting {l : List Comp} {s t : State} (h : Within l s t) (hp : Comp.pending ∉ l := by decide)
    (hn : Comp.now ∉ l := by decide) (hb : Comp.boot ∉ l := by decide) (hv : Comp.vault ∉ l := by decide) : lasting t = lasting s := by
  unfold Machine.lasting
  rw [show t.pending = s.pending from h.agrees .pending hp, show t.now = s.now from h.agrees .now hn,
    show t.boot = s.boot from h.agrees .boot hb, show t.vault = s.vault from h.agrees .vault hv]

theorem Live.lasting {s t : State} (h : Live s t) : lasting t = lasting s := by
  have hw := h.frame.within
  have hb : t.boot = _ := h.boot
  unfold Machine.lasting
  rw [show t.pending = s.pending from hw.agrees .pending (by decide), show t.now = s.now from hw.agrees .now (by decide), hb,
    show t.vault = s.vault from hw.agrees .vault (by decide)]

theorem Aborts.lasting {s t : State} (h : Aborts s t) : lasting t = lasting s := by
  have hb : t.boot = _ := h.boot
  have hv : t.vault = _ := h.vault
  unfold Machine.lasting
  rw [show t.pending = s.pending from h.within.agrees .pending (by decide), show t.now = s.now from h.within.agrees .now (by decide), hb, hv]

theorem SlotChecks.lasting {s t : State} (h : SlotChecks s t) : lasting t = lasting s := by
  have hb : t.boot = _ := h.boot
  have hv : t.vault = _ := h.vault
  unfold Machine.lasting
  rw [show t.pending = s.pending from h.within.agrees .pending (by decide), show t.now = s.now from h.within.agrees .now (by decide), hb, hv]

/-- No lasting value of the second is below the first's, and the same commands wait. -/
structure Lasting.Le (a b : Lasting) : Prop where
  pending : b.pending = a.pending
  now : a.now ≤ b.now
  prov : a.prov = true → b.prov = true
  comm : a.comm = true → b.comm = true
  decom : a.decom = true → b.decom = true
  svnMin : a.svnMin ≤ b.svnMin
  bundleSvn : a.bundleSvn ≤ b.bundleSvn
  recCount : a.recCount ≤ b.recCount

@[simp] theorem Lasting.le_refl (a : Lasting) : a.Le a := ⟨rfl, Nat.le_refl _, id, id, id, Nat.le_refl _, Nat.le_refl _, Nat.le_refl _⟩

theorem Lasting.Le.trans {a b c : Lasting} (h : a.Le b) (k : b.Le c) : a.Le c where
  pending := k.pending.trans h.pending
  now := h.now.trans k.now
  prov := k.prov ∘ h.prov
  comm := k.comm ∘ h.comm
  decom := k.decom ∘ h.decom
  svnMin := h.svnMin.trans k.svnMin
  bundleSvn := h.bundleSvn.trans k.bundleSvn
  recCount := h.recCount.trans k.recCount

/-- From the first state to the second nothing that lasts is taken back. -/
def Ahead (s t : State) : Prop := (lasting s).Le (lasting t)

theorem ahead_of_lasting {s t : State} (h : lasting t = lasting s) : Ahead s t := by
  simp [Ahead, h]

theorem Ahead.trans {s t u : State} (h : Ahead s t) (k : Ahead t u) : Ahead s u := Lasting.Le.trans h k

theorem onward_of_ahead {s t : State} (h : Ahead s t) : Onward s t ∧ t.pending = s.pending := by
  exact ⟨⟨h.prov, h.comm, h.decom, h.svnMin, h.bundleSvn, h.recCount, h.now⟩, h.pending⟩

theorem ahead_advance (dt : Nat) (s : State) : Ahead s (advance dt s) :=
  ⟨rfl, Nat.le_add_right .., id, id, id, Nat.le_refl _, Nat.le_refl _, Nat.le_refl _⟩

/-- The state an outcome of a command in the first state answers takes nothing back. -/
def Keeps (s : State) (o : Host.Outcome State Fault Refusal) : Prop := ∀ t, o = .next t → Ahead s t

@[simp] theorem keeps_done (s u : State) : Keeps s (done u) ↔ (lasting s).Le (lasting u) :=
  ⟨fun h => h (settle u) rfl, fun h t ht => by cases ht; exact h⟩

@[simp] theorem keeps_ite (s : State) (c : Prop) [Decidable c] (o p : Host.Outcome State Fault Refusal) :
    Keeps s (if c then o else p) ↔ if c then Keeps s o else Keeps s p := by
  split <;> rfl

@[simp] theorem le_advance (dt : Nat) (s : State) : (lasting s).Le (lasting (advance dt s)) := ahead_advance dt s

/-- The state an outcome answers lasts in the values of the first state. -/
def Steady (a : State) (o : Host.Outcome State Fault Refusal) : Prop := ∀ t, o = .next t → lasting t = lasting a

@[simp] theorem steady_done (a u : State) : Steady a (done u) ↔ lasting u = lasting a :=
  ⟨fun h => h (settle u) rfl, fun h t ht => by cases ht; exact h⟩

@[simp] theorem steady_ite (a : State) (c : Prop) [Decidable c] (o p : Host.Outcome State Fault Refusal) :
    Steady a (if c then o else p) ↔ if c then Steady a o else Steady a p := by
  split <;> rfl

/-- A command that after its wait leaves what lasts takes nothing back. -/
theorem keeps_of_steady {s : State} (dt : Nat) {o : Host.Outcome State Fault Refusal} (h : Steady (advance dt s) o) : Keeps s o :=
  fun t ht => (ahead_advance dt s).trans (ahead_of_lasting (h t ht))

end Sys2Proof.Machine
end

section
/-! PROOF. The sessions, the rings and the ports leave what lasts. -/

set_option Elab.async false

open Sys2Proof Sys2Proof.Machine

namespace Sys2Proof.Machine

/-! ## The state's operations -/

@[simp] theorem lasting_fresh (s : State) : lasting (fresh s).2 = lasting s :=
  (within_fresh ..).lasting

@[simp] theorem lasting_put (s : State) (ob sub row : Nat) (v : Val) : lasting (State.put s ob sub row v) = lasting s := by
  simp [State.put]

@[simp] theorem lasting_bumpBy (s : State) (ob sub n : Nat) : lasting (bumpBy s ob sub n) = lasting s :=
  (live_bumpBy ..).lasting

@[simp] theorem lasting_bump (s : State) (ob sub : Nat) : lasting (bump s ob sub) = lasting s :=
  (within_bump ..).lasting

@[simp] theorem lasting_clearCtrs (s : State) (lo hi : Nat) (sub : Option Nat) : lasting (clearCtrs s lo hi sub) = lasting s := rfl

@[simp] theorem lasting_logRec (s : State) (code src : Nat) (data : List Int) :
    lasting (logRec s code src data) = lasting s :=
  (within_logRec ..).lasting

@[simp] theorem lasting_setDraining (s : State) (n : Nat) (b : Bool) : lasting (setDraining s n b) = lasting s := rfl

@[simp] theorem lasting_setPart (s : State) (p : Nat) (x : Part) : lasting (setPart s p x) = lasting s :=
  (live_setPart ..).lasting

@[simp] theorem lasting_setPort (s : State) (n : Nat) (x : Port) : lasting (setPort s n x) = lasting s :=
  (live_setPort ..).lasting

/-! ## Sessions -/

@[simp] theorem lasting_setSess (s : State) (n : Nat) (x : Sess) : lasting (setSess s n x) = lasting s :=
  (within_setSess ..).lasting

@[simp] theorem lasting_flushLost (s : State) (n : Nat) : lasting (flushLost s n) = lasting s := by
  unfold flushLost
  split <;> simp

@[simp] theorem lasting_notify (s : State) (n : Nat) (m : Notif) : lasting (notify s n m) = lasting s := by
  unfold notify
  dsimp only
  split <;> simp

@[simp] theorem lasting_respond (s : State) (n : Nat) (r : Resp) : lasting (respond s n r) = lasting s := by
  unfold respond
  split <;> simp

@[simp] theorem lasting_answerLate (s : State) (n seq idx : Nat) (e : RespE) :
    lasting (answerLate s n seq idx e) = lasting s :=
  (aborts_answerLate ..).lasting

@[simp] theorem lasting_early (s : State) (rq : Req) (op : Nat) : lasting (early s rq op) = lasting s := by
  unfold early
  split <;> simp

/-- A relation that holds of what an executed request does in its turn, and wherever what lasts is the same, holds of the request: before
its turn only the session and the answers change. -/
theorem onRequest_rel {R : State → State → Prop} (ht : ∀ s t u, R s t → R t u → R s u) (hl : ∀ s t, lasting t = lasting s → R s t)
    {run : State → Sess → State} (h : ∀ u se, R u (run u se)) (s : State) (rq : Req) (b : ReqBody) : R s (onRequest s rq b run) := by
  have hrun (u : State) (op : Nat) : R u (runReq u rq op run) := by
    unfold runReq
    split
    · exact hl _ _ rfl
    · split
      · exact h ..
      · exact hl _ _ (by simp)
  unfold onRequest
  split
  · exact hl _ _ (by simp)
  · split
    · exact hl _ _ rfl
    · dsimp only
      split
      · exact hl _ _ (by simp)
      · split
        · exact ht _ _ _ (hl _ _ (by simp)) (hrun ..)
        · exact hl _ _ (by split <;> simp)

@[simp] theorem lasting_onRequest {run : State → Sess → State} (h : ∀ u se, lasting (run u se) = lasting u) (s : State) (rq : Req)
    (b : ReqBody) : lasting (onRequest s rq b run) = lasting s :=
  onRequest_rel (R := fun s t => lasting t = lasting s) (fun _ _ _ h k => k.trans h) (fun _ _ h => h) h s rq b

theorem ahead_onRequest {run : State → Sess → State} (h : ∀ u se, Ahead u (run u se)) (s : State) (rq : Req) (b : ReqBody) :
    Ahead s (onRequest s rq b run) :=
  onRequest_rel (R := Ahead) (fun _ _ _ => Ahead.trans) (fun _ _ => ahead_of_lasting) h s rq b

/-- A command refused by the checks of R132 does nothing; one let through does what its operation does. -/
theorem lasting_runExec_or (op : State → Res) (s : State) (rq : Req) (se : Sess) (ad : Addr) (arg : Val) :
    lasting (runExec s rq se ad op arg).s = lasting s ∨ lasting (runExec s rq se ad op arg).s = lasting (op s).s := by
  unfold runExec
  dsimp only
  split
  · exact .inl rfl
  · split
    · exact .inl rfl
    · split
      · exact .inl rfl
      · split
        · exact .inl rfl
        · split
          · exact .inl rfl
          · split
            · split <;> simp
            · exact .inr rfl

theorem ahead_runExec {op : State → Res} {s : State} (h : Ahead s (op s).s) (rq : Req) (se : Sess) (ad : Addr) (arg : Val) :
    Ahead s (runExec s rq se ad op arg).s := by
  rcases lasting_runExec_or op s rq se ad arg with hs | hs
  · exact ahead_of_lasting hs
  · exact h.trans (ahead_of_lasting hs)

@[simp] theorem lasting_answer (rq : Req) (op : Nat) (r : Res) : lasting (answer rq op r) = lasting r.s := by
  simp [answer]

@[simp] theorem lasting_doExec {op : State → Res} (h : ∀ u, lasting (op u).s = lasting u) (s : State) (rq : Req) (ob sub : Nat) (arg : Val) :
    lasting (doExec s rq ob sub op arg) = lasting s := by
  refine lasting_onRequest (fun u se => ?_) ..
  rw [lasting_answer]
  exact (lasting_runExec_or ..).elim id (·.trans (h u))

theorem ahead_doExec {op : State → Res} (h : ∀ u, Ahead u (op u).s) (s : State) (rq : Req) (ob sub : Nat) (arg : Val) :
    Ahead s (doExec s rq ob sub op arg) :=
  ahead_onRequest (fun u _ => (ahead_runExec (h u) ..).trans (ahead_of_lasting (lasting_answer ..))) ..

@[simp] theorem lasting_execEnd (s : State) (n reqId status : Nat) (bytes : List Byte) :
    lasting (execEnd s n reqId status bytes) = lasting s :=
  (aborts_execEnd ..).lasting

@[simp] theorem lasting_stageVal (s : State) (n ob sub row : Nat) (v : Val) : lasting (stageVal s n ob sub row v).s = lasting s := by
  simp [stageVal]

@[simp] theorem lasting_writeVal {hook : State → Nat → Nat → Nat → Nat → Val → Res}
    (h : ∀ u n ob sub row v, lasting (hook u n ob sub row v).s = lasting u) (s : State) (n : Nat) (ad : Addr) (row : Nat) (d : Desc) (v : Val) :
    lasting (writeVal s n ad row d v hook).s = lasting s := by
  simp [writeVal, h]

@[simp] theorem lasting_writeEntry {put : State → Desc → Val → Res} (h : ∀ u d v, lasting (put u d v).s = lasting u) (s : State) (se : Sess)
    (e : WEntry) : lasting (writeEntry s se e put).s = lasting s := by
  unfold writeEntry
  dsimp only
  split
  · rfl
  · split
    · rfl
    · split
      · rfl
      · split
        · split
          · rfl
          · split <;> simp [h]
        · rfl
        · split <;> simp [h]

@[simp] theorem lasting_doWrite {hook : State → Nat → Nat → Nat → Nat → Val → Res}
    (h : ∀ u n ob sub row v, lasting (hook u n ob sub row v).s = lasting u) (s : State) (rq : Req) (ob sub : Nat) (v : Val) :
    lasting (doWrite s rq ob sub v hook) = lasting s :=
  lasting_onRequest (fun u se => by split <;> simp [lasting_writeEntry, h]) ..

@[simp] theorem lasting_plainHook (s : State) (_n ob sub row : Nat) (v : Val) : lasting (plainHook s _n ob sub row v).s = lasting s := by
  simp [plainHook]

@[simp] theorem lasting_stageDrop (s : State) : lasting (stageDrop s) = lasting s := by
  simp [stageDrop]

@[simp] theorem lasting_bulkDrop (s : State) (ad : Addr) : lasting (bulkDrop s ad) = lasting s := by
  simp [bulkDrop]

@[simp] theorem lasting_bulkEnd (s : State) (ad : Addr) : lasting (bulkEnd s ad) = lasting s := rfl

@[simp] theorem lasting_closeSess (s : State) (n reason : Nat) : lasting (closeSess s n reason) = lasting s := by
  unfold closeSess
  split
  · simp
  · dsimp only
    split <;> simp [lasting_foldl]

/-! ## Queries -/

@[simp] theorem lasting_nowRead (s : State) (ob : Nat) : lasting (nowRead s ob) = lasting s := by
  simp [nowRead]

/-! ## The end of a command -/

@[simp] theorem lasting_seeNow (s : State) (ob sub : Nat) : lasting (seeNow s ob sub) = lasting s := rfl

@[simp] theorem lasting_setUnit (s : State) (n : Nat) (st : USt) : lasting (setUnit s n st) = lasting s :=
  (live_setUnit ..).lasting

@[simp] theorem lasting_judgeUnit (s : State) (n : Nat) (bad : Bool) :
    lasting (judgeUnit s n bad) = lasting s :=
  (live_judgeUnit ..).lasting

/-! ## Guest memory -/

@[simp] theorem lasting_memWrite (s : State) (p a : Nat) (l : List Byte) : lasting (memWrite s p a l) = lasting s := rfl

@[simp] theorem lasting_dirtyClear (s : State) (p : Nat) : lasting (dirtyClear s p) = lasting s := rfl

@[simp] theorem lasting_memZero (s : State) (p : Nat) : lasting (memZero s p) = lasting s := rfl

@[simp] theorem lasting_memTake (s : State) (p : Nat) (spans : List (Nat × Nat)) (cells : List (Nat × Byte)) :
    lasting (memTake s p spans cells) = lasting s := rfl

/-! ## Rings -/

@[simp] theorem lasting_setRing (s : State) (q : Nat) (r : Ring) : lasting (setRing s q r) = lasting s :=
  (within_setRing ..).lasting

@[simp] theorem lasting_reserveSlot (s : State) (q : Nat) : lasting (reserveSlot s q) = lasting s := by
  simp [reserveSlot]

@[simp] theorem lasting_slotWrite (s : State) (q k : Nat) (e : Entry) :
    lasting (slotWrite s q k e) = lasting s :=
  (within_slotWrite ..).lasting

@[simp] theorem lasting_makeReady (s : State) (p row : Nat) (d : ItemDesc) (src : ItemSrc) :
    lasting (makeReady s p row d src) = lasting s :=
  (within_makeReady ..).lasting

@[simp] theorem lasting_submitItem (s : State) (p row : Nat) (d : ItemDesc) (src : ItemSrc) :
    lasting (submitItem s p row d src).2 = lasting s := by
  simp [submitItem, apply_ite Prod.snd]

@[simp] theorem lasting_setBell (s : State) (ep : Nat) (b : Bell) : lasting (setBell s ep b) = lasting s :=
  (within_setBell ..).lasting

@[simp] theorem lasting_bellItem (s : State) (p : Nat) : lasting (bellItem s p) = lasting s :=
  (within_bellItem ..).lasting

@[simp] theorem lasting_bellRaise (s : State) (ep bitNo : Nat) :
    lasting (bellRaise s ep bitNo) = lasting s :=
  (within_bellRaise ..).lasting

@[simp] theorem lasting_trigOne (s : State) (q row : Nat) : lasting (trigOne s q row) = lasting s :=
  (within_trigOne ..).lasting

@[simp] theorem lasting_releasePending (n : Nat) (s : State) (q : Nat) : lasting (releasePending n s q) = lasting s := by
  induction n generalizing s with
  | zero => rfl
  | succ n ih =>
    unfold releasePending
    split <;> simp [ih]

@[simp] theorem lasting_ringPost (s : State) (q : Nat) (e : Entry) (row : Nat) :
    lasting (ringPost s q e row) = lasting s :=
  (within_ringPost ..).lasting

@[simp] theorem lasting_complete (s : State) (q : Nat) (e : Entry) (row : Nat) :
    lasting (complete s q e row) = lasting s :=
  (within_complete ..).lasting

@[simp] theorem lasting_ringDone (s : State) (q n row : Nat) : lasting (ringDone s q n row) = lasting s :=
  (within_ringDone ..).lasting

@[simp] theorem lasting_sweepDone (n : Nat) (s : State) (q : Nat) : lasting (sweepDone n s q) = lasting s := (within_sweepDone ..).lasting

@[simp] theorem lasting_entryDone (s : State) (q i : Nat) (e : Entry) :
    lasting (entryDone s q i e) = lasting s :=
  (within_entryDone ..).lasting

@[simp] theorem lasting_entryDrop (s : State) (q i : Nat) (e : Entry) : lasting (entryDrop s q i e) = lasting s := by
  unfold entryDrop
  dsimp only
  cases tabGet (ringOf s q).comps (slotOf s q i) <;> simp

@[simp] theorem lasting_takeEntry (s : State) (q : Nat) : lasting (takeEntry s q) = lasting s := by
  simp [takeEntry]

@[simp] theorem lasting_stageOver (s : State) (stage : Nat) : lasting (stageOver s stage) = lasting s :=
  (live_stageOver ..).lasting

@[simp] theorem lasting_commitPass (s : State) (p took : Nat) : lasting (commitPass s p took) = lasting s :=
  (live_commitPass ..).lasting

@[simp] theorem lasting_commitWire (s : State) (p t11 t12 : Nat) :
    lasting (commitWire s p t11 t12) = lasting s :=
  (live_commitWire ..).lasting

@[simp] theorem lasting_itemComplete (s : State) (it : Item) (status : Nat) (start finish : Int) (result : Nat) :
    lasting (itemComplete s it status start finish result) = lasting s := by
  simp [itemComplete]

/-! ## The prefect -/

@[simp] theorem lasting_setPf (s : State) (p : Nat) (x : PfPart) : lasting (setPf s p x) = lasting s :=
  (live_setPf ..).lasting

@[simp] theorem lasting_setClaim (s : State) (d : Nat) (c : Claim) : lasting (setClaim s d c) = lasting s :=
  (live_setClaim ..).lasting

@[simp] theorem lasting_hearClaim (s : State) (d c : Nat) : lasting (hearClaim s d c) = lasting s := by
  simp [hearClaim]

@[simp] theorem lasting_pfRefuse (s : State) (p kind dest : Nat) :
    lasting (pfRefuse s p kind dest) = lasting s :=
  (live_pfRefuse ..).lasting

@[simp] theorem lasting_pfFrame (s : State) (p : Nat) (inService : Bool) (e : Egress) :
    lasting (pfFrame s p inService e).2 = lasting s :=
  (live_pfFrame ..).lasting

@[simp] theorem lasting_setBoard (s : State) (b : Nat) (x : Board) : lasting (setBoard s b x) = lasting s := rfl

@[simp] theorem lasting_pfBoard (s : State) (p b : Nat) (inService : Bool) : lasting (pfBoard s p b inService).2 = lasting s := by
  simp [pfBoard, apply_ite Prod.snd]

@[simp] theorem keeps_execPfTokenRefill (dt p : Nat) (s : State) : Keeps s (execPfTokenRefill dt p s) := by
  refine keeps_of_steady dt ?_
  unfold execPfTokenRefill
  generalize advance dt s = a
  dsimp only
  split <;> simp

@[simp] theorem lasting_opPfReset (s : State) : lasting (opPfReset s).s = lasting s := by
  simp [opPfReset]

@[simp] theorem keeps_execPfCountersReset (dt : Nat) (rq : Req) (s : State) : Keeps s (execPfCountersReset dt rq s) := by
  simp [execPfCountersReset]

@[simp] theorem keeps_execImageLoaderWriteRefused (dt region : Nat) (s : State) : Keeps s (execImageLoaderWriteRefused dt region s) := by
  simp [execImageLoaderWriteRefused]

/-! ## Transmission -/

@[simp] theorem lasting_setJob (s : State) (j : Nat) (x : TxJob) : lasting (setJob s j x) = lasting s :=
  (live_setJob ..).lasting

@[simp] theorem lasting_setGb (s : State) (b : Nat) (x : GBlock) : lasting (setGb s b x) = lasting s :=
  (live_setGb ..).lasting

@[simp] theorem lasting_dropJob (s : State) (j : Nat) : lasting (dropJob s j) = lasting s :=
  (live_dropJob ..).lasting

@[simp] theorem lasting_gbAdopt (s : State) (b : Nat) (slots : List Nat) (t : Int) :
    lasting (gbAdopt s b slots t) = lasting s :=
  (live_gbAdopt ..).lasting

@[simp] theorem lasting_gooseReqDone (s : State) (b q i status cflags : Nat) :
    lasting (gooseReqDone s b q i status cflags) = lasting s :=
  (live_gooseReqDone ..).lasting

@[simp] theorem lasting_copyEnd (s : State) (j : Nat) : lasting (copyEnd s j) = lasting s :=
  (live_copyEnd ..).lasting

@[simp] theorem lasting_copyDown (s : State) (n j : Nat) : lasting (copyDown s n j) = lasting s :=
  (live_copyDown ..).lasting

@[simp] theorem lasting_setPtp (s : State) (p : Nat) (x : PtpPort) : lasting (setPtp s p x) = lasting s :=
  (live_setPtp ..).lasting

@[simp] theorem lasting_lateSweep (s : State) (n : Nat) (by_ : Bool) :
    lasting (lateSweep s n by_) = lasting s :=
  (live_lateSweep ..).lasting

@[simp] theorem lasting_kick (s : State) (n : Nat) : lasting (kick s n) = lasting s :=
  (live_kick ..).lasting

@[simp] theorem lasting_sendJob (s : State) (ports : List Nat) (tag : Bool) (owner : TxOwner) (f : TxFrame) (tsReq : Bool) :
    lasting (sendJob s ports tag owner f tsReq) = lasting s :=
  (live_sendJob ..).lasting

@[simp] theorem lasting_sendTo (s : State) (n : Nat) (owner : TxOwner) (f : TxFrame) (tsReq : Bool) :
    lasting (sendTo s n owner f tsReq) = lasting s :=
  (live_sendTo ..).lasting

@[simp] theorem lasting_sendOne (s : State) (n cls len : Nat) (what : TxWhat) : lasting (sendOne s n cls len what) = lasting s := by
  simp [sendOne]

@[simp] theorem lasting_txTake (n : Nat) (s : State) (q : Nat) (waited : Bool) : lasting (txTake n s q waited) = lasting s :=
  (live_txTake ..).lasting

@[simp] theorem lasting_txResume (s : State) : lasting (txResume s) = lasting s :=
  (live_txResume ..).lasting

@[simp] theorem lasting_flushPort (s : State) (n : Nat) : lasting (flushPort s n) = lasting s := by
  unfold flushPort
  dsimp only
  split <;> simp [lasting_foldl]

@[simp] theorem lasting_flushFault (s : State) (n : Nat) : lasting (flushFault s n) = lasting s := by
  simp only [flushFault, lasting_txResume]
  exact (lasting_foldl (fun s f => by simp) _ _).trans (by simp)

@[simp] theorem lasting_dropPartFrames (s : State) (p : Nat) : lasting (dropPartFrames s p) = lasting s := rfl

/-! ## Ports and groups -/

@[simp] theorem lasting_setCage (s : State) (n : Nat) (c : Cage) : lasting (setCage s n c) = lasting s := rfl

@[simp] theorem lasting_judgePorts (s : State) (u : Nat) : lasting (judgePorts s u) = lasting s := by
  simp [judgePorts]

@[simp] theorem lasting_linkLost (s : State) (n : Nat) : lasting (linkLost s n) = lasting s := by
  simp [linkLost]

@[simp] theorem lasting_dropByCommand (s : State) (n : Nat) : lasting (dropByCommand s n) = lasting s := by
  simp [dropByCommand]

@[simp] theorem lasting_linkRise (s : State) (n speed partner : Nat) : lasting (linkRise s n speed partner) = lasting s := by
  simp [linkRise]

@[simp] theorem keeps_execTransceiverInsert (dt cage : Nat) (s : State) : Keeps s (execTransceiverInsert dt cage s) := by
  simp [execTransceiverInsert]

@[simp] theorem keeps_execSfpIdRead (dt cage : Nat) (id : SfpId) (s : State) : Keeps s (execSfpIdRead dt cage id s) := by
  simp [execSfpIdRead]

@[simp] theorem keeps_execSfpDdmPoll (dt cage : Nat) (ddm : SfpDdm) (s : State) : Keeps s (execSfpDdmPoll dt cage ddm s) := by
  refine keeps_of_steady dt ?_
  unfold execSfpDdmPoll
  generalize advance dt s = a
  dsimp only
  split <;> simp

@[simp] theorem lasting_putPortAdmin (s : State) (n : Nat) (v : Val) : lasting (putPortAdmin s n v).s = lasting s := by
  simp [putPortAdmin]

@[simp] theorem lasting_putPortMode (s : State) (n : Nat) (v : Val) : lasting (putPortMode s n v).s = lasting s := by
  unfold putPortMode
  extract_lets other u w x
  have hw : lasting w = lasting s := by
    unfold w
    split
    · split <;> simp [u]
    · simp [u]
  have hx : lasting x = lasting s := (lasting_dropByCommand ..).trans hw
  simp [hx]

@[simp] theorem keeps_execTxDisableHoldEnd (dt port : Nat) (s : State) : Keeps s (execTxDisableHoldEnd dt port s) := by
  simp [execTxDisableHoldEnd]

@[simp] theorem lasting_groupApply (s : State) (g : Nat) : lasting (groupApply s g) = lasting s := by
  simp [groupApply]

@[simp] theorem lasting_pauseOff (s : State) (n : Nat) : lasting (pauseOff s n) = lasting s := by
  simp [pauseOff]

@[simp] theorem keeps_execPauseEnd (dt port : Nat) (s : State) : Keeps s (execPauseEnd dt port s) := by
  simp [execPauseEnd]

@[simp] theorem keeps_execPauseCeilingReached (dt port : Nat) (s : State) : Keeps s (execPauseCeilingReached dt port s) := by
  refine keeps_of_steady dt ?_
  unfold execPauseCeilingReached
  generalize advance dt s = a
  dsimp only
  split <;> simp

@[simp] theorem keeps_execPauseLockoutEnd (dt port : Nat) (s : State) : Keeps s (execPauseLockoutEnd dt port s) := by
  simp [execPauseLockoutEnd]

@[simp] theorem keeps_execNodeAgeOut (dt group mac : Nat) (s : State) : Keeps s (execNodeAgeOut dt group mac s) := by
  refine keeps_of_steady dt ?_
  unfold execNodeAgeOut
  generalize advance dt s = a
  dsimp only
  split <;> simp

@[simp] theorem keeps_execSupervisionTx (dt group : Nat) (s : State) : Keeps s (execSupervisionTx dt group s) := by
  refine keeps_of_steady dt ?_
  unfold execSupervisionTx
  generalize advance dt s = a
  simp

@[simp] theorem lasting_opPortReset (s : State) (port : Nat) : lasting (opPortReset s port).s = lasting s := by
  simp [opPortReset]

@[simp] theorem keeps_execPortCountersReset (dt : Nat) (rq : Req) (port : Nat) (s : State) :
    Keeps s (execPortCountersReset dt rq port s) := by
  simp [execPortCountersReset]

@[simp] theorem lasting_opGroupReset (s : State) (group : Nat) : lasting (opGroupReset s group).s = lasting s := by
  simp [opGroupReset]

@[simp] theorem keeps_execGroupCountersReset (dt : Nat) (rq : Req) (group : Nat) (s : State) :
    Keeps s (execGroupCountersReset dt rq group s) := by
  simp [execGroupCountersReset]

@[simp] theorem keeps_execLaunchTimeReached (dt port : Nat) (s : State) : Keeps s (execLaunchTimeReached dt port s) := by
  refine keeps_of_steady dt ?_
  unfold execLaunchTimeReached
  generalize advance dt s = a
  dsimp only
  split <;> simp

@[simp] theorem keeps_execLaunchLate (dt port : Nat) (s : State) : Keeps s (execLaunchLate dt port s) := by
  simp [execLaunchLate]

end Sys2Proof.Machine
end

section
/-! PROOF. The plan, the pair, time, GOOSE and the claims leave what lasts. -/

set_option Elab.async false

open Sys2Proof Sys2Proof.Machine

namespace Sys2Proof.Machine

/-! ## The sampled plan -/

@[simp] theorem lasting_setRow (s : State) (r : Nat) (x : Row) : lasting (setRow s r x) = lasting s :=
  (live_setRow ..).lasting

@[simp] theorem lasting_setStream (s : State) (e : Nat) (x : Stream) :
    lasting (setStream s e x) = lasting s :=
  (live_setStream ..).lasting

@[simp] theorem lasting_placeSeat (s : State) (e r : Nat) (vals : List Int) (quals : List Nat) (smpCnt : Nat) (conv : Bool) (m : RxMeta) :
    lasting (placeSeat s e r vals quals smpCnt conv m) = lasting s :=
  (live_placeSeat ..).lasting

@[simp] theorem lasting_convEmit (s : State) (e c ch : Nat) (h : List ConvIn) (m : RxMeta) :
    lasting (convEmit s e c ch h m) = lasting s :=
  (live_convEmit ..).lasting

@[simp] theorem lasting_convFillTo (s : State) (e c ch n : Nat) :
    lasting (convFillTo s e c ch n) = lasting s :=
  (live_convFillTo ..).lasting

@[simp] theorem lasting_convInput (s : State) (e c ch n : Nat) (as : Nat × Nat × Nat) (old : Bool) (vals : List Int) (quals : List Nat)
    (m : RxMeta) :
    lasting (convInput s e c ch n as old vals quals m) = lasting s := by
  unfold convInput
  split
  · simp
  · dsimp only
    split
    · simp
    · split <;> simp

@[simp] theorem lasting_learnRate (s : State) (e want v : Nat) : lasting (learnRate s e want v) = lasting s := by
  simp [learnRate]

@[simp] theorem lasting_learnCh (s : State) (e want v : Nat) : lasting (learnCh s e want v) = lasting s := by
  simp [learnCh]

@[simp] theorem lasting_learnCnt (s : State) (e sec cnt : Nat) : lasting (learnCnt s e sec cnt) = lasting s := by
  unfold learnCnt
  dsimp only
  split
  · simp
  · split
    · simp
    · split <;> simp

@[simp] theorem lasting_learn (s : State) (e : Nat) (v : Val) (a : Asdu) (t : Int) : lasting (learn s e v a t) = lasting s := by
  unfold learn
  split <;> simp

@[simp] theorem lasting_authFail (s : State) (e ctr : Nat) : lasting (authFail s e ctr) = lasting s := by
  simp [authFail]

@[simp] theorem lasting_svFrameOk (s : State) (r e : Nat) (p : SvPdu) : lasting (svFrameOk s r e p).2 = lasting s := by
  simp [svFrameOk, apply_ite Prod.snd]

@[simp] theorem lasting_synchSeen (s : State) (e raw : Nat) : lasting (synchSeen s e raw) = lasting s := by
  unfold synchSeen
  dsimp only
  split <;> simp

@[simp] theorem lasting_svAsdu (s : State) (r e : Nat) (a : Asdu) (t : Int) (lanB sim auth : Bool) :
    lasting (svAsdu s r e a t lanB sim auth) = lasting s := by
  unfold svAsdu
  extract_lets v u w m below
  have hu : lasting u = lasting s := lasting_learn ..
  have hw : lasting w = lasting s := (lasting_synchSeen ..).trans hu
  clear_value u w
  simp only [lasting_ite, lasting_bump, hu, hw]
  iterate 5 refine (if_congr Iff.rfl rfl ?_).trans (ite_self _)
  split <;> simp [hw]

@[simp] theorem lasting_svRest (k : SvKey) (p : SvPdu) (t : Int) (lanB : Bool) (r0 e0 : Nat) (s : State) (a : Asdu) :
    lasting (svRest k p t lanB r0 e0 s a) = lasting s := by
  unfold svRest
  split
  · dsimp only
    split
    · simp
    · split <;> simp
  · dsimp only
    split
    · simp
    · split <;> simp

@[simp] theorem lasting_svFrame (s : State) (port dst vid : Nat) (lanB : Bool) (p : SvPdu) :
    lasting (svFrame s port dst vid lanB p) = lasting s := by
  unfold svFrame
  split
  · simp
  · split
    · simp
    · split
      · simp
      · dsimp only
        split
        · simp
        · split
          · simp
          · simp [lasting_foldl]

@[simp] theorem lasting_judgeIngest (s : State) : lasting (judgeIngest s) = lasting s := by
  simp [judgeIngest]

@[simp] theorem lasting_streamTo (s : State) (e new r : Nat) : lasting (streamTo s e new r) = lasting s := by
  simp [streamTo]

@[simp] theorem lasting_seatIn (s : State) (r e : Nat) (x : Seat) : lasting (seatIn s r e x) = lasting s := by
  simp [seatIn]

@[simp] theorem lasting_releaseSeat (s : State) (r e : Nat) : lasting (releaseSeat s r e) = lasting s := by
  simp [releaseSeat]

@[simp] theorem lasting_releaseStreams (s : State) (r : Nat) : lasting (releaseStreams s r) = lasting s := by
  simp [releaseStreams, lasting_foldl]

@[simp] theorem lasting_planEmpty (s : State) (gap : Bool) : lasting (planEmpty s gap) = lasting s := rfl

@[simp] theorem lasting_rowCfg (s : State) (r : Nat) : lasting (rowCfg s r) = lasting s := rfl

@[simp] theorem lasting_rowView {f : State → State} (h : ∀ u, lasting (f u) = lasting u) (s : State) (r : Nat) :
    lasting (rowView s r f) = lasting s := by
  simp [rowView, h]

/-! ## The pair -/

@[simp] theorem lasting_setLane (s : State) (n : Nat) (x : Lane) : lasting (setLane s n x) = lasting s :=
  (live_setLane ..).lasting

@[simp] theorem lasting_sendIul (s : State) (m : IulMsg) : lasting (sendIul s m) = lasting s :=
  (live_sendIul ..).lasting

@[simp] theorem lasting_setStep (s : State) (p : Nat) (x : StepSt) : lasting (setStep s p x) = lasting s :=
  (live_setStep ..).lasting

@[simp] theorem lasting_eqGiveUp (s : State) (r : Nat) : lasting (eqGiveUp s r) = lasting s :=
  (live_eqGiveUp ..).lasting

@[simp] theorem lasting_pairEval (s : State) : lasting (pairEval s) = lasting s :=
  (live_pairEval ..).lasting

@[simp] theorem lasting_allOut (s : State) : lasting (allOut s) = lasting s := rfl

@[simp] theorem lasting_stepOut (s : State) (p : Nat) : lasting (stepOut s p) = lasting s :=
  (live_stepOut ..).lasting

@[simp] theorem lasting_leaveStep (s : State) (reason : Nat) : lasting (leaveStep s reason) = lasting s :=
  (live_leaveStep ..).lasting

@[simp] theorem lasting_imageTell (s : State) (p : Nat) : lasting (imageTell s p) = lasting s :=
  (live_imageTell ..).lasting

@[simp] theorem lasting_uneqLeave (s : State) : lasting (uneqLeave s) = lasting s :=
  (live_uneqLeave ..).lasting

@[simp] theorem lasting_eqPresence (s : State) (r : Nat) (part : List Nat) (dig : List Byte) :
    lasting (eqPresence s r part dig) = lasting s :=
  (live_eqPresence ..).lasting

@[simp] theorem lasting_eqSeatsRx (s : State) (r : Nat) (cs : List SeatCopy) :
    lasting (eqSeatsRx s r cs) = lasting s :=
  (live_eqSeatsRx ..).lasting

@[simp] theorem lasting_eqTagsRx (s : State) (r : Nat) (ts : List TagRec) :
    lasting (eqTagsRx s r ts) = lasting s :=
  (live_eqTagsRx ..).lasting

@[simp] theorem lasting_eqAgreeRx (s : State) (r : Nat) (d : List Byte) :
    lasting (eqAgreeRx s r d) = lasting s :=
  (live_eqAgreeRx ..).lasting

@[simp] theorem lasting_eqLostRx (s : State) (r : Nat) : lasting (eqLostRx s r) = lasting s :=
  (live_eqLostRx ..).lasting

@[simp] theorem lasting_eqMsg {f : State → State} (h : ∀ u, lasting (f u) = lasting u) (s : State) (r : Nat) (i : Instr) :
    lasting (eqMsg s r i f) = lasting s := by
  simp [eqMsg, h]

@[simp] theorem lasting_closeRow (s : State) (r : Nat) : lasting (closeRow s r) = lasting s :=
  (live_closeRow ..).lasting

@[simp] theorem lasting_closeMore (n : Nat) (s : State) (m : Nat) : lasting (closeMore n s m) = lasting s := by
  induction n generalizing s with
  | zero => rfl
  | succ n ih =>
    unfold closeMore
    split <;> simp [ih]

@[simp] theorem lasting_closeNext (s : State) : lasting (closeNext s) = lasting s := by
  unfold closeNext
  split <;> simp

@[simp] theorem lasting_setDig (s : State) (p row : Nat) (d : OutDig) : lasting (setDig s p row d) = lasting s := rfl

@[simp] theorem lasting_delDig (s : State) (p row : Nat) : lasting (delDig s p row) = lasting s := rfl

@[simp] theorem lasting_digAdd (s : State) (p row : Nat) (content : List Byte) : lasting (digAdd s p row content) = lasting s := by
  simp [digAdd]

@[simp] theorem lasting_digJudge (s : State) (p row mine theirs : Nat) : lasting (digJudge s p row mine theirs) = lasting s := by
  simp [digJudge]

@[simp] theorem lasting_digClose (s : State) (p row : Nat) : lasting (digClose s p row) = lasting s := by
  unfold digClose
  dsimp only
  split
  · simp
  · split <;> simp

@[simp] theorem lasting_digRx (s : State) (p row theirs : Nat) : lasting (digRx s p row theirs) = lasting s := by
  simp [digRx]

@[simp] theorem lasting_digLate (s : State) (p row : Nat) : lasting (digLate s p row) = lasting s := by
  unfold digLate
  split <;> simp

/-! ## Time -/

@[simp] theorem lasting_setQuality (s : State) (q : Nat) : lasting (setQuality s q) = lasting s :=
  (live_setQuality ..).lasting

@[simp] theorem lasting_stepTm (s : State) (amt : Int) : lasting (stepTm s amt) = lasting s :=
  (live_stepTm ..).lasting

@[simp] theorem lasting_requestStep (s : State) (amt : Int) (cmd : Bool) :
    lasting (requestStep s amt cmd) = lasting s :=
  (live_requestStep ..).lasting

@[simp] theorem lasting_measure (s : State) (off : Int) : lasting (measure s off) = lasting s :=
  (live_measure ..).lasting

@[simp] theorem lasting_learnUtc (s : State) (off : Option Int) (valid : Bool) (leap : Nat) :
    lasting (learnUtc s off valid leap) = lasting s := by
  unfold learnUtc
  split <;> simp

@[simp] theorem lasting_sourceChange (s : State) : lasting (sourceChange s) = lasting s :=
  (live_sourceChange ..).lasting

@[simp] theorem lasting_judgeSource (s : State) : lasting (judgeSource s) = lasting s :=
  (live_judgeSource ..).lasting

@[simp] theorem lasting_ptpStates (s : State) : lasting (ptpStates s) = lasting s := by
  simp [ptpStates, lasting_foldl]

@[simp] theorem lasting_setParent (s : State) (next : Option (Nat × Announce)) : lasting (setParent s next) = lasting s := by
  unfold setParent
  split
  · simp
  · simp
  · split <;> split <;> simp

@[simp] theorem lasting_ptpJudge (s : State) : lasting (ptpJudge s) = lasting s := by
  simp [ptpJudge]

@[simp] theorem lasting_annRx (s : State) (p : Nat) (a : Announce) : lasting (annRx s p a) = lasting s := by
  simp [annRx]

@[simp] theorem lasting_ptpLinkLost (s : State) (p : Nat) : lasting (ptpLinkLost s p) = lasting s := by
  unfold ptpLinkLost
  split
  · simp
  · dsimp only
    split <;> simp

@[simp] theorem lasting_ptpLinkUp (s : State) (p : Nat) : lasting (ptpLinkUp s p) = lasting s := by
  simp [ptpLinkUp]

@[simp] theorem lasting_ptpSend (s : State) (p len kind : Nat) (time : Int) (a : Option Announce) (ts : Bool) :
    lasting (ptpSend s p len kind time a ts) = lasting s := by
  simp [ptpSend]

@[simp] theorem lasting_pdelayEnd (s : State) (p : Nat) (t4 turn : Int) : lasting (pdelayEnd s p t4 turn) = lasting s := by
  simp [pdelayEnd]

@[simp] theorem lasting_ptpRx (s : State) (p : Nat) (m : PtpMsg) : lasting (ptpRx s p m) = lasting s := by
  unfold ptpRx
  split
  · simp
  · split
    case h_2 => split <;> simp
    case h_5 =>
      split
      · simp
      · split <;> simp
    case h_6 => split <;> simp
    all_goals simp

@[simp] theorem lasting_pdelaySend (s : State) (p : Nat) : lasting (pdelaySend s p) = lasting s := by
  simp [pdelaySend]

@[simp] theorem keeps_execPtpSyncTx (dt port : Nat) (s : State) : Keeps s (execPtpSyncTx dt port s) := by
  simp [execPtpSyncTx]

@[simp] theorem keeps_execPtpAnnounceTx (dt port : Nat) (s : State) : Keeps s (execPtpAnnounceTx dt port s) := by
  simp [execPtpAnnounceTx]

@[simp] theorem keeps_execPdelayReqTx (dt port : Nat) (s : State) : Keeps s (execPdelayReqTx dt port s) := by
  refine keeps_of_steady dt ?_
  unfold execPdelayReqTx
  generalize advance dt s = a
  dsimp only
  split
  · simp
  · split
    · split
      · split <;> simp
      · simp
    · simp

@[simp] theorem keeps_execPtpFaultyRetry (dt port : Nat) (s : State) : Keeps s (execPtpFaultyRetry dt port s) := by
  simp [execPtpFaultyRetry]

@[simp] theorem lasting_annGone (s : State) (p : Nat) : lasting (annGone s p) = lasting s := by
  simp [annGone]

@[simp] theorem keeps_execAnnounceReceiptTimeout (dt port : Nat) (also : List Nat) (s : State) :
    Keeps s (execAnnounceReceiptTimeout dt port also s) := by
  simp [execAnnounceReceiptTimeout, lasting_foldl]

@[simp] theorem keeps_execServoFreqWrite (dt incr : Nat) (s : State) : Keeps s (execServoFreqWrite dt incr s) := by
  refine keeps_of_steady dt ?_
  unfold execServoFreqWrite
  generalize advance dt s = a
  simp

@[simp] theorem keeps_execSlewComplete (dt : Nat) (s : State) : Keeps s (execSlewComplete dt s) := by
  refine keeps_of_steady dt ?_
  unfold execSlewComplete
  generalize advance dt s = a
  simp

@[simp] theorem keeps_execSecondRollover (dt : Nat) (s : State) : Keeps s (execSecondRollover dt s) := by
  simp [execSecondRollover]

@[simp] theorem keeps_execSyncReceiptTimeout (dt : Nat) (s : State) : Keeps s (execSyncReceiptTimeout dt s) := by
  refine keeps_of_steady dt ?_
  unfold execSyncReceiptTimeout
  generalize advance dt s = a
  simp

@[simp] theorem keeps_execHoldoverLimitExpiry (dt : Nat) (s : State) : Keeps s (execHoldoverLimitExpiry dt s) := by
  simp [execHoldoverLimitExpiry]

@[simp] theorem lasting_putHoldLimit (s : State) (v : Val) : lasting (putHoldLimit s v).s = lasting s := by
  simp [putHoldLimit]

@[simp] theorem lasting_ptpRestart (s : State) : lasting (ptpRestart s) = lasting s := by
  simp [ptpRestart]

@[simp] theorem lasting_putProfile (s : State) (v : Val) : lasting (putProfile s v).s = lasting s := by
  simp [putProfile]

@[simp] theorem keeps_execPtpProfileWrite (dt : Nat) (rq : Req) (profile : Nat) (s : State) :
    Keeps s (execPtpProfileWrite dt rq profile s) := by
  simp [execPtpProfileWrite]

@[simp] theorem lasting_stepCmd (s : State) (amt : Int) : lasting (stepCmd s amt).s = lasting s := by
  simp [stepCmd]

@[simp] theorem keeps_execTimeSet (dt : Nat) (rq : Req) (t : Int) (s : State) : Keeps s (execTimeSet dt rq t s) := by
  simp [execTimeSet]

@[simp] theorem keeps_execTimeAdjust (dt : Nat) (rq : Req) (delta : Int) (s : State) : Keeps s (execTimeAdjust dt rq delta s) := by
  simp [execTimeAdjust]

@[simp] theorem lasting_opStepConfirm (s : State) (maxOff : Int) : lasting (opStepConfirm s maxOff).s = lasting s := by
  simp [opStepConfirm]

@[simp] theorem keeps_execStepConfirm (dt : Nat) (rq : Req) (maxOffset : Int) (s : State) :
    Keeps s (execStepConfirm dt rq maxOffset s) := by
  simp [execStepConfirm]

@[simp] theorem keeps_execLeapSecond (dt : Nat) (s : State) : Keeps s (execLeapSecond dt s) := by
  refine keeps_of_steady dt ?_
  unfold execLeapSecond
  generalize advance dt s = a
  simp

@[simp] theorem lasting_opTimeReset (s : State) : lasting (opTimeReset s).s = lasting s := by
  simp [opTimeReset]

@[simp] theorem keeps_execTimeCountersReset (dt : Nat) (rq : Req) (s : State) : Keeps s (execTimeCountersReset dt rq s) := by
  simp [execTimeCountersReset]

@[simp] theorem lasting_measureAt (s : State) (utc stamp : Int) :
    lasting (measureAt s utc stamp) = lasting s :=
  (live_measureAt ..).lasting

@[simp] theorem lasting_selfBit (s : State) (n : Nat) (fails : Bool) :
    lasting (selfBit s n fails) = lasting s :=
  (within_selfBit ..).lasting

@[simp] theorem lasting_selfRan (s : State) (k : Nat) : lasting (selfRan s k) = lasting s := rfl

@[simp] theorem lasting_ppsJudge (s : State) : lasting (ppsJudge s) = lasting s :=
  (live_ppsJudge ..).lasting

@[simp] theorem keeps_execPpsInEdge (dt held : Nat) (s : State) : Keeps s (execPpsInEdge dt held s) := by
  refine keeps_of_steady dt ?_
  unfold execPpsInEdge
  generalize advance dt s = a
  simp

@[simp] theorem keeps_execIrigFrame (dt held : Nat) (fr : IrigFrame) (s : State) : Keeps s (execIrigFrame dt held fr s) := by
  refine keeps_of_steady dt ?_
  unfold execIrigFrame
  generalize advance dt s = a
  split <;> simp

@[simp] theorem keeps_execPpsAbsent (dt : Nat) (s : State) : Keeps s (execPpsAbsent dt s) := by
  refine keeps_of_steady dt ?_
  unfold execPpsAbsent
  generalize advance dt s = a
  simp

@[simp] theorem lasting_putPpsMode (s : State) (v : Val) : lasting (putPpsMode s v).s = lasting s := by
  simp [putPpsMode]

@[simp] theorem keeps_execPpsOutRise (dt : Nat) (s : State) : Keeps s (execPpsOutRise dt s) := by
  refine keeps_of_steady dt ?_
  unfold execPpsOutRise
  generalize advance dt s = a
  simp

@[simp] theorem keeps_execPpsOutFall (dt : Nat) (s : State) : Keeps s (execPpsOutFall dt s) := by
  refine keeps_of_steady dt ?_
  unfold execPpsOutFall
  generalize advance dt s = a
  simp

@[simp] theorem keeps_execLearnedRateUpdate (dt entry : Nat) (s : State) : Keeps s (execLearnedRateUpdate dt entry s) := by
  refine keeps_of_steady dt ?_
  unfold execLearnedRateUpdate
  generalize advance dt s = a
  dsimp only
  split
  · simp
  · split
    · split
      · simp
      · split <;> simp
    · simp

@[simp] theorem keeps_execRowClose (dt : Nat) (s : State) : Keeps s (execRowClose dt s) := by
  simp [execRowClose]

@[simp] theorem lasting_opStreamReset (s : State) (entry : Nat) : lasting (opStreamReset s entry).s = lasting s := by
  simp [opStreamReset]

@[simp] theorem keeps_execStreamCountersReset (dt : Nat) (rq : Req) (entry : Nat) (s : State) :
    Keeps s (execStreamCountersReset dt rq entry s) := by
  simp [execStreamCountersReset]

@[simp] theorem lasting_opSvPortReset (s : State) : lasting (opSvPortReset s).s = lasting s := by
  simp [opSvPortReset]

@[simp] theorem keeps_execSvPortCountersReset (dt : Nat) (rq : Req) (s : State) : Keeps s (execSvPortCountersReset dt rq s) := by
  simp [execSvPortCountersReset]

@[simp] theorem lasting_opPlanReset (s : State) : lasting (opPlanReset s).s = lasting s := by
  simp [opPlanReset]

@[simp] theorem keeps_execPlanCountersReset (dt : Nat) (rq : Req) (s : State) : Keeps s (execPlanCountersReset dt rq s) := by
  simp [execPlanCountersReset]

/-! ## GOOSE -/

@[simp] theorem lasting_gbStop (s : State) (b : Nat) : lasting (gbStop s b) = lasting s := by
  simp [gbStop, lasting_foldl]

@[simp] theorem lasting_gooseStop (s : State) (p : Nat) : lasting (gooseStop s p) = lasting s := by
  simp [gooseStop, lasting_foldl]

@[simp] theorem lasting_gbChange (s : State) (b : Nat) (slots : List Nat) (req : Option (Nat × Nat)) (took : Option Nat) :
    lasting (gbChange s b slots req took) = lasting s := by
  simp [gbChange]

@[simp] theorem lasting_gbLaunch (s : State) (b : Nat) (slots : List Nat) (r : GReq) (q i took : Nat) :
    lasting (gbLaunch s b slots r q i took) = lasting s := by
  simp [gbLaunch]

@[simp] theorem lasting_gooseLogic (s : State) (p b : Nat) (img : List Nat) : lasting (gooseLogic s p b img) = lasting s := by
  simp [gooseLogic]

@[simp] theorem lasting_gooseReq (s : State) (p q i : Nat) (r : GReq) (took : Nat) : lasting (gooseReq s p q i r took) = lasting s := by
  simp [gooseReq]

@[simp] theorem keeps_execGooseRequest (dt ring : Nat) (s : State) : Keeps s (execGooseRequest dt ring s) := by
  refine keeps_of_steady dt ?_
  unfold execGooseRequest
  generalize advance dt s = a
  dsimp only
  split
  · simp
  · split <;> simp

@[simp] theorem lasting_gbRetransmit (s : State) (b : Nat) (due : Int) : lasting (gbRetransmit s b due) = lasting s := by
  simp [gbRetransmit]

@[simp] theorem keeps_execGooseRetransmit (dt block : Nat) (s : State) : Keeps s (execGooseRetransmit dt block s) := by
  refine keeps_of_steady dt ?_
  unfold execGooseRetransmit
  generalize advance dt s = a
  dsimp only
  split <;> simp

@[simp] theorem lasting_gooseClaim (s : State) (d : Nat) : lasting (gooseClaim s d) = lasting s := by
  refine lasting_foldl (fun s b => ?_) _ _
  simp [apply_ite Prod.snd]

@[simp] theorem lasting_opGoReset (s : State) : lasting (opGoReset s).s = lasting s := by
  simp [opGoReset]

@[simp] theorem keeps_execGoCountersReset (dt : Nat) (rq : Req) (s : State) : Keeps s (execGoCountersReset dt rq s) := by
  simp [execGoCountersReset]

@[simp] theorem lasting_setGs (s : State) (e : Nat) (x : GSub) : lasting (setGs s e x) = lasting s := rfl

@[simp] theorem lasting_setLatch (s : State) (k : Nat) (x : Latch) : lasting (setLatch s k x) = lasting s := (rfl)

@[simp] theorem lasting_gsState (s : State) (e st : Nat) : lasting (gsState s e st) = lasting s := by
  simp [gsState]

@[simp] theorem lasting_gsEvent (s : State) (e kind flags : Nat) (time : Int) : lasting (gsEvent s e kind flags time) = lasting s := by
  simp [gsEvent]

@[simp] theorem lasting_gsAccept (s : State) (e : Nat) (p : GoosePdu) (rx : Int) (isNew : Bool) (flags claim : Nat) :
    lasting (gsAccept s e p rx isNew flags claim) = lasting s := by
  simp [gsAccept]

@[simp] theorem lasting_gsSeq (s : State) (e : Nat) (p : GoosePdu) (rx : Int) (claim : Nat) :
    lasting (gsSeq s e p rx claim) = lasting s := by
  simp [gsSeq]

@[simp] theorem lasting_gsClaimRule (s : State) (e : Nat) (v : Val) (p : GoosePdu) (rx : Int) :
    lasting (gsClaimRule s e v p rx) = lasting s := by
  simp [gsClaimRule]

@[simp] theorem lasting_gsAuthFail (s : State) (e ctr : Nat) : lasting (gsAuthFail s e ctr) = lasting s := by
  simp [gsAuthFail]

@[simp] theorem lasting_gooseRx (s : State) (port dst src vid : Nat) (p : GoosePdu) :
    lasting (gooseRx s port dst src vid p) = lasting s := by
  unfold gooseRx
  split
  · simp
  · split
    · simp
    · split <;> simp

@[simp] theorem keeps_execGooseTalExpiry (dt entry : Nat) (s : State) : Keeps s (execGooseTalExpiry dt entry s) := by
  simp [execGooseTalExpiry]

@[simp] theorem keeps_execLatchListenEnd (dt latch : Nat) (s : State) : Keeps s (execLatchListenEnd dt latch s) := by
  simp [execLatchListenEnd]

@[simp] theorem lasting_opGsubReset (s : State) : lasting (opGsubReset s).s = lasting s := by
  simp [opGsubReset]

@[simp] theorem keeps_execGsubCountersReset (dt : Nat) (rq : Req) (s : State) : Keeps s (execGsubCountersReset dt rq s) := by
  simp [execGsubCountersReset]

@[simp] theorem lasting_gsFresh (s : State) (e : Nat) : lasting (gsFresh s e) = lasting s := by
  simp [gsFresh]

@[simp] theorem lasting_gooseBegin (s : State) : lasting (gooseBegin s) = lasting s := by
  simp [gooseBegin, lasting_foldl]

@[simp] theorem lasting_gsCommit (s : State) (e : Nat) : lasting (gsCommit s e) = lasting s := by
  simp [gsCommit]

@[simp] theorem lasting_setOs (s : State) (o : Nat) (x : OsSt) : lasting (setOs s o x) = lasting s := (rfl)

@[simp] theorem lasting_osSend (s : State) (o : Nat) (fr : List (Nat × Nat × List Int × List Nat)) :
    lasting (osSend s o fr) = lasting s := by
  simp [osSend]

@[simp] theorem lasting_osSample (s : State) (o n synch : Nat) (vals : List Int) (quals : List Nat) :
    lasting (osSample s o n synch vals quals) = lasting s := by
  simp [osSample]

@[simp] theorem lasting_osFeed (s : State) (o c ch synch : Nat) (x : ConvIn) : lasting (osFeed s o c ch synch x) = lasting s := by
  simp [osFeed, lasting_foldl]

@[simp] theorem lasting_osFill (o c ch synch k : Nat) (s : State) (n : Nat) : lasting (osFill o c ch synch k s n) = lasting s := by
  induction k generalizing s with
  | zero => rfl
  | succ k ih =>
    unfold osFill
    split <;> simp [ih]

@[simp] theorem lasting_osRow1 (s : State) (o r : Nat) : lasting (osRow1 s o r) = lasting s := by
  unfold osRow1
  dsimp only
  cases (osOf s o).reset <;> split <;> simp

@[simp] theorem lasting_osRow (s : State) (r : Nat) (cond : Bool) : lasting (osRow s r cond) = lasting s := by
  simp [osRow, lasting_foldl]

@[simp] theorem lasting_opOsReset (s : State) : lasting (opOsReset s).s = lasting s := by
  simp [opOsReset]

@[simp] theorem keeps_execOsCountersReset (dt : Nat) (rq : Req) (s : State) : Keeps s (execOsCountersReset dt rq s) := by
  simp [execOsCountersReset]

/-! ## The vault's queue -/

@[simp] theorem lasting_setSlot (s : State) (k : Nat) (x : KeySlot) : lasting (setSlot s k x) = lasting s := rfl

@[simp] theorem lasting_judgeVault (s : State) : lasting (judgeVault s) = lasting s := by
  simp [judgeVault]

@[simp] theorem lasting_slotTo (s : State) (k st : Nat) : lasting (slotTo s k st) = lasting s := by
  simp [slotTo]

@[simp] theorem lasting_judgeKeys (s : State) : lasting (judgeKeys s) = lasting s :=
  (live_judgeKeys ..).lasting

@[simp] theorem lasting_slotBad (s : State) (k : Nat) : lasting (slotBad s k) = lasting s :=
  (slotChecks_slotBad ..).lasting

@[simp] theorem lasting_slotCheck (s : State) (op : VOp) : lasting (slotCheck s op) = lasting s :=
  (slotChecks_slotCheck ..).lasting

@[simp] theorem lasting_vaultKick (s : State) : lasting (vaultKick s) = lasting s := by
  unfold vaultKick
  dsimp only
  split
  · split
    · simp
    · split <;> simp
  · simp

@[simp] theorem lasting_vaultPush (s : State) (c : Nat) (op : VOp) : lasting (vaultPush s c op) = lasting s := by
  simp [vaultPush]

@[simp] theorem lasting_vaultYield (s : State) : lasting (vaultYield s) = lasting s := by
  unfold vaultYield
  dsimp only
  split <;> simp

/-! ## Claims -/

@[simp] theorem lasting_judgeHolder (s : State) (d : Nat) : lasting (judgeHolder s d) = lasting s := by
  simp [judgeHolder]

@[simp] theorem lasting_setBol (s : State) (x : Bolpel) : lasting (setBol s x) = lasting s :=
  (within_setBol ..).lasting

@[simp] theorem lasting_bolPump (s : State) : lasting (bolPump s) = lasting s := by
  unfold bolPump
  dsimp only
  split
  · split
    · simp
    · split <;> simp
  · simp

@[simp] theorem lasting_bolQueue (s : State) (c : BolCmd) : lasting (bolQueue s c) = lasting s := by
  simp [bolQueue]

@[simp] theorem lasting_bolDone (s : State) (c : BolCmd) (status readback : Nat) :
    lasting (bolDone s c status readback) = lasting s :=
  (within_bolDone ..).lasting

@[simp] theorem lasting_bolCommand (s : State) (p board mask out : Nat) (req : Option (Nat × Nat)) (served : Bool) (took : Option Nat) :
    lasting (bolCommand s p board mask out req served took).2 = lasting s := by
  simp [bolCommand, apply_ite Prod.snd]

@[simp] theorem keeps_execBolpelRequest (dt ring : Nat) (s : State) : Keeps s (execBolpelRequest dt ring s) := by
  refine keeps_of_steady dt ?_
  unfold execBolpelRequest
  generalize advance dt s = a
  dsimp only
  split
  · simp
  · split <;> simp

@[simp] theorem lasting_bolCycle (s : State) : lasting (bolCycle s) = lasting s := by
  unfold bolCycle
  dsimp only
  split <;> simp

@[simp] theorem keeps_execBolpelCycle (dt : Nat) (s : State) : Keeps s (execBolpelCycle dt s) := by
  simp [execBolpelCycle]

@[simp] theorem keeps_execBolpelFrameEnd (dt : Nat) (s : State) : Keeps s (execBolpelFrameEnd dt s) := by
  refine keeps_of_steady dt ?_
  unfold execBolpelFrameEnd
  generalize advance dt s = a
  dsimp only
  split <;> simp

@[simp] theorem lasting_judgeBol (s : State) : lasting (judgeBol s) = lasting s := by
  simp [judgeBol]

@[simp] theorem lasting_echoFail (s : State) (n : Nat) : lasting (echoFail s n) = lasting s := by
  simp [echoFail]

@[simp] theorem lasting_noteClaim (s : State) (d c : Nat) : lasting (noteClaim s d c) = lasting s := by
  simp [noteClaim]

@[simp] theorem keeps_execBolpelEcho (dt : Nat) (e : Echo) (s : State) : Keeps s (execBolpelEcho dt e s) := by
  refine keeps_of_steady dt ?_
  unfold execBolpelEcho
  generalize advance dt s = a
  split
  · dsimp only
    split <;> simp
  · split
    · dsimp only
      split <;> simp
    · dsimp only
      split <;> simp

@[simp] theorem keeps_execBolpelEchoTimeout (dt : Nat) (s : State) : Keeps s (execBolpelEchoTimeout dt s) := by
  refine keeps_of_steady dt ?_
  unfold execBolpelEchoTimeout
  generalize advance dt s = a
  dsimp only
  split <;> simp

@[simp] theorem lasting_bolStop (s : State) : lasting (bolStop s) = lasting s :=
  (within_bolStop ..).lasting

@[simp] theorem lasting_bolFence (s : State) (p : Nat) : lasting (bolFence s p) = lasting s := by
  simp [bolFence]

@[simp] theorem lasting_bolFull (s : State) (d : Nat) : lasting (bolFull s d) = lasting s := by
  simp [bolFull, lasting_foldl]

@[simp] theorem lasting_grant (s : State) (d : Nat) : lasting (grant s d) = lasting s := by
  simp [grant]

@[simp] theorem keeps_execClaimRaise (dt d : Nat) (s : State) : Keeps s (execClaimRaise dt d s) := by
  simp [execClaimRaise]

@[simp] theorem lasting_hoStart (s : State) (d sess reqId : Nat) : lasting (hoStart s d sess reqId) = lasting s := by
  simp [hoStart]

@[simp] theorem lasting_opHandover (s : State) (rq : Req) (d : Nat) : lasting (opHandover s rq d).s = lasting s := by
  simp [opHandover]

@[simp] theorem keeps_execHandover (dt : Nat) (rq : Req) (d : Nat) (s : State) : Keeps s (execHandover dt rq d s) := by
  simp [execHandover]

@[simp] theorem lasting_hoEnd (s : State) (d status : Nat) : lasting (hoEnd s d status) = lasting s :=
  (aborts_hoEnd ..).lasting

@[simp] theorem lasting_hoSend (s : State) (d : Nat) (m : IulMsg) (g : MigMsg) :
    lasting (hoSend s d m g) = lasting s :=
  (live_hoSend ..).lasting

@[simp] theorem lasting_hoJudge (s : State) (d claim row : Nat) (tagOk : Bool) :
    lasting (hoJudge s d claim row tagOk) = lasting s :=
  (live_hoJudge ..).lasting

@[simp] theorem keeps_execHandoverRx (dt d claim row : Nat) (tagOk : Bool) (s : State) :
    Keeps s (execHandoverRx dt d claim row tagOk s) := by
  simp [execHandoverRx]

@[simp] theorem lasting_hoAnswer (s : State) (d : Nat) (accepted : Bool) : lasting (hoAnswer s d accepted) = lasting s := by
  unfold hoAnswer
  dsimp only
  split <;> simp

@[simp] theorem keeps_execHandoverAck (dt d : Nat) (accepted : Bool) (s : State) : Keeps s (execHandoverAck dt d accepted s) := by
  simp [execHandoverAck]

@[simp] theorem keeps_execHandoverAckTimeout (dt d : Nat) (s : State) : Keeps s (execHandoverAckTimeout dt d s) := by
  refine keeps_of_steady dt ?_
  unfold execHandoverAckTimeout
  generalize advance dt s = a
  dsimp only
  split <;> simp

@[simp] theorem lasting_hoRow (s : State) (r : Nat) : lasting (hoRow s r) = lasting s := by
  refine lasting_foldl (fun s d => ?_) _ _
  dsimp only
  split <;> (try split) <;> cases (claimOf s d).hoIn <;> simp

@[simp] theorem lasting_hoAuto (s : State) (d : Nat) : lasting (hoAuto s d) = lasting s := by
  simp [hoAuto]

@[simp] theorem lasting_takeover (s : State) (d : Nat) : lasting (takeover s d) = lasting s := by
  simp [takeover]

@[simp] theorem keeps_execTakeoverEval (dt : Nat) (s : State) : Keeps s (execTakeoverEval dt s) := by
  refine keeps_of_steady dt ?_
  unfold execTakeoverEval
  generalize advance dt s = a
  simp [lasting_foldl]

@[simp] theorem keeps_execIsolationTimeExpiry (dt : Nat) (s : State) : Keeps s (execIsolationTimeExpiry dt s) := by
  simp [execIsolationTimeExpiry, lasting_foldl]

@[simp] theorem lasting_beaconSend (s : State) (path : Nat) : lasting (beaconSend s path) = lasting s := by
  simp [beaconSend]

@[simp] theorem keeps_execBeaconTx (dt : Nat) (s : State) : Keeps s (execBeaconTx dt s) := by
  refine keeps_of_steady dt ?_
  unfold execBeaconTx
  generalize advance dt s = a
  simp [lasting_foldl]

@[simp] theorem lasting_beaconEntry (s : State) (d c : Nat) : lasting (beaconEntry s d c) = lasting s := by
  simp [beaconEntry]

@[simp] theorem lasting_beaconRx (s : State) (path : Nat) (b : Beacon) : lasting (beaconRx s path b) = lasting s := by
  simp [beaconRx, lasting_foldl]

end Sys2Proof.Machine
end

section
/-! PROOF. Conditioning, the units of tasks and the partitions leave what lasts. -/

set_option Elab.async false

open Sys2Proof Sys2Proof.Machine

namespace Sys2Proof.Machine

/-! ## Conditioning -/

@[simp] theorem lasting_setBank (s : State) (b st : Nat) : lasting (setBank s b st) = lasting s := rfl

@[simp] theorem lasting_setProf (s : State) (p : Nat) (x : Profile) : lasting (setProf s p x) = lasting s := rfl

@[simp] theorem lasting_setOut (s : State) (g : Nat) (x : GOut) : lasting (setOut s g x) = lasting s := rfl

@[simp] theorem lasting_chanStage1 (s : State) (g p b r : Nat) (x : GChan) : lasting (chanStage1 s g p b r x).1 = lasting s := by
  simp [chanStage1, apply_ite Prod.fst]

@[simp] theorem lasting_chanOut (s : State) (g p b r : Nat) (x : GChan) : lasting (chanOut s g p b r x).1 = lasting s := by
  simp [chanOut, apply_ite Prod.fst]

@[simp] theorem lasting_chanRun (s : State) (g p r : Nat) (ch : GChan) : lasting (chanRun s g p r ch).1 = lasting s := by
  simp [chanRun, apply_ite Prod.fst]

@[simp] theorem lasting_groupRow (s : State) (swapped : List Nat) (r g : Nat) : lasting (groupRow s swapped r g) = lasting s := by
  simp only [groupRow, lasting_setOut]
  exact lasting_foldl_fst (fun p x => by simp) _ (s, [])

@[simp] theorem lasting_freeH2 (s : State) (p side : Nat) : lasting (freeH2 s p side) = lasting s := rfl

@[simp] theorem lasting_fadeEnd (s : State) (p : Nat) : lasting (fadeEnd s p) = lasting s := by
  simp [fadeEnd]

@[simp] theorem lasting_groupRestart (s : State) (r g : Nat) (which : GChan → Bool) : lasting (groupRestart s r g which) = lasting s := by
  simp [groupRestart]

@[simp] theorem lasting_emptyH2 (s : State) (g : Nat) (which : GChan → Bool) : lasting (emptyH2 s g which) = lasting s := by
  simp [emptyH2]

@[simp] theorem lasting_restartAll (s : State) (r : Nat) : lasting (restartAll s r) = lasting s := by
  simp [restartAll, lasting_foldl]

@[simp] theorem lasting_eccInput (r : Nat) (s : State) (k : Nat) : lasting (eccInput r s k) = lasting s := by
  simp [eccInput, lasting_foldl]

@[simp] theorem lasting_eccStage2 (r : Nat) (s : State) (k : Nat) : lasting (eccStage2 r s k) = lasting s := by
  simp [eccStage2]

@[simp] theorem lasting_eccRow (s : State) (r : Nat) : lasting (eccRow s r) = lasting s := by
  simp [eccRow, lasting_foldl]

@[simp] theorem lasting_bankSeq (s : State) (p : Nat) : lasting (bankSeq s p) = lasting s :=
  lasting_foldl (fun s t => by simp) _ _

@[simp] theorem lasting_profRow (s : State) (r p : Nat) : lasting (profRow s r p).1 = lasting s := by
  simp [profRow, apply_ite Prod.fst]

@[simp] theorem lasting_swapApply (s : State) (p row mode x : Nat) : lasting (swapApply s p row mode x) = lasting s := by
  simp [swapApply]

@[simp] theorem lasting_disarmApply (s : State) (p : Nat) : lasting (disarmApply s p) = lasting s := by
  simp [disarmApply]

@[simp] theorem lasting_putBank (s : State) (ob sub row : Nat) (v : Val) : lasting (putBank s ob sub row v).s = lasting s := by
  simp [putBank]

@[simp] theorem lasting_sealApply (s : State) (b : Nat) : lasting (sealApply s b) = lasting s := by
  simp [sealApply]

@[simp] theorem lasting_setImg (s : State) (t : Nat) (x : ImgSt) : lasting (setImg s t x) = lasting s := rfl

@[simp] theorem lasting_imgMiss (s : State) (r t : Nat) : lasting (imgMiss s r t) = lasting s := by
  simp [imgMiss]

@[simp] theorem lasting_imgPlace (s : State) (r t : Nat) (e : Entry) (body : List Byte) : lasting (imgPlace s r t e body) = lasting s := by
  unfold imgPlace
  extract_lets
  rw [lasting_ringPost, lasting_bump]
  rw [lasting_ite, lasting_setPart, ite_self, lasting_setImg, lasting_digClose, lasting_memWrite]

@[simp] theorem lasting_imgRow (s : State) (r : Nat) (dn : Bool) (t : Nat) : lasting (imgRow s r dn t) = lasting s := by
  simp [imgRow]

@[simp] theorem lasting_imgAll (s : State) (r : Nat) (dn : Bool) : lasting (imgAll s r dn) = lasting s := by
  simp [imgAll, lasting_foldl]

@[simp] theorem lasting_histPush (s : State) (r : Nat) : lasting (histPush s r) = lasting s := rfl

@[simp] theorem lasting_judgeCond (s : State) : lasting (judgeCond s) = lasting s := by
  simp [judgeCond]

@[simp] theorem lasting_arrayFail (s : State) (a : Nat) : lasting (arrayFail s a) = lasting s := by
  simp [arrayFail]

@[simp] theorem lasting_opCondReset (s : State) : lasting (opCondReset s).s = lasting s := by
  simp [opCondReset]

@[simp] theorem keeps_execCondCountersReset (dt : Nat) (rq : Req) (s : State) : Keeps s (execCondCountersReset dt rq s) := by
  simp [execCondCountersReset]

@[simp] theorem lasting_groupCommit (o s : State) (r g : Nat) : lasting (groupCommit o s r g) = lasting s := by
  simp [groupCommit]

@[simp] theorem lasting_condCommit (o s : State) (r : Nat) : lasting (condCommit o s r) = lasting s := by
  simp [condCommit, lasting_foldl]

@[simp] theorem lasting_condRow1 (s : State) (r : Nat) : lasting (condRow1 s r) = lasting s := by
  simp only [condRow1, lasting_foldl (fun s g => lasting_groupRow s _ r g), lasting_histPush]
  exact (lasting_foldl_fst (fun p x => by simp) _ (_, [])).trans (by simp)

@[simp] theorem lasting_cfgCatch (n : Nat) (s : State) (r : Nat) : lasting (cfgCatch n s r) = lasting s := by
  induction n generalizing s with
  | zero => rfl
  | succ n ih =>
    unfold cfgCatch
    split
    · rfl
    · split
      · rfl
      · have h (u : State) : lasting { u with store := s.store } = lasting u := rfl
        rw [ih, h, lasting_condCommit, lasting_rowCfg]
        rfl

@[simp] theorem lasting_condRow (s : State) (r : Nat) : lasting (condRow s r) = lasting s := by
  simp [condRow]

/-! ## The time-triggered unit -/

@[simp] theorem lasting_setCore (s : State) (c : Nat) (x : CorePort) : lasting (setCore s c x) = lasting s := (rfl)

@[simp] theorem lasting_setResult (s : State) (c op st v : Nat) : lasting (setResult s c op st v) = lasting s := by
  simp [setResult]

@[simp] theorem lasting_setRun (s : State) (c : Nat) (r : Run) : lasting (setRun s c r) = lasting s := rfl

@[simp] theorem lasting_ringCommit (s : State) (p q : Nat) (comp : Option Nat) (e : Entry) (row item : Nat) :
    lasting (ringCommit s p q comp e row item) = lasting s := by
  simp only [ringCommit]
  split
  · rfl
  · cases egressOf _ q e <;> simp

@[simp] theorem lasting_releaseHeld (s : State) (h : Held) : lasting (releaseHeld s h) = lasting s := by
  simp [releaseHeld]

@[simp] theorem lasting_releaseItem (s : State) (n : Nat) : lasting (releaseItem s n) = lasting s := by
  simp [releaseItem, lasting_foldl]

@[simp] theorem lasting_holdFree (s : State) (p n : Nat) : lasting (holdFree s p n) = lasting s := rfl

@[simp] theorem lasting_holdReturn (s : State) (p n : Nat) : lasting (holdReturn s p n) = lasting s := by
  simp [holdReturn]

@[simp] theorem lasting_flowFree (s : State) (f : Nat) : lasting (flowFree s f) = lasting s := by
  unfold flowFree
  split <;> simp

@[simp] theorem lasting_flowFlush (k : Nat) (s : State) (f : Nat) : lasting (flowFlush k s f) = lasting s := by
  induction k generalizing s with
  | zero => rfl
  | succ k ih =>
    unfold flowFlush
    split
    · rfl
    · split <;> simp [ih]

@[simp] theorem lasting_flowAdvance (k : Nat) (s : State) (f : Nat) : lasting (flowAdvance k s f) = lasting s := by
  induction k generalizing s with
  | zero => rfl
  | succ k ih =>
    unfold flowAdvance
    split
    · rfl
    · split
      · rfl
      · dsimp only
        split
        · exact (ih _).trans (by simp)
        · split <;> simp

@[simp] theorem lasting_itemEnd (s : State) (it : Item) (status : Nat) (start finish : Int) (result : Nat) :
    lasting (itemEnd s it status start finish result) = lasting s := by
  unfold itemEnd
  split <;> simp

@[simp] theorem lasting_coreIdle (s : State) (c : Nat) : lasting (coreIdle s c) = lasting s := (rfl)

@[simp] theorem lasting_afterItem (s : State) (it : Item) : lasting (afterItem s it) = lasting s := by
  unfold afterItem
  split <;> simp

@[simp] theorem lasting_ttEnd (s : State) (c : Nat) (r : Run) (result : Nat) : lasting (ttEnd s c r result) = lasting s := by
  simp [ttEnd]

@[simp] theorem lasting_pathDispatch (s : State) (it : Item) (idleAt : Nat) : lasting (pathDispatch s it idleAt) = lasting s := by
  unfold pathDispatch
  split
  · split
    · simp
    · split <;> simp
  · simp

@[simp] theorem lasting_dispatch (s : State) (it : Item) (c : Nat) : lasting (dispatch s it c) = lasting s := by
  simp [dispatch]

theorem lasting_dmaEngine {s t : State} {e : Nat} (h : dmaEngine s = some (e, t)) : lasting t = lasting s := by
  unfold dmaEngine at h
  split at h
  · simp at h
  · cases h
    rfl

@[simp] theorem lasting_dmaTake (s : State) (q i p : Nat) (d : DmaDesc) : lasting (dmaTake s q i p d) = lasting s := by
  simp only [dmaTake]
  cases h : dmaEngine s with
  | none => simp
  | some x => simp [lasting_dmaEngine h]

@[simp] theorem lasting_dmaMove (s : State) (o : DmaOp) : lasting (dmaMove s o).1 = lasting s := by
  simp [dmaMove, apply_ite Prod.fst]

@[simp] theorem lasting_dmaFences (s : State) : lasting (dmaFences s) = lasting s := rfl

@[simp] theorem lasting_dmaEnd (s : State) (id : Nat) (o : DmaOp) (status result : Nat) :
    lasting (dmaEnd s id o status result) = lasting s := by
  simp [dmaEnd]

@[simp] theorem keeps_execDmaEntry (dt ring : Nat) (s : State) : Keeps s (execDmaEntry dt ring s) := by
  refine keeps_of_steady dt ?_
  unfold execDmaEntry
  generalize advance dt s = a
  dsimp only
  split
  · simp
  · split <;> simp

@[simp] theorem keeps_execDmaComplete (dt dmaId : Nat) (s : State) : Keeps s (execDmaComplete dt dmaId s) := by
  refine keeps_of_steady dt ?_
  unfold execDmaComplete
  generalize advance dt s = a
  dsimp only
  split <;> simp

@[simp] theorem keeps_execDmaEngineFault (dt engine : Nat) (s : State) : Keeps s (execDmaEngineFault dt engine s) := by
  refine keeps_of_steady dt ?_
  unfold execDmaEngineFault
  generalize advance dt s = a
  simp [lasting_foldl]

@[simp] theorem lasting_ttSubmitOp (s : State) (p core : Nat) : lasting (ttSubmitOp s p core) = lasting s := by
  unfold ttSubmitOp
  split <;> simp

@[simp] theorem keeps_execTtSubmit (dt p core : Nat) (s : State) : Keeps s (execTtSubmit dt p core s) := by
  simp [execTtSubmit]

@[simp] theorem keeps_execSubmitRingEntry (dt ring : Nat) (s : State) : Keeps s (execSubmitRingEntry dt ring s) := by
  refine keeps_of_steady dt ?_
  unfold execSubmitRingEntry
  generalize advance dt s = a
  dsimp only
  split
  · simp
  · split <;> simp

@[simp] theorem keeps_execTtDispatch (dt : Nat) (s : State) : Keeps s (execTtDispatch dt s) := by
  refine keeps_of_steady dt ?_
  unfold execTtDispatch
  generalize advance dt s = a
  dsimp only
  split
  · simp
  · split <;> simp

@[simp] theorem lasting_ttCommitOp (s : State) (p core : Nat) (w : Word) (m : MemAt) : lasting (ttCommitOp s p core w m) = lasting s := by
  unfold ttCommitOp
  split
  · simp
  · split <;> simp

@[simp] theorem keeps_execTtCommit (dt core : Nat) (w : Word) (mem : MemAt) (s : State) : Keeps s (execTtCommit dt core w mem s) := by
  refine keeps_of_steady dt ?_
  unfold execTtCommit
  generalize advance dt s = a
  dsimp only
  split <;> simp

@[simp] theorem lasting_slotRelease (k : Nat) (s : State) (q : Nat) : lasting (slotRelease k s q) = lasting s := by
  induction k generalizing s with
  | zero => rfl
  | succ k ih =>
    unfold slotRelease
    split
    · rfl
    · split
      · simp [ih, lasting_foldl]
      · split
        · split <;> simp [ih]
        · rfl

@[simp] theorem keeps_execCommitSlotFree (dt ring : Nat) (s : State) : Keeps s (execCommitSlotFree dt ring s) := by
  simp [execCommitSlotFree]

@[simp] theorem lasting_ttCancelOp (s : State) (p core tag : Nat) : lasting (ttCancelOp s p core tag) = lasting s := by
  unfold ttCancelOp
  split
  · simp
  · simp [lasting_foldl]

@[simp] theorem keeps_execTtCancel (dt p core : Nat) (tag : Word) (s : State) : Keeps s (execTtCancel dt p core tag s) := by
  simp [execTtCancel]

theorem lasting_freeFlow {s t : State} {f : Nat} (h : freeFlow s = some (f, t)) : lasting t = lasting s := by
  unfold freeFlow at h
  split at h
  · simp at h
  · cases h
    rfl

@[simp] theorem lasting_ttFlowOpenOp (s : State) (p core w : Nat) : lasting (ttFlowOpenOp s p core w) = lasting s := by
  unfold ttFlowOpenOp
  split
  · rfl
  · cases h : freeFlow s with
    | none => simp
    | some x => simp [lasting_freeFlow h]

@[simp] theorem keeps_execTtFlowOpen (dt p core : Nat) (w : Word) (s : State) : Keeps s (execTtFlowOpen dt p core w s) := by
  simp [execTtFlowOpen]

@[simp] theorem lasting_ttFlowCloseOp (s : State) (p core w : Nat) : lasting (ttFlowCloseOp s p core w) = lasting s := by
  unfold ttFlowCloseOp
  split <;> simp

@[simp] theorem keeps_execTtFlowClose (dt p core : Nat) (w : Word) (s : State) : Keeps s (execTtFlowClose dt p core w s) := by
  simp [execTtFlowClose]

@[simp] theorem keeps_execTtResultRead (dt _core : Nat) (s : State) : Keeps s (execTtResultRead dt _core s) := by
  simp [execTtResultRead]

@[simp] theorem lasting_prodWrite (s : State) (q v : Nat) (es : List Entry) (by_ : Option Run) :
    lasting (prodWrite s q v es by_) = lasting s := by
  simp [prodWrite]

@[simp] theorem keeps_execRingProdWrite (dt p ring : Nat) (value : Word) (entries : List Entry) (s : State) :
    Keeps s (execRingProdWrite dt p ring value entries s) := by
  simp [execRingProdWrite]

@[simp] theorem lasting_consWrite (s : State) (q v : Nat) : lasting (consWrite s q v) = lasting s := by
  simp [consWrite]

@[simp] theorem keeps_execRingConsWrite (dt p ring : Nat) (value : Word) (s : State) : Keeps s (execRingConsWrite dt p ring value s) := by
  simp [execRingConsWrite]

@[simp] theorem lasting_opTtReset (s : State) : lasting (opTtReset s).s = lasting s := by
  simp [opTtReset]

@[simp] theorem keeps_execTtCountersReset (dt : Nat) (rq : Req) (s : State) : Keeps s (execTtCountersReset dt rq s) := by
  simp [execTtCountersReset]

/-! ## Pigeonholes -/

@[simp] theorem lasting_setChan (s : State) (c : Nat) (x : Chan) : lasting (setChan s c x) = lasting s :=
  (live_setChan ..).lasting

@[simp] theorem lasting_setPhCore (s : State) (ep core : Nat) (x : PhCore) : lasting (setPhCore s ep core x) = lasting s := rfl

@[simp] theorem lasting_phAnswer (s : State) (ep core op st left : Nat) : lasting (phAnswer s ep core op st left) = lasting s := by
  simp [phAnswer]

@[simp] theorem lasting_phHeader (s : State) (ep core : Nat) (w : Word) : lasting (phHeader s ep core w) = lasting s := by
  simp [phHeader]

@[simp] theorem lasting_chanPut (s : State) (c : Nat) (m : Msg) : lasting (chanPut s c m) = lasting s :=
  (live_chanPut ..).lasting

@[simp] theorem lasting_gwPost (s : State) (p : Nat) : lasting (gwPost s p) = lasting s := by
  unfold gwPost
  split <;> simp

@[simp] theorem lasting_gwSend (s : State) (p : Nat) : lasting (gwSend s p) = lasting s := by
  unfold gwSend
  split <;> simp

@[simp] theorem lasting_phPostOp (s : State) (ep core : Nat) (w : Word) : lasting (phPostOp s ep core w) = lasting s := by
  unfold phPostOp
  dsimp only
  split <;> simp

@[simp] theorem lasting_chanTake (s : State) (c : Nat) (m : Msg) (rest : List Msg) : lasting (chanTake s c m rest) = lasting s := by
  unfold chanTake
  dsimp only
  split <;> simp

@[simp] theorem lasting_phTakeOp (s : State) (ep core idx : Nat) : lasting (phTakeOp s ep core idx) = lasting s := by
  unfold phTakeOp
  split
  · simp
  · split
    · simp
    · split
      · simp
      · split <;> simp

@[simp] theorem lasting_phRingOp (s : State) (ep core w : Nat) : lasting (phRingOp s ep core w) = lasting s := by
  simp [phRingOp]

@[simp] theorem lasting_fenceRx (s : State) (c : Nat) : lasting (fenceRx s c) = lasting s := by
  simp [fenceRx]

@[simp] theorem lasting_fenceTx (s : State) (c : Nat) : lasting (fenceTx s c) = lasting s := by
  simp [fenceTx]

@[simp] theorem lasting_phFence (s : State) (p : Nat) : lasting (phFence s p) = lasting s := by
  simp [phFence, lasting_foldl]

@[simp] theorem keeps_execPhPost (dt ep core : Nat) (w : Word) (s : State) : Keeps s (execPhPost dt ep core w s) := by
  simp [execPhPost]

@[simp] theorem keeps_execPhStageHeader (dt ep core : Nat) (w : Word) (s : State) : Keeps s (execPhStageHeader dt ep core w s) := by
  simp [execPhStageHeader]

@[simp] theorem keeps_execPhTake (dt ep core : Nat) (w : Word) (s : State) : Keeps s (execPhTake dt ep core w s) := by
  simp [execPhTake]

@[simp] theorem keeps_execPhBellRing (dt ep core : Nat) (w : Word) (s : State) : Keeps s (execPhBellRing dt ep core w s) := by
  simp [execPhBellRing]

@[simp] theorem keeps_execPhAckTimeout (dt chan : Nat) (s : State) : Keeps s (execPhAckTimeout dt chan s) := by
  refine keeps_of_steady dt ?_
  unfold execPhAckTimeout
  generalize advance dt s = a
  dsimp only
  split <;> simp

@[simp] theorem lasting_opPhReset (s : State) : lasting (opPhReset s).s = lasting s := by
  simp [opPhReset]

@[simp] theorem keeps_execPhCountersReset (dt : Nat) (rq : Req) (s : State) : Keeps s (execPhCountersReset dt rq s) := by
  simp [execPhCountersReset]

/-! ## Logic tasks -/

@[simp] theorem lasting_setTask (s : State) (j : Nat) (x : Task) : lasting (setTask s j x) = lasting s :=
  (within_setTask ..).lasting

@[simp] theorem lasting_setRetain (s : State) (p : Nat) (x : Retain) :
    lasting (setRetain s p x) = lasting s :=
  (within_setRetain ..).lasting

@[simp] theorem lasting_forceSet (s : State) (row : Nat) (v : Val) : lasting (forceSet s row v) = lasting s := by
  simp [forceSet]

@[simp] theorem lasting_forceBoundary (s : State) (p : Nat) : lasting (forceBoundary s p) = lasting s := by
  simp [forceBoundary, lasting_foldl]

@[simp] theorem lasting_forceLater (s : State) (row : Nat) (v : Val) (from_ : Nat) : lasting (forceLater s row v from_) = lasting s := by
  simp [forceLater]

@[simp] theorem lasting_forceClear (s : State) : lasting (forceClear s) = lasting s := by
  simp [forceClear, lasting_foldl]

@[simp] theorem lasting_stationTake (s : State) (st : Nat) (y : Station) : lasting (stationTake s st y) = lasting s := by
  simp [stationTake]

@[simp] theorem lasting_onlineApply (s : State) (j p : Nat) : lasting (onlineApply s j p) = lasting s := by
  simp [onlineApply, lasting_foldl]

@[simp] theorem lasting_logicItem (s : State) (j p : Nat) (body : Bool) (d : ItemDesc) : lasting (logicItem s j p body d) = lasting s := by
  simp [logicItem]

@[simp] theorem lasting_logicRelease (n : Nat) (s : State) (j : Nat) : lasting (logicRelease n s j) = lasting s := by
  induction n generalizing s with
  | zero => rfl
  | succ n ih =>
    unfold logicRelease
    dsimp only
    split <;> simp [ih]

@[simp] theorem lasting_snapshot (s : State) (j n : Nat) : lasting (snapshot s j n) = lasting s := by
  simp [snapshot, lasting_foldl]

@[simp] theorem keeps_execCycleBoundary (dt task : Nat) (s : State) : Keeps s (execCycleBoundary dt task s) := by
  simp [execCycleBoundary]

@[simp] theorem lasting_logicOut1 (s : State) (j p row kind idx : Nat) (img : List Nat) :
    lasting (logicOut1 s j p row kind idx img) = lasting s := by
  simp [logicOut1]

@[simp] theorem lasting_logicOuts (s : State) (j p row : Nat) (given : List (List Nat)) : lasting (logicOuts s j p row given) = lasting s := by
  unfold logicOuts
  split
  · rfl
  · exact lasting_foldl_fst (fun p v => by simp) _ (s, _, given)

@[simp] theorem lasting_logicCommit (s : State) (j row : Nat) (given : List (List Nat)) :
    lasting (logicCommit s j row given) = lasting s := by
  simp [logicCommit]

@[simp] theorem keeps_execLogicShadowCopyDone (dt p : Nat) (s : State) : Keeps s (execLogicShadowCopyDone dt p s) := by
  simp [execLogicShadowCopyDone]

@[simp] theorem keeps_execTriggerPendingRelease (dt ring : Nat) (s : State) : Keeps s (execTriggerPendingRelease dt ring s) := by
  simp [execTriggerPendingRelease, lasting_foldl]

@[simp] theorem lasting_logicAbandon (s : State) (p : Nat) : lasting (logicAbandon s p) = lasting s :=
  (within_logicAbandon ..).lasting

@[simp] theorem lasting_putTable (s : State) (p : Nat) (l : List (List Byte)) : lasting (putTable s p l) = lasting s := by
  simp [putTable]

@[simp] theorem lasting_rebuild (s : State) (p : Nat) : lasting (rebuild s p) = lasting s := by
  simp [rebuild]

@[simp] theorem lasting_coldArea (s : State) (p : Nat) (clear : Bool) : lasting (coldArea s p clear) = lasting s := by
  simp [coldArea]

@[simp] theorem lasting_warmArea (s : State) (p : Nat) : lasting (warmArea s p) = lasting s := by
  simp [warmArea]

@[simp] theorem lasting_logicStart (s : State) (p : Nat) : lasting (logicStart s p) = lasting s := by
  simp [logicStart, lasting_foldl]

@[simp] theorem lasting_logicTasksCommit (o s : State) : lasting (logicTasksCommit o s) = lasting s := by
  unfold logicTasksCommit
  refine (lasting_foldl (fun s j => ?_) _ _).trans (lasting_foldl (fun s j => ?_) _ _)
  · cases h : freeFlow s with
    | none => simp
    | some x => simp [lasting_freeFlow h]
  · dsimp only
    cases flowOf s (taskOf s j).flow <;> simp

@[simp] theorem lasting_onlinePend (s : State) (task off size v at_ : Nat) : lasting (onlinePend s task off size v at_) = lasting s := by
  simp [onlinePend]

@[simp] theorem lasting_opLogicRestart (s : State) (p mode : Nat) (clear : Bool) :
    lasting (opLogicRestart s p mode clear).s = lasting s := by
  simp [opLogicRestart]

@[simp] theorem keeps_execLogicRestart (dt : Nat) (rq : Req) (p mode : Nat) (clear : Bool) (s : State) :
    Keeps s (execLogicRestart dt rq p mode clear s) := by
  simp [execLogicRestart]

@[simp] theorem lasting_noticeFor (s : State) (n : Nat) : lasting (noticeFor s n) = lasting s := rfl

@[simp] theorem keeps_execForceNotifyPeriodic (dt : Nat) (s : State) : Keeps s (execForceNotifyPeriodic dt s) := by
  refine keeps_of_steady dt ?_
  unfold execForceNotifyPeriodic
  generalize advance dt s = a
  simp [lasting_foldl]

@[simp] theorem lasting_opLogicReset (s : State) : lasting (opLogicReset s).s = lasting s := by
  simp [opLogicReset]

@[simp] theorem keeps_execLogicCountersReset (dt : Nat) (rq : Req) (s : State) : Keeps s (execLogicCountersReset dt rq s) := by
  simp [execLogicCountersReset]

@[simp] theorem lasting_lgOverrunClear (s : State) (p k : Nat) : lasting (lgOverrunClear s p k) = lasting s := by
  unfold lgOverrunClear
  split <;> simp

/-! ## Recorders -/

@[simp] theorem lasting_setRec (s : State) (k : Nat) (x : Recorder) : lasting (setRec s k x) = lasting s := rfl

@[simp] theorem lasting_judgeCap (s : State) : lasting (judgeCap s) = lasting s := by
  simp [judgeCap]

@[simp] theorem lasting_capKeep (s : State) (r : Nat) (dn : Bool) : lasting (capKeep s r dn) = lasting s := rfl

@[simp] theorem lasting_capDrain (s : State) : lasting (capDrain s) = lasting s := by
  simp [capDrain]

@[simp] theorem lasting_capStaged (s : State) (n : Nat) : lasting (capStaged s n) = lasting s := rfl

@[simp] theorem lasting_capRoom (f : Nat) (s : State) (k n : Nat) : lasting (capRoom f s k n).2 = lasting s := by
  induction f generalizing s with
  | zero => rfl
  | succ f ih =>
    unfold capRoom
    dsimp only
    cases (recOf s k).recs.find? fun r => !r.prot && !r.held <;> simp [apply_ite Prod.snd, ih]

@[simp] theorem lasting_recEnd (s : State) (k flags : Nat) : lasting (recEnd s k flags) = lasting s := by
  simp [recEnd]

@[simp] theorem lasting_recOverflow (s : State) (k : Nat) (wait : Bool) : lasting (recOverflow s k wait) = lasting s := by
  simp [recOverflow]

@[simp] theorem lasting_trigLost (s : State) (k : Nat) : lasting (trigLost s k) = lasting s := by
  simp [trigLost]

@[simp] theorem lasting_trigLink (s : State) (k : Nat) : lasting (trigLink s k) = lasting s := by
  simp [trigLink, lasting_foldl]

@[simp] theorem lasting_recWrite (s : State) (k : Nat) (y : Sample) : lasting (recWrite s k y) = lasting s := by
  have h := lasting_capRoom ((recOf s k).recs.length + 1) s k 1
  unfold recWrite
  split
  · simp
  · split <;> simp_all

@[simp] theorem lasting_recStart (s : State) (k r : Nat) (y : Sample) : lasting (recStart s k r y) = lasting s := by
  have h := lasting_capRoom ((recOf s k).recs.length + 1) s k ((preOf s k).length + 1)
  unfold recStart
  dsimp only
  split
  · simp
  · split <;> simp_all

@[simp] theorem lasting_recRun (s : State) (k : Nat) (y : Sample) (trig : Bool) : lasting (recRun s k y trig) = lasting s := by
  simp [recRun]

@[simp] theorem lasting_takeFault (s : State) (k r : Nat) : lasting (takeFault s k r) = lasting s := by
  unfold takeFault
  dsimp only
  split <;> simp

@[simp] theorem lasting_trendPut (s : State) (k : Nat) (y : Sample) : lasting (trendPut s k y) = lasting s := by
  simp [trendPut]

@[simp] theorem lasting_trendHalve (s : State) (b : Nat) : lasting (trendHalve s b) = lasting s := by
  simp [trendHalve, lasting_foldl]

@[simp] theorem lasting_trendSwitch (s : State) (k b : Nat) : lasting (trendSwitch s k b) = lasting s := by
  unfold trendSwitch
  dsimp only
  split <;> simp

@[simp] theorem lasting_trendEmit (s : State) (k b : Nat) : lasting (trendEmit s k b) = lasting s := by
  unfold trendEmit
  dsimp only
  split <;> simp

@[simp] theorem lasting_takeTrend (s : State) (k r : Nat) : lasting (takeTrend s k r) = lasting s := by
  unfold takeTrend
  dsimp only
  split <;> simp

@[simp] theorem lasting_recArm (s : State) (k : Nat) : lasting (recArm s k) = lasting s := by
  simp [recArm]

@[simp] theorem lasting_recCatch (c : Nat) (s : State) (k : Nat) : lasting (recCatch c s k) = lasting s := by
  simp [recCatch, lasting_foldl]

@[simp] theorem lasting_captureRow (s : State) (c : Nat) (dn : Bool) : lasting (captureRow s c dn) = lasting s := by
  simp [captureRow, lasting_foldl]

@[simp] theorem lasting_rowDone (s : State) (r : Nat) (dn : Bool) : lasting (rowDone s r dn) = lasting s := by
  simp [rowDone]

@[simp] theorem lasting_rowDown (s : State) (r : Nat) : lasting (rowDown s r) = lasting s := by
  simp [rowDown]

@[simp] theorem lasting_downAll (s : State) : lasting (downAll s) = lasting s := by
  simp [downAll, lasting_foldl]

@[simp] theorem lasting_condStop (s : State) : lasting (condStop s) = lasting s := by
  simp [condStop, lasting_foldl]

@[simp] theorem lasting_condRelease (s : State) (r : Nat) : lasting (condRelease s r) = lasting s := by
  simp [condRelease]

/-! ## Signed objects -/

@[simp] theorem lasting_verifyObj (s : State) (kind lo : Nat) (o : SignedObj) : lasting (verifyObj s kind lo o).2 = lasting s := by
  simp [verifyObj, apply_ite Prod.snd]

/-! ## What a partition carries -/

@[simp] theorem lasting_landTt (s : State) (p : Nat) (c : MigCtx) : lasting (landTt s p c) = lasting s := rfl

@[simp] theorem lasting_landTask (s : State) (p : Nat) (k : Nat) (x : Task) : lasting (landTask s p k x) = lasting s := by
  unfold landTask
  split <;> simp

@[simp] theorem lasting_landForces (s : State) (p : Nat) (c : MigCtx) : lasting (landForces s p c) = lasting s := by
  simp [landForces, lasting_foldl]

@[simp] theorem lasting_land (s : State) (p : Nat) (c : MigCtx) : lasting (land s p c) = lasting s := by
  simp [land, lasting_foldl]

/-! ## Partitions and migration -/

@[simp] theorem lasting_toSt (s : State) (p : Nat) (st : PSt) (why : Why) :
    lasting (toSt s p st why) = lasting s :=
  (live_toSt ..).lasting

@[simp] theorem lasting_setMig (s : State) (p : Nat) (m : Mig) : lasting (setMig s p m) = lasting s :=
  (live_setMig ..).lasting

@[simp] theorem lasting_sendMig (s : State) (p : Nat) (m : MigMsg) : lasting (sendMig s p m) = lasting s :=
  (live_sendMig ..).lasting

@[simp] theorem lasting_roundSend (s : State) (p : Nat) (spans : List (Nat × Nat)) : lasting (roundSend s p spans) = lasting s := by
  simp [roundSend]

@[simp] theorem lasting_hoCancel (s : State) (d : Nat) : lasting (hoCancel s d) = lasting s :=
  (aborts_hoCancel ..).lasting

@[simp] theorem lasting_migLog (s : State) (p what reason : Nat) : lasting (migLog s p what reason) = lasting s := by
  simp [migLog]

@[simp] theorem lasting_migKeyClear (s : State) : lasting (migKeyClear s) = lasting s :=
  (aborts_migKeyClear ..).lasting

@[simp] theorem lasting_migEnd (s : State) (p status : Nat) : lasting (migEnd s p status) = lasting s :=
  (aborts_migEnd ..).lasting

@[simp] theorem lasting_migAbort (s : State) (p reason : Nat) (tell : Bool) :
    lasting (migAbort s p reason tell) = lasting s :=
  (aborts_migAbort ..).lasting

@[simp] theorem lasting_ttFence (s : State) (p : Nat) : lasting (ttFence s p) = lasting s := by
  simp [ttFence, lasting_foldl]

@[simp] theorem lasting_dmaFence (s : State) (p : Nat) : lasting (dmaFence s p) = lasting s := rfl

@[simp] theorem lasting_ringFence (s : State) (p : Nat) : lasting (ringFence s p) = lasting s := rfl

@[simp] theorem lasting_imgFence (s : State) (p : Nat) : lasting (imgFence s p) = lasting s := rfl

@[simp] theorem lasting_fenceAll (s : State) (p : Nat) : lasting (fenceAll s p) = lasting s := by
  simp [fenceAll]

@[simp] theorem lasting_fenceStart (s : State) (p kind : Nat) : lasting (fenceStart s p kind) = lasting s := by
  simp [fenceStart]

@[simp] theorem lasting_diesUp (s : State) (p : Nat) : lasting (diesUp s p) = lasting s := by
  simp [diesUp, lasting_foldl]

@[simp] theorem lasting_diesGate (s : State) : lasting (diesGate s) = lasting s := by
  simp [diesGate, lasting_foldl]

@[simp] theorem lasting_zeroRegions (s : State) (p : Nat) : lasting (zeroRegions s p) = lasting s := rfl

@[simp] theorem lasting_runPart (s : State) (p : Nat) : lasting (runPart s p) = lasting s := by
  simp [runPart]

@[simp] theorem lasting_runPlaced (s : State) : lasting (runPlaced s) = lasting s := by
  simp [runPlaced, lasting_foldl]

@[simp] theorem lasting_startPart (s : State) (p : Nat) : lasting (startPart s p) = lasting s := by
  simp [startPart]

@[simp] theorem lasting_opPartStart (s : State) (p : Nat) : lasting (opPartStart s p).s = lasting s := by
  simp [opPartStart]

@[simp] theorem keeps_execPartStart (dt : Nat) (rq : Req) (p : Nat) (s : State) : Keeps s (execPartStart dt rq p s) := by
  simp [execPartStart]

@[simp] theorem keeps_execPartImageRead (dt : Nat) (s : State) : Keeps s (execPartImageRead dt s) := by
  refine keeps_of_steady dt ?_
  unfold execPartImageRead
  generalize advance dt s = a
  dsimp only
  split <;> simp

@[simp] theorem lasting_faultPart (s : State) (p cause core detail : Nat) : lasting (faultPart s p cause core detail) = lasting s := by
  unfold faultPart
  dsimp only
  split
  · simp
  · split <;> simp

@[simp] theorem keeps_execPartFault (dt p cause core detail : Nat) (s : State) : Keeps s (execPartFault dt p cause core detail s) := by
  refine keeps_of_steady dt ?_
  unfold execPartFault
  generalize advance dt s = a
  simp

@[simp] theorem lasting_pwAbort (s : State) (p core : Nat) (w : Nat) : lasting (pwAbort s p core w) = lasting s := by
  simp [pwAbort]

@[simp] theorem keeps_execPwAbortWrite (dt p core : Nat) (w : Word) (s : State) : Keeps s (execPwAbortWrite dt p core w s) := by
  refine keeps_of_steady dt ?_
  unfold execPwAbortWrite
  generalize advance dt s = a
  dsimp only
  split <;> simp

@[simp] theorem keeps_execBudgetStop (dt core : Nat) (s : State) : Keeps s (execBudgetStop dt core s) := by
  refine keeps_of_steady dt ?_
  unfold execBudgetStop
  generalize advance dt s = a
  dsimp only
  split <;> simp

@[simp] theorem keeps_execPartImageVerified (dt : Nat) (obj : SignedObj) (s : State) : Keeps s (execPartImageVerified dt obj s) := by
  refine keeps_of_steady dt ?_
  unfold execPartImageVerified
  generalize advance dt s = a
  dsimp only
  split
  · simp
  · simp [apply_ite Prod.snd]

@[simp] theorem lasting_opPartStop (s : State) (p : Nat) : lasting (opPartStop s p).s = lasting s := by
  unfold opPartStop
  split
  · dsimp only
    split <;> simp
  · dsimp only
    split <;> simp

@[simp] theorem keeps_execPartStop (dt : Nat) (rq : Req) (p : Nat) (s : State) : Keeps s (execPartStop dt rq p s) := by
  simp [execPartStop]

@[simp] theorem lasting_resetPart (s : State) (p : Nat) (why : Why) : lasting (resetPart s p why) = lasting s := by
  simp [resetPart]

@[simp] theorem lasting_resetNow (s : State) (p : Nat) (why : Why) : lasting (resetNow s p why) = lasting s := by
  unfold resetNow
  split <;> simp

@[simp] theorem lasting_opPartReset (s : State) (p : Nat) : lasting (opPartReset s p).s = lasting s := by
  unfold opPartReset
  split
  · dsimp only
    split <;> simp
  · dsimp only
    split <;> simp

@[simp] theorem keeps_execPartReset (dt : Nat) (rq : Req) (p : Nat) (s : State) : Keeps s (execPartReset dt rq p s) := by
  simp [execPartReset]

@[simp] theorem lasting_faultAction (s : State) (p : Nat) : lasting (faultAction s p) = lasting s := by
  simp [faultAction]

@[simp] theorem keeps_execFenceComplete (dt p : Nat) (s : State) : Keeps s (execFenceComplete dt p s) := by
  refine keeps_of_steady dt ?_
  unfold execFenceComplete
  generalize advance dt s = a
  dsimp only
  split
  · simp
  · split <;> simp

@[simp] theorem keeps_execPartitionDrained (dt p : Nat) (s : State) : Keeps s (execPartitionDrained dt p s) := by
  simp [execPartitionDrained]

@[simp] theorem lasting_restartDue (s : State) (p : Nat) : lasting (restartDue s p) = lasting s := by
  simp [restartDue]

@[simp] theorem keeps_execRestartDelayExpiry (dt p : Nat) (s : State) : Keeps s (execRestartDelayExpiry dt p s) := by
  simp [execRestartDelayExpiry]

@[simp] theorem lasting_opPartImageApply (s : State) (rq : Req) (p : Nat) : lasting (opPartImageApply s rq p).s = lasting s := by
  simp [opPartImageApply]

@[simp] theorem keeps_execPartImageApply (dt : Nat) (rq : Req) (p : Nat) (s : State) : Keeps s (execPartImageApply dt rq p s) := by
  simp [execPartImageApply]

@[simp] theorem lasting_imageJudged (s : State) (p sess reqId : Nat) (obj : SignedObj) :
    lasting (imageJudged s p sess reqId obj) = lasting s := by
  simp [imageJudged]

@[simp] theorem lasting_zeroAnswer (s : State) : lasting (zeroAnswer s) = lasting s := by
  simp [zeroAnswer, lasting_foldl]

@[simp] theorem keeps_execPartitionZeroed (dt p : Nat) (s : State) : Keeps s (execPartitionZeroed dt p s) := by
  refine keeps_of_steady dt ?_
  unfold execPartitionZeroed
  generalize advance dt s = a
  dsimp only
  split <;> simp

@[simp] theorem lasting_opMigPrepare (s : State) (p : Nat) : lasting (opMigPrepare s p).s = lasting s := by
  simp [opMigPrepare]

@[simp] theorem keeps_execMigPrepare (dt : Nat) (rq : Req) (p : Nat) (s : State) : Keeps s (execMigPrepare dt rq p s) := by
  simp [execMigPrepare]

@[simp] theorem lasting_opMigStart (s : State) (rq : Req) (p path peer dest : Nat) (force : Bool) :
    lasting (opMigStart s rq p path peer dest force).s = lasting s := by
  simp [opMigStart]

@[simp] theorem keeps_execMigStart (dt : Nat) (rq : Req) (p path peer dest : Nat) (force : Bool) (s : State) :
    Keeps s (execMigStart dt rq p path peer dest force s) := by
  simp [execMigStart]

@[simp] theorem lasting_migKeyed (s : State) (first : Bool) : lasting (migKeyed s first) = lasting s := by
  unfold migKeyed
  split <;> simp

@[simp] theorem lasting_migAgreed (s : State) (p : Nat) (ok : Bool) : lasting (migAgreed s p ok) = lasting s := by
  simp [migAgreed]

@[simp] theorem lasting_migAsked (s : State) (p : Nat) (m : Mig) (e : MigEph) : lasting (migAsked s p m e) = lasting s := by
  unfold migAsked
  split
  · rw [lasting_vaultPush]
    rfl
  · rfl

@[simp] theorem lasting_ctxSize (s : State) (p : Nat) : lasting (ctxSize s p).2 = lasting s := by
  simp [ctxSize]

@[simp] theorem lasting_migSend (s : State) (p : Nat) : lasting (migSend s p) = lasting s := by
  simp [migSend]

@[simp] theorem lasting_migHandover (s : State) (p row : Nat) : lasting (migHandover s p row) = lasting s := by
  simp [migHandover]

@[simp] theorem lasting_migFreeze (s : State) (p r : Nat) : lasting (migFreeze s p r) = lasting s := by
  simp [migFreeze]

@[simp] theorem lasting_migResume (s : State) (p r : Nat) : lasting (migResume s p r) = lasting s := by
  simp [migResume]

@[simp] theorem lasting_migRow1 (s : State) (r p : Nat) : lasting (migRow1 s r p) = lasting s := by
  unfold migRow1
  split
  · dsimp only
    split
    · simp
    · split <;> simp
  · dsimp only
    split
    · simp
    · split <;> simp

@[simp] theorem lasting_migRow (s : State) (r : Nat) : lasting (migRow s r) = lasting s := by
  simp [migRow, lasting_foldl]

@[simp] theorem lasting_importHeld (s : State) (q : Nat) : lasting (importHeld s q) = lasting s := by
  simp [importHeld]

@[simp] theorem lasting_importRun (s : State) (p : Nat) : lasting (importRun s p) = lasting s := by
  simp [importRun, lasting_foldl]

@[simp] theorem lasting_coresMark (s : State) (p : Nat) (l : List Nat) : lasting (coresMark s p l) = lasting s := rfl

@[simp] theorem keeps_execMigRoundEnd (dt p round : Nat) (marked : List Nat) (s : State) :
    Keeps s (execMigRoundEnd dt p round marked s) := by
  simp [execMigRoundEnd]

@[simp] theorem keeps_execMigRestoreComplete (dt p : Nat) (s : State) : Keeps s (execMigRestoreComplete dt p s) := by
  simp [execMigRestoreComplete]

@[simp] theorem lasting_migStopAll (s : State) (reason : Nat) : lasting (migStopAll s reason) = lasting s := by
  simp [migStopAll, lasting_foldl]

@[simp] theorem lasting_migFail (s : State) : lasting (migFail s) = lasting s := by
  simp [migFail, lasting_foldl]

@[simp] theorem lasting_opMigAbort (s : State) (p : Nat) : lasting (opMigAbort s p).s = lasting s := by
  simp [opMigAbort]

@[simp] theorem keeps_execMigAbort (dt : Nat) (rq : Req) (p : Nat) (s : State) : Keeps s (execMigAbort dt rq p s) := by
  simp [execMigAbort]

@[simp] theorem keeps_execMigPathFail (dt p : Nat) (s : State) : Keeps s (execMigPathFail dt p s) := by
  simp [execMigPathFail]

@[simp] theorem lasting_imageTold (s : State) (p : Nat) (d : List Byte) : lasting (imageTold s p d) = lasting s := by
  simp [imageTold]

@[simp] theorem lasting_migRx (s : State) (path : Nat) (m : MigMsg) (tagOk : Bool) : lasting (migRx s path m tagOk) = lasting s := by
  unfold migRx
  split
  case h_1 p fit eph =>
    split
    case h_1 q _ =>
      dsimp only
      rw [lasting_ite, lasting_ite, lasting_ite, lasting_roundSend, lasting_migKeyed, lasting_migAbort, lasting_migAbort]
      have h : lasting { setMig s q { (partOf s q).mig with hand := false, st := 2 } with vault := { s.vault with migPeer := some eph } } =
          lasting s := rfl
      simp only [h, ite_self]
    case h_2 => simp
  case h_5 p => split <;> simp
  case h_8 p reason =>
    split
    · rfl
    · split <;> simp
  all_goals simp

@[simp] theorem keeps_execDiePowerUpDone (dt die : Nat) (s : State) : Keeps s (execDiePowerUpDone dt die s) := by
  simp [execDiePowerUpDone]

@[simp] theorem lasting_dieFault (s : State) (die : Nat) : lasting (dieFault s die) = lasting s := by
  simp [dieFault, lasting_foldl]

@[simp] theorem keeps_execD2dLinkFail (dt die link : Nat) (s : State) : Keeps s (execD2dLinkFail dt die link s) := by
  refine keeps_of_steady dt ?_
  unfold execD2dLinkFail
  generalize advance dt s = a
  simp

@[simp] theorem lasting_ttDoneOp (s : State) (core result : Nat) (outputs : List (List Nat)) :
    lasting (ttDoneOp s core result outputs) = lasting s := by
  unfold ttDoneOp
  split
  · simp
  · split
    · simp
    · split <;> simp

@[simp] theorem keeps_execTtDone (dt core : Nat) (result : Word) (outputs : List (List Nat)) (s : State) :
    Keeps s (execTtDone dt core result outputs s) := by
  simp [execTtDone]

@[simp] theorem lasting_logicFault (s : State) : lasting (logicFault s) = lasting s := by
  simp [logicFault, lasting_foldl]

@[simp] theorem keeps_execLogicUnitFault (dt : Nat) (s : State) : Keeps s (execLogicUnitFault dt s) := by
  simp [execLogicUnitFault]

/-! ## The register window -/

@[simp] theorem lasting_snapLatch (s : State) (p core off : Nat) : lasting (snapLatch s p core off) = lasting s := by
  unfold snapLatch
  split <;> simp

@[simp] theorem keeps_execSnapshotLoRead (dt p core offset : Nat) (s : State) : Keeps s (execSnapshotLoRead dt p core offset s) := by
  simp [execSnapshotLoRead]

@[simp] theorem keeps_execCfMissedRead (dt p _core : Nat) (s : State) : Keeps s (execCfMissedRead dt p _core s) := by
  simp [execCfMissedRead]

@[simp] theorem keeps_execPfDeniedRead (dt p _core : Nat) (s : State) : Keeps s (execPfDeniedRead dt p _core s) := by
  simp [execPfDeniedRead]

@[simp] theorem keeps_execLgOverrunRead (dt p _core slot : Nat) (s : State) : Keeps s (execLgOverrunRead dt p _core slot s) := by
  simp [execLgOverrunRead]

@[simp] theorem lasting_prodReg (s : State) (p core q v : Nat) : lasting (prodReg s p core q v) = lasting s := by
  simp [prodReg]

@[simp] theorem lasting_portReg (s : State) (core i : Nat) (w : Word) : lasting (portReg s core i w) = lasting s := by
  simp [portReg]

@[simp] theorem lasting_ttWrite (s : State) (p core off : Nat) (w : Word) : lasting (ttWrite s p core off w) = lasting s := by
  unfold ttWrite
  split
  · simp
  · split
    · simp
    · split <;> simp

@[simp] theorem lasting_phWrite (s : State) (ep core off : Nat) (w : Word) : lasting (phWrite s ep core off w) = lasting s := by
  unfold phWrite
  split
  · simp
  · split
    · simp
    · split <;> split <;> simp

@[simp] theorem lasting_winWrite (s : State) (p core off : Nat) (w : Word) : lasting (winWrite s p core off w) = lasting s := by
  simp [winWrite]

end Sys2Proof.Machine
end

section
/-! PROOF. The inter-unit link, reception, the recorders, the calendar and the logbook leave what lasts. -/

set_option Elab.async false

open Sys2Proof Sys2Proof.Machine

namespace Sys2Proof.Machine

/-! ## The inter-unit link -/

@[simp] theorem lasting_commitRefused (s : State) (status : Nat) : lasting (commitRefused s status) = lasting s := by
  unfold commitRefused
  dsimp only
  split <;> simp

@[simp] theorem lasting_mirrorRefused (s : State) (m : Mirrored) (status : Nat) : lasting (mirrorRefused s m status) = lasting s := by
  unfold mirrorRefused
  split <;> simp

@[simp] theorem lasting_mirrorWait (s : State) (m : Mirrored) (t : Int) : lasting (mirrorWait s m t) = lasting s := rfl

@[simp] theorem lasting_mirrorDrop (s : State) : lasting (mirrorDrop s) = lasting s := by
  simp [mirrorDrop, lasting_foldl]

@[simp] theorem lasting_mirrorSend (s : State) (n seq idx : Nat) (op : MirrorOp) : lasting (mirrorSend s n seq idx op) = lasting s := by
  simp [mirrorSend]

@[simp] theorem lasting_mirrorBack (s : State) : lasting (mirrorBack s) = lasting s := by
  simp [mirrorBack, lasting_foldl]

@[simp] theorem lasting_importStop (s : State) : lasting (importStop s) = lasting s := by
  simp [importStop, lasting_foldl]

@[simp] theorem lasting_linkGone (s : State) : lasting (linkGone s) = lasting s := by
  simp [linkGone, lasting_foldl]

@[simp] theorem lasting_judgeIul (s : State) : lasting (judgeIul s) = lasting s := by
  simp [judgeIul]

@[simp] theorem lasting_laneTrain (s : State) (n : Nat) : lasting (laneTrain s n) = lasting s := by
  simp [laneTrain]

@[simp] theorem keeps_execLaneTrainSwitch (dt lane : Nat) (s : State) : Keeps s (execLaneTrainSwitch dt lane s) := by
  simp [execLaneTrainSwitch]

@[simp] theorem lasting_linkBack (s : State) : lasting (linkBack s) = lasting s := by
  simp [linkBack]

@[simp] theorem lasting_laneRise (s : State) (n : Nat) : lasting (laneRise s n) = lasting s := by
  simp [laneRise]

@[simp] theorem keeps_execLaneUp (dt lane : Nat) (s : State) : Keeps s (execLaneUp dt lane s) := by
  simp [execLaneUp]

@[simp] theorem lasting_laneLost (s : State) (n : Nat) (st : Nat) : lasting (laneLost s n st) = lasting s := by
  simp [laneLost]

@[simp] theorem lasting_settleWith (s : State) (h : PairHello) : lasting (settleWith s h) = lasting s := by
  simp [settleWith, lasting_foldl]

@[simp] theorem lasting_trySettle (s : State) : lasting (trySettle s) = lasting s := by
  unfold trySettle
  split
  · simp
  · split <;> simp

@[simp] theorem lasting_helloSend (s : State) : lasting (helloSend s) = lasting s := by
  simp [helloSend]

@[simp] theorem keeps_execPairHelloTx (dt : Nat) (s : State) : Keeps s (execPairHelloTx dt s) := by
  simp [execPairHelloTx]

@[simp] theorem keeps_execPairHello (dt : Nat) (h : PairHello) (s : State) : Keeps s (execPairHello dt h s) := by
  refine keeps_of_steady dt ?_
  unfold execPairHello
  generalize advance dt s = a
  simp

@[simp] theorem lasting_lanesDown (s : State) : lasting (lanesDown s) = lasting s := by
  simp [lanesDown]

@[simp] theorem lasting_pairLeave (s : State) : lasting (pairLeave s) = lasting s := by
  simp [pairLeave, lasting_foldl]

@[simp] theorem lasting_pairRetry (s : State) : lasting (pairRetry s) = lasting s := by
  simp [pairRetry]

@[simp] theorem lasting_putPairEnable (s : State) (on : Bool) : lasting (putPairEnable s on).s = lasting s := by
  simp [putPairEnable]

@[simp] theorem lasting_hookPairEnable (s : State) (_n _ob _sub _row : Nat) (v : Val) :
    lasting (hookPairEnable s _n _ob _sub _row v).s = lasting s := by
  simp [hookPairEnable]

@[simp] theorem keeps_execPairEnableWrite (dt : Nat) (rq : Req) (on : Bool) (s : State) : Keeps s (execPairEnableWrite dt rq on s) := by
  simp [execPairEnableWrite]

@[simp] theorem keeps_execPresence (dt row : Nat) (present : List Nat) (digest : List Byte) (s : State) :
    Keeps s (execPresence dt row present digest s) := by
  simp [execPresence]

@[simp] theorem keeps_execSeats (dt row : Nat) (seats : List SeatCopy) (s : State) : Keeps s (execSeats dt row seats s) := by
  simp [execSeats]

@[simp] theorem keeps_execTags (dt row : Nat) (tags : List TagRec) (s : State) : Keeps s (execTags dt row tags s) := by
  simp [execTags]

@[simp] theorem keeps_execAgree (dt row : Nat) (final : List Byte) (s : State) : Keeps s (execAgree dt row final s) := by
  simp [execAgree]

@[simp] theorem keeps_execEqLost (dt row : Nat) (s : State) : Keeps s (execEqLost dt row s) := by
  simp [execEqLost]

@[simp] theorem keeps_execEqDeadlineExpiry (dt : Nat) (s : State) : Keeps s (execEqDeadlineExpiry dt s) := by
  simp [execEqDeadlineExpiry, lasting_foldl]

@[simp] theorem lasting_judgeIn (s : State) : lasting (judgeIn s) = lasting s := by
  simp [judgeIn]

@[simp] theorem keeps_execDigest (dt p row digest : Nat) (s : State) : Keeps s (execDigest dt p row digest s) := by
  simp [execDigest]

@[simp] theorem keeps_execDigestWaitExpiry (dt p row : Nat) (s : State) : Keeps s (execDigestWaitExpiry dt p row s) := by
  simp [execDigestWaitExpiry]

@[simp] theorem keeps_execAlign (dt row : Nat) (recs : List AlignRec) (s : State) : Keeps s (execAlign dt row recs s) := by
  refine keeps_of_steady dt ?_
  unfold execAlign
  generalize advance dt s = a
  simp

@[simp] theorem keeps_execImportCheckpoint (dt p : Nat) (s : State) : Keeps s (execImportCheckpoint dt p s) := by
  simp [execImportCheckpoint]

@[simp] theorem lasting_selfState (s : State) : lasting (selfState s) = lasting s := by
  simp [selfState]

@[simp] theorem keeps_execSelftestCheck (dt bit : Nat) (pass : Bool) (s : State) : Keeps s (execSelftestCheck dt bit pass s) := by
  simp [execSelftestCheck]

@[simp] theorem keeps_execReportTx (dt : Nat) (s : State) : Keeps s (execReportTx dt s) := by
  simp [execReportTx]

@[simp] theorem lasting_partnerStops (s : State) : lasting (partnerStops s) = lasting s := by
  simp [partnerStops, lasting_foldl]

@[simp] theorem keeps_execReport (dt : Nat) (card : List Byte) (s : State) : Keeps s (execReport dt card s) := by
  refine keeps_of_steady dt ?_
  unfold execReport
  generalize advance dt s = a
  simp

@[simp] theorem keeps_execIulDown (dt : Nat) (s : State) : Keeps s (execIulDown dt s) := by
  simp [execIulDown]

@[simp] theorem keeps_execTimeXcheck (dt : Nat) (offset : Int) (s : State) : Keeps s (execTimeXcheck dt offset s) := by
  refine keeps_of_steady dt ?_
  unfold execTimeXcheck
  generalize advance dt s = a
  simp

@[simp] theorem lasting_opPairReset (s : State) : lasting (opPairReset s).s = lasting s := by
  simp [opPairReset]

@[simp] theorem keeps_execPairCountersReset (dt : Nat) (rq : Req) (s : State) : Keeps s (execPairCountersReset dt rq s) := by
  simp [execPairCountersReset]

/-! ## Rows -/

@[simp] theorem lasting_adopt1 (r : Nat) (s : State) (a : AlignRec) : lasting (adopt1 r s a) = lasting s := by
  simp [adopt1]

@[simp] theorem lasting_alignAdopt (s : State) (r : Nat) : lasting (alignAdopt s r) = lasting s := by
  unfold alignAdopt
  split
  · simp
  · simp [lasting_foldl]

@[simp] theorem lasting_alignLead (s : State) (r : Nat) : lasting (alignLead s r) = lasting s := by
  unfold alignLead
  split <;> simp

@[simp] theorem lasting_nameReset (s : State) (r : Nat) : lasting (nameReset s r) = lasting s := by
  simp [nameReset]

@[simp] theorem lasting_reBegin (s : State) (r p : Nat) : lasting (reBegin s r p) = lasting s := by
  simp [reBegin]

@[simp] theorem lasting_importAsk (s : State) (p : Nat) : lasting (importAsk s p) = lasting s := by
  simp [importAsk]

@[simp] theorem lasting_reStep (s : State) (r p : Nat) : lasting (reStep s r p) = lasting s := by
  unfold reStep
  split <;> simp

@[simp] theorem lasting_importRow (s : State) (r : Nat) : lasting (importRow s r) = lasting s := by
  simp [importRow, lasting_foldl]

@[simp] theorem lasting_reentryRow (s : State) (r : Nat) (uneq : Bool) : lasting (reentryRow s r uneq) = lasting s := by
  unfold reentryRow
  split
  · rfl
  · extract_lets +onlyGivenNames u
    have hu : lasting u = lasting s := by simp [u]
    rw [← hu]
    clear_value u
    split
    · split <;> simp
    · split
      · rfl
      · dsimp only
        split <;> simp
    · dsimp only
      split
      · simp
      · split <;> simp
    · rfl

@[simp] theorem lasting_mirrorTake (s : State) (op : MirrorOp) : lasting (mirrorTake s op) = lasting s := by
  unfold mirrorTake
  split <;> simp

@[simp] theorem lasting_bundleStage (s : State) (n seq svn : Nat) (l : List (Nat × Val)) :
    lasting (bundleStage s n seq svn l) = lasting s := by
  simp [bundleStage, lasting_foldl]

@[simp] theorem lasting_bundleTake (s : State) (m : Mirrored) (l : List (Nat × Val)) : lasting (bundleTake s m l) = lasting s := by
  simp [bundleTake]

@[simp] theorem lasting_mirrorRow (s : State) (r : Nat) : lasting (mirrorRow s r) = lasting s := by
  unfold mirrorRow
  refine (lasting_foldl (fun s m => ?_) _ _).trans (by simp)
  split <;> simp

@[simp] theorem lasting_rowKept (s : State) (r : Nat) : lasting (rowKept s r) = lasting s := by
  simp [rowKept]

@[simp] theorem lasting_releaseRow (s : State) (r : Nat) : lasting (releaseRow s r) = lasting s := by
  simp [releaseRow]

@[simp] theorem keeps_execRowRelease (dt : Nat) (s : State) : Keeps s (execRowRelease dt s) := by
  refine keeps_of_steady dt ?_
  unfold execRowRelease
  generalize advance dt s = a
  dsimp only
  split <;> simp

/-! ## Links -/

@[simp] theorem lasting_portDown (s : State) (n : Nat) : lasting (portDown s n) = lasting s := by
  simp [portDown]

@[simp] theorem keeps_execLinkDown (dt port : Nat) (s : State) : Keeps s (execLinkDown dt port s) := by
  simp [execLinkDown]

@[simp] theorem keeps_execLinkUp (dt port speed partner : Nat) (s : State) : Keeps s (execLinkUp dt port speed partner s) := by
  simp [execLinkUp]

@[simp] theorem keeps_execCagePowerOn (dt cage : Nat) (s : State) : Keeps s (execCagePowerOn dt cage s) := by
  simp [execCagePowerOn]

@[simp] theorem lasting_cageOff (s : State) (n : Nat) (c : Cage) : lasting (cageOff s n c) = lasting s := by
  simp [cageOff]

@[simp] theorem keeps_execTransceiverRemove (dt cage : Nat) (s : State) : Keeps s (execTransceiverRemove dt cage s) := by
  simp [execTransceiverRemove]

@[simp] theorem keeps_execCageOvercurrent (dt cage : Nat) (s : State) : Keeps s (execCageOvercurrent dt cage s) := by
  simp [execCageOvercurrent]

@[simp] theorem lasting_opCageRestore (s : State) (n : Nat) : lasting (opCageRestore s n).s = lasting s := by
  simp [opCageRestore]

@[simp] theorem keeps_execCageRestore (dt : Nat) (rq : Req) (cage : Nat) (s : State) : Keeps s (execCageRestore dt rq cage s) := by
  simp [execCageRestore]

@[simp] theorem lasting_putAdmin (s : State) (n : Nat) (v : Val) : lasting (putAdmin s n v).s = lasting s := by
  simp [putAdmin]

@[simp] theorem lasting_putMode (s : State) (n : Nat) (v : Val) : lasting (putMode s n v).s = lasting s := by
  simp [putMode]

@[simp] theorem keeps_execPortAdminWrite (dt : Nat) (rq : Req) (port : Nat) (on : Bool) (s : State) :
    Keeps s (execPortAdminWrite dt rq port on s) := by
  simp [execPortAdminWrite]

@[simp] theorem keeps_execPortModeWrite (dt : Nat) (rq : Req) (port mode : Nat) (s : State) :
    Keeps s (execPortModeWrite dt rq port mode s) := by
  simp [execPortModeWrite]

@[simp] theorem lasting_groupMode (s : State) (g : Nat) : lasting (groupMode s g) = lasting s := by
  simp [groupMode, lasting_foldl]

@[simp] theorem lasting_laneDone (s : State) (n : Nat) : lasting (laneDone s n) = lasting s := by
  unfold laneDone
  dsimp only
  split <;> simp

@[simp] theorem keeps_execTxFrameDone (dt port : Nat) (s : State) : Keeps s (execTxFrameDone dt port s) := by
  refine keeps_of_steady dt ?_
  unfold execTxFrameDone
  generalize advance dt s = a
  split
  · simp
  · dsimp only
    split <;> simp

/-! ## Reception -/

@[simp] theorem lasting_pauseRx (s : State) (n quanta : Nat) : lasting (pauseRx s n quanta) = lasting s := by
  simp [pauseRx]

@[simp] theorem lasting_putNode (s : State) (k : Nat) (e : Node) : lasting (putNode s k e) = lasting s := rfl

@[simp] theorem lasting_unlearned (s : State) (g : Nat) : lasting (unlearned s g) = lasting s := by
  unfold unlearned
  dsimp only
  split <;> simp

@[simp] theorem lasting_dupJudge (s : State) (n src q typ : Nat) : lasting (dupJudge s n src q typ).2 = lasting s := by
  unfold dupJudge
  split
  · dsimp only
    split
    · simp
    · simp [apply_ite Prod.snd]
  · dsimp only
    split
    · simp
    · simp [apply_ite Prod.snd]

@[simp] theorem lasting_nodeTouch (s : State) (n src : Nat) : lasting (nodeTouch s n src) = lasting s := by
  unfold nodeTouch
  split <;> simp

@[simp] theorem lasting_nodeMeet (s : State) (n src : Nat) : lasting (nodeMeet s n src) = lasting s := by
  simp [nodeMeet]

@[simp] theorem lasting_superRx (s : State) (n src : Nat) : lasting (superRx s n src) = lasting s := by
  unfold superRx
  dsimp only
  split <;> simp

@[simp] theorem lasting_rxFill (s : State) (q n steer vid pcp flags len : Nat) (bytes : List Byte) (pl : List (Nat × RxPost × Nat)) :
    lasting (rxFill s q n steer vid pcp flags len bytes pl) = lasting s := by
  simp only [rxFill, lasting_ringDone, lasting_setRing]
  exact lasting_foldl_fst (fun p x => by simp) _ (s, 0, bytes)

@[simp] theorem lasting_steerTo (s : State) (n i vid pcp : Nat) (f : Sys2Proof.Frame) (rct hsr wrong : Bool) :
    lasting (steerTo s n i vid pcp f rct hsr wrong) = lasting s := by
  unfold steerTo
  dsimp only
  split
  · simp
  · split <;> simp

theorem lasting_migTakes {s t : State} {f : Sys2Proof.Frame} (h : migTakes s f = some t) : lasting t = lasting s := by
  unfold migTakes at h
  split at h
  · simp at h
  · split at h
    · cases h
      rfl
    · split at h
      · dsimp only at h
        split at h <;> cases h
        simp
      · simp at h

theorem lasting_consume {s t : State} {n vid : Nat} {f : Sys2Proof.Frame} (h : consume s n vid f = some t) : lasting t = lasting s := by
  unfold consume at h
  dsimp only at h
  split at h
  case h_6 =>
    split at h
    · cases h
      split <;> simp
    · simp only [Option.ite_none_right_eq_some, Option.some.injEq] at h
      obtain ⟨-, rfl⟩ := h
      split
      case h_1 => simp
      case h_2 u hu => split <;> simp [lasting_migTakes hu]
  case h_7 => simp at h
  all_goals
    simp only [Option.ite_none_right_eq_some, Option.some.injEq] at h
    obtain ⟨-, rfl⟩ := h
    split <;> simp

@[simp] theorem lasting_ipAnswer (s : State) (n etype dst : Nat) : lasting (ipAnswer s n etype dst) = lasting s := by
  simp [ipAnswer]

theorem lasting_platform {s t : State} {n : Nat} {f : Sys2Proof.Frame} (h : platform s n f = some t) : lasting t = lasting s := by
  unfold platform at h
  split at h
  · simp at h
  · dsimp only at h
    split at h
    · cases h
      simp
    · cases h
      rfl
    · split at h <;> cases h
      simp
    · simp at h

@[simp] theorem lasting_deliver (s : State) (n : Nat) (f : Sys2Proof.Frame) (rct hsr wrong : Bool) :
    lasting (deliver s n f rct hsr wrong) = lasting s := by
  unfold deliver
  dsimp only
  split
  case h_1 t h => exact lasting_consume h
  case h_2 =>
    split
    · simp
    · split
      case h_1 t h => exact lasting_platform h
      case h_2 => simp

@[simp] theorem lasting_prpStep (s : State) (n : Nat) (f : Sys2Proof.Frame) : lasting (prpStep s n f) = lasting s := by
  unfold prpStep
  split
  · simp
  · split <;> simp

@[simp] theorem lasting_localSteps (s : State) (n : Nat) (f : Sys2Proof.Frame) (hsr : Bool) :
    lasting (localSteps s n f hsr) = lasting s := by
  simp [localSteps]

@[simp] theorem lasting_hsrForward (s : State) (n : Nat) (f : Sys2Proof.Frame) : lasting (hsrForward s n f) = lasting s := by
  simp [hsrForward]

@[simp] theorem lasting_hsrStep (s : State) (n q : Nat) (f : Sys2Proof.Frame) : lasting (hsrStep s n q f) = lasting s := by
  simp [hsrStep]

@[simp] theorem lasting_rxSteps (s : State) (n : Nat) (f : Sys2Proof.Frame) : lasting (rxSteps s n f) = lasting s := by
  unfold rxSteps
  split
  · simp
  · split
    · simp
    · split
      · split
        · split
          · simp
          · split <;> simp
        · dsimp only
          split <;> simp
      · split
        · simp [*]
        · dsimp only
          split <;> simp

@[simp] theorem keeps_execRxFrame (dt port : Nat) (f : Sys2Proof.Frame) (s : State) : Keeps s (execRxFrame dt port f s) := by
  simp [execRxFrame]

/-! ## The cross-check -/

@[simp] theorem lasting_withStage (s : State) (l : List (Nat × Val)) : lasting (withStage s l) = lasting s := by
  simp [withStage, lasting_foldl]

/-! ## Captures -/

@[simp] theorem keeps_execConditioningComplete (dt : Nat) (s : State) : Keeps s (execConditioningComplete dt s) := by
  refine keeps_of_steady dt ?_
  unfold execConditioningComplete
  generalize advance dt s = a
  dsimp only
  split <;> simp

@[simp] theorem keeps_execFilterKat (dt array : Nat) (idle pass : Bool) (s : State) : Keeps s (execFilterKat dt array idle pass s) := by
  refine keeps_of_steady dt ?_
  unfold execFilterKat
  generalize advance dt s = a
  simp

@[simp] theorem keeps_execPickupEntry (dt ring : Nat) (s : State) : Keeps s (execPickupEntry dt ring s) := by
  refine keeps_of_steady dt ?_
  unfold execPickupEntry
  generalize advance dt s = a
  dsimp only
  split
  · simp
  · split <;> simp

@[simp] theorem lasting_opTrigger (s : State) (k : Nat) : lasting (opTrigger s k).s = lasting s := by
  simp [opTrigger]

@[simp] theorem keeps_execCaptureTrigger (dt : Nat) (rq : Req) (k : Nat) (s : State) : Keeps s (execCaptureTrigger dt rq k s) := by
  simp [execCaptureTrigger]

@[simp] theorem keeps_execCaptureRearm (dt k : Nat) (s : State) : Keeps s (execCaptureRearm dt k s) := by
  refine keeps_of_steady dt ?_
  unfold execCaptureRearm
  generalize advance dt s = a
  simp

@[simp] theorem keeps_execTrendRateRestore (dt : Nat) (s : State) : Keeps s (execTrendRateRestore dt s) := by
  refine keeps_of_steady dt ?_
  unfold execTrendRateRestore
  generalize advance dt s = a
  dsimp only
  split
  · simp
  · simp [lasting_foldl]

@[simp] theorem lasting_recSet (s : State) (k n : Nat) (f : CapRec → CapRec) : lasting (recSet s k n f) = lasting s := by
  simp [recSet]

@[simp] theorem lasting_opProtect (s : State) (k n : Nat) : lasting (opProtect s k n).s = lasting s := by
  simp [opProtect]

@[simp] theorem keeps_execRecordProtect (dt : Nat) (rq : Req) (k number : Nat) (s : State) :
    Keeps s (execRecordProtect dt rq k number s) := by
  simp [execRecordProtect]

@[simp] theorem lasting_recRelease (s : State) (k n : Nat) : lasting (recRelease s k n) = lasting s := by
  simp [recRelease]

@[simp] theorem lasting_opRelease (s : State) (k n : Nat) : lasting (opRelease s k n).s = lasting s := by
  unfold opRelease
  split <;> simp

@[simp] theorem keeps_execRecordRelease (dt : Nat) (rq : Req) (k number : Nat) (s : State) :
    Keeps s (execRecordRelease dt rq k number s) := by
  simp [execRecordRelease]

@[simp] theorem lasting_opExport (s : State) (rq : Req) (k n : Nat) (t0 t1 : Int) : lasting (opExport s rq k n t0 t1).s = lasting s := by
  simp [opExport]

@[simp] theorem keeps_execCaptureExport (dt : Nat) (rq : Req) (k number : Nat) (t0 t1 : Int) (s : State) :
    Keeps s (execCaptureExport dt rq k number t0 t1 s) := by
  simp [execCaptureExport]

@[simp] theorem keeps_execCaptureExportDone (dt : Nat) (s : State) : Keeps s (execCaptureExportDone dt s) := by
  refine keeps_of_steady dt ?_
  unfold execCaptureExportDone
  generalize advance dt s = a
  dsimp only
  split <;> simp

@[simp] theorem lasting_opCaptureReset (s : State) : lasting (opCaptureReset s).s = lasting s := by
  simp [opCaptureReset]

@[simp] theorem keeps_execCaptureCountersReset (dt : Nat) (rq : Req) (s : State) : Keeps s (execCaptureCountersReset dt rq s) := by
  simp [execCaptureCountersReset]

@[simp] theorem lasting_capStop (s : State) : lasting (capStop s) = lasting s := by
  simp [capStop, lasting_foldl]

@[simp] theorem lasting_capCommit (o s : State) : lasting (capCommit o s) = lasting s := by
  simp [capCommit, lasting_foldl]

/-! ## The clock of the calendar -/

@[simp] theorem lasting_setRtc (s : State) (r : Rtc) : lasting (setRtc s r) = lasting s :=
  (within_setRtc ..).lasting

@[simp] theorem lasting_alarmFire (s : State) (skip : Bool) : lasting (alarmFire s skip) = lasting s := by
  simp [alarmFire]

@[simp] theorem lasting_alarmJudge (s : State) (old : Cal) (skip : Bool) : lasting (alarmJudge s old skip) = lasting s := by
  unfold alarmJudge
  split <;> simp

@[simp] theorem lasting_setOsf (s : State) : lasting (setOsf s) = lasting s := by
  simp [setOsf]

@[simp] theorem lasting_calApply (s : State) (c : Cal) : lasting (calApply s c) = lasting s := by
  simp [calApply]

@[simp] theorem lasting_calNow (s : State) (c : Cal) : lasting (calNow s c) = lasting s := by
  simp [calNow]

@[simp] theorem lasting_calCommit (s : State) (immediate : Bool) : lasting (calCommit s immediate) = lasting s := by
  simp [calCommit]

@[simp] theorem lasting_alarmSet (s : State) (c : Cal) : lasting (alarmSet s c) = lasting s := by
  simp [alarmSet]

@[simp] theorem lasting_rtcCmd (s : State) (w : Nat) : lasting (rtcCmd s w) = lasting s := by
  simp [rtcCmd]

@[simp] theorem lasting_rtcWrite (s : State) (off : Nat) (w : Word) : lasting (rtcWrite s off w) = lasting s := by
  unfold rtcWrite
  split
  · simp
  · split <;> simp

@[simp] theorem keeps_execRtcCommit (dt : Nat) (s : State) : Keeps s (execRtcCommit dt s) := by
  simp [execRtcCommit]

@[simp] theorem keeps_execRtcCommitImmediate (dt : Nat) (s : State) : Keeps s (execRtcCommitImmediate dt s) := by
  simp [execRtcCommitImmediate]

@[simp] theorem keeps_execAlarmArm (dt : Nat) (s : State) : Keeps s (execAlarmArm dt s) := by
  simp [execAlarmArm]

@[simp] theorem keeps_execRegisterWrite (dt : Nat) (space : RegSpace) (p core offset : Nat) (w : Word) (s : State) :
    Keeps s (execRegisterWrite dt space p core offset w s) := by
  refine keeps_of_steady dt ?_
  unfold execRegisterWrite
  generalize advance dt s = a
  split <;> simp

@[simp] theorem lasting_leapStage (s : State) : lasting (leapStage s) = lasting s := by
  simp [leapStage]

@[simp] theorem keeps_execRtcSecondBoundary (dt : Nat) (s : State) : Keeps s (execRtcSecondBoundary dt s) := by
  refine keeps_of_steady dt ?_
  unfold execRtcSecondBoundary
  generalize advance dt s = a
  dsimp only
  split
  · simp
  · split
    · simp
    · split <;> simp

@[simp] theorem lasting_opRtcSet (s : State) (c : Cal) (immediate : Bool) : lasting (opRtcSet s c immediate).s = lasting s := by
  simp [opRtcSet]

@[simp] theorem keeps_execRtcSet (dt : Nat) (rq : Req) (year month day hour min sec wday : Nat) (immediate : Bool) (s : State) :
    Keeps s (execRtcSet dt rq year month day hour min sec wday immediate s) := by
  simp [execRtcSet]

@[simp] theorem lasting_opOsfClear (s : State) : lasting (opOsfClear s).s = lasting s := by
  simp [opOsfClear]

@[simp] theorem keeps_execRtcOsfClear (dt : Nat) (rq : Req) (s : State) : Keeps s (execRtcOsfClear dt rq s) := by
  simp [execRtcOsfClear]

@[simp] theorem lasting_opAlarmAck (s : State) : lasting (opAlarmAck s).s = lasting s := by
  simp [opAlarmAck]

@[simp] theorem keeps_execRtcAlarmAck (dt : Nat) (rq : Req) (s : State) : Keeps s (execRtcAlarmAck dt rq s) := by
  simp [execRtcAlarmAck]

@[simp] theorem lasting_putTrim (s : State) (v : Val) : lasting (putTrim s v).s = lasting s := by
  simp [putTrim]

@[simp] theorem lasting_putAlarm (s : State) (v : Val) : lasting (putAlarm s v).s = lasting s := by
  simp [putAlarm]

@[simp] theorem lasting_putTrickle (s : State) (v : Val) : lasting (putTrickle s v).s = lasting s := by
  simp [putTrickle]

@[simp] theorem keeps_execRtcLatchRead (dt offset : Nat) (s : State) : Keeps s (execRtcLatchRead dt offset s) := by
  simp [execRtcLatchRead]

@[simp] theorem keeps_execRtcLatchExpiry (dt : Nat) (s : State) : Keeps s (execRtcLatchExpiry dt s) := by
  simp [execRtcLatchExpiry]

@[simp] theorem keeps_execRtcTrimWindow (dt : Nat) (s : State) : Keeps s (execRtcTrimWindow dt s) := by
  simp [execRtcTrimWindow]

@[simp] theorem lasting_discWrite (s : State) : lasting (discWrite s) = lasting s := by
  simp [discWrite]

@[simp] theorem keeps_execRtcDiscipline (dt : Nat) (off : Int) (s : State) : Keeps s (execRtcDiscipline dt off s) := by
  simp [execRtcDiscipline]

@[simp] theorem keeps_execVaultLockout (dt : Nat) (s : State) : Keeps s (execVaultLockout dt s) := by
  simp [execVaultLockout]

@[simp] theorem keeps_execVbakSwitch (dt : Nat) (toBackup : Bool) (s : State) : Keeps s (execVbakSwitch dt toBackup s) := by
  simp [execVbakSwitch]

@[simp] theorem lasting_rtcLogStart (s : State) : lasting (rtcLogStart s) = lasting s := by
  unfold rtcLogStart
  dsimp only
  split <;> split <;> split <;> simp

@[simp] theorem lasting_oscStop (s : State) : lasting (oscStop s) = lasting s := by
  simp [oscStop]

@[simp] theorem keeps_execCrystalRestart (dt : Nat) (s : State) : Keeps s (execCrystalRestart dt s) := by
  refine keeps_of_steady dt ?_
  unfold execCrystalRestart
  generalize advance dt s = a
  simp

@[simp] theorem lasting_rtcLost (s : State) : lasting (rtcLost s) = lasting s := by
  simp [rtcLost]

/-! ## The logbook -/

@[simp] theorem lasting_setCode (s : State) (c : Nat) (x : LogCode) : lasting (setCode s c x) = lasting s :=
  (within_setCode ..).lasting

@[simp] theorem lasting_judgeLog (s : State) : lasting (judgeLog s) = lasting s := by
  simp [judgeLog]

@[simp] theorem lasting_logSuppRec (s : State) (code : Nat) : lasting (logSuppRec s code) = lasting s :=
  (within_logSuppRec ..).lasting

@[simp] theorem lasting_logRefill (s : State) (code : Nat) : lasting (logRefill s code) = lasting s :=
  (within_logRefill ..).lasting

@[simp] theorem lasting_logSuppDue (s : State) : lasting (logSuppDue s) = lasting s := by
  simp [logSuppDue, lasting_foldl]

@[simp] theorem lasting_logIntake (s : State) (code src : Nat) (data : List Int) :
    lasting (logIntake s code src data).2 = lasting s :=
  (within_logIntake ..).lasting

@[simp] theorem lasting_mirrorPut (s : State) (n : Nat) : lasting (mirrorPut s n) = lasting s :=
  (within_mirrorPut ..).lasting

@[simp] theorem keeps_execLogRecordIntake (dt : Nat) (s : State) : Keeps s (execLogRecordIntake dt s) := by
  refine keeps_of_steady dt ?_
  unfold execLogRecordIntake
  generalize advance dt s = a
  dsimp only
  split <;> simp

@[simp] theorem keeps_execLogMirrorWrite (dt : Nat) (s : State) : Keeps s (execLogMirrorWrite dt s) := by
  refine keeps_of_steady dt ?_
  unfold execLogMirrorWrite
  generalize advance dt s = a
  dsimp only
  split <;> simp

@[simp] theorem keeps_execLogTokenReturn (dt code : Nat) (s : State) : Keeps s (execLogTokenReturn dt code s) := by
  simp [execLogTokenReturn]

@[simp] theorem lasting_putCodeRate (s : State) (c : Nat) (v : Val) : lasting (putCodeRate s c v).s = lasting s := by
  simp [putCodeRate]

@[simp] theorem lasting_logClear (s : State) (src sess role : Nat) : lasting (logClear s src sess role).2 = lasting s := by
  simp [logClear]

@[simp] theorem lasting_opLogClear (s : State) (n : Nat) : lasting (opLogClear s n).s = lasting s := by
  unfold opLogClear
  split <;> simp

@[simp] theorem keeps_execLogClear (dt : Nat) (rq : Req) (s : State) : Keeps s (execLogClear dt rq s) := by
  simp [execLogClear]

@[simp] theorem lasting_opLogReset (s : State) : lasting (opLogReset s).s = lasting s := by
  simp [opLogReset]

@[simp] theorem keeps_execLogCountersReset (dt : Nat) (rq : Req) (s : State) : Keeps s (execLogCountersReset dt rq s) := by
  simp [execLogCountersReset]

@[simp] theorem lasting_answerPut (s : State) (ep p code : Nat) (ws : List Nat) :
    lasting (answerPut s ep p code ws) = lasting s :=
  (live_answerPut ..).lasting

theorem lasting_serveMsg {s t : State} {ep c p : Nat} {codes : List Nat} {m : Msg} (h : serveMsg s ep c codes = some (p, m, t)) :
    lasting t = lasting s := by
  unfold serveMsg at h
  dsimp only at h
  split at h
  · simp at h
  · split at h
    · simp at h
    · simp only [Option.ite_none_right_eq_some, Option.some.injEq, Prod.mk.injEq] at h
      obtain ⟨-, -, -, rfl⟩ := h
      simp

@[simp] theorem keeps_execLogWriteMsg (dt chan : Nat) (s : State) : Keeps s (execLogWriteMsg dt chan s) := by
  refine keeps_of_steady dt ?_
  unfold execLogWriteMsg
  generalize advance dt s = a
  dsimp only
  cases h : serveMsg a 64 chan [0x0A01] with
  | none => simp
  | some x => simp [lasting_serveMsg h]

@[simp] theorem keeps_execLogReadMsg (dt chan : Nat) (s : State) : Keeps s (execLogReadMsg dt chan s) := by
  refine keeps_of_steady dt ?_
  fun_cases execLogReadMsg dt chan s with
  | case1 => exact (steady_done ..).mpr rfl
  | case2 a p m t h => exact (steady_done ..).mpr ((lasting_answerPut ..).trans (lasting_serveMsg h))
  | case3 a p m t h => exact (steady_done ..).mpr ((lasting_answerPut ..).trans (lasting_serveMsg h))

@[simp] theorem keeps_execLogClearMsg (dt chan : Nat) (s : State) : Keeps s (execLogClearMsg dt chan s) := by
  refine keeps_of_steady dt ?_
  unfold execLogClearMsg
  generalize advance dt s = a
  dsimp only
  cases h : serveMsg a 64 chan [0x0A03] with
  | none => simp
  | some x => simp [lasting_serveMsg h]

@[simp] theorem lasting_logStart (s : State) : lasting (logStart s) = lasting s :=
  (within_logStart ..).lasting

end Sys2Proof.Machine
end

section
/-! PROOF. The vault, the stage and the tamper response: the bundle and the firmware minimum rise, tamper records add up, fuses blow. -/

set_option Elab.async false

open Sys2Proof Sys2Proof.Machine

namespace Sys2Proof.Machine

/-! ## The vault -/

@[simp] theorem lasting_putAnchor (s : State) (a : Nat) (v : Val) : lasting (putAnchor s a v).s = lasting s := by
  simp [putAnchor]

@[simp] theorem lasting_anchorsStart (s : State) : lasting (anchorsStart s) = lasting s := rfl

@[simp] theorem lasting_setTKey (s : State) (i : Nat) (x : TKey) : lasting (setTKey s i x) = lasting s := rfl

@[simp] theorem lasting_deriveAsk (s : State) (i : Nat) : lasting (deriveAsk s i) = lasting s := by
  simp [deriveAsk]

@[simp] theorem lasting_deriveDrop (s : State) (i : Nat) : lasting (deriveDrop s i) = lasting s := by
  simp [deriveDrop]

@[simp] theorem lasting_deriveNew (s : State) (i : Nat) : lasting (deriveNew s i) = lasting s := by
  simp [deriveNew]

@[simp] theorem lasting_deriveAll (s : State) : lasting (deriveAll s) = lasting s := by
  simp [deriveAll, lasting_foldl]

@[simp] theorem lasting_opKeyWrite (s : State) (rq : Req) (slot wrap kcv : Nat) (a : KeyAttr) (key : List Byte) :
    lasting (opKeyWrite s rq slot wrap kcv a key).s = lasting s := by
  simp [opKeyWrite]

@[simp] theorem keeps_execKeyWrite (dt : Nat) (rq : Req) (slot kind use world masters life wrapSlot kcv : Nat) (key : List Byte)
    (s : State) :
    Keeps s (execKeyWrite dt rq slot kind use world masters life wrapSlot kcv key s) := by
  simp [execKeyWrite]

@[simp] theorem lasting_keyWritten (s : State) (n seq slot kcv : Nat) (a : KeyAttr) (key : Option (List Byte)) :
    lasting (keyWritten s n seq slot kcv a key) = lasting s := by
  unfold keyWritten
  split <;> simp

@[simp] theorem lasting_opKeyCommit (s : State) (n slot : Nat) : lasting (opKeyCommit s n slot).s = lasting s := by
  unfold opKeyCommit
  split
  · simp
  · simp [lasting_foldl]

@[simp] theorem keeps_execKeyCommit (dt : Nat) (rq : Req) (slot : Nat) (s : State) : Keeps s (execKeyCommit dt rq slot s) := by
  simp [execKeyCommit]

@[simp] theorem lasting_opKeyDiscard (s : State) : lasting (opKeyDiscard s).s = lasting s := by
  simp [opKeyDiscard]

@[simp] theorem keeps_execKeyDiscard (dt : Nat) (rq : Req) (s : State) : Keeps s (execKeyDiscard dt rq s) := by
  simp [execKeyDiscard]

@[simp] theorem lasting_opKeyInvalidate (s : State) (k : Nat) : lasting (opKeyInvalidate s k).s = lasting s := by
  simp [opKeyInvalidate]

@[simp] theorem keeps_execKeyInvalidate (dt : Nat) (rq : Req) (slot : Nat) (s : State) : Keeps s (execKeyInvalidate dt rq slot s) := by
  simp [execKeyInvalidate]

@[simp] theorem lasting_opKeyErase (s : State) (k : Nat) : lasting (opKeyErase s k).s = lasting s := by
  simp [opKeyErase]

@[simp] theorem keeps_execKeyErase (dt : Nat) (rq : Req) (slot : Nat) (s : State) : Keeps s (execKeyErase dt rq slot s) := by
  simp [execKeyErase]

@[simp] theorem keeps_execKeySlotIntegrityCheck (dt : Nat) (bad : List Nat) (s : State) : Keeps s (execKeySlotIntegrityCheck dt bad s) := by
  simp [execKeySlotIntegrityCheck, lasting_foldl]

@[simp] theorem lasting_macAnswer (s : State) (p : Nat) (verify : Bool) (st : Nat) (ws : List Nat) :
    lasting (macAnswer s p verify st ws) = lasting s := by
  simp [macAnswer]

@[simp] theorem keeps_execVaultMacRequest (dt chan : Nat) (s : State) : Keeps s (execVaultMacRequest dt chan s) := by
  refine keeps_of_steady dt ?_
  unfold execVaultMacRequest
  generalize advance dt s = a
  dsimp only
  cases h : serveMsg a 64 chan [0x0901, 0x0902] with
  | none => simp
  | some x => simp [lasting_serveMsg h]

@[simp] theorem lasting_opBundleApply (s : State) (rq : Req) : lasting (opBundleApply s rq).s = lasting s := by
  simp [opBundleApply]

@[simp] theorem keeps_execBundleApply (dt : Nat) (rq : Req) (s : State) : Keeps s (execBundleApply dt rq s) := by
  simp [execBundleApply]

@[simp] theorem lasting_bundleJudged (s : State) (n seq : Nat) (f : VaultFacts) : lasting (bundleJudged s n seq f) = lasting s := by
  unfold bundleJudged
  dsimp only
  split
  · simp
  · split <;> simp

@[simp] theorem lasting_bundleMirrored (s : State) (mid : Nat) (f : VaultFacts) : lasting (bundleMirrored s mid f) = lasting s := by
  unfold bundleMirrored
  dsimp only
  split
  · simp
  · split
    · simp
    · split <;> simp

@[simp] theorem lasting_opAttest (s : State) (rq : Req) (nonce : List Byte) : lasting (opAttest s rq nonce).s = lasting s := by
  simp [opAttest]

@[simp] theorem keeps_execAttest (dt : Nat) (rq : Req) (nonce : List Byte) (s : State) : Keeps s (execAttest dt rq nonce s) := by
  simp [execAttest]

@[simp] theorem lasting_opAbort (s : State) (op : VOp) (st : Nat) : lasting (opAbort s op st) = lasting s :=
  (aborts_opAbort ..).lasting

@[simp] theorem lasting_opEnd (s : State) (r : VReq) (f : VaultFacts) : lasting (opEnd s r f) = lasting s := by
  unfold opEnd
  split
  case h_1 => split <;> simp
  case h_9 => split <;> simp
  all_goals simp

@[simp] theorem keeps_execVaultOpComplete (dt : Nat) (facts : VaultFacts) (s : State) : Keeps s (execVaultOpComplete dt facts s) := by
  refine keeps_of_steady dt ?_
  unfold execVaultOpComplete
  generalize advance dt s = a
  dsimp only
  split <;> simp

@[simp] theorem keeps_execVaultSegmentEnd (dt : Nat) (s : State) : Keeps s (execVaultSegmentEnd dt s) := by
  simp [execVaultSegmentEnd]

@[simp] theorem keeps_execTrafficKeyDerived (dt idx : Nat) (s : State) : Keeps s (execTrafficKeyDerived dt idx s) := by
  refine keeps_of_steady dt ?_
  unfold execTrafficKeyDerived
  generalize advance dt s = a
  dsimp only
  split
  · simp
  · split
    · simp
    · split <;> simp

theorem ahead_opFwSvnConfirm (s : State) : Ahead s (opFwSvnConfirm s).s := by
  unfold opFwSvnConfirm
  dsimp only
  split
  · exact ahead_of_lasting rfl
  · exact ⟨rfl, Nat.le_refl _, id, id, id, Nat.le_max_left .., Nat.le_refl _, Nat.le_refl _⟩

@[simp] theorem keeps_execFwSvnConfirm (dt : Nat) (rq : Req) (s : State) : Keeps s (execFwSvnConfirm dt rq s) := by
  refine (keeps_done ..).mpr ((ahead_advance dt s).trans ?_)
  exact ahead_doExec ahead_opFwSvnConfirm ..

@[simp] theorem lasting_opImageSvnConfirm (s : State) (p : Nat) : lasting (opImageSvnConfirm s p).s = lasting s := by
  simp [opImageSvnConfirm]

@[simp] theorem keeps_execImageSvnConfirm (dt : Nat) (rq : Req) (p : Nat) (s : State) : Keeps s (execImageSvnConfirm dt rq p s) := by
  simp [execImageSvnConfirm]

@[simp] theorem lasting_opClaimRearm (s : State) (d : Nat) : lasting (opClaimRearm s d).s = lasting s := by
  simp [opClaimRearm]

@[simp] theorem keeps_execClaimRearm (dt : Nat) (rq : Req) (d : Nat) (s : State) : Keeps s (execClaimRearm dt rq d s) := by
  simp [execClaimRearm]

/-! ## The stage -/

@[simp] theorem lasting_commitTake (s : State) (l : List (Nat × Val)) (own : Bool) (row : Nat) :
    lasting (commitTake s l own row) = lasting s := rfl

@[simp] theorem lasting_mirrored {apply : State → State} (h : ∀ u, lasting (apply u) = lasting u) (s : State) (n seq idx check : Nat)
    (op : MirrorOp) : lasting (mirrored s n seq idx check op apply).s = lasting s := by
  simp [mirrored, h]

@[simp] theorem lasting_pairedWrite {apply : State → State} (h : ∀ u, lasting (apply u) = lasting u) (s : State) (n seq idx check : Nat)
    (op : MirrorOp) : lasting (pairedWrite s n seq idx check op apply).s = lasting s := by
  simp [pairedWrite, h]

@[simp] theorem lasting_opStageCommit (s : State) (rq : Req) : lasting (opStageCommit s rq).s = lasting s := by
  unfold opStageCommit
  split
  · simp
  · split
    · simp
    · split
      · simp
      · dsimp only
        split <;> simp

@[simp] theorem keeps_execStageCommit (dt : Nat) (rq : Req) (s : State) : Keeps s (execStageCommit dt rq s) := by
  simp [execStageCommit]

@[simp] theorem lasting_planCommit (o s : State) (l : List (Nat × Val)) (row : Nat) : lasting (planCommit o s l row) = lasting s := by
  simp [planCommit]

@[simp] theorem lasting_pipeCommit (o s : State) (l : List (Nat × Val)) (row : Nat) : lasting (pipeCommit o s l row) = lasting s := by
  simp [pipeCommit, lasting_foldl]

@[simp] theorem lasting_gooseCommit (o s : State) (l : List (Nat × Val)) : lasting (gooseCommit o s l) = lasting s := by
  simp [gooseCommit, lasting_foldl]

@[simp] theorem lasting_partReturn (s : State) (p : Nat) : lasting (partReturn s p) = lasting s := by
  simp [partReturn, lasting_foldl]

@[simp] theorem lasting_partsCommit (s : State) (l : List (Nat × Val)) : lasting (partsCommit s l) = lasting s := by
  simp [partsCommit, lasting_foldl]

@[simp] theorem lasting_capCommit1 (s : State) (p : Nat) : lasting (capCommit1 s p) = lasting s := by
  simp [capCommit1]

theorem ahead_bundleCommit (s : State) (l : List (Nat × Val)) : Ahead s (bundleCommit s l) := by
  unfold bundleCommit
  split
  · split
    · exact ⟨rfl, Nat.le_refl _, id, id, id, Nat.le_refl _, Nat.le_max_left .., Nat.le_refl _⟩
    · exact ahead_of_lasting rfl
  · exact ahead_of_lasting rfl

@[simp] theorem lasting_unitsCommit (o s : State) (l : List (Nat × Val)) : lasting (unitsCommit o s l) = lasting s := by
  simp only [unitsCommit, lasting_judgeBol, lasting_judgeKeys, lasting_capCommit]
  refine (lasting_foldl (fun s b => by simp) _ _).trans ?_
  refine (lasting_foldl (fun s p => by simp) _ _).trans ?_
  refine (lasting_foldl (fun s i => by simp) _ _).trans ?_
  refine (lasting_foldl (fun s ep => by simp) _ _).trans ?_
  refine (lasting_foldl (fun s c => by simp) _ _).trans ?_
  refine (lasting_foldl (fun s q => by simp) _ _).trans ?_
  exact (lasting_foldl (fun s g => by simp) _ _).trans (by simp)

/-- The commit of a staged set changes what lasts by the bundle's minimum only. -/
theorem ahead_stageApply (s : State) (row : Nat) : Ahead s (stageApply s row) := by
  unfold stageApply
  extract_lets o j l a b c d e f g p x q r
  have hp : lasting p = lasting s := by
    simp only [p, g, f, e, d, lasting_logRec, lasting_ite, lasting_pairRetry, ite_self, lasting_runPlaced, lasting_unitsCommit,
      lasting_partsCommit, lasting_gooseCommit, lasting_pipeCommit, lasting_planCommit]
    exact lasting_withStage ..
  have hq : Ahead p q := by
    refine Ahead.trans (ahead_of_lasting ?_) (ahead_bundleCommit ..)
    split <;> rfl
  have hr : lasting r = lasting q := lasting_foldl lasting_restartDue ..
  refine (ahead_of_lasting hp).trans (hq.trans (ahead_of_lasting (Eq.trans ?_ hr)))
  split
  · split
    · rfl
    · simp
  · rfl

@[simp] theorem keeps_execStageApply (dt : Nat) (s : State) : Keeps s (execStageApply dt s) := by
  unfold execStageApply
  have ha := ahead_advance dt s
  generalize advance dt s = a at ha
  dsimp only
  split
  · exact (keeps_done ..).mpr ha
  · split
    · exact (keeps_done ..).mpr ha
    · exact (keeps_done ..).mpr (ha.trans (ahead_stageApply ..))

@[simp] theorem lasting_opStageDiscard (s : State) (n : Nat) : lasting (opStageDiscard s n).s = lasting s := by
  simp [opStageDiscard]

@[simp] theorem keeps_execStageDiscard (dt : Nat) (rq : Req) (s : State) : Keeps s (execStageDiscard dt rq s) := by
  simp [execStageDiscard]

@[simp] theorem lasting_opBankSeal (s : State) (rq : Req) (bank : Nat) : lasting (opBankSeal s rq bank).s = lasting s := by
  simp [opBankSeal]

@[simp] theorem keeps_execBankSeal (dt : Nat) (rq : Req) (bank : Nat) (s : State) : Keeps s (execBankSeal dt rq bank s) := by
  simp [execBankSeal]

@[simp] theorem lasting_opProfileSwap (s : State) (rq : Req) (p row mode xfade : Nat) :
    lasting (opProfileSwap s rq p row mode xfade).s = lasting s := by
  simp [opProfileSwap]

@[simp] theorem keeps_execProfileSwap (dt : Nat) (rq : Req) (profile row mode xfade : Nat) (s : State) :
    Keeps s (execProfileSwap dt rq profile row mode xfade s) := by
  simp [execProfileSwap]

@[simp] theorem lasting_opProfileDisarm (s : State) (rq : Req) (p : Nat) : lasting (opProfileDisarm s rq p).s = lasting s := by
  simp [opProfileDisarm]

@[simp] theorem keeps_execProfileDisarm (dt : Nat) (rq : Req) (profile : Nat) (s : State) :
    Keeps s (execProfileDisarm dt rq profile s) := by
  simp [execProfileDisarm]

@[simp] theorem lasting_opOnlineWrite (s : State) (rq : Req) (p task off size v : Nat) :
    lasting (opOnlineWrite s rq p task off size v).s = lasting s := by
  simp [opOnlineWrite]

@[simp] theorem keeps_execOnlineWrite (dt : Nat) (rq : Req) (p task offset size value : Nat) (s : State) :
    Keeps s (execOnlineWrite dt rq p task offset size value s) := by
  simp [execOnlineWrite]

@[simp] theorem lasting_putForce (s : State) (n seq idx row : Nat) (v : Val) : lasting (putForce s n seq idx row v).s = lasting s := by
  simp [putForce]

@[simp] theorem lasting_opForceClearAll (s : State) : lasting (opForceClearAll s).s = lasting s := by
  simp [opForceClearAll]

@[simp] theorem keeps_execForceClearAll (dt : Nat) (rq : Req) (s : State) : Keeps s (execForceClearAll dt rq s) := by
  simp [execForceClearAll]

@[simp] theorem lasting_mirrorAgreed (s : State) (m : Mirrored) (t : Int) : lasting (mirrorAgreed s m t) = lasting s := by
  unfold mirrorAgreed
  split <;> simp

@[simp] theorem keeps_execMirror (dt : Nat) (op : MirrorOp) (mid : Nat) (s : State) : Keeps s (execMirror dt op mid s) := by
  refine keeps_of_steady dt ?_
  unfold execMirror
  generalize advance dt s = a
  split <;> simp

@[simp] theorem keeps_execMirrorAck (dt mid status : Nat) (at_ : Int) (s : State) : Keeps s (execMirrorAck dt mid status at_ s) := by
  refine keeps_of_steady dt ?_
  unfold execMirrorAck
  generalize advance dt s = a
  split
  · dsimp only
    split <;> simp
  · dsimp only
    split
    · simp
    · split <;> simp

/-! ## Restarts -/

@[simp] theorem lasting_blockAll (s : State) : lasting (blockAll s) = lasting s :=
  (within_blockAll ..).lasting

@[simp] theorem lasting_lifeLog (s : State) (old : Nat) : lasting (lifeLog s old) = lasting s := by
  simp [lifeLog]

@[simp] theorem lasting_logTake (s : State) : lasting (logTake s) = lasting s :=
  (within_logTake ..).lasting

@[simp] theorem lasting_logFlush (s : State) : lasting (logFlush s) = lasting s :=
  (within_logFlush ..).lasting

@[simp] theorem lasting_retentSave (s : State) : lasting (retentSave s) = lasting s :=
  (within_retentSave ..).lasting

@[simp] theorem lasting_unitsOff (s : State) (lost : Bool) : lasting (unitsOff s lost) = lasting s := by
  simp [unitsOff, lasting_foldl]

@[simp] theorem lasting_hubReset (s : State) (lost : Bool) (cause : Nat) : lasting (hubReset s lost cause) = lasting s := by
  have h (u : State) : lasting (hubCleared u lost cause) = lasting u := rfl
  rw [hubReset, h, lasting_unitsOff, lasting_foldl lasting_logicAbandon]

@[simp] theorem lasting_unitBegin (s : State) (n : Nat) : lasting (unitBegin s n) = lasting s := by
  simp [unitBegin]

@[simp] theorem lasting_romGateway (s : State) (ph : Phase) : lasting (romGateway s ph) = lasting s := by
  simp [romGateway, lasting_foldl]

@[simp] theorem lasting_tamperCopy (s : State) : lasting (tamperCopy s) = lasting s := by
  simp [tamperCopy, lasting_foldl]

@[simp] theorem lasting_bucketsFull (s : State) : lasting (bucketsFull s) = lasting s := by
  simp [bucketsFull, lasting_foldl]

@[simp] theorem lasting_geoRead (s : State) (ga : Nat) (gap : Bool) : lasting (geoRead s ga gap) = lasting s := by
  simp [geoRead]

@[simp] theorem lasting_latchKept (s : State) : lasting (latchKept s) = lasting s := by
  simp [latchKept]

@[simp] theorem lasting_hubUp (s : State) (ga : Nat) (gap selB : Bool) : lasting (hubUp s ga gap selB) = lasting s := by
  simp [hubUp]

@[simp] theorem keeps_execHubRelease (dt ga : Nat) (gap selB : Bool) (s : State) : Keeps s (execHubRelease dt ga gap selB s) := by
  simp [execHubRelease]

/-! ## Tamper and the life cycle -/

theorem ahead_tamperWrite (s : State) (sources moment action op : Nat) : Ahead s (tamperWrite s sources moment action op) :=
  ⟨rfl, Nat.le_refl _, id, id, id, Nat.le_refl _, Nat.le_refl _, Nat.le_succ _⟩

@[simp] theorem lasting_keysClear (s : State) : lasting (keysClear s) = lasting s := by
  simp [keysClear, lasting_foldl]

@[simp] theorem lasting_quarantine (s : State) : lasting (quarantine s) = lasting s := by
  simp [quarantine]

/-- A tamper event writes its record; the keys' clearing and the quarantine leave what lasts. -/
theorem ahead_tamperEvent (s : State) (src : Nat) : Ahead s (tamperEvent s src) := by
  unfold tamperEvent
  split
  · exact ahead_of_lasting rfl
  · split
    · exact ahead_tamperWrite ..
    · extract_lets m o act a b
      have h : lasting (if act == 2 then quarantine b else b) = lasting a := by
        rw [lasting_ite, lasting_quarantine, ite_self, lasting_keysClear]
      exact (ahead_tamperWrite ..).trans (ahead_of_lasting h)

@[simp] theorem lasting_setActive (s : State) (src : Nat) (on : Bool) : lasting (setActive s src on) = lasting s := rfl

theorem ahead_lineSample (s : State) (src n : Nat) (opened : Bool) : Ahead s (lineSample s src n opened) := by
  unfold lineSample
  split
  · exact ahead_of_lasting (by simp)
  · split
    · exact ahead_of_lasting rfl
    · split
      · exact ahead_of_lasting rfl
      · exact (ahead_of_lasting (by simp)).trans (ahead_tamperEvent ..)

@[simp] theorem lasting_internalEnd (s : State) : lasting (internalEnd s) = lasting s := by
  simp [internalEnd]

@[simp] theorem keeps_execTamperSample (dt : Nat) (enclOpen loopOpen : Bool) (s : State) :
    Keeps s (execTamperSample dt enclOpen loopOpen s) := by
  unfold execTamperSample
  have ha := ahead_advance dt s
  generalize advance dt s = a at ha
  dsimp only
  split
  · exact (keeps_done ..).mpr ha
  · split
    · exact (keeps_done ..).mpr ha
    · refine (keeps_done ..).mpr (ha.trans ?_)
      refine Ahead.trans ?_ (ahead_lineSample ..)
      refine Ahead.trans ?_ (ahead_lineSample ..)
      exact ahead_of_lasting (lasting_internalEnd ..)

@[simp] theorem keeps_execTamperSensorEvent (dt source : Nat) (s : State) : Keeps s (execTamperSensorEvent dt source s) := by
  unfold execTamperSensorEvent
  have ha := ahead_advance dt s
  generalize advance dt s = a at ha
  dsimp only
  split
  · exact (keeps_done ..).mpr ha
  · exact (keeps_done ..).mpr (ha.trans ((ahead_of_lasting (lasting_setActive ..)).trans (ahead_tamperEvent ..)))

@[simp] theorem keeps_execVaultSupplyLow (dt : Nat) (below12 : Bool) (s : State) : Keeps s (execVaultSupplyLow dt below12 s) := by
  refine keeps_of_steady dt ?_
  unfold execVaultSupplyLow
  generalize advance dt s = a
  simp

@[simp] theorem keeps_execRtcOscStop (dt : Nat) (s : State) : Keeps s (execRtcOscStop dt s) := by
  unfold execRtcOscStop
  have ha := ahead_advance dt s
  generalize advance dt s = a at ha
  dsimp only
  split
  · exact (keeps_done ..).mpr ha
  · have ho : Ahead s (oscStop a) := ha.trans (ahead_of_lasting (lasting_oscStop a))
    refine (keeps_done ..).mpr ?_
    split
    · exact ho.trans ((ahead_of_lasting (lasting_setActive ..)).trans (ahead_tamperEvent ..))
    · exact ho

@[simp] theorem lasting_putTamperEnable (s : State) (k : Nat) (v : Val) : lasting (putTamperEnable s k v).s = lasting s := by
  unfold putTamperEnable
  split
  · simp
  · split <;> simp

@[simp] theorem lasting_serviceEnd (s : State) : lasting (serviceEnd s) = lasting s := by
  simp [serviceEnd]

@[simp] theorem lasting_opServiceWindow (s : State) (secs : Nat) : lasting (opServiceWindow s secs).s = lasting s := by
  simp [opServiceWindow]

@[simp] theorem keeps_execServiceWindow (dt : Nat) (rq : Req) (secs : Nat) (s : State) : Keeps s (execServiceWindow dt rq secs s) := by
  simp [execServiceWindow]

@[simp] theorem keeps_execServiceWindowExpiry (dt : Nat) (s : State) : Keeps s (execServiceWindowExpiry dt s) := by
  simp [execServiceWindowExpiry]

theorem ahead_opCommission (s : State) : Ahead s (opCommission s).s := by
  have hf : Ahead s { s with boot := { s.boot with fuseComm := true } } :=
    ⟨rfl, Nat.le_refl _, id, fun _ => rfl, id, Nat.le_refl _, Nat.le_refl _, Nat.le_refl _⟩
  unfold opCommission
  split
  · exact ahead_of_lasting rfl
  · exact hf.trans (ahead_of_lasting (by rw [s_good, lasting_lifeLog, lasting_anchorsStart]))

@[simp] theorem keeps_execCommission (dt : Nat) (rq : Req) (s : State) : Keeps s (execCommission dt rq s) := by
  refine (keeps_done ..).mpr ((ahead_advance dt s).trans ?_)
  exact ahead_doExec ahead_opCommission ..

@[simp] theorem lasting_opQuarantineEnter (s : State) : lasting (opQuarantineEnter s).s = lasting s := by
  simp [opQuarantineEnter]

@[simp] theorem keeps_execQuarantineEnter (dt : Nat) (rq : Req) (s : State) : Keeps s (execQuarantineEnter dt rq s) := by
  simp [execQuarantineEnter]

@[simp] theorem lasting_opQuarantineLeave (s : State) : lasting (opQuarantineLeave s).s = lasting s := by
  simp [opQuarantineLeave]

@[simp] theorem keeps_execQuarantineLeave (dt : Nat) (rq : Req) (s : State) : Keeps s (execQuarantineLeave dt rq s) := by
  simp [execQuarantineLeave]

theorem ahead_opDecommission (s : State) (serial : List Byte) : Ahead s (opDecommission s serial).s := by
  unfold opDecommission
  dsimp only
  split
  · exact ahead_of_lasting rfl
  · rw [s_good]
    refine Ahead.trans ?_ (ahead_of_lasting ((lasting_hubReset ..).trans (lasting_lifeLog ..)))
    exact (ahead_of_lasting (lasting_blockAll s)).trans
      ⟨rfl, Nat.le_refl _, id, id, fun _ => rfl, Nat.le_refl _, Nat.le_refl _, Nat.le_refl _⟩

@[simp] theorem keeps_execDecommission (dt : Nat) (rq : Req) (serial : List Byte) (s : State) :
    Keeps s (execDecommission dt rq serial s) := by
  refine (keeps_done ..).mpr ((ahead_advance dt s).trans ?_)
  exact ahead_doExec (fun u => ahead_opDecommission u serial) ..

end Sys2Proof.Machine
end

section
/-! PROOF. Start-up, the objects and the messages; then no command takes back what lasts (O58). -/

set_option Elab.async false

open Sys2Proof Sys2Proof.Machine

namespace Sys2Proof.Machine

/-! ## Start-up and supply -/

@[simp] theorem keeps_execFirmwareImageRead (dt : Nat) (s : State) : Keeps s (execFirmwareImageRead dt s) := by
  refine keeps_of_steady dt ?_
  unfold execFirmwareImageRead
  generalize advance dt s = a
  simp

@[simp] theorem lasting_setFw (s : State) (k : Nat) (x : FwSlot) : lasting (setFw s k x) = lasting s := rfl

@[simp] theorem lasting_keptDrop (s : State) (k : Nat) : lasting (keptDrop s k) = lasting s := by
  unfold keptDrop
  dsimp only
  split <;> simp

@[simp] theorem lasting_keptCheck (s : State) : lasting (keptCheck s) = lasting s := by
  simp [keptCheck, lasting_foldl]

@[simp] theorem lasting_fwRun (s : State) (o : SignedObj) : lasting (fwRun s o) = lasting s := by
  simp [fwRun, lasting_foldl]

@[simp] theorem keeps_execFirmwareVerified (dt : Nat) (obj : SignedObj) (s : State) : Keeps s (execFirmwareVerified dt obj s) := by
  refine keeps_of_steady dt ?_
  unfold execFirmwareVerified
  generalize advance dt s = a
  dsimp only
  split
  · simp
  · split
    · simp
    · split <;> simp

@[simp] theorem lasting_timeStart (s : State) : lasting (timeStart s) = lasting s := by
  simp [timeStart]

@[simp] theorem lasting_unitAction (s : State) (n : Nat) : lasting (unitAction s n) = lasting s := by
  unfold unitAction
  split
  case h_7 => simp [lasting_foldl]
  all_goals simp

@[simp] theorem lasting_partsStart (s : State) : lasting (partsStart s) = lasting s := by
  simp [partsStart, lasting_foldl]

@[simp] theorem keeps_execUnitStartComplete (dt sub : Nat) (s : State) : Keeps s (execUnitStartComplete dt sub s) := by
  simp [execUnitStartComplete]

@[simp] theorem lasting_supplyUp (s : State) : lasting (supplyUp s) = lasting s := by
  simp [supplyUp]

@[simp] theorem keeps_execSupplyGood (dt : Nat) (s : State) : Keeps s (execSupplyGood dt s) := by
  refine keeps_of_steady dt ?_
  unfold execSupplyGood
  generalize advance dt s = a
  simp

@[simp] theorem keeps_execHoldupReady (dt : Nat) (s : State) : Keeps s (execHoldupReady dt s) := by
  refine keeps_of_steady dt ?_
  unfold execHoldupReady
  generalize advance dt s = a
  simp

@[simp] theorem keeps_execOscReady (dt : Nat) (s : State) : Keeps s (execOscReady dt s) := by
  refine keeps_of_steady dt ?_
  unfold execOscReady
  generalize advance dt s = a
  simp

@[simp] theorem lasting_hubDown (s : State) : lasting (hubDown s) = lasting s := by
  simp [hubDown]

@[simp] theorem lasting_vinLost (s : State) : lasting (vinLost s) = lasting s := by
  simp [vinLost]

@[simp] theorem keeps_execPfAssert (dt : Nat) (overV : Bool) (s : State) : Keeps s (execPfAssert dt overV s) := by
  refine keeps_of_steady dt ?_
  unfold execPfAssert
  generalize advance dt s = a
  simp

@[simp] theorem keeps_execPfClear (dt : Nat) (s : State) : Keeps s (execPfClear dt s) := by
  refine keeps_of_steady dt ?_
  unfold execPfClear
  generalize advance dt s = a
  simp

@[simp] theorem lasting_powerFail (s : State) : lasting (powerFail s) = lasting s := by
  simp [powerFail]

@[simp] theorem keeps_execRideThroughExpiry (dt : Nat) (s : State) : Keeps s (execRideThroughExpiry dt s) := by
  simp [execRideThroughExpiry]

@[simp] theorem keeps_execVinLossCharging (dt : Nat) (s : State) : Keeps s (execVinLossCharging dt s) := by
  simp [execVinLossCharging]

@[simp] theorem keeps_execModuleInsert (dt : Nat) (s : State) : Keeps s (execModuleInsert dt s) := by
  refine keeps_of_steady dt ?_
  unfold execModuleInsert
  generalize advance dt s = a
  simp

@[simp] theorem keeps_execModuleRemove (dt : Nat) (s : State) : Keeps s (execModuleRemove dt s) := by
  refine keeps_of_steady dt ?_
  unfold execModuleRemove
  generalize advance dt s = a
  simp

@[simp] theorem lasting_setDump (s : State) (k : Nat) (x : Dump) : lasting (setDump s k x) = lasting s := rfl

@[simp] theorem lasting_dumpHead (s : State) (cause : Nat) : lasting (dumpHead s cause).2 = lasting s :=
  (within_dumpHead ..).lasting

@[simp] theorem lasting_hubFreeze (s : State) : lasting (hubFreeze s) = lasting s := rfl

@[simp] theorem lasting_resetHalt (s : State) : lasting (resetHalt s) = lasting s := by
  simp [resetHalt]

@[simp] theorem lasting_fatalEnd (s : State) (rst : Bool) : lasting (fatalEnd s rst) = lasting s := by
  simp [fatalEnd]

@[simp] theorem lasting_fatalRaise (s : State) (cause : Nat) : lasting (fatalRaise s cause) = lasting s := by
  unfold fatalRaise
  split
  · simp
  · split
    · dsimp only
      split <;> simp
    · split
      · simp
      · dsimp only
        split <;> simp [lasting_foldl]

@[simp] theorem keeps_execFatalError (dt cause : Nat) (s : State) : Keeps s (execFatalError dt cause s) := by
  simp [execFatalError]

@[simp] theorem keeps_execCcLockstepMismatch (dt pair : Nat) (s : State) : Keeps s (execCcLockstepMismatch dt pair s) := by
  simp [execCcLockstepMismatch]

@[simp] theorem keeps_execDumpWriteDone (dt : Nat) (s : State) : Keeps s (execDumpWriteDone dt s) := by
  refine keeps_of_steady dt ?_
  unfold execDumpWriteDone
  generalize advance dt s = a
  dsimp only
  split
  · simp
  · split <;> simp

@[simp] theorem lasting_opDumpProtect (s : State) (k : Nat) : lasting (opDumpProtect s k).s = lasting s := by
  simp [opDumpProtect]

@[simp] theorem keeps_execDumpProtect (dt : Nat) (rq : Req) (slot : Nat) (s : State) : Keeps s (execDumpProtect dt rq slot s) := by
  simp [execDumpProtect]

@[simp] theorem lasting_opDumpRelease (s : State) (k : Nat) : lasting (opDumpRelease s k).s = lasting s := by
  simp [opDumpRelease]

@[simp] theorem keeps_execDumpRelease (dt : Nat) (rq : Req) (slot : Nat) (s : State) : Keeps s (execDumpRelease dt rq slot s) := by
  simp [execDumpRelease]

@[simp] theorem lasting_opRestart (s : State) : lasting (opRestart s).s = lasting s := by
  simp [opRestart]

@[simp] theorem keeps_execRestart (dt : Nat) (rq : Req) (s : State) : Keeps s (execRestart dt rq s) := by
  simp [execRestart]

@[simp] theorem lasting_wdtLapse (s : State) : lasting (wdtLapse s) = lasting s := by
  simp [wdtLapse]

@[simp] theorem lasting_setWdt (s : State) (k : Nat) (x : WdtPair) : lasting (setWdt s k x) = lasting s := by
  unfold setWdt
  split <;> simp

@[simp] theorem keeps_execWdtService (dt pair : Nat) (s : State) : Keeps s (execWdtService dt pair s) := by
  refine keeps_of_steady dt ?_
  unfold execWdtService
  generalize advance dt s = a
  simp

@[simp] theorem keeps_execWdtLapse (dt : Nat) (s : State) : Keeps s (execWdtLapse dt s) := by
  simp [execWdtLapse]

@[simp] theorem keeps_execFenceTimeout (dt p : Nat) (s : State) : Keeps s (execFenceTimeout dt p s) := by
  refine keeps_of_steady dt ?_
  unfold execFenceTimeout
  generalize advance dt s = a
  dsimp only
  split <;> simp

@[simp] theorem keeps_execForceNoticeMissed (dt : Nat) (s : State) : Keeps s (execForceNoticeMissed dt s) := by
  refine keeps_of_steady dt ?_
  unfold execForceNoticeMissed
  generalize advance dt s = a
  simp

@[simp] theorem lasting_setTemp (s : State) (die : Nat) (t : Int) : lasting (setTemp s die t) = lasting s :=
  (within_setTemp ..).lasting

@[simp] theorem keeps_execTempWarning (dt die : Nat) (milliC : Int) (s : State) : Keeps s (execTempWarning dt die milliC s) := by
  simp [execTempWarning]

@[simp] theorem keeps_execTempFatal (dt die : Nat) (milliC : Int) (s : State) : Keeps s (execTempFatal dt die milliC s) := by
  simp [execTempFatal]

@[simp] theorem lasting_opLampTest (s : State) : lasting (opLampTest s).s = lasting s := by
  simp [opLampTest]

@[simp] theorem keeps_execLampTest (dt : Nat) (rq : Req) (s : State) : Keeps s (execLampTest dt rq s) := by
  simp [execLampTest]

@[simp] theorem keeps_execLampTestEnd (dt : Nat) (s : State) : Keeps s (execLampTestEnd dt s) := by
  refine keeps_of_steady dt ?_
  unfold execLampTestEnd
  generalize advance dt s = a
  simp

@[simp] theorem lasting_opFwImageApply (s : State) (rq : Req) (slot : Nat) : lasting (opFwImageApply s rq slot).s = lasting s := by
  simp [opFwImageApply]

@[simp] theorem keeps_execFwImageApply (dt : Nat) (rq : Req) (slot : Nat) (s : State) : Keeps s (execFwImageApply dt rq slot s) := by
  simp [execFwImageApply]

@[simp] theorem lasting_fwMark (s : State) (slot : Nat) : lasting (fwMark s slot) = lasting s := by
  simp [fwMark]

@[simp] theorem lasting_fwLog (s : State) (slot svn outcome : Nat) : lasting (fwLog s slot svn outcome) = lasting s := by
  simp [fwLog]

@[simp] theorem keeps_execFwApplyDone (dt : Nat) (obj : SignedObj) (s : State) : Keeps s (execFwApplyDone dt obj s) := by
  refine keeps_of_steady dt ?_
  unfold execFwApplyDone
  generalize advance dt s = a
  dsimp only
  split <;> simp

@[simp] theorem lasting_opFwActivate (s : State) (slot : Nat) : lasting (opFwActivate s slot).s = lasting s := by
  simp [opFwActivate]

@[simp] theorem keeps_execFwActivate (dt : Nat) (rq : Req) (slot : Nat) (s : State) : Keeps s (execFwActivate dt rq slot s) := by
  simp [execFwActivate]

/-! ## Units and dies -/

@[simp] theorem lasting_opUnitDisable (s : State) (n : Nat) : lasting (opUnitDisable s n).s = lasting s := by
  simp [opUnitDisable]

@[simp] theorem keeps_execUnitDisable (dt : Nat) (rq : Req) (sub : Nat) (s : State) : Keeps s (execUnitDisable dt rq sub s) := by
  simp [execUnitDisable]

@[simp] theorem lasting_opUnitEnable (s : State) (n : Nat) : lasting (opUnitEnable s n).s = lasting s := by
  simp [opUnitEnable]

@[simp] theorem keeps_execUnitEnable (dt : Nat) (rq : Req) (sub : Nat) (s : State) : Keeps s (execUnitEnable dt rq sub s) := by
  simp [execUnitEnable]

@[simp] theorem lasting_unitStop (s : State) (n : Nat) : lasting (unitStop s n) = lasting s := by
  unfold unitStop
  split <;> simp

@[simp] theorem keeps_execUnitDrained (dt sub : Nat) (s : State) : Keeps s (execUnitDrained dt sub s) := by
  simp [execUnitDrained]

@[simp] theorem lasting_gooseFail (s : State) : lasting (gooseFail s) = lasting s := by
  simp only [gooseFail, lasting_txResume]
  refine Eq.trans rfl (lasting_foldl (fun s x => ?_) _ s)
  split <;> simp

@[simp] theorem lasting_osFail (s : State) : lasting (osFail s) = lasting s := by
  simp [osFail, lasting_foldl]

@[simp] theorem lasting_ttFail (s : State) : lasting (ttFail s) = lasting s := by
  simp [ttFail, lasting_foldl]

@[simp] theorem lasting_dmaFail (s : State) : lasting (dmaFail s) = lasting s := by
  simp [dmaFail, lasting_foldl]

@[simp] theorem lasting_exportFail (s : State) : lasting (exportFail s) = lasting s := by
  unfold exportFail
  split <;> simp

@[simp] theorem lasting_vaultFail (s : State) : lasting (vaultFail s) = lasting s := by
  simp [vaultFail, lasting_foldl]

@[simp] theorem lasting_portsFail (s : State) (u : Nat) : lasting (portsFail s u) = lasting s := by
  simp [portsFail, lasting_foldl]

@[simp] theorem lasting_sessFail (s : State) : lasting (sessFail s) = lasting s :=
  lasting_foldl (fun s x => lasting_foldl (fun s y => by simp) _ _) _ _

@[simp] theorem lasting_storeFail (s : State) : lasting (storeFail s) = lasting s := by
  unfold storeFail
  dsimp only
  split <;> simp

@[simp] theorem lasting_unitFault (s : State) (n : Nat) : lasting (unitFault s n) = lasting s := by
  unfold unitFault
  split <;> simp

@[simp] theorem lasting_unreserve (s : State) (c : Option Nat) : lasting (unreserve s c) = lasting s := by
  unfold unreserve
  split <;> simp

@[simp] theorem lasting_flowFence (s : State) (f : Nat) : lasting (flowFence s f) = lasting s := by
  unfold flowFence
  split
  · simp
  · simp [lasting_foldl]

@[simp] theorem lasting_gooseFence (s : State) : lasting (gooseFence s) = lasting s := by
  simp only [gooseFence, lasting_txResume]
  refine Eq.trans rfl (lasting_foldl (fun s x => ?_) _ s)
  split
  · split <;> simp
  · simp

@[simp] theorem lasting_bolUnitFence (s : State) : lasting (bolUnitFence s) = lasting s := by
  unfold bolUnitFence
  refine (lasting_foldl (fun s c => ?_) _ _).trans (by simp)
  split
  · split <;> simp
  · rfl

@[simp] theorem lasting_unitFence (s : State) (n : Nat) : lasting (unitFence s n) = lasting s := by
  unfold unitFence
  split
  case h_6 => simp [lasting_foldl]
  all_goals simp

@[simp] theorem keeps_execDisableTimeoutExpiry (dt : Nat) (d : Drain) (s : State) : Keeps s (execDisableTimeoutExpiry dt d s) := by
  refine keeps_of_steady dt ?_
  unfold execDisableTimeoutExpiry
  generalize advance dt s = a
  split
  · simp
  · simp
  · dsimp only
    split <;> simp

@[simp] theorem keeps_execInternalCheckFail (dt sub : Nat) (s : State) : Keeps s (execInternalCheckFail dt sub s) := by
  simp [execInternalCheckFail]

/-! ## The objects -/

@[simp] theorem lasting_putPortEnable (s : State) (sub : Nat) (v : Val) : lasting (putPortEnable s sub v).s = lasting s := by
  simp [putPortEnable]

@[simp] theorem lasting_putBaseRate (s : State) (v : Val) : lasting (putBaseRate s v).s = lasting s := by
  simp [putBaseRate]

@[simp] theorem lasting_putPtp (s : State) (ob sub : Nat) (v : Val) : lasting (putPtp s ob sub v).s = lasting s := by
  unfold putPtp
  dsimp only
  split
  · simp
  · split <;> simp

@[simp] theorem lasting_putBankPair (s : State) (n seq idx ob sub row : Nat) (v : Val) :
    lasting (putBankPair s n seq idx ob sub row v).s = lasting s := by
  simp [putBankPair]

@[simp] theorem lasting_writeK (seq idx : Nat) (s : State) (n ob sub row : Nat) (v : Val) :
    lasting (writeK seq idx s n ob sub row v).s = lasting s := by
  unfold writeK
  split <;> simp

@[simp] theorem lasting_writeHook (seq idx : Nat) (s : State) (n ob sub row : Nat) (v : Val) :
    lasting (writeHook seq idx s n ob sub row v).s = lasting s := by
  simp [writeHook]

@[simp] theorem lasting_writeRow (seq idx : Nat) (s : State) (n : Nat) (ad : Addr) (row : Nat) (d : Desc) (v : Val) :
    lasting (writeRow seq idx s n ad row d v).s = lasting s := by
  simp [writeRow]

@[simp] theorem lasting_opPathReset (s : State) : lasting (opPathReset s).s = lasting s := by
  simp [opPathReset]

@[simp] theorem lasting_opSessionClose (s : State) (n : Nat) : lasting (opSessionClose s n).s = lasting s := by
  unfold opSessionClose
  split <;> simp

/-- Of the commands COMMISSION, DECOMMISSION and FW_SVN_CONFIRM change what lasts. -/
theorem ahead_cmdOp (rq : Req) (ob sub : Nat) (v : Val) (s : State) : Ahead s (cmdOp rq ob sub v s).s := by
  unfold cmdOp
  split
  case h_1 => exact ahead_opCommission s
  case h_4 => exact ahead_opDecommission ..
  case h_52 => exact ahead_opFwSvnConfirm s
  all_goals exact ahead_of_lasting (by simp)

@[simp] theorem keeps_execPathReset (dt : Nat) (rq : Req) (s : State) : Keeps s (execPathReset dt rq s) := by
  simp [execPathReset]

@[simp] theorem keeps_execSessionClose (dt : Nat) (rq : Req) (n : Nat) (s : State) : Keeps s (execSessionClose dt rq n s) := by
  simp [execSessionClose]

/-! ## Messages -/

@[simp] theorem keeps_execDtlsClientHello (dt port : Nat) (h : ClientHello) (s : State) : Keeps s (execDtlsClientHello dt port h s) := by
  refine keeps_of_steady dt ?_
  unfold execDtlsClientHello
  generalize advance dt s = a
  dsimp only
  split
  · simp
  · split <;> simp

@[simp] theorem lasting_helloLog (s : State) (n role port result : Nat) : lasting (helloLog s n role port result) = lasting s := by
  simp [helloLog]

@[simp] theorem lasting_helloRefuse (s : State) (k : Nat) (a : Assoc) (h : HelloReq) (st : Nat) :
    lasting (helloRefuse s k a h st) = lasting s := by
  simp [helloRefuse]

@[simp] theorem lasting_helloDo (rq : Req) (role : Nat) (s : State) (se : Sess) : lasting (helloDo rq role s se) = lasting s := by
  simp [helloDo]

@[simp] theorem lasting_helloAgain (s : State) (n : Nat) (h : HelloReq) : lasting (helloAgain s n h) = lasting s := by
  simp [helloAgain]

@[simp] theorem keeps_execHello (dt assoc : Nat) (h : HelloReq) (s : State) : Keeps s (execHello dt assoc h s) := by
  refine keeps_of_steady dt ?_
  unfold execHello
  generalize advance dt s = a
  dsimp only
  split
  · simp
  · split
    · simp
    · split
      · simp
      · split
        · simp
        · split <;> simp

@[simp] theorem lasting_gwAsk (s : State) (rq : Req) (se : Sess) (idx op : Nat) (ad : Addr) (typ : Nat) (bytes : List Byte) :
    lasting (gwAsk s rq se idx op ad typ bytes).2 = lasting s := by
  simp [gwAsk, apply_ite Prod.snd]

@[simp] theorem lasting_gwDone (s : State) (p : Nat) (e : RespE) : lasting (gwDone s p e) = lasting s := by
  unfold gwDone
  split <;> simp

@[simp] theorem lasting_replyIn (s : State) (c p code len : Nat) (ws : List Word) : lasting (replyIn s c p code len ws) = lasting s := by
  simp [replyIn]

@[simp] theorem keeps_execGatewayReply (dt p code len : Nat) (ws : List Word) (s : State) :
    Keeps s (execGatewayReply dt p code len ws s) := by
  refine keeps_of_steady dt ?_
  unfold execGatewayReply
  generalize advance dt s = a
  dsimp only
  split
  · simp
  · split
    · simp
    · split
      · simp
      · split
        · simp
        · split
          · simp
          · split <;> simp

@[simp] theorem keeps_execGatewayTimeout (dt p : Nat) (s : State) : Keeps s (execGatewayTimeout dt p s) := by
  refine keeps_of_steady dt ?_
  unfold execGatewayTimeout
  generalize advance dt s = a
  dsimp only
  split <;> simp

@[simp] theorem lasting_readAll (rq : Req) (se : Sess) (staged : Bool) (idx : Nat) (ads : List Addr) (s : State) :
    lasting (readAll rq se staged idx ads s).2.2 = lasting s := by
  induction ads generalizing idx s with
  | nil => rfl
  | cons ad r ih =>
    simp [readAll, ih, apply_ite Prod.snd]

@[simp] theorem lasting_refuse (s : State) (rq : Req) (op st : Nat) : lasting (refuse s rq op st) = lasting s := by
  simp [refuse]

@[simp] theorem lasting_keepRest (s : State) (rq : Req) (b : ReqBody) (idx : Nat) (all : Bool) :
    lasting (keepRest s rq b idx all) = lasting s := by
  unfold keepRest
  split <;> simp

@[simp] theorem lasting_readDo (rq : Req) (staged : Bool) (addrs : List Addr) (s : State) (se : Sess) :
    lasting (readDo rq staged addrs s se) = lasting s := by
  simp [readDo]

@[simp] theorem keeps_execReadMsg (dt : Nat) (rq : Req) (staged : Bool) (addrs : List Addr) (s : State) :
    Keeps s (execReadMsg dt rq staged addrs s) := by
  simp [execReadMsg]

@[simp] theorem lasting_writeOne (s : State) (rq : Req) (se : Sess) (idx : Nat) (e : WEntry) :
    lasting (writeOne s rq se idx e).2 = lasting s := by
  simp [writeOne, apply_ite Prod.snd]

@[simp] theorem lasting_writeAll (rq : Req) (se : Sess) (idx : Nat) (es : List WEntry) (s : State) :
    lasting (writeAll rq se idx es s).2.2 = lasting s := by
  induction es generalizing idx s with
  | nil => rfl
  | cons e r ih => simp [writeAll, ih]

@[simp] theorem lasting_writeDo (rq : Req) (es : List WEntry) (s : State) (se : Sess) : lasting (writeDo rq es s se) = lasting s := by
  simp [writeDo]

@[simp] theorem keeps_execWriteMsg (dt : Nat) (rq : Req) (es : List WEntry) (s : State) : Keeps s (execWriteMsg dt rq es s) := by
  simp [execWriteMsg]

theorem ahead_execOne (s : State) (rq : Req) (se : Sess) (e : WEntry) : Ahead s (execOne s rq se e).s := by
  unfold execOne
  dsimp only
  split
  · exact ahead_of_lasting rfl
  · split
    · exact ahead_of_lasting rfl
    · split
      · exact ahead_of_lasting rfl
      · exact ahead_runExec (ahead_cmdOp ..) ..

theorem ahead_execDo (rq : Req) (e : WEntry) (s : State) (se : Sess) : Ahead s (execDo rq e s se) := by
  unfold execDo
  split
  · exact ahead_of_lasting (by simp)
  · exact (ahead_execOne ..).trans (ahead_of_lasting (lasting_answer ..))

@[simp] theorem keeps_execExecMsg (dt : Nat) (rq : Req) (e : WEntry) (s : State) : Keeps s (execExecMsg dt rq e s) := by
  refine (keeps_done ..).mpr ((ahead_advance dt s).trans ?_)
  exact ahead_onRequest (ahead_execDo rq e) ..

@[simp] theorem lasting_tableReadDo (rq : Req) (addr : Addr) (first rows : Nat) (s : State) (se : Sess) :
    lasting (tableReadDo rq addr first rows s se) = lasting s := by
  simp [tableReadDo]

@[simp] theorem keeps_execTableRead (dt : Nat) (rq : Req) (addr : Addr) (first rows : Nat) (s : State) :
    Keeps s (execTableRead dt rq addr first rows s) := by
  simp [execTableRead]

@[simp] theorem lasting_tableRow (s : State) (rq : Req) (se : Sess) (ad : Addr) (idx row : Nat) (bs : List Byte) :
    lasting (tableRow s rq se ad idx row bs).s = lasting s := by
  unfold tableRow
  split
  · simp
  · split
    · simp
    · split
      · simp
      · split
        · split <;> simp
        · simp

@[simp] theorem lasting_tableAll (rq : Req) (se : Sess) (ad : Addr) (first idx : Nat) (rows : List (List Byte)) (s : State) :
    lasting (tableAll rq se ad first idx rows s).2.2.2 = lasting s := by
  induction rows generalizing idx s with
  | nil => rfl
  | cons b r ih =>
    unfold tableAll
    dsimp only
    split
    · simp [ih]
    · split <;> simp

@[simp] theorem lasting_keepLeft (s : State) (rq : Req) (ad : Addr) (first idx : Nat) (l : List (List Byte)) :
    lasting (keepLeft s rq ad first idx l) = lasting s := by
  unfold keepLeft
  split <;> simp

@[simp] theorem lasting_tableWriteDo (rq : Req) (ad : Addr) (first : Nat) (rows : List (List Byte)) (s : State) (se : Sess) :
    lasting (tableWriteDo rq ad first rows s se) = lasting s := by
  simp [tableWriteDo]

@[simp] theorem keeps_execTableWrite (dt : Nat) (rq : Req) (addr : Addr) (first : Nat) (rows : List (List Byte)) (s : State) :
    Keeps s (execTableWrite dt rq addr first rows s) := by
  simp [execTableWrite]

@[simp] theorem keeps_execForceTableWrite (dt : Nat) (rq : Req) (row : Nat) (bytes : List Byte) (s : State) :
    Keeps s (execForceTableWrite dt rq row bytes s) := by
  simp [execForceTableWrite]

@[simp] theorem lasting_bulkAdd (s : State) (ad : Addr) (l : List Byte) : lasting (bulkAdd s ad l) = lasting s := by
  unfold bulkAdd
  split <;> simp

@[simp] theorem lasting_bulkDo (rq : Req) (addr : Addr) (isWrite : Bool) (offset count : Nat) (data : List Byte) (s : State) (se : Sess) :
    lasting (bulkDo rq addr isWrite offset count data s se) = lasting s := by
  simp [bulkDo]

@[simp] theorem keeps_execBulk (dt : Nat) (rq : Req) (addr : Addr) (isWrite : Bool) (offset count : Nat) (data : List Byte) (s : State) :
    Keeps s (execBulk dt rq addr isWrite offset count data s) := by
  simp [execBulk]

@[simp] theorem lasting_subscribeDo (rq : Req) (addr : Addr) (mode minInterval period deadband : Nat) (s : State) (se : Sess) :
    lasting (subscribeDo rq addr mode minInterval period deadband s se) = lasting s := by
  simp [subscribeDo]

@[simp] theorem keeps_execSubscribe (dt : Nat) (rq : Req) (addr : Addr) (mode minInterval period deadband : Nat) (s : State) :
    Keeps s (execSubscribe dt rq addr mode minInterval period deadband s) := by
  simp [execSubscribe]

@[simp] theorem keeps_execJalynDatagram (dt sess size version seq : Nat) (ackValid : Bool) (ackNo : Nat) (s : State) :
    Keeps s (execJalynDatagram dt sess size version seq ackValid ackNo s) := by
  refine keeps_of_steady dt ?_
  unfold execJalynDatagram
  generalize advance dt s = a
  split
  · simp
  · split
    · dsimp only
      split
      · simp
      · split <;> simp
    · dsimp only
      split
      · simp
      · split <;> simp

@[simp] theorem keeps_execAck (dt sess ackNo : Nat) (s : State) : Keeps s (execAck dt sess ackNo s) := by
  refine keeps_of_steady dt ?_
  unfold execAck
  generalize advance dt s = a
  dsimp only
  split
  · simp
  · split <;> simp

@[simp] theorem keeps_execJalynAckDue (dt sess : Nat) (s : State) : Keeps s (execJalynAckDue dt sess s) := by
  refine keeps_of_steady dt ?_
  unfold execJalynAckDue
  generalize advance dt s = a
  dsimp only
  split <;> simp

@[simp] theorem lasting_assocAgain (s : State) (k seq : Nat) : lasting (assocAgain s k seq) = lasting s := by
  unfold assocAgain
  split
  · simp
  · split <;> simp

@[simp] theorem keeps_execJalynRetransmit (dt sess seq : Nat) (s : State) : Keeps s (execJalynRetransmit dt sess seq s) := by
  refine keeps_of_steady dt ?_
  unfold execJalynRetransmit
  generalize advance dt s = a
  split
  · dsimp only
    split
    · simp
    · split <;> simp
  · dsimp only
    split
    · simp
    · split <;> simp

@[simp] theorem keeps_execSessionIdleNotice (dt sess : Nat) (s : State) : Keeps s (execSessionIdleNotice dt sess s) := by
  refine keeps_of_steady dt ?_
  unfold execSessionIdleNotice
  generalize advance dt s = a
  dsimp only
  split <;> simp

@[simp] theorem keeps_execSessionIdleExpiry (dt sess : Nat) (s : State) : Keeps s (execSessionIdleExpiry dt sess s) := by
  refine keeps_of_steady dt ?_
  unfold execSessionIdleExpiry
  generalize advance dt s = a
  dsimp only
  split <;> simp

@[simp] theorem keeps_execSessionCloseNoticeExpiry (dt n : Nat) (s : State) : Keeps s (execSessionCloseNoticeExpiry dt n s) := by
  refine keeps_of_steady dt ?_
  unfold execSessionCloseNoticeExpiry
  generalize advance dt s = a
  dsimp only
  split <;> simp

@[simp] theorem keeps_execNotifyPeriodic (dt sess subId : Nat) (s : State) : Keeps s (execNotifyPeriodic dt sess subId s) := by
  refine keeps_of_steady dt ?_
  unfold execNotifyPeriodic
  generalize advance dt s = a
  dsimp only
  split
  · simp
  · split <;> simp

@[simp] theorem keeps_execNotifyMinIntervalEnd (dt sess subId : Nat) (s : State) : Keeps s (execNotifyMinIntervalEnd dt sess subId s) := by
  refine keeps_of_steady dt ?_
  unfold execNotifyMinIntervalEnd
  generalize advance dt s = a
  dsimp only
  split
  · simp
  · split <;> simp

@[simp] theorem keeps_execExecDone (dt sess reqId : Nat) (s : State) : Keeps s (execExecDone dt sess reqId s) := by
  refine keeps_of_steady dt ?_
  unfold execExecDone
  generalize advance dt s = a
  dsimp only
  split
  · simp
  · split <;> simp

@[simp] theorem keeps_execNotifyLost (dt sess : Nat) (s : State) : Keeps s (execNotifyLost dt sess s) := by
  simp [execNotifyLost]

@[simp] theorem keeps_execRelayDatagram (dt : Nat) (fromPartner : Bool) (bytes : List Byte) (s : State) :
    Keeps s (execRelayDatagram dt fromPartner bytes s) := by
  refine keeps_of_steady dt ?_
  unfold execRelayDatagram
  generalize advance dt s = a
  simp

/-! ## Every command -/

/-- No command takes back what lasts: each answers by its own rule above. -/
theorem keeps_exec (i : Instr) (s : State) : Keeps s (exec i s) := by
  cases i <;> simp [exec]

/-- Settles O58, by what each command does to the values that last: most leave them after the wait, which only moves local time on; the
commit of a stage raises the bundle's minimum, FW_SVN_CONFIRM the firmware's, a tamper event the count of records, and COMMISSION and
DECOMMISSION blow a fuse. -/
theorem nothingIsTakenBack : Obligations.NothingIsTakenBack := by
  unfold Obligations.NothingIsTakenBack
  intro i s t h
  exact onward_of_ahead (keeps_exec i s t h)

end Sys2Proof.Machine
end

section
/-! PROOF. Values as octets and back (R112, R113). -/
namespace Sys2Proof.Machine

theorem leN_succ (n v : Nat) : leN (n + 1) v = BitVec.ofNat 8 v :: leN n (v / 256) := by
  simp only [leN, upto, List.range_succ_eq_map, List.map_cons, List.map_map, List.cons.injEq]
  refine ⟨by simp, List.map_congr_left fun i _ => ?_⟩
  rw [Function.comp_apply, Nat.div_div_eq_div_mul, Nat.succ_eq_add_one, Nat.mul_add, pow_add, Nat.mul_comm]
  rfl

@[simp] theorem length_leN (n v : Nat) : (leN n v).length = n := by simp [leN, upto]

@[simp] theorem length_leI (n : Nat) (x : Int) : (leI n x).length = n := length_leN ..

/-- The octets of a number hold it, modulo what they can hold. -/
theorem ofLe_leN (n v : Nat) : ofLe (leN n v) = v % 256 ^ n := by
  induction n generalizing v with
  | zero => simp [leN, upto, ofLe, Nat.mod_one]
  | succ n ih => rw [leN_succ, ofLe, ih, pow_succ', Nat.mod_mul, BitVec.toNat_ofNat]

theorem ofLe_leN_of_lt {n v : Nat} (h : v < 256 ^ n) : ofLe (leN n v) = v := by rw [ofLe_leN, Nat.mod_eq_of_lt h]

/-- A signed number within 8n bits is read back from its n octets: n is 2, 4 or 8 (R112). -/
theorem ofBits_leI {n : Nat} {x : Int} (hn : n = 2 ∨ n = 4 ∨ n = 8) (hlo : -2 ^ (8 * n - 1) ≤ x) (hhi : x < 2 ^ (8 * n - 1)) :
    ofBits (ofLe (leI n x)) (8 * n) = x := by
  rcases hn with rfl | rfl | rfl <;>
  · simp only [leI, ofLe_leN, toBits, ofBits] at *
    norm_num at *
    split <;> omega

theorem length_padTo (n : Nat) (l : List Byte) : (padTo n l).length = n := by simp [padTo]

theorem padTo_of_length {n : Nat} {l : List Byte} (h : l.length = n) : padTo n l = l := by
  subst h
  simp [padTo]

/-- Zero octets behind a text fall away when it is read. -/
theorem trimZ_append_zeros (l : List Byte) (n : Nat) : trimZ (l ++ List.replicate n 0) = trimZ l := by
  induction n with
  | zero => simp
  | succ n ih =>
    rw [List.replicate_succ', ← List.append_assoc, ← ih]
    simp [trimZ]

theorem trimZ_padTo {n : Nat} {l : List Byte} (h : l.length ≤ n) : trimZ (padTo n l) = trimZ l := by
  have : padTo n l = l ++ List.replicate (n - l.length) 0 := by
    rw [padTo, List.take_append, List.take_of_length_le h, List.take_replicate, Nat.min_eq_left (by omega)]
  rw [this, trimZ_append_zeros]

/-- The octets of a field that is no OCT or STR fill its length. -/
theorem length_encF {t : FT} (h : ftVar t = false) (f : Fld) : (encF t f).length = ftLen t := by
  cases t <;> simp_all [encF, ftLen, ftVar]

/-- A value of a field's type is read back from its octets. -/
theorem decF_encF {t : FT} {f : Fld} (h : fldOk t f = true) : decF t (encF t f) = .ok f := by
  have hlen : ((encF t f).length > ftLen t || (!ftVar t && (encF t f).length != ftLen t)) = false := by
    cases ht : ftVar t with
    | false => simp [length_encF ht]
    | true => cases t <;> cases f <;> simp_all [ftVar, fldOk, encF, ftLen, fldO]
  unfold decF
  rw [hlen]
  cases f with
  | o l => cases t <;> simp_all [fldOk, encF, fldO]
  | i x =>
    have hread (n : Nat) := @ofBits_leI n x
    cases t with
    | i16 => simpa [encF, fldI] using hread 2 (by simp) (by simp_all [fldOk]) (by simp_all [fldOk])
    | i32 => simpa [encF, fldI] using hread 4 (by simp) (by simp_all [fldOk]) (by simp_all [fldOk])
    | i64 | time => simpa [encF, fldI] using hread 8 (by simp) (by simp_all [fldOk]) (by simp_all [fldOk])
    | _ => simp [fldOk] at h
  | n x =>
    have hread (n : Nat) (hx : x < 256 ^ n) : ofLe (leN n x) = x := ofLe_leN_of_lt hx
    cases t with
    | bool => simp_all [fldOk, encF, fldN, ftLen, hread 1 (by simp [fldOk] at h; omega)]
    | oct | str | i16 | i32 | i64 | time => simp [fldOk] at h
    | _ => simpa [encF, fldN] using hread _ (of_decide_eq_true h)

/-- A field within a record is read back from its octets, padded to its full length. -/
theorem decF_recField {t : FT} {f : Fld} {fs : List FT} {v : Val} (h : recOk (t :: fs) (f :: v) = true) :
    decF t (recOct t (padTo (ftLen t) (encF t f))) = .ok f := by
  simp only [recOk, Bool.and_eq_true] at h
  obtain ⟨⟨hf, hfull⟩, -⟩ := h
  rw [← decF_encF hf]
  congr 1
  cases t with
  | oct m => exact padTo_of_length (beq_iff_eq.1 hfull)
  | str m =>
    have hlen : (fldO f).length ≤ m := by cases f <;> simp_all [fldOk, fldO]
    exact (trimZ_padTo hlen).trans (beq_iff_eq.1 hfull)
  | _ => exact padTo_of_length (length_encF rfl f)

/-- A record's values are read back from its octets, field by field. -/
theorem decRec_encRec {fs : List FT} {v : Val} (h : recOk fs v = true) : decRec fs (encRec fs v) = .ok v := by
  induction fs generalizing v with
  | nil =>
    cases v with
    | nil => rfl
    | cons f v => simp [recOk] at h
  | cons t fs ih =>
    cases v with
    | nil => simp [recOk] at h
    | cons f v =>
      have hrest : recOk fs v = true := by simp only [recOk, Bool.and_eq_true] at h; exact h.2
      have henc : encRec (t :: fs) (f :: v) = padTo (ftLen t) (encF t f) ++ encRec fs v := rfl
      rw [henc, decRec, if_neg (by simp [length_padTo]), List.take_left' (length_padTo ..), List.drop_left' (length_padTo ..),
        decF_recField h, ih hrest]

/-- A value of an object's type is read back from its octets under the type's code. -/
theorem decVal_encVal {ty : OTyp} {v : Val} (h : valOk ty v = true) : decVal ty (typCode ty) (encVal ty v) = .ok v := by
  cases ty with
  | none => simp_all [valOk, decVal, encVal]
  | one t =>
    simp only [valOk, Bool.and_eq_true, beq_iff_eq] at h
    obtain ⟨hone, hfld⟩ := h
    obtain ⟨f, rfl⟩ := List.length_eq_one_iff.1 hone
    have hdec : decF t (encF t f) = .ok f := decF_encF hfld
    simp only [decVal, encVal, bne_self_eq_false, Bool.false_eq_true, if_false]
    exact congrArg (Except.map fun f => [f]) hdec
  | record fs => simpa [decVal, encVal] using decRec_encRec h
  | tbl fs n => simpa [decVal, encVal] using decRec_encRec h

end Sys2Proof.Machine

open Sys2Proof Sys2Proof.Machine

/-- Settles O59: a field's octets hold its value (decF_encF), a record's fields follow one another (decRec_encRec), and a code or a
length that is not the type's is judged before any octet is read. -/
theorem valuesDecodeAsEncoded : Obligations.ValuesDecodeAsEncoded := by
  unfold Obligations.ValuesDecodeAsEncoded
  refine ⟨fun ty v h => decVal_encVal h, fun ty typ bs h => ?otherCode, fun t bs hfixed hlen => ?otherLength⟩
  case otherCode => simp [decVal, h]
  case otherLength => simp [decVal, typCode, decF, hfixed, hlen, Except.map]
end

section
/-! PROOF. A step: the command at the front of the queue, or the platform's turn (R153, entries 1 and 2). -/
namespace Sys2Proof.Machine

/-- With no message handed to transmission nothing leaves. -/
theorem jalynOut_idle {s : State} (hout : s.jal.out = []) (hsess : ∀ x ∈ s.jal.sess, x.2.out = []) : jalynOut s = s := by
  have hnone : (s.jal.out ++ s.jal.sess.flatMap fun (_, x) => x.out.map fun m => (x.port, m)) = [] := by
    simp only [hout, List.nil_append, List.flatMap_eq_nil_iff, List.map_eq_nil_iff]
    exact hsess
  unfold jalynOut
  simp only [hnone, List.isEmpty_nil, if_true]

/-- A session without entries left, rows left or a request held has nothing to go on with. -/
theorem no_turn {se : Sess} (hrest : se.rest = none) (hheld : se.held = []) (hleft : se.left = none) :
    (se.rest.isSome || (leftTurn se).isSome || (turnOf se).isSome) = false := by
  simp [hrest, hheld, hleft, leftTurn, turnOf]

theorem platformTurn_down {s : State} (h : jalynUp s = false) : platformTurn s = s := by simp [platformTurn, h]

theorem platformTurn_idle {s : State} (hout : s.jal.out = [])
    (hsess : ∀ x ∈ s.jal.sess, x.2.out = [] ∧ x.2.rest = none ∧ x.2.held = [] ∧ x.2.left = none) : platformTurn s = s := by
  have hquiet : jalynOut s = s := jalynOut_idle hout fun x hx => (hsess x hx).1
  have hnone : (s.jal.sess.find? fun (_, x) => x.rest.isSome || (leftTurn x).isSome || (turnOf x).isSome) = none := by
    refine List.find?_eq_none.2 fun x hx => ?_
    obtain ⟨-, hrest, hheld, hleft⟩ := hsess x hx
    simpa using no_turn hrest hheld hleft
  unfold platformTurn
  simp only [hquiet, hnone, ite_self]

end Sys2Proof.Machine

open Sys2Proof Sys2Proof.Machine

/-- Settles O54: a step looks at the queue first; the platform's turn without Jalyn, or with nothing to send or go on with, is idle. -/
theorem aStepRunsTheFrontCommand : Obligations.AStepRunsTheFrontCommand := by
  unfold Obligations.AStepRunsTheFrontCommand
  have hturn (s : State) (h : s.pending = []) : step s = .next (platformTurn s) := by simp [step, h]
  refine ⟨fun c r s => rfl, hturn, fun s h hidle => (hturn s h).trans (congrArg _ ?_)⟩
  rcases hidle with hdown | ⟨hout, hsess⟩
  · exact platformTurn_down hdown
  · exact platformTurn_idle hout hsess
end

section
/-! PROOF. The dictionary at reset (R92, R123). -/
namespace Sys2Proof.Machine

/-- The objects whose Default the spec gives by variant or not at all, and the five live supply and temperature measurements. -/
def noStatedDefault : List Nat :=
  [0x000001, 0x000010, 0x000020, 0x000021, 0x000022, 0x010001, 0x100003, 0x100010, 0x180008, 0x180026, 0x200102, 0x210003, 0x240013,
    0x240101, 0x290111, 0x300001, 0x300002, 0x300021, 0x310050, 0x380001, 0x400004, 0x400015, 0x400016, 0x400020, 0x440001, 0x480030,
    0x480031, 0x480033, 0x500001, 0x500003, 0x580022, 0x5C0002, 0x5C0041, 0x600100, 0x600101, 0x600104, 0x600105, 0x600110, 0x600141,
    0x700014]

/-- Does every scalar or record object of an area that may be read, and whose Default is stated, read it after reset at sub 0. -/
def areaAtDefaults (ar : Nat) : Bool :=
  (areaDict ar).all fun d => d.acc == .cmd || d.acc == .wo || isTable d.typ || noStatedDefault.contains (ar * 65536 + d.obj) ||
    curVal State.reset (ar * 65536 + d.obj) 0 == d.dflt

/-- The 24 areas with objects are read through, row by row; the others have none. -/
theorem areasAtDefaults : ((List.range 128).all areaAtDefaults) = true := by decide +kernel

theorem curVal_reset_of_readable {ar : Nat} (har : ar ∈ List.range 128) {d : Desc} (hd : d ∈ areaDict ar) (hc : d.acc ≠ .cmd)
    (hw : d.acc ≠ .wo) (ht : isTable d.typ = false) (hn : ar * 65536 + d.obj ∉ noStatedDefault) :
    curVal State.reset (ar * 65536 + d.obj) 0 = d.dflt := by
  have h := List.all_eq_true.1 (List.all_eq_true.1 areasAtDefaults ar har) d hd
  simpa [hc, hw, ht, hn] using h

theorem curVal_reset_byVariant :
    curVal State.reset 0x180008 0 = [.n 3600] ∧ curVal State.reset 0x240013 0 = [.n 4] ∧ curVal State.reset 0x240013 1 = [.n 0] ∧
      curVal State.reset 0x400004 0 = [.n 1] ∧ curVal State.reset 0x010001 0 = [.n 1] := by decide +kernel

end Sys2Proof.Machine

open Sys2Proof Sys2Proof.Machine

/-- Settles O60: the dictionary is finite, so its rows are read at reset one by one. -/
theorem resetShowsTheDefaults : Obligations.ResetShowsTheDefaults := by
  unfold Obligations.ResetShowsTheDefaults
  exact ⟨fun ar har d hd hc hw ht hn => curVal_reset_of_readable har hd hc hw ht hn, curVal_reset_byVariant⟩
end

section
/-! PROOF. Window reads that latch a pair or clear a count (R129, R292, R406, R491). -/
namespace Sys2Proof.Machine

theorem within_snapLatch (s : State) (p core off : Nat) : Within [.tt] s (snapLatch s p core off) := by
  unfold snapLatch
  split
  · exact ⟨fun c hc => by cases c <;> simp_all [Comp.same]⟩
  · exact Within.refl ..

theorem within_setImg (s : State) (t : Nat) (x : ImgSt) : Within [.cond] s (setImg s t x) :=
  ⟨fun c hc => by cases c <;> simp_all [Comp.same, setImg]⟩

theorem within_setPf (s : State) (p : Nat) (x : PfPart) : Within [.pf] s (setPf s p x) :=
  ⟨fun c hc => by cases c <;> simp_all [Comp.same, setPf]⟩

@[simp] theorem pfOf_setPf (s : State) (p : Nat) (x : PfPart) : pfOf (setPf s p x) p = x := by simp [pfOf, setPf]

/-- The snapshot of a pair depends on what the core latched, once it has latched it. -/
theorem snapOf_latched {t : State} {p core off : Nat} {x : Nat × Nat} (h : tabGet t.tt.snaps (core * 65536 + off) = some x) :
    snapOf t p core off = x := by
  simp only [snapOf, h]

/-- What a core's read of a LO register latches stands until it reads the pair again. -/
theorem snapOf_snapLatch {s : State} {p core off v st : Nat} (h : pairAt s p off = some (v, st)) :
    snapOf (settle (snapLatch s p core off)) p core off = (v / 4294967296, st) :=
  snapOf_latched (by simp only [settle_tt, snapLatch, h, tabGet_tabPut_self])

/-- The HI register and the status register of the time counter's pair read its snapshot. -/
theorem winRead_timePair (t : State) (p core : Nat) :
    winRead t p core 0x34 = (snapOf t p core 0x30).1 ∧ winRead t p core 0x38 = (snapOf t p core 0x30).2 := by
  simp [winRead]

end Sys2Proof.Machine

open Sys2Proof Sys2Proof.Machine

/-- Settles O24: a read of a LO register only keeps the pair's present value for the core, and the three other reads put a record back
with its count and SAT bit cleared. -/
theorem windowReadsLatchAndClear : Obligations.WindowReadsLatchAndClear := by
  intro dt s a
  refine ⟨fun p core offset v st hpair => ?latch, fun p core => ?missed, fun p core => ?denied, fun p core slot j htask => ?overrun⟩
  case latch =>
    have hsnap := snapOf_snapLatch (core := core) hpair
    refine does_within rfl (within_snapLatch a p core offset) ⟨hsnap, fun hoff => ?_⟩
    subst hoff
    have hread := winRead_timePair (settle (snapLatch a p core 0x30)) p core
    rwa [hsnap] at hread
  case missed => exact does_within rfl (within_setImg ..) rfl
  case denied =>
    exact does_within rfl ((within_setPf a p { pfOf a p with denied := 0, deniedSat := false }).mono (by decide)) (pfOf_setPf ..)
  case overrun =>
    have hx : lgOverrunClear a p slot = setTask a j { taskOf a j with overrun := 0, overrunSat := false } := by
      simp only [lgOverrunClear, htask]
    exact does_within (congrArg done hx) (within_setTask ..) (taskOf_setTask ..)
end

section
/-! PROOF. Commands that change more than their clause lets them: what a concrete next state shows against a clause's frame or effect. -/
namespace Sys2Proof.Machine

/-- The next state a command answers. -/
def nextOf (i : Instr) (s : State) : State :=
  match exec i s with
  | .next t => t
  | _ => s

/-- A command that completes answers a next state within its frame, of which its effect holds. -/
theorem Does.nextOf {i : Instr} {s a : State} {but : List Comp} {eff : State → Prop} (h : Does i s a but eff) :
    Frame but a (nextOf i s) ∧ eff (nextOf i s) := by
  obtain ⟨t, hx, hf, he⟩ := h
  simp only [Machine.nextOf, hx]
  exact ⟨hf, he⟩

/-- Outside a frame that leaves Jalyn to the sessions' own entries, the holder of the stage set stays. -/
theorem Frame.holder {but : List Comp} {a t : State} (h : Frame but a t) (hj : Comp.jal ∉ but) : t.jal.holder = a.jal.holder := by
  have hsess : jalBut a t := h.1 hj
  rw [hsess]

/-- Firmware runs, and session 0, whose idle time is over, holds the stage set. -/
def holderIdle : State := { boot := { phase := .run }, jal := { sess := [(0, { role := .mgr })], holder := some 0 } }

/-- Session 0 holds the stage set and has sent a message six times. -/
def holderUnheard : State :=
  { boot := { phase := .run }, jal := { sess := [(0, { role := .mgr, unacked := [⟨1, 6, 250000000, 0, []⟩] })], holder := some 0 } }

theorem jalynRetransmit_frees_holder : (nextOf (.jalynRetransmit 0 0 1) holderUnheard).jal.holder = none := by decide +kernel

end Sys2Proof.Machine

open Sys2Proof Sys2Proof.Machine

/-- Refutes O47: the close of an idle session that holds the stage set frees it, as the clause itself says, while its frame lets nothing of
Jalyn change but the sessions' own entries. -/
theorem not_sessionsEnd : ¬ Obligations.SessionsEnd := by
  unfold Obligations.SessionsEnd
  intro h
  obtain ⟨-, hexpiry, -⟩ := h 0 holderIdle
  obtain ⟨hframe, -, -, hfreed⟩ := (hexpiry 0 { role := .mgr } (by decide) (by decide) (by decide)).nextOf
  obtain ⟨hnone, -⟩ := hfreed (by decide) (by decide) (by decide)
  have hstays : (nextOf (.sessionIdleExpiry 0 0) holderIdle).jal.holder = some 0 := hframe.holder (by decide)
  rw [hnone] at hstays
  cases hstays

/-- Refutes O46: the session that a sixth repetition closes may hold the stage set, and then frees it, outside the clause's frame. -/
theorem not_messagesAreNumberedAndAcknowledged : ¬ Obligations.MessagesAreNumberedAndAcknowledged := by
  unfold Obligations.MessagesAreNumberedAndAcknowledged
  intro h
  obtain ⟨-, -, -, -, -, -, -, -, -, hsixth⟩ := h 0 holderUnheard
  obtain ⟨hframe, -⟩ := (hsixth 0 1 _ ⟨1, 6, 250000000, 0, []⟩ (by decide) rfl (by decide +kernel) (by decide)).nextOf
  have hstays : (nextOf (.jalynRetransmit 0 0 1) holderUnheard).jal.holder = some 0 := hframe.holder (by decide)
  rw [jalynRetransmit_frees_holder] at hstays
  cases hstays
end

section
/-! PROOF. A commit's own parts may store a value: a group whose mode changes drops its links, and another PTP parent's UTC offset is learned
(R167, R217, R222). -/
namespace Sys2Proof.Machine

/-- A PTP grandmaster that announces a UTC offset of 37 s. -/
def masterOf37 : Announce :=
  { gmIdentity := [1], gmClass := 6, gmAccuracy := 0, gmVariance := 0, priority1 := 0, priority2 := 0, stepsRemoved := 0, utcOffset := 37
    utcValid := true, leap := 0, sender := [1] }

/-- A stage set with a mode for group 0 and a UTC_OFFSET of 36 s. -/
def modeAndOffset : List (Nat × Val) := [(okey 0x110001 0 0, [.n 1]), (okey 0x180005 0 0, [.i 36])]

/-- Firmware runs, that set is at its row, the parent is heard on port 0 of the group, and the same master is heard on port 2. -/
def offsetStaged : State :=
  { boot := { phase := .run, roll := [(6, { st := .ready })] }
    net := { ports := [(0, { st := 2 }), (2, { st := 2 })] }
    tm := { parent := some (0, masterOf37)
            ports := [(2, { lastAnn := some 0, foreign := [{ ann := masterOf37, last := 0, qual := true }] })] }
    jal := { commitRow := some 0, commitOwn := true, commitSet := modeAndOffset } }

/-- When the group's links fall, port 2 takes over, and the offset that its master announces is stored. -/
theorem stageApply_learns_offset : (nextOf (.stageApply 0) offsetStaged).val 0x180005 0 0 = [.i 37] := by decide +kernel

end Sys2Proof.Machine

open Sys2Proof Sys2Proof.Machine

/-- Refutes O13: an object of a set applied at its row need not hold its value, as UTC_OFFSET, when the set's change of a group's mode makes
another port the PTP slave, holds what the parent there announces. -/
theorem not_banksProfilesAndTheStageSet : ¬ Obligations.BanksProfilesAndTheStageSet := by
  unfold Obligations.BanksProfilesAndTheStageSet
  intro h
  obtain ⟨-, -, -, -, -, -, -, -, happly, -⟩ := h 0 offsetStaged
  have hdoes := happly 0 modeAndOffset 0x180005 0 [.i 36] rfl (by decide) (by decide) rfl (by decide) (by decide) (by decide) (by decide) rfl
  obtain ⟨-, -, -, -, -, -, hheld, -⟩ := hdoes.nextOf
  rw [stageApply_learns_offset] at hheld
  exact absurd hheld (by decide)
end

section
/-! PROOF. A READ of RTC_NOW while a latch is held (R521): the read releases the latch. -/
namespace Sys2Proof.Machine

/-- An operational module whose vault unit is READY, with a latch of the RTC held; session 0 is open. -/
def rtcLatched : State where
  boot := { phase := .run, fuseComm := true, roll := [(0, { st := .ready })] }
  jal := { sess := [(0, { role := .mgr })] }
  rtc := { latch := some ({}, 0), latchDue := 1000000 }

/-- Session 0's request to read RTC_NOW. -/
def readRtc : Instr := .readMsg 0 { sess := 0, seq := 1, reqId := 7 } false [addrOf 0x500001 0]

theorem readRtc_releases_latch : (nextOf readRtc rtcLatched).rtc.latch = none := by decide +kernel

end Sys2Proof.Machine

open Sys2Proof Sys2Proof.Machine

/-- Refutes O48: a READ of RTC_NOW releases the latch that serves it, and so changes the RTC, which the clause's frame shuts out. -/
theorem not_objectsAreReadWrittenAndExecuted : ¬ Obligations.ObjectsAreReadWrittenAndExecuted := by
  unfold Obligations.ObjectsAreReadWrittenAndExecuted
  intro h
  obtain ⟨hread, -⟩ := h 0 rtcLatched
  obtain ⟨⟨-, hagree⟩, -⟩ := (hread { sess := 0, seq := 1, reqId := 7 } false [addrOf 0x500001 0] { role := .mgr } (by decide +kernel)
    (by decide) (by decide) (by decide) (by decide) (by decide +kernel)).nextOf
  have hheld : (nextOf readRtc rtcLatched).rtc = (advance 0 rtcLatched).rtc := hagree .rtc (by decide)
  have hreleased : (nextOf readRtc rtcLatched).rtc.latch = none := readRtc_releases_latch
  rw [hheld] at hreleased
  cases hreleased
end

section
/-! PROOF. The end of a subscription's interval, while another subscription of the session sees a change (R155, R156). -/
namespace Sys2Proof.Machine

/-- A session's subscription to the number of open sessions: its interval has ended without a change. -/
def quietSub : Sub where
  addr := addrOf 0x020010 0
  mode := 0
  minNs := 1000000
  periodNs := 0
  deadband := 0
  seen := [1]
  held := some 0

/-- A subscription to the size of the stage set, last seen as 5. -/
def stageSub : Sub where
  addr := addrOf 0x020021 0
  mode := 0
  minNs := 0
  periodNs := 0
  deadband := 0
  seen := [5, 0]

/-- A session with both subscriptions and nothing queued. -/
def twoSubs : Sess where
  role := .mgr
  subs := [(0, quietSub), (1, stageSub)]

/-- Firmware runs, that session is open, and the stage set is empty. -/
def stageEmptied : State where
  boot := { phase := .run }
  jal := { sess := [(0, twoSubs)] }

theorem notifyMinIntervalEnd_queues_stageSub :
    ((sessOf (nextOf (.notifyMinIntervalEnd 0 0 0) stageEmptied) 0).map fun y => y.nq == twoSubs.nq) = some false := by
  decide +kernel

end Sys2Proof.Machine

open Sys2Proof Sys2Proof.Machine

/-- Refutes O50: the command's end lets every subscription of the session see its value, so another one's change may join the queue that
the clause for an interval without a change keeps as it was. -/
theorem not_notificationsAreDelivered : ¬ Obligations.NotificationsAreDelivered := by
  unfold Obligations.NotificationsAreDelivered
  intro h
  obtain ⟨-, -, -, -, hquiet, -⟩ := h 0 stageEmptied
  obtain ⟨-, heff⟩ := (hquiet 0 0 twoSubs quietSub (by decide) rfl rfl (by decide) rfl (by decide +kernel)).nextOf
  have hkept := congrArg (Option.map Prod.snd) heff
  rw [Option.map_map] at hkept
  exact absurd (notifyMinIntervalEnd_queues_stageSub.symm.trans hkept) (by decide)
end

section
/-! PROOF. A refused SUBSCRIBE on a session whose table of subscriptions does not rise. -/
namespace Sys2Proof.Machine

/-- A session whose subscriptions do not stand in the order of their numbers. -/
def fallingSubs : Sess where
  role := .mgr
  subs := [(1, quietSub), (0, stageSub)]

/-- Firmware runs on a module that nothing has provisioned, that session is open, and the stage set is empty. -/
def stageEmptiedFalling : State where
  boot := { phase := .run }
  jal := { sess := [(0, fallingSubs)] }

/-- Session 0 asks for a subscription, which the life cycle refuses. -/
def subscribeEarly : Instr := .subscribe 0 { sess := 0, seq := 1, reqId := 7 } (addrOf 0x020010 0) 0 0 0 0

theorem subscribeEarly_reorders_subs :
    ((sessOf (nextOf subscribeEarly stageEmptiedFalling) 0).map fun x => x.subs.map Prod.fst) = some [0, 1] := by decide +kernel

end Sys2Proof.Machine

open Sys2Proof Sys2Proof.Machine

/-- Refutes O49: a refused SUBSCRIBE ends as every command does, with the subscriptions seeing their values, and one that sees a change is
put back in the rising order of the table, which a state's table need not have. -/
theorem not_bulkAndSubscriptions : ¬ Obligations.BulkAndSubscriptions := by
  unfold Obligations.BulkAndSubscriptions
  intro h
  obtain ⟨-, -, -, -, -, -, hrefused⟩ := h 0 stageEmptiedFalling
  obtain ⟨-, hsubs, -⟩ := (hrefused { sess := 0, seq := 1, reqId := 7 } (addrOf 0x020010 0) 0 0 0 0 fallingSubs (by decide +kernel)
    (by decide) (by decide +kernel)).nextOf
  have hkept := congrArg (Option.map (List.map Prod.fst)) hsubs
  simp only [Option.map_map, Function.comp_def, List.map_map, Option.map_some] at hkept
  exact absurd (subscribeEarly_reorders_subs.symm.trans hkept) (by decide)
end

section
/-! PROOF. A reply that is posted and taken on a channel where another message waits for room (R162, R399). -/
namespace Sys2Proof.Machine

/-- The request under way: session 0 reads object 1 of partition 0's area. -/
def readAsked : GwReq where
  sess := 0
  seq := 4
  idx := 0
  role := 4
  op := 1
  addr := ⟨0x80, 1, 0⟩
  typ := 0
  bytes := []
  due := some 5
  posted := true

/-- The response that waits for the partition's reply. -/
def readPending : Resp where
  seq := 4
  reqId := 7
  op := 2
  entries := [⟨0xFFFF, 0, 0, []⟩]
  wait := [0]

/-- The words of partition 0's reply, an empty value. -/
def replyWords : List Word := [BitVec.ofNat 32 (gwWord1 readAsked), BitVec.ofNat 32 (gwWord2 readAsked), 0]

/-- Partition 0 runs; on channel 5, from it to the gateway, no message is queued and one waits for room. -/
def replyBehind : State where
  store := [(okey 0x340100 5 0, [.n 1, .n 0, .n 65, .n 2, .n 5, .n 255, .n 255, .n 1000])]
  boot := { phase := .run, roll := [(14, { st := .ready })] }
  parts := { ps := [(0, { st := .running })] }
  ph := { chans := [(5, { wait := [{ code := 0, len := 0, words := [] }] })] }
  jal := { gw := [(0, [readAsked])], sess := [(0, { role := .mgr, resps := [readPending] })] }

/-- The partition's reply arrives. -/
def replyArrives : Instr := .gatewayReply 0 0 0x0801 3 replyWords

theorem replyArrives_leaves_waiting : ((chanOf (nextOf replyArrives replyBehind) 5).q.length) = 1 := by decide +kernel

end Sys2Proof.Machine

open Sys2Proof Sys2Proof.Machine

/-- Refutes O51: as the reply leaves its channel, a message that waited there for room enters it, so the channel is not left empty. -/
theorem not_relayAndGateway : ¬ Obligations.RelayAndGateway := by
  unfold Obligations.RelayAndGateway
  intro h
  obtain ⟨-, -, -, -, hposted, -⟩ := h 0 replyBehind
  obtain ⟨-, -, hempty, -⟩ := (hposted 0 0x0801 3 replyWords 5 (replyMsg replyBehind 0x0801 3 replyWords) readAsked 0 0 []
    { role := .mgr, resps := [readPending] } readPending (by decide) (by decide +kernel) (by decide +kernel) (by decide +kernel)
    (by decide +kernel) rfl rfl (by decide +kernel) (by decide +kernel) (by decide +kernel) rfl (by decide +kernel) rfl rfl rfl).nextOf
  have hnone : (chanOf (nextOf replyArrives replyBehind) 5).q.length = 0 := congrArg List.length hempty
  exact absurd (replyArrives_leaves_waiting.symm.trans hnone) (by decide)
end

section
/-! PROOF. PORT_ADMIN of the pair's last lane written DISABLED (R173, R433, R473): a commit that waits for the partner is refused. -/

open Sys2Proof Sys2Proof.Machine

namespace Sys2Proof.Machine

/-- The operational module of `commitMirrored`, with session 0 open. -/
def commitMirroredOpen : State :=
  { commitMirrored with
    boot := { phase := .run, fuseComm := true }
    jal := { commitMid := some 1, sess := [(0, { role := .mgr })] } }

/-- Session 0's request to disable port IU0. -/
def disableIu0 : Req := { sess := 0, seq := 1, reqId := 7 }

/-- The lane falls, and with it the link, and the commit ends without effect. -/
theorem portAdminWrite_refuses_commit : midNext (.portAdminWrite 0 disableIu0 6 false) commitMirroredOpen = none := by decide +kernel

end Sys2Proof.Machine

/-- Refutes O7: a write of PORT_ADMIN that disables the pair's last lane takes the link down, which refuses the commit that waits for the
partner (R433): the Jalyn component changes, and its clause does not let it. -/
theorem not_linksAndPauseEnd : ¬ Obligations.LinksAndPauseEnd := by
  unfold Obligations.LinksAndPauseEnd
  intro h
  obtain ⟨-, -, -, hadmin, -⟩ := h 0 commitMirroredOpen
  have hdoes := hadmin disableIu0 6 false (by decide +kernel)
  have hstays : midNext (.portAdminWrite 0 disableIu0 6 false) commitMirroredOpen = some 1 := midNext_of_does hdoes (by decide)
  rw [portAdminWrite_refuses_commit] at hstays
  cases hstays
end

section
/-! PROOF. A partition's frame that follows another on the wire (R168, R194, R483): it leaves with the port's own source address. -/

open Sys2Proof Sys2Proof.Machine

namespace Sys2Proof.Machine

/-- The supervision frame on the wire. -/
def supervisionFrame : TxFrame where
  job := 0
  cls := 5
  len := 100
  what := .supervision 1 20

/-- What a partition sends: 14 octets of 0, for the destination, the source and the EtherType. -/
def zeroOctets : OutFrame where
  len := 14
  dst := 0
  etype := 0
  vid := 0
  appid := 0
  bytes := List.replicate 14 0

/-- The partition's frame, of the same class. -/
def zeroSourceFrame : TxFrame where
  job := 1
  cls := 5
  len := 64
  what := .ring zeroOctets

/-- Firmware runs, port 1 is up, that supervision frame is on its wire and the partition's frame waits behind it. -/
def partitionFrameNext : State where
  boot := { phase := .run }
  net := { ports := [(1, { st := 2, speed := 1000, wire := some supervisionFrame, q := [zeroSourceFrame] })] }

/-- The partition's frame starts, with the port's own address as its source. -/
theorem txFrameDone_writes_source : ((portOf (nextOf (.txFrameDone 0 1) partitionFrameNext) 1).wire.map TxFrame.what) =
    some (.ring { zeroOctets with bytes := List.replicate 6 0 ++ macBytes (ownMac partitionFrameNext 1) ++ [0, 0] }) := by decide +kernel

end Sys2Proof.Machine

/-- Refutes O8: the next frame is not on the wire as it was queued when it is a partition's: as it starts, its source address is overwritten
by the port's own (R168, R483), while the clause on TX_FRAME_DONE keeps what it carries. -/
theorem not_framesLeaveAndArrive : ¬ Obligations.FramesLeaveAndArrive := by
  unfold Obligations.FramesLeaveAndArrive
  intro h
  obtain ⟨-, -, -, -, -, hnext, -⟩ := h 0 partitionFrameNext
  have hdoes := hnext 1 supervisionFrame zeroSourceFrame [] (by decide) rfl rfl rfl rfl (by decide) rfl (by decide +kernel) rfl
    (by decide) (by decide) rfl
  obtain ⟨-, hkept⟩ := hdoes.nextOf
  have hwhat := congrArg (Option.map fun x => x.2.2.2) hkept
  rw [Option.map_map] at hwhat
  exact absurd (txFrameDone_writes_source.symm.trans hwhat) (by decide +kernel)
end

section
/-! PROOF. Frames that leave, by what they leave alone: of the time unit the PTP ports' notes of stamps at most (R197 to R229). -/

open Sys2Proof Sys2Proof.Machine

namespace Sys2Proof.Machine

/-! ## Single changes -/

theorem within_withNet (s : State) (x : Net) : Within [.net] s { s with net := x } :=
  ⟨fun c hc => by cases c <;> simp_all [Comp.same]⟩

theorem within_withPub (s : State) (x : Pub) : Within [.pub] s { s with pub := x } :=
  ⟨fun c hc => by cases c <;> simp_all [Comp.same]⟩

theorem within_withPlan (s : State) (x : Plan) : Within [.plan] s { s with plan := x } :=
  ⟨fun c hc => by cases c <;> simp_all [Comp.same]⟩

theorem within_withCond (s : State) (x : Cond) : Within [.cond] s { s with cond := x } :=
  ⟨fun c hc => by cases c <;> simp_all [Comp.same]⟩

theorem within_bumpBy (s : State) (ob sub n : Nat) : Within [.ctrs] s (bumpBy s ob sub n) :=
  ⟨fun c hc => by cases c <;> simp_all [Comp.same]⟩

theorem within_setGb (s : State) (b : Nat) (x : GBlock) : Within [.pub] s (setGb s b x) := within_withPub ..

/-- What a PTP port holds after it is set. -/
theorem ptpOf_setPtp (s : State) (p q : Nat) (x : PtpPort) : ptpOf (setPtp s p x) q = if q = p then x else ptpOf s q :=
  tabGetD_tabPut ..

/-! ## What sending may change -/

/-- The components that frames which leave, and the completions they bring, may change. -/
def Comp.send : List Comp := [.ctrs, .boot, .tm, .net, .cond, .pub, .tt, .ph, .logb, .mem, .dirty]

/-- A change that frames make as they leave: of the time unit only the stamps noted on the PTP ports differ, and jobs are numbered on. -/
structure Sends (s t : State) : Prop where
  within : Within Comp.send s t
  tm : t.tm = { s.tm with ports := t.tm.ports }
  ptp : ∀ p, ptpOf t p = { ptpOf s p with t1 := (ptpOf t p).t1, fwdRes := (ptpOf t p).fwdRes }
  jobs : s.net.nextJob ≤ t.net.nextJob

theorem Sends.refl (s : State) : Sends s s := ⟨Within.refl .., rfl, fun _ => rfl, Nat.le_refl _⟩

theorem Sends.trans {s t u : State} (h : Sends s t) (k : Sends t u) : Sends s u where
  within := h.within.trans k.within
  tm := by rw [k.tm, h.tm]
  ptp p := by rw [k.ptp p, h.ptp p]
  jobs := h.jobs.trans k.jobs

theorem sends_foldl {α : Type} {f : State → α → State} (hf : ∀ s a, Sends s (f s a)) (as : List α) (s : State) : Sends s (as.foldl f s) :=
  foldl_keeps Sends Sends.refl (fun _ _ _ => Sends.trans) f hf as s

theorem sends_ite {c : Prop} [Decidable c] {s t u : State} (h : Sends s t) (k : Sends s u) : Sends s (if c then t else u) := by
  split
  · exact h
  · exact k

/-- A change outside the time unit that lowers no job number. -/
theorem sends_of_jobs {s t : State} (h : Within Comp.send s t) (ht : t.tm = s.tm) (hj : s.net.nextJob ≤ t.net.nextJob) : Sends s t where
  within := h
  tm := by rw [ht]
  ptp p := by unfold ptpOf; rw [ht]
  jobs := hj

/-- A change within components other than the time unit and the network. -/
theorem Within.sends {l : List Comp} {s t : State} (h : Within l s t) (hs : l ⊆ Comp.send := by decide) (ht : Comp.tm ∉ l := by decide)
    (hn : Comp.net ∉ l := by decide) : Sends s t :=
  sends_of_jobs (h.mono hs) (h.agrees .tm ht) (Nat.le_of_eq (congrArg Net.nextJob (h.agrees .net hn)).symm)

theorem sends_withNet (s : State) {x : Net} (h : s.net.nextJob ≤ x.nextJob) : Sends s { s with net := x } :=
  sends_of_jobs ((within_withNet ..).mono (by decide)) rfl h

/-- A PTP port notes stamps. -/
theorem sends_setPtp (s : State) (p : Nat) {x : PtpPort} (h : x = { ptpOf s p with t1 := x.t1, fwdRes := x.fwdRes }) :
    Sends s (setPtp s p x) where
  within := (within_withTm ..).mono (by decide)
  tm := rfl
  ptp q := by
    rw [ptpOf_setPtp]
    split
    · subst q
      exact h
    · rfl
  jobs := Nat.le_refl _

theorem sends_bump (s : State) (ob sub : Nat) : Sends s (bump s ob sub) := (within_bump ..).sends

/-! ## Jobs and their completions -/

theorem sends_setPort (s : State) (n : Nat) (x : Port) : Sends s (setPort s n x) := sends_withNet s (Nat.le_refl _)

theorem sends_setJob (s : State) (j : Nat) (x : TxJob) : Sends s (setJob s j x) := sends_withNet s (Nat.le_refl _)

theorem sends_dropJob (s : State) (j : Nat) : Sends s (dropJob s j) := sends_withNet s (Nat.le_refl _)

theorem sends_setGb (s : State) (b : Nat) (x : GBlock) : Sends s (setGb s b x) := (within_setGb ..).sends

theorem sends_entryDone (s : State) (q i : Nat) (e : Entry) : Sends s (entryDone s q i e) := (within_entryDone ..).sends

theorem sends_gbAdopt (s : State) (b : Nat) (slots : List Nat) (t : Int) : Sends s (gbAdopt s b slots t) := by
  unfold gbAdopt
  have hw : Sends s (gbWithdraw s b) := sends_foldl (fun _ _ => sends_dropJob ..) _ _
  exact hw.trans (sends_setGb ..)

theorem sends_gooseReqAt (s : State) (q i status cflags st : Nat) (t : Int) : Sends s (gooseReqAt s q i status cflags st t) := by
  unfold gooseReqAt
  split
  · exact sends_entryDone ..
  · exact .refl ..

theorem sends_gooseReqDone (s : State) (b q i status cflags : Nat) : Sends s (gooseReqDone s b q i status cflags) := sends_gooseReqAt ..

theorem sends_jobEnd (s : State) (j : Nat) : Sends s (jobEnd s j) := by
  unfold jobEnd
  extract_lets x sent status u net v
  have hv : Sends s v := (sends_foldl (fun _ _ => sends_setPort ..) _ _).trans (sends_withNet u (Nat.le_refl _))
  refine hv.trans ?_
  clear_value v
  split
  case h_1 | h_4 => exact .refl ..
  case h_2 =>
    split
    · exact sends_entryDone ..
    · exact .refl ..
  case h_3 =>
    split
    · split
      · exact ((sends_setGb ..).trans (sends_bump ..)).trans (sends_gooseReqDone ..)
      · exact (sends_gbAdopt ..).trans (sends_gooseReqDone ..)
    · exact sends_gooseReqAt ..
  case h_5 => exact sends_ite (sends_bump ..) (.refl ..)

theorem sends_copyEnd (s : State) (j : Nat) : Sends s (copyEnd s j) := by
  unfold copyEnd
  exact sends_ite ((sends_setJob ..).trans (sends_jobEnd ..)) (sends_setJob ..)

theorem sends_copyDown (s : State) (n j : Nat) : Sends s (copyDown s n j) := by
  unfold copyDown
  exact sends_ite (.refl ..) ((sends_bump ..).trans (sends_copyEnd ..))

theorem sends_copyLate (s : State) (j : Nat) : Sends s (copyLate s j) := (sends_setJob ..).trans (sends_copyEnd ..)

/-! ## The wire -/

theorem sends_commitOver (s : State) (stage p : Nat) : Sends s (commitOver s stage p) := by
  have hs : Sends s (stageOver s stage) :=
    ((within_withBoot ..).sends.trans (sends_bump ..)).trans (within_logRec ..).sends
  unfold commitOver
  exact hs.trans (sends_ite (.refl ..) (within_withCond ..).sends)

theorem sends_commitPass (s : State) (p took : Nat) : Sends s (commitPass s p took) := sends_ite (.refl ..) (sends_commitOver ..)

theorem sends_commitWire (s : State) (p t11 t12 : Nat) : Sends s (commitWire s p t11 t12) := by
  unfold commitWire
  exact (within_withBoot ..).sends.trans (sends_ite (.refl ..) (sends_commitOver ..))

theorem sends_jobStart (s : State) (n : Nat) (f : TxFrame) : Sends s (jobStart s n f) := by
  unfold jobStart
  exact ((sends_ite (sends_bump ..) (.refl ..)).trans (sends_ite (sends_setPort ..) (.refl ..))).trans (sends_setJob ..)

theorem sends_gooseStart (s : State) (j b : Nat) (req : Option (Nat × Nat)) : Sends s (gooseStart s j b req) := by
  unfold gooseStart
  extract_lets g u v w jobNew block old job y
  refine (sends_bump s 0x280112 b).trans (sends_ite ?_ ?_)
  · have hw : Sends u w := (sends_gbAdopt ..).trans (sends_ite (sends_bump ..) (.refl ..))
    exact (hw.trans (sends_setJob ..)).trans (sends_setGb ..)
  · have hy : Sends u y := sends_ite (.refl ..) ((sends_setJob ..).trans (sends_setGb ..))
    refine hy.trans ?_
    clear_value y
    split
    · exact .refl ..
    · exact (sends_gooseReqAt ..).trans (sends_setJob ..)

theorem sends_tagSeq (s : State) (ports : List Nat) : Sends s (tagSeq s ports).2 := by
  unfold tagSeq
  dsimp only
  split
  · exact sends_withNet s (Nat.le_refl _)
  · exact .refl ..

theorem sends_pushPtp (s : State) (n len kind : Nat) (time : Int) : Sends s (pushPtp s n len kind time) := by
  unfold pushPtp
  extract_lets j net u
  have hu : Sends s u := (sends_withNet s (Nat.le_succ _)).trans (sends_setJob ..)
  refine hu.trans ?_
  clear_value u
  have hseq : Sends u (if ptpLocal kind then (none, u) else tagSeq u [n]).2 := by
    split
    · exact .refl ..
    · exact sends_tagSeq ..
  exact hseq.trans (sends_setPort ..)

theorem sends_ptpStart (s : State) (n : Nat) (f : TxFrame) (room : Bool) : Sends s (ptpStart s n f room) := by
  unfold ptpStart
  split
  · exact sends_ite (sends_pushPtp ..) (.refl ..)
  · exact sends_setPtp s n rfl
  · exact sends_ite (sends_pushPtp ..) (.refl ..)
  · split
    · exact sends_setPtp s n rfl
    · exact .refl ..
  · exact .refl ..

theorem sends_startFrame (s : State) (n : Nat) (f : TxFrame) : Sends s (startFrame s n f) := by
  unfold startFrame
  extract_lets first p toks u v room w z
  have hv : Sends u v := by
    unfold v
    split
    · exact sends_commitWire ..
    · exact .refl ..
  have hw : Sends v w := (sends_jobStart ..).trans (sends_ptpStart ..)
  have hz : Sends w z := by
    unfold z
    split
    · exact sends_ite (sends_gooseStart ..) (.refl ..)
    · exact sends_ite ((sends_bump ..).trans (sends_ite (sends_bump ..) (.refl ..))) (.refl ..)
    · exact .refl ..
  exact ((((sends_setPort s n _).trans hv).trans hw).trans hz).trans (sends_setPort ..)

theorem sends_latePolicy (s : State) (n : Nat) (f : TxFrame) (ctr : Nat) : Sends s (latePolicy s n f ctr) := by
  unfold latePolicy
  exact ((sends_setPort ..).trans (sends_bump ..)).trans (sends_ite (sends_copyLate ..) (sends_setPort ..))

theorem sends_staleDrop (s : State) (f : TxFrame) (ctr : Nat × Nat) : Sends s (staleDrop s f ctr) := by
  unfold staleDrop
  extract_lets x u
  have hu : Sends s u := (sends_bump ..).trans (sends_dropJob ..)
  refine hu.trans ?_
  clear_value u
  split
  · extract_lets g v
    have hv : Sends u v := sends_ite (sends_gbAdopt ..) (.refl ..)
    refine hv.trans ?_
    clear_value v
    split
    · exact sends_ite (sends_gooseReqDone ..) (sends_gooseReqAt ..)
    · exact .refl ..
  · exact .refl ..

theorem sends_kickN (k : Nat) (s : State) (n : Nat) : Sends s (kickN k s n) := by
  induction k generalizing s with
  | zero => exact .refl ..
  | succ k ih =>
    unfold kickN
    split
    · exact .refl ..
    · split
      · exact (sends_staleDrop ..).trans (ih _)
      · exact sends_startFrame ..

theorem sends_kick (s : State) (n : Nat) : Sends s (kick s n) := by
  have hlate : Sends s (lateSweep s n false) := sends_foldl (fun _ _ => sends_ite (sends_latePolicy ..) (.refl ..)) _ _
  unfold kick
  exact sends_ite (.refl ..) ((hlate.trans (sends_setPort ..)).trans (sends_kickN ..))

theorem sends_launchJudge (s : State) (n : Nat) (f : TxFrame) : Sends s (launchJudge s n f) := by
  unfold launchJudge
  split
  · exact .refl ..
  · exact sends_ite (sends_latePolicy ..) (sends_ite (sends_latePolicy ..) (sends_setPort ..))

theorem sends_enqueue (s : State) (n : Nat) (f : TxFrame) : Sends s (enqueue s n f) := by
  unfold enqueue
  exact (sends_ite (sends_launchJudge ..) (sends_setPort ..)).trans (sends_kick ..)

/-! ## Jobs sent -/

/-- The state in which a job has taken its number. -/
def numbered (s : State) : State := { s with net := { s.net with nextJob := s.net.nextJob + 1 } }

/-- A job sent takes its number first. -/
theorem sends_numbered_sendJob (s : State) (ports : List Nat) (tag : Bool) (owner : TxOwner) (f : TxFrame) (tsReq : Bool) :
    Sends (numbered s) (sendJob s ports tag owner f tsReq) := by
  unfold sendJob
  extract_lets j net u v job w y
  have hv : Sends (numbered s) v := sends_setJob ..
  have hw : Sends v w := by
    unfold w
    split
    · exact sends_setJob ..
    · exact .refl ..
  have hy : Sends w y := by
    unfold y
    split
    · exact sends_ite (sends_setGb ..) (.refl ..)
    · exact .refl ..
  refine ((hv.trans hw).trans hy).trans ?_
  clear_value y
  have hseq : Sends y (if tag then tagSeq y ports else (none, y)).2 := by
    split
    · exact sends_tagSeq ..
    · exact .refl ..
  exact hseq.trans (sends_foldl (fun _ _ => sends_ite (sends_enqueue ..) (sends_copyDown ..)) _ _)

theorem sends_sendJob (s : State) (ports : List Nat) (tag : Bool) (owner : TxOwner) (f : TxFrame) (tsReq : Bool) :
    Sends s (sendJob s ports tag owner f tsReq) :=
  Sends.trans (sends_withNet s (Nat.le_succ _)) (sends_numbered_sendJob ..)

theorem nextJob_lt_sendJob (s : State) (ports : List Nat) (tag : Bool) (owner : TxOwner) (f : TxFrame) (tsReq : Bool) :
    s.net.nextJob < (sendJob s ports tag owner f tsReq).net.nextJob :=
  (sends_numbered_sendJob ..).jobs

theorem sends_sendTo (s : State) (n : Nat) (owner : TxOwner) (f : TxFrame) (tsReq : Bool) : Sends s (sendTo s n owner f tsReq) := by
  unfold sendTo
  exact sends_ite (sends_sendJob ..) (.refl ..)

end Sys2Proof.Machine
end

section
/-! PROOF. Changes of quality, source and parent (R207 to R217, R222): what the BMCA looks at outlives them. -/

open Sys2Proof Sys2Proof.Machine

namespace Sys2Proof.Machine

/-! ## Kept values -/

/-- A value stored leaves every other key's. -/
theorem tabGet_put_of_ne (s : State) (ob sub row : Nat) (v : Val) {k : Nat} (h : k ≠ okey ob sub row) :
    tabGet (s.put ob sub row v).store k = tabGet s.store k := by
  simp only [State.put, tabSet]
  split <;> simp [tabGet_tabDel, tabGet_tabPut, h]

/-- A value stored is read back, where no entry means the Default. -/
theorem val_put_self (s : State) (ob sub row : Nat) (v : Val) (h : putDfl s ob sub = dfl s ob sub)
    (hd : ∀ u v, dfl u ob sub = dfl v ob sub) : (s.put ob sub row v).val ob sub row = v := by
  unfold State.val
  rw [hd _ s]
  simp only [State.put, tabSet, tabGetD, h]
  split
  next he =>
    rw [tabGet_tabDel_self]
    exact (eq_of_beq he).symm
  next => rw [tabGet_tabPut_self]; rfl

/-! ## What a change of quality, source or parent leaves -/

/-- A change of quality, source or parent: of the kept values only UTC_OFFSET differs, of the PTP ports only their states, the time unit
takes requests as before, and every response is stored as before. -/
structure Retimes (s t : State) : Prop where
  frame : Frame [.store, .boot, .tm, .logb] s t
  store : ∀ k, k ≠ okey 0x180005 0 0 → tabGet t.store k = tabGet s.store k
  ptp : ∀ p, ptpOf t p = { ptpOf s p with st := (ptpOf t p).st }
  unit : unitOk t 6 = unitOk s 6
  resps : ∀ n, respsOf t n = respsOf s n

theorem Retimes.refl (s : State) : Retimes s s := ⟨Frame.refl .., fun _ _ => rfl, fun _ => rfl, rfl, fun _ => rfl⟩

theorem Retimes.trans {s t u : State} (h : Retimes s t) (k : Retimes t u) : Retimes s u where
  frame := h.frame.trans k.frame
  store i hi := (k.store i hi).trans (h.store i hi)
  ptp p := by rw [k.ptp p, h.ptp p]
  unit := k.unit.trans h.unit
  resps n := (k.resps n).trans (h.resps n)

theorem retimes_foldl {α : Type} {f : State → α → State} (hf : ∀ s a, Retimes s (f s a)) (as : List α) (s : State) :
    Retimes s (as.foldl f s) :=
  foldl_keeps Retimes Retimes.refl (fun _ _ _ => Retimes.trans) f hf as s

theorem retimes_ite {c : Prop} [Decidable c] {s t u : State} (h : Retimes s t) (k : Retimes s u) : Retimes s (if c then t else u) := by
  split
  · exact h
  · exact k

theorem retimes_withTm (s : State) {x : Tm} (h : x.ports = s.tm.ports) : Retimes s { s with tm := x } where
  frame := (within_withTm ..).frame.mono (by decide)
  store _ _ := rfl
  ptp p := by unfold ptpOf; simp only [h]
  unit := rfl
  resps _ := rfl

theorem retimes_logRec (s : State) (code src : Nat) (data : List Int) : Retimes s (logRec s code src data) :=
  ⟨(within_logRec ..).frame.mono (by decide), fun _ _ => rfl, fun _ => rfl, rfl, fun _ => rfl⟩

theorem retimes_settleOf (pick : Addr → Bool) (s : State) : Retimes s (settleOf pick s) :=
  ⟨⟨fun _ => jalBut_settleOf pick s, fun c hc => by cases c <;> simp_all [Comp.same]⟩, fun _ _ => rfl, fun _ => rfl, rfl,
    respsOf_settleOf pick s⟩

/-- A PTP port changes its state. -/
theorem retimes_setPtp (s : State) (p : Nat) {x : PtpPort} (h : x = { ptpOf s p with st := x.st }) : Retimes s (setPtp s p x) where
  frame := (within_withTm ..).frame.mono (by decide)
  store _ _ := rfl
  ptp q := by
    rw [ptpOf_setPtp]
    split
    · subst q
      exact h
    · rfl
  unit := rfl
  resps _ := rfl

/-- A running unit judged anew takes requests still. -/
theorem unitOk_judgeUnit (s : State) (n : Nat) (bad : Bool) : unitOk (judgeUnit s n bad) n = unitOk s n := by
  unfold judgeUnit
  split
  next h =>
    have hp : unitPresent s n = true := by
      by_contra hp
      simp [unitOk, unitSt, hp] at h
    rw [h]
    simp only [unitOk, unitSt_setUnit s n _ hp]
    cases bad <;> rfl
  next => rfl

theorem respsOf_setUnit (s : State) (n m : Nat) (st : USt) : respsOf (setUnit s n st) m = respsOf s m := by
  unfold setUnit
  split
  · rfl
  · exact respsOf_settleOf ..

theorem frame_judgeUnit (s : State) (n : Nat) (bad : Bool) : Frame [.boot, .logb] s (judgeUnit s n bad) := by
  unfold judgeUnit
  split
  · exact frame_setUnit ..
  · exact Frame.refl ..

theorem retimes_judgeUnit (s : State) (bad : Bool) : Retimes s (judgeUnit s 6 bad) where
  frame := (frame_judgeUnit ..).mono (by decide)
  store k _ := by rw [judgeUnit_store]
  ptp p := by unfold ptpOf; rw [judgeUnit_tm]
  unit := unitOk_judgeUnit ..
  resps n := by
    unfold judgeUnit
    split
    · exact respsOf_setUnit ..
    · rfl

/-! ## Quality -/

theorem retimes_setQuality (s : State) (q : Nat) : Retimes s (setQuality s q) := by
  unfold setQuality
  extract_lets old y u t v w
  have hw : w.ports = u.tm.ports := by
    unfold w
    split <;> rfl
  exact retimes_ite (.refl ..) (((retimes_logRec ..).trans (retimes_withTm u hw)).trans (retimes_settleOf ..))

theorem frame_setQuality (s : State) (q : Nat) : Frame [.tm, .logb] s (setQuality s q) := by
  unfold setQuality
  split
  · exact Frame.refl ..
  · exact (((within_logRec ..).mono (by decide)).trans ((within_withTm ..).mono (by decide))).frame.trans
      ((frame_seeNow ..).mono (by decide))

/-- A change of quality keeps the counter, the withheld step and the parent. -/
theorem setQuality_keeps (s : State) (q : Nat) : (setQuality s q).tm.sec = s.tm.sec ∧ (setQuality s q).tm.ns = s.tm.ns ∧
    (setQuality s q).tm.held = s.tm.held ∧ (setQuality s q).tm.heldAmt = s.tm.heldAmt ∧ (setQuality s q).tm.parent = s.tm.parent := by
  unfold setQuality
  split
  · exact ⟨rfl, rfl, rfl, rfl, rfl⟩
  · by_cases h : (q == 1) = true <;> simp [h, seeNow]

theorem setQuality_quality (s : State) (q : Nat) : (setQuality s q).tm.quality = q := by
  unfold setQuality
  split
  · exact eq_of_beq ‹_›
  · by_cases h : (q == 1) = true <;> simp [h, seeNow]

/-- A holdover begins now, with no measurement counted towards LOCKED (R208). -/
theorem setQuality_holdover {s : State} (h : s.tm.quality ≠ 1) :
    (setQuality s 1).tm.holdAt = s.now ∧ (setQuality s 1).tm.lockRun = 0 := by
  simp [setQuality, h, seeNow]

theorem setQuality_offered {s : State} {q : Nat} (h : s.tm.quality ≠ q) :
    (setQuality s q).logb.offered = s.logb.offered ++ [⟨0x0150, 0x86, ints [s.tm.quality, q]⟩] := by
  simp [setQuality, h, seeNow, logRec]

/-! ## Source and parent -/

theorem retimes_dropHeld (s : State) : Retimes s (dropHeld s) := retimes_withTm s rfl

theorem retimes_unlock (s : State) : Retimes s (if s.tm.quality == 0 then setQuality s 1 else s) :=
  retimes_ite (retimes_setQuality ..) (.refl ..)

theorem retimes_sourceChange (s : State) : Retimes s (sourceChange s) := by
  unfold sourceChange
  extract_lets u v tm
  exact ((retimes_unlock s).trans (retimes_ite (retimes_dropHeld ..) (.refl ..))).trans (retimes_withTm v rfl)

theorem sourceChange_parent (s : State) : (sourceChange s).tm.parent = s.tm.parent := by
  unfold sourceChange
  extract_lets u v tm
  have hu : u.tm.parent = s.tm.parent := by
    unfold u
    split
    · exact (setQuality_keeps s 1).2.2.2.2
    · rfl
  have hv : v.tm.parent = u.tm.parent := by
    unfold v
    split <;> rfl
  exact hv.trans hu

theorem retimes_learnUtc (s : State) (off : Option Int) (valid : Bool) (leap : Nat) : Retimes s (learnUtc s off valid leap) := by
  unfold learnUtc
  extract_lets u o midnight tm
  have hu : Retimes s u := by
    unfold u
    split
    · split
      · exact ⟨(within_put ..).frame.mono (by decide), fun k hk => tabGet_put_of_ne _ _ _ _ _ hk, fun _ => rfl, rfl, fun _ => rfl⟩
      · exact .refl ..
    · exact .refl ..
  exact hu.trans (retimes_withTm u rfl)

theorem learnUtc_parent (s : State) (off : Option Int) (valid : Bool) (leap : Nat) : (learnUtc s off valid leap).tm.parent = s.tm.parent := by
  unfold learnUtc
  extract_lets u o midnight tm
  unfold tm u
  split
  · split <;> rfl
  · rfl

theorem retimes_ptpStates (s : State) : Retimes s (ptpStates s) := by
  unfold ptpStates
  exact (retimes_foldl (fun u p => retimes_setPtp u p rfl) _ _).trans (retimes_judgeUnit ..)

theorem frame_ptpStates (s : State) : Frame [.boot, .tm, .logb] s (ptpStates s) := by
  have hset : Within [.tm] s ((upto 6).foldl (fun s p => setPtp s p { ptpOf s p with st := ptpWant s p }) s) :=
    within_foldl (fun _ _ => within_withTm ..) _ _
  unfold ptpStates
  exact (hset.frame.mono (by decide)).trans ((frame_judgeUnit ..).mono (by decide))

/-- Judging the ports' states changes nothing else of the time unit. -/
theorem ptpStates_tm (s : State) : (ptpStates s).tm = { s.tm with ports := (ptpStates s).tm.ports } := by
  have hfold := foldl_keeps (fun s t => t.tm = { s.tm with ports := t.tm.ports }) (fun _ => rfl) (fun _ _ _ h k => by rw [k, h])
    (fun s p => setPtp s p { ptpOf s p with st := ptpWant s p }) (fun _ _ => rfl) (upto 6) s
  unfold ptpStates
  rw [judgeUnit_tm]
  exact hfold

theorem retimes_setParent (s : State) (next : Option (Nat × Announce)) : Retimes s (setParent s next) := by
  unfold setParent
  extract_lets same old u tm v w
  have hv : Retimes s v := by
    refine retimes_ite (retimes_withTm s rfl) ?_
    refine ((retimes_unlock s).trans ?_).trans (retimes_sourceChange ..)
    exact retimes_withTm u rfl
  have hw : Retimes v w := by
    unfold w
    split
    · exact retimes_learnUtc ..
    · exact .refl ..
  exact (hv.trans hw).trans (retimes_ptpStates ..)

theorem setParent_parent (s : State) (next : Option (Nat × Announce)) : (setParent s next).tm.parent = next := by
  unfold setParent
  extract_lets same old u tm v w
  have hv : v.tm.parent = next := by
    unfold v
    split
    · rfl
    · exact sourceChange_parent ..
  have hw : w.tm.parent = v.tm.parent := by
    unfold w
    split
    · exact learnUtc_parent ..
    · rfl
  rw [ptpStates_tm]
  exact hw.trans hv

theorem retimes_ptpJudge (s : State) : Retimes s (ptpJudge s) := retimes_setParent ..

/-! ## The choice of a parent -/

/-- The module's own default dataset, against which the BMCA compares (R215). -/
def ownDefault (s : State) : Announce := { ownAnnounce s with gmClass := 248, sender := clockIdentity s ++ [0, 0] }

/-- What a dataset says of UTC is no part of its comparison. -/
theorem dsCompare_utc (a b : Announce) (off : Int) (valid : Bool) (leap ra rb : Nat) :
    dsCompare a { b with utcOffset := off, utcValid := valid, leap := leap } ra rb = dsCompare a b ra rb := rfl

section
variable {s t : State} (h : Retimes s t)
include h

theorem Retimes.vn {ob sub : Nat} (hk : okey ob sub 0 ≠ okey 0x180005 0 0) (hd : ∀ u v, dfl u ob sub = dfl v ob sub) :
    t.vn ob sub = s.vn ob sub := by
  simp only [State.vn, State.val, tabGetD, h.store _ hk, hd t s]

theorem Retimes.ident : t.ident = s.ident := h.frame.within.agrees .ident (by decide)

theorem Retimes.net : t.net = s.net := h.frame.within.agrees .net (by decide)

theorem Retimes.now : t.now = s.now := h.frame.within.agrees .now (by decide)

theorem Retimes.role (p : Nat) : t.vn 0x180030 p = s.vn 0x180030 p :=
  h.vn (by unfold okey; omega) fun _ _ => rfl

theorem Retimes.ptpRuns (p : Nat) : ptpRuns t p = ptpRuns s p := by
  have hon : t.vn 0x180020 0 = s.vn 0x180020 0 := h.vn (by decide) fun _ _ => rfl
  simp only [Machine.ptpRuns, State.vb, hon, h.role, h.unit]

theorem Retimes.linkUp (p : Nat) : linkUp t p = linkUp s p := by
  simp only [Machine.linkUp, portOf, h.net]

theorem Retimes.portIdent (p : Nat) : portIdent t p = portIdent s p := by
  simp only [Machine.portIdent, clockIdentity, h.ident]

theorem Retimes.missed (p : Nat) : (ptpOf t p).missed = (ptpOf s p).missed := by rw [h.ptp p]

theorem Retimes.retry (p : Nat) : (ptpOf t p).retry = (ptpOf s p).retry := by rw [h.ptp p]

theorem Retimes.foreign (p : Nat) : (ptpOf t p).foreign = (ptpOf s p).foreign := by rw [h.ptp p]

theorem Retimes.lastAnn (p : Nat) : (ptpOf t p).lastAnn = (ptpOf s p).lastAnn := by rw [h.ptp p]

theorem Retimes.silent (p : Nat) : (ptpOf t p).silent = (ptpOf s p).silent := by rw [h.ptp p]

theorem Retimes.portBest (p : Nat) : portBest t p = portBest s p := by
  simp only [Machine.portBest, h.portIdent, h.foreign]

theorem Retimes.annOver (p : Nat) : annOver t p = annOver s p := by
  simp only [Machine.annOver, h.now, h.lastAnn]

/-- A dataset compares with the module's own as before. -/
theorem Retimes.dsCompare_own (b : Announce) (r k : Nat) : dsCompare b (ownDefault t) r k = dsCompare b (ownDefault s) r k := by
  have h1 : t.vn 0x180023 0 = s.vn 0x180023 0 := h.vn (by decide) fun _ _ => rfl
  have h2 : t.vn 0x180024 0 = s.vn 0x180024 0 := h.vn (by decide) fun _ _ => rfl
  have hown : ownDefault t =
      { ownDefault s with utcOffset := t.vi 0x180005 0, utcValid := t.tm.utcValid, leap := t.tm.leap } := by
    simp only [ownDefault, ownAnnounce, clockIdentity, h.ident, h1, h2]
  rw [hown, dsCompare_utc]

/-- The BMCA chooses as before. -/
theorem Retimes.bmca : bmca t = bmca s := by
  unfold Machine.bmca
  refine congrArg (fun f => List.foldl f none (upto 6)) (funext fun acc => funext fun q => ?_)
  simp only [h.ptpRuns, h.linkUp, h.role, h.missed, h.annOver, h.portBest, h.portIdent]
  cases acc with
  | some k => rfl
  | none =>
    cases Machine.portBest s q with
    | none => rfl
    | some b =>
      have hown := h.dsCompare_own b (Machine.portIdent s q) (Machine.portIdent s 0 - 1)
      simp only [ownDefault] at hown
      simp only [hown]

end

/-- The BMCA's choice is the parent, and stays its choice. -/
theorem ptpJudge_parent (s : State) : (ptpJudge s).tm.parent = bmca (ptpJudge s) :=
  (setParent_parent ..).trans (retimes_ptpJudge s).bmca.symm

/-! The end of a command -/

@[simp] theorem ptpOf_settle (s : State) (p : Nat) : ptpOf (settle s) p = ptpOf s p := rfl

theorem bmca_settle (s : State) : bmca (settle s) = bmca s := (retimes_settleOf _ s).bmca

end Sys2Proof.Machine
end

section
/-! PROOF. A session's write from what its effect does (R116, R121, R132), and the restart of PTP that a write of its profile brings. -/

open Sys2Proof Sys2Proof.Machine

namespace Sys2Proof.Machine

/-! ## Writes -/

theorem Comp.same.trans {c : Comp} {s t u : State} (h : c.same s t) (k : c.same t u) : c.same s u := by
  cases c <;> exact Eq.trans k h

/-- A write that may run, of an object of one field of fixed length, does its own effect on a state that differs from the one before in its
session's entry alone, and is answered. -/
theorem doWrite_runs {s : State} {rq : Req} {ob sub : Nat} {v : Val} {hook : State → Nat → Nat → Nat → Nat → Val → Res} {d : Desc} {t : FT}
    (h : writeRuns s rq ob sub v = true) (hd : descOf ob = some d) (ht : d.typ = .one t) (hf : ftVar t = false) (hv : valOk d.typ v = true)
    (hl : ob ≠ 0x480030) : ∃ x, doWrite s rq ob sub v hook = answer rq 3 (hook (setSess s rq.sess x) rq.sess ob sub 0 v) := by
  unfold writeRuns at h
  simp only [Bool.and_eq_true, Bool.not_eq_true'] at h
  obtain ⟨⟨hj, hrom⟩, hm⟩ := h
  cases k : sessOf s rq.sess with
  | none => simp [k] at hm
  | some se =>
    simp only [k, hd, Bool.and_eq_true, beq_iff_eq] at hm
    obtain ⟨⟨⟨⟨hturn, hc⟩, hlim⟩, hu⟩, hp⟩ := hm
    refine ⟨heardSess s rq se, ?_⟩
    have hrom' : romServes (began s rq) = false := by rw [began_eq k]; exact hrom
    have hc' : objCheck (began s rq) (heardSess s rq se) (addrOf ob sub) .write = okS := by rw [began_eq k, objCheck_heard, hc]
    have hu' : unitCheck (began s rq) (addrOf ob sub) d .write = okS := by rw [began_eq k]; exact hu
    have hdec := decVal_encVal hv
    rw [ht] at hdec
    unfold doWrite
    rw [onRequest_runs hj k hturn]
    simp only [hrom', entryFor, hd, writeEntry, obAddr_addrOf, hc', ht, hdec, writeVal, hlim, hu', addrOf_sub]
    -- Only a field of variable length is judged by its length first.
    cases t <;> simp_all [ftVar, began_eq k]

/-- A write that may run completes with its effect, whatever its session's entry becomes when it begins. -/
theorem does_writes {i : Instr} {s a : State} {rq : Req} {ob sub : Nat} {v : Val} {hook : State → Nat → Nat → Nat → Nat → Val → Res}
    {but : List Comp} {eff : State → Prop} {d : Desc} {t : FT} (hx : exec i s = done (doWrite a rq ob sub v hook))
    (h : writeRuns a rq ob sub v = true) (hd : descOf ob = some d) (ht : d.typ = .one t) (hf : ftVar t = false)
    (hv : valOk d.typ v = true) (hl : ob ≠ 0x480030)
    (hp : ∀ x, Completes a rq but eff (hook (setSess a rq.sess x) rq.sess ob sub 0 v)) : Does i s a but eff := by
  obtain ⟨x, hw⟩ := doWrite_runs (hook := hook) h hd ht hf hv hl
  obtain ⟨-, hse, hj, hk, he⟩ := hp x
  refine ⟨_, by rw [hx, hw]; rfl, frame_of (fun c hc => same_answer c hc rq 3 _) (jalBut_respond _ _ _) hj hk,
    he _ (fun c hc => (same_answer c hc rq 3 _).trans (same_settle c hc _)) (by rw [answered_settle, answered_answer _ _ _ hse])⟩

theorem frame_setSess (s : State) (n : Nat) (x : Sess) : Frame [] s (setSess s n x) :=
  ⟨fun _ => jalBut_setSess s n x, (within_setSess ..).agrees⟩

/-- What the effect of a request has to be, for one that keeps its session's stored responses: a change of the state it runs on within a
frame, after which every state that has its components and the answer meets `eff`. -/
theorem completes_of_frame {a : State} {rq : Req} {x : Sess} {but : List Comp} {eff : State → Prop} {r : Res} (hs : r.status ≠ pendingS)
    (hf : Frame but (setSess a rq.sess x) r.s) (hr : respsOf r.s rq.sess = respsOf (setSess a rq.sess x) rq.sess)
    (he : ∀ t, (∀ c : Comp, c ≠ .jal → c.same r.s t) → answered t rq r.status = true → eff t) : Completes a rq but eff r := by
  have hfr : Frame but a r.s := ((frame_setSess a rq.sess x).mono (List.nil_subset _)).trans hf
  refine ⟨hs, ?_, hfr.1, hfr.2, he⟩
  have h : (respsOf r.s rq.sess).isSome = true := by simp [hr, respsOf_setSess]
  simpa [respsOf] using h

/-! ## PTP_PROFILE -/

/-- An object of a fixed Default reads the same where the store is the same. -/
theorem vn_of_store {s t : State} {ob sub : Nat} (h : t.store = s.store) (hd : ∀ u v, dfl u ob sub = dfl v ob sub) :
    t.vn ob sub = s.vn ob sub := by
  simp only [State.vn, State.val, h, hd t s]

/-- A value stored leaves what every other object of a fixed Default reads. -/
theorem vn_put_of_ne (s : State) {ob sub row ob' sub' : Nat} (v : Val) (h : okey ob sub 0 ≠ okey ob' sub' row)
    (hd : ∀ u v, dfl u ob sub = dfl v ob sub) : (s.put ob' sub' row v).vn ob sub = s.vn ob sub := by
  simp only [State.vn, State.val, tabGetD, tabGet_put_of_ne _ _ _ _ _ h, hd _ s]

/-- The profile and the domain it implies, stored (18.0021). -/
def profilePut (s : State) (p : Nat) : State := (s.put 0x180021 0 0 [.n p]).put 0x180022 0 0 [.n (if p == 1 then 254 else 0)]

theorem profilePut_profile (s : State) (p : Nat) : (profilePut s p).vn 0x180021 0 = p := by
  have h : (s.put 0x180021 0 0 [.n p]).val 0x180021 0 0 = [.n p] := val_put_self _ _ _ _ _ rfl fun _ _ => rfl
  refine (vn_put_of_ne _ _ (by decide) fun _ _ => rfl).trans ?_
  simp only [State.vn, h]
  rfl

theorem profilePut_domain (s : State) (p : Nat) : (profilePut s p).vn 0x180022 0 = if p = 1 then 254 else 0 := by
  have h : (profilePut s p).val 0x180022 0 0 = [.n (if p == 1 then 254 else 0)] :=
    val_put_self _ _ _ _ _ rfl fun _ _ => rfl
  simp only [State.vn, h, beq_iff_eq]
  rfl

/-- Every PTP port begins anew. -/
def portsFresh (s : State) : State :=
  { s with tm := { s.tm with ports := (upto 6).map fun p => (p, { lastAnn := if linkUp s p then some s.now else none }) } }

/-- A profile within its range restarts PTP with it (R214). -/
theorem putProfile_eq {s : State} {p : Nat} (h : p ≤ 1) : putProfile s [.n p] = good (setParent (portsFresh (profilePut s p)) none) :=
  if_neg (show ¬ p > 1 by omega)

theorem completes_putProfile {a : State} {rq : Req} {p : Nat} (x : Sess) (h : p ≤ 1) : Completes a rq [.store, .boot, .tm, .logb] (fun t =>
    t.vn 0x180021 0 = p ∧ t.vn 0x180022 0 = (if p = 1 then 254 else 0) ∧ t.tm.parent = none ∧ answered t rq okS = true)
    (putProfile (setSess a rq.sess x) [.n p]) := by
  rw [putProfile_eq h]
  have hput : Within [.store] (setSess a rq.sess x) (profilePut (setSess a rq.sess x) p) := (within_put ..).trans (within_put ..)
  have hports : Within [.tm] _ (portsFresh (profilePut (setSess a rq.sess x) p)) := within_withTm ..
  have hre := retimes_setParent (portsFresh (profilePut (setSess a rq.sess x) p)) none
  refine completes_of_frame (show okS ≠ pendingS by decide)
    (((hput.frame.mono (by decide)).trans (hports.frame.mono (by decide))).trans hre.frame) (hre.resps _) fun t ht ha => ?_
  have hprofile := profilePut_profile (setSess a rq.sess x) p
  have hdomain := profilePut_domain (setSess a rq.sess x) p
  generalize profilePut (setSess a rq.sess x) p = u at *
  have hstore : t.store = (setParent (portsFresh u) none).store := ht .store (by decide)
  have htm : t.tm = (setParent (portsFresh u) none).tm := ht .tm (by decide)
  have hvn {ob : Nat} (hk : okey ob 0 0 ≠ okey 0x180005 0 0) (hd : ∀ u v, dfl u ob 0 = dfl v ob 0) : t.vn ob 0 = u.vn ob 0 :=
    ((vn_of_store hstore hd).trans (hre.vn hk hd)).trans (vn_of_store rfl hd)
  refine ⟨?_, ?_, ?_, ha⟩
  · rw [hvn (by decide) fun _ _ => rfl, hprofile]
  · rw [hvn (by decide) fun _ _ => rfl, hdomain]
  · rw [htm, setParent_parent]

end Sys2Proof.Machine
end

section
/-! PROOF. The PTP ports (R214 to R217): messages sent, the requests unanswered, the masters not heard. -/

open Sys2Proof Sys2Proof.Machine

namespace Sys2Proof.Machine

/-! ## Messages sent -/

/-- In PROVISIONED and OPERATIONAL a PTP message may leave on every port (R93). -/
theorem lifeLets_ptpMsg {s : State} (h : life s = 1 ∨ life s = 2) (n kind : Nat) (time : Int) (a : Option Announce) :
    lifeLets s n (ptpMsg s kind time a) = true := by
  rcases h with h | h <;> simp [lifeLets, ptpMsg, h]

/-- On a port that is up a PTP message is sent as a job of its own. -/
theorem sends_ptpSend {s : State} {p : Nat} (hup : linkUp s p = true) (hlife : life s = 1 ∨ life s = 2) (len kind : Nat) (time : Int)
    (a : Option Announce) (ts : Bool) :
    Sends s (ptpSend s p len kind time a ts) ∧ s.net.nextJob < (ptpSend s p len kind time a ts).net.nextJob := by
  have h : (linkUp s p && lifeLets s p (ptpMsg s kind time a)) = true := by rw [hup, lifeLets_ptpMsg hlife]; rfl
  unfold ptpSend
  rw [if_pos h]
  exact ⟨sends_sendJob .., nextJob_lt_sendJob ..⟩

/-- A PTP message sent once its port has noted it: a job is numbered, and the port holds what was noted, but for stamps. -/
theorem does_ptpSend {i : Instr} {s a u : State} {p len kind : Nat} {time : Int} {ann : Option Announce} {ts : Bool} {x : PtpPort}
    {l : List Comp} (hx : exec i s = done (ptpSend u p len kind time ann ts)) (hu : Within [.tm] a u) (hp : ptpOf u p = x)
    (hup : linkUp a p = true) (hlife : life a = 1 ∨ life a = 2) (hl : Comp.send ⊆ l := by decide) : Does i s a l fun t =>
    a.net.nextJob < t.net.nextJob ∧ ptpOf t p = { x with t1 := (ptpOf t p).t1, fwdRes := (ptpOf t p).fwdRes } := by
  have hnet : u.net = a.net := hu.agrees .net (by decide)
  have hboot : u.boot = a.boot := hu.agrees .boot (by decide)
  have hup' : linkUp u p = true := by rw [← hup]; simp only [linkUp, portOf, hnet]
  have hlife' : life u = 1 ∨ life u = 2 := by simpa only [life, hboot] using hlife
  obtain ⟨hsend, hjob⟩ := sends_ptpSend hup' hlife' len kind time ann ts
  generalize ptpSend u p len kind time ann ts = y at *
  have htm : [Comp.tm] ⊆ l := List.Subset.trans (show [Comp.tm] ⊆ Comp.send by decide) hl
  exact does_frame hx ((hu.frame.mono htm).trans (hsend.within.frame.mono hl)) ⟨hnet ▸ hjob, hp ▸ hsend.ptp p⟩

theorem within_setPtp (s : State) (p : Nat) (x : PtpPort) : Within [.tm] s (setPtp s p x) := within_withTm ..

@[simp] theorem ptpOf_setPtp_self (s : State) (p : Nat) (x : PtpPort) : ptpOf (setPtp s p x) p = x := tabGetD_tabPut_self ..

/-- A Pdelay_Req sent on a port: it waits for the answer, and keeps what else it holds but for stamps. -/
theorem does_pdelaySend {i : Instr} {s a : State} {p : Nat} {x : PtpPort} {l : List Comp} (hx : exec i s = done (pdelaySend (setPtp a p x) p))
    (hup : linkUp a p = true) (hlife : life a = 1 ∨ life a = 2) (hl : Comp.send ⊆ l := by decide) : Does i s a l fun t =>
    a.net.nextJob < t.net.nextJob ∧ (ptpOf t p).waiting = true ∧ (ptpOf t p).missed = x.missed ∧ (ptpOf t p).retry = x.retry := by
  refine does_mono (does_ptpSend hx ((within_setPtp ..).trans (within_setPtp ..)) (ptpOf_setPtp_self ..) hup hlife hl) fun t ⟨hj, hp⟩ => ?_
  rw [ptpOf_setPtp_self] at hp
  exact ⟨hj, by rw [hp], by rw [hp], by rw [hp]⟩

section
variable {dt port : Nat} {s : State}

theorem exec_ptpSyncTx (hr : ptpRuns (advance dt s) port = true) (hst : (ptpOf (advance dt s) port).st = 6)
    (hdue : (ptpOf (advance dt s) port).syncDue ≤ (advance dt s).now) : exec (.ptpSyncTx dt port) s =
    done (ptpSend (setPtp (advance dt s) port { ptpOf (advance dt s) port with syncDue := (advance dt s).now + 1000000000 }) port 64 0 0
      none ((advance dt s).vb 0x180025 0)) :=
  if_neg (by generalize advance dt s = a at *; simp [hr, hst, hdue])

/-- An Announce leaves with some dataset (R215). -/
theorem exec_ptpAnnounceTx (hr : ptpRuns (advance dt s) port = true) (hst : (ptpOf (advance dt s) port).st = 6)
    (hdue : (ptpOf (advance dt s) port).annDue ≤ (advance dt s).now) : ∃ ann, exec (.ptpAnnounceTx dt port) s =
    done (ptpSend (setPtp (advance dt s) port { ptpOf (advance dt s) port with annDue := (advance dt s).now + 1000000000 }) port 82 1 0
      ann false) :=
  ⟨_, if_neg (by generalize advance dt s = a at *; simp [hr, hst, hdue])⟩

/-- With the last request answered the next one leaves (R216). -/
theorem exec_pdelayReqTx_answered (hr : ptpRuns (advance dt s) port = true) (hst : (ptpOf (advance dt s) port).st ≠ 2)
    (hup : linkUp (advance dt s) port = true) (hdue : (ptpOf (advance dt s) port).reqDue ≤ (advance dt s).now)
    (hw : (ptpOf (advance dt s) port).waiting = false) : exec (.pdelayReqTx dt port) s =
    done (pdelaySend (setPtp (advance dt s) port { ptpOf (advance dt s) port with missed := 0, waiting := false }) port) := by
  change execPdelayReqTx dt port s = _
  unfold execPdelayReqTx
  generalize advance dt s = a at *
  simp [hr, hst, hup, hdue, hw]

/-- The port whose third request has stayed unanswered (R216). -/
def portMissed (s : State) (p : Nat) : State :=
  let s := setPtp s p { ptpOf s p with missed := (ptpOf s p).missed + 1, waiting := false }
  bump (setPtp s p { ptpOf s p with retry := some (s.now + 16000000000) }) 0x180037 p

/-- A parent on the port is given up. -/
def parentLeft (s : State) (p : Nat) : State :=
  match s.tm.parent with
  | some (q, _) => if q == p then ptpJudge s else s
  | none => s

/-- A third request unanswered makes the port FAULTY (R216). -/
theorem exec_pdelayReqTx_missed (hr : ptpRuns (advance dt s) port = true) (hst : (ptpOf (advance dt s) port).st ≠ 2)
    (hup : linkUp (advance dt s) port = true) (hdue : (ptpOf (advance dt s) port).reqDue ≤ (advance dt s).now)
    (hw : (ptpOf (advance dt s) port).waiting = true) (hm : 2 ≤ (ptpOf (advance dt s) port).missed) :
    exec (.pdelayReqTx dt port) s = done (ptpStates (parentLeft (portMissed (advance dt s) port) port)) := by
  change execPdelayReqTx dt port s = _
  unfold execPdelayReqTx
  generalize advance dt s = a at *
  have hcount : (if (ptpOf a port).waiting = true then (ptpOf a port).missed + 1 else 0) = (ptpOf a port).missed + 1 := if_pos hw
  dsimp only
  rw [if_neg (by simp [hr, hst, hup, hdue]), hcount, if_pos (by omega)]
  rfl

theorem exec_ptpFaultyRetry (hst : (ptpOf (advance dt s) port).st = 2) (hd : dueBy (advance dt s) (ptpOf (advance dt s) port).retry = true)
    (hup : linkUp (advance dt s) port = true) : exec (.ptpFaultyRetry dt port) s = done (pdelaySend
    (setPtp (advance dt s) port { ptpOf (advance dt s) port with retry := some ((advance dt s).now + 16000000000) }) port) :=
  if_pos (by simp [hst, hd, hup])

end

/-! ## A FAULTY port -/

theorem within_portMissed (s : State) (p : Nat) : Within [.tm, .ctrs] s (portMissed s p) :=
  (((within_setPtp ..).trans (within_setPtp ..)).mono (by decide)).trans ((within_bump ..).mono (by decide))

theorem portMissed_ctrs (s : State) (p : Nat) : (portMissed s p).ctrs = (bump s 0x180037 p).ctrs := rfl

theorem ptpOf_portMissed (s : State) (p : Nat) : ptpOf (portMissed s p) p =
    { ptpOf s p with missed := (ptpOf s p).missed + 1, waiting := false, retry := some (s.now + 16000000000) } := by
  refine (ptpOf_setPtp_self ..).trans ?_
  rw [ptpOf_setPtp_self]
  rfl

theorem retimes_parentLeft (s : State) (p : Nat) : Retimes s (parentLeft s p) := by
  unfold parentLeft
  split
  · exact retimes_ite (retimes_ptpJudge ..) (.refl ..)
  · exact .refl ..

/-- Judging the ports' states leaves a port FAULTY whose third request has stayed unanswered (R216). -/
theorem faulty_foldl {p : Nat} (l : List Nat) {s : State} (hr : ptpRuns s p = true) (hm : 3 ≤ (ptpOf s p).missed)
    (h : p ∈ l ∨ (ptpOf s p).st = 2) :
    (ptpOf (l.foldl (fun s p => setPtp s p { ptpOf s p with st := ptpWant s p }) s) p).st = 2 := by
  induction l generalizing s with
  | nil => exact h.resolve_left (List.not_mem_nil)
  | cons q l ih =>
    have hre : Retimes s (setPtp s q { ptpOf s q with st := ptpWant s q }) := retimes_setPtp s q rfl
    refine ih (by rw [hre.ptpRuns, hr]) (by rw [hre.missed]; exact hm) ?_
    by_cases hq : p = q
    · subst q
      right
      rw [ptpOf_setPtp_self]
      simp [ptpWant, hr, hm]
    · rw [ptpOf_setPtp, if_neg hq]
      exact h.imp_left fun hmem => (List.mem_cons.1 hmem).resolve_left hq

theorem ptpStates_faulty {s : State} {p : Nat} (hr : ptpRuns s p = true) (hm : 3 ≤ (ptpOf s p).missed) :
    (ptpOf (ptpStates s) p).st = 2 := by
  have hp : p < 6 := by
    simp only [ptpRuns, Bool.and_eq_true, decide_eq_true_eq] at hr
    exact hr.1.1.1
  have h := faulty_foldl (upto 6) hr hm (.inl (List.mem_range.2 hp))
  unfold ptpStates
  simpa only [ptpOf, judgeUnit_tm] using h

/-- The state of the ports once one's third request has stayed unanswered. -/
def portFailed (s : State) (p : Nat) : State := ptpStates (parentLeft (portMissed s p) p)

theorem retimes_portFailed (s : State) (p : Nat) : Retimes (portMissed s p) (portFailed s p) :=
  (retimes_parentLeft ..).trans (retimes_ptpStates ..)

theorem frame_portFailed (s : State) (p : Nat) : Frame [.store, .ctrs, .boot, .tm, .logb] s (portFailed s p) :=
  ((within_portMissed s p).frame.mono (by decide)).trans ((retimes_portFailed s p).frame.mono (by decide))

/-- The port is FAULTY for 16 s, which is counted (R216). -/
theorem portFailed_effect {s : State} {p : Nat} (hr : ptpRuns s p = true) (hm : 2 ≤ (ptpOf s p).missed) :
    (ptpOf (portFailed s p) p).st = 2 ∧ (ptpOf (portFailed s p) p).retry = some (s.now + 16000000000) ∧
      (portFailed s p).ctrs = (bump s 0x180037 p).ctrs := by
  have hleft := retimes_parentLeft (portMissed s p) p
  have hport := ptpOf_portMissed s p
  have hrun : ptpRuns (portMissed s p) p = true := hr
  refine ⟨ptpStates_faulty (by rw [hleft.ptpRuns, hrun]) ?_, ?_, ?_⟩
  · rw [hleft.missed, hport]
    exact Nat.succ_le_succ hm
  · rw [(retimes_portFailed s p).retry, hport]
  · exact (retimes_portFailed s p).frame.within.agrees .ctrs (by decide)

/-! ## Masters not heard -/

theorem within_annGone (s : State) (p : Nat) : Within [.tm] s (annGone s p) := (within_setPtp ..).trans (within_setPtp ..)

theorem ptpOf_annGone_of_ne {s : State} {p q : Nat} (h : q ≠ p) : ptpOf (annGone s p) q = ptpOf s q := by
  simp [annGone, ptpOf_setPtp, h]

theorem annGone_foreign (s : State) (p : Nat) :
    (ptpOf (annGone s p) p).foreign = (ptpOf s p).foreign.filter fun f => s.now < f.last + 3000000000 := by
  simp [annGone]

/-- A port with no master left is silent (R217). -/
theorem annGone_silent {s : State} {p : Nat} (h : (ptpOf (annGone s p) p).foreign = []) :
    (ptpOf (annGone s p) p).lastAnn = none ∧ (ptpOf (annGone s p) p).silent = true := by
  rw [annGone_foreign] at h
  simp [annGone, portBest, h]

/-- Timeouts of several ports: the others keep what they hold, and each forgets the masters not heard. -/
theorem annGone_foldl (ps : List Nat) (s : State) (q : Nat) :
    (q ∉ ps → ptpOf (ps.foldl annGone s) q = ptpOf s q) ∧
    (q ∈ ps → (ptpOf (ps.foldl annGone s) q).foreign = ((ptpOf s q).foreign.filter fun f => s.now < f.last + 3000000000) ∧
      ((ptpOf (ps.foldl annGone s) q).foreign = [] →
        (ptpOf (ps.foldl annGone s) q).lastAnn = none ∧ (ptpOf (ps.foldl annGone s) q).silent = true)) := by
  induction ps generalizing s with
  | nil => exact ⟨fun _ => rfl, fun h => absurd h List.not_mem_nil⟩
  | cons p ps ih =>
    have hnow : (annGone s p).now = s.now := (within_annGone s p).agrees .now (by decide)
    obtain ⟨hout, hin⟩ := ih (annGone s p)
    rw [List.foldl_cons]
    refine ⟨fun h => ?_, fun h => ?_⟩
    · obtain ⟨hne, hps⟩ := List.ne_and_not_mem_of_not_mem_cons h
      rw [hout hps, ptpOf_annGone_of_ne hne]
    · by_cases hps : q ∈ ps
      · obtain ⟨hf, hs⟩ := hin hps
        refine ⟨?_, hs⟩
        rw [hf, hnow]
        by_cases hq : q = p
        · rw [hq, annGone_foreign, List.filter_filter]
          simp only [Bool.and_self]
        · rw [ptpOf_annGone_of_ne hq]
      · obtain rfl := (List.mem_cons.1 h).resolve_right hps
        rw [hout hps]
        exact ⟨annGone_foreign .., annGone_silent⟩

theorem annDead_of_lastAnn {s : State} {p u : Nat} (h : (ptpOf s p).lastAnn = some u) (hu : u + 3000000000 ≤ s.now) :
    annDead s p = true := by
  simp [annDead, annOver, h, hu]

/-- Announce receipt timeouts, of those of the ports that they fall on: the masters not heard are forgotten, and the BMCA runs (R217). -/
def timedOut (s : State) (ps : List Nat) : State := ptpJudge ((ps.filter (annDead s)).foldl annGone s)

theorem exec_announceReceiptTimeout {dt port : Nat} {also : List Nat} {s : State} (h : annDead (advance dt s) port = true) :
    exec (.announceReceiptTimeout dt port also) s = done (timedOut (advance dt s) (port :: also)) :=
  if_neg (by simp [h])

theorem retimes_timedOut (s : State) (ps : List Nat) : Retimes ((ps.filter (annDead s)).foldl annGone s) (timedOut s ps) :=
  retimes_ptpJudge ..

theorem frame_timedOut (s : State) (ps : List Nat) : Frame [.store, .boot, .tm, .logb] s (timedOut s ps) := by
  have hgone : Within [.tm] s ((ps.filter (annDead s)).foldl annGone s) := within_foldl within_annGone _ s
  exact (hgone.frame.mono (by decide)).trans (retimes_timedOut s ps).frame

theorem timedOut_forgets {s : State} {ps : List Nat} {q : Nat} (hq : q ∈ ps) (hd : annDead s q = true) :
    (ptpOf (timedOut s ps) q).foreign = ((ptpOf s q).foreign.filter fun f => s.now < f.last + 3000000000) ∧
      ((ptpOf (timedOut s ps) q).foreign = [] → (ptpOf (timedOut s ps) q).lastAnn = none ∧ (ptpOf (timedOut s ps) q).silent = true) := by
  have hre := retimes_timedOut s ps
  rw [hre.foreign, hre.lastAnn, hre.silent]
  exact (annGone_foldl _ s q).2 (List.mem_filter.2 ⟨hq, hd⟩)

theorem timedOut_keeps {s : State} {ps : List Nat} {q : Nat} (hq : q ∉ ps) :
    (ptpOf (timedOut s ps) q).lastAnn = (ptpOf s q).lastAnn ∧ (ptpOf (timedOut s ps) q).foreign = (ptpOf s q).foreign := by
  have hre := retimes_timedOut s ps
  rw [hre.lastAnn, hre.foreign, (annGone_foldl _ s q).1 fun hmem => hq (List.mem_of_mem_filter hmem)]
  exact ⟨rfl, rfl⟩

theorem timedOut_parent (s : State) (ps : List Nat) : (timedOut s ps).tm.parent = bmca (timedOut s ps) := ptpJudge_parent _

/-! ## No measurement -/

/-- The runs of measurements that lead to and from LOCKED begin anew (R208). -/
def runsEnded (s : State) : State := { s with tm := { s.tm with lockRun := 0, unlockRun := 0 } }

/-- LOCKED ends for want of a measurement. -/
def lockLost (s : State) : State := ptpStates (setQuality (runsEnded s) 1)

theorem exec_syncReceiptTimeout {dt : Nat} {s : State} (hd : (advance dt s).tm.lastMeas + 2200000000 ≤ (advance dt s).now)
    (hq : (advance dt s).tm.quality = 0) : exec (.syncReceiptTimeout dt) s = done (lockLost (advance dt s)) :=
  (if_pos hd).trans (congrArg done (if_pos (beq_iff_eq.2 hq)))

theorem frame_lockLost (s : State) : Frame [.boot, .tm, .logb] s (lockLost s) := by
  have hruns : Within [.tm] s (runsEnded s) := within_withTm ..
  exact ((hruns.frame.mono (by decide)).trans ((frame_setQuality ..).mono (by decide))).trans (frame_ptpStates ..)

theorem lockLost_effect {s : State} (hq : s.tm.quality = 0) :
    (lockLost s).tm.quality = 1 ∧ (lockLost s).tm.holdAt = s.now ∧ (lockLost s).tm.lockRun = 0 := by
  have hne : (runsEnded s).tm.quality ≠ 1 := fun h => absurd (hq.symm.trans h) (by decide)
  unfold lockLost
  rw [ptpStates_tm]
  exact ⟨setQuality_quality .., setQuality_holdover hne⟩

/-- A holdover that has lasted its limit ends in FREE_RUN (R211). -/
theorem exec_holdoverLimitExpiry {dt : Nat} {s : State} (hq : (advance dt s).tm.quality = 1)
    (hd : (advance dt s).tm.holdAt + (advance dt s).vn 0x180008 0 * 1000000000 ≤ (advance dt s).now) :
    exec (.holdoverLimitExpiry dt) s = done (setQuality (advance dt s) 2) :=
  if_pos (Bool.and_eq_true_iff.2 ⟨beq_iff_eq.2 hq, decide_eq_true hd⟩)

end Sys2Proof.Machine

open Sys2Proof Sys2Proof.Machine

/-- Settles O10: a message sent keeps what its port has noted, and a change of quality, source or parent keeps what the BMCA looks at. -/
theorem timeQualityAndPtp : Obligations.TimeQualityAndPtp := by
  intro dt s a
  refine ⟨fun hd hq => ?receipt, fun hq hd => ?holdover, fun port also u hu hd => ?announce, fun port hl hr hst hup hd => ?sync,
    fun port hl hr hst hup hd => ?ann, fun port hl hr hst hup hd hw => ?request, fun port hr hst hup hd hw hm => ?missed,
    fun port hl hst hd hup => ?retry, fun rq profile h hp => ?profile⟩
  case receipt =>
    refine does_frame (exec_syncReceiptTimeout hd hq) (frame_lockLost ..) ?_
    rw [settle_tm]
    exact lockLost_effect hq
  case holdover =>
    have hoff := setQuality_offered (s := a) (q := 2) (by rw [hq]; decide)
    rw [hq] at hoff
    exact does_frame (exec_holdoverLimitExpiry hq hd) (frame_setQuality ..) ⟨setQuality_quality .., hoff⟩
  case announce =>
    refine does_frame (exec_announceReceiptTimeout (annDead_of_lastAnn hu hd)) (frame_timedOut ..) ?_
    simp only [ptpOf_settle, settle_tm, bmca_settle]
    exact ⟨fun q hq hdead => timedOut_forgets hq hdead, fun q _ hq => timedOut_keeps hq, timedOut_parent ..⟩
  case sync =>
    exact does_mono (does_ptpSend (exec_ptpSyncTx hr hst hd) (within_setPtp ..) (ptpOf_setPtp_self ..) hup hl)
      fun t ⟨hj, hp⟩ => ⟨hj, congrArg PtpPort.syncDue hp⟩
  case ann =>
    obtain ⟨ann, hx⟩ := exec_ptpAnnounceTx hr hst hd
    exact does_mono (does_ptpSend hx (within_setPtp ..) (ptpOf_setPtp_self ..) hup hl)
      fun t ⟨hj, hp⟩ => ⟨hj, congrArg PtpPort.annDue hp⟩
  case request =>
    exact does_mono (does_pdelaySend (exec_pdelayReqTx_answered hr hst hup hd hw) hup hl)
      fun t ⟨hj, hwait, hmissed, _⟩ => ⟨hj, hmissed, hwait⟩
  case missed =>
    refine does_frame (exec_pdelayReqTx_missed hr hst hup hd hw hm) ((frame_portFailed ..).mono (by decide)) ?_
    rw [ptpOf_settle, settle_ctrs]
    exact portFailed_effect hr hm
  case retry =>
    exact does_mono (does_pdelaySend (exec_ptpFaultyRetry hst hd hup) hup hl) fun t ⟨hj, _, _, hretry⟩ => ⟨hj, hretry⟩
  case profile =>
    have hv : valOk (.one .enum8) [.n profile] = true := by simp [valOk, fldOk, vAt, nth, ftLen]; omega
    exact does_writes rfl h rfl rfl rfl hv (by decide) fun x => completes_putProfile x hp
end

section
/-! PROOF. What the counter outlives: the frames sent, the pair's link, the equalisation, the converters and the rows leave the time unit but
for its PTP ports, and every stored response. -/

open Sys2Proof Sys2Proof.Machine

namespace Sys2Proof.Machine

/-- The counter, its servo and its sources are as before, of the time unit only what the PTP ports hold may differ, and every response is
stored as before. -/
structure TimeKept (s t : State) : Prop where
  tm : t.tm = { s.tm with ports := t.tm.ports }
  resps : ∀ n, respsOf t n = respsOf s n

theorem TimeKept.refl (s : State) : TimeKept s s := ⟨rfl, fun _ => rfl⟩

theorem TimeKept.trans {s t u : State} (h : TimeKept s t) (k : TimeKept t u) : TimeKept s u :=
  ⟨by rw [k.tm, h.tm], fun n => (k.resps n).trans (h.resps n)⟩

theorem timeKept_foldl {α : Type} {f : State → α → State} (hf : ∀ s a, TimeKept s (f s a)) (as : List α) (s : State) :
    TimeKept s (as.foldl f s) :=
  foldl_keeps TimeKept TimeKept.refl (fun _ _ _ => TimeKept.trans) f hf as s

theorem timeKept_ite {c : Prop} [Decidable c] {s t u : State} (h : TimeKept s t) (k : TimeKept s u) :
    TimeKept s (if c then t else u) := by
  split
  · exact h
  · exact k

/-- A change within components other than the time unit and the sessions. -/
theorem Within.timeKept {l : List Comp} {s t : State} (h : Within l s t) (ht : Comp.tm ∉ l := by decide)
    (hj : Comp.jal ∉ l := by decide) : TimeKept s t := by
  have htm : t.tm = s.tm := h.agrees .tm ht
  have hjal : t.jal = s.jal := h.agrees .jal hj
  exact ⟨by rw [htm], fun n => by simp only [respsOf, sessOf, hjal]⟩

theorem Sends.timeKept {s t : State} (h : Sends s t) : TimeKept s t := by
  have hjal : t.jal = s.jal := h.within.agrees .jal (by decide)
  exact ⟨h.tm, fun n => by simp only [respsOf, sessOf, hjal]⟩

theorem timeKept_bump (s : State) (ob sub : Nat) : TimeKept s (bump s ob sub) := (within_bump ..).timeKept

theorem timeKept_bumpBy (s : State) (ob sub n : Nat) : TimeKept s (bumpBy s ob sub n) := (within_bumpBy ..).timeKept

theorem timeKept_logRec (s : State) (code src : Nat) (data : List Int) : TimeKept s (logRec s code src data) := (within_logRec ..).timeKept

theorem timeKept_withPair (s : State) (x : Pair) : TimeKept s { s with pair := x } := (within_withPair ..).timeKept

theorem timeKept_withPlan (s : State) (x : Plan) : TimeKept s { s with plan := x } := (within_withPlan ..).timeKept

theorem timeKept_setRow (s : State) (r : Nat) (x : Row) : TimeKept s (setRow s r x) := timeKept_withPlan ..

theorem timeKept_setStream (s : State) (e : Nat) (x : Stream) : TimeKept s (setStream s e x) := timeKept_withPlan ..

theorem timeKept_setEq (s : State) (r : Nat) (x : Eq) : TimeKept s (setEq s r x) := timeKept_withPair ..

/-! ## Transmit requests -/

theorem timeKept_pfRefuse (s : State) (p kind dest : Nat) : TimeKept s (pfRefuse s p kind dest) := by
  unfold pfRefuse
  exact (((timeKept_bump ..).trans (timeKept_ite (timeKept_bump ..) (.refl ..))).trans (within_setPf ..).timeKept).trans
    (timeKept_ite (timeKept_logRec ..) (.refl ..))

theorem timeKept_pfFrame (s : State) (p : Nat) (inService : Bool) (e : Egress) : TimeKept s (pfFrame s p inService e).2 := by
  unfold pfFrame pfToken
  split
  · exact timeKept_pfRefuse ..
  · split
    · exact timeKept_pfRefuse ..
    · split
      · exact timeKept_pfRefuse ..
      next h =>
        dsimp only at h
        split at h
        · cases h
        · cases h
          exact (within_setPf ..).timeKept

theorem timeKept_txRequest (s : State) (q i p : Nat) (r : TxReq) (took : Nat) : TimeKept s (txRequest s q i p r took) := by
  have hdone (u : State) (st : Nat) : TimeKept u (entryDone u q i (.txDone r st 0 0)) := (sends_entryDone ..).timeKept
  unfold txRequest
  refine timeKept_ite (hdone ..) (timeKept_ite (hdone ..) (timeKept_ite (hdone ..) ?_))
  exact (timeKept_pfFrame ..).trans (timeKept_ite (hdone ..) ((sends_commitPass ..).trans (sends_sendTo ..)).timeKept)

theorem timeKept_txTake (n : Nat) (s : State) (q : Nat) (waited : Bool) : TimeKept s (txTake n s q waited) := by
  have htake (u : State) : TimeKept u (takeEntry u q) := (within_setRing ..).timeKept
  induction n generalizing s with
  | zero => exact .refl ..
  | succ n ih =>
    unfold txTake
    split
    · exact timeKept_ite (.refl ..) (((htake s).trans (timeKept_txRequest ..)).trans (ih _))
    · exact (htake s).trans (ih _)
    · exact .refl ..

/-- Launch frames are judged again and the rings that waited go on (R227, R228). -/
theorem timeKept_launchRejudge (s : State) : TimeKept s (launchRejudge s) := by
  have hresume (u : State) : TimeKept u (txResume u) := timeKept_foldl (fun _ _ => timeKept_ite (timeKept_txTake ..) (.refl ..)) _ _
  refine TimeKept.trans (timeKept_foldl (fun u n => ?_) _ _) (hresume _)
  exact ((sends_foldl (fun _ _ => sends_launchJudge ..) _ _).trans (sends_kick ..)).timeKept

/-! ## The pair's link and states -/

theorem timeKept_sendFrame (s : State) (f : IulFrame) : TimeKept s (sendFrame s f) := by
  unfold sendFrame
  split
  · exact .refl ..
  · exact timeKept_withPair ..

theorem timeKept_sendIul (s : State) (m : IulMsg) : TimeKept s (sendIul s m) := by
  unfold sendIul
  extract_lets fs u
  have hu : TimeKept s u := timeKept_foldl (fun _ _ => timeKept_sendFrame ..) _ _
  refine timeKept_ite (.refl ..) (hu.trans ?_)
  clear_value u
  split
  · exact .refl ..
  · exact timeKept_withPair ..

theorem timeKept_noteRow (s : State) (r : Nat) (eqd : Bool) : TimeKept s (noteRow s r eqd) := by
  unfold noteRow
  exact timeKept_ite (timeKept_withPair ..) (timeKept_withPair ..)

theorem timeKept_eqGiveUp (s : State) (r : Nat) : TimeKept s (eqGiveUp s r) := by
  unfold eqGiveUp
  exact ((timeKept_withPair ..).trans (timeKept_sendIul ..)).trans (timeKept_noteRow ..)

theorem timeKept_pairEval (s : State) : TimeKept s (pairEval s) := by
  have hsee (u : State) (ob sub : Nat) : TimeKept u (seeNow u ob sub) := ⟨rfl, respsOf_settleOf _ u⟩
  have hstop (u : State) : TimeKept u (eqStop u) := by
    unfold eqStop
    exact (timeKept_foldl (fun _ _ => timeKept_eqGiveUp ..) _ _).trans (timeKept_withPair ..)
  unfold pairEval
  split
  extract_lets was o pair u v
  have hv : TimeKept u v := timeKept_ite (.refl ..) ((timeKept_logRec ..).trans (hsee ..))
  refine ((timeKept_withPair s _).trans hv).trans ?_
  clear_value v
  exact timeKept_ite (timeKept_withPair ..) (timeKept_ite (hstop ..) (.refl ..))

theorem timeKept_uneqLeave (s : State) : TimeKept s (uneqLeave s) := by
  have hleave (u : State) (reason : Nat) : TimeKept u (leaveStep u reason) := by
    unfold leaveStep
    exact ((timeKept_withPair ..).trans (timeKept_pairEval ..)).trans (timeKept_ite (timeKept_withPair ..) (.refl ..))
  exact (timeKept_withPair ..).trans (hleave ..)

/-! ## Equalisation -/

theorem timeKept_sendSeats (n : Nat) (s : State) (r : Nat) (l : List SeatCopy) : TimeKept s (sendSeats n s r l) := by
  induction n generalizing s l with
  | zero => exact .refl ..
  | succ n ih =>
    unfold sendSeats
    exact timeKept_ite (.refl ..) ((timeKept_sendIul ..).trans (ih ..))

/-- A fold over a state and what goes with it keeps what its step keeps. -/
theorem timeKept_foldl_fst {α β : Type} {f : State × β → α → State × β} (hf : ∀ p a, TimeKept p.1 (f p a).1) (as : List α)
    (p : State × β) : TimeKept p.1 (as.foldl f p).1 := by
  induction as generalizing p with
  | nil => exact .refl ..
  | cons a as ih => exact (hf p a).trans (ih _)

theorem timeKept_eqDecide (s : State) (r : Nat) (x : Eq) (part : List Nat) (tags : List TagRec) :
    TimeKept s (eqDecide s r x part tags) := by
  unfold eqDecide
  extract_lets y
  refine TimeKept.trans ?_ (timeKept_setEq ..)
  exact timeKept_foldl_fst (fun p e => timeKept_ite (timeKept_sendSeats ..) (.refl ..)) _ (s, y)

theorem timeKept_eqAgreed (s : State) (r : Nat) (x : Eq) : TimeKept s (eqAgreed s r x) := by
  unfold eqAgreed
  exact (((((timeKept_setRow ..).trans (timeKept_withPair ..)).trans (timeKept_bump ..)).trans (timeKept_bumpBy ..)).trans
    (timeKept_bumpBy ..)).trans (timeKept_noteRow ..)

theorem timeKept_eqGo (n : Nat) (s : State) (r : Nat) : TimeKept s (eqGo n s r) := by
  have hsend (u : State) (x : Eq) (m : IulMsg) : TimeKept u (sendIul (setEq u r x) m) := (timeKept_setEq ..).trans (timeKept_sendIul ..)
  induction n generalizing s with
  | zero => exact .refl ..
  | succ n ih =>
    unfold eqGo
    split
    · exact .refl ..
    · split
      · exact .refl ..
      · refine timeKept_ite (.refl ..) (timeKept_ite ?_ (timeKept_ite ?_ ?_))
        · exact timeKept_ite ((timeKept_setEq ..).trans (ih _)) ((hsend ..).trans (ih _))
        · split
          · exact .refl ..
          · exact (timeKept_eqDecide ..).trans (ih _)
        · refine (timeKept_setEq s r _).trans (timeKept_ite (.refl ..) ?_)
          split
          · exact (hsend ..).trans (ih _)
          · exact timeKept_ite (timeKept_eqAgreed ..) (.refl ..)

theorem timeKept_eqPresence (s : State) (r : Nat) (part : List Nat) (dig : List Byte) : TimeKept s (eqPresence s r part dig) := by
  unfold eqPresence
  split
  · exact .refl ..
  · exact timeKept_ite (.refl ..) (((timeKept_sendSeats ..).trans (timeKept_setEq ..)).trans (timeKept_eqGo ..))

theorem timeKept_eqSeatsRx (s : State) (r : Nat) (cs : List SeatCopy) : TimeKept s (eqSeatsRx s r cs) := by
  unfold eqSeatsRx
  split
  · exact .refl ..
  · exact (timeKept_setEq ..).trans (timeKept_eqGo ..)

theorem timeKept_eqTagsRx (s : State) (r : Nat) (ts : List TagRec) : TimeKept s (eqTagsRx s r ts) := by
  unfold eqTagsRx
  split
  · exact .refl ..
  · exact (timeKept_setEq ..).trans (timeKept_eqGo ..)

theorem timeKept_eqAgreeRx (s : State) (r : Nat) (d : List Byte) : TimeKept s (eqAgreeRx s r d) := by
  unfold eqAgreeRx
  split
  · exact .refl ..
  · exact (timeKept_setEq ..).trans (timeKept_eqGo ..)

theorem timeKept_eqLostRx (s : State) (r : Nat) : TimeKept s (eqLostRx s r) := by
  unfold eqLostRx
  exact (timeKept_noteRow ..).trans (timeKept_ite (timeKept_eqGiveUp ..) (timeKept_ite (timeKept_uneqLeave ..) (.refl ..)))

theorem timeKept_eqHeld (s : State) (r : Nat) : TimeKept s (eqHeld s r) := by
  unfold eqHeld
  refine (timeKept_withPair ..).trans (timeKept_foldl (fun u m => ?_) _ _)
  obtain ⟨q, i⟩ := m
  dsimp only
  split
  · exact timeKept_eqPresence ..
  · exact timeKept_eqSeatsRx ..
  · exact timeKept_eqTagsRx ..
  · exact timeKept_eqAgreeRx ..
  · exact timeKept_eqLostRx ..
  · exact .refl ..

/-! ## The converters -/

theorem timeKept_placeSeat (s : State) (e r : Nat) (vals : List Int) (quals : List Nat) (smpCnt : Nat) (conv : Bool) (m : RxMeta) :
    TimeKept s (placeSeat s e r vals quals smpCnt conv m) := by
  unfold placeSeat
  refine timeKept_ite (.refl ..) (timeKept_ite (timeKept_bump ..) (timeKept_ite (timeKept_bump ..) (timeKept_ite (timeKept_bump ..)
    (timeKept_ite ?_ ?_))))
  · exact timeKept_ite (timeKept_bump ..) ((timeKept_bump ..).trans (timeKept_logRec ..))
  · exact (timeKept_setRow ..).trans (timeKept_bump ..)

theorem timeKept_convEmit (s : State) (e c ch : Nat) (h : List ConvIn) (m : RxMeta) : TimeKept s (convEmit s e c ch h m) := by
  unfold convEmit
  split
  · exact .refl ..
  · refine timeKept_foldl (fun u r => ?_) _ _
    exact ((timeKept_ite (timeKept_bump ..) (.refl ..)).trans (timeKept_bumpBy ..)).trans (timeKept_placeSeat ..)

theorem timeKept_convCatch (e c ch k : Nat) (s : State) (n : Nat) : TimeKept s (convCatch e c ch k s n) := by
  induction k generalizing s with
  | zero => exact .refl ..
  | succ k ih =>
    unfold convCatch
    dsimp only
    split
    · exact .refl ..
    · exact timeKept_ite (.refl ..) (((timeKept_setStream ..).trans (timeKept_ite (timeKept_convEmit ..) (.refl ..))).trans (ih _))

theorem timeKept_convSkip (s : State) (e c n : Nat) : TimeKept s (convSkip s e c n) := by
  unfold convSkip
  dsimp only
  split
  · exact .refl ..
  · exact timeKept_ite (.refl ..) (timeKept_setStream ..)

theorem timeKept_convFillTo (s : State) (e c ch n : Nat) : TimeKept s (convFillTo s e c ch n) := by
  unfold convFillTo
  extract_lets u top v
  have hu : TimeKept s u := timeKept_convSkip ..
  have hv : TimeKept u v := by
    unfold v
    split
    · exact .refl ..
    · exact timeKept_convCatch ..
  exact (hu.trans hv).trans (timeKept_ite (.refl ..) ((timeKept_bumpBy ..).trans (timeKept_convSkip ..)))

theorem timeKept_convClose (s : State) (r : Nat) : TimeKept s (convClose s r) := by
  refine timeKept_foldl (fun u e => ?_) _ _
  dsimp only
  split
  · exact timeKept_ite (timeKept_convFillTo ..) (.refl ..)
  · exact .refl ..

/-! ## Rows -/

theorem timeKept_closeRow (s : State) (r : Nat) : TimeKept s (closeRow s r) := by
  have hopen (u : State) : TimeKept u (eqOpen u r) := by
    unfold eqOpen
    exact ((timeKept_setRow ..).trans (timeKept_setEq ..)).trans (timeKept_sendIul ..)
  unfold closeRow
  extract_lets row u planU v planV w y
  have hv : TimeKept s v := ((timeKept_setRow ..).trans (timeKept_withPlan ..)).trans (timeKept_convClose ..)
  have hy : TimeKept v y := ((timeKept_withPlan ..).trans (timeKept_withPlan ..)).trans (timeKept_bump ..)
  exact (hv.trans hy).trans (timeKept_ite ((hopen ..).trans (timeKept_eqHeld ..)) (.refl ..))

theorem timeKept_closeDueRows (n : Nat) (s : State) (step : Bool) : TimeKept s (closeDueRows n s step) := by
  induction n generalizing s with
  | zero => exact .refl ..
  | succ n ih =>
    unfold closeDueRows
    split
    · exact .refl ..
    · exact timeKept_ite (.refl ..) (((timeKept_closeRow ..).trans (timeKept_ite (timeKept_bump ..) (.refl ..))).trans (ih _))

/-- Rows that a step makes overdue close (R254). -/
theorem timeKept_stepRows (s : State) : TimeKept s (stepRows s) := by
  unfold stepRows
  extract_lets plan u
  have hu : TimeKept s u := timeKept_withPlan ..
  refine hu.trans ?_
  clear_value u
  split
  · exact .refl ..
  · refine timeKept_ite (.refl ..) (TimeKept.trans ?_ (timeKept_closeDueRows ..))
    exact timeKept_ite (.refl ..) (((timeKept_withPlan ..).trans (timeKept_bumpBy ..)).trans (timeKept_logRec ..))

end Sys2Proof.Machine
end

section
/-! PROOF. The time counter: its carry, its servo, its steps and the leap second (R201 to R204, R212, R213, R222, R485). -/

open Sys2Proof Sys2Proof.Machine

namespace Sys2Proof.Machine

/-! ## The counter -/

/-- Whole nanoseconds added leave FRAC (R201). -/
theorem addFrac_whole {t : Tm} {d n : Int} (hf : t.frac < 4294967296) (hd : d = n * 4294967296) : addFrac t d =
    { t with sec := (((t.sec * 1000000000 + t.ns : Nat) + n) / 1000000000).toNat
             ns := (((t.sec * 1000000000 + t.ns : Nat) + n) % 1000000000).toNat } := by
  have hwhole : ((t.sec * 1000000000 + t.ns : Nat) * 4294967296 + t.frac + d) / 4294967296 = (t.sec * 1000000000 + t.ns : Nat) + n := by
    omega
  have hfrac : (((t.sec * 1000000000 + t.ns : Nat) * 4294967296 + t.frac + d) % 4294967296).toNat = t.frac := by omega
  simp only [addFrac, hwhole, hfrac]

/-- At the nominal increment and with no slew, the tick that reaches 10^9 ns carries into SEC. -/
theorem tickTm_carry {t : Tm} {dt lim : Nat} (hrun : t.run = true) (hslew : t.slew = 0) (hincr : t.incr = 0x200000000)
    (hf : t.frac < 4294967296) (hns : t.ns + 2 * dt = 1000000000) : tickTm t dt lim = { t with sec := t.sec + 1, ns := 0 } := by
  have hpart : slewPart t.slew (dt * lim) = 0 := by simp [slewPart, hslew]; positivity
  have hsec : (((t.sec * 1000000000 + t.ns : Nat) + (2 * dt : Int)) / 1000000000).toNat = t.sec + 1 := by omega
  have hzero : (((t.sec * 1000000000 + t.ns : Nat) + (2 * dt : Int)) % 1000000000).toNat = 0 := by omega
  unfold tickTm
  rw [if_pos hrun, hpart]
  dsimp only
  rw [addFrac_whole (n := 2 * dt) hf (by rw [hincr]; omega), hsec, hzero, Int.sub_zero]

/-! ## Steps -/

/-- The counter stepped, before launch frames and rows are judged again (R204). -/
def stepped (s : State) (amt : Int) : State :=
  dropHeld { s with tm := { addFrac { s.tm with slew := 0, slewing := false } (amt * 4294967296) with lastStep := amt } }

theorem timeKept_stepTm (s : State) (amt : Int) : TimeKept (stepped s amt) (stepTm s amt) := by
  unfold stepTm
  extract_lets tm t u v lg w
  have hv : TimeKept u v := (timeKept_bump ..).trans (timeKept_logRec ..)
  have hlg : Within [.lg] v w := ⟨fun c hc => by cases c <;> simp_all [Comp.same, w]⟩
  exact ((hv.trans hlg.timeKept).trans (timeKept_launchRejudge ..)).trans (timeKept_stepRows ..)

theorem tai_stepped {s : State} {amt : Int} (hf : s.tm.frac < 4294967296) (h : 0 ≤ tai s + amt) : tai (stepped s amt) = tai s + amt := by
  have hadd := addFrac_whole (t := { s.tm with slew := 0, slewing := false }) hf (rfl : amt * 4294967296 = _)
  unfold tai at h ⊢
  simp only [stepped, dropHeld, hadd]
  omega

/-- What a step leaves of the counter and the withheld step. -/
theorem stepTm_effect {s : State} {amt : Int} (hf : s.tm.frac < 4294967296) (h : 0 ≤ tai s + amt) :
    tai (stepTm s amt) = tai s + amt ∧ (stepTm s amt).tm.lastStep = amt ∧ (stepTm s amt).tm.held = false := by
  have htm := (timeKept_stepTm s amt).tm
  have htai : tai (stepTm s amt) = tai (stepped s amt) := by
    unfold tai
    rw [htm]
  refine ⟨htai.trans (tai_stepped hf h), ?_, ?_⟩
  · rw [htm]
    rfl
  · rw [htm]
    rfl

theorem respsOf_stepTm (s : State) (amt : Int) (n : Nat) : respsOf (stepTm s amt) n = respsOf s n := (timeKept_stepTm s amt).resps n

/-- A step a command asks for, withheld (R212). -/
def withheld (s : State) (amt : Int) : State :=
  { logRec s 0x0152 0x86 [amt] with tm := { s.tm with held := true, heldAmt := amt, heldCmd := true } }

/-- May a step be applied without confirmation: within STEP_BOUND, or in FREE_RUN since the start (R212). -/
def stepFree (s : State) (amt : Int) : Prop := amt.natAbs ≤ s.vn 0x440020 0 ∨ (s.tm.freeSince && s.tm.quality == 2) = true

theorem requestStep_of_free {s : State} {amt : Int} (h : stepFree s amt) (cmd : Bool) : requestStep s amt cmd = stepTm s amt :=
  if_pos (by simpa [stepFree] using h)

theorem requestStep_of_not_free {s : State} {amt : Int} (h : ¬ stepFree s amt) :
    requestStep s amt true = if s.tm.quality == 0 then setQuality (withheld s amt) 1 else withheld s amt :=
  if_neg (by simpa [stepFree] using h)

theorem not_stepFree {s : State} {amt : Int} (hb : s.vn 0x440020 0 < amt.natAbs) (hs : (s.tm.freeSince && s.tm.quality == 2) = false) :
    ¬ stepFree s amt := by
  simp [stepFree, hs, hb]

/-! ## TIME_SET, TIME_ADJUST and STEP_CONFIRM -/

/-- A step applied completes its command. -/
theorem completes_stepTm {a : State} {rq : Req} {amt : Int} (x : Sess) (typ : Nat) (bytes : List Byte) (hf : a.tm.frac < 4294967296)
    (h : 0 ≤ tai a + amt) : Completes a rq Comp.live (fun t =>
    tai t = tai a + amt ∧ t.tm.lastStep = amt ∧ t.tm.held = false ∧ answered t rq okS = true)
    ⟨stepTm (setSess a rq.sess x) amt, okS, typ, bytes⟩ := by
  have heff : tai (stepTm (setSess a rq.sess x) amt) = tai a + amt ∧ _ := stepTm_effect (s := setSess a rq.sess x) hf h
  have hlive := live_stepTm (setSess a rq.sess x) amt
  have hresps := respsOf_stepTm (setSess a rq.sess x) amt rq.sess
  generalize stepTm (setSess a rq.sess x) amt = y at *
  obtain ⟨htai, hlast, hheld⟩ := heff
  refine completes_of_frame (show okS ≠ pendingS by decide) hlive.frame hresps fun t ht ha => ?_
  have htm : t.tm = y.tm := ht .tm (by decide)
  simp only [tai, htm] at htai ⊢
  exact ⟨htai, hlast, hheld, ha⟩

/-- A step withheld ends LOCKED. -/
def heldBack (s : State) (amt : Int) : State := if s.tm.quality == 0 then setQuality (withheld s amt) 1 else withheld s amt

theorem frame_heldBack (s : State) (amt : Int) : Frame [.tm, .logb] s (heldBack s amt) := by
  have hw : Frame [.tm, .logb] s (withheld s amt) :=
    (((within_logRec ..).mono (by decide)).trans ((within_withTm ..).mono (by decide))).frame
  unfold heldBack
  split
  · exact hw.trans (frame_setQuality ..)
  · exact hw

theorem respsOf_heldBack (s : State) (amt : Int) (n : Nat) : respsOf (heldBack s amt) n = respsOf s n := by
  unfold heldBack
  split
  · exact (retimes_setQuality ..).resps n
  · rfl

theorem heldBack_effect (s : State) (amt : Int) : tai (heldBack s amt) = tai s ∧ (heldBack s amt).tm.held = true ∧
    (heldBack s amt).tm.heldAmt = amt ∧ (heldBack s amt).tm.quality = if s.tm.quality = 0 then 1 else s.tm.quality := by
  unfold heldBack
  by_cases h : s.tm.quality = 0
  · obtain ⟨hsec, hns, hheld, hamt, -⟩ := setQuality_keeps (withheld s amt) 1
    rw [if_pos (beq_iff_eq.2 h), if_pos h]
    refine ⟨?_, hheld, hamt, setQuality_quality ..⟩
    unfold tai
    rw [hsec, hns]
    rfl
  · rw [if_neg (by simpa using h), if_neg h]
    exact ⟨rfl, rfl, rfl, rfl⟩

theorem stepCmd_of_free {s : State} {amt : Int} (hsrc : s.tm.source = 0) (h : stepFree s amt) :
    stepCmd s amt = ⟨stepTm s amt, okS, 2, [if (stepTm s amt).tm.held then 1 else 0]⟩ := by
  unfold stepCmd
  rw [requestStep_of_free h, if_neg (by simp [hsrc])]

theorem stepCmd_of_not_free {s : State} {amt : Int} (hsrc : s.tm.source = 0) (h : ¬ stepFree s amt) :
    stepCmd s amt = ⟨heldBack s amt, okS, 2, [if (heldBack s amt).tm.held then 1 else 0]⟩ := by
  unfold stepCmd
  rw [requestStep_of_not_free h, if_neg (by simp [hsrc])]
  rfl

theorem completes_stepCmd_free {a : State} {rq : Req} {amt : Int} (x : Sess) (hsrc : a.tm.source = 0) (hfree : stepFree a amt)
    (hf : a.tm.frac < 4294967296) (h : 0 ≤ tai a + amt) : Completes a rq Comp.live (fun t =>
    tai t = tai a + amt ∧ t.tm.lastStep = amt ∧ t.tm.held = false ∧ answered t rq okS = true)
    (stepCmd (setSess a rq.sess x) amt) := by
  rw [stepCmd_of_free (s := setSess a rq.sess x) hsrc hfree]
  exact completes_stepTm x _ _ hf h

theorem completes_stepCmd_held {a : State} {rq : Req} {amt : Int} (x : Sess) (hsrc : a.tm.source = 0) (hfree : ¬ stepFree a amt) :
    Completes a rq Comp.live (fun t => tai t = tai a ∧ t.tm.held = true ∧ t.tm.heldAmt = amt ∧
      t.tm.quality = (if a.tm.quality = 0 then 1 else a.tm.quality) ∧ answered t rq okS = true)
    (stepCmd (setSess a rq.sess x) amt) := by
  rw [stepCmd_of_not_free (s := setSess a rq.sess x) hsrc hfree]
  have heff : tai (heldBack (setSess a rq.sess x) amt) = tai a ∧ _ := heldBack_effect (setSess a rq.sess x) amt
  have hframe := frame_heldBack (setSess a rq.sess x) amt
  have hresps := respsOf_heldBack (setSess a rq.sess x) amt rq.sess
  generalize heldBack (setSess a rq.sess x) amt = y at *
  obtain ⟨htai, hheld, hamt, hquality⟩ := heff
  refine completes_of_frame (show okS ≠ pendingS by decide) (hframe.mono (by decide)) hresps fun t ht ha => ?_
  have htm : t.tm = y.tm := ht .tm (by decide)
  simp only [tai, htm] at htai ⊢
  exact ⟨htai, hheld, hamt, hquality, ha⟩

/-- A command refused leaves the time unit. -/
theorem completes_refused {a : State} {rq : Req} {st : Nat} (x : Sess) (h : st ≠ pendingS) :
    Completes a rq [] (fun t => t.tm = a.tm ∧ answered t rq st = true) (deny (setSess a rq.sess x) st) :=
  completes_deny h fun _ ht ha => ⟨ht .tm (by decide), ha⟩

theorem completes_stepCmd_source {a : State} {rq : Req} {amt : Int} (x : Sess) (hsrc : a.tm.source ≠ 0) :
    Completes a rq [] (fun t => t.tm = a.tm ∧ answered t rq stateS = true) (stepCmd (setSess a rq.sess x) amt) := by
  have hcmd : stepCmd (setSess a rq.sess x) amt = deny (setSess a rq.sess x) stateS := if_pos (bne_iff_ne.2 hsrc)
  rw [hcmd]
  exact completes_refused x (by decide)

theorem opStepConfirm_none {s : State} {m : Int} (h : s.tm.held = false) : opStepConfirm s m = deny s stateS :=
  if_pos (by rw [h]; rfl)

theorem opStepConfirm_beyond {s : State} {m : Int} (h : s.tm.held = true) (hm : m < (s.tm.heldAmt.natAbs : Int)) :
    opStepConfirm s m = deny s rangeS :=
  (if_neg (by rw [h]; decide)).trans (if_pos hm)

theorem opStepConfirm_applies {s : State} {m : Int} (h : s.tm.held = true) (hm : (s.tm.heldAmt.natAbs : Int) ≤ m) :
    opStepConfirm s m = good (stepTm s s.tm.heldAmt) :=
  (if_neg (by rw [h]; decide)).trans (if_neg (Int.not_lt.2 hm))

theorem completes_opStepConfirm {a : State} {rq : Req} {m : Int} (x : Sess) (hheld : a.tm.held = true)
    (hm : (a.tm.heldAmt.natAbs : Int) ≤ m) (hf : a.tm.frac < 4294967296) (h : 0 ≤ tai a + a.tm.heldAmt) :
    Completes a rq Comp.live (fun t => tai t = tai a + a.tm.heldAmt ∧ t.tm.lastStep = a.tm.heldAmt ∧ t.tm.held = false ∧
      answered t rq okS = true) (opStepConfirm (setSess a rq.sess x) m) := by
  rw [opStepConfirm_applies (s := setSess a rq.sess x) hheld hm]
  exact completes_stepTm x 0 [] hf h

/-! ## The leap second -/

/-- UTC_OFFSET after a leap second of the announced sign (R222). -/
def offsetAfter (s : State) : Int := if s.tm.leap = 1 then s.vi 0x180005 0 + 1 else s.vi 0x180005 0 - 1

/-- The leap second taken. -/
def leapTaken (s : State) : State :=
  { s.put 0x180005 0 0 [.i (offsetAfter s)] with tm := { s.tm with leap := 0, leapWas := some (s.tm.leapAt, s.tm.leap) } }

theorem leapTaken_offset (s : State) : (leapTaken s).vi 0x180005 0 = offsetAfter s := by
  have h : (s.put 0x180005 0 0 [.i (offsetAfter s)]).val 0x180005 0 0 = [.i (offsetAfter s)] := val_put_self _ _ _ _ _ rfl fun _ _ => rfl
  have hval : (leapTaken s).val 0x180005 0 0 = [.i (offsetAfter s)] := h
  simp only [State.vi, hval]
  rfl

theorem exec_leapSecond {dt : Nat} {s : State} (hl : (advance dt s).tm.leap ≠ 0) (hat : (advance dt s).tm.leapAt ≤ tai (advance dt s)) :
    exec (.leapSecond dt) s = done (logRec (leapTaken (advance dt s)) 0x0156 0x86
      [(advance dt s).vi 0x180005 0, offsetAfter (advance dt s)]) := by
  change execLeapSecond dt s = _
  unfold execLeapSecond
  generalize advance dt s = a at *
  have hnot : ¬ (a.tm.leap == 0 || decide (tai a < a.tm.leapAt)) = true := by
    simp only [Bool.or_eq_true, beq_iff_eq, decide_eq_true_eq]
    omega
  have hoff : (if a.tm.leap == 1 then a.vi 0x180005 0 + 1 else a.vi 0x180005 0 - 1) = offsetAfter a := by
    simp only [beq_iff_eq, offsetAfter]
  dsimp only
  rw [if_neg hnot, hoff]
  rfl

end Sys2Proof.Machine

open Sys2Proof Sys2Proof.Machine

/-- Settles O9: a step moves the counter by whole nanoseconds, and what it brings with it, frames judged again and rows closed, leaves the
counter alone. -/
theorem timeCounterServoAndSteps : Obligations.TimeCounterServoAndSteps := by
  intro dt s a
  refine ⟨fun hrun hslew hincr hf hns => ?carry, fun incr hlo hhi => ?servo, fun hslew => ?slew,
    fun rq x h hsrc h0 hf hb => ?setFree, fun rq d h hsrc h0 hf hb => ?adjustFree, fun rq d h hsrc hb hfree => ?adjustHeld,
    fun rq x h hsrc hb hfree => ?setHeld, fun rq x h hsrc => ?setSource, fun rq d h hsrc => ?adjustSource,
    fun rq d h hsrc h0 hf hsince hq => ?adjustStart, fun rq m h hheld hm => ?beyond, fun rq m h hheld => ?none,
    fun rq m h hheld hm h0 hf => ?confirm, fun hl hat => ?leap⟩
  case carry => exact does_within (x := a) rfl (Within.refl ..) (tickTm_carry hrun hslew hincr hf hns)
  case servo =>
    have hx : exec (.servoFreqWrite dt incr) s = done { a with tm := { a.tm with incr := incr, incrAns := okS } } :=
      if_pos (Bool.and_eq_true_iff.2 ⟨decide_eq_true hlo, decide_eq_true hhi⟩)
    exact does_within hx (within_withTm ..) rfl
  case slew =>
    have hx : exec (.slewComplete dt) s = done { a with tm := { a.tm with slewing := false } } := if_pos (beq_iff_eq.2 hslew)
    exact does_within hx (within_withTm ..) rfl
  case setFree =>
    have hx : tai a + (x - tai a) = x := by omega
    have hd : Does (.timeSet dt rq x) s a Comp.live _ :=
      does_completes rfl h fun y => completes_stepCmd_free y hsrc (.inl hb) hf (hx.symm ▸ h0)
    exact does_mono hd fun t ⟨htai, hrest⟩ => ⟨htai.trans hx, hrest⟩
  case adjustFree => exact does_completes rfl h fun y => completes_stepCmd_free y hsrc (.inl hb) hf h0
  case adjustStart =>
    exact does_completes rfl h fun y => completes_stepCmd_free y hsrc (.inr (by rw [hsince, hq]; rfl)) hf h0
  case adjustHeld | setHeld => exact does_completes rfl h fun y => completes_stepCmd_held y hsrc (not_stepFree hb hfree)
  case setSource | adjustSource => exact does_completes rfl h fun y => completes_stepCmd_source y hsrc
  case beyond =>
    refine does_completes rfl h fun y => ?_
    rw [opStepConfirm_beyond (s := setSess a rq.sess y) hheld hm]
    exact completes_refused y (by decide)
  case none =>
    refine does_completes rfl h fun y => ?_
    rw [opStepConfirm_none (s := setSess a rq.sess y) hheld]
    exact completes_refused y (by decide)
  case confirm =>
    have hd : Does (.stepConfirm dt rq m) s a Comp.live _ :=
      does_completes rfl h fun y => completes_opStepConfirm y hheld hm hf h0
    exact does_mono hd fun t ⟨htai, _, hrest⟩ => ⟨htai, hrest⟩
  case leap =>
    have hx := exec_leapSecond hl hat
    have hw : Within [.store, .tm] a (leapTaken a) := ((within_put ..).mono (by decide)).trans ((within_withTm ..).mono (by decide))
    have hoff : offsetAfter a = a.vi 0x180005 0 + (if a.tm.leap = 1 then 1 else -1) := by
      unfold offsetAfter
      split <;> rfl
    refine does_within hx ((hw.mono (by decide)).trans ((within_logRec ..).mono (by decide))) ⟨?_, rfl, ?_⟩
    · exact (leapTaken_offset a).trans hoff
    · exact congrArg (fun o => a.logb.offered ++ [⟨0x0156, 0x86, [a.vi 0x180005 0, o]⟩]) (leapTaken_offset a).symm
end

section
/-! PROOF. ROW_CLOSE with a converted stream (R250, R251): the input that the closing row waited for is filled, and the next row, which waits
for the same input, is seated and counted. -/
namespace Sys2Proof.Machine

/-- Entry 3 of the subscription table: valid, 4,000 samples/s, eight channels from seat unit 0 on. -/
def convertedEntry : Val :=
  [.n 1, .n 1, .o [0x01, 0x0C, 0xCD, 4, 0, 1], .n 0x4000, .n 0xFFF, .n 1, .n 4000, .n 8, .n 0, .n 0, .n 1, .n 1, .n 0, .n 0, .n 0, .n 0, .n 0, .n 0]

/-- Its input 7, received. -/
def inputSeven : ConvIn where
  n := 7
  values := List.replicate 8 100
  quality := List.replicate 8 0
  filled := false

/-- The plan and the platform run at 4,800 rows a second, row 4 is the last closed row, row 5's close instant has passed and row 6's has
not; the converter of entry 3 has taken input 7. -/
def inputEightMissing : State where
  store := [(okey 0x200100 3 0, convertedEntry)]
  boot := { phase := .run, roll := [(8, { st := .ready })] }
  tm := { run := true, ns := 1900000 }
  plan := { lastClosed := some 4, streams := [(3, { hist := convPrime 7 inputSeven, histAs := histAs convertedEntry })] }

/-- The close of row 5 fills input 8, which row 6 waits for as well: its seat of entry 3 is filled and counted. -/
theorem rowClose_counts_seat : (nextOf (.rowClose 0) inputEightMissing).ctr 0x200120 3 = 1 := by decide +kernel

/-- Nothing is counted as seated before. -/
theorem bump_counts_no_seat : (bump (advance 0 inputEightMissing) 0x210012 0).ctr 0x200120 3 = 0 := by decide

end Sys2Proof.Machine

open Sys2Proof Sys2Proof.Machine

/-- Refutes O12: outside equalisation ROW_CLOSE need not count the closed row alone; the converter input that the row lacked is filled, and
an output of the next row that waited for it is seated and counted too (R251). -/
theorem not_rowsCloseReleaseAndAreConditioned : ¬ Obligations.RowsCloseReleaseAndAreConditioned := by
  unfold Obligations.RowsCloseReleaseAndAreConditioned
  intro h
  obtain ⟨-, hclose, -⟩ := h 0 inputEightMissing
  obtain ⟨-, -, -, halone⟩ := (hclose 4 (by decide) rfl (by decide +kernel)).nextOf
  obtain ⟨-, hctrs⟩ := halone rfl
  have hseats : (nextOf (.rowClose 0) inputEightMissing).ctr 0x200120 3 = (bump (advance 0 inputEightMissing) 0x210012 0).ctr 0x200120 3 :=
    congrArg (fun c => (tabGetD c (okey 0x200120 3 0) {}).v) (hctrs rfl)
  rw [rowClose_counts_seat, bump_counts_no_seat] at hseats
  exact absurd hseats (by decide)
end

section
/-! PROOF. GOOSE_TAL_EXPIRY of an entry number beyond the 4,096 entries (R309, R312, R314): a counter's key joins its object and its
instance, so that the entry's lost events and its partition's missed events are one counter. -/
namespace Sys2Proof.Machine

/-- The entry number whose GO_LOST_EVENTS (29.0126) has the key of GO_EVENTS_MISSED (29.0211) of partition 0. -/
def entryPastTable : Nat := (0x290211 - 0x290126) * 65536

/-- What is kept for that entry: its partition is 0. -/
def entryOfPartitionZero : Val :=
  [.n 1, .n 0, .o (zeros 6), .o (zeros 6), .n 0, .n 0, .n 0, .n 0, .n 0, .n 0, .n 0, .n 0, .n 0, .n 0, .n 65535, .n 0]

/-- Firmware runs and GOOSE works; the entry is 20 us past its deadline, and ring 0, which takes the events of partition 0, has no slot. -/
def lostWithoutRoom : State where
  store := [(okey 0x290100 entryPastTable 0, entryOfPartitionZero), (okey 0x290210 0 0, [.n 0, .n 0])]
  boot := { phase := .run, roll := [(10, { st := .ready })] }
  tm := { ns := 20000 }
  pub := { subs := [(entryPastTable, { st := 2 })] }

/-- The loss is counted, and the event that finds no slot once more. -/
theorem gooseTalExpiry_counts_twice :
    (nextOf (.gooseTalExpiry 0 entryPastTable) lostWithoutRoom).ctr 0x290126 entryPastTable = 2 := by decide +kernel

/-- One count of a lost event. -/
theorem bump_counts_one_loss : (bump (advance 0 lostWithoutRoom) 0x290126 entryPastTable).ctr 0x290126 entryPastTable = 1 := by
  decide +kernel

end Sys2Proof.Machine

open Sys2Proof Sys2Proof.Machine

/-- Refutes O14: its clause for GOOSE_TAL_EXPIRY does not bound the entry, and for a number past the table the event that its partition
misses (R314) is counted where the loss was, so the counter rises by two. -/
theorem not_goosePublishingAndSubscription : ¬ Obligations.GoosePublishingAndSubscription := by
  unfold Obligations.GoosePublishingAndSubscription
  intro h
  obtain ⟨-, -, -, hexpiry, -⟩ := h 0 lostWithoutRoom
  obtain ⟨-, -, honce⟩ := (hexpiry entryPastTable (by decide) (by decide +kernel) (by decide)).nextOf
  rw [gooseTalExpiry_counts_twice, bump_counts_one_loss] at honce
  exact absurd honce (by decide)
end

section
/-! PROOF. Window writes (R331, R358, R371, R388, R395, R403): what a word written to each kind of register leads to. -/
open Sys2Proof Sys2Proof.Machine
namespace Sys2Proof.Machine

/-! ## Which register an offset names -/

/-- A port register written by a core that runs an item of the partition and is not stalled takes the word (R358). -/
theorem winWrite_port {s : State} {p core i : Nat} (w : Word) (hi : i < 8) (hp : p < 64) (hrun : (runOf s p core).isSome = true)
    (hstall : (coreOf s core).stall = none) : winWrite s p core (0x200 + 4 * i) w = portReg s core i w := by
  have h4 : (0x200 + 4 * i - 0x200) / 4 = i := by omega
  have hport : (decide (0x200 ≤ 0x200 + 4 * i) && decide (0x200 + 4 * i ≤ 0x21C) && (0x200 + 4 * i) % 4 == 0) = true := by
    simp only [Bool.and_eq_true, decide_eq_true_eq, beq_iff_eq]
    omega
  have hwin : winWrite s p core (0x200 + 4 * i) w = ttWrite s p core (0x200 + 4 * i) w := by
    unfold winWrite
    rw [if_neg (by simp [hstall]), if_neg (by simp only [Bool.and_eq_true, decide_eq_true_eq]; omega), if_neg (by omega),
      if_neg (by simp only [beq_iff_eq]; omega), if_pos (by simp only [Bool.and_eq_true, decide_eq_true_eq]; omega)]
  rw [hwin]
  unfold ttWrite
  simp only [hport, hrun, if_true, h4]

/-- A core that runs no item of the partition acts on none. -/
theorem actsOf_none {s : State} {p core : Nat} (h : runOf s p core = none) : actsOf s p core = none := by
  unfold actsOf
  rw [h, ite_self]

/-- No register of the timetable's port takes a word from a core that runs no item of the partition (R358). -/
theorem ttWrite_idle {s : State} {p core off : Nat} (w : Word) (h : runOf s p core = none) (hoff : off < 0x1000) :
    ttWrite s p core off w = s := by
  have hact := actsOf_none h
  have hring : (decide (0x1000 ≤ off) && decide (off < 0x2000)) = false := by
    simp only [Bool.and_eq_false_iff, decide_eq_false_iff_not]
    omega
  unfold ttWrite
  simp only [h, hring, Option.isSome_none, Bool.false_eq_true, if_false]
  split
  · rfl
  split
  case h_1 => simp only [ttSubmitOp, hact]
  case h_2 => simp only [ttCommitOp, hact]
  case h_3 => simp only [ttCancelOp, hact]
  case h_5 => simp only [ttFlowOpenOp, hact]
  case h_6 => simp only [ttFlowCloseOp, hact]
  case h_4 | h_7 => rfl

/-- A word written to the timetable's port by a core that runs no item of the partition changes nothing. -/
theorem winWrite_idle {s : State} {p core off : Nat} (w : Word) (hlo : 0x200 ≤ off) (hhi : off < 0x1000) (hp : p < 64)
    (h : runOf s p core = none) : winWrite s p core off w = s := by
  unfold winWrite
  split
  · rfl
  · rw [if_neg (by simp only [Bool.and_eq_true, decide_eq_true_eq]; omega), if_neg (by omega), if_neg (by simp only [beq_iff_eq]; omega),
      if_pos (by simp only [Bool.and_eq_true, decide_eq_true_eq]; omega), ttWrite_idle w h hhi]

/-- A word in the pigeonholes' range is theirs, unless the core is stalled at a commit (R371). -/
theorem winWrite_pigeonholes {s : State} {p core off : Nat} (w : Word) (hlo : 0x4000 ≤ off) (hhi : off < 0x8000)
    (hstall : 64 ≤ p ∨ (coreOf s core).stall = none) : winWrite s p core off w = phWrite s p core off w := by
  have hmay : ¬ (p < 64 && (coreOf s core).stall.isSome) = true := by
    rcases hstall with hp | hn
    · simp only [Bool.and_eq_true, decide_eq_true_eq]
      omega
    · simp [hn]
  unfold winWrite
  rw [if_neg hmay, if_pos (by simp [hlo, hhi])]

/-- A bell pending register's low half clears the bits written as 1 (R403). -/
theorem phWrite_pending (s : State) (ep core : Nat) (w : Word) :
    phWrite s ep core 0x4050 w = setBell s ep { bellOf s ep with pend := ((bellOf s ep).pend ||| w.toNat) ^^^ w.toNat } := rfl

/-- A channel's status register written with bit 9 by its sender clears ABORTED (R395). -/
theorem phWrite_status {s : State} {ep core i c : Nat} {w : Word} (hi : i < 256) (hc : chanFor s ep i true = some c)
    (hbit : bit w.toNat 9 = true) : phWrite s ep core (0x4400 + 4 * i) w = setChan s c { chanOf s c with aborted := false } := by
  have h4 : (0x4400 + 4 * i - 0x4400) / 4 = i := by omega
  unfold phWrite
  dsimp only
  rw [if_neg (by simp only [beq_iff_eq]; omega), if_neg (by simp only [Bool.and_eq_true, decide_eq_true_eq]; omega),
    if_pos (by simp only [Bool.and_eq_true, decide_eq_true_eq, beq_iff_eq]; omega), h4, hc]
  exact if_pos hbit

/-- A word at an offset that no chapter defines is ignored (R331). -/
theorem winWrite_undefined {s : State} {p core off : Nat} (w : Word) (htt : off < 0x200 ∨ 0x2000 ≤ off) (hph : off < 0x4000 ∨ 0x8000 ≤ off)
    (habort : off ≠ 0x48) : winWrite s p core off w = s := by
  unfold winWrite
  rw [if_neg (c := (decide (0x4000 ≤ off) && decide (off < 0x8000)) = true) (by simp only [Bool.and_eq_true, decide_eq_true_eq]; omega),
    if_neg (c := (off == 0x48) = true) (by simpa using habort),
    if_neg (c := (decide (0x200 ≤ off) && decide (off < 0x2000)) = true) (by simp only [Bool.and_eq_true, decide_eq_true_eq]; omega),
    ite_self, ite_self]

/-! ## What a register keeps -/

@[simp] theorem coreOf_setCore (s : State) (c : Nat) (x : CorePort) : coreOf (setCore s c x) c = x := by simp [coreOf, setCore]

@[simp] theorem bellOf_setBell (s : State) (ep : Nat) (x : Bell) : bellOf (setBell s ep x) ep = x := by simp [bellOf, setBell]

theorem within_setCore (s : State) (c : Nat) (x : CorePort) : Within [.tt] s (setCore s c x) :=
  ⟨fun c hc => by cases c <;> simp_all [Comp.same, setCore]⟩

theorem within_ph_setBell (s : State) (ep : Nat) (x : Bell) : Within [.ph] s (setBell s ep x) :=
  ⟨fun c hc => by cases c <;> simp_all [Comp.same, setBell]⟩

theorem within_setChan (s : State) (c : Nat) (x : Chan) : Within [.ph] s (setChan s c x) :=
  ⟨fun c hc => by cases c <;> simp_all [Comp.same]⟩

/-- Clearing the bits of a word by setting and flipping them, or by flipping those that are set, is the same. -/
theorem or_xor_eq_and_xor (x v : Nat) : (x ||| v) ^^^ v = x &&& x ^^^ (x &&& v) := by
  refine Nat.eq_of_testBit_eq fun i => ?_
  simp only [Nat.testBit_xor, Nat.testBit_or, Nat.testBit_and]
  cases x.testBit i <;> cases v.testBit i <;> rfl

end Sys2Proof.Machine

open Sys2Proof Sys2Proof.Machine

/-- Settles O25: an offset names its register, and what the register takes is one update of the core's port, the bell or the channel, or
nothing. -/
theorem windowWrites : Obligations.WindowWrites := by
  intro dt s a
  refine ⟨fun p core offset w i ho hi hp hrun hstall => ?port, fun p core offset w hlo hhi hp hrun => ?idle, fun p core w hmay => ?bell,
    fun p core offset w i c ho hi hmay hc hbit => ?status, fun p core offset w htt hph habort => ?undefined⟩
  case port =>
    subst ho
    refine does_within (congrArg done (winWrite_port w hi hp hrun hstall)) (within_setCore ..) ⟨?_, rfl, rfl⟩
    exact congrArg CorePort.regs (coreOf_setCore ..)
  case idle => exact does_within (congrArg done (winWrite_idle w hlo hhi hp hrun)) (Within.refl ..) rfl
  case bell =>
    have hw := (winWrite_pigeonholes w (by decide) (by decide) hmay).trans (phWrite_pending ..)
    have hbell := bellOf_setBell a p { bellOf a p with pend := ((bellOf a p).pend ||| w.toNat) ^^^ w.toNat }
    refine does_within (congrArg done hw) (within_ph_setBell ..) ⟨?_, (congrArg Bell.mask hbell :)⟩
    exact (congrArg Bell.pend hbell).trans (or_xor_eq_and_xor ..)
  case status =>
    subst ho
    have hw : winWrite a p core (0x4400 + 4 * i) w = setChan a c { chanOf a c with aborted := false } :=
      (winWrite_pigeonholes w (by omega) (by omega) hmay).trans (phWrite_status hi hc hbit)
    have hchan := chanOf_setChan a c { chanOf a c with aborted := false }
    exact does_within (congrArg done hw) (within_setChan ..) ⟨(congrArg Chan.aborted hchan :), (congrArg Chan.q hchan :)⟩
  case undefined => exact does_within (congrArg done (winWrite_undefined w htt hph habort)) (Within.refl ..) trivial
end

section
/-! PROOF. The path of a migration fails whose command's session has closed (R146, R347, R354): the command's result is recorded. -/

open Sys2Proof Sys2Proof.Machine

namespace Sys2Proof.Machine

/-- The migration of partition 0 waits for its handshake, and session 0, whose MIG_START began it, has closed. -/
def migrationOrphaned : State where
  parts := { ps := [(0, { mig := { hand := true, rq := some (0, 7) } })] }
  jal := { orphans := [(0, 7, addrOf 0x300051 0)] }

/-- The orphaned result is recorded, and no longer waited for. -/
theorem migPathFail_drops_orphan : (nextOf (.migPathFail 0 0) migrationOrphaned).jal.orphans = [] := by decide +kernel

end Sys2Proof.Machine

/-- Refutes O17: the abort of a migration ends its MIG_START (R347), and where the session of that command has closed its orphan is dropped
(R146), while the clause's frame lets nothing of Jalyn change but the sessions' own entries. -/
theorem not_migrationSteps : ¬ Obligations.MigrationSteps := by
  unfold Obligations.MigrationSteps
  intro h
  obtain ⟨-, -, -, -, -, -, -, -, -, -, hpath, -⟩ := h 0 migrationOrphaned
  obtain ⟨hframe, -⟩ := (hpath 0 (by decide)).nextOf
  have hjal : jalBut (advance 0 migrationOrphaned) (nextOf (.migPathFail 0 0) migrationOrphaned) := hframe.1 (by decide)
  have hstays : (nextOf (.migPathFail 0 0) migrationOrphaned).jal.orphans = [(0, 7, addrOf 0x300051 0)] := congrArg Jal.orphans hjal
  rw [migPathFail_drops_orphan] at hstays
  cases hstays
end

section
/-! PROOF. Guest memory stays in its canonical form (O56): what a chain of operations, a fold or a request keeps of it. -/

set_option Elab.async false

open Sys2Proof Sys2Proof.Machine

namespace Sys2Proof.Machine

/-- The form depends on guest memory alone. -/
theorem inv_of_mem {s t : State} (h : t.mem = s.mem) (hs : Inv s) : Inv t := by
  unfold Inv
  rwa [h]

/-- A state written out keeps the form of its memory. -/
theorem inv_mk {pending now freeCtr ident store ctrs hw boot jal tm net plan cond pub parts tt ph lg pair pf vault rtc logb cap mem dirty}
    (h : Memory.wf mem = true) : Inv (State.mk pending now freeCtr ident store ctrs hw boot jal tm net plan cond pub parts tt ph lg pair pf
    vault rtc logb cap mem dirty) := h

theorem inv_of_snd {α : Type} {p : α × State} {a : α} {t : State} (e : p = (a, t)) (h : Inv p.2) : Inv t := by
  rwa [e] at h

theorem inv_of_fst {α : Type} {p : State × α} {a : α} {t : State} (e : p = (t, a)) (h : Inv p.1) : Inv t := by
  rwa [e] at h

theorem inv_ite {c : Prop} [Decidable c] {s t : State} (hs : Inv s) (ht : Inv t) : Inv (if c then s else t) := by
  split
  · exact hs
  · exact ht

theorem inv_res_ite {c : Prop} [Decidable c] {r q : Res} (hr : Inv r.s) (hq : Inv q.s) : Inv (if c then r else q).s := by
  split
  · exact hr
  · exact hq

theorem inv_snd_ite {α : Type} {c : Prop} [Decidable c] {p q : α × State} (hp : Inv p.2) (hq : Inv q.2) :
    Inv (if c then p else q).2 := by
  split
  · exact hp
  · exact hq

theorem inv_fst_ite {α : Type} {c : Prop} [Decidable c] {p q : State × α} (hp : Inv p.1) (hq : Inv q.1) :
    Inv (if c then p else q).1 := by
  split
  · exact hp
  · exact hq

/-- A fold keeps the form when its step does. -/
theorem inv_foldl {α : Type} {f : State → α → State} {l : List α} {s : State} (hf : ∀ t a, Inv t → Inv (f t a)) (hs : Inv s) :
    Inv (l.foldl f s) := by
  induction l generalizing s with
  | nil => exact hs
  | cons a r ih => exact ih (hf s a hs)

/-- A fold that carries a value beside the state. -/
theorem inv_foldl_fst {α β : Type} {f : State × β → α → State × β} {l : List α} {p : State × β}
    (hf : ∀ q a, Inv q.1 → Inv (f q a).1) (hp : Inv p.1) : Inv (l.foldl f p).1 := by
  induction l generalizing p with
  | nil => exact hp
  | cons a r ih => exact ih (hf p a hp)

theorem inv_foldl_snd {α β : Type} {f : β × State → α → β × State} {l : List α} {p : β × State}
    (hf : ∀ q a, Inv q.2 → Inv (f q a).2) (hp : Inv p.2) : Inv (l.foldl f p).2 := by
  induction l generalizing p with
  | nil => exact hp
  | cons a r ih => exact ih (hf p a hp)

/-- The state an outcome answers has the form. -/
def Formed (o : Host.Outcome State Fault Refusal) : Prop := ∀ t, o = .next t → Inv t

theorem formed_done {s : State} (hs : Inv s) : Formed (done s) := by
  intro t ht
  cases ht
  exact hs

theorem formed_ite {c : Prop} [Decidable c] {o p : Host.Outcome State Fault Refusal} (ho : Formed o) (hp : Formed p) :
    Formed (if c then o else p) := by
  split
  · exact ho
  · exact hp

theorem inv_memWrite {s : State} {p a : Nat} {l : List Byte} (hs : Inv s) : Inv (memWrite s p a l) := wf_memWrite _ _ _ _ hs

theorem inv_memZero {s : State} {p : Nat} (hs : Inv s) : Inv (memZero s p) := wf_memZero _ _ hs

theorem inv_zeroRegions {s : State} {p : Nat} (hs : Inv s) : Inv (zeroRegions s p) := wf_zeroRegions _ _ hs

theorem inv_memTake {s : State} {p : Nat} {spans : List (Nat × Nat)} {l : List (Nat × Byte)} (hs : Inv s) :
    Inv (memTake s p spans l) := wf_memTake _ _ _ _ hs

end Sys2Proof.Machine
end

section
/-! PROOF. Guest memory stays in its canonical form (O56): the operations of the model's Ops. -/

set_option Elab.async false

open Sys2Proof Sys2Proof.Machine

namespace Sys2Proof.Machine

theorem inv_fresh {s : State} (hs : Inv s) : Inv (fresh s).2 := inv_mk hs

theorem inv_put {s : State} {ob sub row : Nat} {v : Val} (hs : Inv s) : Inv (State.put s ob sub row v) := inv_mk hs

theorem inv_bumpBy {s : State} {ob sub n : Nat} (hs : Inv s) : Inv (bumpBy s ob sub n) := inv_mk hs

theorem inv_bump {s : State} {ob sub : Nat} (hs : Inv s) : Inv (bump s ob sub) := inv_bumpBy hs

theorem inv_clearCtrs {s : State} {lo hi : Nat} {sub : Option Nat} (hs : Inv s) : Inv (clearCtrs s lo hi sub) := inv_mk hs

theorem inv_advance {dt : Nat} {s : State} (hs : Inv s) : Inv (advance dt s) := inv_mk hs

theorem inv_logRec {s : State} {code src : Nat} {data : List Int} (hs : Inv s) : Inv (logRec s code src data) := inv_mk hs

theorem inv_setDraining {s : State} {n : Nat} {b : Bool} (hs : Inv s) : Inv (setDraining s n b) := inv_mk hs

theorem inv_setPart {s : State} {p : Nat} {x : Part} (hs : Inv s) : Inv (setPart s p x) := inv_mk hs

theorem inv_setPort {s : State} {n : Nat} {x : Port} (hs : Inv s) : Inv (setPort s n x) := inv_mk hs

end Sys2Proof.Machine
end

section
/-! PROOF. Guest memory stays in its canonical form (O56): the operations of the model's Sess. -/

set_option Elab.async false

open Sys2Proof Sys2Proof.Machine

namespace Sys2Proof.Machine

theorem inv_setSess {s : State} {n : Nat} {x : Sess} (hs : Inv s) : Inv (setSess s n x) := inv_mk hs

theorem inv_flushLost {s : State} {n : Nat} (hs : Inv s) : Inv (flushLost s n) := by
  unfold flushLost
  split
  · exact hs
  · exact inv_ite hs (inv_setSess (inv_mk hs))

theorem inv_notify {s : State} {n : Nat} {m : Notif} (hs : Inv s) : Inv (notify s n m) := by
  unfold notify
  dsimp only
  split
  · exact inv_flushLost hs
  · exact inv_ite (inv_setSess (inv_flushLost hs)) (inv_setSess (inv_flushLost hs))

theorem inv_deny {s : State} {status : Nat} (hs : Inv s) : Inv (deny s status).s := hs

theorem inv_good {s : State} (hs : Inv s) : Inv (good s).s := hs

theorem inv_respond {s : State} {n : Nat} {r : Resp} (hs : Inv s) : Inv (respond s n r) := by
  unfold respond
  split
  · exact hs
  · exact inv_setSess hs

theorem inv_answerLate {s : State} {n seq idx : Nat} {e : RespE} (hs : Inv s) : Inv (answerLate s n seq idx e) := by
  unfold answerLate
  split
  · exact hs
  · split
    · exact hs
    · exact inv_setSess hs

theorem inv_early {s : State} {rq : Req} {op : Nat} (hs : Inv s) : Inv (early s rq op) := by
  unfold early
  split
  · exact inv_ite (inv_mk hs) hs
  · exact hs

theorem inv_runReq {s : State} {rq : Req} {op : Nat} {run : State → Sess → State} (hrun : ∀ u se, Inv u → Inv (run u se)) (hs : Inv s) :
    Inv (runReq s rq op run) := by
  unfold runReq
  split
  · exact hs
  · exact inv_ite (hrun _ _ hs) (inv_respond hs)

theorem inv_onRequest {s : State} {rq : Req} {b : ReqBody} {run : State → Sess → State} (hrun : ∀ u se, Inv u → Inv (run u se))
    (hs : Inv s) : Inv (onRequest s rq b run) := by
  unfold onRequest
  split
  · exact inv_early hs
  · refine inv_ite hs ?_
    dsimp only
    have hset : ∀ x, Inv (setSess s rq.sess x) := fun _ => inv_setSess hs
    exact inv_ite (hset _) (inv_ite (inv_runReq hrun (hset _)) (inv_ite (hset _) (hset _)))

theorem inv_runExec {s : State} {rq : Req} {se : Sess} {ad : Addr} {op : State → Res} {arg : Val} (hop : ∀ u, Inv u → Inv (op u).s)
    (hs : Inv s) : Inv (runExec s rq se ad op arg).s := by
  unfold runExec
  refine inv_res_ite hs ?_
  split
  · exact hs
  · refine inv_res_ite hs (inv_res_ite hs (inv_res_ite hs (inv_res_ite ?_ (hop s hs))))
    split
    · exact hop s hs
    · exact inv_setSess (hop s hs)

theorem inv_doExec {s : State} {rq : Req} {ob sub : Nat} {op : State → Res} {arg : Val} (hop : ∀ u, Inv u → Inv (op u).s) (hs : Inv s) :
    Inv (doExec s rq ob sub op arg) :=
  inv_onRequest (fun _ _ hu => inv_respond (inv_runExec hop hu)) hs

theorem inv_orphanEnd {s : State} {n reqId status : Nat} (hs : Inv s) : Inv (orphanEnd s n reqId status) := by
  unfold orphanEnd
  split
  · exact hs
  · split
    rename_i a t heq
    have ht := inv_of_snd heq (inv_fresh (inv_mk hs))
    exact inv_logRec ht

theorem inv_execEnd {s : State} {n reqId status : Nat} {bytes : List Byte} (hs : Inv s) : Inv (execEnd s n reqId status bytes) := by
  unfold execEnd
  split
  · exact inv_orphanEnd hs
  · split
    · exact inv_orphanEnd hs
    · exact inv_setSess hs

theorem inv_stageVal {s : State} {n ob sub row : Nat} {v : Val} (hs : Inv s) : Inv (stageVal s n ob sub row v).s :=
  inv_res_ite (inv_deny hs) (inv_res_ite (inv_deny hs) (inv_good (inv_mk hs)))

theorem inv_writeVal {s : State} {n : Nat} {ad : Addr} {row : Nat} {d : Desc} {v : Val} {hook : State → Nat → Nat → Nat → Nat → Val → Res}
    (hhook : ∀ u n ob sub row v, Inv u → Inv (hook u n ob sub row v).s) (hs : Inv s) : Inv (writeVal s n ad row d v hook).s :=
  inv_res_ite hs (inv_res_ite hs (inv_res_ite (inv_stageVal hs) (hhook _ _ _ _ _ _ hs)))

theorem inv_writeEntry {s : State} {se : Sess} {e : WEntry} {put : State → Desc → Val → Res} (hput : ∀ u d v, Inv u → Inv (put u d v).s)
    (hs : Inv s) : Inv (writeEntry s se e put).s := by
  have hd : ∀ st, Inv (deny s st).s := fun _ => hs
  unfold writeEntry
  refine inv_res_ite (hd _) (inv_res_ite (hd _) ?_)
  split
  · exact hd _
  · split
    · refine inv_res_ite (hd _) ?_
      split
      · exact hd _
      · exact hput _ _ _ hs
    · exact hd _
    · split
      · exact hd _
      · exact hput _ _ _ hs

theorem inv_doWrite {s : State} {rq : Req} {ob sub : Nat} {v : Val} {hook : State → Nat → Nat → Nat → Nat → Val → Res}
    (hhook : ∀ u n ob sub row v, Inv u → Inv (hook u n ob sub row v).s) (hs : Inv s) : Inv (doWrite s rq ob sub v hook) := by
  refine inv_onRequest (fun u se hu => inv_ite (inv_respond hu) (inv_respond ?_)) hs
  exact inv_writeEntry (fun _ _ _ ht => inv_writeVal hhook ht) hu

theorem inv_plainHook {s : State} {n ob sub row : Nat} {v : Val} (hs : Inv s) : Inv (plainHook s n ob sub row v).s :=
  inv_good (inv_put hs)

theorem inv_stageDrop {s : State} (hs : Inv s) : Inv (stageDrop s) := inv_logRec (inv_mk hs)

theorem inv_bulkDrop {s : State} {ad : Addr} (hs : Inv s) : Inv (bulkDrop s ad) :=
  inv_ite (inv_mk hs) (inv_ite (inv_mk hs) (inv_ite (inv_setPart hs) hs))

theorem inv_bulkEnd {s : State} {ad : Addr} (hs : Inv s) : Inv (bulkEnd s ad) := inv_mk hs

theorem inv_closeSess {s : State} {n reason : Nat} (hs : Inv s) : Inv (closeSess s n reason) := by
  unfold closeSess
  split
  · exact hs
  · extract_lets _ t u v _ w x
    have ht : Inv t := inv_mk hs
    have hu : Inv u := inv_logRec ht
    have hv : Inv v := inv_ite (inv_stageDrop hu) hu
    have hw : Inv w := inv_mk hv
    have hx : Inv x := inv_foldl (fun y a hy => inv_bulkDrop hy) hw
    clear_value t u v w x
    split
    · exact inv_ite (inv_mk hx) hx
    · exact hx

end Sys2Proof.Machine
end

section
/-! PROOF. Guest memory stays in its canonical form (O56): the operations of the model's Query. -/

set_option Elab.async false

open Sys2Proof Sys2Proof.Machine

namespace Sys2Proof.Machine

theorem inv_nowRead {s : State} {ob : Nat} (hs : Inv s) : Inv (nowRead s ob) := inv_ite (inv_mk hs) hs

end Sys2Proof.Machine
end

section
/-! PROOF. Guest memory stays in its canonical form (O56): the operations of the model's Done. -/

set_option Elab.async false

open Sys2Proof Sys2Proof.Machine

namespace Sys2Proof.Machine

theorem inv_subSees {s : State} {n id : Nat} {x : Sub} (hs : Inv s) : Inv (subSees s n id x) := by
  unfold subSees
  split
  · exact inv_ite hs (inv_ite hs (inv_ite (inv_setSess hs) (inv_notify (inv_setSess hs))))
  · exact hs

theorem inv_settleOf {pick : Addr → Bool} {s : State} (hs : Inv s) : Inv (settleOf pick s) := inv_mk hs

theorem inv_settle {s : State} (hs : Inv s) : Inv (settle s) := inv_settleOf hs

theorem inv_seeNow {s : State} {ob sub : Nat} (hs : Inv s) : Inv (seeNow s ob sub) := inv_settleOf hs

theorem inv_setUnit {s : State} {n : Nat} {st : USt} (hs : Inv s) : Inv (setUnit s n st) :=
  inv_ite hs (inv_seeNow (inv_logRec (inv_mk hs)))

theorem inv_judgeUnit {s : State} {n : Nat} {bad : Bool} (hs : Inv s) : Inv (judgeUnit s n bad) := inv_ite (inv_setUnit hs) hs

end Sys2Proof.Machine
end

section
/-! PROOF. Guest memory stays in its canonical form (O56): the operations of the model's Mem. -/

set_option Elab.async false

open Sys2Proof Sys2Proof.Machine

namespace Sys2Proof.Machine

theorem inv_dirtyClear {s : State} {p : Nat} (hs : Inv s) : Inv (dirtyClear s p) := inv_mk hs

end Sys2Proof.Machine
end

section
/-! PROOF. Guest memory stays in its canonical form (O56): the operations of the model's Rings. -/

set_option Elab.async false

open Sys2Proof Sys2Proof.Machine

namespace Sys2Proof.Machine

theorem inv_setRing {s : State} {q : Nat} {r : Ring} (hs : Inv s) : Inv (setRing s q r) := inv_mk hs

theorem inv_reserveSlot {s : State} {q : Nat} (hs : Inv s) : Inv (reserveSlot s q) := inv_setRing hs

theorem inv_slotWrite {s : State} {q k : Nat} {e : Entry} (hs : Inv s) : Inv (slotWrite s q k e) := inv_ite (inv_memWrite hs) hs

theorem inv_makeReady {s : State} {p row : Nat} {d : ItemDesc} {src : ItemSrc} (hs : Inv s) : Inv (makeReady s p row d src) := inv_mk hs

theorem inv_submitItem {s : State} {p row : Nat} {d : ItemDesc} {src : ItemSrc} (hs : Inv s) : Inv (submitItem s p row d src).2 :=
  inv_snd_ite hs (inv_makeReady (inv_ite (inv_reserveSlot hs) hs))

theorem inv_setBell {s : State} {ep : Nat} {b : Bell} (hs : Inv s) : Inv (setBell s ep b) := inv_mk hs

theorem inv_bellItem {s : State} {p : Nat} (hs : Inv s) : Inv (bellItem s p) :=
  inv_ite hs (inv_ite (inv_bump hs) (inv_ite hs (inv_makeReady (inv_setBell hs))))

theorem inv_bellRaise {s : State} {ep bitNo : Nat} (hs : Inv s) : Inv (bellRaise s ep bitNo) := inv_ite hs (inv_bellItem (inv_setBell hs))

theorem inv_trigItem {s : State} {q i j row : Nat} (hs : Inv s) : Inv (trigItem s q i j row) :=
  inv_ite (inv_bump hs) (inv_ite (inv_makeReady (inv_setRing hs)) (inv_setRing (inv_setRing hs)))

theorem inv_trigOne {s : State} {q row : Nat} (hs : Inv s) : Inv (trigOne s q row) := inv_ite hs (inv_trigItem hs)

theorem inv_trigAdvance {s : State} {q i n row : Nat} (hs : Inv s) : Inv (trigAdvance s q i n row) :=
  inv_ite (inv_setRing hs) (inv_ite (inv_foldl (fun _ _ ht => inv_trigItem ht) hs) (inv_trigOne hs))

theorem inv_handed {s : State} {q i n row : Nat} (hs : Inv s) : Inv (handed s q i n row) :=
  inv_trigAdvance (inv_ite (inv_bellRaise hs) hs)

theorem inv_releasePending {n : Nat} {s : State} {q : Nat} (hs : Inv s) : Inv (releasePending n s q) := by
  induction n generalizing s with
  | zero => exact hs
  | succ n ih =>
    unfold releasePending
    split
    · exact hs
    · exact inv_ite (inv_ite (ih (inv_setRing (inv_bump hs))) (ih (inv_makeReady (inv_setRing hs)))) hs

theorem inv_ringPost {s : State} {q : Nat} {e : Entry} {row : Nat} (hs : Inv s) : Inv (ringPost s q e row) :=
  inv_handed (inv_setRing (inv_slotWrite hs))

theorem inv_complete {s : State} {q : Nat} {e : Entry} {row : Nat} (hs : Inv s) : Inv (complete s q e row) :=
  inv_ringPost (inv_setRing hs)

theorem inv_ringDone {s : State} {q n row : Nat} (hs : Inv s) : Inv (ringDone s q n row) := inv_handed (inv_setRing hs)

theorem inv_sweepDone {n : Nat} {s : State} {q : Nat} (hs : Inv s) : Inv (sweepDone n s q) := by
  induction n generalizing s with
  | zero => exact hs
  | succ n ih =>
    refine inv_ite hs ?_
    split
    · exact inv_ite (ih (inv_ringDone hs)) hs
    · exact hs

theorem inv_entryDone {s : State} {q i : Nat} {e : Entry} (hs : Inv s) : Inv (entryDone s q i e) := by
  unfold entryDone
  refine inv_sweepDone (inv_ite ?_ (inv_slotWrite (inv_setRing hs)))
  split
  · exact inv_complete (inv_setRing (inv_setRing hs))
  · exact inv_setRing hs

theorem inv_entryDrop {s : State} {q i : Nat} {e : Entry} (hs : Inv s) : Inv (entryDrop s q i e) := by
  unfold entryDrop
  refine inv_sweepDone (inv_setRing ?_)
  split
  · exact inv_setRing hs
  · exact hs

theorem inv_takeEntry {s : State} {q : Nat} (hs : Inv s) : Inv (takeEntry s q) := inv_setRing hs

theorem inv_stageOver {s : State} {stage : Nat} (hs : Inv s) : Inv (stageOver s stage) := inv_logRec (inv_bump (inv_mk hs))

theorem inv_commitOver {s : State} {stage p : Nat} (hs : Inv s) : Inv (commitOver s stage p) :=
  inv_ite (inv_stageOver hs) (inv_mk (inv_stageOver hs))

theorem inv_commitPass {s : State} {p took : Nat} (hs : Inv s) : Inv (commitPass s p took) := inv_ite hs (inv_commitOver hs)

theorem inv_commitWire {s : State} {p t11 t12 : Nat} (hs : Inv s) : Inv (commitWire s p t11 t12) :=
  inv_ite (inv_mk hs) (inv_commitOver (inv_mk hs))

theorem inv_itemComplete {s : State} {it : Item} {status : Nat} {start finish : Int} {result : Nat} (hs : Inv s) :
    Inv (itemComplete s it status start finish result) :=
  inv_ite (inv_complete hs) hs

end Sys2Proof.Machine
end

section
/-! PROOF. Guest memory stays in its canonical form (O56): the operations of the model's Prefect. -/

set_option Elab.async false

open Sys2Proof Sys2Proof.Machine

namespace Sys2Proof.Machine

theorem inv_setPf {s : State} {p : Nat} {x : PfPart} (hs : Inv s) : Inv (setPf s p x) := inv_mk hs

theorem inv_setClaim {s : State} {d : Nat} {c : Claim} (hs : Inv s) : Inv (setClaim s d c) := inv_mk hs

theorem inv_hearClaim {s : State} {d c : Nat} (hs : Inv s) : Inv (hearClaim s d c) := inv_ite (inv_setClaim hs) hs

theorem inv_pfToken {s t : State} {p : Nat} (hs : Inv s) (h : pfToken s p = some t) : Inv t := by
  unfold pfToken at h
  obtain ⟨-, h⟩ := Option.ite_none_left_eq_some.1 h
  cases h
  exact inv_setPf hs

theorem inv_pfRefuse {s : State} {p kind dest : Nat} (hs : Inv s) : Inv (pfRefuse s p kind dest) :=
  inv_ite (inv_logRec (inv_setPf (inv_ite (inv_bump (inv_bump hs)) (inv_bump hs)))) (inv_setPf (inv_ite (inv_bump (inv_bump hs)) (inv_bump
    hs)))

theorem inv_pfFrame {s : State} {p : Nat} {inService : Bool} {e : Egress} (hs : Inv s) : Inv (pfFrame s p inService e).2 := by
  refine inv_snd_ite (inv_pfRefuse hs) (inv_snd_ite (inv_pfRefuse hs) ?_)
  split
  · exact inv_pfRefuse hs
  · exact inv_pfToken hs ‹_›

theorem inv_setBoard {s : State} {b : Nat} {x : Board} (hs : Inv s) : Inv (setBoard s b x) := inv_mk hs

theorem inv_pfBoard {s : State} {p b : Nat} {inService : Bool} (hs : Inv s) : Inv (pfBoard s p b inService).2 :=
  inv_snd_ite (inv_pfRefuse hs) (inv_snd_ite (inv_pfRefuse hs) (inv_snd_ite (inv_pfRefuse hs) (inv_setBoard hs)))

theorem formed_execPfTokenRefill {dt p : Nat} {s : State} (hs : Inv s) : Formed (execPfTokenRefill dt p s) := by
  unfold execPfTokenRefill
  dsimp only
  split
  · exact formed_done (inv_advance hs)
  · exact formed_ite (formed_done (inv_advance hs)) (formed_done (inv_setPf (inv_advance hs)))

theorem inv_opPfReset {s : State} (hs : Inv s) : Inv (opPfReset s).s := inv_good (inv_clearCtrs (inv_clearCtrs hs))

theorem formed_execPfCountersReset {dt : Nat} {rq : Req} {s : State} (hs : Inv s) : Formed (execPfCountersReset dt rq s) :=
  formed_done (inv_doExec (fun _ ht => inv_opPfReset ht) (inv_advance hs))

theorem formed_execImageLoaderWriteRefused {dt region : Nat} {s : State} (hs : Inv s) :
    Formed (execImageLoaderWriteRefused dt region s) :=
  formed_done (inv_logRec (inv_bump (inv_advance hs)))

end Sys2Proof.Machine
end

section
/-! PROOF. Guest memory stays in its canonical form (O56): the operations of the model's Tx. -/

set_option Elab.async false

open Sys2Proof Sys2Proof.Machine

namespace Sys2Proof.Machine

theorem inv_setJob {s : State} {j : Nat} {x : TxJob} (hs : Inv s) : Inv (setJob s j x) := inv_mk hs

theorem inv_setGb {s : State} {b : Nat} {x : GBlock} (hs : Inv s) : Inv (setGb s b x) := inv_mk hs

theorem inv_dropJob {s : State} {j : Nat} (hs : Inv s) : Inv (dropJob s j) := inv_mk hs

theorem inv_gbWithdraw {s : State} {b : Nat} (hs : Inv s) : Inv (gbWithdraw s b) := inv_foldl (fun _ _ ht => inv_dropJob ht) hs

theorem inv_gbAdopt {s : State} {b : Nat} {slots : List Nat} {t : Int} (hs : Inv s) : Inv (gbAdopt s b slots t) :=
  inv_setGb (inv_gbWithdraw hs)

theorem inv_gooseReqAt {s : State} {q i status cflags st : Nat} {t : Int} (hs : Inv s) : Inv (gooseReqAt s q i status cflags st t) := by
  unfold gooseReqAt
  split
  · exact inv_entryDone hs
  · exact hs

theorem inv_gooseReqDone {s : State} {b q i status cflags : Nat} (hs : Inv s) : Inv (gooseReqDone s b q i status cflags) :=
  inv_gooseReqAt hs

theorem inv_jobEnd {s : State} {j : Nat} (hs : Inv s) : Inv (jobEnd s j) := by
  unfold jobEnd
  extract_lets _ _ _ t _ u
  have ht : Inv t := inv_foldl (fun u a hu => inv_setPort hu) hs
  have hu : Inv u := inv_mk ht
  clear_value t u
  split
  · exact hu
  · split
    · exact inv_entryDone hu
    · exact hu
  · refine inv_ite (inv_ite ?_ ?_) (inv_gooseReqAt hu)
    · extract_lets _ v
      have hv : Inv v := inv_setGb hu
      clear_value v
      exact inv_gooseReqDone (inv_bump hv)
    · extract_lets
      exact inv_gooseReqDone (inv_gbAdopt hu)
  · exact hu
  · exact inv_ite (inv_bump hu) hu

theorem inv_copyEnd {s : State} {j : Nat} (hs : Inv s) : Inv (copyEnd s j) := inv_ite (inv_jobEnd (inv_setJob hs)) (inv_setJob hs)

theorem inv_copyDown {s : State} {n j : Nat} (hs : Inv s) : Inv (copyDown s n j) := inv_ite hs (inv_copyEnd (inv_bump hs))

theorem inv_copyLate {s : State} {j : Nat} (hs : Inv s) : Inv (copyLate s j) := inv_copyEnd (inv_setJob hs)

theorem inv_jobStart {s : State} {n : Nat} {f : TxFrame} (hs : Inv s) : Inv (jobStart s n f) :=
  inv_setJob (inv_ite (inv_setPort (inv_ite (inv_bump hs) hs)) (inv_ite (inv_bump hs) hs))

theorem inv_gooseStart {s : State} {j b : Nat} {req : Option (Nat × Nat)} (hs : Inv s) : Inv (gooseStart s j b req) := by
  unfold gooseStart
  refine inv_ite (inv_setGb (inv_setJob (inv_ite (inv_bump (inv_gbAdopt (inv_bump hs))) (inv_gbAdopt (inv_bump hs))))) ?_
  dsimp only
  split
  · exact inv_ite (inv_bump hs) (inv_setGb (inv_setJob (inv_bump hs)))
  · exact inv_setJob (inv_gooseReqAt (inv_ite (inv_bump hs) (inv_setGb (inv_setJob (inv_bump hs)))))

theorem inv_setPtp {s : State} {p : Nat} {x : PtpPort} (hs : Inv s) : Inv (setPtp s p x) := inv_mk hs

theorem inv_takeSeq {s : State} {g : Nat} (hs : Inv s) : Inv (takeSeq s g).2 := inv_mk hs

theorem inv_tagSeq {s : State} {ports : List Nat} (hs : Inv s) : Inv (tagSeq s ports).2 := by
  unfold tagSeq
  refine inv_snd_ite ?_ hs
  split
  rename_i a t heq
  have ht := inv_of_snd heq (inv_takeSeq hs)
  exact ht

theorem inv_pushPtp {s : State} {n len kind : Nat} {time : Int} (hs : Inv s) : Inv (pushPtp s n len kind time) := by
  unfold pushPtp
  extract_lets _ _ t
  have ht : Inv t := inv_setJob (inv_mk hs)
  clear_value t
  split
  rename_i a u heq
  have hu := inv_of_snd heq (inv_snd_ite ht (inv_tagSeq ht))
  exact inv_setPort hu

theorem inv_ptpStart {s : State} {n : Nat} {f : TxFrame} {room : Bool} (hs : Inv s) : Inv (ptpStart s n f room) := by
  unfold ptpStart
  split
  · exact inv_ite (inv_pushPtp hs) hs
  · exact inv_setPtp hs
  · exact inv_ite (inv_pushPtp hs) hs
  · split
    · exact inv_setPtp hs
    · exact hs
  · exact hs

theorem inv_startFrame {s : State} {n : Nat} {f : TxFrame} (hs : Inv s) : Inv (startFrame s n f) := by
  unfold startFrame
  extract_lets _ _ _ t u _ v w
  have ht : Inv t := inv_setPort hs
  have hu : Inv u := by
    unfold u
    split
    · exact inv_commitWire ht
    · exact ht
  have hv : Inv v := inv_ptpStart (inv_jobStart hu)
  have hw : Inv w := by
    unfold w
    split
    · exact inv_ite (inv_gooseStart hv) hv
    · refine inv_ite ?_ hv
      extract_lets x
      have hx : Inv x := inv_bump hv
      clear_value x
      exact inv_ite (inv_bump hx) hx
    · exact hv
  clear_value t u v w
  exact inv_setPort hw

theorem inv_latePolicy {s : State} {n : Nat} {f : TxFrame} {ctr : Nat} (hs : Inv s) : Inv (latePolicy s n f ctr) :=
  inv_ite (inv_copyLate (inv_bump (inv_setPort hs))) (inv_setPort (inv_bump (inv_setPort hs)))

theorem inv_lateSweep {s : State} {n : Nat} {by_ : Bool} (hs : Inv s) : Inv (lateSweep s n by_) :=
  inv_foldl (fun _ _ ht => inv_ite (inv_latePolicy ht) ht) hs

theorem inv_staleDrop {s : State} {f : TxFrame} {ctr : Nat × Nat} (hs : Inv s) : Inv (staleDrop s f ctr) := by
  unfold staleDrop
  extract_lets _ t
  have ht : Inv t := inv_dropJob (inv_bump hs)
  clear_value t
  split
  · extract_lets _ u
    have hu : Inv u := inv_ite (inv_gbAdopt ht) ht
    clear_value u
    split
    · exact inv_ite (inv_gooseReqDone hu) (inv_gooseReqAt hu)
    · exact hu
  · exact ht

theorem inv_kickN {k : Nat} {s : State} {n : Nat} (hs : Inv s) : Inv (kickN k s n) := by
  induction k generalizing s with
  | zero => exact hs
  | succ k ih =>
    unfold kickN
    split
    · exact hs
    · split
      · exact ih (inv_staleDrop hs)
      · exact inv_startFrame hs

theorem inv_wireFree {s : State} {n : Nat} (hs : Inv s) : Inv (wireFree s n) := inv_setPort hs

theorem inv_kick {s : State} {n : Nat} (hs : Inv s) : Inv (kick s n) := inv_ite hs (inv_kickN (inv_wireFree (inv_lateSweep hs)))

theorem inv_launchJudge {s : State} {n : Nat} {f : TxFrame} (hs : Inv s) : Inv (launchJudge s n f) := by
  unfold launchJudge
  split
  · exact hs
  · exact inv_ite (inv_latePolicy hs) (inv_ite (inv_latePolicy hs) (inv_setPort hs))

theorem inv_enqueue {s : State} {n : Nat} {f : TxFrame} (hs : Inv s) : Inv (enqueue s n f) :=
  inv_kick (inv_ite (inv_launchJudge hs) (inv_setPort hs))

theorem inv_sendJob {s : State} {ports : List Nat} {tag : Bool} {owner : TxOwner} {f : TxFrame} {tsReq : Bool} (hs : Inv s) :
    Inv (sendJob s ports tag owner f tsReq) := by
  unfold sendJob
  extract_lets _ _ t u _ v w
  have ht : Inv t := inv_mk hs
  have hu : Inv u := inv_setJob ht
  have hv : Inv v := by
    unfold v
    split
    · exact inv_setJob hu
    · exact hu
  have hw : Inv w := by
    unfold w
    split
    · exact inv_ite (inv_setGb hv) hv
    · exact hv
  clear_value t u v w
  split
  rename_i a x heq
  have hx := inv_of_snd heq (inv_snd_ite (inv_tagSeq hw) hw)
  exact inv_foldl (fun y a hy => inv_ite (inv_enqueue hy) (inv_copyDown hy)) hx

theorem inv_sendTo {s : State} {n : Nat} {owner : TxOwner} {f : TxFrame} {tsReq : Bool} (hs : Inv s) : Inv (sendTo s n owner f tsReq) :=
  inv_ite (inv_sendJob hs) hs

theorem inv_sendPb {s : State} {n peer : Nat} {m : MigMsg} (hs : Inv s) : Inv (sendPb s n peer m) :=
  inv_foldl (fun _ _ ht => inv_sendTo ht) hs

theorem inv_sendOne {s : State} {n cls len : Nat} {what : TxWhat} (hs : Inv s) : Inv (sendOne s n cls len what) :=
  inv_ite (inv_sendJob hs) hs

theorem inv_txRequest {s : State} {q i p : Nat} {r : TxReq} {took : Nat} (hs : Inv s) : Inv (txRequest s q i p r took) := by
  unfold txRequest
  refine inv_ite (inv_entryDone hs) (inv_ite (inv_entryDone hs) (inv_ite (inv_entryDone hs) ?_))
  split
  rename_i a t heq
  have ht := inv_of_snd heq (inv_pfFrame hs)
  exact inv_ite (inv_entryDone ht) (inv_sendTo (inv_commitPass ht))

theorem inv_txTake {n : Nat} {s : State} {q : Nat} {waited : Bool} (hs : Inv s) : Inv (txTake n s q waited) := by
  induction n generalizing s with
  | zero => exact hs
  | succ n ih =>
    unfold txTake
    split
    · exact inv_ite hs (ih (inv_txRequest (inv_takeEntry hs)))
    · exact ih (inv_takeEntry hs)
    · exact hs

theorem inv_txResume {s : State} (hs : Inv s) : Inv (txResume s) := inv_foldl (fun _ _ ht => inv_ite (inv_txTake ht) ht) hs

theorem inv_flushPort {s : State} {n : Nat} (hs : Inv s) : Inv (flushPort s n) := by
  unfold flushPort
  refine inv_txResume ?_
  split
  · exact inv_copyEnd (inv_foldl (fun t a ht => inv_copyDown ht) (inv_setPort hs))
  · exact inv_foldl (fun t a ht => inv_copyDown ht) (inv_setPort hs)

theorem inv_flushFault {s : State} {n : Nat} (hs : Inv s) : Inv (flushFault s n) :=
  inv_txResume (inv_foldl (fun _ _ ht => inv_copyEnd (inv_setJob ht)) (inv_setPort hs))

theorem inv_dropPartFrames {s : State} {p : Nat} (hs : Inv s) : Inv (dropPartFrames s p) := inv_mk hs

end Sys2Proof.Machine
end

section
/-! PROOF. Guest memory stays in its canonical form (O56): the operations of the model's Ports. -/

set_option Elab.async false

open Sys2Proof Sys2Proof.Machine

namespace Sys2Proof.Machine

theorem inv_setCage {s : State} {n : Nat} {c : Cage} (hs : Inv s) : Inv (setCage s n c) := inv_mk hs

theorem inv_judgePorts {s : State} {u : Nat} (hs : Inv s) : Inv (judgePorts s u) := inv_ite hs (inv_ite (inv_setUnit hs) (inv_setUnit hs))

theorem inv_linkLost {s : State} {n : Nat} (hs : Inv s) : Inv (linkLost s n) :=
  inv_ite hs (inv_ite (inv_mk (inv_flushPort (inv_bump (inv_logRec (inv_setPort hs))))) (inv_flushPort (inv_bump (inv_logRec (inv_setPort
    hs)))))

theorem inv_dropByCommand {s : State} {n : Nat} (hs : Inv s) : Inv (dropByCommand s n) := inv_judgePorts (inv_setPort (inv_linkLost hs))

theorem inv_linkRise {s : State} {n speed partner : Nat} (hs : Inv s) : Inv (linkRise s n speed partner) :=
  inv_ite hs (inv_ite hs (inv_ite hs (inv_ite (inv_judgePorts (inv_logRec (inv_setPort hs))) (inv_kick (inv_judgePorts (inv_logRec
    (inv_setPort hs)))))))

theorem formed_execTransceiverInsert {dt cage : Nat} {s : State} (hs : Inv s) : Formed (execTransceiverInsert dt cage s) :=
  formed_ite (formed_done (inv_setCage (inv_advance hs))) (formed_ite (formed_done (inv_setCage (inv_advance hs))) (formed_done
    (inv_advance hs)))

theorem formed_execSfpIdRead {dt cage : Nat} {id : SfpId} {s : State} (hs : Inv s) : Formed (execSfpIdRead dt cage id s) := by
  unfold execSfpIdRead
  extract_lets t _ _ u
  have ht : Inv t := inv_advance hs
  have hu : Inv u := inv_setPort ht
  clear_value t u
  exact formed_ite (formed_done ht) (formed_ite (formed_done hu) (formed_ite (formed_ite (formed_done hu) (formed_done (inv_judgePorts
    (inv_setPort hu)))) (formed_ite (formed_done (inv_logRec hu)) (formed_done hu))))

theorem formed_execSfpDdmPoll {dt cage : Nat} {ddm : SfpDdm} {s : State} (hs : Inv s) : Formed (execSfpDdmPoll dt cage ddm s) := by
  unfold execSfpDdmPoll
  dsimp only
  split
  · exact formed_ite (formed_done (inv_setPort (inv_advance hs))) (formed_done (inv_advance hs))
  · exact formed_done (inv_advance hs)

theorem inv_putPortAdmin {s : State} {n : Nat} {v : Val} (hs : Inv s) : Inv (putPortAdmin s n v).s :=
  inv_res_ite (inv_good (inv_put hs)) (inv_res_ite (inv_good (inv_judgePorts (inv_setPort (inv_put hs)))) (inv_good (inv_judgePorts
    (inv_setPort (inv_linkLost (inv_put hs))))))

theorem inv_putPortMode {s : State} {n : Nat} {v : Val} (hs : Inv s) : Inv (putPortMode s n v).s := by
  unfold putPortMode
  refine inv_res_ite (inv_deny hs) (inv_res_ite (inv_deny hs) (inv_res_ite (inv_good hs) (inv_good (inv_judgePorts (inv_setPort
    (inv_dropByCommand ?_))))))
  split
  · exact inv_ite (inv_logRec (inv_put hs)) (inv_put hs)
  · exact inv_put hs

theorem formed_execTxDisableHoldEnd {dt port : Nat} {s : State} (hs : Inv s) : Formed (execTxDisableHoldEnd dt port s) :=
  formed_ite (formed_done (inv_setPort (inv_advance hs))) (formed_done (inv_advance hs))

theorem inv_groupApply {s : State} {g : Nat} (hs : Inv s) : Inv (groupApply s g) := inv_dropByCommand (inv_dropByCommand (inv_mk hs))

theorem inv_pauseOff {s : State} {n : Nat} (hs : Inv s) : Inv (pauseOff s n) := inv_txResume (inv_kick (inv_setPort hs))

theorem formed_execPauseEnd {dt port : Nat} {s : State} (hs : Inv s) : Formed (execPauseEnd dt port s) :=
  formed_ite (formed_done (inv_pauseOff (inv_advance hs))) (formed_done (inv_advance hs))

theorem formed_execPauseCeilingReached {dt port : Nat} {s : State} (hs : Inv s) : Formed (execPauseCeilingReached dt port s) := by
  unfold execPauseCeilingReached
  dsimp only
  split
  · exact formed_done (inv_advance hs)
  · exact formed_ite (formed_done (inv_advance hs)) (formed_done (inv_pauseOff (inv_logRec (inv_bump (inv_setPort (inv_advance hs))))))

theorem formed_execPauseLockoutEnd {dt port : Nat} {s : State} (hs : Inv s) : Formed (execPauseLockoutEnd dt port s) :=
  formed_ite (formed_done (inv_setPort (inv_advance hs))) (formed_done (inv_advance hs))

theorem formed_execNodeAgeOut {dt group mac : Nat} {s : State} (hs : Inv s) : Formed (execNodeAgeOut dt group mac s) := by
  unfold execNodeAgeOut
  dsimp only
  split
  · exact formed_done (inv_advance hs)
  · exact formed_ite (formed_done (inv_advance hs)) (formed_done (inv_mk (inv_advance hs)))

theorem formed_execSupervisionTx {dt group : Nat} {s : State} (hs : Inv s) : Formed (execSupervisionTx dt group s) :=
  formed_ite (formed_done (inv_advance hs)) (formed_done (inv_sendTo (inv_mk (inv_advance hs))))

theorem inv_opPortReset {s : State} {port : Nat} (hs : Inv s) : Inv (opPortReset s port).s := inv_good (inv_clearCtrs hs)

theorem formed_execPortCountersReset {dt : Nat} {rq : Req} {port : Nat} {s : State} (hs : Inv s) :
    Formed (execPortCountersReset dt rq port s) :=
  formed_done (inv_doExec (fun _ ht => inv_opPortReset ht) (inv_advance hs))

theorem inv_opGroupReset {s : State} {group : Nat} (hs : Inv s) : Inv (opGroupReset s group).s := inv_good (inv_clearCtrs hs)

theorem formed_execGroupCountersReset {dt : Nat} {rq : Req} {group : Nat} {s : State} (hs : Inv s) :
    Formed (execGroupCountersReset dt rq group s) :=
  formed_done (inv_doExec (fun _ ht => inv_opGroupReset ht) (inv_advance hs))

theorem formed_execLaunchTimeReached {dt port : Nat} {s : State} (hs : Inv s) : Formed (execLaunchTimeReached dt port s) := by
  unfold execLaunchTimeReached
  dsimp only
  split
  · exact formed_done (inv_advance hs)
  · exact formed_ite (formed_done (inv_txResume (inv_kick (inv_setPort (inv_advance hs))))) (formed_done (inv_advance hs))

theorem formed_execLaunchLate {dt port : Nat} {s : State} (hs : Inv s) : Formed (execLaunchLate dt port s) :=
  formed_done (inv_txResume (inv_kick (inv_lateSweep (inv_kick (inv_advance hs)))))

theorem inv_launchRejudge {s : State} (hs : Inv s) : Inv (launchRejudge s) :=
  inv_txResume (inv_foldl (fun _ _ ht => inv_kick (inv_foldl (fun _ _ hu => inv_launchJudge hu) ht)) hs)

end Sys2Proof.Machine
end

section
/-! PROOF. Guest memory stays in its canonical form (O56): the operations of the model's Plan. -/

set_option Elab.async false

open Sys2Proof Sys2Proof.Machine

namespace Sys2Proof.Machine

theorem inv_setRow {s : State} {r : Nat} {x : Row} (hs : Inv s) : Inv (setRow s r x) := inv_mk hs

theorem inv_setStream {s : State} {e : Nat} {x : Stream} (hs : Inv s) : Inv (setStream s e x) := inv_mk hs

theorem inv_placeSeat {s : State} {e r : Nat} {vals : List Int} {quals : List Nat} {smpCnt : Nat} {conv : Bool} {m : RxMeta}
    (hs : Inv s) : Inv (placeSeat s e r vals quals smpCnt conv m) :=
  inv_ite hs (inv_ite (inv_bump hs) (inv_ite (inv_bump hs) (inv_ite (inv_bump hs) (inv_ite (inv_ite (inv_bump hs) (inv_logRec (inv_bump
    hs))) (inv_bump (inv_setRow hs))))))

theorem inv_convEmit {s : State} {e c ch : Nat} {h : List ConvIn} {m : RxMeta} (hs : Inv s) : Inv (convEmit s e c ch h m) := by
  unfold convEmit
  split
  · exact hs
  · exact inv_foldl (fun t a ht => inv_placeSeat (inv_bumpBy (inv_ite (inv_bump ht) ht))) hs

theorem inv_convCatch {e c ch k : Nat} {s : State} {n : Nat} (hs : Inv s) : Inv (convCatch e c ch k s n) := by
  induction k generalizing s with
  | zero => exact hs
  | succ k ih =>
    unfold convCatch
    dsimp only
    split
    · exact hs
    · exact inv_ite hs (ih (inv_ite (inv_convEmit (inv_setStream hs)) (inv_setStream hs)))

theorem inv_convSkip {s : State} {e c n : Nat} (hs : Inv s) : Inv (convSkip s e c n) := by
  unfold convSkip
  dsimp only
  split
  · exact hs
  · exact inv_ite hs (inv_setStream hs)

theorem inv_convFillTo {s : State} {e c ch n : Nat} (hs : Inv s) : Inv (convFillTo s e c ch n) := by
  unfold convFillTo
  refine inv_ite ?_ (inv_convSkip (inv_bumpBy ?_))
  · split
    · exact inv_convSkip hs
    · exact inv_convCatch (inv_convSkip hs)
  · split
    · exact inv_convSkip hs
    · exact inv_convCatch (inv_convSkip hs)

theorem inv_convInput {s : State} {e c ch n : Nat} {as : Nat × Nat × Nat} {old : Bool} {vals : List Int} {quals : List Nat}
    {m : RxMeta} (hs : Inv s) : Inv (convInput s e c ch n as old vals quals m) := by
  unfold convInput
  refine inv_ite hs (inv_ite (inv_bump hs) ?_)
  split
  · exact inv_convEmit (inv_setStream hs)
  · exact inv_ite (inv_bump hs) (inv_ite (inv_ite (inv_bump hs) (inv_logRec (inv_bump hs))) (inv_convEmit (inv_setStream (inv_convFillTo
      hs))))

theorem inv_convClose {s : State} {r : Nat} (hs : Inv s) : Inv (convClose s r) := by
  unfold convClose
  refine inv_foldl (fun t a ht => ?_) hs
  dsimp only
  split
  · exact inv_ite (inv_convFillTo ht) ht
  · exact ht

theorem inv_learnRate {s : State} {e want v : Nat} (hs : Inv s) : Inv (learnRate s e want v) :=
  inv_ite hs (inv_ite (inv_logRec (inv_setStream hs)) (inv_setStream hs))

theorem inv_learnCh {s : State} {e want v : Nat} (hs : Inv s) : Inv (learnCh s e want v) :=
  inv_ite hs (inv_ite (inv_logRec (inv_setStream hs)) (inv_setStream hs))

theorem inv_learnCnt {s : State} {e sec cnt : Nat} (hs : Inv s) : Inv (learnCnt s e sec cnt) := by
  unfold learnCnt
  refine inv_ite (inv_setStream hs) (inv_ite (inv_setStream hs) ?_)
  split
  · exact inv_ite (inv_setStream hs) hs
  · exact hs

theorem inv_learn {s : State} {e : Nat} {v : Val} {a : Asdu} {t : Int} (hs : Inv s) : Inv (learn s e v a t) := by
  unfold learn
  dsimp only
  split
  · exact inv_learnRate (inv_setStream (inv_learnCh hs))
  · exact inv_ite (inv_setStream (inv_learnCh hs)) (inv_learnCnt (inv_setStream (inv_learnCh hs)))

theorem inv_authFail {s : State} {e ctr : Nat} (hs : Inv s) : Inv (authFail s e ctr) :=
  inv_ite (inv_bump hs) (inv_logRec (inv_setStream (inv_bump hs)))

theorem inv_simKeep {s : State} (hs : Inv s) : Inv (simKeep s) := inv_mk hs

theorem inv_svFrameOk {s : State} {r e : Nat} {p : SvPdu} (hs : Inv s) : Inv (svFrameOk s r e p).2 :=
  inv_snd_ite (inv_bump hs) (inv_snd_ite (inv_authFail hs) (inv_snd_ite (inv_authFail hs) (inv_snd_ite (inv_authFail hs) (inv_setStream
    hs))))

theorem inv_synchSeen {s : State} {e raw : Nat} (hs : Inv s) : Inv (synchSeen s e raw) := by
  unfold synchSeen
  dsimp only
  split
  · exact inv_ite (inv_setStream hs) (inv_logRec (inv_bump (inv_setStream hs)))
  · exact inv_setStream hs

theorem inv_svAsdu {s : State} {r e : Nat} {a : Asdu} {t : Int} {lanB sim auth : Bool} (hs : Inv s) :
    Inv (svAsdu s r e a t lanB sim auth) := by
  unfold svAsdu
  extract_lets _ u v
  have hu : Inv u := inv_learn hs
  have hv : Inv v := inv_synchSeen hu
  clear_value u v
  refine inv_ite (inv_bump hs) (inv_ite (inv_bump hs) (inv_ite (inv_bump hu) (inv_ite (inv_bump hu) (inv_ite (inv_bump hv) ?_))))
  split
  · exact inv_convInput hv
  · exact inv_placeSeat hv

theorem inv_svRest {k : SvKey} {p : SvPdu} {t : Int} {lanB : Bool} {r0 e0 : Nat} {s : State} {a : Asdu} (hs : Inv s) :
    Inv (svRest k p t lanB r0 e0 s a) := by
  unfold svRest
  refine inv_ite (inv_svAsdu hs) ?_
  split
  · exact inv_bump hs
  · split
    rename_i a u heq
    have hu := inv_of_snd heq (inv_svFrameOk hs)
    exact inv_ite (inv_svAsdu hu) hu

theorem inv_svFrame {s : State} {port dst vid : Nat} {lanB : Bool} {p : SvPdu} (hs : Inv s) : Inv (svFrame s port dst vid lanB p) := by
  unfold svFrame
  extract_lets
  refine inv_ite hs (inv_ite (inv_bump hs) ?_)
  split
  · exact hs
  · split
    · exact inv_bump hs
    · split
      · exact inv_bump hs
      · split
        rename_i a t heq
        have ht := inv_of_snd heq (inv_svFrameOk hs)
        exact inv_ite (inv_foldl (fun u a hu => inv_svRest hu) ht) ht

theorem inv_judgeIngest {s : State} (hs : Inv s) : Inv (judgeIngest s) := inv_judgeUnit hs

theorem inv_streamTo {s : State} {e new r : Nat} (hs : Inv s) : Inv (streamTo s e new r) :=
  inv_ite hs (inv_seeNow (inv_logRec (inv_setStream hs)))

theorem inv_seatIn {s : State} {r e : Nat} {x : Seat} (hs : Inv s) : Inv (seatIn s r e x) := inv_setRow hs

theorem inv_releaseSeat {s : State} {r e : Nat} (hs : Inv s) : Inv (releaseSeat s r e) :=
  inv_ite (inv_seatIn (inv_streamTo (inv_ite (inv_bump (inv_setStream (inv_ite (inv_streamTo (inv_setStream hs)) hs))) (inv_setStream
    (inv_ite (inv_streamTo (inv_setStream hs)) hs))))) (inv_ite (inv_seatIn (inv_streamTo (inv_bump (inv_setStream (inv_ite (inv_streamTo
    (inv_setStream hs)) hs))))) (inv_ite (inv_seatIn (inv_streamTo (inv_bump (inv_bump (inv_setStream (inv_ite (inv_streamTo
    (inv_setStream hs)) hs)))))) (inv_seatIn (inv_streamTo (inv_bump (inv_setStream (inv_ite (inv_streamTo (inv_setStream hs)) hs)))))))

theorem inv_releaseStreams {s : State} {r : Nat} (hs : Inv s) : Inv (releaseStreams s r) :=
  inv_foldl (fun _ _ ht => inv_releaseSeat ht) (inv_setRow (inv_foldl (fun _ _ ht => inv_ite ht (inv_streamTo (inv_setStream ht))) hs))

theorem inv_planEmpty {s : State} {gap : Bool} (hs : Inv s) : Inv (planEmpty s gap) := inv_mk (inv_mk hs)

theorem inv_rowCfg {s : State} {r : Nat} (hs : Inv s) : Inv (rowCfg s r) := inv_mk hs

theorem inv_rowView {s : State} {r : Nat} {f : State → State} (hf : ∀ u, Inv u → Inv (f u)) (hs : Inv s) : Inv (rowView s r f) :=
  inv_ite (hf _ hs) (inv_mk (hf _ (inv_rowCfg hs)))

end Sys2Proof.Machine
end

section
/-! PROOF. Guest memory stays in its canonical form (O56): the operations of the model's Pair. -/

set_option Elab.async false

open Sys2Proof Sys2Proof.Machine

namespace Sys2Proof.Machine

theorem inv_setLane {s : State} {n : Nat} {x : Lane} (hs : Inv s) : Inv (setLane s n x) := inv_mk hs

theorem inv_sendFrame {s : State} {f : IulFrame} (hs : Inv s) : Inv (sendFrame s f) := by
  unfold sendFrame
  split
  · exact hs
  · exact inv_setLane hs

theorem inv_sendIul {s : State} {m : IulMsg} (hs : Inv s) : Inv (sendIul s m) := by
  unfold sendIul
  refine inv_ite hs ?_
  dsimp only
  split
  · exact inv_foldl (fun t a ht => inv_sendFrame ht) hs
  · exact inv_mk (inv_foldl (fun t a ht => inv_sendFrame ht) hs)

theorem inv_setStep {s : State} {p : Nat} {x : StepSt} (hs : Inv s) : Inv (setStep s p x) := inv_mk hs

theorem inv_noteRow {s : State} {r : Nat} {eqd : Bool} (hs : Inv s) : Inv (noteRow s r eqd) := inv_ite (inv_mk hs) (inv_mk hs)

theorem inv_eqGiveUp {s : State} {r : Nat} (hs : Inv s) : Inv (eqGiveUp s r) := inv_noteRow (inv_sendIul (inv_mk hs))

theorem inv_eqStop {s : State} (hs : Inv s) : Inv (eqStop s) := inv_mk (inv_foldl (fun _ _ ht => inv_eqGiveUp ht) hs)

theorem inv_pairEval {s : State} (hs : Inv s) : Inv (pairEval s) := by
  unfold pairEval
  split
  · extract_lets _ _ _ t u
    have ht : Inv t := inv_mk hs
    have hu : Inv u := inv_ite ht (inv_seeNow (inv_logRec ht))
    clear_value t u
    exact inv_ite (inv_mk hu) (inv_ite (inv_eqStop hu) hu)

theorem inv_allOut {s : State} (hs : Inv s) : Inv (allOut s) := inv_mk hs

theorem inv_stepOut {s : State} {p : Nat} (hs : Inv s) : Inv (stepOut s p) := inv_mk (inv_setStep hs)

theorem inv_leaveStep {s : State} {reason : Nat} (hs : Inv s) : Inv (leaveStep s reason) :=
  inv_ite (inv_mk (inv_pairEval (inv_mk hs))) (inv_pairEval (inv_mk hs))

theorem inv_imageTell {s : State} {p : Nat} (hs : Inv s) : Inv (imageTell s p) := inv_ite (inv_sendIul hs) hs

theorem inv_stepStop {s : State} {p : Nat} (hs : Inv s) : Inv (stepStop s p) :=
  inv_ite (inv_leaveStep (inv_stepOut (inv_ite (inv_setStep hs) hs))) (inv_ite (inv_setStep hs) hs)

theorem inv_uneqLeave {s : State} (hs : Inv s) : Inv (uneqLeave s) := inv_leaveStep (inv_allOut hs)

theorem inv_setEq {s : State} {r : Nat} {x : Eq} (hs : Inv s) : Inv (setEq s r x) := inv_mk hs

theorem inv_sendSeats {n : Nat} {s : State} {r : Nat} {l : List SeatCopy} (hs : Inv s) : Inv (sendSeats n s r l) := by
  induction n generalizing s l with
  | zero => exact hs
  | succ n ih => exact inv_ite hs (ih (inv_sendIul hs))

theorem inv_eqDecide {s : State} {r : Nat} {x : Eq} {part : List Nat} {tags : List TagRec} (hs : Inv s) :
    Inv (eqDecide s r x part tags) :=
  inv_setEq (inv_foldl_fst (fun _ _ hq => inv_ite (inv_sendSeats hq) hq) hs)

theorem inv_eqAgreed {s : State} {r : Nat} {x : Eq} (hs : Inv s) : Inv (eqAgreed s r x) :=
  inv_noteRow (inv_bumpBy (inv_bumpBy (inv_bump (inv_mk (inv_setRow hs)))))

theorem inv_eqGo {n : Nat} {s : State} {r : Nat} (hs : Inv s) : Inv (eqGo n s r) := by
  induction n generalizing s with
  | zero => exact hs
  | succ n ih =>
    unfold eqGo
    split
    · exact hs
    · split
      · exact hs
      · refine inv_ite hs (inv_ite (inv_ite (ih (inv_setEq hs)) (ih (inv_sendIul (inv_setEq hs)))) (inv_ite ?_ (inv_ite (inv_setEq hs)
          ?_)))
        · split
          · exact hs
          · exact ih (inv_eqDecide hs)
        · split
          · exact ih (inv_sendIul (inv_setEq (inv_setEq hs)))
          · exact inv_ite (inv_eqAgreed (inv_setEq hs)) (inv_setEq hs)

theorem inv_eqOpen {s : State} {r : Nat} (hs : Inv s) : Inv (eqOpen s r) := inv_sendIul (inv_setEq (inv_setRow hs))

theorem inv_eqPresence {s : State} {r : Nat} {part : List Nat} {dig : List Byte} (hs : Inv s) : Inv (eqPresence s r part dig) := by
  unfold eqPresence
  split
  · exact hs
  · exact inv_ite hs (inv_eqGo (inv_setEq (inv_sendSeats hs)))

theorem inv_eqSeatsRx {s : State} {r : Nat} {cs : List SeatCopy} (hs : Inv s) : Inv (eqSeatsRx s r cs) := by
  unfold eqSeatsRx
  split
  · exact hs
  · exact inv_eqGo (inv_setEq hs)

theorem inv_eqTagsRx {s : State} {r : Nat} {ts : List TagRec} (hs : Inv s) : Inv (eqTagsRx s r ts) := by
  unfold eqTagsRx
  split
  · exact hs
  · exact inv_eqGo (inv_setEq hs)

theorem inv_eqAgreeRx {s : State} {r : Nat} {d : List Byte} (hs : Inv s) : Inv (eqAgreeRx s r d) := by
  unfold eqAgreeRx
  split
  · exact hs
  · exact inv_eqGo (inv_setEq hs)

theorem inv_eqLostRx {s : State} {r : Nat} (hs : Inv s) : Inv (eqLostRx s r) :=
  inv_ite (inv_eqGiveUp (inv_noteRow hs)) (inv_ite (inv_uneqLeave (inv_noteRow hs)) (inv_noteRow hs))

theorem inv_eqMsg {s : State} {r : Nat} {i : Instr} {f : State → State} (hf : ∀ u, Inv u → Inv (f u)) (hs : Inv s) :
    Inv (eqMsg s r i f) :=
  inv_ite hs (inv_ite (hf _ hs) (inv_mk hs))

theorem inv_eqHeld {s : State} {r : Nat} (hs : Inv s) : Inv (eqHeld s r) := by
  refine inv_foldl (fun t a ht => ?_) (inv_mk hs)
  obtain ⟨_, i⟩ := a
  cases i with
  | presence => exact inv_eqPresence ht
  | seats => exact inv_eqSeatsRx ht
  | tags => exact inv_eqTagsRx ht
  | agree => exact inv_eqAgreeRx ht
  | eqLost => exact inv_eqLostRx ht
  | _ => exact ht

theorem inv_closeRow {s : State} {r : Nat} (hs : Inv s) : Inv (closeRow s r) :=
  inv_ite (inv_eqHeld (inv_eqOpen (inv_bump (inv_simKeep (inv_mk (inv_convClose (inv_mk (inv_setRow hs)))))))) (inv_bump (inv_simKeep
    (inv_mk (inv_convClose (inv_mk (inv_setRow hs))))))

theorem inv_closeDueRows {n : Nat} {s : State} {step : Bool} (hs : Inv s) : Inv (closeDueRows n s step) := by
  induction n generalizing s with
  | zero => exact hs
  | succ n ih =>
    unfold closeDueRows
    split
    · exact hs
    · exact inv_ite hs (ih (inv_ite (inv_bump (inv_closeRow hs)) (inv_closeRow hs)))

theorem inv_closeMore {n : Nat} {s : State} {m : Nat} (hs : Inv s) : Inv (closeMore n s m) := by
  induction n generalizing s with
  | zero => exact hs
  | succ n ih =>
    unfold closeMore
    split
    · exact hs
    · exact inv_ite (ih (inv_closeRow hs)) hs

theorem inv_closeNext {s : State} (hs : Inv s) : Inv (closeNext s) := by
  unfold closeNext
  split
  · exact hs
  · exact inv_ite (inv_closeMore (inv_closeRow hs)) hs

theorem inv_stepRows {s : State} (hs : Inv s) : Inv (stepRows s) := by
  unfold stepRows
  dsimp only
  split
  · exact inv_mk hs
  · exact inv_ite (inv_mk hs) (inv_closeDueRows (inv_ite (inv_mk hs) (inv_logRec (inv_bumpBy (inv_mk (inv_mk hs))))))

theorem inv_setDig {s : State} {p row : Nat} {d : OutDig} (hs : Inv s) : Inv (setDig s p row d) := inv_mk hs

theorem inv_delDig {s : State} {p row : Nat} (hs : Inv s) : Inv (delDig s p row) := inv_mk hs

theorem inv_digAdd {s : State} {p row : Nat} {content : List Byte} (hs : Inv s) : Inv (digAdd s p row content) :=
  inv_ite hs (inv_setDig hs)

theorem inv_digJudge {s : State} {p row mine theirs : Nat} (hs : Inv s) : Inv (digJudge s p row mine theirs) :=
  inv_ite (inv_delDig hs) (inv_ite (inv_ite (inv_delDig hs) (inv_leaveStep (inv_stepOut (inv_mk (inv_logRec (inv_bump (inv_delDig
    hs))))))) (inv_ite (inv_ite (inv_setStep (inv_delDig hs)) (inv_ite (inv_setStep (inv_mk (inv_delDig hs))) (inv_setStep (inv_delDig
    hs)))) (inv_delDig hs)))

theorem inv_digClose {s : State} {p row : Nat} (hs : Inv s) : Inv (digClose s p row) := by
  unfold digClose
  extract_lets _ _ t u
  have ht : Inv t := inv_setStep hs
  have hu : Inv u := inv_sendIul (inv_setDig ht)
  clear_value t u
  refine inv_ite hs ?_
  split
  · exact inv_ite hu (inv_digJudge hu)
  · exact hu

theorem inv_digRx {s : State} {p row theirs : Nat} (hs : Inv s) : Inv (digRx s p row theirs) :=
  inv_ite hs (inv_ite (inv_delDig hs) (inv_ite (inv_digJudge hs) (inv_setDig hs)))

theorem inv_digLate {s : State} {p row : Nat} (hs : Inv s) : Inv (digLate s p row) := by
  unfold digLate
  split
  · exact inv_ite (inv_setDig (inv_ite (inv_bump hs) (inv_ite (inv_setStep hs) hs))) hs
  · exact hs

end Sys2Proof.Machine
end

section
/-! PROOF. Guest memory stays in its canonical form (O56): the operations of the model's Time. -/

set_option Elab.async false

open Sys2Proof Sys2Proof.Machine

namespace Sys2Proof.Machine

theorem inv_setQuality {s : State} {q : Nat} (hs : Inv s) : Inv (setQuality s q) := inv_ite hs (inv_seeNow (inv_mk (inv_logRec hs)))

theorem inv_startSlew {s : State} {amt : Int} (hs : Inv s) : Inv (startSlew s amt) := inv_mk hs

theorem inv_dropHeld {s : State} (hs : Inv s) : Inv (dropHeld s) := inv_mk hs

theorem inv_stepTm {s : State} {amt : Int} (hs : Inv s) : Inv (stepTm s amt) := by
  unfold stepTm
  exact inv_stepRows (inv_launchRejudge (inv_mk (inv_logRec (inv_bump (inv_dropHeld (inv_mk hs))))))

theorem inv_requestStep {s : State} {amt : Int} {cmd : Bool} (hs : Inv s) : Inv (requestStep s amt cmd) :=
  inv_ite (inv_stepTm hs) (inv_ite (inv_setQuality (inv_mk (inv_ite (inv_logRec hs) hs))) (inv_mk (inv_ite (inv_logRec hs) hs)))

theorem inv_measure {s : State} {off : Int} (hs : Inv s) : Inv (measure s off) := by
  unfold measure
  extract_lets _ _ t u _ _ _ v
  have ht : Inv t := inv_mk hs
  have hu : Inv u := inv_ite (inv_ite (inv_startSlew (inv_dropHeld ht)) (inv_requestStep ht)) (inv_ite (inv_startSlew ht) ht)
  have hv : Inv v := inv_mk hu
  clear_value t u v
  exact inv_ite (inv_ite (inv_setQuality hv) hv) (inv_ite (inv_setQuality hv) hv)

theorem inv_learnUtc {s : State} {off : Option Int} {valid : Bool} {leap : Nat} (hs : Inv s) : Inv (learnUtc s off valid leap) := by
  unfold learnUtc
  refine inv_mk ?_
  split
  · exact inv_ite (inv_put hs) hs
  · exact hs

theorem inv_sourceChange {s : State} (hs : Inv s) : Inv (sourceChange s) :=
  inv_mk (inv_ite (inv_dropHeld (inv_ite (inv_setQuality hs) hs)) (inv_ite (inv_setQuality hs) hs))

theorem inv_judgeSource {s : State} (hs : Inv s) : Inv (judgeSource s) := inv_ite hs (inv_sourceChange hs)

theorem inv_ptpStates {s : State} (hs : Inv s) : Inv (ptpStates s) := inv_judgeUnit (inv_foldl (fun _ _ ht => inv_setPtp ht) hs)

theorem inv_setParent {s : State} {next : Option (Nat × Announce)} (hs : Inv s) : Inv (setParent s next) := by
  unfold setParent
  refine inv_ptpStates ?_
  split
  · exact inv_learnUtc (inv_ite (inv_mk hs) (inv_sourceChange (inv_mk (inv_ite (inv_setQuality hs) hs))))
  · exact inv_ite (inv_mk hs) (inv_sourceChange (inv_mk (inv_ite (inv_setQuality hs) hs)))

theorem inv_ptpJudge {s : State} (hs : Inv s) : Inv (ptpJudge s) := inv_setParent hs

theorem inv_annRx {s : State} {p : Nat} {a : Announce} (hs : Inv s) : Inv (annRx s p a) :=
  inv_ite hs (inv_ptpJudge (inv_ite (inv_setPtp (inv_setPtp hs)) (inv_setPtp hs)))

theorem inv_ptpLinkLost {s : State} {p : Nat} (hs : Inv s) : Inv (ptpLinkLost s p) := by
  unfold ptpLinkLost
  refine inv_ite hs ?_
  dsimp only
  split
  · exact inv_ite (inv_ptpJudge (inv_setPtp hs)) (inv_ptpStates (inv_setPtp hs))
  · exact inv_ptpStates (inv_setPtp hs)

theorem inv_ptpLinkUp {s : State} {p : Nat} (hs : Inv s) : Inv (ptpLinkUp s p) := inv_ite hs (inv_ptpStates (inv_setPtp hs))

theorem inv_ptpSend {s : State} {p len kind : Nat} {time : Int} {a : Option Announce} {ts : Bool} (hs : Inv s) :
    Inv (ptpSend s p len kind time a ts) :=
  inv_ite (inv_sendJob hs) hs

theorem inv_pdelayEnd {s : State} {p : Nat} {t4 turn : Int} (hs : Inv s) : Inv (pdelayEnd s p t4 turn) := inv_ptpStates (inv_setPtp hs)

theorem inv_ptpRx {s : State} {p : Nat} {m : PtpMsg} (hs : Inv s) : Inv (ptpRx s p m) := by
  unfold ptpRx
  refine inv_ite hs ?_
  split
  · exact inv_ite hs (inv_ite (inv_setPtp hs) (inv_ptpStates (inv_measure hs)))
  · split
    · exact inv_ite hs (inv_ptpStates (inv_measure (inv_setPtp hs)))
    · exact hs
  · exact inv_ite hs (inv_annRx hs)
  · exact inv_ptpSend hs
  · refine inv_ite hs ?_
    split
    · exact inv_pdelayEnd hs
    · exact inv_setPtp hs
  · split
    · exact inv_ite (inv_pdelayEnd hs) hs
    · exact hs
  · exact hs

theorem inv_pdelaySend {s : State} {p : Nat} (hs : Inv s) : Inv (pdelaySend s p) := inv_ptpSend (inv_setPtp hs)

theorem formed_execPtpSyncTx {dt port : Nat} {s : State} (hs : Inv s) : Formed (execPtpSyncTx dt port s) :=
  formed_ite (formed_done (inv_advance hs)) (formed_done (inv_ptpSend (inv_setPtp (inv_advance hs))))

theorem formed_execPtpAnnounceTx {dt port : Nat} {s : State} (hs : Inv s) : Formed (execPtpAnnounceTx dt port s) :=
  formed_ite (formed_done (inv_advance hs)) (formed_done (inv_ptpSend (inv_setPtp (inv_advance hs))))

theorem formed_execPdelayReqTx {dt port : Nat} {s : State} (hs : Inv s) : Formed (execPdelayReqTx dt port s) := by
  unfold execPdelayReqTx
  refine formed_ite (formed_done (inv_advance hs)) (formed_ite (formed_done (inv_ptpStates ?_)) (formed_done (inv_pdelaySend (inv_setPtp
    (inv_advance hs)))))
  split
  · exact inv_ite (inv_ptpJudge (inv_bump (inv_setPtp (inv_setPtp (inv_advance hs))))) (inv_bump (inv_setPtp (inv_setPtp (inv_advance
      hs))))
  · exact inv_bump (inv_setPtp (inv_setPtp (inv_advance hs)))

theorem formed_execPtpFaultyRetry {dt port : Nat} {s : State} (hs : Inv s) : Formed (execPtpFaultyRetry dt port s) :=
  formed_ite (formed_done (inv_pdelaySend (inv_setPtp (inv_advance hs)))) (formed_done (inv_advance hs))

theorem inv_annGone {s : State} {p : Nat} (hs : Inv s) : Inv (annGone s p) := inv_setPtp (inv_setPtp hs)

theorem formed_execAnnounceReceiptTimeout {dt port : Nat} {also : List Nat} {s : State} (hs : Inv s) :
    Formed (execAnnounceReceiptTimeout dt port also s) :=
  formed_ite (formed_done (inv_advance hs)) (formed_done (inv_ptpJudge (inv_foldl (fun _ _ ht => inv_annGone ht) (inv_advance hs))))

theorem formed_execServoFreqWrite {dt incr : Nat} {s : State} (hs : Inv s) : Formed (execServoFreqWrite dt incr s) :=
  formed_ite (formed_done (inv_mk (inv_advance hs))) (formed_done (inv_mk (inv_advance hs)))

theorem formed_execSlewComplete {dt : Nat} {s : State} (hs : Inv s) : Formed (execSlewComplete dt s) :=
  formed_ite (formed_done (inv_mk (inv_advance hs))) (formed_done (inv_advance hs))

theorem formed_execSecondRollover {dt : Nat} {s : State} (hs : Inv s) : Formed (execSecondRollover dt s) := formed_done (inv_advance hs)

theorem formed_execSyncReceiptTimeout {dt : Nat} {s : State} (hs : Inv s) : Formed (execSyncReceiptTimeout dt s) :=
  formed_ite (formed_done (inv_ite (inv_ptpStates (inv_setQuality (inv_mk (inv_advance hs)))) (inv_mk (inv_advance hs)))) (formed_done
    (inv_advance hs))

theorem formed_execHoldoverLimitExpiry {dt : Nat} {s : State} (hs : Inv s) : Formed (execHoldoverLimitExpiry dt s) :=
  formed_ite (formed_done (inv_setQuality (inv_advance hs))) (formed_done (inv_advance hs))

theorem inv_putHoldLimit {s : State} {v : Val} (hs : Inv s) : Inv (putHoldLimit s v).s :=
  inv_res_ite (inv_deny hs) (inv_good (inv_ite (inv_setQuality (inv_put hs)) (inv_put hs)))

theorem inv_ptpRestart {s : State} (hs : Inv s) : Inv (ptpRestart s) := by
  unfold ptpRestart
  exact inv_setParent (inv_mk hs)

theorem inv_putProfile {s : State} {v : Val} (hs : Inv s) : Inv (putProfile s v).s :=
  inv_res_ite (inv_deny hs) (inv_good (inv_ptpRestart (inv_put (inv_put hs))))

theorem formed_execPtpProfileWrite {dt : Nat} {rq : Req} {profile : Nat} {s : State} (hs : Inv s) :
    Formed (execPtpProfileWrite dt rq profile s) :=
  formed_done (inv_doWrite (fun _ _ _ _ _ _ ht => inv_putProfile ht) (inv_advance hs))

theorem inv_stepCmd {s : State} {amt : Int} (hs : Inv s) : Inv (stepCmd s amt).s := inv_res_ite (inv_deny hs) (inv_requestStep hs)

theorem formed_execTimeSet {dt : Nat} {rq : Req} {t : Int} {s : State} (hs : Inv s) : Formed (execTimeSet dt rq t s) :=
  formed_done (inv_doExec (fun _ hu => inv_stepCmd hu) (inv_advance hs))

theorem formed_execTimeAdjust {dt : Nat} {rq : Req} {delta : Int} {s : State} (hs : Inv s) : Formed (execTimeAdjust dt rq delta s) :=
  formed_done (inv_doExec (fun _ ht => inv_stepCmd ht) (inv_advance hs))

theorem inv_opStepConfirm {s : State} {maxOff : Int} (hs : Inv s) : Inv (opStepConfirm s maxOff).s :=
  inv_res_ite (inv_deny hs) (inv_res_ite (inv_deny hs) (inv_good (inv_stepTm hs)))

theorem formed_execStepConfirm {dt : Nat} {rq : Req} {maxOffset : Int} {s : State} (hs : Inv s) :
    Formed (execStepConfirm dt rq maxOffset s) :=
  formed_done (inv_doExec (fun _ ht => inv_opStepConfirm ht) (inv_advance hs))

theorem formed_execLeapSecond {dt : Nat} {s : State} (hs : Inv s) : Formed (execLeapSecond dt s) :=
  formed_ite (formed_done (inv_advance hs)) (formed_done (inv_logRec (inv_mk (inv_put (inv_advance hs)))))

theorem inv_opTimeReset {s : State} (hs : Inv s) : Inv (opTimeReset s).s := inv_good (inv_clearCtrs hs)

theorem formed_execTimeCountersReset {dt : Nat} {rq : Req} {s : State} (hs : Inv s) : Formed (execTimeCountersReset dt rq s) :=
  formed_done (inv_doExec (fun _ ht => inv_opTimeReset ht) (inv_advance hs))

theorem inv_measureAt {s : State} {utc stamp : Int} (hs : Inv s) : Inv (measureAt s utc stamp) := inv_ite hs (inv_measure (inv_mk hs))

theorem inv_selfBit {s : State} {n : Nat} {fails : Bool} (hs : Inv s) : Inv (selfBit s n fails) := inv_ite hs (inv_logRec (inv_mk hs))

theorem inv_selfRan {s : State} {k : Nat} (hs : Inv s) : Inv (selfRan s k) := inv_mk hs

theorem inv_ppsJudge {s : State} (hs : Inv s) : Inv (ppsJudge s) := inv_selfBit (inv_ite (inv_logRec (inv_mk hs)) (inv_mk hs))

theorem formed_execPpsInEdge {dt held : Nat} {s : State} (hs : Inv s) : Formed (execPpsInEdge dt held s) :=
  formed_ite (formed_done (inv_bump (inv_advance hs))) (formed_ite (formed_done (inv_advance hs)) (formed_ite (formed_done (inv_measureAt
    (inv_ppsJudge (inv_mk (inv_advance hs))))) (formed_done (inv_ppsJudge (inv_mk (inv_advance hs))))))

theorem formed_execIrigFrame {dt held : Nat} {fr : IrigFrame} {s : State} (hs : Inv s) : Formed (execIrigFrame dt held fr s) := by
  unfold execIrigFrame
  extract_lets t _ _ _ _ _ _ _ _ _ _ _ u v
  have ht : Inv t := inv_advance hs
  have hu : Inv u := inv_judgeSource (inv_mk ht)
  have hv : Inv v := by
    unfold v
    split
    · exact inv_learnUtc hu
    · exact hu
  clear_value t u v
  exact formed_ite (formed_done (inv_bump ht)) (formed_ite (formed_done ht) (formed_ite (formed_ite (formed_done hv) (formed_done
    (inv_measureAt hv))) (formed_done hu)))

theorem formed_execPpsAbsent {dt : Nat} {s : State} (hs : Inv s) : Formed (execPpsAbsent dt s) :=
  formed_ite (formed_done (inv_ppsJudge (inv_mk (inv_advance hs)))) (formed_done (inv_advance hs))

theorem inv_putPpsMode {s : State} {v : Val} (hs : Inv s) : Inv (putPpsMode s v).s :=
  inv_good (inv_ite (inv_put hs) (inv_mk (inv_put hs)))

theorem formed_execPpsOutRise {dt : Nat} {s : State} (hs : Inv s) : Formed (execPpsOutRise dt s) :=
  formed_ite (formed_done (inv_mk (inv_advance hs))) (formed_done (inv_advance hs))

theorem formed_execPpsOutFall {dt : Nat} {s : State} (hs : Inv s) : Formed (execPpsOutFall dt s) :=
  formed_ite (formed_done (inv_mk (inv_advance hs))) (formed_done (inv_advance hs))

theorem formed_execLearnedRateUpdate {dt entry : Nat} {s : State} (hs : Inv s) : Formed (execLearnedRateUpdate dt entry s) := by
  unfold execLearnedRateUpdate
  extract_lets t
  have ht : Inv t := inv_advance hs
  clear_value t
  refine formed_ite (formed_done ht) ?_
  split
  · refine formed_ite (formed_done (inv_learnRate (inv_setStream ht))) ?_
    split
    · exact formed_ite (formed_done (inv_learnRate (inv_setStream ht))) (formed_done ht)
    · exact formed_done ht
  · exact formed_done ht

theorem formed_execRowClose {dt : Nat} {s : State} (hs : Inv s) : Formed (execRowClose dt s) :=
  formed_ite (formed_done (inv_advance hs)) (formed_done (inv_closeNext (inv_advance hs)))

theorem inv_opStreamReset {s : State} {entry : Nat} (hs : Inv s) : Inv (opStreamReset s entry).s := inv_good (inv_clearCtrs hs)

theorem formed_execStreamCountersReset {dt : Nat} {rq : Req} {entry : Nat} {s : State} (hs : Inv s) :
    Formed (execStreamCountersReset dt rq entry s) :=
  formed_done (inv_doExec (fun _ ht => inv_opStreamReset ht) (inv_advance hs))

theorem inv_opSvPortReset {s : State} (hs : Inv s) : Inv (opSvPortReset s).s := inv_good (inv_clearCtrs hs)

theorem formed_execSvPortCountersReset {dt : Nat} {rq : Req} {s : State} (hs : Inv s) : Formed (execSvPortCountersReset dt rq s) :=
  formed_done (inv_doExec (fun _ ht => inv_opSvPortReset ht) (inv_advance hs))

theorem inv_opPlanReset {s : State} (hs : Inv s) : Inv (opPlanReset s).s := inv_good (inv_clearCtrs hs)

theorem formed_execPlanCountersReset {dt : Nat} {rq : Req} {s : State} (hs : Inv s) : Formed (execPlanCountersReset dt rq s) :=
  formed_done (inv_doExec (fun _ ht => inv_opPlanReset ht) (inv_advance hs))

end Sys2Proof.Machine
end

section
/-! PROOF. Guest memory stays in its canonical form (O56): the operations of the model's Goose. -/

set_option Elab.async false

open Sys2Proof Sys2Proof.Machine

namespace Sys2Proof.Machine

theorem inv_gbStop {s : State} {b : Nat} (hs : Inv s) : Inv (gbStop s b) :=
  inv_mk (inv_txResume (inv_foldl (fun _ _ ht => inv_dropJob ht) hs))

theorem inv_gooseStop {s : State} {p : Nat} (hs : Inv s) : Inv (gooseStop s p) := inv_foldl (fun _ _ ht => inv_gbStop ht) hs

theorem inv_gbChange {s : State} {b : Nat} {slots : List Nat} {req : Option (Nat × Nat)} {took : Option Nat} (hs : Inv s) :
    Inv (gbChange s b slots req took) :=
  inv_sendTo (inv_gbAdopt hs)

theorem inv_gbLaunch {s : State} {b : Nat} {slots : List Nat} {r : GReq} {q i took : Nat} (hs : Inv s) :
    Inv (gbLaunch s b slots r q i took) :=
  inv_sendTo (inv_setGb hs)

theorem inv_gooseLogic {s : State} {p b : Nat} {img : List Nat} (hs : Inv s) : Inv (gooseLogic s p b img) := by
  unfold gooseLogic
  refine inv_ite hs (inv_ite (inv_pfRefuse hs) (inv_ite hs ?_))
  split
  rename_i a t heq
  have ht := inv_of_snd heq (inv_pfFrame hs)
  exact inv_ite (inv_gbChange ht) ht

theorem inv_gooseReq {s : State} {p q i : Nat} {r : GReq} {took : Nat} (hs : Inv s) : Inv (gooseReq s p q i r took) := by
  unfold gooseReq
  refine inv_ite (inv_gooseReqDone hs) (inv_ite (inv_gooseReqDone hs) (inv_ite (inv_gooseReqDone hs) (inv_ite (inv_gooseReqDone hs)
    (inv_ite (inv_gooseReqDone (inv_pfRefuse hs)) (inv_ite (inv_gooseReqDone hs) ?_)))))
  split
  rename_i a t heq
  have ht := inv_of_snd heq (inv_pfFrame hs)
  exact inv_ite (inv_gooseReqDone ht) (inv_ite (inv_gbLaunch (inv_commitPass ht)) (inv_gbChange (inv_commitPass ht)))

theorem formed_execGooseRequest {dt ring : Nat} {s : State} (hs : Inv s) : Formed (execGooseRequest dt ring s) := by
  unfold execGooseRequest
  extract_lets t
  have ht : Inv t := inv_advance hs
  clear_value t
  refine formed_ite (formed_done ht) ?_
  split
  · exact formed_ite (formed_done ht) (formed_done (inv_gooseReq (inv_takeEntry ht)))
  · exact formed_done (inv_takeEntry ht)
  · exact formed_done ht

theorem inv_gbRetransmit {s : State} {b : Nat} {due : Int} (hs : Inv s) : Inv (gbRetransmit s b due) :=
  inv_ite (inv_setGb hs) (inv_ite (inv_pfRefuse (inv_setGb hs)) (inv_sendTo (inv_setGb hs)))

theorem formed_execGooseRetransmit {dt block : Nat} {s : State} (hs : Inv s) : Formed (execGooseRetransmit dt block s) := by
  unfold execGooseRetransmit
  dsimp only
  split
  · exact formed_ite (formed_done (inv_gbRetransmit (inv_advance hs))) (formed_done (inv_advance hs))
  · exact formed_done (inv_advance hs)

theorem inv_gooseClaim {s : State} {d : Nat} (hs : Inv s) : Inv (gooseClaim s d) := by
  unfold gooseClaim
  refine inv_foldl (fun t a ht => inv_ite ht ?_) hs
  split
  rename_i a u heq
  have hu := inv_of_snd heq (inv_snd_ite (inv_pfFrame ht) ht)
  exact inv_ite hu (inv_ite (inv_setGb (inv_gbAdopt hu)) (inv_sendTo (inv_setGb (inv_gbAdopt hu))))

theorem inv_opGoReset {s : State} (hs : Inv s) : Inv (opGoReset s).s := inv_good (inv_clearCtrs hs)

theorem formed_execGoCountersReset {dt : Nat} {rq : Req} {s : State} (hs : Inv s) : Formed (execGoCountersReset dt rq s) :=
  formed_done (inv_doExec (fun _ ht => inv_opGoReset ht) (inv_advance hs))

theorem inv_setGs {s : State} {e : Nat} {x : GSub} (hs : Inv s) : Inv (setGs s e x) := inv_mk hs

theorem inv_setLatch {s : State} {k : Nat} {x : Latch} (hs : Inv s) : Inv (setLatch s k x) := inv_mk hs

theorem inv_gsState {s : State} {e st : Nat} (hs : Inv s) : Inv (gsState s e st) := inv_ite hs (inv_seeNow (inv_logRec (inv_setGs hs)))

theorem inv_gsEvent {s : State} {e kind flags : Nat} {time : Int} (hs : Inv s) : Inv (gsEvent s e kind flags time) :=
  inv_ite hs (inv_ite (inv_bump (inv_mk hs)) (inv_ringPost (inv_mk (inv_memWrite hs))))

theorem inv_gsAccept {s : State} {e : Nat} {p : GoosePdu} {rx : Int} {isNew : Bool} {flags claim : Nat} (hs : Inv s) :
    Inv (gsAccept s e p rx isNew flags claim) :=
  inv_ite (inv_gsEvent (inv_gsState (inv_setGs hs))) (inv_gsState (inv_setGs hs))

theorem inv_gsSeq {s : State} {e : Nat} {p : GoosePdu} {rx : Int} {claim : Nat} (hs : Inv s) : Inv (gsSeq s e p rx claim) :=
  inv_ite (inv_gsAccept hs) (inv_ite (inv_gsAccept (inv_bump hs)) (inv_ite (inv_ite (inv_gsAccept hs) (inv_bump hs)) (inv_ite
    (inv_gsAccept (inv_ite (inv_bump hs) hs)) (inv_bump hs))))

theorem inv_gsClaimRule {s : State} {e : Nat} {v : Val} {p : GoosePdu} {rx : Int} (hs : Inv s) : Inv (gsClaimRule s e v p rx) :=
  inv_ite (inv_gsSeq hs) (inv_ite (inv_setLatch hs) (inv_ite (inv_bump hs) (inv_gsSeq (inv_ite (inv_setGs (inv_setLatch (inv_ite
    (inv_hearClaim hs) hs))) (inv_setLatch (inv_ite (inv_hearClaim hs) hs))))))

theorem inv_gsAuthFail {s : State} {e ctr : Nat} (hs : Inv s) : Inv (gsAuthFail s e ctr) :=
  inv_ite (inv_bump hs) (inv_logRec (inv_setGs (inv_bump hs)))

theorem inv_gooseRx {s : State} {port dst src vid : Nat} {p : GoosePdu} (hs : Inv s) : Inv (gooseRx s port dst src vid p) := by
  unfold gooseRx
  refine inv_ite hs (inv_ite (inv_bump hs) ?_)
  split
  · exact inv_bump hs
  · exact inv_ite (inv_bump hs) (inv_ite (inv_gsAuthFail hs) (inv_ite (inv_gsAuthFail hs) (inv_ite (inv_gsAuthFail hs) (inv_ite (inv_bump
      (inv_setGs hs)) (inv_ite (inv_bump (inv_setGs hs)) (inv_gsClaimRule (inv_setGs hs)))))))

theorem formed_execGooseTalExpiry {dt entry : Nat} {s : State} (hs : Inv s) : Formed (execGooseTalExpiry dt entry s) :=
  formed_ite (formed_done (inv_gsEvent (inv_gsState (inv_bump (inv_advance hs))))) (formed_done (inv_advance hs))

theorem formed_execLatchListenEnd {dt latch : Nat} {s : State} (hs : Inv s) : Formed (execLatchListenEnd dt latch s) :=
  formed_ite (formed_done (inv_setLatch (inv_advance hs))) (formed_done (inv_advance hs))

theorem inv_opGsubReset {s : State} (hs : Inv s) : Inv (opGsubReset s).s := inv_good (inv_clearCtrs (inv_clearCtrs hs))

theorem formed_execGsubCountersReset {dt : Nat} {rq : Req} {s : State} (hs : Inv s) : Formed (execGsubCountersReset dt rq s) :=
  formed_done (inv_doExec (fun _ ht => inv_opGsubReset ht) (inv_advance hs))

theorem inv_gsFresh {s : State} {e : Nat} (hs : Inv s) : Inv (gsFresh s e) := inv_ite (inv_gsState hs) (inv_ite (inv_gsState hs) hs)

theorem inv_gooseBegin {s : State} (hs : Inv s) : Inv (gooseBegin s) :=
  inv_foldl (fun _ _ ht => inv_gsFresh ht) (inv_ite (inv_foldl (fun _ _ ht => inv_setLatch ht) hs) hs)

theorem inv_gsCommit {s : State} {e : Nat} (hs : Inv s) : Inv (gsCommit s e) := inv_ite (inv_gsFresh (inv_setGs hs)) (inv_setGs hs)

theorem inv_setOs {s : State} {o : Nat} {x : OsSt} (hs : Inv s) : Inv (setOs s o x) := inv_mk hs

theorem inv_osSend {s : State} {o : Nat} {fr : List (Nat × Nat × List Int × List Nat)} (hs : Inv s) : Inv (osSend s o fr) :=
  inv_ite hs (inv_ite (inv_bump hs) (inv_sendTo hs))

theorem inv_osSample {s : State} {o n synch : Nat} {vals : List Int} {quals : List Nat} (hs : Inv s) :
    Inv (osSample s o n synch vals quals) :=
  inv_ite (inv_osSend (inv_setOs hs)) (inv_setOs hs)

theorem inv_osFeed {s : State} {o c ch synch : Nat} {x : ConvIn} (hs : Inv s) : Inv (osFeed s o c ch synch x) :=
  inv_foldl (fun _ _ ht => inv_osSample (inv_bumpBy ht)) (inv_setOs hs)

theorem inv_osFill {o c ch synch k : Nat} {s : State} {n : Nat} (hs : Inv s) : Inv (osFill o c ch synch k s n) := by
  induction k generalizing s with
  | zero => exact hs
  | succ k ih =>
    unfold osFill
    split
    · exact hs
    · exact inv_ite (ih (inv_osFeed hs)) hs

theorem inv_osRow1 {s : State} {o r : Nat} (hs : Inv s) : Inv (osRow1 s o r) := by
  unfold osRow1
  dsimp only
  split
  · refine inv_osSample (inv_bumpBy ?_)
    split
    · exact inv_ite (inv_setOs hs) hs
    · exact hs
  · refine inv_osFeed (inv_osFill (inv_bumpBy ?_))
    split
    · exact inv_ite (inv_setOs hs) hs
    · exact hs

theorem inv_osRow {s : State} {r : Nat} {cond : Bool} (hs : Inv s) : Inv (osRow s r cond) :=
  inv_ite hs (inv_rowView (fun _ ht => inv_foldl (fun _ _ hu => inv_ite (inv_osRow1 hu) hu) ht) hs)

theorem inv_opOsReset {s : State} (hs : Inv s) : Inv (opOsReset s).s := inv_good (inv_clearCtrs hs)

theorem formed_execOsCountersReset {dt : Nat} {rq : Req} {s : State} (hs : Inv s) : Formed (execOsCountersReset dt rq s) :=
  formed_done (inv_doExec (fun _ ht => inv_opOsReset ht) (inv_advance hs))

theorem inv_judgePub {s : State} (hs : Inv s) : Inv (judgePub s) := inv_judgeUnit (inv_judgeUnit hs)

end Sys2Proof.Machine
end

section
/-! PROOF. Guest memory stays in its canonical form (O56): the operations of the model's VaultQ. -/

set_option Elab.async false

open Sys2Proof Sys2Proof.Machine

namespace Sys2Proof.Machine

theorem inv_setSlot {s : State} {k : Nat} {x : KeySlot} (hs : Inv s) : Inv (setSlot s k x) := inv_mk hs

theorem inv_judgeVault {s : State} (hs : Inv s) : Inv (judgeVault s) := inv_judgeUnit hs

theorem inv_slotTo {s : State} {k st : Nat} (hs : Inv s) : Inv (slotTo s k st) := inv_setSlot hs

theorem inv_judgeKeys {s : State} (hs : Inv s) : Inv (judgeKeys s) := inv_judgePub (inv_judgeIngest hs)

theorem inv_slotBad {s : State} {k : Nat} (hs : Inv s) : Inv (slotBad s k) :=
  inv_ite (inv_judgeKeys (inv_judgeVault (inv_logRec (inv_slotTo hs)))) hs

theorem inv_slotCheck {s : State} {op : VOp} (hs : Inv s) : Inv (slotCheck s op) := by
  unfold slotCheck
  split
  · exact inv_ite (inv_slotBad hs) hs
  · exact hs

theorem inv_vaultKick {s : State} (hs : Inv s) : Inv (vaultKick s) := by
  unfold vaultKick
  dsimp only
  split
  · split
    · exact inv_mk hs
    · split
      · exact inv_mk (inv_slotCheck (inv_mk hs))
      · exact hs
  · exact hs

theorem inv_vaultPush {s : State} {c : Nat} {op : VOp} (hs : Inv s) : Inv (vaultPush s c op) := inv_vaultKick (inv_mk hs)

theorem inv_vaultYield {s : State} (hs : Inv s) : Inv (vaultYield s) := by
  unfold vaultYield
  dsimp only
  split
  · exact hs
  · exact inv_ite (inv_vaultKick (inv_mk hs)) hs

end Sys2Proof.Machine
end

section
/-! PROOF. Guest memory stays in its canonical form (O56): the operations of the model's Claims. -/

set_option Elab.async false

open Sys2Proof Sys2Proof.Machine

namespace Sys2Proof.Machine

theorem inv_judgeHolder {s : State} {d : Nat} (hs : Inv s) : Inv (judgeHolder s d) :=
  inv_ite hs (inv_ite (inv_setClaim hs) (inv_logRec (inv_setClaim hs)))

theorem inv_setBol {s : State} {x : Bolpel} (hs : Inv s) : Inv (setBol s x) := inv_mk hs

theorem inv_bolPump {s : State} (hs : Inv s) : Inv (bolPump s) := by
  unfold bolPump
  dsimp only
  split
  · refine inv_ite hs (inv_bump ?_)
    split
    · exact inv_commitWire (inv_setBol hs)
    · exact inv_setBol hs
  · exact hs

theorem inv_bolQueue {s : State} {c : BolCmd} (hs : Inv s) : Inv (bolQueue s c) := inv_bolPump (inv_setBol hs)

theorem inv_bolDone {s : State} {c : BolCmd} {status readback : Nat} (hs : Inv s) : Inv (bolDone s c status readback) := by
  unfold bolDone
  split
  · exact hs
  · split
    · exact inv_entryDone hs
    · exact hs

theorem inv_bolCommand {s : State} {p board mask out : Nat} {req : Option (Nat × Nat)} {served : Bool} {took : Option Nat} (hs : Inv s)
    : Inv (bolCommand s p board mask out req served took).2 := by
  unfold bolCommand
  refine inv_snd_ite (inv_pfRefuse hs) (inv_snd_ite hs (inv_snd_ite hs ?_))
  split
  rename_i a t heq
  have ht := inv_of_snd heq (inv_pfBoard hs)
  exact inv_snd_ite ht (inv_bolQueue (inv_setBoard (inv_commitPass ht)))

theorem formed_execBolpelRequest {dt ring : Nat} {s : State} (hs : Inv s) : Formed (execBolpelRequest dt ring s) := by
  unfold execBolpelRequest
  refine formed_ite (formed_done (inv_advance hs)) ?_
  split
  · split
    rename_i a t heq
    have ht := inv_of_snd heq (inv_bolCommand (inv_takeEntry (inv_advance hs)))
    exact formed_ite (formed_done ht) (formed_done (inv_entryDone ht))
  · exact formed_done (inv_takeEntry (inv_advance hs))
  · exact formed_done (inv_advance hs)

theorem inv_bolCycle {s : State} (hs : Inv s) : Inv (bolCycle s) := by
  unfold bolCycle
  dsimp only
  split
  · exact inv_setBol hs
  · exact inv_ite (inv_bolPump (inv_setBol hs)) (inv_bolPump (inv_setBol hs))

theorem formed_execBolpelCycle {dt : Nat} {s : State} (hs : Inv s) : Formed (execBolpelCycle dt s) :=
  formed_ite (formed_done (inv_advance hs)) (formed_done (inv_bolCycle (inv_setBol (inv_advance hs))))

theorem formed_execBolpelFrameEnd {dt : Nat} {s : State} (hs : Inv s) : Formed (execBolpelFrameEnd dt s) := by
  unfold execBolpelFrameEnd
  dsimp only
  split
  · exact formed_done (inv_advance hs)
  · exact formed_ite (formed_done (inv_advance hs)) (formed_ite (formed_done (inv_bolPump (inv_setBol (inv_setBol (inv_advance hs)))))
      (formed_done (inv_setBol (inv_setBol (inv_advance hs)))))

theorem inv_judgeBol {s : State} (hs : Inv s) : Inv (judgeBol s) := inv_selfBit (inv_judgeUnit hs)

theorem inv_echoFail {s : State} {n : Nat} (hs : Inv s) : Inv (echoFail s n) :=
  inv_judgeBol (inv_ite (inv_logRec (inv_selfRan (inv_setBoard (inv_bump hs)))) (inv_selfRan (inv_setBoard (inv_bump hs))))

theorem inv_noteClaim {s : State} {d c : Nat} (hs : Inv s) : Inv (noteClaim s d c) :=
  inv_ite (inv_setClaim (inv_hearClaim hs)) (inv_hearClaim hs)

theorem formed_execBolpelEcho {dt : Nat} {e : Echo} {s : State} (hs : Inv s) : Formed (execBolpelEcho dt e s) := by
  unfold execBolpelEcho
  dsimp only
  split
  · exact formed_done (inv_advance hs)
  · exact formed_ite (formed_done (inv_advance hs)) (formed_ite (formed_done (inv_bolPump (inv_bolDone (inv_echoFail (inv_setBol
      (inv_advance hs)))))) (formed_done (inv_bolPump (inv_bolDone (inv_judgeBol (inv_selfRan (inv_noteClaim (inv_setBoard (inv_setBol
      (inv_advance hs))))))))))

theorem formed_execBolpelEchoTimeout {dt : Nat} {s : State} (hs : Inv s) : Formed (execBolpelEchoTimeout dt s) := by
  unfold execBolpelEchoTimeout
  dsimp only
  split
  · exact formed_done (inv_bolPump (inv_advance hs))
  · exact formed_ite (formed_done (inv_advance hs)) (formed_done (inv_bolPump (inv_bolDone (inv_echoFail (inv_setBol (inv_advance hs))))))

theorem inv_bolStop {s : State} (hs : Inv s) : Inv (bolStop s) := inv_foldl (fun _ _ ht => inv_bolDone ht) (inv_setBol hs)

theorem inv_bolFence {s : State} {p : Nat} (hs : Inv s) : Inv (bolFence s p) := inv_setBol hs

theorem inv_bolFull {s : State} {d : Nat} (hs : Inv s) : Inv (bolFull s d) := inv_foldl (fun _ _ ht => inv_bolQueue ht) hs

theorem inv_grant {s : State} {d : Nat} (hs : Inv s) : Inv (grant s d) :=
  inv_ite hs (inv_ite (inv_logRec (inv_setClaim hs)) (inv_setClaim hs))

theorem formed_execClaimRaise {dt d : Nat} {s : State} (hs : Inv s) : Formed (execClaimRaise dt d s) :=
  formed_ite (formed_done (inv_advance hs)) (formed_done (inv_gooseClaim (inv_bolFull (inv_logRec (inv_bump (inv_setClaim (inv_advance
    hs)))))))

theorem inv_hoStart {s : State} {d sess reqId : Nat} (hs : Inv s) : Inv (hoStart s d sess reqId) := inv_vaultPush (inv_setClaim hs)

theorem inv_opHandover {s : State} {rq : Req} {d : Nat} (hs : Inv s) : Inv (opHandover s rq d).s :=
  inv_res_ite (inv_deny hs) (inv_res_ite (inv_deny hs) (inv_hoStart hs))

theorem formed_execHandover {dt : Nat} {rq : Req} {d : Nat} {s : State} (hs : Inv s) : Formed (execHandover dt rq d s) :=
  formed_done (inv_doExec (fun _ ht => inv_opHandover ht) (inv_advance hs))

theorem inv_hoEnd {s : State} {d status : Nat} (hs : Inv s) : Inv (hoEnd s d status) := by
  unfold hoEnd
  split
  · exact inv_ite (inv_setClaim hs) (inv_execEnd (inv_setClaim hs))
  · exact hs

theorem inv_hoSend {s : State} {d : Nat} {m : IulMsg} {g : MigMsg} (hs : Inv s) : Inv (hoSend s d m g) :=
  inv_ite (inv_sendIul hs) (inv_sendPb hs)

theorem inv_hoJudge {s : State} {d claim row : Nat} {tagOk : Bool} (hs : Inv s) : Inv (hoJudge s d claim row tagOk) :=
  inv_hoSend (inv_ite (inv_logRec (inv_setClaim hs)) hs)

theorem formed_execHandoverRx {dt d claim row : Nat} {tagOk : Bool} {s : State} (hs : Inv s) :
    Formed (execHandoverRx dt d claim row tagOk s) :=
  formed_ite (formed_done (inv_advance hs)) (formed_done (inv_vaultPush (inv_advance hs)))

theorem inv_hoAnswer {s : State} {d : Nat} {accepted : Bool} (hs : Inv s) : Inv (hoAnswer s d accepted) := by
  unfold hoAnswer
  dsimp only
  split
  · exact hs
  · exact inv_ite hs (inv_ite (inv_hoEnd hs) (inv_ite (inv_logRec (inv_setClaim hs)) (inv_execEnd (inv_logRec (inv_setClaim hs)))))

theorem formed_execHandoverAck {dt d : Nat} {accepted : Bool} {s : State} (hs : Inv s) : Formed (execHandoverAck dt d accepted s) :=
  formed_done (inv_hoAnswer (inv_advance hs))

theorem formed_execHandoverAckTimeout {dt d : Nat} {s : State} (hs : Inv s) : Formed (execHandoverAckTimeout dt d s) := by
  unfold execHandoverAckTimeout
  dsimp only
  split
  · exact formed_ite (formed_done (inv_hoEnd (inv_advance hs))) (formed_done (inv_advance hs))
  · exact formed_done (inv_advance hs)

theorem inv_hoRow {s : State} {r : Nat} (hs : Inv s) : Inv (hoRow s r) := by
  unfold hoRow
  refine inv_foldl (fun t a ht => ?_) hs
  extract_lets _ u
  have hu : Inv u := by
    unfold u
    split
    · exact inv_ite (inv_grant (inv_setClaim ht)) ht
    · exact ht
  clear_value u
  split
  · exact inv_ite (inv_setClaim hu) hu
  · exact hu

theorem inv_hoAuto {s : State} {d : Nat} (hs : Inv s) : Inv (hoAuto s d) :=
  inv_ite hs (inv_ite (inv_hoStart hs) (inv_ite (inv_hoStart hs) hs))

theorem inv_takeover {s : State} {d : Nat} (hs : Inv s) : Inv (takeover s d) := by
  unfold takeover
  extract_lets _ _ t u
  have ht : Inv t := inv_ite hs (inv_setClaim hs)
  have hu : Inv u := inv_hoAuto ht
  clear_value t u
  exact inv_ite (inv_judgeHolder hu) (inv_ite (inv_judgeHolder (inv_grant (inv_setClaim hu))) (inv_judgeHolder (inv_ite (inv_grant hu)
    hu)))

theorem formed_execTakeoverEval {dt : Nat} {s : State} (hs : Inv s) : Formed (execTakeoverEval dt s) :=
  formed_ite (formed_done (inv_advance hs)) (formed_done (inv_foldl (fun _ _ ht => inv_takeover ht) (inv_mk (inv_advance hs))))

theorem formed_execIsolationTimeExpiry {dt : Nat} {s : State} (hs : Inv s) : Formed (execIsolationTimeExpiry dt s) :=
  formed_ite (formed_done (inv_advance hs)) (formed_done (inv_foldl (fun _ _ ht => inv_takeover ht) (inv_advance hs)))

theorem inv_beaconSend {s : State} {path : Nat} (hs : Inv s) : Inv (beaconSend s path) :=
  inv_ite (inv_sendIul (inv_mk hs)) (inv_sendOne (inv_mk hs))

theorem formed_execBeaconTx {dt : Nat} {s : State} (hs : Inv s) : Formed (execBeaconTx dt s) :=
  formed_ite (formed_done (inv_advance hs)) (formed_done (inv_foldl (fun _ _ ht => inv_beaconSend ht) (inv_mk (inv_advance hs))))

theorem inv_beaconEntry {s : State} {d c : Nat} (hs : Inv s) : Inv (beaconEntry s d c) := inv_ite hs (inv_judgeHolder (inv_setClaim hs))

theorem inv_beaconRx {s : State} {path : Nat} {b : Beacon} (hs : Inv s) : Inv (beaconRx s path b) :=
  inv_ite (inv_bump hs) (inv_foldl (fun _ _ ht => inv_beaconEntry ht) (inv_mk hs))

end Sys2Proof.Machine
end

section
/-! PROOF. Guest memory stays in its canonical form (O56): the operations of the model's Cond. -/

set_option Elab.async false

open Sys2Proof Sys2Proof.Machine

namespace Sys2Proof.Machine

theorem inv_setBank {s : State} {b st : Nat} (hs : Inv s) : Inv (setBank s b st) := inv_mk hs

theorem inv_setProf {s : State} {p : Nat} {x : Profile} (hs : Inv s) : Inv (setProf s p x) := inv_mk hs

theorem inv_setOut {s : State} {g : Nat} {x : GOut} (hs : Inv s) : Inv (setOut s g x) := inv_mk hs

theorem inv_chanStage1 {s : State} {g p b r : Nat} {x : GChan} (hs : Inv s) : Inv (chanStage1 s g p b r x).1 := by
  unfold chanStage1
  refine inv_fst_ite hs ?_
  split
  exact inv_ite (inv_ite (inv_bump hs) hs) (inv_mk (inv_ite (inv_bump hs) hs))

theorem inv_chanOut {s : State} {g p b r : Nat} {x : GChan} (hs : Inv s) : Inv (chanOut s g p b r x).1 := by
  unfold chanOut
  split
  rename_i t a heq
  have ht := inv_of_fst heq (inv_chanStage1 hs)
  refine inv_fst_ite ht (inv_fst_ite ht ?_)
  split
  exact inv_ite (inv_bump ht) ht

theorem inv_chanRun {s : State} {g p r : Nat} {ch : GChan} (hs : Inv s) : Inv (chanRun s g p r ch).1 :=
  have hact : Inv (chanOut s g p (actBank s p) r ch).1 := inv_chanOut hs
  inv_fst_ite hact (inv_fst_ite (inv_fst_ite hact (inv_chanStage1 hact)) (inv_chanOut hact))

theorem inv_groupRow {s : State} {swapped : List Nat} {r g : Nat} (hs : Inv s) : Inv (groupRow s swapped r g) := by
  unfold groupRow
  extract_lets
  split
  rename_i t a heq
  have ht : Inv t := by
    refine inv_of_fst heq ?_
    refine inv_foldl_fst (fun p a hp => ?_) hs
    split
    rename_i u a heq
    have hu := inv_of_fst heq (inv_chanRun hp)
    exact hu
  extract_lets
  exact inv_setOut ht

theorem inv_freeH2 {s : State} {p side : Nat} (hs : Inv s) : Inv (freeH2 s p side) := inv_mk hs

theorem inv_fadeEnd {s : State} {p : Nat} (hs : Inv s) : Inv (fadeEnd s p) :=
  inv_logRec (inv_setProf (inv_freeH2 (inv_setBank (inv_setBank hs))))

theorem inv_groupRestart {s : State} {r g : Nat} {which : GChan → Bool} (hs : Inv s) : Inv (groupRestart s r g which) :=
  inv_ite hs (inv_ite (inv_fadeEnd (inv_bump (inv_setOut hs))) (inv_bump (inv_setOut hs)))

theorem inv_emptyH2 {s : State} {g : Nat} {which : GChan → Bool} (hs : Inv s) : Inv (emptyH2 s g which) := inv_mk hs

theorem inv_restartAll {s : State} {r : Nat} (hs : Inv s) : Inv (restartAll s r) :=
  inv_foldl (fun _ _ ht => inv_ite (inv_fadeEnd ht) ht) (inv_foldl (fun _ _ ht => inv_groupRestart ht) (inv_mk hs))

theorem inv_eccInput {r : Nat} {s : State} {k : Nat} (hs : Inv s) : Inv (eccInput r s k) :=
  inv_foldl (fun _ _ ht => inv_groupRestart ht) (inv_logRec (inv_mk hs))

theorem inv_eccStage2 {r : Nat} {s : State} {k : Nat} (hs : Inv s) : Inv (eccStage2 r s k) :=
  inv_ite (inv_bump (inv_logRec (inv_mk hs))) (inv_groupRestart (inv_logRec (inv_mk hs)))

theorem inv_eccRow {s : State} {r : Nat} (hs : Inv s) : Inv (eccRow s r) :=
  inv_foldl (fun _ _ ht => inv_eccStage2 ht) (inv_foldl (fun _ _ ht => inv_eccInput ht) hs)

theorem inv_bankSeq {s : State} {p : Nat} (hs : Inv s) : Inv (bankSeq s p) := inv_foldl (fun _ _ ht => inv_ite (inv_mk ht) ht) hs

theorem inv_profRow {s : State} {r p : Nat} (hs : Inv s) : Inv (profRow s r p).1 := by
  unfold profRow
  dsimp only
  split
  · split
    · dsimp only
      exact inv_bankSeq (inv_logRec (inv_setProf (inv_freeH2 (inv_setBank (inv_setBank hs)))))
    · dsimp only
      exact inv_bankSeq (inv_logRec (inv_setProf (inv_setBank (inv_setBank hs))))
  · exact inv_fst_ite (inv_fadeEnd hs) hs

theorem inv_swapApply {s : State} {p row mode x : Nat} (hs : Inv s) : Inv (swapApply s p row mode x) :=
  inv_logRec (inv_setProf (inv_setBank hs))

theorem inv_disarmApply {s : State} {p : Nat} (hs : Inv s) : Inv (disarmApply s p) := inv_freeH2 (inv_setProf (inv_setBank hs))

theorem inv_putBank {s : State} {ob sub row : Nat} {v : Val} (hs : Inv s) : Inv (putBank s ob sub row v).s :=
  inv_res_ite (inv_deny hs) (inv_good (inv_setBank (inv_put hs)))

theorem inv_sealApply {s : State} {b : Nat} (hs : Inv s) : Inv (sealApply s b) := inv_ite hs (inv_setBank hs)

theorem inv_setImg {s : State} {t : Nat} {x : ImgSt} (hs : Inv s) : Inv (setImg s t x) := inv_mk hs

theorem inv_imgMiss {s : State} {r t : Nat} (hs : Inv s) : Inv (imgMiss s r t) := inv_setImg (inv_bump (inv_ite (inv_logRec hs) hs))

theorem inv_imgPlace {s : State} {r t : Nat} {e : Entry} {body : List Byte} (hs : Inv s) : Inv (imgPlace s r t e body) :=
  inv_ringPost (inv_bump (inv_ite (inv_setImg (inv_digClose (inv_memWrite hs))) (inv_setPart (inv_setImg (inv_digClose (inv_memWrite
    hs))))))

theorem inv_imgRow {s : State} {r : Nat} {dn : Bool} {t : Nat} (hs : Inv s) : Inv (imgRow s r dn t) :=
  inv_ite hs (inv_ite hs (inv_ite hs (inv_ite (inv_setImg hs) (inv_ite (inv_setPart hs) (inv_ite hs (inv_ite (inv_imgMiss hs)
    (inv_imgPlace hs)))))))

theorem inv_imgAll {s : State} {r : Nat} {dn : Bool} (hs : Inv s) : Inv (imgAll s r dn) := inv_foldl (fun _ _ ht => inv_imgRow ht) hs

theorem inv_histPush {s : State} {r : Nat} (hs : Inv s) : Inv (histPush s r) := inv_mk hs

theorem inv_judgeCond {s : State} (hs : Inv s) : Inv (judgeCond s) := inv_ite hs (inv_setUnit hs)

theorem inv_arrayFail {s : State} {a : Nat} (hs : Inv s) : Inv (arrayFail s a) := inv_judgeCond (inv_selfBit (inv_logRec (inv_mk hs)))

theorem inv_opCondReset {s : State} (hs : Inv s) : Inv (opCondReset s).s := inv_good (inv_clearCtrs (inv_clearCtrs hs))

theorem formed_execCondCountersReset {dt : Nat} {rq : Req} {s : State} (hs : Inv s) : Formed (execCondCountersReset dt rq s) :=
  formed_done (inv_doExec (fun _ ht => inv_opCondReset ht) (inv_advance hs))

theorem inv_groupCommit {o s : State} {r g : Nat} (hs : Inv s) : Inv (groupCommit o s r g) :=
  inv_groupRestart (inv_emptyH2 (inv_setOut hs))

theorem inv_condCommit {o s : State} {r : Nat} (hs : Inv s) : Inv (condCommit o s r) :=
  inv_foldl (fun _ _ ht => inv_ite ht (inv_setImg ht)) (inv_mk (inv_foldl (fun _ _ ht => inv_ite (inv_mk ht) (inv_ite (inv_groupCommit ht)
    ht)) (inv_ite (inv_mk hs) hs)))

theorem inv_condRow1 {s : State} {r : Nat} (hs : Inv s) : Inv (condRow1 s r) := by
  unfold condRow1
  extract_lets t
  have ht : Inv t := inv_eccRow (inv_ite (inv_restartAll hs) hs)
  clear_value t
  split
  rename_i u a heq
  have hu : Inv u := by
    refine inv_of_fst heq ?_
    refine inv_foldl_fst (fun p a hp => ?_) ht
    split
    rename_i v a heq
    have hv := inv_of_fst heq (inv_profRow hp)
    exact hv
  exact inv_foldl (fun v a hv => inv_groupRow hv) (inv_histPush hu)

theorem inv_cfgCatch {n : Nat} {s : State} {r : Nat} (hs : Inv s) : Inv (cfgCatch n s r) := by
  induction n generalizing s with
  | zero => exact hs
  | succ n ih =>
    unfold cfgCatch
    split
    · exact hs
    · exact inv_ite hs (ih (inv_mk (inv_condCommit (inv_rowCfg (inv_mk hs)))))

theorem inv_condRow {s : State} {r : Nat} (hs : Inv s) : Inv (condRow s r) := inv_rowView (fun _ ht => inv_condRow1 ht) (inv_cfgCatch hs)

end Sys2Proof.Machine
end

section
/-! PROOF. Guest memory stays in its canonical form (O56): the operations of the model's Tt. -/

set_option Elab.async false

open Sys2Proof Sys2Proof.Machine

namespace Sys2Proof.Machine

theorem inv_setCore {s : State} {c : Nat} {x : CorePort} (hs : Inv s) : Inv (setCore s c x) := inv_mk hs

theorem inv_setResult {s : State} {c op st v : Nat} (hs : Inv s) : Inv (setResult s c op st v) := inv_setCore hs

theorem inv_setRun {s : State} {c : Nat} {r : Run} (hs : Inv s) : Inv (setRun s c r) := inv_mk hs

theorem inv_ringCommit {s : State} {p q : Nat} {comp : Option Nat} {e : Entry} {row item : Nat} (hs : Inv s) :
    Inv (ringCommit s p q comp e row item) := by
  unfold ringCommit
  refine inv_ite hs (inv_ite (inv_txTake ?_) ?_)
  · split
    · exact inv_digAdd (inv_setRing (inv_slotWrite hs))
    · exact inv_setRing (inv_slotWrite hs)
  · split
    · exact inv_digAdd (inv_setRing (inv_slotWrite hs))
    · exact inv_setRing (inv_slotWrite hs)

theorem inv_releaseHeld {s : State} {h : Held} (hs : Inv s) : Inv (releaseHeld s h) := inv_ite (inv_mk hs) (inv_ringCommit hs)

theorem inv_releaseItem {s : State} {n : Nat} (hs : Inv s) : Inv (releaseItem s n) :=
  inv_foldl (fun _ _ ht => inv_releaseHeld ht) (inv_mk hs)

theorem inv_holdFree {s : State} {p n : Nat} (hs : Inv s) : Inv (holdFree s p n) := inv_mk hs

theorem inv_holdReturn {s : State} {p n : Nat} (hs : Inv s) : Inv (holdReturn s p n) := inv_holdFree hs

theorem inv_flowFree {s : State} {f : Nat} (hs : Inv s) : Inv (flowFree s f) := by
  unfold flowFree
  split
  · exact hs
  · exact inv_ite (inv_mk hs) hs

theorem inv_flowFlush {k : Nat} {s : State} {f : Nat} (hs : Inv s) : Inv (flowFlush k s f) := by
  induction k generalizing s with
  | zero => exact hs
  | succ k ih =>
    unfold flowFlush
    split
    · exact hs
    · split
      · exact hs
      · exact inv_ite hs (ih (inv_itemComplete (inv_mk hs)))

theorem inv_flowAdvance {k : Nat} {s : State} {f : Nat} (hs : Inv s) : Inv (flowAdvance k s f) := by
  induction k generalizing s with
  | zero => exact hs
  | succ k ih =>
    unfold flowAdvance
    split
    · exact hs
    · split
      · exact hs
      · split
        · exact ih (inv_mk (inv_ite (inv_holdReturn (inv_releaseItem hs)) (inv_releaseItem hs)))
        · dsimp only
          split
          · exact inv_ite (inv_holdReturn (inv_setRun (inv_releaseItem hs))) (inv_releaseItem hs)
          · exact inv_releaseItem hs

theorem inv_itemEnd {s : State} {it : Item} {status : Nat} {start finish : Int} {result : Nat} (hs : Inv s) :
    Inv (itemEnd s it status start finish result) := by
  unfold itemEnd
  split
  · exact inv_ite (inv_flowFree (inv_itemComplete hs)) (inv_flowFree (inv_flowFlush (inv_ite (inv_flowAdvance (inv_mk hs)) (inv_mk hs))))
  · exact inv_itemComplete hs

theorem inv_coreIdle {s : State} {c : Nat} (hs : Inv s) : Inv (coreIdle s c) := inv_mk hs

theorem inv_afterItem {s : State} {it : Item} (hs : Inv s) : Inv (afterItem s it) := by
  unfold afterItem
  split
  · exact inv_ite (inv_trigOne hs) hs
  · exact inv_bellItem hs
  · exact inv_mk hs
  · exact hs

theorem inv_ttEnd {s : State} {c : Nat} {r : Run} {result : Nat} (hs : Inv s) : Inv (ttEnd s c r result) :=
  inv_digClose (inv_afterItem (inv_itemEnd (inv_coreIdle hs)))

theorem inv_pathDispatch {s : State} {it : Item} {idleAt : Nat} (hs : Inv s) : Inv (pathDispatch s it idleAt) := by
  unfold pathDispatch
  split
  · refine inv_ite hs (inv_ite (inv_setImg (inv_stageOver ?_)) ?_)
    · split
      · exact inv_ite hs (inv_setRow (inv_mk hs))
      · exact hs
    · split
      · exact inv_ite hs (inv_setRow (inv_mk hs))
      · exact hs
  · exact hs

theorem inv_dispatch {s : State} {it : Item} {c : Nat} (hs : Inv s) : Inv (dispatch s it c) := inv_pathDispatch (inv_bump (inv_mk hs))

theorem inv_dmaEngine {s t : State} {e : Nat} (hs : Inv s) (h : dmaEngine s = some (e, t)) : Inv t := by
  unfold dmaEngine at h
  split at h
  · cases h
  · cases h
    exact inv_fresh hs

theorem inv_dmaTake {s : State} {q i p : Nat} {d : DmaDesc} (hs : Inv s) : Inv (dmaTake s q i p d) := by
  refine inv_ite (inv_entryDone hs) (inv_ite (inv_entryDone hs) (inv_ite (inv_entryDone hs) (inv_ite (inv_entryDone hs) ?_)))
  split
  · exact inv_entryDone hs
  · have ht := inv_dmaEngine hs ‹_›
    exact inv_entryDone (inv_mk (inv_ite (inv_reserveSlot ht) ht))

theorem inv_dmaMove {s : State} {o : DmaOp} (hs : Inv s) : Inv (dmaMove s o).1 := inv_fst_ite hs (inv_bumpBy (inv_memWrite hs))

theorem inv_dmaFences {s : State} (hs : Inv s) : Inv (dmaFences s) := inv_mk hs

theorem inv_dmaEnd {s : State} {id : Nat} {o : DmaOp} {status result : Nat} (hs : Inv s) : Inv (dmaEnd s id o status result) :=
  inv_ite (inv_complete (inv_dmaFences (inv_mk hs))) (inv_dmaFences (inv_mk hs))

theorem formed_execDmaEntry {dt ring : Nat} {s : State} (hs : Inv s) : Formed (execDmaEntry dt ring s) := by
  unfold execDmaEntry
  refine formed_ite (formed_done (inv_advance hs)) ?_
  split
  · exact formed_done (inv_dmaTake (inv_takeEntry (inv_advance hs)))
  · exact formed_done (inv_takeEntry (inv_advance hs))
  · exact formed_done (inv_advance hs)

theorem formed_execDmaComplete {dt dmaId : Nat} {s : State} (hs : Inv s) : Formed (execDmaComplete dt dmaId s) := by
  unfold execDmaComplete
  extract_lets t
  have ht : Inv t := inv_advance hs
  clear_value t
  split
  · exact formed_done ht
  · refine formed_ite (formed_done ht) ?_
    split
    rename_i u a heq
    have hu := inv_of_fst heq (inv_dmaMove ht)
    exact formed_done (inv_dmaEnd hu)

theorem formed_execDmaEngineFault {dt engine : Nat} {s : State} (hs : Inv s) : Formed (execDmaEngineFault dt engine s) :=
  formed_ite (formed_done (inv_advance hs)) (formed_done (inv_setUnit (inv_foldl (fun _ _ ht => inv_dmaEnd ht) (inv_mk (inv_advance
    hs)))))

theorem inv_ttSubmitOp {s : State} {p core : Nat} (hs : Inv s) : Inv (ttSubmitOp s p core) := by
  unfold ttSubmitOp
  split
  · exact hs
  · split
    rename_i a t heq
    have ht := inv_of_snd heq (inv_submitItem hs)
    exact inv_setResult ht

theorem formed_execTtSubmit {dt p core : Nat} {s : State} (hs : Inv s) : Formed (execTtSubmit dt p core s) :=
  formed_done (inv_ttSubmitOp (inv_advance hs))

theorem formed_execSubmitRingEntry {dt ring : Nat} {s : State} (hs : Inv s) : Formed (execSubmitRingEntry dt ring s) := by
  unfold execSubmitRingEntry
  extract_lets t
  have ht : Inv t := inv_advance hs
  clear_value t
  refine formed_ite (formed_done ht) ?_
  split
  · extract_lets
    split
    rename_i a u heq
    have hu := inv_of_snd heq (inv_submitItem (inv_takeEntry ht))
    exact formed_done (inv_entryDone hu)
  · exact formed_done (inv_takeEntry ht)
  · exact formed_done ht

theorem formed_execTtDispatch {dt : Nat} {s : State} (hs : Inv s) : Formed (execTtDispatch dt s) := by
  unfold execTtDispatch
  refine formed_ite (formed_done (inv_advance hs)) ?_
  split
  · exact formed_done (inv_dispatch (inv_advance hs))
  · exact formed_done (inv_advance hs)

theorem inv_ttCommitOp {s : State} {p core : Nat} {w : Word} {m : MemAt} (hs : Inv s) : Inv (ttCommitOp s p core w m) := by
  unfold ttCommitOp
  split
  · exact hs
  · refine inv_ite (inv_setResult (inv_bump hs)) (inv_ite (inv_setResult (inv_bump hs)) (inv_ite (inv_setResult (inv_bump hs)) (inv_ite
      (inv_setResult (inv_mk (inv_setRun ?_))) (inv_ite (inv_setCore (inv_setRun ?_)) (inv_setResult (inv_ringCommit (inv_setRun ?_)))))))
    · split
      · exact inv_reserveSlot hs
      · exact hs
    · split
      · exact inv_reserveSlot hs
      · exact hs
    · split
      · exact inv_reserveSlot hs
      · exact hs

theorem formed_execTtCommit {dt core : Nat} {w : Word} {mem : MemAt} {s : State} (hs : Inv s) : Formed (execTtCommit dt core w mem s) := by
  unfold execTtCommit
  dsimp only
  split
  · exact formed_done (inv_ttCommitOp (inv_advance hs))
  · exact formed_done (inv_advance hs)

theorem inv_slotRelease {k : Nat} {s : State} {q : Nat} (hs : Inv s) : Inv (slotRelease k s q) := by
  induction k generalizing s with
  | zero => exact hs
  | succ k ih =>
    refine inv_ite hs ?_
    split
    · exact ih (inv_foldl (fun _ _ ht => inv_flowFree (inv_flowFlush ht)) (inv_ringCommit (inv_holdFree (inv_mk hs))))
    · split
      · split
        · exact ih (inv_setResult (inv_ringCommit (inv_setCore hs)))
        · exact hs
      · exact hs

theorem formed_execCommitSlotFree {dt ring : Nat} {s : State} (hs : Inv s) : Formed (execCommitSlotFree dt ring s) :=
  formed_ite (formed_done (inv_advance hs)) (formed_done (inv_slotRelease (inv_advance hs)))

theorem inv_ttCancelOp {s : State} {p core tag : Nat} (hs : Inv s) : Inv (ttCancelOp s p core tag) := by
  unfold ttCancelOp
  split
  · exact hs
  · exact inv_setResult (inv_bumpBy (inv_foldl (fun t a ht => inv_digClose (inv_afterItem (inv_itemEnd ht))) (inv_mk hs)))

theorem formed_execTtCancel {dt p core : Nat} {tag : Word} {s : State} (hs : Inv s) : Formed (execTtCancel dt p core tag s) :=
  formed_done (inv_ttCancelOp (inv_advance hs))

theorem inv_freeFlow {s t : State} {f : Nat} (hs : Inv s) (h : freeFlow s = some (f, t)) : Inv t := by
  unfold freeFlow at h
  split at h
  · cases h
  · cases h
    exact inv_fresh hs

theorem inv_ttFlowOpenOp {s : State} {p core w : Nat} (hs : Inv s) : Inv (ttFlowOpenOp s p core w) := by
  unfold ttFlowOpenOp
  split
  · exact hs
  · refine inv_ite (inv_setResult hs) ?_
    split
    · exact inv_setResult hs
    · have ht := inv_freeFlow hs ‹_›
      exact inv_ite (inv_setResult ht) (inv_setResult (inv_mk ht))

theorem formed_execTtFlowOpen {dt p core : Nat} {w : Word} {s : State} (hs : Inv s) : Formed (execTtFlowOpen dt p core w s) :=
  formed_done (inv_ttFlowOpenOp (inv_advance hs))

theorem inv_ttFlowCloseOp {s : State} {p core w : Nat} (hs : Inv s) : Inv (ttFlowCloseOp s p core w) := by
  unfold ttFlowCloseOp
  split
  · exact inv_ite hs (inv_flowFree (inv_mk hs))
  · exact hs

theorem formed_execTtFlowClose {dt p core : Nat} {w : Word} {s : State} (hs : Inv s) : Formed (execTtFlowClose dt p core w s) :=
  formed_done (inv_ttFlowCloseOp (inv_advance hs))

theorem formed_execTtResultRead {dt x1 : Nat} {s : State} (hs : Inv s) : Formed (execTtResultRead dt x1 s) := formed_done (inv_advance hs)

theorem inv_prodWrite {s : State} {q v : Nat} {es : List Entry} {by_ : Option Run} (hs : Inv s) : Inv (prodWrite s q v es by_) :=
  inv_ite (inv_bump hs) (inv_ite (inv_txTake (inv_setRing hs)) (inv_setRing hs))

theorem formed_execRingProdWrite {dt p ring : Nat} {value : Word} {entries : List Entry} {s : State} (hs : Inv s) :
    Formed (execRingProdWrite dt p ring value entries s) :=
  formed_ite (formed_done (inv_advance hs)) (formed_done (inv_prodWrite (inv_advance hs)))

theorem inv_consWrite {s : State} {q v : Nat} (hs : Inv s) : Inv (consWrite s q v) := inv_ite (inv_bump hs) (inv_setRing hs)

theorem formed_execRingConsWrite {dt p ring : Nat} {value : Word} {s : State} (hs : Inv s) :
    Formed (execRingConsWrite dt p ring value s) :=
  formed_ite (formed_done (inv_advance hs)) (formed_done (inv_consWrite (inv_advance hs)))

theorem inv_opTtReset {s : State} (hs : Inv s) : Inv (opTtReset s).s := inv_good (inv_clearCtrs (inv_clearCtrs (inv_clearCtrs hs)))

theorem formed_execTtCountersReset {dt : Nat} {rq : Req} {s : State} (hs : Inv s) : Formed (execTtCountersReset dt rq s) :=
  formed_done (inv_doExec (fun _ ht => inv_opTtReset ht) (inv_advance hs))

end Sys2Proof.Machine
end

section
/-! PROOF. Guest memory stays in its canonical form (O56): the operations of the model's Ph. -/

set_option Elab.async false

open Sys2Proof Sys2Proof.Machine

namespace Sys2Proof.Machine

theorem inv_setChan {s : State} {c : Nat} {x : Chan} (hs : Inv s) : Inv (setChan s c x) := inv_mk hs

theorem inv_setPhCore {s : State} {ep core : Nat} {x : PhCore} (hs : Inv s) : Inv (setPhCore s ep core x) := inv_mk hs

theorem inv_phAnswer {s : State} {ep core op st left : Nat} (hs : Inv s) : Inv (phAnswer s ep core op st left) := inv_setPhCore hs

theorem inv_phHeader {s : State} {ep core : Nat} {w : Word} (hs : Inv s) : Inv (phHeader s ep core w) := inv_setPhCore hs

theorem inv_chanPut {s : State} {c : Nat} {m : Msg} (hs : Inv s) : Inv (chanPut s c m) :=
  inv_ite (inv_bellRaise (inv_bump (inv_setChan hs))) (inv_bump (inv_setChan hs))

theorem inv_gwPost {s : State} {p : Nat} (hs : Inv s) : Inv (gwPost s p) := by
  unfold gwPost
  split
  · exact inv_ite hs (inv_chanPut (inv_mk hs))
  · exact hs

theorem inv_gwSend {s : State} {p : Nat} (hs : Inv s) : Inv (gwSend s p) := by
  unfold gwSend
  split
  · exact hs
  · exact inv_ite hs (inv_gwPost (inv_mk hs))

theorem inv_phPostOp {s : State} {ep core : Nat} {w : Word} (hs : Inv s) : Inv (phPostOp s ep core w) := by
  unfold phPostOp
  refine inv_phAnswer ?_
  split
  · exact inv_phHeader hs
  · exact inv_ite (inv_bump (inv_phHeader hs)) (inv_ite (inv_chanPut (inv_phHeader hs)) (inv_phHeader hs))

theorem inv_chanTake {s : State} {c : Nat} {m : Msg} {rest : List Msg} (hs : Inv s) : Inv (chanTake s c m rest) := by
  unfold chanTake
  extract_lets _ t u _ v
  have ht : Inv t := inv_setChan hs
  have hu : Inv u := inv_ite (inv_bellRaise ht) ht
  have hv : Inv v := by
    unfold v
    split
    · exact hu
    · exact inv_chanPut (inv_setChan hu)
  clear_value t u v
  exact inv_ite (inv_gwPost hv) hv

theorem inv_phTakeOp {s : State} {ep core idx : Nat} (hs : Inv s) : Inv (phTakeOp s ep core idx) := by
  unfold phTakeOp
  refine inv_ite hs (inv_ite (inv_phAnswer hs) ?_)
  split
  · exact inv_phAnswer hs
  · split
    · exact inv_phAnswer (inv_setPhCore hs)
    · exact inv_phAnswer (inv_chanTake (inv_setPhCore hs))

theorem inv_phRingOp {s : State} {ep core w : Nat} (hs : Inv s) : Inv (phRingOp s ep core w) :=
  inv_ite (inv_phAnswer hs) (inv_ite (inv_ite (inv_bump hs) hs) (inv_ite (inv_phAnswer (inv_ite (inv_bump hs) hs)) (inv_phAnswer
    (inv_bellRaise hs))))

theorem inv_fenceRx {s : State} {c : Nat} (hs : Inv s) : Inv (fenceRx s c) :=
  inv_ite (inv_setChan hs) (inv_ite (inv_setChan (inv_setChan hs)) (inv_logRec (inv_bellRaise (inv_bumpBy (inv_setChan (inv_setChan
    hs))))))

theorem inv_fenceTx {s : State} {c : Nat} (hs : Inv s) : Inv (fenceTx s c) := inv_setChan (inv_bumpBy hs)

theorem inv_phFence {s : State} {p : Nat} (hs : Inv s) : Inv (phFence s p) :=
  inv_setBell (inv_mk (inv_foldl (fun _ _ ht => inv_fenceTx ht) (inv_foldl (fun _ _ ht => inv_fenceRx ht) hs)))

theorem formed_execPhPost {dt ep core : Nat} {w : Word} {s : State} (hs : Inv s) : Formed (execPhPost dt ep core w s) :=
  formed_done (inv_phPostOp (inv_advance hs))

theorem formed_execPhStageHeader {dt ep core : Nat} {w : Word} {s : State} (hs : Inv s) : Formed (execPhStageHeader dt ep core w s) :=
  formed_done (inv_phHeader (inv_advance hs))

theorem formed_execPhTake {dt ep core : Nat} {w : Word} {s : State} (hs : Inv s) : Formed (execPhTake dt ep core w s) :=
  formed_done (inv_phTakeOp (inv_advance hs))

theorem formed_execPhBellRing {dt ep core : Nat} {w : Word} {s : State} (hs : Inv s) : Formed (execPhBellRing dt ep core w s) :=
  formed_done (inv_phRingOp (inv_advance hs))

theorem formed_execPhAckTimeout {dt chan : Nat} {s : State} (hs : Inv s) : Formed (execPhAckTimeout dt chan s) := by
  unfold execPhAckTimeout
  dsimp only
  split
  · exact formed_done (inv_advance hs)
  · exact formed_ite (formed_done (inv_advance hs)) (formed_done (inv_logRec (inv_bellRaise (inv_bump (inv_setChan (inv_advance hs))))))

theorem inv_opPhReset {s : State} (hs : Inv s) : Inv (opPhReset s).s := inv_good (inv_clearCtrs hs)

theorem formed_execPhCountersReset {dt : Nat} {rq : Req} {s : State} (hs : Inv s) : Formed (execPhCountersReset dt rq s) :=
  formed_done (inv_doExec (fun _ ht => inv_opPhReset ht) (inv_advance hs))

end Sys2Proof.Machine
end

section
/-! PROOF. Guest memory stays in its canonical form (O56): the operations of the model's Logic. -/

set_option Elab.async false

open Sys2Proof Sys2Proof.Machine

namespace Sys2Proof.Machine

theorem inv_setTask {s : State} {j : Nat} {x : Task} (hs : Inv s) : Inv (setTask s j x) := inv_mk hs

theorem inv_setRetain {s : State} {p : Nat} {x : Retain} (hs : Inv s) : Inv (setRetain s p x) := inv_mk hs

theorem inv_forceSet {s : State} {row : Nat} {v : Val} (hs : Inv s) : Inv (forceSet s row v) :=
  inv_ite hs (inv_seeNow (inv_logRec (inv_mk (inv_put hs))))

theorem inv_forceBoundary {s : State} {p : Nat} (hs : Inv s) : Inv (forceBoundary s p) :=
  inv_foldl (fun _ _ ht => inv_forceSet ht) (inv_mk hs)

theorem inv_forceLater {s : State} {row : Nat} {v : Val} {from_ : Nat} (hs : Inv s) : Inv (forceLater s row v from_) :=
  inv_ite (inv_forceSet hs) (inv_mk hs)

theorem inv_forceClear {s : State} (hs : Inv s) : Inv (forceClear s) := inv_foldl (fun _ _ ht => inv_forceSet ht) (inv_mk hs)

theorem inv_stationTake {s : State} {st : Nat} {y : Station} (hs : Inv s) : Inv (stationTake s st y) :=
  inv_ite (inv_logRec (inv_ite (inv_bump (inv_mk hs)) (inv_mk hs))) (inv_mk hs)

theorem inv_onlineApply {s : State} {j p : Nat} (hs : Inv s) : Inv (onlineApply s j p) :=
  inv_foldl (fun _ _ ht => inv_logRec (inv_memWrite ht)) (inv_setTask hs)

theorem inv_logicItem {s : State} {j p : Nat} {body : Bool} {d : ItemDesc} (hs : Inv s) : Inv (logicItem s j p body d) :=
  inv_ite hs (inv_ite (inv_makeReady (inv_setTask hs)) (inv_setTask hs))

theorem inv_logicRelease {n : Nat} {s : State} {j : Nat} (hs : Inv s) : Inv (logicRelease n s j) := by
  induction n generalizing s with
  | zero => exact hs
  | succ n ih =>
    unfold logicRelease
    dsimp only
    split
    · exact hs
    · exact inv_ite (ih (inv_makeReady (inv_setTask hs))) hs

theorem inv_snapshot {s : State} {j n : Nat} (hs : Inv s) : Inv (snapshot s j n) :=
  inv_logicItem (inv_ite (inv_logicItem (inv_setTask (inv_onlineApply (inv_foldl (fun _ _ ht => inv_stationTake ht) (inv_memWrite hs)))))
    (inv_setTask (inv_onlineApply (inv_foldl (fun _ _ ht => inv_stationTake ht) (inv_memWrite hs)))))

theorem formed_execCycleBoundary {dt task : Nat} {s : State} (hs : Inv s) : Formed (execCycleBoundary dt task s) := by
  unfold execCycleBoundary
  extract_lets t _ _ _ u _ v
  have ht : Inv t := inv_advance hs
  have hu : Inv u := inv_forceBoundary (inv_setTask ht)
  have hv : Inv v := inv_setTask hu
  clear_value t u v
  exact formed_ite (formed_done ht) (formed_ite (formed_done hu) (formed_ite (formed_ite (formed_done (inv_logRec (inv_bump hv)))
    (formed_done hv)) (formed_done (inv_snapshot hu))))

theorem inv_logicOut1 {s : State} {j p row kind idx : Nat} {img : List Nat} (hs : Inv s) : Inv (logicOut1 s j p row kind idx img) := by
  unfold logicOut1
  refine inv_ite ?_ (inv_ite hs ?_)
  · extract_lets _ _ _ t
    have ht : Inv t := inv_digAdd hs
    clear_value t
    exact inv_gooseLogic ht
  · extract_lets t
    have ht : Inv t := inv_digAdd hs
    clear_value t
    split
    rename_i a u heq
    have hu := inv_of_snd heq (inv_bolCommand ht)
    exact inv_ite (inv_setTask hu) hu

theorem inv_logicOuts {s : State} {j p row : Nat} {given : List (List Nat)} (hs : Inv s) : Inv (logicOuts s j p row given) :=
  inv_ite hs (inv_foldl_fst (fun _ _ hq => inv_logicOut1 hq) hs)

theorem inv_logicCommit {s : State} {j row : Nat} {given : List (List Nat)} (hs : Inv s) : Inv (logicCommit s j row given) :=
  inv_ite (inv_setRetain (inv_mk (inv_setTask (inv_logicOuts hs)))) (inv_setRetain (inv_mk (inv_setTask (inv_logicOuts hs))))

theorem formed_execLogicShadowCopyDone {dt p : Nat} {s : State} (hs : Inv s) : Formed (execLogicShadowCopyDone dt p s) :=
  formed_ite (formed_done (inv_advance hs)) (formed_done (inv_setRetain (inv_advance hs)))

theorem formed_execTriggerPendingRelease {dt ring : Nat} {s : State} (hs : Inv s) : Formed (execTriggerPendingRelease dt ring s) :=
  formed_ite (formed_done (inv_advance hs)) (formed_done (inv_foldl (fun _ _ ht => inv_logicRelease ht) (inv_bellItem (inv_ite
    (inv_releasePending (inv_advance hs)) (inv_advance hs)))))

theorem inv_logicAbandon {s : State} {p : Nat} (hs : Inv s) : Inv (logicAbandon s p) :=
  inv_foldl (fun _ _ ht => inv_setTask ht) (inv_ite (inv_setRetain hs) hs)

theorem inv_putTable {s : State} {p : Nat} {l : List (List Byte)} (hs : Inv s) : Inv (putTable s p l) := inv_memWrite hs

theorem inv_rebuild {s : State} {p : Nat} (hs : Inv s) : Inv (rebuild s p) := inv_ite hs (inv_logRec (inv_putTable hs))

theorem inv_coldArea {s : State} {p : Nat} {clear : Bool} (hs : Inv s) : Inv (coldArea s p clear) := inv_putTable (inv_memWrite hs)

theorem inv_warmArea {s : State} {p : Nat} (hs : Inv s) : Inv (warmArea s p) := inv_rebuild (inv_ite hs (inv_memWrite hs))

theorem inv_logicStart {s : State} {p : Nat} (hs : Inv s) : Inv (logicStart s p) :=
  inv_ite hs (inv_foldl (fun _ _ ht => inv_setTask ht) (inv_setRetain (inv_ite (inv_warmArea (inv_ite (inv_setRetain hs) (inv_logRec
    (inv_setRetain hs)))) (inv_coldArea (inv_ite (inv_setRetain hs) (inv_logRec (inv_setRetain hs)))))))

theorem inv_logicTasksCommit {o s : State} (hs : Inv s) : Inv (logicTasksCommit o s) := by
  refine inv_foldl (fun t j ht => ?_) (inv_foldl (fun t j ht => ?_) hs)
  · refine inv_ite (inv_ite ht (inv_setTask ht)) ?_
    split
    · exact inv_setTask (inv_mk (inv_freeFlow ht ‹_›))
    · exact inv_setTask ht
  · refine inv_ite ht (inv_mk ?_)
    dsimp only
    split
    · exact inv_flowFree (inv_mk ht)
    · exact ht

theorem inv_onlinePend {s : State} {task off size v at_ : Nat} (hs : Inv s) : Inv (onlinePend s task off size v at_) := inv_setTask hs

theorem inv_opLogicRestart {s : State} {p mode : Nat} {clear : Bool} (hs : Inv s) : Inv (opLogicRestart s p mode clear).s :=
  inv_res_ite (inv_deny hs) (inv_good (inv_setRetain hs))

theorem formed_execLogicRestart {dt : Nat} {rq : Req} {p mode : Nat} {clear : Bool} {s : State} (hs : Inv s) :
    Formed (execLogicRestart dt rq p mode clear s) :=
  formed_done (inv_doExec (fun _ ht => inv_opLogicRestart ht) (inv_advance hs))

theorem inv_noticeFor {s : State} {n : Nat} (hs : Inv s) : Inv (noticeFor s n) := inv_mk hs

theorem formed_execForceNotifyPeriodic {dt : Nat} {s : State} (hs : Inv s) : Formed (execForceNotifyPeriodic dt s) :=
  formed_ite (formed_done (inv_advance hs)) (formed_done (inv_foldl (fun _ _ ht => inv_noticeFor (inv_notify ht)) (inv_mk (inv_advance
    hs))))

theorem inv_opLogicReset {s : State} (hs : Inv s) : Inv (opLogicReset s).s := inv_good (inv_clearCtrs (inv_clearCtrs hs))

theorem formed_execLogicCountersReset {dt : Nat} {rq : Req} {s : State} (hs : Inv s) : Formed (execLogicCountersReset dt rq s) :=
  formed_done (inv_doExec (fun _ ht => inv_opLogicReset ht) (inv_advance hs))

theorem inv_lgOverrunClear {s : State} {p k : Nat} (hs : Inv s) : Inv (lgOverrunClear s p k) := by
  unfold lgOverrunClear
  split
  · exact inv_setTask hs
  · exact hs

end Sys2Proof.Machine
end

section
/-! PROOF. Guest memory stays in its canonical form (O56): the operations of the model's Record. -/

set_option Elab.async false

open Sys2Proof Sys2Proof.Machine

namespace Sys2Proof.Machine

theorem inv_setRec {s : State} {k : Nat} {x : Recorder} (hs : Inv s) : Inv (setRec s k x) := inv_mk hs

theorem inv_judgeCap {s : State} (hs : Inv s) : Inv (judgeCap s) := inv_judgeUnit hs

theorem inv_capKeep {s : State} {r : Nat} {dn : Bool} (hs : Inv s) : Inv (capKeep s r dn) := inv_mk hs

theorem inv_capDrain {s : State} (hs : Inv s) : Inv (capDrain s) := by
  unfold capDrain
  split
  rename_i a t heq
  have ht := inv_of_snd heq (inv_fresh hs)
  exact inv_mk ht

theorem inv_capStaged {s : State} {n : Nat} (hs : Inv s) : Inv (capStaged s n) := inv_mk hs

theorem inv_capRoom {f : Nat} {s : State} {k n : Nat} (hs : Inv s) : Inv (capRoom f s k n).2 := by
  induction f generalizing s with
  | zero => exact hs
  | succ f ih =>
    refine inv_snd_ite hs (inv_snd_ite hs ?_)
    dsimp only
    split
    · exact hs
    · exact ih (inv_logRec (inv_setRec hs))

theorem inv_recEnd {s : State} {k flags : Nat} (hs : Inv s) : Inv (recEnd s k flags) :=
  inv_ite (inv_setRec hs) (inv_logRec (inv_setRec hs))

theorem inv_recOverflow {s : State} {k : Nat} {wait : Bool} (hs : Inv s) : Inv (recOverflow s k wait) :=
  inv_judgeCap (inv_setRec (inv_logRec (inv_bump (inv_recEnd (inv_setRec hs)))))

theorem inv_trigLost {s : State} {k : Nat} (hs : Inv s) : Inv (trigLost s k) := inv_logRec (inv_bump hs)

theorem inv_trigLink {s : State} {k : Nat} (hs : Inv s) : Inv (trigLink s k) :=
  inv_foldl (fun _ _ ht => inv_ite (inv_trigLost ht) (inv_setRec ht)) hs

theorem inv_recWrite {s : State} {k : Nat} {y : Sample} (hs : Inv s) : Inv (recWrite s k y) := by
  refine inv_ite (inv_recOverflow hs) ?_
  split
  · exact inv_recOverflow (inv_of_snd ‹_› (inv_capRoom hs))
  · exact inv_setRec (inv_capStaged (inv_of_snd ‹_› (inv_capRoom hs)))

theorem inv_recStart {s : State} {k r : Nat} {y : Sample} (hs : Inv s) : Inv (recStart s k r y) := by
  refine inv_ite (inv_trigLost hs) ?_
  split
  · exact inv_judgeCap (inv_trigLost (inv_setRec (inv_of_snd ‹_› (inv_capRoom hs))))
  · have ht := inv_of_snd ‹_› (inv_capRoom hs)
    exact inv_ite (inv_recEnd (inv_setRec (inv_capStaged ht))) (inv_ite (inv_recEnd (inv_setRec (inv_capStaged ht)))
      (inv_setRec (inv_capStaged ht)))

theorem inv_recRun {s : State} {k : Nat} {y : Sample} {trig : Bool} (hs : Inv s) : Inv (recRun s k y trig) := by
  unfold recRun
  extract_lets _ t u _ _ v
  have ht : Inv t := inv_ite (inv_bump hs) hs
  have hu : Inv u := inv_recWrite ht
  have hv : Inv v := inv_setRec hu
  clear_value t u v
  exact inv_ite hu (inv_ite (inv_recEnd hv) (inv_ite (inv_recEnd hv) hv))

theorem inv_takeFault {s : State} {k r : Nat} (hs : Inv s) : Inv (takeFault s k r) := by
  unfold takeFault
  extract_lets _ _ _ _ _ _ t u
  have ht : Inv t := inv_setRec hs
  have hu : Inv u := inv_ite (inv_trigLink ht) ht
  clear_value t u
  split
  · exact inv_ite (inv_recStart hu) (inv_ite (inv_setRec (inv_capStaged hu)) (inv_setRec hu))
  · exact inv_recRun hu
  · exact inv_ite (inv_trigLost hu) hu

theorem inv_trendPut {s : State} {k : Nat} {y : Sample} (hs : Inv s) : Inv (trendPut s k y) :=
  inv_ite (inv_setRec (inv_logRec (inv_bump hs))) (inv_setRec (inv_capStaged hs))

theorem inv_trendHalve {s : State} {b : Nat} (hs : Inv s) : Inv (trendHalve s b) :=
  inv_foldl (fun _ _ ht => inv_ite ht (inv_setRec ht)) hs

theorem inv_trendSwitch {s : State} {k b : Nat} (hs : Inv s) : Inv (trendSwitch s k b) := by
  unfold trendSwitch
  dsimp only
  split
  · exact hs
  · exact inv_ite hs (inv_logRec (inv_trendPut (inv_setRec (inv_ite (inv_bump hs) hs))))

theorem inv_trendEmit {s : State} {k b : Nat} (hs : Inv s) : Inv (trendEmit s k b) := by
  unfold trendEmit
  dsimp only
  split
  · exact inv_trendSwitch hs
  · exact inv_trendSwitch (inv_ite (inv_trendHalve (inv_trendPut (inv_setRec hs))) (inv_trendPut (inv_setRec hs)))

theorem inv_takeTrend {s : State} {k r : Nat} (hs : Inv s) : Inv (takeTrend s k r) := by
  unfold takeTrend
  refine inv_ite (inv_trendEmit (inv_setRec ?_)) (inv_setRec ?_)
  · split
    · exact inv_ite hs (inv_trendEmit hs)
    · exact hs
  · split
    · exact inv_ite hs (inv_trendEmit hs)
    · exact hs

theorem inv_recArm {s : State} {k : Nat} (hs : Inv s) : Inv (recArm s k) := inv_ite hs (inv_setRec hs)

theorem inv_recCatch {c : Nat} {s : State} {k : Nat} (hs : Inv s) : Inv (recCatch c s k) :=
  inv_ite (inv_recArm hs) (inv_foldl (fun _ _ ht => inv_ite (inv_setRec (inv_mk ht)) (inv_ite (inv_takeFault (inv_mk ht)) (inv_takeTrend
    (inv_mk ht)))) (inv_setRec (inv_recArm hs)))

theorem inv_captureRow {s : State} {c : Nat} {dn : Bool} (hs : Inv s) : Inv (captureRow s c dn) :=
  inv_ite hs (inv_mk (inv_foldl (fun _ _ ht => inv_recCatch ht) (inv_capKeep (inv_capDrain hs))))

theorem inv_rowDone {s : State} {r : Nat} {dn : Bool} (hs : Inv s) : Inv (rowDone s r dn) :=
  inv_rowView (fun _ ht => inv_captureRow (inv_ite (inv_imgAll ht) (inv_osRow (inv_imgAll ht)))) hs

theorem inv_rowDown {s : State} {r : Nat} (hs : Inv s) : Inv (rowDown s r) := inv_rowDone (inv_cfgCatch hs)

theorem inv_downAll {s : State} (hs : Inv s) : Inv (downAll s) := inv_foldl (fun _ _ ht => inv_rowDown ht) (inv_mk hs)

theorem inv_condStop {s : State} (hs : Inv s) : Inv (condStop s) := inv_downAll (inv_foldl (fun _ _ ht => inv_rowDown ht) (inv_mk hs))

theorem inv_condRelease {s : State} {r : Nat} (hs : Inv s) : Inv (condRelease s r) :=
  inv_ite (inv_mk hs) (inv_ite (inv_mk hs) (inv_rowDown hs))

end Sys2Proof.Machine
end

section
/-! PROOF. Guest memory stays in its canonical form (O56): the operations of the model's Signed. -/

set_option Elab.async false

open Sys2Proof Sys2Proof.Machine

namespace Sys2Proof.Machine

theorem inv_verifyObj {s : State} {kind lo : Nat} {o : SignedObj} (hs : Inv s) : Inv (verifyObj s kind lo o).2 :=
  inv_snd_ite hs (inv_logRec (inv_bump hs))

end Sys2Proof.Machine
end

section
/-! PROOF. Guest memory stays in its canonical form (O56): the operations of the model's Carry. -/

set_option Elab.async false

open Sys2Proof Sys2Proof.Machine

namespace Sys2Proof.Machine

theorem inv_landTt {s : State} {p : Nat} {c : MigCtx} (hs : Inv s) : Inv (landTt s p c) := inv_mk hs

theorem inv_landTask {s : State} {p k : Nat} {x : Task} (hs : Inv s) : Inv (landTask s p k x) := by
  unfold landTask
  split
  · exact hs
  · exact inv_setTask hs

theorem inv_landForces {s : State} {p : Nat} {c : MigCtx} (hs : Inv s) : Inv (landForces s p c) :=
  inv_foldl (fun _ _ ht => inv_ite ht (inv_forceSet ht)) (inv_foldl (fun _ _ ht => inv_ite (inv_forceSet ht) ht) hs)

theorem inv_land {s : State} {p : Nat} {c : MigCtx} (hs : Inv s) : Inv (land s p c) :=
  inv_setImg (inv_landForces (inv_foldl (fun _ _ ht => inv_landTask ht) (inv_foldl (fun _ _ ht => inv_setGb ht) (inv_landTt (inv_memTake
    hs)))))

end Sys2Proof.Machine
end

section
/-! PROOF. Guest memory stays in its canonical form (O56): the operations of the model's Parts. -/

set_option Elab.async false

open Sys2Proof Sys2Proof.Machine

namespace Sys2Proof.Machine

theorem inv_toSt {s : State} {p : Nat} {st : PSt} {why : Why} (hs : Inv s) : Inv (toSt s p st why) := by
  unfold toSt
  extract_lets _ t
  have ht : Inv t := inv_seeNow (inv_logRec (inv_setPart hs))
  clear_value t
  exact inv_ite hs (inv_ite (inv_stepStop ht) (inv_ite (inv_imageTell ht) ht))

theorem inv_setMig {s : State} {p : Nat} {m : Mig} (hs : Inv s) : Inv (setMig s p m) := inv_setPart hs

theorem inv_sendMig {s : State} {p : Nat} {m : MigMsg} (hs : Inv s) : Inv (sendMig s p m) := inv_ite (inv_sendIul hs) (inv_sendPb hs)

theorem inv_roundSend {s : State} {p : Nat} {spans : List (Nat × Nat)} (hs : Inv s) : Inv (roundSend s p spans) :=
  inv_dirtyClear (inv_sendMig hs)

theorem inv_hoCancel {s : State} {d : Nat} (hs : Inv s) : Inv (hoCancel s d) := inv_setClaim (inv_hoEnd hs)

theorem inv_migLog {s : State} {p what reason : Nat} (hs : Inv s) : Inv (migLog s p what reason) := inv_logRec hs

theorem inv_migKeyClear {s : State} (hs : Inv s) : Inv (migKeyClear s) := inv_mk hs

theorem inv_migEnd {s : State} {p status : Nat} (hs : Inv s) : Inv (migEnd s p status) := by
  unfold migEnd
  dsimp only
  split
  · exact inv_execEnd (inv_setMig (inv_migKeyClear hs))
  · exact inv_setMig (inv_migKeyClear hs)

theorem inv_migAbort {s : State} {p reason : Nat} {tell : Bool} (hs : Inv s) : Inv (migAbort s p reason tell) :=
  inv_ite (inv_toSt (inv_migEnd (inv_migLog (inv_setMig (inv_ite (inv_hoCancel (inv_ite (inv_sendMig hs) hs)) (inv_ite (inv_sendMig hs)
    hs)))))) (inv_migEnd (inv_migLog (inv_setMig (inv_ite (inv_hoCancel (inv_ite (inv_sendMig hs) hs)) (inv_ite (inv_sendMig hs) hs)))))

theorem inv_ttFence {s : State} {p : Nat} (hs : Inv s) : Inv (ttFence s p) :=
  inv_mk (inv_foldl (fun _ _ ht => inv_setCore (inv_coreIdle ht)) hs)

theorem inv_dmaFence {s : State} {p : Nat} (hs : Inv s) : Inv (dmaFence s p) := inv_mk hs

theorem inv_ringFence {s : State} {p : Nat} (hs : Inv s) : Inv (ringFence s p) := inv_mk hs

theorem inv_imgFence {s : State} {p : Nat} (hs : Inv s) : Inv (imgFence s p) := inv_mk hs

theorem inv_fenceAll {s : State} {p : Nat} (hs : Inv s) : Inv (fenceAll s p) :=
  inv_txResume (inv_mk (inv_dirtyClear (inv_phFence (inv_ringFence (inv_imgFence (inv_gooseStop (inv_bolFence (inv_dropPartFrames
    (inv_dmaFence (inv_ttFence (inv_logicAbandon hs)))))))))))

theorem inv_fenceStart {s : State} {p kind : Nat} (hs : Inv s) : Inv (fenceStart s p kind) := inv_setPart (inv_bump (inv_fenceAll hs))

theorem inv_diesUp {s : State} {p : Nat} (hs : Inv s) : Inv (diesUp s p) := inv_foldl (fun _ _ ht => inv_ite (inv_setUnit ht) ht) hs

theorem inv_diesGate {s : State} (hs : Inv s) : Inv (diesGate s) := inv_foldl (fun _ _ ht => inv_ite ht (inv_ite (inv_setUnit ht) ht)) hs

theorem inv_runPart {s : State} {p : Nat} (hs : Inv s) : Inv (runPart s p) :=
  inv_ite hs (inv_logicStart (inv_toSt (inv_imgFence (inv_setPart hs))))

theorem inv_runPlaced {s : State} (hs : Inv s) : Inv (runPlaced s) := inv_foldl (fun _ _ ht => inv_ite (inv_runPart ht) ht) hs

theorem inv_startPart {s : State} {p : Nat} (hs : Inv s) : Inv (startPart s p) := inv_diesUp (inv_mk (inv_toSt (inv_setPart hs)))

theorem inv_opPartStart {s : State} {p : Nat} (hs : Inv s) : Inv (opPartStart s p).s :=
  inv_res_ite (inv_deny hs) (inv_res_ite (inv_deny hs) (inv_good (inv_startPart hs)))

theorem formed_execPartStart {dt : Nat} {rq : Req} {p : Nat} {s : State} (hs : Inv s) : Formed (execPartStart dt rq p s) :=
  formed_done (inv_doExec (fun _ ht => inv_opPartStart ht) (inv_advance hs))

theorem formed_execPartImageRead {dt : Nat} {s : State} (hs : Inv s) : Formed (execPartImageRead dt s) := by
  unfold execPartImageRead
  dsimp only
  split
  · exact formed_done (inv_advance hs)
  · exact formed_ite (formed_done (inv_advance hs)) (formed_done (inv_mk (inv_advance hs)))

theorem inv_faultPart {s : State} {p cause core detail : Nat} (hs : Inv s) : Inv (faultPart s p cause core detail) := by
  unfold faultPart
  extract_lets _ _ _ t u _ _ v w _ x
  have ht : Inv t := inv_setPart hs
  have hu : Inv u := inv_logRec ht
  have hv : Inv v := inv_hoCancel (inv_sendMig (inv_setMig hu))
  have hw : Inv w := inv_ite hu (inv_ite (inv_migAbort hu) (inv_ite (inv_migEnd (inv_migLog hv)) hu))
  have hx : Inv x := inv_ite (inv_setMig hw) hw
  clear_value t u v w x
  refine inv_ite hs ?_
  split
  · exact inv_fenceStart hx
  · exact inv_ite (inv_setPart hx) hx

theorem formed_execPartFault {dt p cause core detail : Nat} {s : State} (hs : Inv s) : Formed (execPartFault dt p cause core detail s) :=
  formed_ite (formed_done (inv_advance hs)) (formed_done (inv_faultPart (inv_ite (inv_selfBit (inv_mk (inv_advance hs))) (inv_advance
    hs))))

theorem inv_pwAbort {s : State} {p core w : Nat} (hs : Inv s) : Inv (pwAbort s p core w) := inv_ite (inv_faultPart hs) hs

theorem formed_execPwAbortWrite {dt p core : Nat} {w : Word} {s : State} (hs : Inv s) : Formed (execPwAbortWrite dt p core w s) := by
  unfold execPwAbortWrite
  dsimp only
  split
  · exact formed_done (inv_pwAbort (inv_advance hs))
  · exact formed_done (inv_advance hs)

theorem formed_execBudgetStop {dt core : Nat} {s : State} (hs : Inv s) : Formed (execBudgetStop dt core s) := by
  unfold execBudgetStop
  dsimp only
  split
  · exact formed_ite (formed_done (inv_advance hs)) (formed_done (inv_faultPart (inv_bump (inv_advance hs))))
  · exact formed_done (inv_advance hs)

theorem formed_execPartImageVerified {dt : Nat} {obj : SignedObj} {s : State} (hs : Inv s) : Formed (execPartImageVerified dt obj s) := by
  unfold execPartImageVerified
  extract_lets t
  have ht : Inv t := inv_advance hs
  clear_value t
  split
  · exact formed_done ht
  · refine formed_ite (formed_done ht) ?_
    extract_lets u
    have hu : Inv u := inv_mk ht
    clear_value u
    split
    rename_i a v heq
    have hv := inv_of_snd heq (inv_snd_ite (inv_verifyObj hu) hu)
    exact formed_ite (formed_done hv) (formed_ite (formed_done (inv_runPart (inv_setPart hv))) (formed_done (inv_faultPart (inv_logRec
      hv))))

theorem inv_opPartStop {s : State} {p : Nat} (hs : Inv s) : Inv (opPartStop s p).s := by
  unfold opPartStop
  dsimp only
  split
  · exact inv_res_ite (inv_deny hs) (inv_good (inv_toSt (inv_setPart hs)))
  · exact inv_res_ite (inv_good (inv_toSt hs)) (inv_good (inv_toSt (inv_setPart (inv_ite (inv_migAbort hs) hs))))
  · exact inv_deny hs

theorem formed_execPartStop {dt : Nat} {rq : Req} {p : Nat} {s : State} (hs : Inv s) : Formed (execPartStop dt rq p s) :=
  formed_done (inv_doExec (fun _ ht => inv_opPartStop ht) (inv_advance hs))

theorem inv_resetPart {s : State} {p : Nat} {why : Why} (hs : Inv s) : Inv (resetPart s p why) :=
  inv_fenceStart (inv_toSt (inv_ite (inv_migAbort hs) hs))

theorem inv_resetNow {s : State} {p : Nat} {why : Why} (hs : Inv s) : Inv (resetNow s p why) := by
  unfold resetNow
  split
  · exact inv_toSt (inv_setPart hs)
  · exact inv_resetPart hs

theorem inv_opPartReset {s : State} {p : Nat} (hs : Inv s) : Inv (opPartReset s p).s := by
  unfold opPartReset
  dsimp only
  split
  · exact inv_good hs
  · exact inv_good (inv_resetNow hs)
  · exact inv_good (inv_resetNow hs)
  · exact inv_good (inv_resetNow hs)
  · exact inv_res_ite (inv_deny hs) (inv_res_ite (inv_deny hs) (inv_good (inv_resetPart hs)))
  · exact inv_deny hs

theorem formed_execPartReset {dt : Nat} {rq : Req} {p : Nat} {s : State} (hs : Inv s) : Formed (execPartReset dt rq p s) :=
  formed_done (inv_doExec (fun _ ht => inv_opPartReset ht) (inv_advance hs))

theorem inv_faultAction {s : State} {p : Nat} (hs : Inv s) : Inv (faultAction s p) :=
  inv_ite (inv_logRec hs) (inv_ite (inv_setPart hs) hs)

theorem formed_execFenceComplete {dt p : Nat} {s : State} (hs : Inv s) : Formed (execFenceComplete dt p s) := by
  unfold execFenceComplete
  extract_lets t _ u _ v
  have ht : Inv t := inv_advance hs
  have hu : Inv u := inv_setPart ht
  have hv : Inv v := inv_toSt (inv_zeroRegions (inv_setPart hu))
  clear_value t u v
  split
  · exact formed_done ht
  · split
    · exact formed_ite (formed_done (inv_runPart (inv_diesUp hv))) (formed_done (inv_diesUp (inv_mk hv)))
    · exact formed_done (inv_faultAction (inv_toSt hu))
    · exact formed_done (inv_toSt hu)
    · exact formed_done hu

theorem formed_execPartitionDrained {dt p : Nat} {s : State} (hs : Inv s) : Formed (execPartitionDrained dt p s) :=
  formed_ite (formed_done (inv_toSt (inv_setPart (inv_advance hs)))) (formed_done (inv_advance hs))

theorem inv_restartDue {s : State} {p : Nat} (hs : Inv s) : Inv (restartDue s p) := inv_ite (inv_resetPart hs) hs

theorem formed_execRestartDelayExpiry {dt p : Nat} {s : State} (hs : Inv s) : Formed (execRestartDelayExpiry dt p s) :=
  formed_done (inv_restartDue (inv_advance hs))

theorem inv_opPartImageApply {s : State} {rq : Req} {p : Nat} (hs : Inv s) : Inv (opPartImageApply s rq p).s :=
  inv_res_ite (inv_deny hs) (inv_vaultPush hs)

theorem formed_execPartImageApply {dt : Nat} {rq : Req} {p : Nat} {s : State} (hs : Inv s) : Formed (execPartImageApply dt rq p s) :=
  formed_done (inv_doExec (fun _ ht => inv_opPartImageApply ht) (inv_advance hs))

theorem inv_imageJudged {s : State} {p sess reqId : Nat} {obj : SignedObj} (hs : Inv s) : Inv (imageJudged s p sess reqId obj) := by
  unfold imageJudged
  extract_lets t
  have ht : Inv t := inv_bulkDrop (inv_bulkEnd hs)
  clear_value t
  split
  rename_i a u heq
  have hu := inv_of_snd heq (inv_verifyObj ht)
  exact inv_ite (inv_execEnd (inv_setPart hu)) (inv_execEnd hu)

theorem inv_zeroAnswer {s : State} (hs : Inv s) : Inv (zeroAnswer s) := inv_foldl (fun _ _ ht => inv_answerLate ht) (inv_mk hs)

theorem formed_execPartitionZeroed {dt p : Nat} {s : State} (hs : Inv s) : Formed (execPartitionZeroed dt p s) := by
  unfold execPartitionZeroed
  extract_lets t _ u v w
  have ht : Inv t := inv_advance hs
  have hu : Inv u := inv_toSt (inv_setPart (inv_memZero ht))
  have hv : Inv v := inv_toSt (inv_memZero ht)
  have hw : Inv w := inv_diesGate (inv_setPart hv)
  clear_value t u v w
  split
  · exact formed_done (inv_ite (inv_leaveStep hu) hu)
  · exact formed_done (inv_ite hw (inv_zeroAnswer hw))
  · exact formed_done ht

theorem inv_opMigPrepare {s : State} {p : Nat} (hs : Inv s) : Inv (opMigPrepare s p).s :=
  inv_res_ite (inv_deny hs) (inv_res_ite (inv_deny hs) (inv_good (inv_toSt (inv_diesUp (inv_setPart hs)))))

theorem formed_execMigPrepare {dt : Nat} {rq : Req} {p : Nat} {s : State} (hs : Inv s) : Formed (execMigPrepare dt rq p s) :=
  formed_done (inv_doExec (fun _ ht => inv_opMigPrepare ht) (inv_advance hs))

theorem inv_opMigStart {s : State} {rq : Req} {p path peer dest : Nat} {force : Bool} (hs : Inv s) :
    Inv (opMigStart s rq p path peer dest force).s :=
  inv_res_ite (inv_deny hs) (inv_res_ite (inv_deny hs) (inv_vaultPush (inv_migLog (inv_setMig hs))))

theorem formed_execMigStart {dt : Nat} {rq : Req} {p path peer dest : Nat} {force : Bool} {s : State} (hs : Inv s) :
    Formed (execMigStart dt rq p path peer dest force s) :=
  formed_done (inv_doExec (fun _ ht => inv_opMigStart ht) (inv_advance hs))

theorem inv_migKeyed {s : State} {first : Bool} (hs : Inv s) : Inv (migKeyed s first) := by
  unfold migKeyed
  split
  · exact inv_mk hs
  · exact hs

theorem inv_migAgreed {s : State} {p : Nat} {ok : Bool} (hs : Inv s) : Inv (migAgreed s p ok) := by
  unfold migAgreed
  refine inv_ite (inv_migAbort hs) ?_
  split
  rename_i a t heq
  have ht := inv_of_snd heq (inv_fresh hs)
  exact inv_ite (inv_roundSend (inv_setMig (inv_sendMig (inv_migKeyed (inv_mk ht))))) (inv_sendMig (inv_migKeyed (inv_mk ht)))

theorem inv_migAsked {s : State} {p : Nat} {m : Mig} {e : MigEph} (hs : Inv s) : Inv (migAsked s p m e) :=
  inv_ite (inv_vaultPush (inv_mk (inv_setMig hs))) hs

theorem inv_ctxSize {s : State} {p : Nat} (hs : Inv s) : Inv (ctxSize s p).2 := by
  unfold ctxSize
  split
  rename_i a t heq
  have ht := inv_of_snd heq (inv_fresh hs)
  exact ht

theorem inv_migSend {s : State} {p : Nat} (hs : Inv s) : Inv (migSend s p) := inv_ite (inv_dirtyClear (inv_sendMig (inv_setMig hs))) hs

theorem inv_migHandover {s : State} {p row : Nat} (hs : Inv s) : Inv (migHandover s p row) := inv_ite (inv_vaultPush (inv_setClaim hs)) hs

theorem inv_migFreeze {s : State} {p r : Nat} (hs : Inv s) : Inv (migFreeze s p r) := by
  unfold migFreeze
  split
  rename_i a t heq
  have ht := inv_of_snd heq (inv_ctxSize hs)
  exact inv_migSend (inv_migHandover (inv_migLog (inv_toSt (inv_setMig ht))))

theorem inv_migResume {s : State} {p r : Nat} (hs : Inv s) : Inv (migResume s p r) :=
  inv_migEnd (inv_migLog (inv_toSt (inv_setImg (inv_setPart (inv_land hs)))))

theorem inv_migRow1 {s : State} {r p : Nat} (hs : Inv s) : Inv (migRow1 s r p) := by
  unfold migRow1
  refine inv_ite hs ?_
  split
  · exact inv_ite (inv_migFreeze hs) hs
  · exact inv_ite hs (inv_ite (inv_faultPart hs) (inv_migResume hs))
  · exact inv_ite (inv_ite hs (inv_toSt (inv_setMig hs))) (inv_ite (inv_migEnd (inv_diesGate (inv_setPart (inv_toSt (inv_gooseStop
      (inv_ringFence (inv_ttFence (inv_logicAbandon hs)))))))) (inv_migSend hs))
  · exact hs

theorem inv_migRow {s : State} {r : Nat} (hs : Inv s) : Inv (migRow s r) := inv_foldl (fun _ _ ht => inv_migRow1 ht) hs

theorem inv_importHeld {s : State} {q : Nat} (hs : Inv s) : Inv (importHeld s q) := inv_mk (inv_setStep (inv_setMig (inv_migKeyClear hs)))

theorem inv_importRun {s : State} {p : Nat} (hs : Inv s) : Inv (importRun s p) :=
  inv_sendIul (inv_migKeyClear (inv_mk (inv_foldl (fun _ _ ht => inv_ite (inv_imgMiss ht) (inv_imgPlace ht)) (inv_setStep (inv_toSt
    (inv_setPart (inv_land hs)))))))

theorem inv_coresMark {s : State} {p : Nat} {l : List Nat} (hs : Inv s) : Inv (coresMark s p l) := inv_mk hs

theorem formed_execMigRoundEnd {dt p round : Nat} {marked : List Nat} {s : State} (hs : Inv s) :
    Formed (execMigRoundEnd dt p round marked s) :=
  formed_ite (formed_done (inv_advance hs)) (formed_ite (formed_done (inv_setMig (inv_setMig (inv_coresMark (inv_advance hs)))))
    (formed_ite (formed_done (inv_migAbort (inv_setMig (inv_coresMark (inv_advance hs))))) (formed_done (inv_roundSend (inv_setMig
    (inv_coresMark (inv_advance hs)))))))

theorem formed_execMigRestoreComplete {dt p : Nat} {s : State} (hs : Inv s) : Formed (execMigRestoreComplete dt p s) :=
  formed_ite (formed_done (inv_advance hs)) (formed_ite (formed_ite (formed_done (inv_advance hs)) (formed_done (inv_ite (inv_faultPart
    (inv_advance hs)) (inv_importRun (inv_advance hs))))) (formed_done (inv_sendMig (inv_setMig (inv_advance hs)))))

theorem inv_migStopAll {s : State} {reason : Nat} (hs : Inv s) : Inv (migStopAll s reason) :=
  inv_foldl (fun _ _ ht => inv_ite (inv_migAbort ht) ht) hs

theorem inv_migFail {s : State} (hs : Inv s) : Inv (migFail s) := inv_foldl (fun _ _ ht => inv_ite (inv_migAbort (inv_migEnd ht)) ht) hs

theorem inv_opMigAbort {s : State} {p : Nat} (hs : Inv s) : Inv (opMigAbort s p).s :=
  inv_res_ite (inv_good (inv_migAbort hs)) (inv_deny hs)

theorem formed_execMigAbort {dt : Nat} {rq : Req} {p : Nat} {s : State} (hs : Inv s) : Formed (execMigAbort dt rq p s) :=
  formed_done (inv_doExec (fun _ ht => inv_opMigAbort ht) (inv_advance hs))

theorem formed_execMigPathFail {dt p : Nat} {s : State} (hs : Inv s) : Formed (execMigPathFail dt p s) :=
  formed_ite (formed_done (inv_migAbort (inv_advance hs))) (formed_done (inv_advance hs))

theorem inv_imageTold {s : State} {p : Nat} {d : List Byte} (hs : Inv s) : Inv (imageTold s p d) :=
  inv_ite hs (inv_ite (inv_leaveStep (inv_stepOut (inv_setStep hs))) (inv_setStep hs))

theorem inv_migRx {s : State} {path : Nat} {m : MigMsg} {tagOk : Bool} (hs : Inv s) : Inv (migRx s path m tagOk) := by
  unfold migRx
  dsimp only
  split
  · split
    · exact inv_ite hs (inv_ite (inv_migAbort hs) (inv_ite (inv_migAbort hs) (inv_roundSend (inv_migKeyed (inv_mk (inv_setMig hs))))))
    · exact inv_ite (inv_ite (inv_migAbort hs) (inv_ite (inv_migKeyed (inv_mk hs)) (inv_migAsked hs))) (inv_ite (inv_ite (inv_setStep
        (inv_sendIul hs)) (inv_migAsked (inv_setStep hs))) hs)
  · exact inv_ite (inv_memTake hs) hs
  · exact inv_ite (inv_imageTold hs) hs
  · exact inv_ite (inv_setPart hs) hs
  · split
    · exact inv_ite (inv_migAbort hs) (inv_ite (inv_importHeld hs) (inv_setMig hs))
    · exact hs
  · exact inv_ite (inv_vaultPush hs) hs
  · exact inv_ite (inv_hoAnswer hs) hs
  · refine inv_ite hs ?_
    split
    · exact inv_migAbort hs
    · exact inv_ite (inv_migAbort hs) hs

theorem formed_execDiePowerUpDone {dt die : Nat} {s : State} (hs : Inv s) : Formed (execDiePowerUpDone dt die s) :=
  formed_ite (formed_done (inv_runPlaced (inv_setUnit (inv_advance hs)))) (formed_done (inv_advance hs))

theorem inv_dieFault {s : State} {die : Nat} (hs : Inv s) : Inv (dieFault s die) :=
  inv_foldl (fun _ _ ht => inv_ite (inv_faultPart ht) ht) hs

theorem formed_execD2dLinkFail {dt die link : Nat} {s : State} (hs : Inv s) : Formed (execD2dLinkFail dt die link s) :=
  formed_ite (formed_done (inv_advance hs)) (formed_ite (formed_done (inv_dieFault (inv_setUnit (inv_mk (inv_advance hs))))) (formed_ite
    (formed_done (inv_setUnit (inv_mk (inv_advance hs)))) (formed_done (inv_mk (inv_advance hs)))))

theorem inv_ttDoneOp {s : State} {core result : Nat} {outputs : List (List Nat)} (hs : Inv s) : Inv (ttDoneOp s core result outputs) := by
  unfold ttDoneOp
  split
  · exact hs
  · refine inv_ite hs (inv_migSend (inv_ttEnd ?_))
    split
    · exact inv_logicCommit hs
    · exact hs

theorem formed_execTtDone {dt core : Nat} {result : Word} {outputs : List (List Nat)} {s : State} (hs : Inv s) :
    Formed (execTtDone dt core result outputs s) :=
  formed_done (inv_ttDoneOp (inv_advance hs))

theorem inv_logicFault {s : State} (hs : Inv s) : Inv (logicFault s) := inv_foldl (fun _ _ ht => inv_opPartReset ht) hs

theorem formed_execLogicUnitFault {dt : Nat} {s : State} (hs : Inv s) : Formed (execLogicUnitFault dt s) :=
  formed_ite (formed_done (inv_advance hs)) (formed_done (inv_logicFault (inv_setUnit (inv_advance hs))))

end Sys2Proof.Machine
end

section
/-! PROOF. Guest memory stays in its canonical form (O56): the operations of the model's Window. -/

set_option Elab.async false

open Sys2Proof Sys2Proof.Machine

namespace Sys2Proof.Machine

theorem inv_snapLatch {s : State} {p core off : Nat} (hs : Inv s) : Inv (snapLatch s p core off) := by
  unfold snapLatch
  split
  · exact inv_mk hs
  · exact hs

theorem formed_execSnapshotLoRead {dt p core offset : Nat} {s : State} (hs : Inv s) : Formed (execSnapshotLoRead dt p core offset s) :=
  formed_done (inv_snapLatch (inv_advance hs))

theorem formed_execCfMissedRead {dt p x2 : Nat} {s : State} (hs : Inv s) : Formed (execCfMissedRead dt p x2 s) :=
  formed_done (inv_setImg (inv_advance hs))

theorem formed_execPfDeniedRead {dt p x2 : Nat} {s : State} (hs : Inv s) : Formed (execPfDeniedRead dt p x2 s) :=
  formed_done (inv_setPf (inv_advance hs))

theorem formed_execLgOverrunRead {dt p x2 slot : Nat} {s : State} (hs : Inv s) : Formed (execLgOverrunRead dt p x2 slot s) :=
  formed_done (inv_lgOverrunClear (inv_advance hs))

theorem inv_prodReg {s : State} {p core q v : Nat} (hs : Inv s) : Inv (prodReg s p core q v) := inv_ite hs (inv_prodWrite hs)

theorem inv_portReg {s : State} {core i : Nat} {w : Word} (hs : Inv s) : Inv (portReg s core i w) := inv_setCore hs

theorem inv_ttWrite {s : State} {p core off : Nat} {w : Word} (hs : Inv s) : Inv (ttWrite s p core off w) := by
  unfold ttWrite
  refine inv_ite (inv_ite (inv_portReg hs) hs) (inv_ite (inv_ite (inv_prodReg hs) (inv_ite (inv_consWrite hs) hs)) ?_)
  split
  · exact inv_ttSubmitOp hs
  · exact inv_ttCommitOp hs
  · exact inv_ttCancelOp hs
  · exact inv_ite (inv_ttDoneOp hs) hs
  · exact inv_ttFlowOpenOp hs
  · exact inv_ttFlowCloseOp hs
  · exact hs

theorem inv_phWrite {s : State} {ep core off : Nat} {w : Word} (hs : Inv s) : Inv (phWrite s ep core off w) := by
  unfold phWrite
  refine inv_ite (inv_ite (inv_phPostOp hs) (inv_phHeader hs)) (inv_ite (inv_setPhCore hs) (inv_ite ?_ ?_))
  · split
    · exact inv_ite (inv_setChan hs) hs
    · exact hs
  · split
    · exact inv_phTakeOp hs
    · exact inv_phRingOp hs
    · exact inv_setBell hs
    · exact inv_setBell hs
    · exact inv_bellItem (inv_setBell hs)
    · exact inv_bellItem (inv_setBell hs)
    · exact hs

theorem inv_winWrite {s : State} {p core off : Nat} {w : Word} (hs : Inv s) : Inv (winWrite s p core off w) :=
  inv_ite hs (inv_ite (inv_phWrite hs) (inv_ite hs (inv_ite (inv_ite (inv_pwAbort hs) hs) (inv_ite (inv_ttWrite hs) hs))))

end Sys2Proof.Machine
end

section
/-! PROOF. Guest memory stays in its canonical form (O56): the operations of the model's Iul. -/

set_option Elab.async false

open Sys2Proof Sys2Proof.Machine

namespace Sys2Proof.Machine

theorem inv_commitRefused {s : State} {status : Nat} (hs : Inv s) : Inv (commitRefused s status) := by
  unfold commitRefused
  dsimp only
  split
  · exact inv_ite (inv_stageDrop (inv_mk hs)) (inv_answerLate (inv_mk hs))
  · exact inv_mk hs

theorem inv_mirrorRefused {s : State} {m : Mirrored} {status : Nat} (hs : Inv s) : Inv (mirrorRefused s m status) := by
  unfold mirrorRefused
  dsimp only
  split
  · exact inv_commitRefused (inv_mk hs)
  · exact inv_answerLate (inv_mk (inv_mk hs))
  · exact inv_answerLate (inv_mk hs)

theorem inv_mirrorWait {s : State} {m : Mirrored} {t : Int} (hs : Inv s) : Inv (mirrorWait s m t) := inv_mk hs

theorem inv_mirrorDrop {s : State} (hs : Inv s) : Inv (mirrorDrop s) := inv_foldl (fun _ _ ht => inv_mirrorRefused ht) (inv_mk hs)

theorem inv_mirrorSend {s : State} {n seq idx : Nat} {op : MirrorOp} (hs : Inv s) : Inv (mirrorSend s n seq idx op) :=
  inv_sendIul (inv_mk hs)

theorem inv_mirrorBack {s : State} (hs : Inv s) : Inv (mirrorBack s) :=
  inv_ite hs (inv_foldl (fun _ _ ht => inv_mirrorSend ht) (inv_mk hs))

theorem inv_importStop {s : State} (hs : Inv s) : Inv (importStop s) :=
  inv_foldl (fun _ _ ht => inv_ite (inv_migAbort (inv_setStep ht)) ht) hs

theorem inv_linkGone {s : State} (hs : Inv s) : Inv (linkGone s) :=
  inv_ite (inv_pairEval hs) (inv_importStop (inv_pairEval (inv_foldl (fun _ _ ht => inv_ite (inv_hoEnd ht) ht) (inv_mk (inv_mirrorDrop
    (inv_allOut (inv_mk hs)))))))

theorem inv_judgeIul {s : State} (hs : Inv s) : Inv (judgeIul s) :=
  inv_ite (inv_selfBit hs) (inv_ite (inv_ite (inv_selfBit hs) (inv_setUnit (inv_mk (inv_selfBit hs)))) (inv_ite (inv_setUnit (inv_mk
    (inv_selfBit hs))) (inv_ite (inv_setUnit (inv_selfBit hs)) (inv_selfBit hs))))

theorem inv_laneTrain {s : State} {n : Nat} (hs : Inv s) : Inv (laneTrain s n) := inv_ite (inv_setLane hs) hs

theorem formed_execLaneTrainSwitch {dt lane : Nat} {s : State} (hs : Inv s) : Formed (execLaneTrainSwitch dt lane s) :=
  formed_ite (formed_done (inv_setLane (inv_advance hs))) (formed_ite (formed_done (inv_laneTrain (inv_advance hs))) (formed_done
    (inv_advance hs)))

theorem inv_linkBack {s : State} (hs : Inv s) : Inv (linkBack s) := inv_ite hs (inv_pairEval (inv_mk hs))

theorem inv_laneRise {s : State} {n : Nat} (hs : Inv s) : Inv (laneRise s n) :=
  inv_judgeIul (inv_pairEval (inv_ite (inv_linkBack (inv_ite (inv_logRec (inv_setPort (inv_mk (inv_setLane hs)))) (inv_mk (inv_logRec
    (inv_setPort (inv_mk (inv_setLane hs))))))) (inv_ite (inv_logRec (inv_setPort (inv_mk (inv_setLane hs)))) (inv_mk (inv_logRec
    (inv_setPort (inv_mk (inv_setLane hs))))))))

theorem formed_execLaneUp {dt lane : Nat} {s : State} (hs : Inv s) : Formed (execLaneUp dt lane s) :=
  formed_ite (formed_done (inv_laneRise (inv_advance hs))) (formed_done (inv_advance hs))

theorem inv_laneLost {s : State} {n st : Nat} (hs : Inv s) : Inv (laneLost s n st) :=
  inv_ite (inv_linkGone (inv_judgeIul (inv_linkLost (inv_setLane hs)))) (inv_judgeIul (inv_linkLost (inv_setLane hs)))

theorem inv_settleWith {s : State} {h : PairHello} (hs : Inv s) : Inv (settleWith s h) :=
  inv_pairEval (inv_ite (inv_foldl (fun _ _ ht => inv_imageTell ht) (inv_ite (inv_selfBit (inv_mk (inv_logRec hs))) (inv_migStopAll
    (inv_selfBit (inv_mk (inv_logRec hs)))))) (inv_allOut (inv_foldl (fun _ _ ht => inv_imageTell ht) (inv_ite (inv_selfBit (inv_mk
    (inv_logRec hs))) (inv_migStopAll (inv_selfBit (inv_mk (inv_logRec hs))))))))

theorem inv_trySettle {s : State} (hs : Inv s) : Inv (trySettle s) := by
  unfold trySettle
  refine inv_ite hs ?_
  split
  · exact inv_mirrorBack (inv_settleWith hs)
  · exact hs

theorem inv_helloSend {s : State} (hs : Inv s) : Inv (helloSend s) := inv_sendIul (inv_mk hs)

theorem formed_execPairHelloTx {dt : Nat} {s : State} (hs : Inv s) : Formed (execPairHelloTx dt s) :=
  formed_ite (formed_done (inv_advance hs)) (formed_done (inv_trySettle (inv_helloSend (inv_advance hs))))

theorem formed_execPairHello {dt : Nat} {h : PairHello} {s : State} (hs : Inv s) : Formed (execPairHello dt h s) :=
  formed_ite (formed_done (inv_advance hs)) (formed_done (inv_trySettle (inv_ite (inv_helloSend (inv_mk (inv_advance hs))) (inv_mk
    (inv_advance hs)))))

theorem inv_lanesDown {s : State} (hs : Inv s) : Inv (lanesDown s) :=
  inv_foldl (fun _ _ ht => inv_ite ht (inv_linkLost (inv_setLane ht))) hs

theorem inv_pairLeave {s : State} (hs : Inv s) : Inv (pairLeave s) :=
  inv_mk (inv_foldl (fun _ _ ht => inv_ite (inv_hoEnd ht) ht) (inv_importStop (inv_allOut (inv_ite (inv_lanesDown (inv_mirrorDrop hs))
    (inv_ite (inv_mirrorDrop hs) (inv_setDraining (inv_mirrorDrop hs)))))))

theorem inv_pairRetry {s : State} (hs : Inv s) : Inv (pairRetry s) := inv_ite hs (inv_pairEval (inv_mk hs))

theorem inv_putPairEnable {s : State} {on : Bool} (hs : Inv s) : Inv (putPairEnable s on).s :=
  inv_good (inv_ite (inv_logRec (inv_judgeIul (inv_ite (inv_pairRetry (inv_pairEval (inv_ite (inv_pairLeave (inv_put hs)) (inv_laneTrain
    (inv_laneTrain (inv_ite (inv_setDraining (inv_lanesDown (inv_put hs))) (inv_put hs))))))) (inv_pairEval (inv_ite (inv_pairLeave
    (inv_put hs)) (inv_laneTrain (inv_laneTrain (inv_ite (inv_setDraining (inv_lanesDown (inv_put hs))) (inv_put hs))))))))) (inv_judgeIul
    (inv_ite (inv_pairRetry (inv_pairEval (inv_ite (inv_pairLeave (inv_put hs)) (inv_laneTrain (inv_laneTrain (inv_ite (inv_setDraining
    (inv_lanesDown (inv_put hs))) (inv_put hs))))))) (inv_pairEval (inv_ite (inv_pairLeave (inv_put hs)) (inv_laneTrain (inv_laneTrain
    (inv_ite (inv_setDraining (inv_lanesDown (inv_put hs))) (inv_put hs)))))))))

theorem inv_hookPairEnable {s : State} {n ob sub row : Nat} {v : Val} (hs : Inv s) : Inv (hookPairEnable s n ob sub row v).s :=
  inv_putPairEnable hs

theorem formed_execPairEnableWrite {dt : Nat} {rq : Req} {on : Bool} {s : State} (hs : Inv s) : Formed (execPairEnableWrite dt rq on s) :=
  formed_done (inv_doWrite (fun _ _ _ _ _ _ ht => inv_hookPairEnable ht) (inv_advance hs))

theorem formed_execPresence {dt row : Nat} {present : List Nat} {digest : List Byte} {s : State} (hs : Inv s) :
    Formed (execPresence dt row present digest s) :=
  formed_done (inv_eqMsg (fun _ ht => inv_eqPresence ht) (inv_advance hs))

theorem formed_execSeats {dt row : Nat} {seats : List SeatCopy} {s : State} (hs : Inv s) : Formed (execSeats dt row seats s) :=
  formed_done (inv_eqMsg (fun _ ht => inv_eqSeatsRx ht) (inv_advance hs))

theorem formed_execTags {dt row : Nat} {tags : List TagRec} {s : State} (hs : Inv s) : Formed (execTags dt row tags s) :=
  formed_done (inv_eqMsg (fun _ ht => inv_eqTagsRx ht) (inv_advance hs))

theorem formed_execAgree {dt row : Nat} {final : List Byte} {s : State} (hs : Inv s) : Formed (execAgree dt row final s) :=
  formed_done (inv_eqMsg (fun _ ht => inv_eqAgreeRx ht) (inv_advance hs))

theorem formed_execEqLost {dt row : Nat} {s : State} (hs : Inv s) : Formed (execEqLost dt row s) :=
  formed_done (inv_eqMsg (fun _ ht => inv_eqLostRx ht) (inv_advance hs))

theorem formed_execEqDeadlineExpiry {dt : Nat} {s : State} (hs : Inv s) : Formed (execEqDeadlineExpiry dt s) :=
  formed_done (inv_foldl (fun _ _ ht => inv_eqGiveUp ht) (inv_advance hs))

theorem inv_judgeIn {s : State} (hs : Inv s) : Inv (judgeIn s) := inv_ite hs (inv_ite (inv_pairEval (inv_mk hs)) hs)

theorem formed_execDigest {dt p row digest : Nat} {s : State} (hs : Inv s) : Formed (execDigest dt p row digest s) :=
  formed_ite (formed_done (inv_advance hs)) (formed_done (inv_judgeIn (inv_digRx (inv_advance hs))))

theorem formed_execDigestWaitExpiry {dt p row : Nat} {s : State} (hs : Inv s) : Formed (execDigestWaitExpiry dt p row s) :=
  formed_done (inv_digLate (inv_advance hs))

theorem formed_execAlign {dt row : Nat} {recs : List AlignRec} {s : State} (hs : Inv s) : Formed (execAlign dt row recs s) :=
  formed_ite (formed_done (inv_advance hs)) (formed_ite (formed_done (inv_mk (inv_advance hs))) (formed_ite (formed_done (inv_mk
    (inv_advance hs))) (formed_done (inv_advance hs))))

theorem formed_execImportCheckpoint {dt p : Nat} {s : State} (hs : Inv s) : Formed (execImportCheckpoint dt p s) :=
  formed_ite (formed_done (inv_advance hs)) (formed_done (inv_dirtyClear (inv_sendMig (inv_setStep (inv_advance hs)))))

theorem inv_selfState {s : State} (hs : Inv s) : Inv (selfState s) :=
  inv_selfBit (inv_selfBit (inv_selfBit (inv_selfBit (inv_selfBit hs))))

theorem formed_execSelftestCheck {dt bit : Nat} {pass : Bool} {s : State} (hs : Inv s) : Formed (execSelftestCheck dt bit pass s) :=
  formed_ite (formed_done (inv_advance hs)) (formed_ite (formed_done (inv_selfState (inv_selfRan (inv_advance hs)))) (formed_ite
    (formed_done (inv_selfBit (inv_selfRan (inv_advance hs)))) (formed_done (inv_selfBit (inv_selfRan (inv_advance hs))))))

theorem formed_execReportTx {dt : Nat} {s : State} (hs : Inv s) : Formed (execReportTx dt s) :=
  formed_ite (formed_done (inv_advance hs)) (formed_ite (formed_done (inv_sendIul (inv_mk (inv_mk (inv_selfState (inv_advance hs))))))
    (formed_done (inv_mk (inv_mk (inv_selfState (inv_advance hs))))))

theorem inv_partnerStops {s : State} (hs : Inv s) : Inv (partnerStops s) :=
  inv_foldl (fun _ _ ht => inv_ite (inv_leaveStep (inv_stepOut ht)) ht) hs

theorem formed_execReport {dt : Nat} {card : List Byte} {s : State} (hs : Inv s) : Formed (execReport dt card s) :=
  formed_ite (formed_done (inv_advance hs)) (formed_done (inv_partnerStops (inv_ite (inv_mk (inv_advance hs)) (inv_linkBack (inv_mk
    (inv_advance hs))))))

theorem formed_execIulDown {dt : Nat} {s : State} (hs : Inv s) : Formed (execIulDown dt s) :=
  formed_ite (formed_done (inv_linkGone (inv_advance hs))) (formed_done (inv_advance hs))

theorem formed_execTimeXcheck {dt : Nat} {offset : Int} {s : State} (hs : Inv s) : Formed (execTimeXcheck dt offset s) :=
  formed_ite (formed_done (inv_advance hs)) (formed_done (inv_selfBit (inv_sendIul (inv_mk (inv_advance hs)))))

theorem inv_opPairReset {s : State} (hs : Inv s) : Inv (opPairReset s).s := inv_good (inv_clearCtrs (inv_clearCtrs (inv_clearCtrs hs)))

theorem formed_execPairCountersReset {dt : Nat} {rq : Req} {s : State} (hs : Inv s) : Formed (execPairCountersReset dt rq s) :=
  formed_done (inv_doExec (fun _ ht => inv_opPairReset ht) (inv_advance hs))

end Sys2Proof.Machine
end

section
/-! PROOF. Guest memory stays in its canonical form (O56): the operations of the model's Rows. -/

set_option Elab.async false

open Sys2Proof Sys2Proof.Machine

namespace Sys2Proof.Machine

theorem inv_adopt1 {r : Nat} {s : State} {a : AlignRec} (hs : Inv s) : Inv (adopt1 r s a) := inv_ite hs (inv_streamTo (inv_setStream hs))

theorem inv_alignAdopt {s : State} {r : Nat} (hs : Inv s) : Inv (alignAdopt s r) := by
  unfold alignAdopt
  split
  · exact hs
  · exact inv_ite hs (inv_ite (inv_mk hs) (inv_mk (inv_foldl (fun t a ht => inv_adopt1 ht) (inv_mk hs))))

theorem inv_alignLead {s : State} {r : Nat} (hs : Inv s) : Inv (alignLead s r) := by
  unfold alignLead
  split
  · exact inv_ite (inv_mk hs) hs
  · exact inv_ite hs (inv_sendIul (inv_mk hs))

theorem inv_nameReset {s : State} {r : Nat} (hs : Inv s) : Inv (nameReset s r) := inv_ite hs (inv_sendIul (inv_mk hs))

theorem inv_reBegin {s : State} {r p : Nat} (hs : Inv s) : Inv (reBegin s r p) :=
  inv_ite (inv_ite hs (inv_setMig (inv_ite (inv_opPartStop (inv_setStep (inv_mk hs))) (inv_setStep (inv_mk hs))))) (inv_setStep
    (inv_nameReset (inv_mk hs)))

theorem inv_importAsk {s : State} {p : Nat} (hs : Inv s) : Inv (importAsk s p) := inv_vaultPush (inv_toSt (inv_setPart hs))

theorem inv_reStep {s : State} {r p : Nat} (hs : Inv s) : Inv (reStep s r p) := by
  unfold reStep
  refine inv_ite (inv_mk hs) (inv_ite ?_ (inv_ite (inv_ite (inv_startPart (inv_setMig (inv_setStep (inv_mk hs)))) (inv_ite hs (inv_ite
    (inv_importAsk hs) (inv_ite (inv_importAsk hs) hs)))) (inv_mk hs)))
  split
  · exact inv_ite hs (inv_setStep (inv_ite (inv_mk hs) (inv_resetPart (inv_mk hs))))
  · exact inv_ite hs (inv_setStep (inv_nameReset (inv_logRec hs)))

theorem inv_importRow {s : State} {r : Nat} (hs : Inv s) : Inv (importRow s r) := by
  unfold importRow
  refine inv_foldl (fun t a ht => inv_ite ht ?_) hs
  split
  rename_i a u heq
  have hu := inv_of_snd heq (inv_ctxSize ht)
  exact inv_setStep (inv_setMig hu)

theorem inv_reentryRow {s : State} {r : Nat} {uneq : Bool} (hs : Inv s) : Inv (reentryRow s r uneq) := by
  unfold reentryRow
  refine inv_ite hs ?_
  dsimp only
  split
  · exact inv_ite (inv_ite hs (inv_importStop hs)) (inv_alignLead (inv_ite hs (inv_importStop hs)))
  · exact inv_ite (inv_ite hs (inv_importStop hs)) (inv_ite (inv_judgeIn (inv_mk (inv_mk (inv_ite hs (inv_importStop hs))))) (inv_mk
      (inv_ite hs (inv_importStop hs))))
  · refine inv_judgeIn ?_
    split
    · exact inv_reStep (inv_importRow (inv_ite hs (inv_importStop hs)))
    · split
      · exact inv_reBegin (inv_importRow (inv_ite hs (inv_importStop hs)))
      · exact inv_importRow (inv_ite hs (inv_importStop hs))
  · exact inv_ite hs (inv_importStop hs)

theorem inv_mirrorTake {s : State} {op : MirrorOp} (hs : Inv s) : Inv (mirrorTake s op) := by
  unfold mirrorTake
  split
  · exact inv_putBank hs
  · exact inv_sealApply hs
  · exact inv_ite (inv_swapApply hs) hs
  · exact inv_ite (inv_disarmApply hs) hs
  · exact hs

theorem inv_bundleStage {s : State} {n seq svn : Nat} {l : List (Nat × Val)} (hs : Inv s) : Inv (bundleStage s n seq svn l) :=
  inv_ite (inv_mk hs) (inv_ite (inv_answerLate (inv_mk hs)) (inv_answerLate (inv_mk (inv_mk (inv_foldl (fun _ _ ht => inv_stageVal ht)
    hs)))))

theorem inv_bundleTake {s : State} {m : Mirrored} {l : List (Nat × Val)} (hs : Inv s) : Inv (bundleTake s m l) :=
  inv_ite (inv_bundleStage hs) (inv_mk hs)

theorem inv_mirrorRow {s : State} {r : Nat} (hs : Inv s) : Inv (mirrorRow s r) := by
  unfold mirrorRow
  refine inv_foldl (fun t a ht => ?_) (inv_mk hs)
  split
  · exact inv_bundleTake ht
  · exact inv_mirrorTake ht

theorem inv_rowKept {s : State} {r : Nat} (hs : Inv s) : Inv (rowKept s r) := inv_mk (inv_mk (inv_ite (inv_bump hs) hs))

theorem inv_releaseRow {s : State} {r : Nat} (hs : Inv s) : Inv (releaseRow s r) := by
  unfold releaseRow
  extract_lets t _ _ u v _ w _ _ x y z _ t1 u1 v1 w1
  have ht : Inv t := inv_ite (inv_alignAdopt hs) hs
  have hu : Inv u := inv_mirrorRow ht
  have hv : Inv v := inv_releaseStreams hu
  have hw : Inv w := inv_setRow hv
  have hx : Inv x := inv_ite (inv_setRow (inv_stageOver hw)) hw
  have hy : Inv y := inv_rowKept hx
  have hz : Inv z := inv_bump hy
  have ht1 : Inv t1 := inv_mk hz
  have hu1 : Inv u1 := inv_ite hy (inv_ite (inv_uneqLeave ht1) ht1)
  have hv1 : Inv v1 := inv_reentryRow hu1
  have hw1 : Inv w1 := inv_hoRow (inv_migRow hv1)
  clear_value t u v w x y z t1 u1 v1 w1
  exact inv_condRelease (inv_osRow hw1)

theorem formed_execRowRelease {dt : Nat} {s : State} (hs : Inv s) : Formed (execRowRelease dt s) := by
  unfold execRowRelease
  dsimp only
  split
  · exact formed_done (inv_advance hs)
  · exact formed_ite (formed_done (inv_advance hs)) (formed_done (inv_releaseRow (inv_advance hs)))

end Sys2Proof.Machine
end

section
/-! PROOF. Guest memory stays in its canonical form (O56): the operations of the model's Link. -/

set_option Elab.async false

open Sys2Proof Sys2Proof.Machine

namespace Sys2Proof.Machine

theorem inv_portDown {s : State} {n : Nat} (hs : Inv s) : Inv (portDown s n) :=
  inv_ite (inv_ite (inv_laneLost hs) hs) (inv_ite hs (inv_ite (inv_ptpLinkLost (inv_judgePorts (inv_linkLost hs))) (inv_judgePorts
    (inv_linkLost hs))))

theorem formed_execLinkDown {dt port : Nat} {s : State} (hs : Inv s) : Formed (execLinkDown dt port s) :=
  formed_done (inv_portDown (inv_advance hs))

theorem formed_execLinkUp {dt port speed partner : Nat} {s : State} (hs : Inv s) : Formed (execLinkUp dt port speed partner s) :=
  formed_ite (formed_done (inv_advance hs)) (formed_done (inv_ite (inv_ptpLinkUp (inv_linkRise (inv_advance hs))) (inv_linkRise
    (inv_advance hs))))

theorem formed_execCagePowerOn {dt cage : Nat} {s : State} (hs : Inv s) : Formed (execCagePowerOn dt cage s) :=
  formed_ite (formed_done (inv_ite (inv_laneTrain (inv_setCage (inv_advance hs))) (inv_setCage (inv_advance hs)))) (formed_done
    (inv_advance hs))

theorem inv_cageOff {s : State} {n : Nat} {c : Cage} (hs : Inv s) : Inv (cageOff s n c) :=
  inv_ite (inv_laneLost (inv_setCage hs)) (inv_judgePorts (inv_setPort (inv_portDown (inv_setCage hs))))

theorem formed_execTransceiverRemove {dt cage : Nat} {s : State} (hs : Inv s) : Formed (execTransceiverRemove dt cage s) :=
  formed_ite (formed_done (inv_advance hs)) (formed_done (inv_setPort (inv_cageOff (inv_advance hs))))

theorem formed_execCageOvercurrent {dt cage : Nat} {s : State} (hs : Inv s) : Formed (execCageOvercurrent dt cage s) :=
  formed_ite (formed_done (inv_cageOff (inv_advance hs))) (formed_done (inv_advance hs))

theorem inv_opCageRestore {s : State} {n : Nat} (hs : Inv s) : Inv (opCageRestore s n).s :=
  inv_res_ite (inv_deny hs) (inv_good (inv_ite (inv_laneTrain (inv_setCage hs)) (inv_setCage hs)))

theorem formed_execCageRestore {dt : Nat} {rq : Req} {cage : Nat} {s : State} (hs : Inv s) : Formed (execCageRestore dt rq cage s) :=
  formed_done (inv_doExec (fun _ ht => inv_opCageRestore ht) (inv_advance hs))

theorem inv_putAdmin {s : State} {n : Nat} {v : Val} (hs : Inv s) : Inv (putAdmin s n v).s :=
  inv_res_ite (inv_good (inv_ite (inv_laneTrain (inv_put hs)) (inv_laneLost (inv_put hs)))) (inv_res_ite (inv_ptpLinkLost
    (inv_putPortAdmin hs)) (inv_putPortAdmin hs))

theorem inv_putMode {s : State} {n : Nat} {v : Val} (hs : Inv s) : Inv (putMode s n v).s :=
  inv_res_ite (inv_ptpLinkLost (inv_putPortMode hs)) (inv_putPortMode hs)

theorem formed_execPortAdminWrite {dt : Nat} {rq : Req} {port : Nat} {on : Bool} {s : State} (hs : Inv s) :
    Formed (execPortAdminWrite dt rq port on s) :=
  formed_done (inv_doWrite (fun _ _ _ _ _ _ ht => inv_putAdmin ht) (inv_advance hs))

theorem formed_execPortModeWrite {dt : Nat} {rq : Req} {port mode : Nat} {s : State} (hs : Inv s) :
    Formed (execPortModeWrite dt rq port mode s) :=
  formed_done (inv_doWrite (fun _ _ _ _ _ _ ht => inv_putMode ht) (inv_advance hs))

theorem inv_groupMode {s : State} {g : Nat} (hs : Inv s) : Inv (groupMode s g) :=
  inv_foldl (fun _ _ ht => inv_ptpLinkLost ht) (inv_groupApply hs)

theorem inv_laneDone {s : State} {n : Nat} (hs : Inv s) : Inv (laneDone s n) := by
  unfold laneDone
  dsimp only
  split
  · exact inv_setLane hs
  · exact inv_setLane (inv_bumpBy (inv_bump hs))

theorem formed_execTxFrameDone {dt port : Nat} {s : State} (hs : Inv s) : Formed (execTxFrameDone dt port s) := by
  unfold execTxFrameDone
  refine formed_ite (formed_done (inv_laneDone (inv_advance hs))) ?_
  split
  · exact formed_done (inv_kick (inv_advance hs))
  · exact formed_done (inv_txResume (inv_kick (inv_copyEnd (inv_bumpBy (inv_bump (inv_setPort (inv_advance hs)))))))

end Sys2Proof.Machine
end

section
/-! PROOF. Guest memory stays in its canonical form (O56): the operations of the model's Rx. -/

set_option Elab.async false

open Sys2Proof Sys2Proof.Machine

namespace Sys2Proof.Machine

theorem inv_pauseRx {s : State} {n quanta : Nat} (hs : Inv s) : Inv (pauseRx s n quanta) :=
  inv_ite (inv_bump (inv_bump hs)) (inv_ite (inv_ite (inv_pauseOff (inv_bump hs)) (inv_bump hs)) (inv_setPort (inv_bump hs)))

theorem inv_putNode {s : State} {k : Nat} {e : Node} (hs : Inv s) : Inv (putNode s k e) := inv_mk hs

theorem inv_unlearned {s : State} {g : Nat} (hs : Inv s) : Inv (unlearned s g) :=
  inv_ite (inv_bump hs) (inv_logRec (inv_mk (inv_bump hs)))

theorem inv_dupJudge {s : State} {n src q typ : Nat} (hs : Inv s) : Inv (dupJudge s n src q typ).2 := by
  unfold dupJudge
  dsimp only
  split
  · exact inv_snd_ite (inv_unlearned hs) (inv_putNode hs)
  · exact inv_snd_ite (inv_bump (inv_putNode hs)) (inv_ite (inv_bump (inv_putNode hs)) (inv_putNode hs))

theorem inv_nodeTouch {s : State} {n src : Nat} (hs : Inv s) : Inv (nodeTouch s n src) := by
  unfold nodeTouch
  split
  · exact inv_putNode hs
  · exact hs

theorem inv_nodeMeet {s : State} {n src : Nat} (hs : Inv s) : Inv (nodeMeet s n src) :=
  inv_ite hs (inv_ite (inv_unlearned hs) (inv_putNode hs))

theorem inv_superRx {s : State} {n src : Nat} (hs : Inv s) : Inv (superRx s n src) := by
  unfold superRx
  dsimp only
  split
  · exact inv_putNode (inv_bump hs)
  · exact inv_ite (inv_bump hs) (inv_putNode (inv_bump hs))

theorem inv_rxFill {s : State} {q n steer vid pcp flags len : Nat} {bytes : List Byte} {pl : List (Nat × RxPost × Nat)} (hs : Inv s) :
    Inv (rxFill s q n steer vid pcp flags len bytes pl) := by
  refine inv_ringDone (inv_setRing (inv_foldl_fst (fun p x hp => ?_) hs))
  exact inv_setRing (inv_slotWrite (inv_ite hp (inv_memWrite hp)))

theorem inv_steerTo {s : State} {n i vid pcp : Nat} {f : Sys2Proof.Frame} {rct hsr wrong : Bool} (hs : Inv s) :
    Inv (steerTo s n i vid pcp f rct hsr wrong) := by
  unfold steerTo
  refine inv_ite (inv_bump hs) ?_
  split
  · exact inv_bump hs
  · exact inv_rxFill hs

theorem inv_migTakes {s t : State} {f : Sys2Proof.Frame} (hs : Inv s) (h : migTakes s f = some t) : Inv t := by
  unfold migTakes at h
  split at h
  · cases h
  · split at h
    · cases h
      exact hs
    · split at h
      · dsimp only at h
        split at h
        · cases h
          exact inv_setPart hs
        · cases h
      · cases h

theorem inv_consume {s t : State} {n vid : Nat} {f : Sys2Proof.Frame} (hs : Inv s) (h : consume s n vid f = some t) : Inv t := by
  unfold consume at h
  dsimp only at h
  split at h
  · obtain ⟨-, h⟩ := Option.ite_none_right_eq_some.1 h
    cases h
    split
    · exact inv_svFrame hs
    · exact inv_ite (inv_bump hs) hs
  · obtain ⟨-, h⟩ := Option.ite_none_right_eq_some.1 h
    cases h
    split
    · exact inv_gooseRx hs
    · exact inv_ite (inv_bump hs) hs
  · obtain ⟨-, h⟩ := Option.ite_none_right_eq_some.1 h
    cases h
    split
    · exact inv_ptpRx hs
    · exact hs
  · obtain ⟨-, h⟩ := Option.ite_none_right_eq_some.1 h
    cases h
    split
    · exact inv_superRx hs
    · exact hs
  · obtain ⟨-, h⟩ := Option.ite_none_right_eq_some.1 h
    cases h
    split
    · exact inv_beaconRx hs
    · exact inv_bump hs
  · split at h
    · cases h
      split
      · exact inv_migRx hs
      · exact hs
    · obtain ⟨-, h⟩ := Option.ite_none_right_eq_some.1 h
      cases h
      split
      · exact inv_bump hs
      · have ht := inv_migTakes hs ‹_›
        split
        · exact inv_migRx ht
        · exact ht
  · cases h

theorem inv_ipAnswer {s : State} {n etype dst : Nat} (hs : Inv s) : Inv (ipAnswer s n etype dst) := inv_sendTo hs

theorem inv_platform {s t : State} {n : Nat} {f : Sys2Proof.Frame} (hs : Inv s) (h : platform s n f = some t) : Inv t := by
  unfold platform at h
  obtain ⟨-, h⟩ := Option.ite_none_left_eq_some.1 h
  dsimp only at h
  split at h
  · cases h
    exact inv_ite (inv_ipAnswer hs) hs
  · cases h
    exact hs
  · obtain ⟨-, h⟩ := Option.ite_none_right_eq_some.1 h
    cases h
    exact inv_ite (inv_ipAnswer hs) hs
  · cases h

theorem inv_deliver {s : State} {n : Nat} {f : Sys2Proof.Frame} {rct hsr wrong : Bool} (hs : Inv s) :
    Inv (deliver s n f rct hsr wrong) := by
  unfold deliver
  dsimp only
  split
  · exact inv_consume hs ‹_›
  · split
    · exact inv_steerTo hs
    · split
      · exact inv_platform hs ‹_›
      · exact inv_bump hs

theorem inv_prpStep {s : State} {n : Nat} {f : Sys2Proof.Frame} (hs : Inv s) : Inv (prpStep s n f) := by
  unfold prpStep
  refine inv_ite (inv_deliver hs) ?_
  split
  · refine inv_ite (inv_deliver (inv_nodeMeet (inv_ite (inv_bump hs) hs))) ?_
    split
    rename_i a t heq
    have ht := inv_of_snd heq (inv_dupJudge (inv_ite (inv_bump hs) hs))
    exact inv_ite (inv_deliver ht) ht
  · exact inv_deliver hs

theorem inv_localSteps {s : State} {n : Nat} {f : Sys2Proof.Frame} {hsr : Bool} (hs : Inv s) : Inv (localSteps s n f hsr) :=
  inv_ite (inv_bump hs) (inv_ite (inv_bump hs) (inv_ite (inv_deliver hs) (inv_prpStep hs)))

theorem inv_hsrForward {s : State} {n : Nat} {f : Sys2Proof.Frame} (hs : Inv s) : Inv (hsrForward s n f) :=
  inv_ite hs (inv_ite (inv_bump hs) (inv_sendJob (inv_bump hs)))

theorem inv_hsrStep {s : State} {n q : Nat} {f : Sys2Proof.Frame} (hs : Inv s) : Inv (hsrStep s n q f) := by
  unfold hsrStep
  extract_lets _ _ _ _ t
  have ht : Inv t := inv_ite (inv_localSteps hs) hs
  clear_value t
  refine inv_ite (inv_ite (inv_hsrForward hs) hs) (inv_ite (inv_bump hs) ?_)
  split
  rename_i a u heq
  have hu := inv_of_snd heq (inv_dupJudge ht)
  refine inv_ite hu ?_
  extract_lets v
  have hv : Inv v := inv_ite (inv_localSteps hu) hu
  clear_value v
  exact inv_ite (inv_hsrForward hv) hv

theorem inv_rxSteps {s : State} {n : Nat} {f : Sys2Proof.Frame} (hs : Inv s) : Inv (rxSteps s n f) := by
  unfold rxSteps
  refine inv_ite (inv_bump hs) (inv_ite (inv_bump hs) ?_)
  extract_lets _ t u
  have ht : Inv t := inv_bumpBy (inv_bump (inv_setPort hs))
  have hu : Inv u := inv_ite (inv_nodeTouch ht) (inv_bump ht)
  clear_value t u
  refine inv_ite (inv_ite hu ?_) ?_
  · split
    · exact inv_pauseRx hu
    · exact inv_bump hu
  · split
    · exact inv_hsrStep hu
    · exact inv_ite (inv_localSteps hu) hu

theorem formed_execRxFrame {dt port : Nat} {f : Sys2Proof.Frame} {s : State} (hs : Inv s) : Formed (execRxFrame dt port f s) :=
  formed_ite (formed_done (inv_advance hs)) (formed_done (inv_rxSteps (inv_advance hs)))

end Sys2Proof.Machine
end

section
/-! PROOF. Guest memory stays in its canonical form (O56): the operations of the model's Cross. -/

set_option Elab.async false

open Sys2Proof Sys2Proof.Machine

namespace Sys2Proof.Machine

theorem inv_withStage {s : State} {l : List (Nat × Val)} (hs : Inv s) : Inv (withStage s l) := inv_foldl (fun _ _ ht => inv_put ht) hs

end Sys2Proof.Machine
end

section
/-! PROOF. Guest memory stays in its canonical form (O56): the operations of the model's Capture. -/

set_option Elab.async false

open Sys2Proof Sys2Proof.Machine

namespace Sys2Proof.Machine

theorem formed_execConditioningComplete {dt : Nat} {s : State} (hs : Inv s) : Formed (execConditioningComplete dt s) := by
  unfold execConditioningComplete
  extract_lets t
  have ht : Inv t := inv_advance hs
  clear_value t
  split
  · exact formed_done ht
  · refine formed_ite (formed_done (inv_condStop ht)) ?_
    extract_lets u _ _ v _ w x
    have hu : Inv u := inv_condRow (inv_mk ht)
    have hv : Inv v := inv_mk hu
    have hw : Inv w := inv_ite (inv_setRow (inv_stageOver hv)) hv
    have hx : Inv x := inv_rowDone hw
    clear_value u v w x
    exact formed_done (inv_ite (inv_downAll hx) hx)

theorem formed_execFilterKat {dt array : Nat} {idle pass : Bool} {s : State} (hs : Inv s) : Formed (execFilterKat dt array idle pass s)
    := by
  unfold execFilterKat
  extract_lets t _ u v _ w x
  have ht : Inv t := inv_advance hs
  have hu : Inv u := inv_mk ht
  have hv : Inv v := inv_selfRan (inv_bump hu)
  have hw : Inv w := inv_bump hv
  have hx : Inv x := inv_arrayFail hw
  clear_value t u v w x
  exact formed_ite (formed_done ht) (formed_ite (formed_done ht) (formed_ite (formed_done (inv_bump hu)) (formed_ite (formed_done (inv_mk
    hv)) (formed_ite (formed_done (inv_ite hx (inv_condStop hx))) (formed_done (inv_mk hw))))))

theorem formed_execPickupEntry {dt ring : Nat} {s : State} (hs : Inv s) : Formed (execPickupEntry dt ring s) := by
  unfold execPickupEntry
  refine formed_ite (formed_done (inv_advance hs)) ?_
  split
  · exact formed_ite (formed_done (inv_entryDone (inv_takeEntry (inv_advance hs)))) (formed_ite (formed_done (inv_entryDone (inv_takeEntry
      (inv_advance hs)))) (formed_ite (formed_done (inv_entryDone (inv_takeEntry (inv_advance hs)))) (formed_done (inv_entryDone (inv_ite
      (inv_bump (inv_mk (inv_takeEntry (inv_advance hs)))) (inv_mk (inv_takeEntry (inv_advance hs))))))))
  · exact formed_done (inv_takeEntry (inv_advance hs))
  · exact formed_done (inv_advance hs)

theorem inv_opTrigger {s : State} {k : Nat} (hs : Inv s) : Inv (opTrigger s k).s :=
  inv_res_ite (inv_deny hs) (inv_res_ite (inv_good (inv_trigLost hs)) (inv_good (inv_setRec hs)))

theorem formed_execCaptureTrigger {dt : Nat} {rq : Req} {k : Nat} {s : State} (hs : Inv s) : Formed (execCaptureTrigger dt rq k s) :=
  formed_done (inv_doExec (fun _ ht => inv_opTrigger ht) (inv_advance hs))

theorem formed_execCaptureRearm {dt k : Nat} {s : State} (hs : Inv s) : Formed (execCaptureRearm dt k s) :=
  formed_ite (formed_done (inv_advance hs)) (formed_done (inv_judgeCap (inv_setRec (inv_mk (inv_advance hs)))))

theorem formed_execTrendRateRestore {dt : Nat} {s : State} (hs : Inv s) : Formed (execTrendRateRestore dt s) := by
  unfold execTrendRateRestore
  dsimp only
  split
  · exact formed_done (inv_advance hs)
  · exact formed_ite (formed_done (inv_advance hs)) (formed_done (inv_foldl (fun t a ht => inv_ite ht (inv_setRec ht)) (inv_mk
      (inv_advance hs))))

theorem inv_recSet {s : State} {k n : Nat} {f : CapRec → CapRec} (hs : Inv s) : Inv (recSet s k n f) := inv_setRec hs

theorem inv_opProtect {s : State} {k n : Nat} (hs : Inv s) : Inv (opProtect s k n).s :=
  inv_res_ite (inv_deny hs) (inv_good (inv_recSet hs))

theorem formed_execRecordProtect {dt : Nat} {rq : Req} {k number : Nat} {s : State} (hs : Inv s) :
    Formed (execRecordProtect dt rq k number s) :=
  formed_done (inv_doExec (fun _ ht => inv_opProtect ht) (inv_advance hs))

theorem inv_recRelease {s : State} {k n : Nat} (hs : Inv s) : Inv (recRelease s k n) := inv_judgeCap (inv_setRec hs)

theorem inv_opRelease {s : State} {k n : Nat} (hs : Inv s) : Inv (opRelease s k n).s := by
  unfold opRelease
  split
  · exact inv_deny hs
  · exact inv_res_ite (inv_deny hs) (inv_good (inv_recRelease hs))

theorem formed_execRecordRelease {dt : Nat} {rq : Req} {k number : Nat} {s : State} (hs : Inv s) :
    Formed (execRecordRelease dt rq k number s) :=
  formed_done (inv_doExec (fun _ ht => inv_opRelease ht) (inv_advance hs))

theorem inv_opExport {s : State} {rq : Req} {k n : Nat} {t0 t1 : Int} (hs : Inv s) : Inv (opExport s rq k n t0 t1).s :=
  inv_res_ite (inv_deny hs) (inv_res_ite (inv_res_ite (inv_deny hs) (inv_res_ite (inv_deny hs) (inv_mk hs))) (inv_res_ite (inv_deny hs)
    (inv_res_ite (inv_deny hs) (inv_mk (inv_recSet hs)))))

theorem formed_execCaptureExport {dt : Nat} {rq : Req} {k number : Nat} {t0 t1 : Int} {s : State} (hs : Inv s) :
    Formed (execCaptureExport dt rq k number t0 t1 s) :=
  formed_done (inv_doExec (fun _ ht => inv_opExport ht) (inv_advance hs))

theorem formed_execCaptureExportDone {dt : Nat} {s : State} (hs : Inv s) : Formed (execCaptureExportDone dt s) := by
  unfold execCaptureExportDone
  dsimp only
  split
  · exact formed_done (inv_advance hs)
  · exact formed_ite (formed_done (inv_advance hs)) (formed_done (inv_execEnd (inv_logRec (inv_recSet (inv_mk (inv_advance hs))))))

theorem inv_opCaptureReset {s : State} (hs : Inv s) : Inv (opCaptureReset s).s := inv_good (inv_clearCtrs hs)

theorem formed_execCaptureCountersReset {dt : Nat} {rq : Req} {s : State} (hs : Inv s) : Formed (execCaptureCountersReset dt rq s) :=
  formed_done (inv_doExec (fun _ ht => inv_opCaptureReset ht) (inv_advance hs))

theorem inv_capStop {s : State} (hs : Inv s) : Inv (capStop s) := inv_foldl (fun _ _ ht => inv_setRec (inv_ite (inv_recEnd ht) ht)) hs

theorem inv_capCommit {o s : State} (hs : Inv s) : Inv (capCommit o s) :=
  inv_judgeCap (inv_foldl (fun _ _ ht => inv_ite (inv_mk ht) (inv_setRec (inv_ite (inv_recEnd ht) ht))) hs)

end Sys2Proof.Machine
end

section
/-! PROOF. Guest memory stays in its canonical form (O56): the operations of the model's Rtc. -/

set_option Elab.async false

open Sys2Proof Sys2Proof.Machine

namespace Sys2Proof.Machine

theorem inv_setRtc {s : State} {r : Rtc} (hs : Inv s) : Inv (setRtc s r) := inv_mk hs

theorem inv_alarmFire {s : State} {skip : Bool} (hs : Inv s) : Inv (alarmFire s skip) :=
  inv_ite (inv_setRtc hs) (inv_logRec (inv_setRtc hs))

theorem inv_alarmJudge {s : State} {old : Cal} {skip : Bool} (hs : Inv s) : Inv (alarmJudge s old skip) := by
  unfold alarmJudge
  split
  · exact hs
  · exact inv_ite (inv_alarmFire hs) hs

theorem inv_setOsf {s : State} (hs : Inv s) : Inv (setOsf s) := inv_ite (inv_setRtc hs) (inv_logRec (inv_setRtc hs))

theorem inv_calApply {s : State} {c : Cal} (hs : Inv s) : Inv (calApply s c) := inv_alarmJudge (inv_logRec (inv_setRtc hs))

theorem inv_calNow {s : State} {c : Cal} (hs : Inv s) : Inv (calNow s c) := inv_calApply (inv_setRtc hs)

theorem inv_calCommit {s : State} {immediate : Bool} (hs : Inv s) : Inv (calCommit s immediate) :=
  inv_ite hs (inv_ite (inv_calNow hs) (inv_setRtc hs))

theorem inv_alarmSet {s : State} {c : Cal} (hs : Inv s) : Inv (alarmSet s c) := inv_setRtc hs

theorem inv_rtcCmd {s : State} {w : Nat} (hs : Inv s) : Inv (rtcCmd s w) :=
  inv_ite (inv_alarmSet (inv_ite (inv_calCommit hs) hs)) (inv_ite (inv_calCommit hs) hs)

theorem inv_rtcWrite {s : State} {off : Nat} {w : Word} (hs : Inv s) : Inv (rtcWrite s off w) := by
  unfold rtcWrite
  refine inv_ite hs ?_
  split
  · exact inv_setRtc hs
  · exact inv_setRtc hs
  · exact inv_setRtc hs
  · exact inv_rtcCmd hs
  · exact inv_setRtc hs
  · exact inv_setRtc hs
  · exact inv_setRtc hs
  · exact hs

theorem formed_execRtcCommit {dt : Nat} {s : State} (hs : Inv s) : Formed (execRtcCommit dt s) :=
  formed_done (inv_rtcWrite (inv_advance hs))

theorem formed_execRtcCommitImmediate {dt : Nat} {s : State} (hs : Inv s) : Formed (execRtcCommitImmediate dt s) :=
  formed_done (inv_rtcWrite (inv_advance hs))

theorem formed_execAlarmArm {dt : Nat} {s : State} (hs : Inv s) : Formed (execAlarmArm dt s) :=
  formed_done (inv_rtcWrite (inv_advance hs))

theorem formed_execRegisterWrite {dt : Nat} {space : RegSpace} {p core offset : Nat} {w : Word} {s : State} (hs : Inv s) :
    Formed (execRegisterWrite dt space p core offset w s) := by
  unfold execRegisterWrite
  dsimp only
  split
  · exact formed_done (inv_winWrite (inv_advance hs))
  · exact formed_done (inv_rtcWrite (inv_advance hs))

theorem inv_leapStage {s : State} (hs : Inv s) : Inv (leapStage s) := inv_ite hs (inv_setRtc hs)

theorem formed_execRtcSecondBoundary {dt : Nat} {s : State} (hs : Inv s) : Formed (execRtcSecondBoundary dt s) := by
  unfold execRtcSecondBoundary
  extract_lets t _ u _ v
  have ht : Inv t := inv_advance hs
  have hu : Inv u := inv_setRtc ht
  have hv : Inv v := inv_mk hu
  clear_value t u v
  refine formed_ite (formed_done ht) ?_
  split
  · exact formed_done (inv_calApply (inv_setRtc hv))
  · split
    · extract_lets w x
      have hw : Inv w := inv_setRtc hv
      have hx : Inv x := inv_ite (inv_setOsf hw) hw
      clear_value w x
      exact formed_done (inv_leapStage (inv_alarmJudge hx))

theorem inv_opRtcSet {s : State} {c : Cal} {immediate : Bool} (hs : Inv s) : Inv (opRtcSet s c immediate).s :=
  inv_res_ite (inv_deny hs) (inv_res_ite (inv_deny hs) (inv_res_ite (inv_deny hs) (inv_good (inv_calCommit (inv_setRtc hs)))))

theorem formed_execRtcSet {dt : Nat} {rq : Req} {year month day hour min sec wday : Nat} {immediate : Bool} {s : State} (hs : Inv s) :
    Formed (execRtcSet dt rq year month day hour min sec wday immediate s) :=
  formed_done (inv_doExec (fun _ ht => inv_opRtcSet ht) (inv_advance hs))

theorem inv_opOsfClear {s : State} (hs : Inv s) : Inv (opOsfClear s).s := inv_res_ite (inv_deny hs) (inv_good (inv_setRtc hs))

theorem formed_execRtcOsfClear {dt : Nat} {rq : Req} {s : State} (hs : Inv s) : Formed (execRtcOsfClear dt rq s) :=
  formed_done (inv_doExec (fun _ ht => inv_opOsfClear ht) (inv_advance hs))

theorem inv_opAlarmAck {s : State} (hs : Inv s) : Inv (opAlarmAck s).s := inv_good (inv_setRtc hs)

theorem formed_execRtcAlarmAck {dt : Nat} {rq : Req} {s : State} (hs : Inv s) : Formed (execRtcAlarmAck dt rq s) :=
  formed_done (inv_doExec (fun _ ht => inv_opAlarmAck ht) (inv_advance hs))

theorem inv_putTrim {s : State} {v : Val} (hs : Inv s) : Inv (putTrim s v).s := inv_good (inv_setRtc hs)

theorem inv_putAlarm {s : State} {v : Val} (hs : Inv s) : Inv (putAlarm s v).s :=
  inv_good (inv_ite (inv_alarmSet (inv_setRtc hs)) (inv_setRtc (inv_setRtc hs)))

theorem inv_putTrickle {s : State} {v : Val} (hs : Inv s) : Inv (putTrickle s v).s := inv_res_ite (inv_deny hs) (inv_good (inv_put hs))

theorem formed_execRtcLatchRead {dt offset : Nat} {s : State} (hs : Inv s) : Formed (execRtcLatchRead dt offset s) :=
  formed_ite (formed_done (inv_advance hs)) (formed_done (inv_setRtc (inv_advance hs)))

theorem formed_execRtcLatchExpiry {dt : Nat} {s : State} (hs : Inv s) : Formed (execRtcLatchExpiry dt s) :=
  formed_ite (formed_done (inv_setRtc (inv_advance hs))) (formed_done (inv_advance hs))

theorem formed_execRtcTrimWindow {dt : Nat} {s : State} (hs : Inv s) : Formed (execRtcTrimWindow dt s) :=
  formed_ite (formed_done (inv_advance hs)) (formed_done (inv_setRtc (inv_advance hs)))

theorem inv_discWrite {s : State} (hs : Inv s) : Inv (discWrite s) := inv_calNow hs

theorem formed_execRtcDiscipline {dt : Nat} {off : Int} {s : State} (hs : Inv s) : Formed (execRtcDiscipline dt off s) :=
  formed_ite (formed_done (inv_advance hs)) (formed_done (inv_logRec (inv_setRtc (inv_ite (inv_discWrite (inv_advance hs)) (inv_advance
    hs)))))

theorem formed_execVaultLockout {dt : Nat} {s : State} (hs : Inv s) : Formed (execVaultLockout dt s) :=
  formed_done (inv_setRtc (inv_advance hs))

theorem formed_execVbakSwitch {dt : Nat} {toBackup : Bool} {s : State} (hs : Inv s) : Formed (execVbakSwitch dt toBackup s) :=
  formed_ite (formed_ite (formed_done (inv_advance hs)) (formed_done (inv_ite (inv_bump (inv_setRtc (inv_advance hs))) (inv_setRtc
    (inv_advance hs))))) (formed_ite (formed_done (inv_advance hs)) (formed_done (inv_setRtc (inv_advance hs))))

theorem inv_rtcLogStart {s : State} (hs : Inv s) : Inv (rtcLogStart s) := by
  unfold rtcLogStart
  extract_lets _ t u v
  have ht : Inv t := inv_setRtc hs
  have hu : Inv u := by
    unfold u
    split
    · exact inv_logRec ht
    · exact ht
  have hv : Inv v := inv_ite (inv_logRec hu) hu
  clear_value t u v
  split
  · exact inv_logRec hv
  · exact hv

theorem inv_oscStop {s : State} (hs : Inv s) : Inv (oscStop s) := inv_ite hs (inv_setOsf (inv_setRtc hs))

theorem formed_execCrystalRestart {dt : Nat} {s : State} (hs : Inv s) : Formed (execCrystalRestart dt s) :=
  formed_ite (formed_done (inv_advance hs)) (formed_done (inv_setRtc (inv_advance hs)))

theorem inv_rtcLost {s : State} (hs : Inv s) : Inv (rtcLost s) := inv_setRtc hs

end Sys2Proof.Machine
end

section
/-! PROOF. Guest memory stays in its canonical form (O56): the operations of the model's Logbook. -/

set_option Elab.async false

open Sys2Proof Sys2Proof.Machine

namespace Sys2Proof.Machine

theorem inv_setCode {s : State} {c : Nat} {x : LogCode} (hs : Inv s) : Inv (setCode s c x) := inv_mk hs

theorem inv_judgeLog {s : State} (hs : Inv s) : Inv (judgeLog s) := inv_judgeUnit hs

theorem inv_logCap {s : State} (hs : Inv s) : Inv (logCap s) := by
  unfold logCap
  refine inv_ite hs ?_
  split
  · exact inv_mk hs
  · exact hs

theorem inv_logSpace {s : State} (hs : Inv s) : Inv (logSpace s) := by
  unfold logSpace
  refine inv_ite hs ?_
  split
  · exact inv_bump (inv_mk hs)
  · exact hs

theorem inv_logWrite {s : State} {code src : Nat} {data : List Int} (hs : Inv s) : Inv (logWrite s code src data) := by
  unfold logWrite
  extract_lets _ t u
  have ht : Inv t := inv_ite (inv_logCap hs) hs
  have hu : Inv u := inv_logSpace ht
  clear_value t u
  split
  exact inv_mk hu

theorem inv_logSupp {s : State} {code src : Nat} (hs : Inv s) : Inv (logSupp s code src) := inv_bump (inv_setCode hs)

theorem inv_logSuppRec {s : State} {code : Nat} (hs : Inv s) : Inv (logSuppRec s code) := inv_ite hs (inv_logWrite (inv_setCode hs))

theorem inv_logRefill {s : State} {code : Nat} (hs : Inv s) : Inv (logRefill s code) := inv_ite hs (inv_logSuppRec (inv_setCode hs))

theorem inv_logSuppDue {s : State} (hs : Inv s) : Inv (logSuppDue s) := inv_foldl (fun _ _ ht => inv_logSuppRec ht) hs

theorem inv_logIntake {s : State} {code src : Nat} {data : List Int} (hs : Inv s) : Inv (logIntake s code src data).2 :=
  inv_snd_ite (inv_bump (inv_logRefill hs)) (inv_snd_ite (inv_logSupp (inv_bump (inv_logRefill hs))) (inv_snd_ite (inv_logWrite
    (inv_logRefill hs)) (inv_snd_ite (inv_logSupp (inv_logRefill hs)) (inv_logWrite (inv_setCode (inv_logRefill hs))))))

theorem inv_logDrain {n : Nat} {s : State} (hs : Inv s) : Inv (logDrain n s) := by
  induction n generalizing s with
  | zero => exact hs
  | succ n ih =>
    unfold logDrain
    split
    · exact hs
    · exact ih (inv_logIntake (inv_mk hs))

theorem inv_mirrorPut {s : State} {n : Nat} (hs : Inv s) : Inv (mirrorPut s n) := inv_mk hs

theorem formed_execLogRecordIntake {dt : Nat} {s : State} (hs : Inv s) : Formed (execLogRecordIntake dt s) := by
  unfold execLogRecordIntake
  dsimp only
  split
  · exact formed_done (inv_advance hs)
  · exact formed_ite (formed_done (inv_advance hs)) (formed_ite (formed_done (inv_mk (inv_advance hs))) (formed_done (inv_logIntake
      (inv_mk (inv_advance hs)))))

theorem formed_execLogMirrorWrite {dt : Nat} {s : State} (hs : Inv s) : Formed (execLogMirrorWrite dt s) := by
  unfold execLogMirrorWrite
  dsimp only
  split
  · exact formed_done (inv_advance hs)
  · exact formed_ite (formed_done (inv_judgeLog (inv_advance hs))) (formed_done (inv_judgeLog (inv_logSuppDue (inv_mirrorPut (inv_mk
      (inv_advance hs))))))

theorem formed_execLogTokenReturn {dt code : Nat} {s : State} (hs : Inv s) : Formed (execLogTokenReturn dt code s) :=
  formed_ite (formed_done (inv_advance hs)) (formed_done (inv_logRefill (inv_advance hs)))

theorem inv_putCodeRate {s : State} {c : Nat} {v : Val} (hs : Inv s) : Inv (putCodeRate s c v).s := inv_good (inv_setCode (inv_put hs))

theorem inv_logClear {s : State} {src sess role : Nat} (hs : Inv s) : Inv (logClear s src sess role).2 :=
  inv_logSuppDue (inv_logIntake (inv_mk hs))

theorem inv_opLogClear {s : State} {n : Nat} (hs : Inv s) : Inv (opLogClear s n).s := by
  unfold opLogClear
  split
  · exact inv_deny hs
  · split
    rename_i a t heq
    have ht := inv_of_snd heq (inv_logClear hs)
    exact ht

theorem formed_execLogClear {dt : Nat} {rq : Req} {s : State} (hs : Inv s) : Formed (execLogClear dt rq s) :=
  formed_done (inv_doExec (fun _ ht => inv_opLogClear ht) (inv_advance hs))

theorem inv_opLogReset {s : State} (hs : Inv s) : Inv (opLogReset s).s := inv_good (inv_clearCtrs hs)

theorem formed_execLogCountersReset {dt : Nat} {rq : Req} {s : State} (hs : Inv s) : Formed (execLogCountersReset dt rq s) :=
  formed_done (inv_doExec (fun _ ht => inv_opLogReset ht) (inv_advance hs))

theorem inv_answerPut {s : State} {ep p code : Nat} {ws : List Nat} (hs : Inv s) : Inv (answerPut s ep p code ws) := by
  unfold answerPut
  split
  · exact hs
  · exact inv_ite hs (inv_ite (inv_setChan hs) (inv_chanPut hs))

theorem inv_serveMsg {s t : State} {ep c p : Nat} {codes : List Nat} {m : Msg} (hs : Inv s)
    (h : serveMsg s ep c codes = some (p, m, t)) : Inv t := by
  unfold serveMsg at h
  dsimp only at h
  obtain ⟨-, h⟩ := Option.ite_none_left_eq_some.1 h
  split at h
  · cases h
  · obtain ⟨-, h⟩ := Option.ite_none_right_eq_some.1 h
    cases h
    exact inv_chanTake hs

theorem formed_execLogWriteMsg {dt chan : Nat} {s : State} (hs : Inv s) : Formed (execLogWriteMsg dt chan s) := by
  unfold execLogWriteMsg
  dsimp only
  split
  · exact formed_done (inv_advance hs)
  · have ht := inv_serveMsg (inv_advance hs) ‹_›
    exact formed_ite (formed_done (inv_answerPut ht)) (formed_done (inv_answerPut (inv_logIntake ht)))

theorem formed_execLogReadMsg {dt chan : Nat} {s : State} (hs : Inv s) : Formed (execLogReadMsg dt chan s) := by
  fun_cases execLogReadMsg dt chan s with
  | case1 => exact formed_done (inv_advance hs)
  | case2 a p m t h => exact formed_done (inv_answerPut (inv_serveMsg (inv_advance hs) h))
  | case3 a p m t h => exact formed_done (inv_answerPut (inv_serveMsg (inv_advance hs) h))

theorem formed_execLogClearMsg {dt chan : Nat} {s : State} (hs : Inv s) : Formed (execLogClearMsg dt chan s) := by
  unfold execLogClearMsg
  dsimp only
  split
  · exact formed_done (inv_advance hs)
  · exact formed_done (inv_answerPut (inv_logClear (inv_serveMsg (inv_advance hs) ‹_›)))

theorem inv_mirrorCut {s : State} (hs : Inv s) : Inv (mirrorCut s) := by
  unfold mirrorCut
  split
  · exact hs
  · split
    rename_i a t heq
    have ht := inv_of_snd heq (inv_fresh hs)
    exact inv_ite ht (inv_ite (inv_mirrorPut ht) (inv_bump (inv_mk (inv_mirrorPut ht))))

theorem inv_logStart {s : State} (hs : Inv s) : Inv (logStart s) := inv_mk (inv_mirrorCut hs)

end Sys2Proof.Machine
end

section
/-! PROOF. Guest memory stays in its canonical form (O56): the operations of the model's Vault. -/

set_option Elab.async false

open Sys2Proof Sys2Proof.Machine

namespace Sys2Proof.Machine

theorem inv_putAnchor {s : State} {a : Nat} {v : Val} (hs : Inv s) : Inv (putAnchor s a v).s :=
  inv_res_ite (inv_deny hs) (inv_good (inv_put hs))

theorem inv_anchorsStart {s : State} (hs : Inv s) : Inv (anchorsStart s) := inv_mk hs

theorem inv_setTKey {s : State} {i : Nat} {x : TKey} (hs : Inv s) : Inv (setTKey s i x) := inv_mk hs

theorem inv_deriveAsk {s : State} {i : Nat} (hs : Inv s) : Inv (deriveAsk s i) := inv_ite hs (inv_ite hs (inv_vaultPush (inv_setTKey hs)))

theorem inv_deriveDrop {s : State} {i : Nat} (hs : Inv s) : Inv (deriveDrop s i) := inv_vaultKick (inv_mk hs)

theorem inv_deriveNew {s : State} {i : Nat} (hs : Inv s) : Inv (deriveNew s i) := inv_deriveAsk (inv_setTKey (inv_deriveDrop hs))

theorem inv_deriveAll {s : State} (hs : Inv s) : Inv (deriveAll s) := inv_foldl (fun _ _ ht => inv_deriveAsk ht) (inv_mk hs)

theorem inv_opKeyWrite {s : State} {rq : Req} {slot wrap kcv : Nat} {a : KeyAttr} {key : List Byte} (hs : Inv s) :
    Inv (opKeyWrite s rq slot wrap kcv a key).s :=
  inv_res_ite (inv_deny hs) (inv_res_ite (inv_deny hs) (inv_res_ite (inv_deny hs) (inv_vaultPush hs)))

theorem formed_execKeyWrite {dt : Nat} {rq : Req} {slot kind use world masters life wrapSlot kcv : Nat} {key : List Byte} {s : State}
    (hs : Inv s) : Formed (execKeyWrite dt rq slot kind use world masters life wrapSlot kcv key s) :=
  formed_done (inv_doExec (fun _ ht => inv_opKeyWrite ht) (inv_advance hs))

theorem inv_keyWritten {s : State} {n seq slot kcv : Nat} {a : KeyAttr} {key : Option (List Byte)} (hs : Inv s) :
    Inv (keyWritten s n seq slot kcv a key) := by
  unfold keyWritten
  dsimp only
  split
  · exact inv_answerLate hs
  · exact inv_ite (inv_answerLate hs) (inv_ite (inv_answerLate hs) (inv_ite hs (inv_answerLate (inv_mk hs))))

theorem inv_opKeyCommit {s : State} {n slot : Nat} (hs : Inv s) : Inv (opKeyCommit s n slot).s := by
  unfold opKeyCommit
  split
  · exact inv_deny hs
  · exact inv_res_ite (inv_deny hs) (inv_good (inv_judgeKeys (inv_judgeVault (inv_foldl (fun t a ht => inv_deriveAsk ht) (inv_logRec
      (inv_setSlot (inv_mk hs)))))))

theorem formed_execKeyCommit {dt : Nat} {rq : Req} {slot : Nat} {s : State} (hs : Inv s) : Formed (execKeyCommit dt rq slot s) :=
  formed_done (inv_doExec (fun _ ht => inv_opKeyCommit ht) (inv_advance hs))

theorem inv_opKeyDiscard {s : State} (hs : Inv s) : Inv (opKeyDiscard s).s := inv_good (inv_mk hs)

theorem formed_execKeyDiscard {dt : Nat} {rq : Req} {s : State} (hs : Inv s) : Formed (execKeyDiscard dt rq s) :=
  formed_done (inv_doExec (fun _ ht => inv_opKeyDiscard ht) (inv_advance hs))

theorem inv_opKeyInvalidate {s : State} {k : Nat} (hs : Inv s) : Inv (opKeyInvalidate s k).s :=
  inv_good (inv_judgeKeys (inv_logRec (inv_slotTo hs)))

theorem formed_execKeyInvalidate {dt : Nat} {rq : Req} {slot : Nat} {s : State} (hs : Inv s) : Formed (execKeyInvalidate dt rq slot s) :=
  formed_done (inv_doExec (fun _ ht => inv_opKeyInvalidate ht) (inv_advance hs))

theorem inv_opKeyErase {s : State} {k : Nat} (hs : Inv s) : Inv (opKeyErase s k).s :=
  inv_good (inv_judgeKeys (inv_judgeVault (inv_logRec (inv_setSlot hs))))

theorem formed_execKeyErase {dt : Nat} {rq : Req} {slot : Nat} {s : State} (hs : Inv s) : Formed (execKeyErase dt rq slot s) :=
  formed_done (inv_doExec (fun _ ht => inv_opKeyErase ht) (inv_advance hs))

theorem formed_execKeySlotIntegrityCheck {dt : Nat} {bad : List Nat} {s : State} (hs : Inv s) :
    Formed (execKeySlotIntegrityCheck dt bad s) :=
  formed_ite (formed_done (inv_advance hs)) (formed_done (inv_selfBit (inv_selfRan (inv_foldl (fun _ _ ht => inv_slotBad ht) (inv_advance
    hs)))))

theorem inv_macAnswer {s : State} {p : Nat} {verify : Bool} {st : Nat} {ws : List Nat} (hs : Inv s) : Inv (macAnswer s p verify st ws) :=
  inv_answerPut hs

theorem formed_execVaultMacRequest {dt chan : Nat} {s : State} (hs : Inv s) : Formed (execVaultMacRequest dt chan s) := by
  fun_cases execVaultMacRequest dt chan s with
  | case1 => exact formed_done (inv_advance hs)
  | case2 a p m t h => exact formed_done (inv_macAnswer (inv_serveMsg (inv_advance hs) h))
  | case3 a p m t h => exact formed_done (inv_macAnswer (inv_serveMsg (inv_advance hs) h))
  | case4 a p m t h => exact formed_done (inv_vaultPush (inv_serveMsg (inv_advance hs) h))

theorem inv_opBundleApply {s : State} {rq : Req} (hs : Inv s) : Inv (opBundleApply s rq).s :=
  inv_res_ite (inv_deny hs) (inv_res_ite (inv_deny hs) (inv_vaultPush (inv_mk hs)))

theorem formed_execBundleApply {dt : Nat} {rq : Req} {s : State} (hs : Inv s) : Formed (execBundleApply dt rq s) :=
  formed_done (inv_doExec (fun _ ht => inv_opBundleApply ht) (inv_advance hs))

theorem inv_bundleJudged {s : State} {n seq : Nat} {f : VaultFacts} (hs : Inv s) : Inv (bundleJudged s n seq f) := by
  unfold bundleJudged
  extract_lets
  split
  rename_i a t heq
  have ht := inv_of_snd heq (inv_verifyObj (inv_bulkEnd (inv_mk hs)))
  refine inv_ite (inv_answerLate ht) ?_
  extract_lets _ u
  have hu : Inv u := inv_ite (inv_mk ht) ht
  clear_value u
  split
  · exact inv_answerLate hu
  · exact inv_ite (inv_bundleStage hu) (inv_ite (inv_answerLate hu) (inv_mirrorSend (inv_mk hu)))

theorem inv_bundleMirrored {s : State} {mid : Nat} {f : VaultFacts} (hs : Inv s) : Inv (bundleMirrored s mid f) := by
  unfold bundleMirrored
  split
  · exact hs
  · extract_lets
    split
    rename_i a t heq
    have ht := inv_of_snd heq (inv_verifyObj (inv_mk hs))
    refine inv_ite (inv_sendIul ht) ?_
    extract_lets _ u
    have hu : Inv u := inv_ite (inv_mk ht) ht
    clear_value u
    split
    · exact inv_sendIul hu
    · exact inv_ite (inv_sendIul (inv_mirrorWait hu)) (inv_sendIul hu)
    · exact inv_sendIul hu

theorem inv_opAttest {s : State} {rq : Req} {nonce : List Byte} (hs : Inv s) : Inv (opAttest s rq nonce).s :=
  inv_res_ite (inv_deny hs) (inv_res_ite (inv_deny hs) (inv_vaultPush (inv_logRec (inv_mk hs))))

theorem formed_execAttest {dt : Nat} {rq : Req} {nonce : List Byte} {s : State} (hs : Inv s) : Formed (execAttest dt rq nonce s) :=
  formed_done (inv_doExec (fun _ ht => inv_opAttest ht) (inv_advance hs))

theorem inv_opAbort {s : State} {op : VOp} {st : Nat} (hs : Inv s) : Inv (opAbort s op st) := by
  unfold opAbort
  split
  · exact inv_hoEnd hs
  · exact inv_hoJudge hs
  · exact inv_setTKey hs
  · exact inv_macAnswer hs
  · exact inv_execEnd hs
  · exact inv_answerLate (inv_mk hs)
  · exact inv_sendIul (inv_mk hs)
  · exact inv_answerLate hs
  · exact inv_mk hs
  · exact inv_migAgreed hs
  · exact inv_execEnd (inv_mk hs)

theorem inv_opEnd {s : State} {r : VReq} {f : VaultFacts} (hs : Inv s) : Inv (opEnd s r f) := by
  unfold opEnd
  split
  · split
    · exact hs
    · exact inv_ite (inv_hoSend hs) (inv_hoEnd hs)
  · exact inv_hoJudge hs
  · exact hs
  · exact inv_ite (inv_macAnswer hs) (inv_ite (inv_macAnswer hs) (inv_macAnswer hs))
  · exact inv_imageJudged hs
  · exact inv_bundleJudged hs
  · exact inv_bundleMirrored hs
  · exact inv_keyWritten hs
  · split
    · exact inv_mk hs
    · exact hs
  · exact inv_migAgreed hs
  · exact inv_execEnd (inv_mk hs)

theorem formed_execVaultOpComplete {dt : Nat} {facts : VaultFacts} {s : State} (hs : Inv s) : Formed (execVaultOpComplete dt facts s) := by
  unfold execVaultOpComplete
  dsimp only
  split
  · exact formed_done (inv_advance hs)
  · exact formed_ite (formed_done (inv_advance hs)) (formed_done (inv_vaultKick (inv_ite (inv_opAbort (inv_mk (inv_advance hs)))
      (inv_opEnd (inv_mk (inv_advance hs))))))

theorem formed_execVaultSegmentEnd {dt : Nat} {s : State} (hs : Inv s) : Formed (execVaultSegmentEnd dt s) :=
  formed_done (inv_vaultYield (inv_advance hs))

theorem formed_execTrafficKeyDerived {dt idx : Nat} {s : State} (hs : Inv s) : Formed (execTrafficKeyDerived dt idx s) := by
  unfold execTrafficKeyDerived
  extract_lets t _ u
  have ht : Inv t := inv_advance hs
  have hu : Inv u := inv_mk ht
  clear_value t u
  split
  · exact formed_done ht
  · refine formed_ite (formed_done ht) ?_
    split
    · exact formed_done (inv_vaultKick (inv_judgeKeys (inv_setTKey hu)))
    · exact formed_done (inv_vaultKick (inv_ite hu (inv_setTKey hu)))

theorem inv_opFwSvnConfirm {s : State} (hs : Inv s) : Inv (opFwSvnConfirm s).s := inv_res_ite (inv_deny hs) (inv_good (inv_mk hs))

theorem formed_execFwSvnConfirm {dt : Nat} {rq : Req} {s : State} (hs : Inv s) : Formed (execFwSvnConfirm dt rq s) :=
  formed_done (inv_doExec (fun _ ht => inv_opFwSvnConfirm ht) (inv_advance hs))

theorem inv_opImageSvnConfirm {s : State} {p : Nat} (hs : Inv s) : Inv (opImageSvnConfirm s p).s :=
  inv_res_ite (inv_deny hs) (inv_good (inv_setPart hs))

theorem formed_execImageSvnConfirm {dt : Nat} {rq : Req} {p : Nat} {s : State} (hs : Inv s) : Formed (execImageSvnConfirm dt rq p s) :=
  formed_done (inv_doExec (fun _ ht => inv_opImageSvnConfirm ht) (inv_advance hs))

theorem inv_opClaimRearm {s : State} {d : Nat} (hs : Inv s) : Inv (opClaimRearm s d).s :=
  inv_res_ite (inv_deny hs) (inv_good (inv_judgeHolder (inv_setClaim (inv_hoEnd hs))))

theorem formed_execClaimRearm {dt : Nat} {rq : Req} {d : Nat} {s : State} (hs : Inv s) : Formed (execClaimRearm dt rq d s) :=
  formed_done (inv_doExec (fun _ ht => inv_opClaimRearm ht) (inv_advance hs))

end Sys2Proof.Machine
end

section
/-! PROOF. Guest memory stays in its canonical form (O56): the operations of the model's Stage. -/

set_option Elab.async false

open Sys2Proof Sys2Proof.Machine

namespace Sys2Proof.Machine

theorem inv_commitTake {s : State} {l : List (Nat × Val)} {own : Bool} {row : Nat} (hs : Inv s) : Inv (commitTake s l own row) :=
  inv_mk hs

theorem inv_mirrored {s : State} {n seq idx check : Nat} {op : MirrorOp} {apply : State → State} (happly : ∀ u, Inv u → Inv (apply u))
    (hs : Inv s) : Inv (mirrored s n seq idx check op apply).s :=
  inv_res_ite hs (inv_res_ite (happly s hs) (inv_res_ite hs (inv_mirrorSend hs)))

theorem inv_pairedWrite {s : State} {n seq idx check : Nat} {op : MirrorOp} {apply : State → State} (happly : ∀ u, Inv u → Inv (apply u))
    (hs : Inv s) : Inv (pairedWrite s n seq idx check op apply).s :=
  inv_res_ite hs (inv_mirrored happly hs)

theorem inv_opStageCommit {s : State} {rq : Req} (hs : Inv s) : Inv (opStageCommit s rq).s := by
  unfold opStageCommit
  refine inv_res_ite (inv_deny hs) (inv_res_ite (inv_deny hs) (inv_res_ite (inv_deny hs) ?_))
  split
  · exact hs
  · exact inv_res_ite (inv_mirrorSend (inv_mk (inv_mk hs))) (inv_commitTake (inv_mk hs))

theorem formed_execStageCommit {dt : Nat} {rq : Req} {s : State} (hs : Inv s) : Formed (execStageCommit dt rq s) :=
  formed_done (inv_doExec (fun _ ht => inv_opStageCommit ht) (inv_advance hs))

theorem inv_planCommit {o s : State} {l : List (Nat × Val)} {row : Nat} (hs : Inv s) : Inv (planCommit o s l row) :=
  inv_judgeIngest (inv_mk (inv_ite hs (inv_mk hs)))

theorem inv_pipeCommit {o s : State} {l : List (Nat × Val)} {row : Nat} (hs : Inv s) : Inv (pipeCommit o s l row) :=
  inv_ite hs (inv_mk (inv_foldl (fun _ _ ht => inv_setOs ht) hs))

theorem inv_gooseCommit {o s : State} {l : List (Nat × Val)} (hs : Inv s) : Inv (gooseCommit o s l) :=
  inv_mk (inv_foldl (fun _ _ ht => inv_gsCommit ht) (inv_foldl (fun _ _ ht => inv_ite ht (inv_gbStop ht)) hs))

theorem inv_partReturn {s : State} {p : Nat} (hs : Inv s) : Inv (partReturn s p) :=
  inv_mk (inv_foldl (fun _ _ ht => inv_put ht) (inv_foldl (fun _ _ ht => inv_ite (inv_gbStop (inv_put ht)) ht) (inv_foldl (fun _ _ ht =>
    inv_ite (inv_mk (inv_put ht)) ht) hs)))

theorem inv_partsCommit {s : State} {l : List (Nat × Val)} (hs : Inv s) : Inv (partsCommit s l) :=
  inv_diesGate (inv_foldl (fun _ _ ht => inv_ite (inv_setPart (inv_diesUp (inv_setPf ht))) (inv_ite (inv_setPart (inv_partReturn
    (inv_fenceStart ht))) (inv_ite (inv_diesUp ht) (inv_setPart ht)))) hs)

theorem inv_capCommit1 {s : State} {p : Nat} (hs : Inv s) : Inv (capCommit1 s p) := inv_setPf hs

theorem inv_bundleCommit {s : State} {l : List (Nat × Val)} (hs : Inv s) : Inv (bundleCommit s l) := by
  unfold bundleCommit
  split
  · exact inv_ite (inv_mk hs) hs
  · exact hs

theorem inv_unitsCommit {o s : State} {l : List (Nat × Val)} (hs : Inv s) : Inv (unitsCommit o s l) :=
  inv_judgeBol (inv_judgeKeys (inv_capCommit (inv_foldl (fun _ _ ht => inv_ite ht (inv_setBoard ht)) (inv_foldl (fun _ _ ht =>
    inv_capCommit1 ht) (inv_foldl (fun _ _ ht => inv_deriveNew ht) (inv_foldl (fun _ _ ht => inv_bellItem ht) (inv_foldl (fun _ _ ht =>
    inv_ite ht (inv_mk ht)) (inv_foldl (fun _ _ ht => inv_mk ht) (inv_foldl (fun _ _ ht => inv_groupMode ht) (inv_logicTasksCommit
    hs))))))))))

theorem inv_stageApply {s : State} {row : Nat} (hs : Inv s) : Inv (stageApply s row) := by
  unfold stageApply
  extract_lets t _ _ u _ v w x y z t1 _ u1 v1
  have ht : Inv t := hs
  have hu : Inv u := inv_withStage hs
  have hv : Inv v := inv_mk hu
  have hw : Inv w := inv_planCommit hv
  have hx : Inv x := inv_pipeCommit hw
  have hy : Inv y := inv_runPlaced (inv_unitsCommit (inv_partsCommit (inv_gooseCommit hx)))
  have hz : Inv z := inv_ite (inv_pairRetry hy) hy
  have ht1 : Inv t1 := inv_logRec hz
  have hu1 : Inv u1 := inv_bundleCommit (inv_ite (inv_mk ht1) ht1)
  have hv1 : Inv v1 := inv_foldl (fun w1 a hw1 => inv_restartDue hw1) hu1
  clear_value t u v w x y z t1 u1 v1
  split
  · exact inv_ite (inv_mk hv1) (inv_answerLate hv1)
  · exact hv1

theorem formed_execStageApply {dt : Nat} {s : State} (hs : Inv s) : Formed (execStageApply dt s) := by
  unfold execStageApply
  dsimp only
  split
  · exact formed_done (inv_advance hs)
  · exact formed_ite (formed_done (inv_advance hs)) (formed_done (inv_stageApply (inv_advance hs)))

theorem inv_opStageDiscard {s : State} {n : Nat} (hs : Inv s) : Inv (opStageDiscard s n).s :=
  inv_res_ite (inv_deny hs) (inv_res_ite (inv_deny hs) (inv_good (inv_stageDrop hs)))

theorem formed_execStageDiscard {dt : Nat} {rq : Req} {s : State} (hs : Inv s) : Formed (execStageDiscard dt rq s) :=
  formed_done (inv_doExec (fun _ ht => inv_opStageDiscard ht) (inv_advance hs))

theorem inv_opBankSeal {s : State} {rq : Req} {bank : Nat} (hs : Inv s) : Inv (opBankSeal s rq bank).s :=
  inv_res_ite (inv_setBank hs) (inv_mirrored (fun _ ht => inv_sealApply ht) hs)

theorem formed_execBankSeal {dt : Nat} {rq : Req} {bank : Nat} {s : State} (hs : Inv s) : Formed (execBankSeal dt rq bank s) :=
  formed_done (inv_doExec (fun _ ht => inv_opBankSeal ht) (inv_advance hs))

theorem inv_opProfileSwap {s : State} {rq : Req} {p row mode xfade : Nat} (hs : Inv s) : Inv (opProfileSwap s rq p row mode xfade).s :=
  inv_res_ite (inv_mirrored (fun _ ht => inv_swapApply ht) hs) (inv_mirrored (fun _ ht => inv_swapApply ht) hs)

theorem formed_execProfileSwap {dt : Nat} {rq : Req} {profile row mode xfade : Nat} {s : State} (hs : Inv s) :
    Formed (execProfileSwap dt rq profile row mode xfade s) :=
  formed_done (inv_doExec (fun _ ht => inv_opProfileSwap ht) (inv_advance hs))

theorem inv_opProfileDisarm {s : State} {rq : Req} {p : Nat} (hs : Inv s) : Inv (opProfileDisarm s rq p).s :=
  inv_mirrored (fun _ ht => inv_disarmApply ht) hs

theorem formed_execProfileDisarm {dt : Nat} {rq : Req} {profile : Nat} {s : State} (hs : Inv s) :
    Formed (execProfileDisarm dt rq profile s) :=
  formed_done (inv_doExec (fun _ ht => inv_opProfileDisarm ht) (inv_advance hs))

theorem inv_opOnlineWrite {s : State} {rq : Req} {p task off size v : Nat} (hs : Inv s) : Inv (opOnlineWrite s rq p task off size v).s :=
  inv_pairedWrite (fun _ ht => inv_onlinePend ht) hs

theorem formed_execOnlineWrite {dt : Nat} {rq : Req} {p task offset size value : Nat} {s : State} (hs : Inv s) :
    Formed (execOnlineWrite dt rq p task offset size value s) :=
  formed_done (inv_doExec (fun _ ht => inv_opOnlineWrite ht) (inv_advance hs))

theorem inv_putForce {s : State} {n seq idx row : Nat} {v : Val} (hs : Inv s) : Inv (putForce s n seq idx row v).s :=
  inv_pairedWrite (fun _ ht => inv_forceSet ht) hs

theorem inv_opForceClearAll {s : State} (hs : Inv s) : Inv (opForceClearAll s).s :=
  inv_res_ite (inv_res_ite (inv_good (inv_mirrorSend (inv_forceClear hs))) (inv_good (inv_mk (inv_forceClear hs)))) (inv_good
    (inv_forceClear hs))

theorem formed_execForceClearAll {dt : Nat} {rq : Req} {s : State} (hs : Inv s) : Formed (execForceClearAll dt rq s) :=
  formed_done (inv_doExec (fun _ ht => inv_opForceClearAll ht) (inv_advance hs))

theorem inv_mirrorAgreed {s : State} {m : Mirrored} {t : Int} (hs : Inv s) : Inv (mirrorAgreed s m t) := by
  unfold mirrorAgreed
  dsimp only
  split
  · exact inv_commitTake hs
  · exact inv_onlinePend hs
  · exact inv_forceLater hs
  · exact inv_ite hs (inv_forceClear hs)
  · exact inv_mirrorWait hs

theorem formed_execMirror {dt : Nat} {op : MirrorOp} {mid : Nat} {s : State} (hs : Inv s) : Formed (execMirror dt op mid s) := by
  unfold execMirror
  refine formed_ite (formed_done (inv_advance hs)) ?_
  split
  · exact formed_ite (formed_done (inv_sendIul (inv_advance hs))) (formed_done (inv_vaultPush (inv_mk (inv_advance hs))))
  · exact formed_done (inv_sendIul (inv_ite (inv_mirrorAgreed (inv_advance hs)) (inv_advance hs)))

theorem formed_execMirrorAck {dt mid status : Nat} {at_ : Int} {s : State} (hs : Inv s) : Formed (execMirrorAck dt mid status at_ s) := by
  unfold execMirrorAck
  extract_lets t _ u
  have ht : Inv t := inv_advance hs
  have hu : Inv u := inv_mk ht
  clear_value t u
  split
  · exact formed_done ht
  · refine formed_ite (formed_done (inv_mirrorRefused ht)) ?_
    extract_lets v
    have hv : Inv v := inv_mirrorAgreed hu
    clear_value v
    split
    · exact formed_done hv
    · exact formed_done hv
    · exact formed_done (inv_answerLate hv)
    · exact formed_done (inv_answerLate hv)

end Sys2Proof.Machine
end

section
/-! PROOF. Guest memory stays in its canonical form (O56): the operations of the model's Restart. -/

set_option Elab.async false

open Sys2Proof Sys2Proof.Machine

namespace Sys2Proof.Machine

theorem inv_blockAll {s : State} (hs : Inv s) : Inv (blockAll s) := inv_bolStop (inv_mk hs)

theorem inv_lifeLog {s : State} {old : Nat} (hs : Inv s) : Inv (lifeLog s old) := inv_ite hs (inv_logRec hs)

theorem inv_logTake {s : State} (hs : Inv s) : Inv (logTake s) := inv_logDrain hs

theorem inv_logFlush {s : State} (hs : Inv s) : Inv (logFlush s) :=
  inv_ite (inv_logTake hs) (inv_mk (inv_foldl (fun _ _ ht => inv_mirrorPut ht) (inv_logTake hs)))

theorem inv_retentSave {s : State} (hs : Inv s) : Inv (retentSave s) := inv_ite hs (inv_mk hs)

theorem inv_unitsOff {s : State} {lost : Bool} (hs : Inv s) : Inv (unitsOff s lost) :=
  inv_ite (inv_mk hs) (inv_foldl (fun _ _ ht => inv_setUnit ht) hs)

theorem inv_hubCleared {s : State} {lost : Bool} {cause : Nat} (hs : Inv s) : Inv (hubCleared s lost cause) :=
  inv_mk (wf_memKept _ _ hs)

theorem inv_hubReset {s : State} {lost : Bool} {cause : Nat} (hs : Inv s) : Inv (hubReset s lost cause) :=
  inv_hubCleared (inv_unitsOff (inv_foldl (fun _ _ ht => inv_logicAbandon ht) hs))

theorem inv_unitBegin {s : State} {n : Nat} (hs : Inv s) : Inv (unitBegin s n) := inv_setUnit hs

theorem inv_romGateway {s : State} {ph : Phase} (hs : Inv s) : Inv (romGateway s ph) :=
  inv_foldl (fun _ _ ht => inv_unitBegin ht) (inv_mk hs)

theorem inv_tamperCopy {s : State} (hs : Inv s) : Inv (tamperCopy s) :=
  inv_mk (inv_ite (inv_logRec (inv_foldl (fun _ _ ht => inv_logRec ht) hs)) (inv_foldl (fun _ _ ht => inv_logRec ht) hs))

theorem inv_bucketsFull {s : State} (hs : Inv s) : Inv (bucketsFull s) := inv_foldl (fun _ _ ht => inv_setPf ht) hs

theorem inv_geoRead {s : State} {ga : Nat} {gap : Bool} (hs : Inv s) : Inv (geoRead s ga gap) :=
  inv_ite (inv_logRec (inv_mk hs)) (inv_mk hs)

theorem inv_latchKept {s : State} (hs : Inv s) : Inv (latchKept s) := inv_mk (inv_bucketsFull (inv_anchorsStart hs))

theorem inv_hubUp {s : State} {ga : Nat} {gap selB : Bool} (hs : Inv s) : Inv (hubUp s ga gap selB) :=
  inv_ite (inv_romGateway (inv_mk (inv_latchKept (inv_mk (inv_geoRead (inv_bump (inv_tamperCopy (inv_rtcLogStart (inv_logStart (inv_mk
    hs)))))))))) (inv_mk (inv_latchKept (inv_mk (inv_geoRead (inv_bump (inv_tamperCopy (inv_rtcLogStart (inv_logStart (inv_mk hs)))))))))

theorem formed_execHubRelease {dt ga : Nat} {gap selB : Bool} {s : State} (hs : Inv s) : Formed (execHubRelease dt ga gap selB s) :=
  formed_ite (formed_done (inv_hubUp (inv_advance hs))) (formed_done (inv_advance hs))

end Sys2Proof.Machine
end

section
/-! PROOF. Guest memory stays in its canonical form (O56): the operations of the model's Tamper. -/

set_option Elab.async false

open Sys2Proof Sys2Proof.Machine

namespace Sys2Proof.Machine

theorem inv_tamperWrite {s : State} {sources moment action op : Nat} (hs : Inv s) : Inv (tamperWrite s sources moment action op) :=
  inv_mk hs

theorem inv_keysClear {s : State} (hs : Inv s) : Inv (keysClear s) := inv_vaultKick (inv_foldl (fun _ _ ht => inv_opAbort ht) (inv_mk hs))

theorem inv_quarantine {s : State} (hs : Inv s) : Inv (quarantine s) := by
  unfold quarantine
  refine inv_ite (inv_lifeLog (inv_mk hs)) (inv_ite (inv_romGateway (inv_setUnit (inv_mk (inv_hubReset (inv_lifeLog (inv_mk hs)))))) ?_)
  split
  rename_i a t heq
  have ht := inv_of_snd heq (inv_fresh hs)
  exact inv_hubReset (inv_lifeLog (inv_mk (inv_blockAll ht)))

theorem inv_tamperEvent {s : State} {src : Nat} (hs : Inv s) : Inv (tamperEvent s src) :=
  inv_ite hs (inv_ite (inv_tamperWrite hs) (inv_ite (inv_quarantine (inv_keysClear (inv_tamperWrite hs))) (inv_keysClear (inv_tamperWrite
    hs))))

theorem inv_setActive {s : State} {src : Nat} {on : Bool} (hs : Inv s) : Inv (setActive s src on) := inv_mk hs

theorem inv_lineSample {s : State} {src n : Nat} {opened : Bool} (hs : Inv s) : Inv (lineSample s src n opened) :=
  inv_ite (inv_setActive hs) (inv_ite hs (inv_ite hs (inv_tamperEvent (inv_setActive hs))))

theorem inv_internalEnd {s : State} (hs : Inv s) : Inv (internalEnd s) := by
  unfold internalEnd
  refine inv_ite hs ?_
  split
  rename_i a t heq
  have ht := inv_of_snd heq (inv_fresh hs)
  exact inv_foldl (fun u a hu => inv_ite (inv_setActive hu) hu) ht

theorem formed_execTamperSample {dt : Nat} {enclOpen loopOpen : Bool} {s : State} (hs : Inv s) :
    Formed (execTamperSample dt enclOpen loopOpen s) :=
  formed_ite (formed_done (inv_advance hs)) (formed_ite (formed_done (inv_mk (inv_advance hs))) (formed_done (inv_lineSample
    (inv_lineSample (inv_internalEnd (inv_mk (inv_mk (inv_advance hs))))))))

theorem formed_execTamperSensorEvent {dt source : Nat} {s : State} (hs : Inv s) : Formed (execTamperSensorEvent dt source s) :=
  formed_ite (formed_done (inv_advance hs)) (formed_done (inv_tamperEvent (inv_setActive (inv_advance hs))))

theorem formed_execVaultSupplyLow {dt : Nat} {below12 : Bool} {s : State} (hs : Inv s) : Formed (execVaultSupplyLow dt below12 s) :=
  formed_ite (formed_done (inv_advance hs)) (formed_done (inv_ite (inv_rtcLost (inv_oscStop (inv_mk (inv_advance hs)))) (inv_oscStop
    (inv_mk (inv_advance hs)))))

theorem formed_execRtcOscStop {dt : Nat} {s : State} (hs : Inv s) : Formed (execRtcOscStop dt s) :=
  formed_ite (formed_done (inv_advance hs)) (formed_done (inv_ite (inv_tamperEvent (inv_setActive (inv_oscStop (inv_advance hs))))
    (inv_oscStop (inv_advance hs))))

theorem inv_putTamperEnable {s : State} {k : Nat} {v : Val} (hs : Inv s) : Inv (putTamperEnable s k v).s :=
  inv_res_ite (inv_good (inv_put hs)) (inv_good (inv_mk (inv_setActive (inv_put hs))))

theorem inv_serviceEnd {s : State} (hs : Inv s) : Inv (serviceEnd s) := inv_logRec (inv_mk hs)

theorem inv_opServiceWindow {s : State} {secs : Nat} (hs : Inv s) : Inv (opServiceWindow s secs).s :=
  inv_res_ite (inv_good (inv_ite (inv_serviceEnd hs) hs)) (inv_res_ite (inv_deny hs) (inv_good (inv_logRec (inv_mk hs))))

theorem formed_execServiceWindow {dt : Nat} {rq : Req} {secs : Nat} {s : State} (hs : Inv s) : Formed (execServiceWindow dt rq secs s) :=
  formed_done (inv_doExec (fun _ ht => inv_opServiceWindow ht) (inv_advance hs))

theorem formed_execServiceWindowExpiry {dt : Nat} {s : State} (hs : Inv s) : Formed (execServiceWindowExpiry dt s) :=
  formed_ite (formed_done (inv_serviceEnd (inv_advance hs))) (formed_done (inv_advance hs))

theorem inv_opCommission {s : State} (hs : Inv s) : Inv (opCommission s).s :=
  inv_res_ite (inv_deny hs) (inv_good (inv_lifeLog (inv_anchorsStart (inv_mk hs))))

theorem formed_execCommission {dt : Nat} {rq : Req} {s : State} (hs : Inv s) : Formed (execCommission dt rq s) :=
  formed_done (inv_doExec (fun _ ht => inv_opCommission ht) (inv_advance hs))

theorem inv_opQuarantineEnter {s : State} (hs : Inv s) : Inv (opQuarantineEnter s).s :=
  inv_res_ite (inv_deny hs) (inv_good (inv_hubReset (inv_lifeLog (inv_mk (inv_blockAll hs)))))

theorem formed_execQuarantineEnter {dt : Nat} {rq : Req} {s : State} (hs : Inv s) : Formed (execQuarantineEnter dt rq s) :=
  formed_done (inv_doExec (fun _ ht => inv_opQuarantineEnter ht) (inv_advance hs))

theorem inv_opQuarantineLeave {s : State} (hs : Inv s) : Inv (opQuarantineLeave s).s :=
  inv_res_ite (inv_deny hs) (inv_res_ite (inv_deny (inv_logRec hs)) (inv_good (inv_hubReset (inv_lifeLog (inv_mk hs)))))

theorem formed_execQuarantineLeave {dt : Nat} {rq : Req} {s : State} (hs : Inv s) : Formed (execQuarantineLeave dt rq s) :=
  formed_done (inv_doExec (fun _ ht => inv_opQuarantineLeave ht) (inv_advance hs))

theorem inv_opDecommission {s : State} {serial : List Byte} (hs : Inv s) : Inv (opDecommission s serial).s :=
  inv_res_ite (inv_deny hs) (inv_good (inv_hubReset (inv_lifeLog (inv_mk (inv_blockAll hs)))))

theorem formed_execDecommission {dt : Nat} {rq : Req} {serial : List Byte} {s : State} (hs : Inv s) :
    Formed (execDecommission dt rq serial s) :=
  formed_done (inv_doExec (fun _ ht => inv_opDecommission ht) (inv_advance hs))

end Sys2Proof.Machine
end

section
/-! PROOF. Guest memory stays in its canonical form (O56): the operations of the model's Boot. -/

set_option Elab.async false

open Sys2Proof Sys2Proof.Machine

namespace Sys2Proof.Machine

theorem formed_execFirmwareImageRead {dt : Nat} {s : State} (hs : Inv s) : Formed (execFirmwareImageRead dt s) :=
  formed_ite (formed_done (inv_mk (inv_advance hs))) (formed_done (inv_advance hs))

theorem inv_setFw {s : State} {k : Nat} {x : FwSlot} (hs : Inv s) : Inv (setFw s k x) := inv_mk hs

theorem inv_keptDrop {s : State} {k : Nat} (hs : Inv s) : Inv (keptDrop s k) := by
  unfold keptDrop
  dsimp only
  split <;> exact inv_mk hs

theorem inv_keptCheck {s : State} (hs : Inv s) : Inv (keptCheck s) :=
  inv_ite (inv_foldl (fun _ _ ht => inv_logRec (inv_keptDrop ht)) hs) (inv_latchKept (inv_foldl (fun _ _ ht => inv_logRec (inv_keptDrop
    ht)) hs))

theorem inv_fwRun {s : State} {o : SignedObj} (hs : Inv s) : Inv (fwRun s o) :=
  inv_logicTasksCommit (inv_mk (inv_deriveAll (inv_foldl (fun _ _ ht => inv_unitBegin ht) (inv_setUnit (inv_setUnit (inv_keptCheck (inv_mk
    (inv_setFw (inv_ite (inv_logRec hs) hs)))))))))

theorem formed_execFirmwareVerified {dt : Nat} {obj : SignedObj} {s : State} (hs : Inv s) : Formed (execFirmwareVerified dt obj s) :=
  formed_ite (formed_done (inv_advance hs)) (formed_ite (formed_done (inv_fwRun (inv_advance hs))) (formed_ite (formed_done
    (inv_romGateway (inv_logRec (inv_advance hs)))) (formed_done (inv_mk (inv_logRec (inv_advance hs))))))

theorem inv_timeStart {s : State} (hs : Inv s) : Inv (timeStart s) := inv_planEmpty (inv_ptpRestart (inv_mk hs))

theorem inv_unitAction {s : State} {n : Nat} (hs : Inv s) : Inv (unitAction s n) := by
  unfold unitAction
  split
  · exact inv_laneTrain (inv_laneTrain hs)
  · exact inv_timeStart hs
  · exact inv_planEmpty hs
  · exact inv_mk hs
  · exact inv_gooseBegin hs
  · exact inv_mk hs
  · exact inv_foldl (fun t a ht => inv_recArm ht) hs
  · exact inv_judgeLog hs
  · exact hs

theorem inv_partsStart {s : State} (hs : Inv s) : Inv (partsStart s) :=
  inv_ite hs (inv_foldl (fun _ _ ht => inv_startPart ht) (inv_mk hs))

theorem formed_execUnitStartComplete {dt sub : Nat} {s : State} (hs : Inv s) : Formed (execUnitStartComplete dt sub s) :=
  formed_ite (formed_done (inv_advance hs)) (formed_done (inv_partsStart (inv_unitAction (inv_setUnit (inv_advance hs)))))

theorem inv_supplyUp {s : State} (hs : Inv s) : Inv (supplyUp s) := inv_ite (inv_setUnit (inv_mk hs)) (inv_mk hs)

theorem formed_execSupplyGood {dt : Nat} {s : State} (hs : Inv s) : Formed (execSupplyGood dt s) :=
  formed_ite (formed_done (inv_advance hs)) (formed_done (inv_ite (inv_supplyUp (inv_mk (inv_advance hs))) (inv_mk (inv_advance hs))))

theorem formed_execHoldupReady {dt : Nat} {s : State} (hs : Inv s) : Formed (execHoldupReady dt s) :=
  formed_ite (formed_done (inv_mk (inv_advance hs))) (formed_done (inv_advance hs))

theorem formed_execOscReady {dt : Nat} {s : State} (hs : Inv s) : Formed (execOscReady dt s) :=
  formed_ite (formed_done (inv_ite (inv_setUnit (inv_mk (inv_advance hs))) (inv_mk (inv_advance hs)))) (formed_done (inv_advance hs))

theorem inv_hubDown {s : State} (hs : Inv s) : Inv (hubDown s) := inv_ite (inv_supplyUp (inv_hubReset hs)) (inv_hubReset hs)

theorem inv_vinLost {s : State} (hs : Inv s) : Inv (vinLost s) := inv_hubReset (inv_mk hs)

theorem formed_execPfAssert {dt : Nat} {overV : Bool} {s : State} (hs : Inv s) : Formed (execPfAssert dt overV s) :=
  formed_ite (formed_done (inv_advance hs)) (formed_ite (formed_done (inv_vinLost (inv_advance hs))) (formed_done (inv_logRec (inv_bump
    (inv_mk (inv_advance hs))))))

theorem formed_execPfClear {dt : Nat} {s : State} (hs : Inv s) : Formed (execPfClear dt s) :=
  formed_ite (formed_done (inv_advance hs)) (formed_done (inv_logRec (inv_mk (inv_advance hs))))

theorem inv_powerFail {s : State} (hs : Inv s) : Inv (powerFail s) :=
  inv_mk (inv_hubDown (inv_logFlush (inv_retentSave (inv_logRec (inv_blockAll hs)))))

theorem formed_execRideThroughExpiry {dt : Nat} {s : State} (hs : Inv s) : Formed (execRideThroughExpiry dt s) :=
  formed_ite (formed_done (inv_powerFail (inv_advance hs))) (formed_done (inv_advance hs))

theorem formed_execVinLossCharging {dt : Nat} {s : State} (hs : Inv s) : Formed (execVinLossCharging dt s) :=
  formed_ite (formed_done (inv_vinLost (inv_advance hs))) (formed_done (inv_advance hs))

theorem formed_execModuleInsert {dt : Nat} {s : State} (hs : Inv s) : Formed (execModuleInsert dt s) :=
  formed_ite (formed_done (inv_advance hs)) (formed_done (inv_mk (inv_advance hs)))

theorem formed_execModuleRemove {dt : Nat} {s : State} (hs : Inv s) : Formed (execModuleRemove dt s) :=
  formed_done (inv_mk (inv_advance hs))

theorem inv_setDump {s : State} {k : Nat} {x : Dump} (hs : Inv s) : Inv (setDump s k x) := inv_mk hs

theorem inv_dumpHead {s : State} {cause : Nat} (hs : Inv s) : Inv (dumpHead s cause).2 := by
  unfold dumpHead
  split
  rename_i a t heq
  have ht := inv_of_snd heq (inv_fresh hs)
  exact ht

theorem inv_hubFreeze {s : State} (hs : Inv s) : Inv (hubFreeze s) := inv_mk hs

theorem inv_resetHalt {s : State} (hs : Inv s) : Inv (resetHalt s) := inv_romGateway (inv_mk (inv_hubReset hs))

theorem inv_fatalEnd {s : State} {rst : Bool} (hs : Inv s) : Inv (fatalEnd s rst) :=
  inv_ite (inv_ite (inv_resetHalt (inv_mk (inv_mk hs))) (inv_mk (inv_mk (inv_mk hs)))) (inv_hubReset (inv_mk (inv_mk hs)))

theorem inv_fatalRaise {s : State} {cause : Nat} (hs : Inv s) : Inv (fatalRaise s cause) := by
  unfold fatalRaise
  refine inv_ite (inv_logFlush (inv_logRec (inv_put hs))) (inv_ite ?_ (inv_ite hs ?_))
  · refine inv_fatalEnd (inv_setDump ?_)
    dsimp only
    split
    · exact inv_setDump (inv_put hs)
    · exact inv_put hs
  · extract_lets _ v
    have hv : Inv v := inv_logTake (inv_logRec (inv_blockAll (inv_put hs)))
    clear_value v
    split
    rename_i h w heq
    have hw : Inv w := inv_of_snd heq (inv_dumpHead hv)
    extract_lets k _ _ _ b
    have hb : Inv b := inv_mk (inv_hubFreeze (inv_setDump (inv_foldl (fun _ _ ht => inv_logicAbandon ht) hw)))
    clear_value k b
    split
    · exact inv_setDump hb
    · exact hb

theorem formed_execFatalError {dt cause : Nat} {s : State} (hs : Inv s) : Formed (execFatalError dt cause s) :=
  formed_ite (formed_done (inv_fatalRaise (inv_advance hs))) (formed_done (inv_advance hs))

theorem formed_execCcLockstepMismatch {dt pair : Nat} {s : State} (hs : Inv s) : Formed (execCcLockstepMismatch dt pair s) :=
  formed_ite (formed_done (inv_fatalRaise (inv_advance hs))) (formed_done (inv_advance hs))

theorem formed_execDumpWriteDone {dt : Nat} {s : State} (hs : Inv s) : Formed (execDumpWriteDone dt s) := by
  unfold execDumpWriteDone
  refine formed_ite (formed_done (inv_advance hs)) ?_
  dsimp only
  split
  · exact formed_done (inv_fatalEnd (inv_logTake (inv_logRec (inv_setDump (inv_setDump (inv_advance hs))))))
  · exact formed_done (inv_fatalEnd (inv_logTake (inv_logRec (inv_setDump (inv_advance hs)))))

theorem inv_opDumpProtect {s : State} {k : Nat} (hs : Inv s) : Inv (opDumpProtect s k).s :=
  inv_res_ite (inv_deny hs) (inv_good (inv_setDump hs))

theorem formed_execDumpProtect {dt : Nat} {rq : Req} {slot : Nat} {s : State} (hs : Inv s) : Formed (execDumpProtect dt rq slot s) :=
  formed_done (inv_doExec (fun _ ht => inv_opDumpProtect ht) (inv_advance hs))

theorem inv_opDumpRelease {s : State} {k : Nat} (hs : Inv s) : Inv (opDumpRelease s k).s := inv_good (inv_mk hs)

theorem formed_execDumpRelease {dt : Nat} {rq : Req} {slot : Nat} {s : State} (hs : Inv s) : Formed (execDumpRelease dt rq slot s) :=
  formed_done (inv_doExec (fun _ ht => inv_opDumpRelease ht) (inv_advance hs))

theorem inv_opRestart {s : State} (hs : Inv s) : Inv (opRestart s).s := inv_good (inv_hubReset hs)

theorem formed_execRestart {dt : Nat} {rq : Req} {s : State} (hs : Inv s) : Formed (execRestart dt rq s) :=
  formed_done (inv_doExec (fun _ ht => inv_opRestart ht) (inv_advance hs))

theorem inv_wdtLapse {s : State} (hs : Inv s) : Inv (wdtLapse s) := inv_fatalRaise (inv_logRec (inv_bump (inv_blockAll (inv_mk hs))))

theorem inv_setWdt {s : State} {k : Nat} {x : WdtPair} (hs : Inv s) : Inv (setWdt s k x) := inv_mk hs

theorem formed_execWdtService {dt pair : Nat} {s : State} (hs : Inv s) : Formed (execWdtService dt pair s) :=
  formed_ite (formed_done (inv_advance hs)) (formed_ite (formed_done (inv_wdtLapse (inv_advance hs))) (formed_done (inv_setWdt (inv_ite
    (inv_mk (inv_advance hs)) (inv_advance hs)))))

theorem formed_execWdtLapse {dt : Nat} {s : State} (hs : Inv s) : Formed (execWdtLapse dt s) :=
  formed_ite (formed_done (inv_wdtLapse (inv_advance hs))) (formed_done (inv_advance hs))

theorem formed_execFenceTimeout {dt p : Nat} {s : State} (hs : Inv s) : Formed (execFenceTimeout dt p s) := by
  unfold execFenceTimeout
  dsimp only
  split
  · exact formed_ite (formed_done (inv_fatalRaise (inv_advance hs))) (formed_done (inv_advance hs))
  · exact formed_done (inv_advance hs)

theorem formed_execForceNoticeMissed {dt : Nat} {s : State} (hs : Inv s) : Formed (execForceNoticeMissed dt s) :=
  formed_ite (formed_done (inv_mk (inv_advance hs))) (formed_done (inv_wdtLapse (inv_logRec (inv_bump (inv_mk (inv_advance hs))))))

theorem inv_setTemp {s : State} {die : Nat} {t : Int} (hs : Inv s) : Inv (setTemp s die t) := inv_mk hs

theorem formed_execTempWarning {dt die : Nat} {milliC : Int} {s : State} (hs : Inv s) : Formed (execTempWarning dt die milliC s) :=
  formed_ite (formed_done (inv_advance hs)) (formed_done (inv_ite (inv_logRec (inv_setTemp (inv_advance hs))) (inv_setTemp (inv_advance
    hs))))

theorem formed_execTempFatal {dt die : Nat} {milliC : Int} {s : State} (hs : Inv s) : Formed (execTempFatal dt die milliC s) :=
  formed_ite (formed_done (inv_advance hs)) (formed_done (inv_ite (inv_fatalRaise (inv_setTemp (inv_advance hs))) (inv_setTemp
    (inv_advance hs))))

theorem inv_opLampTest {s : State} (hs : Inv s) : Inv (opLampTest s).s := inv_good (inv_mk hs)

theorem formed_execLampTest {dt : Nat} {rq : Req} {s : State} (hs : Inv s) : Formed (execLampTest dt rq s) :=
  formed_done (inv_doExec (fun _ ht => inv_opLampTest ht) (inv_advance hs))

theorem formed_execLampTestEnd {dt : Nat} {s : State} (hs : Inv s) : Formed (execLampTestEnd dt s) :=
  formed_ite (formed_done (inv_mk (inv_advance hs))) (formed_done (inv_advance hs))

theorem inv_opFwImageApply {s : State} {rq : Req} {slot : Nat} (hs : Inv s) : Inv (opFwImageApply s rq slot).s :=
  inv_res_ite (inv_deny hs) (inv_res_ite (inv_deny hs) (inv_mk hs))

theorem formed_execFwImageApply {dt : Nat} {rq : Req} {slot : Nat} {s : State} (hs : Inv s) : Formed (execFwImageApply dt rq slot s) :=
  formed_done (inv_doExec (fun _ ht => inv_opFwImageApply ht) (inv_advance hs))

theorem inv_fwMark {s : State} {slot : Nat} (hs : Inv s) : Inv (fwMark s slot) := inv_setFw (inv_setFw hs)

theorem inv_fwLog {s : State} {slot svn outcome : Nat} (hs : Inv s) : Inv (fwLog s slot svn outcome) := inv_logRec hs

theorem formed_execFwApplyDone {dt : Nat} {obj : SignedObj} {s : State} (hs : Inv s) : Formed (execFwApplyDone dt obj s) := by
  unfold execFwApplyDone
  extract_lets t _ u
  have ht : Inv t := inv_advance hs
  have hu : Inv u := inv_bulkEnd (inv_mk ht)
  clear_value t u
  split
  · exact formed_done ht
  · split
    rename_i a v heq
    have hv := inv_of_snd heq (inv_verifyObj hu)
    refine formed_ite ?_ ?_
    · extract_lets _ w x
      have hw : Inv w := inv_setFw hv
      have hx : Inv x := inv_execEnd (inv_fwLog hw)
      clear_value w x
      exact formed_done (inv_ite (inv_hubReset (inv_fwMark hx)) hx)
    · extract_lets _ w
      have hw : Inv w := inv_setFw hv
      clear_value w
      exact formed_done (inv_execEnd (inv_fwLog hw))

theorem inv_opFwActivate {s : State} {slot : Nat} (hs : Inv s) : Inv (opFwActivate s slot).s :=
  inv_res_ite (inv_deny hs) (inv_good (inv_fwLog (inv_fwMark hs)))

theorem formed_execFwActivate {dt : Nat} {rq : Req} {slot : Nat} {s : State} (hs : Inv s) : Formed (execFwActivate dt rq slot s) :=
  formed_done (inv_doExec (fun _ ht => inv_opFwActivate ht) (inv_advance hs))

end Sys2Proof.Machine
end

section
/-! PROOF. Guest memory stays in its canonical form (O56): the operations of the model's Units. -/

set_option Elab.async false

open Sys2Proof Sys2Proof.Machine

namespace Sys2Proof.Machine

theorem inv_opUnitDisable {s : State} {n : Nat} (hs : Inv s) : Inv (opUnitDisable s n).s :=
  inv_res_ite (inv_deny hs) (inv_res_ite (inv_deny hs) (inv_good (inv_ite (inv_migStopAll (inv_setDraining (inv_logRec hs)))
    (inv_setDraining (inv_logRec hs)))))

theorem formed_execUnitDisable {dt : Nat} {rq : Req} {sub : Nat} {s : State} (hs : Inv s) : Formed (execUnitDisable dt rq sub s) :=
  formed_done (inv_doExec (fun _ ht => inv_opUnitDisable ht) (inv_advance hs))

theorem inv_opUnitEnable {s : State} {n : Nat} (hs : Inv s) : Inv (opUnitEnable s n).s :=
  inv_res_ite (inv_deny hs) (inv_res_ite (inv_deny hs) (inv_good (inv_ite (inv_mk (inv_unitBegin (inv_logRec hs))) (inv_unitBegin
    (inv_logRec hs)))))

theorem formed_execUnitEnable {dt : Nat} {rq : Req} {sub : Nat} {s : State} (hs : Inv s) : Formed (execUnitEnable dt rq sub s) :=
  formed_done (inv_doExec (fun _ ht => inv_opUnitEnable ht) (inv_advance hs))

theorem inv_unitStop {s : State} {n : Nat} (hs : Inv s) : Inv (unitStop s n) := by
  unfold unitStop
  split
  · exact inv_lanesDown hs
  · exact inv_mk (inv_capStop hs)
  · exact hs

theorem formed_execUnitDrained {dt sub : Nat} {s : State} (hs : Inv s) : Formed (execUnitDrained dt sub s) :=
  formed_ite (formed_done (inv_advance hs)) (formed_done (inv_setUnit (inv_unitStop (inv_advance hs))))

theorem inv_gooseFail {s : State} (hs : Inv s) : Inv (gooseFail s) := by
  refine inv_txResume (inv_mk (inv_foldl (fun t a ht => ?_) hs))
  obtain ⟨j, b, req⟩ := a
  cases req with
  | none => exact inv_dropJob ht
  | some x => exact inv_gooseReqDone (inv_dropJob ht)

theorem inv_osFail {s : State} (hs : Inv s) : Inv (osFail s) := inv_txResume (inv_foldl (fun _ _ ht => inv_dropJob ht) hs)

theorem inv_ttFail {s : State} (hs : Inv s) : Inv (ttFail s) :=
  inv_foldl (fun _ _ ht => inv_digClose (inv_afterItem (inv_itemEnd ht))) (inv_mk (inv_foldl (fun _ _ ht => inv_digClose (inv_afterItem
    (inv_itemEnd (inv_coreIdle ht)))) hs))

theorem inv_dmaFail {s : State} (hs : Inv s) : Inv (dmaFail s) := inv_foldl (fun _ _ ht => inv_dmaEnd ht) hs

theorem inv_exportFail {s : State} (hs : Inv s) : Inv (exportFail s) := by
  unfold exportFail
  split
  · exact inv_execEnd (inv_mk (inv_recSet hs))
  · exact hs

theorem inv_vaultFail {s : State} (hs : Inv s) : Inv (vaultFail s) := inv_foldl (fun _ _ ht => inv_opAbort ht) (inv_mk hs)

theorem inv_portsFail {s : State} {u : Nat} (hs : Inv s) : Inv (portsFail s u) :=
  inv_foldl (fun _ _ ht => inv_portDown ht) (inv_foldl (fun _ _ ht => inv_flushFault ht) hs)

theorem inv_sessFail {s : State} (hs : Inv s) : Inv (sessFail s) :=
  inv_foldl (fun _ _ ht => inv_foldl (fun _ _ hu => inv_ite (inv_execEnd hu) hu) ht) hs

theorem inv_storeFail {s : State} (hs : Inv s) : Inv (storeFail s) := by
  unfold storeFail
  dsimp only
  split
  · exact inv_execEnd (inv_bulkEnd (inv_mk (inv_exportFail hs)))
  · exact inv_exportFail hs

theorem inv_unitFault {s : State} {n : Nat} (hs : Inv s) : Inv (unitFault s n) := by
  unfold unitFault
  split
  · exact inv_vaultFail hs
  · exact inv_sessFail hs
  · exact inv_portsFail hs
  · exact inv_portsFail hs
  · exact inv_portsFail hs
  · exact inv_laneLost (inv_laneLost hs)
  · exact inv_condStop hs
  · exact inv_gooseFail hs
  · exact inv_osFail hs
  · exact inv_ttFail hs
  · exact inv_dmaFail hs
  · exact inv_exportFail (inv_capStop hs)
  · exact inv_migFail hs
  · exact inv_fatalRaise (inv_blockAll hs)
  · exact inv_bolStop hs
  · exact inv_logicFault hs
  · exact inv_judgeLog hs
  · exact inv_storeFail hs
  · exact inv_mk hs
  · exact inv_ite (inv_dieFault hs) hs

theorem inv_unreserve {s : State} {c : Option Nat} (hs : Inv s) : Inv (unreserve s c) := by
  unfold unreserve
  split
  · exact inv_setRing hs
  · exact hs

theorem inv_flowFence {s : State} {f : Nat} (hs : Inv s) : Inv (flowFence s f) := by
  unfold flowFence
  split
  · exact hs
  · exact inv_mk (inv_holdFree (inv_foldl (fun t a ht => inv_unreserve ht) (inv_foldl (fun t a ht => inv_setCore (inv_coreIdle ht)) hs)))

theorem inv_gooseFence {s : State} (hs : Inv s) : Inv (gooseFence s) := by
  refine inv_txResume (inv_mk (inv_foldl (fun t a ht => ?_) hs))
  obtain ⟨j, req⟩ := a
  cases req with
  | none => exact inv_dropJob ht
  | some x =>
    dsimp only
    split
    · exact inv_entryDrop (inv_dropJob ht)
    · exact inv_dropJob ht

theorem inv_bolUnitFence {s : State} (hs : Inv s) : Inv (bolUnitFence s) := by
  unfold bolUnitFence
  refine inv_foldl (fun t a ht => ?_) (inv_setBol hs)
  split
  · split
    · exact inv_entryDrop ht
    · exact ht
  · exact ht

theorem inv_unitFence {s : State} {n : Nat} (hs : Inv s) : Inv (unitFence s n) := by
  unfold unitFence
  split
  · exact inv_mk hs
  · exact inv_condStop hs
  · exact inv_gooseFence hs
  · exact inv_osFail hs
  · exact inv_exportFail hs
  · exact inv_foldl (fun t a ht => inv_ite (inv_migAbort ht) ht) hs
  · exact inv_bolUnitFence hs
  · exact hs

theorem formed_execDisableTimeoutExpiry {dt : Nat} {d : Drain} {s : State} (hs : Inv s) : Formed (execDisableTimeoutExpiry dt d s) := by
  unfold execDisableTimeoutExpiry
  dsimp only
  split
  · exact formed_ite (formed_done (inv_fenceStart (inv_advance hs))) (formed_done (inv_advance hs))
  · exact formed_ite (formed_done (inv_advance hs)) (formed_done (inv_setUnit (inv_unitStop (inv_unitFence (inv_logRec (inv_advance
      hs))))))
  · split
    · exact formed_ite (formed_done (inv_flowFence (inv_logRec (inv_advance hs)))) (formed_done (inv_advance hs))
    · exact formed_done (inv_advance hs)

theorem formed_execInternalCheckFail {dt sub : Nat} {s : State} (hs : Inv s) : Formed (execInternalCheckFail dt sub s) :=
  formed_ite (formed_done (inv_advance hs)) (formed_done (inv_unitFault (inv_setUnit (inv_advance hs))))

end Sys2Proof.Machine
end

section
/-! PROOF. Guest memory stays in its canonical form (O56): the operations of the model's Jobj. -/

set_option Elab.async false

open Sys2Proof Sys2Proof.Machine

namespace Sys2Proof.Machine

theorem inv_putPortEnable {s : State} {sub : Nat} {v : Val} (hs : Inv s) : Inv (putPortEnable s sub v).s :=
  inv_res_ite (inv_good (inv_put hs)) (inv_deny hs)

theorem inv_putBaseRate {s : State} {v : Val} (hs : Inv s) : Inv (putBaseRate s v).s :=
  inv_res_ite (inv_good hs) (inv_good (inv_planEmpty (inv_restartAll (inv_mk (inv_put hs)))))

theorem inv_putPtp {s : State} {ob sub : Nat} {v : Val} (hs : Inv s) : Inv (putPtp s ob sub v).s := by
  unfold putPtp
  refine inv_good (inv_ite (inv_ptpStates (inv_ite (inv_ptpRestart (inv_put hs)) ?_)) (inv_ite (inv_ptpRestart (inv_put hs)) ?_))
  · split
    · exact inv_ite (inv_setParent (inv_put hs)) (inv_put hs)
    · exact inv_put hs
  · split
    · exact inv_ite (inv_setParent (inv_put hs)) (inv_put hs)
    · exact inv_put hs

theorem inv_putBankPair {s : State} {n seq idx ob sub row : Nat} {v : Val} (hs : Inv s) : Inv (putBankPair s n seq idx ob sub row v).s :=
  inv_mirrored (fun _ ht => inv_putBank ht) hs

theorem inv_writeK {seq idx : Nat} {s : State} {n ob sub row : Nat} {v : Val} (hs : Inv s) : Inv (writeK seq idx s n ob sub row v).s := by
  unfold writeK
  split
  · exact inv_putPortEnable hs
  · exact inv_putAdmin hs
  · exact inv_putMode hs
  · exact inv_putHoldLimit hs
  · exact inv_good (inv_ppsJudge (inv_put hs))
  · exact inv_putPpsMode hs
  · exact inv_good (inv_judgeSource (inv_put hs))
  · exact inv_putPtp hs
  · exact inv_putProfile hs
  · exact inv_putPtp hs
  · exact inv_putBaseRate hs
  · exact inv_putBankPair hs
  · exact inv_putBankPair hs
  · exact inv_putForce hs
  · exact inv_putPairEnable hs
  · exact inv_putAnchor hs
  · exact inv_putTamperEnable hs
  · exact inv_putTrim hs
  · exact inv_putAlarm hs
  · exact inv_putTrickle hs
  · exact inv_putCodeRate hs
  · exact inv_plainHook hs

theorem inv_writeHook {seq idx : Nat} {s : State} {n ob sub row : Nat} {v : Val} (hs : Inv s) :
    Inv (writeHook seq idx s n ob sub row v).s :=
  inv_res_ite (inv_pairRetry (inv_writeK hs)) (inv_writeK hs)

theorem inv_writeRow {seq idx : Nat} {s : State} {n : Nat} {ad : Addr} {row : Nat} {d : Desc} {v : Val} (hs : Inv s) :
    Inv (writeRow seq idx s n ad row d v).s := by
  unfold writeRow
  exact inv_res_ite (inv_deny hs) (inv_res_ite (inv_deny hs) (inv_res_ite (inv_pairRetry (inv_writeVal (fun t a a1 a2 a3 a4 ht =>
    inv_writeHook ht) hs)) (inv_writeVal (fun t a a1 a2 a3 a4 ht => inv_writeHook ht) hs)))

theorem inv_opPathReset {s : State} (hs : Inv s) : Inv (opPathReset s).s := inv_good (inv_mk (inv_clearCtrs hs))

theorem inv_opSessionClose {s : State} {n : Nat} (hs : Inv s) : Inv (opSessionClose s n).s := by
  unfold opSessionClose
  split
  · exact inv_deny hs
  · exact inv_res_ite (inv_deny hs) (inv_good (inv_notify (inv_setSess hs)))

theorem inv_cmdOp {rq : Req} {ob sub : Nat} {v : Val} {s : State} (hs : Inv s) : Inv (cmdOp rq ob sub v s).s := by
  unfold cmdOp
  split
  · exact inv_opCommission hs
  · exact inv_opQuarantineEnter hs
  · exact inv_opQuarantineLeave hs
  · exact inv_opDecommission hs
  · exact inv_opRestart hs
  · exact inv_opFwImageApply hs
  · exact inv_opFwActivate hs
  · exact inv_opUnitDisable hs
  · exact inv_opUnitEnable hs
  · exact inv_opSessionClose hs
  · exact inv_opStageCommit hs
  · exact inv_opStageDiscard hs
  · exact inv_opBundleApply hs
  · exact inv_opPortReset hs
  · exact inv_opGroupReset hs
  · exact inv_stepCmd hs
  · exact inv_stepCmd hs
  · exact inv_opTimeReset hs
  · exact inv_opStreamReset hs
  · exact inv_opSvPortReset hs
  · exact inv_opPlanReset hs
  · exact inv_opBankSeal hs
  · exact inv_opProfileSwap hs
  · exact inv_opProfileDisarm hs
  · exact inv_opCondReset hs
  · exact inv_opGoReset hs
  · exact inv_opOsReset hs
  · exact inv_opGsubReset hs
  · exact inv_opPartImageApply hs
  · exact inv_opPartStart hs
  · exact inv_opPartStop hs
  · exact inv_opPartReset hs
  · exact inv_opMigPrepare hs
  · exact inv_opMigStart hs
  · exact inv_opMigAbort hs
  · exact inv_opTtReset hs
  · exact inv_opPhReset hs
  · exact inv_opOnlineWrite hs
  · exact inv_opLogicRestart hs
  · exact inv_opForceClearAll hs
  · exact inv_opLogicReset hs
  · exact inv_opHandover hs
  · exact inv_opPairReset hs
  · exact inv_opStepConfirm hs
  · exact inv_opPfReset hs
  · exact inv_opKeyWrite hs
  · exact inv_opKeyCommit hs
  · exact inv_opKeyDiscard hs
  · exact inv_opKeyInvalidate hs
  · exact inv_opKeyErase hs
  · exact inv_opAttest hs
  · exact inv_opFwSvnConfirm hs
  · exact inv_opImageSvnConfirm hs
  · exact inv_opClaimRearm hs
  · exact inv_opServiceWindow hs
  · exact inv_opRtcSet hs
  · exact inv_opOsfClear hs
  · exact inv_opAlarmAck hs
  · exact inv_opLogClear hs
  · exact inv_opLogReset hs
  · exact inv_opTrigger hs
  · exact inv_opProtect hs
  · exact inv_opRelease hs
  · exact inv_opExport hs
  · exact inv_opCaptureReset hs
  · exact inv_opCageRestore hs
  · exact inv_opLampTest hs
  · exact inv_opPathReset hs
  · exact inv_opDumpProtect hs
  · exact inv_opDumpRelease hs
  · exact inv_deny hs

theorem formed_execPathReset {dt : Nat} {rq : Req} {s : State} (hs : Inv s) : Formed (execPathReset dt rq s) :=
  formed_done (inv_doExec (fun _ ht => inv_opPathReset ht) (inv_advance hs))

theorem formed_execSessionClose {dt : Nat} {rq : Req} {n : Nat} {s : State} (hs : Inv s) : Formed (execSessionClose dt rq n s) :=
  formed_done (inv_doExec (fun _ ht => inv_opSessionClose ht) (inv_advance hs))

end Sys2Proof.Machine
end

section
/-! PROOF. Guest memory stays in its canonical form (O56): the operations of the model's Jalyn. -/

set_option Elab.async false

open Sys2Proof Sys2Proof.Machine

namespace Sys2Proof.Machine

theorem formed_execDtlsClientHello {dt port : Nat} {h : ClientHello} {s : State} (hs : Inv s) :
    Formed (execDtlsClientHello dt port h s) := by
  unfold execDtlsClientHello
  refine formed_ite (formed_done (inv_advance hs)) ?_
  split
  · exact formed_done (inv_advance hs)
  · exact formed_done (inv_vaultPush (inv_mk (inv_advance hs)))

theorem inv_helloLog {s : State} {n role port result : Nat} (hs : Inv s) : Inv (helloLog s n role port result) :=
  inv_ite (inv_logRec hs) (inv_bump (inv_logRec hs))

theorem inv_helloRefuse {s : State} {k : Nat} {a : Assoc} {h : HelloReq} {st : Nat} (hs : Inv s) : Inv (helloRefuse s k a h st) :=
  inv_helloLog (inv_mk hs)

theorem inv_helloDo {rq : Req} {role : Nat} {s : State} {se : Sess} (hs : Inv s) : Inv (helloDo rq role s se) :=
  inv_helloLog (inv_respond hs)

theorem inv_helloAgain {s : State} {n : Nat} {h : HelloReq} (hs : Inv s) : Inv (helloAgain s n h) :=
  inv_onRequest (fun _ _ ht => inv_helloDo ht) hs

theorem formed_execHello {dt assoc : Nat} {h : HelloReq} {s : State} (hs : Inv s) : Formed (execHello dt assoc h s) := by
  unfold execHello
  dsimp only
  split
  · exact formed_done (inv_advance hs)
  · refine formed_ite (formed_done (inv_advance hs)) ?_
    split
    · exact formed_done (inv_helloAgain (inv_advance hs))
    · split
      · exact formed_done (inv_helloRefuse (inv_advance hs))
      · split
        · exact formed_done (inv_helloRefuse (inv_advance hs))
        · exact formed_done (inv_helloRefuse (inv_advance hs))
        · exact formed_ite (formed_done (inv_helloRefuse (inv_advance hs))) (formed_done (inv_helloLog (inv_respond (inv_setSess (inv_mk
            (inv_advance hs))))))

theorem inv_gwAsk {s : State} {rq : Req} {se : Sess} {idx op : Nat} {ad : Addr} {typ : Nat} {bytes : List Byte} (hs : Inv s) :
    Inv (gwAsk s rq se idx op ad typ bytes).2 :=
  inv_snd_ite hs (inv_snd_ite hs (inv_snd_ite hs (inv_snd_ite hs (inv_snd_ite hs (inv_snd_ite hs (inv_gwSend (inv_mk hs)))))))

theorem inv_gwDone {s : State} {p : Nat} {e : RespE} (hs : Inv s) : Inv (gwDone s p e) := by
  unfold gwDone
  split
  · exact hs
  · exact inv_gwSend (inv_answerLate (inv_mk hs))

theorem inv_replyIn {s : State} {c p code len : Nat} {ws : List Word} (hs : Inv s) : Inv (replyIn s c p code len ws) :=
  inv_ite (inv_chanPut hs) hs

theorem formed_execGatewayReply {dt p code len : Nat} {ws : List Word} {s : State} (hs : Inv s) :
    Formed (execGatewayReply dt p code len ws s) := by
  unfold execGatewayReply
  extract_lets t
  have ht : Inv t := inv_advance hs
  clear_value t
  split
  · exact formed_done ht
  · extract_lets u
    have hu : Inv u := inv_replyIn ht
    clear_value u
    split
    · exact formed_done hu
    · refine formed_ite (formed_done hu) ?_
      extract_lets v
      have hv : Inv v := inv_chanTake hu
      clear_value v
      split
      · exact formed_done (inv_mk hv)
      · split
        · exact formed_done hv
        · split
          · exact formed_ite (formed_done hv) (formed_done (inv_gwDone hv))
          · exact formed_done hv

theorem formed_execGatewayTimeout {dt p : Nat} {s : State} (hs : Inv s) : Formed (execGatewayTimeout dt p s) := by
  unfold execGatewayTimeout
  dsimp only
  split
  · exact formed_ite (formed_done (inv_gwDone (inv_mk (inv_advance hs)))) (formed_done (inv_advance hs))
  · exact formed_done (inv_advance hs)

theorem inv_readAll {rq : Req} {se : Sess} {staged : Bool} {idx : Nat} {l : List Addr} {s : State} (hs : Inv s) :
    Inv (readAll rq se staged idx l s).2.2 := by
  induction l generalizing idx s with
  | nil => exact hs
  | cons ad r ih =>
    rw [readAll]
    dsimp only
    refine ih ?_
    cases inGateway ad
    · exact inv_ite (inv_nowRead hs) hs
    · exact inv_gwAsk hs

theorem inv_refuse {s : State} {rq : Req} {op st : Nat} (hs : Inv s) : Inv (refuse s rq op st) := inv_respond hs

theorem inv_keepRest {s : State} {rq : Req} {b : ReqBody} {idx : Nat} {all : Bool} (hs : Inv s) : Inv (keepRest s rq b idx all) := by
  unfold keepRest
  split
  · exact inv_setSess hs
  · exact hs

theorem inv_readDo {rq : Req} {staged : Bool} {addrs : List Addr} {s : State} {se : Sess} (hs : Inv s) :
    Inv (readDo rq staged addrs s se) :=
  inv_ite (inv_refuse hs) (inv_keepRest (inv_respond (inv_readAll hs)))

theorem formed_execReadMsg {dt : Nat} {rq : Req} {staged : Bool} {addrs : List Addr} {s : State} (hs : Inv s) :
    Formed (execReadMsg dt rq staged addrs s) :=
  formed_done (inv_onRequest (fun _ _ ht => inv_readDo ht) (inv_advance hs))

theorem inv_writeOne {s : State} {rq : Req} {se : Sess} {idx : Nat} {e : WEntry} (hs : Inv s) : Inv (writeOne s rq se idx e).2 := by
  unfold writeOne
  exact inv_snd_ite (inv_gwAsk hs) (inv_writeEntry (fun t a a1 ht => inv_writeRow ht) hs)

theorem inv_writeAll {rq : Req} {se : Sess} {idx : Nat} {l : List WEntry} {s : State} (hs : Inv s) :
    Inv (writeAll rq se idx l s).2.2 := by
  induction l generalizing idx s with
  | nil => exact hs
  | cons e r ih => exact ih (inv_writeOne hs)

theorem inv_writeDo {rq : Req} {es : List WEntry} {s : State} {se : Sess} (hs : Inv s) : Inv (writeDo rq es s se) :=
  inv_ite (inv_refuse hs) (inv_ite (inv_refuse hs) (inv_keepRest (inv_respond (inv_writeAll hs))))

theorem inv_restGoOn {s : State} {x : RestReq} (hs : Inv s) : Inv (restGoOn s x) := by
  unfold restGoOn
  split
  · exact hs
  · rename_i se _
    extract_lets more
    have hmore : ∀ es w b all u, Inv u → Inv (more es w b all u) := by
      intro es w b all u hu
      dsimp only [more]
      split
      · exact hu
      · exact inv_keepRest (inv_setSess hu)
    clear_value more
    split
    · rename_i staged a _ _
      exact hmore _ _ _ _ _ (inv_readAll (rq := x.rq) (se := se) (staged := staged) (idx := x.idx) (l := [a]) hs)
    · rename_i e _ _
      exact hmore _ _ _ _ _ (inv_writeAll (rq := x.rq) (se := se) (idx := x.idx) (l := [e]) hs)
    · exact inv_setSess hs

theorem formed_execWriteMsg {dt : Nat} {rq : Req} {es : List WEntry} {s : State} (hs : Inv s) : Formed (execWriteMsg dt rq es s) :=
  formed_done (inv_onRequest (fun _ _ ht => inv_writeDo ht) (inv_advance hs))

theorem inv_execOne {s : State} {rq : Req} {se : Sess} {e : WEntry} (hs : Inv s) : Inv (execOne s rq se e).s := by
  unfold execOne
  refine inv_res_ite (inv_deny hs) ?_
  split
  · exact inv_deny hs
  · split
    · exact inv_deny hs
    · exact inv_runExec (fun t ht => inv_cmdOp ht) hs

theorem inv_execDo {rq : Req} {e : WEntry} {s : State} {se : Sess} (hs : Inv s) : Inv (execDo rq e s se) := by
  unfold execDo
  refine inv_ite ?_ (inv_respond (inv_execOne hs))
  split
  rename_i a t heq
  have ht := inv_of_snd heq (inv_gwAsk hs)
  exact inv_respond ht

theorem formed_execExecMsg {dt : Nat} {rq : Req} {e : WEntry} {s : State} (hs : Inv s) : Formed (execExecMsg dt rq e s) :=
  formed_done (inv_onRequest (fun _ _ ht => inv_execDo ht) (inv_advance hs))

theorem inv_tableReadDo {rq : Req} {addr : Addr} {first rows : Nat} {s : State} {se : Sess} (hs : Inv s) :
    Inv (tableReadDo rq addr first rows s se) := by
  unfold tableReadDo
  split
  exact inv_ite (inv_refuse hs) (inv_respond hs)

theorem formed_execTableRead {dt : Nat} {rq : Req} {addr : Addr} {first rows : Nat} {s : State} (hs : Inv s) :
    Formed (execTableRead dt rq addr first rows s) :=
  formed_done (inv_onRequest (fun _ _ ht => inv_tableReadDo ht) (inv_advance hs))

theorem inv_tableRow {s : State} {rq : Req} {se : Sess} {ad : Addr} {idx row : Nat} {bs : List Byte} (hs : Inv s) :
    Inv (tableRow s rq se ad idx row bs).s := by
  unfold tableRow
  refine inv_res_ite (inv_deny hs) (inv_res_ite (inv_deny hs) (inv_res_ite (inv_deny hs) ?_))
  split
  · exact inv_deny hs
  · split
    · split
      · exact inv_deny hs
      · exact inv_res_ite (inv_deny hs) (inv_writeRow hs)
    · exact inv_deny hs

theorem inv_tableAll {rq : Req} {se : Sess} {ad : Addr} {first idx : Nat} {l : List (List Byte)} {s : State} (hs : Inv s) :
    Inv (tableAll rq se ad first idx l s).2.2.2 := by
  induction l generalizing idx s with
  | nil => exact hs
  | cons b r ih =>
    have hrow : Inv (tableRow s rq se ad idx (first + idx) b).s := inv_tableRow hs
    unfold tableAll
    dsimp only
    split
    · exact ih hrow
    · split
      · exact hrow
      · exact hrow

theorem inv_keepLeft {s : State} {rq : Req} {ad : Addr} {first idx : Nat} {l : List (List Byte)} (hs : Inv s) :
    Inv (keepLeft s rq ad first idx l) := by
  unfold keepLeft
  split
  · exact inv_setSess hs
  · exact hs

theorem inv_tableWriteDo {rq : Req} {ad : Addr} {first : Nat} {rows : List (List Byte)} {s : State} {se : Sess} (hs : Inv s) :
    Inv (tableWriteDo rq ad first rows s se) :=
  inv_ite (inv_refuse hs) (inv_ite (inv_respond hs) (inv_keepLeft (inv_respond (inv_tableAll hs))))

theorem inv_tableGoOn {s : State} {x : RowsLeft} (hs : Inv s) : Inv (tableGoOn s x) := by
  unfold tableGoOn
  split
  · exact hs
  · split
    · exact inv_setSess hs
    · extract_lets ok
      have ht : Inv (if ok then tableAll x.rq ‹_› x.addr x.first x.idx x.rows s else ([], [], [], s)).2.2.2 := by
        split
        · exact inv_tableAll hs
        · exact hs
      split
      rename_i heq
      rw [heq] at ht
      split
      · exact ht
      · exact inv_keepLeft (inv_setSess ht)

theorem formed_execTableWrite {dt : Nat} {rq : Req} {addr : Addr} {first : Nat} {rows : List (List Byte)} {s : State} (hs : Inv s) :
    Formed (execTableWrite dt rq addr first rows s) :=
  formed_done (inv_onRequest (fun _ _ ht => inv_tableWriteDo ht) (inv_advance hs))

theorem formed_execForceTableWrite {dt : Nat} {rq : Req} {row : Nat} {bytes : List Byte} {s : State} (hs : Inv s) :
    Formed (execForceTableWrite dt rq row bytes s) :=
  formed_done (inv_onRequest (fun _ _ ht => inv_tableWriteDo ht) (inv_advance hs))

theorem inv_bulkAdd {s : State} {ad : Addr} {l : List Byte} (hs : Inv s) : Inv (bulkAdd s ad l) := by
  unfold bulkAdd
  split
  · exact inv_mk hs
  · exact inv_mk hs
  · exact inv_setPart hs
  · exact hs

theorem inv_bulkDo {rq : Req} {addr : Addr} {isWrite : Bool} {offset count : Nat} {data : List Byte} {s : State} {se : Sess}
    (hs : Inv s) : Inv (bulkDo rq addr isWrite offset count data s se) := by
  unfold bulkDo
  extract_lets _ _ t
  have ht : Inv t := inv_bulkAdd (inv_setSess hs)
  clear_value t
  exact inv_ite (inv_refuse hs) (inv_ite (inv_respond ht) (inv_respond hs))

theorem formed_execBulk {dt : Nat} {rq : Req} {addr : Addr} {isWrite : Bool} {offset count : Nat} {data : List Byte} {s : State}
    (hs : Inv s) : Formed (execBulk dt rq addr isWrite offset count data s) :=
  formed_done (inv_onRequest (fun _ _ ht => inv_bulkDo ht) (inv_advance hs))

theorem inv_subscribeDo {rq : Req} {addr : Addr} {mode minInterval period deadband : Nat} {s : State} {se : Sess} (hs : Inv s) :
    Inv (subscribeDo rq addr mode minInterval period deadband s se) :=
  inv_ite (inv_refuse hs) (inv_ite (inv_refuse hs) (inv_ite (inv_respond (inv_setSess hs)) (inv_respond (inv_setSess hs))))

theorem formed_execSubscribe {dt : Nat} {rq : Req} {addr : Addr} {mode minInterval period deadband : Nat} {s : State} (hs : Inv s) :
    Formed (execSubscribe dt rq addr mode minInterval period deadband s) :=
  formed_done (inv_onRequest (fun _ _ ht => inv_subscribeDo ht) (inv_advance hs))

theorem formed_execJalynDatagram {dt sess size version seq : Nat} {ackValid : Bool} {ackNo : Nat} {s : State} (hs : Inv s) :
    Formed (execJalynDatagram dt sess size version seq ackValid ackNo s) := by
  unfold execJalynDatagram
  refine formed_ite (formed_done (inv_advance hs)) (formed_ite (formed_done (inv_bump (inv_advance hs))) ?_)
  split
  · exact formed_done (inv_advance hs)
  · exact formed_ite (formed_done (inv_bump (inv_advance hs))) (formed_done (inv_setSess (inv_advance hs)))

theorem formed_execAck {dt sess ackNo : Nat} {s : State} (hs : Inv s) : Formed (execAck dt sess ackNo s) := by
  unfold execAck
  dsimp only
  split
  · exact formed_ite (formed_done (inv_setSess (inv_advance hs))) (formed_done (inv_advance hs))
  · split
    · exact formed_ite (formed_done (inv_advance hs)) (formed_done (inv_mk (inv_advance hs)))
    · exact formed_done (inv_advance hs)

theorem formed_execJalynAckDue {dt sess : Nat} {s : State} (hs : Inv s) : Formed (execJalynAckDue dt sess s) := by
  unfold execJalynAckDue
  dsimp only
  split
  · exact formed_ite (formed_done (inv_setSess (inv_advance hs))) (formed_done (inv_advance hs))
  · exact formed_done (inv_advance hs)

theorem inv_assocAgain {s : State} {k seq : Nat} (hs : Inv s) : Inv (assocAgain s k seq) := by
  unfold assocAgain
  split
  · exact hs
  · split
    · exact hs
    · exact inv_ite hs (inv_ite (inv_mk hs) (inv_mk hs))

theorem formed_execJalynRetransmit {dt sess seq : Nat} {s : State} (hs : Inv s) : Formed (execJalynRetransmit dt sess seq s) := by
  unfold execJalynRetransmit
  extract_lets t
  have ht : Inv t := inv_advance hs
  clear_value t
  split
  · exact formed_done (inv_ite ht (inv_assocAgain ht))
  · split
    · exact formed_done ht
    · extract_lets
      exact formed_ite (formed_done ht) (formed_ite (formed_done (inv_closeSess ht)) (formed_done (inv_setSess ht)))

theorem formed_execSessionIdleNotice {dt sess : Nat} {s : State} (hs : Inv s) : Formed (execSessionIdleNotice dt sess s) := by
  unfold execSessionIdleNotice
  dsimp only
  split
  · exact formed_ite (formed_done (inv_notify (inv_setSess (inv_advance hs)))) (formed_done (inv_advance hs))
  · exact formed_done (inv_advance hs)

theorem formed_execSessionIdleExpiry {dt sess : Nat} {s : State} (hs : Inv s) : Formed (execSessionIdleExpiry dt sess s) := by
  unfold execSessionIdleExpiry
  dsimp only
  split
  · exact formed_ite (formed_done (inv_closeSess (inv_advance hs))) (formed_done (inv_advance hs))
  · exact formed_done (inv_advance hs)

theorem formed_execSessionCloseNoticeExpiry {dt n : Nat} {s : State} (hs : Inv s) : Formed (execSessionCloseNoticeExpiry dt n s) := by
  unfold execSessionCloseNoticeExpiry
  dsimp only
  split
  · exact formed_ite (formed_done (inv_closeSess (inv_advance hs))) (formed_done (inv_advance hs))
  · exact formed_done (inv_advance hs)

theorem formed_execNotifyPeriodic {dt sess subId : Nat} {s : State} (hs : Inv s) : Formed (execNotifyPeriodic dt sess subId s) := by
  unfold execNotifyPeriodic
  dsimp only
  split
  · exact formed_done (inv_advance hs)
  · split
    · exact formed_done (inv_advance hs)
    · exact formed_ite (formed_done (inv_advance hs)) (formed_done (inv_notify (inv_setSess (inv_advance hs))))

theorem formed_execNotifyMinIntervalEnd {dt sess subId : Nat} {s : State} (hs : Inv s) :
    Formed (execNotifyMinIntervalEnd dt sess subId s) := by
  unfold execNotifyMinIntervalEnd
  dsimp only
  split
  · exact formed_done (inv_advance hs)
  · split
    · exact formed_ite (formed_done (inv_advance hs)) (formed_ite (formed_done (inv_notify (inv_setSess (inv_advance hs)))) (formed_done
        (inv_setSess (inv_advance hs))))
    · exact formed_done (inv_advance hs)

theorem formed_execExecDone {dt sess reqId : Nat} {s : State} (hs : Inv s) : Formed (execExecDone dt sess reqId s) := by
  unfold execExecDone
  dsimp only
  split
  · exact formed_done (inv_advance hs)
  · split
    · exact formed_done (inv_advance hs)
    · exact formed_done (inv_notify (inv_setSess (inv_advance hs)))

theorem formed_execNotifyLost {dt sess : Nat} {s : State} (hs : Inv s) : Formed (execNotifyLost dt sess s) :=
  formed_ite (formed_done (inv_flushLost (inv_advance hs))) (formed_done (inv_advance hs))

theorem formed_execRelayDatagram {dt : Nat} {fromPartner : Bool} {bytes : List Byte} {s : State} (hs : Inv s) :
    Formed (execRelayDatagram dt fromPartner bytes s) :=
  formed_ite (formed_done (inv_advance hs)) (formed_ite (formed_done (inv_mk (inv_advance hs))) (formed_done (inv_sendIul (inv_advance
    hs))))

theorem inv_jalynSend {s : State} {port : Nat} {bytes : List Byte} (hs : Inv s) : Inv (jalynSend s port bytes) := by
  unfold jalynSend
  refine inv_ite (inv_ite (inv_sendIul hs) hs) ?_
  split
  · exact inv_sendTo hs
  · exact hs

theorem inv_jalynOut {s : State} (hs : Inv s) : Inv (jalynOut s) := inv_ite hs (inv_foldl (fun _ _ ht => inv_jalynSend ht) (inv_mk hs))

theorem inv_reqDo {rq : Req} {b : ReqBody} {s : State} {se : Sess} (hs : Inv s) : Inv (reqDo rq b s se) := by
  unfold reqDo
  split
  · exact inv_readDo hs
  · exact inv_writeDo hs
  · exact inv_execDo hs
  · exact inv_respond (inv_runExec (fun t ht => inv_cmdOp ht) hs)
  · exact inv_tableReadDo hs
  · exact inv_tableWriteDo hs
  · exact inv_bulkDo hs
  · exact inv_subscribeDo hs
  · exact inv_helloDo hs

theorem inv_sessTurn {s : State} {n : Nat} {se : Sess} (hs : Inv s) : Inv (sessTurn s n se) := by
  unfold sessTurn
  split
  · exact inv_restGoOn hs
  · exact inv_tableGoOn hs
  · exact inv_runReq (fun t a ht => inv_reqDo ht) (inv_setSess hs)
  · exact hs

theorem inv_platformTurn {s : State} (hs : Inv s) : Inv (platformTurn s) := by
  unfold platformTurn
  refine inv_ite hs ?_
  dsimp only
  split
  · exact inv_settle (inv_sessTurn (inv_jalynOut hs))
  · exact inv_jalynOut hs

end Sys2Proof.Machine
end

section
/-! PROOF. Guest memory stays in its canonical form (O56): the operations of the model's Dispatch. -/

set_option Elab.async false

open Sys2Proof Sys2Proof.Machine

namespace Sys2Proof.Machine

/-- Whatever the command, the state it answers has the form: each command by its own lemma. -/
theorem formed_exec {i : Instr} {s : State} (hs : Inv s) : Formed (exec i s) := by
  unfold exec
  split
  · exact formed_execSupplyGood hs
  · exact formed_execHubRelease hs
  · exact formed_execFirmwareImageRead hs
  · exact formed_execFirmwareVerified hs
  · exact formed_execUnitStartComplete hs
  · exact formed_execHoldupReady hs
  · exact formed_execOscReady hs
  · exact formed_execPartImageRead hs
  · exact formed_execPartImageVerified hs
  · exact formed_execDiePowerUpDone hs
  · exact formed_execD2dLinkFail hs
  · exact formed_execCcLockstepMismatch hs
  · exact formed_execWdtService hs
  · exact formed_execWdtLapse hs
  · exact formed_execFatalError hs
  · exact formed_execDumpWriteDone hs
  · exact formed_execDumpProtect hs
  · exact formed_execDumpRelease hs
  · exact formed_execRestart hs
  · exact formed_execFwImageApply hs
  · exact formed_execFwApplyDone hs
  · exact formed_execFwActivate hs
  · exact formed_execUnitDisable hs
  · exact formed_execUnitEnable hs
  · exact formed_execUnitDrained hs
  · exact formed_execCommission hs
  · exact formed_execQuarantineEnter hs
  · exact formed_execQuarantineLeave hs
  · exact formed_execDecommission hs
  · exact formed_execModuleInsert hs
  · exact formed_execModuleRemove hs
  · exact formed_execTransceiverInsert hs
  · exact formed_execCagePowerOn hs
  · exact formed_execTransceiverRemove hs
  · exact formed_execCageOvercurrent hs
  · exact formed_execCageRestore hs
  · exact formed_execSfpIdRead hs
  · exact formed_execSfpDdmPoll hs
  · exact formed_execLampTest hs
  · exact formed_execLampTestEnd hs
  · exact formed_execPfAssert hs
  · exact formed_execPfClear hs
  · exact formed_execRideThroughExpiry hs
  · exact formed_execVinLossCharging hs
  · exact formed_execTempWarning hs
  · exact formed_execTempFatal hs
  · exact formed_execPpsInEdge hs
  · exact formed_execIrigFrame hs
  · exact formed_execPpsAbsent hs
  · exact formed_execPpsOutRise hs
  · exact formed_execPpsOutFall hs
  · exact formed_execTamperSample hs
  · exact formed_execTamperSensorEvent hs
  · exact formed_execServiceWindow hs
  · exact formed_execServiceWindowExpiry hs
  · exact formed_execDtlsClientHello hs
  · exact formed_execJalynDatagram hs
  · exact formed_execHello hs
  · exact formed_execReadMsg hs
  · exact formed_execWriteMsg hs
  · exact formed_execExecMsg hs
  · exact formed_execTableRead hs
  · exact formed_execTableWrite hs
  · exact formed_execBulk hs
  · exact formed_execSubscribe hs
  · exact formed_execAck hs
  · exact formed_execJalynAckDue hs
  · exact formed_execJalynRetransmit hs
  · exact formed_execSessionIdleNotice hs
  · exact formed_execSessionIdleExpiry hs
  · exact formed_execSessionClose hs
  · exact formed_execNotifyPeriodic hs
  · exact formed_execNotifyMinIntervalEnd hs
  · exact formed_execExecDone hs
  · exact formed_execNotifyLost hs
  · exact formed_execRelayDatagram hs
  · exact formed_execGatewayReply hs
  · exact formed_execGatewayTimeout hs
  · exact formed_execStageCommit hs
  · exact formed_execStageApply hs
  · exact formed_execStageDiscard hs
  · exact formed_execBundleApply hs
  · exact formed_execPathReset hs
  · exact formed_execLinkDown hs
  · exact formed_execLinkUp hs
  · exact formed_execTxDisableHoldEnd hs
  · exact formed_execPortAdminWrite hs
  · exact formed_execPortModeWrite hs
  · exact formed_execRxFrame hs
  · exact formed_execPauseEnd hs
  · exact formed_execPauseCeilingReached hs
  · exact formed_execPauseLockoutEnd hs
  · exact formed_execNodeAgeOut hs
  · exact formed_execSupervisionTx hs
  · exact formed_execTxFrameDone hs
  · exact formed_execPortCountersReset hs
  · exact formed_execGroupCountersReset hs
  · exact formed_execServoFreqWrite hs
  · exact formed_execSlewComplete hs
  · exact formed_execSecondRollover hs
  · exact formed_execSyncReceiptTimeout hs
  · exact formed_execHoldoverLimitExpiry hs
  · exact formed_execAnnounceReceiptTimeout hs
  · exact formed_execPtpSyncTx hs
  · exact formed_execPtpAnnounceTx hs
  · exact formed_execPdelayReqTx hs
  · exact formed_execPtpFaultyRetry hs
  · exact formed_execTimeSet hs
  · exact formed_execTimeAdjust hs
  · exact formed_execStepConfirm hs
  · exact formed_execPtpProfileWrite hs
  · exact formed_execLeapSecond hs
  · exact formed_execTimeCountersReset hs
  · exact formed_execLaunchTimeReached hs
  · exact formed_execLaunchLate hs
  · exact formed_execLearnedRateUpdate hs
  · exact formed_execRowClose hs
  · exact formed_execRowRelease hs
  · exact formed_execStreamCountersReset hs
  · exact formed_execSvPortCountersReset hs
  · exact formed_execPlanCountersReset hs
  · exact formed_execConditioningComplete hs
  · exact formed_execBankSeal hs
  · exact formed_execProfileSwap hs
  · exact formed_execProfileDisarm hs
  · exact formed_execFilterKat hs
  · exact formed_execCondCountersReset hs
  · exact formed_execGooseRequest hs
  · exact formed_execGooseRetransmit hs
  · exact formed_execGooseTalExpiry hs
  · exact formed_execLatchListenEnd hs
  · exact formed_execGoCountersReset hs
  · exact formed_execOsCountersReset hs
  · exact formed_execGsubCountersReset hs
  · exact formed_execPartStart hs
  · exact formed_execPartStop hs
  · exact formed_execPartReset hs
  · exact formed_execPartFault hs
  · exact formed_execPwAbortWrite hs
  · exact formed_execFenceComplete hs
  · exact formed_execFenceTimeout hs
  · exact formed_execPartitionDrained hs
  · exact formed_execDisableTimeoutExpiry hs
  · exact formed_execRestartDelayExpiry hs
  · exact formed_execPartImageApply hs
  · exact formed_execPartitionZeroed hs
  · exact formed_execMigPrepare hs
  · exact formed_execMigStart hs
  · exact formed_execMigRoundEnd hs
  · exact formed_execMigRestoreComplete hs
  · exact formed_execMigAbort hs
  · exact formed_execMigPathFail hs
  · exact formed_execTtSubmit hs
  · exact formed_execSubmitRingEntry hs
  · exact formed_execTriggerPendingRelease hs
  · exact formed_execTtDispatch hs
  · exact formed_execTtDone hs
  · exact formed_execTtCommit hs
  · exact formed_execCommitSlotFree hs
  · exact formed_execTtCancel hs
  · exact formed_execTtFlowOpen hs
  · exact formed_execTtFlowClose hs
  · exact formed_execTtResultRead hs
  · exact formed_execBudgetStop hs
  · exact formed_execRingProdWrite hs
  · exact formed_execRingConsWrite hs
  · exact formed_execDmaEntry hs
  · exact formed_execDmaComplete hs
  · exact formed_execDmaEngineFault hs
  · exact formed_execTtCountersReset hs
  · exact formed_execSnapshotLoRead hs
  · exact formed_execCfMissedRead hs
  · exact formed_execPfDeniedRead hs
  · exact formed_execLgOverrunRead hs
  · exact formed_execRegisterWrite hs
  · exact formed_execPhPost hs
  · exact formed_execPhStageHeader hs
  · exact formed_execPhTake hs
  · exact formed_execPhBellRing hs
  · exact formed_execPhAckTimeout hs
  · exact formed_execPhCountersReset hs
  · exact formed_execCycleBoundary hs
  · exact formed_execLogicShadowCopyDone hs
  · exact formed_execOnlineWrite hs
  · exact formed_execLogicRestart hs
  · exact formed_execForceTableWrite hs
  · exact formed_execForceClearAll hs
  · exact formed_execForceNotifyPeriodic hs
  · exact formed_execForceNoticeMissed hs
  · exact formed_execLogicUnitFault hs
  · exact formed_execLogicCountersReset hs
  · exact formed_execLaneTrainSwitch hs
  · exact formed_execLaneUp hs
  · exact formed_execPairHelloTx hs
  · exact formed_execPairHello hs
  · exact formed_execPairEnableWrite hs
  · exact formed_execMirror hs
  · exact formed_execMirrorAck hs
  · exact formed_execPresence hs
  · exact formed_execSeats hs
  · exact formed_execTags hs
  · exact formed_execAgree hs
  · exact formed_execEqLost hs
  · exact formed_execEqDeadlineExpiry hs
  · exact formed_execDigest hs
  · exact formed_execDigestWaitExpiry hs
  · exact formed_execAlign hs
  · exact formed_execImportCheckpoint hs
  · exact formed_execBeaconTx hs
  · exact formed_execTakeoverEval hs
  · exact formed_execIsolationTimeExpiry hs
  · exact formed_execClaimRaise hs
  · exact formed_execHandover hs
  · exact formed_execHandoverRx hs
  · exact formed_execHandoverAck hs
  · exact formed_execHandoverAckTimeout hs
  · exact formed_execBolpelCycle hs
  · exact formed_execBolpelRequest hs
  · exact formed_execBolpelFrameEnd hs
  · exact formed_execBolpelEcho hs
  · exact formed_execBolpelEchoTimeout hs
  · exact formed_execReportTx hs
  · exact formed_execReport hs
  · exact formed_execIulDown hs
  · exact formed_execTimeXcheck hs
  · exact formed_execSelftestCheck hs
  · exact formed_execPairCountersReset hs
  · exact formed_execPfTokenRefill hs
  · exact formed_execPfCountersReset hs
  · exact formed_execImageLoaderWriteRefused hs
  · exact formed_execKeyWrite hs
  · exact formed_execKeyCommit hs
  · exact formed_execKeyDiscard hs
  · exact formed_execKeyInvalidate hs
  · exact formed_execKeyErase hs
  · exact formed_execKeySlotIntegrityCheck hs
  · exact formed_execVaultOpComplete hs
  · exact formed_execVaultSegmentEnd hs
  · exact formed_execTrafficKeyDerived hs
  · exact formed_execVaultMacRequest hs
  · exact formed_execAttest hs
  · exact formed_execFwSvnConfirm hs
  · exact formed_execImageSvnConfirm hs
  · exact formed_execClaimRearm hs
  · exact formed_execRtcSecondBoundary hs
  · exact formed_execRtcCommit hs
  · exact formed_execRtcCommitImmediate hs
  · exact formed_execAlarmArm hs
  · exact formed_execRtcSet hs
  · exact formed_execRtcOsfClear hs
  · exact formed_execRtcAlarmAck hs
  · exact formed_execRtcLatchRead hs
  · exact formed_execRtcLatchExpiry hs
  · exact formed_execRtcTrimWindow hs
  · exact formed_execRtcOscStop hs
  · exact formed_execRtcDiscipline hs
  · exact formed_execVaultLockout hs
  · exact formed_execVbakSwitch hs
  · exact formed_execLogRecordIntake hs
  · exact formed_execLogMirrorWrite hs
  · exact formed_execLogTokenReturn hs
  · exact formed_execLogClear hs
  · exact formed_execLogWriteMsg hs
  · exact formed_execLogReadMsg hs
  · exact formed_execLogClearMsg hs
  · exact formed_execLogCountersReset hs
  · exact formed_execPickupEntry hs
  · exact formed_execCaptureTrigger hs
  · exact formed_execCaptureRearm hs
  · exact formed_execTrendRateRestore hs
  · exact formed_execRecordProtect hs
  · exact formed_execRecordRelease hs
  · exact formed_execCaptureExport hs
  · exact formed_execCaptureExportDone hs
  · exact formed_execCaptureCountersReset hs
  · exact formed_execInternalCheckFail hs
  · exact formed_execVaultSupplyLow hs
  · exact formed_execCrystalRestart hs
  · exact formed_execSessionCloseNoticeExpiry hs

end Sys2Proof.Machine
end
section
/-! PROOF. Every step keeps guest memory in its canonical form (O56). -/

set_option Elab.async false

open Sys2Proof Sys2Proof.Machine

namespace Sys2Proof.Machine

/-- A step is a turn of the platform firmware or the waiting command. -/
theorem formed_step {s : State} (hs : Inv s) : Formed (step s) := by
  unfold step
  split
  · intro t ht
    cases ht
    exact inv_platformTurn hs
  · exact formed_exec (inv_mk hs)

end Sys2Proof.Machine
end

/-- Settles O56: every function of the model reaches guest memory through the operations that keep its form. -/
theorem memoryKeepsItsForm : Obligations.MemoryKeepsItsForm := by
  unfold Obligations.MemoryKeepsItsForm
  exact fun _ t hs ht => Sys2Proof.Machine.formed_step hs t ht

section
/-! PROOF. The ring registers of the window (R376, R388): which register an offset of their range names, and that a partition that does not
own the ring reads zero there and changes nothing. -/
open Sys2Proof Sys2Proof.Machine
namespace Sys2Proof.Machine

/-- Register i of the four of ring q, of its sixteen octets. -/
theorem ringOffset_split {q i : Nat} (hi : i < 4) :
    (0x1000 + 16 * q + 4 * i - 0x1000) / 16 = q ∧ (0x1000 + 16 * q + 4 * i) % 16 = 4 * i := by omega

/-- No pair of registers lies in the rings' range (R129). -/
theorem pairAt_rings (s : State) (p : Nat) {off : Nat} (hlo : 0x1000 ≤ off) (hhi : off < 0x2000) : pairAt s p off = none := by
  unfold pairAt
  split
  case h_6 => exact if_neg (by simp only [Bool.and_eq_true, decide_eq_true_eq]; omega)
  all_goals omega

/-- A read in the rings' range reads a ring's register. -/
theorem winRead_rings (s : State) (p core : Nat) {off : Nat} (hlo : 0x1000 ≤ off) (hhi : off < 0x2000) :
    winRead s p core off = ringReg s p ((off - 0x1000) / 16) (off % 16) := by
  have htt : winRead s p core off = ttReg s p core off := by
    simp only [winRead, pairAt_rings s p hlo hhi, Bool.or_eq_true, Bool.and_eq_true, decide_eq_true_eq, beq_iff_eq]
    repeat rw [if_neg (by omega)]
    rw [if_pos (by omega)]
  rw [htt]
  simp only [ttReg, Bool.and_eq_true, decide_eq_true_eq, beq_iff_eq]
  repeat rw [if_neg (by omega)]
  exact if_pos hlo

/-- The registers of a ring the partition does not own read zero (R388). -/
theorem ringReg_other {s : State} {p q : Nat} (k : Nat) (h : ownsRing s p q = false) : ringReg s p q k = 0 := by
  simp only [ringReg, h, Bool.not_false, if_true]

/-- A word in the rings' range changes nothing where the partition does not own the ring (R388). -/
theorem ttWrite_otherRing {s : State} {p core off : Nat} (w : Word) (hlo : 0x1000 ≤ off) (hhi : off < 0x2000)
    (h : ownsRing s p ((off - 0x1000) / 16) = false) : ttWrite s p core off w = s := by
  unfold ttWrite
  dsimp only
  rw [if_neg (by simp only [Bool.and_eq_true, decide_eq_true_eq]; omega), if_pos (by simp [hlo, hhi])]
  simp only [prodReg, h, Bool.not_false, if_true, Bool.and_false, Bool.false_eq_true, if_false, ite_self]

/-- A window write to a ring register the partition does not own changes nothing, by whichever core. -/
theorem winWrite_otherRing {s : State} {p core off : Nat} (w : Word) (hlo : 0x1000 ≤ off) (hhi : off < 0x2000)
    (h : ownsRing s p ((off - 0x1000) / 16) = false) : winWrite s p core off w = s := by
  unfold winWrite
  rw [ttWrite_otherRing w hlo hhi h, if_neg (c := (decide (0x4000 ≤ off) && decide (off < 0x8000)) = true)
    (by simp only [Bool.and_eq_true, decide_eq_true_eq]; omega), if_neg (c := (off == 0x48) = true) (by simp only [beq_iff_eq]; omega)]
  simp only [ite_self]

/-- A doorbell of a ring its writer does not own ends with the state as it was. -/
theorem exec_ringProdWrite_other {dt p q : Nat} {s : State} (w : Word) (es : List Entry) (h : ownsRing (advance dt s) p q = false) :
    exec (.ringProdWrite dt p q w es) s = done (advance dt s) := by
  change execRingProdWrite dt p q w es s = _
  simp only [execRingProdWrite, h, Bool.not_false, if_true]

/-- A write of CONS of a ring its writer does not own ends with the state as it was. -/
theorem exec_ringConsWrite_other {dt p q : Nat} {s : State} (w : Word) (h : ownsRing (advance dt s) p q = false) :
    exec (.ringConsWrite dt p q w) s = done (advance dt s) := by
  change execRingConsWrite dt p q w s = _
  simp only [execRingConsWrite, h, Bool.not_false, if_true]

end Sys2Proof.Machine

/-- Settles O53: an offset names a ring and one of its registers, and every access asks first who owns the ring. -/
theorem ringRegistersOfAnotherOwner : Obligations.RingRegistersOfAnotherOwner := by
  intro dt s a
  refine ⟨fun p core q i hq hi hown => ?read, fun p core q i w hq hi hown => ?write, fun p q w es hown => ?doorbell,
    fun p q w hown => ?cons⟩
  case read =>
    obtain ⟨hring, -⟩ := ringOffset_split (q := q) hi
    rw [winRead_rings a p core (by omega) (by omega), hring]
    exact ringReg_other _ hown
  case write =>
    obtain ⟨hring, -⟩ := ringOffset_split (q := q) hi
    have hsame := winWrite_otherRing (core := core) w (by omega) (by omega) (hring.symm ▸ hown)
    exact does_within (congrArg done hsame) (Within.refl ..) rfl
  case doorbell => exact does_within (exec_ringProdWrite_other w es hown) (Within.refl ..) rfl
  case cons => exact does_within (exec_ringConsWrite_other w hown) (Within.refl ..) rfl
end

section
/-! PROOF. What the work of the rings leaves alone (R360, R375 to R379): the DMA operations in flight, and, of an entry handed to its owner,
the entries of every ring. -/

open Sys2Proof Sys2Proof.Machine

namespace Sys2Proof.Machine

/-- The DMA operations in flight, the number of the next and the failed engines are as they were. -/
structure DmaKept (s t : State) : Prop where
  dma : t.tt.dma = s.tt.dma
  next : t.tt.nextDma = s.tt.nextDma
  failed : t.tt.dmaFailed = s.tt.dmaFailed

/-- Besides, every ring holds the entries it held. -/
structure EntriesKept (s t : State) : Prop extends DmaKept s t where
  slots : ∀ q, (ringOf t q).slots = (ringOf s q).slots

theorem DmaKept.refl (s : State) : DmaKept s s := ⟨rfl, rfl, rfl⟩

theorem DmaKept.trans {s t u : State} (h : DmaKept s t) (k : DmaKept t u) : DmaKept s u :=
  ⟨k.dma.trans h.dma, k.next.trans h.next, k.failed.trans h.failed⟩

theorem EntriesKept.refl (s : State) : EntriesKept s s := ⟨.refl s, fun _ => rfl⟩

theorem EntriesKept.trans {s t u : State} (h : EntriesKept s t) (k : EntriesKept t u) : EntriesKept s u :=
  ⟨h.toDmaKept.trans k.toDmaKept, fun q => (k.slots q).trans (h.slots q)⟩

theorem entriesKept_ite {c : Prop} [Decidable c] {s t u : State} (h : EntriesKept s t) (k : EntriesKept s u) :
    EntriesKept s (if c then t else u) := by
  split
  · exact h
  · exact k

/-- A change of the counters or the bells. -/
theorem entriesKept_of_tt {s t : State} (h : t.tt = s.tt) : EntriesKept s t :=
  ⟨⟨by rw [h], by rw [h], by rw [h]⟩, fun q => by rw [ringOf, h, ← ringOf]⟩

theorem ringOf_setRing_of_ne (s : State) {q r : Nat} (x : Ring) (h : r ≠ q) : ringOf (setRing s q x) r = ringOf s r := by
  simp only [ringOf, setRing_tt, tabGetD_tabPut, if_neg h]

theorem dmaKept_setRing (s : State) (q : Nat) (x : Ring) : DmaKept s (setRing s q x) := ⟨rfl, rfl, rfl⟩

/-- A ring set with the entries it held. -/
theorem entriesKept_setRing {s : State} {q : Nat} {x : Ring} (h : x.slots = (ringOf s q).slots) : EntriesKept s (setRing s q x) := by
  refine ⟨dmaKept_setRing .., fun r => ?_⟩
  by_cases hr : r = q
  · rw [hr, ringOf_setRing, h]
  · rw [ringOf_setRing_of_ne s x hr]

theorem entriesKept_makeReady (s : State) (p row : Nat) (d : ItemDesc) (src : ItemSrc) : EntriesKept s (makeReady s p row d src) :=
  ⟨⟨rfl, rfl, rfl⟩, fun _ => rfl⟩

/-! ## Triggers and bells -/

theorem entriesKept_trigItem (s : State) (q i j row : Nat) : EntriesKept s (trigItem s q i j row) := by
  unfold trigItem
  extract_lets p d r u
  have hu : EntriesKept s u := entriesKept_setRing rfl
  exact entriesKept_ite (entriesKept_of_tt rfl)
    (entriesKept_ite (hu.trans (entriesKept_makeReady ..)) (hu.trans (entriesKept_setRing rfl)))

theorem entriesKept_trigOne (s : State) (q row : Nat) : EntriesKept s (trigOne s q row) := by
  unfold trigOne
  exact entriesKept_ite (.refl s) (entriesKept_trigItem ..)

theorem entriesKept_trigAdvance (s : State) (q i n row : Nat) : EntriesKept s (trigAdvance s q i n row) := by
  unfold trigAdvance
  refine entriesKept_ite (entriesKept_setRing rfl) (entriesKept_ite ?_ (entriesKept_trigOne ..))
  exact foldl_keeps EntriesKept EntriesKept.refl (fun _ _ _ => EntriesKept.trans) _ (fun _ _ => entriesKept_trigItem ..) _ _

theorem entriesKept_bellItem (s : State) (p : Nat) : EntriesKept s (bellItem s p) := by
  unfold bellItem
  extract_lets b due v u
  have hu : EntriesKept s u := entriesKept_of_tt rfl
  exact entriesKept_ite (.refl s) (entriesKept_ite (entriesKept_of_tt rfl)
    (entriesKept_ite (.refl s) (hu.trans (entriesKept_makeReady ..))))

theorem entriesKept_bellRaise (s : State) (ep b : Nat) : EntriesKept s (bellRaise s ep b) := by
  unfold bellRaise
  have hset : EntriesKept s (setBell s ep { bellOf s ep with pend := setBit (bellOf s ep).pend b }) := entriesKept_of_tt rfl
  exact entriesKept_ite (.refl s) (hset.trans (entriesKept_bellItem ..))

/-! ## Entries handed over and completed -/

theorem entriesKept_handed (s : State) (q i n row : Nat) : EntriesKept s (handed s q i n row) := by
  unfold handed
  exact (entriesKept_ite (entriesKept_bellRaise ..) (.refl s)).trans (entriesKept_trigAdvance ..)

theorem entriesKept_ringDone (s : State) (q n row : Nat) : EntriesKept s (ringDone s q n row) := by
  unfold ringDone
  refine (entriesKept_setRing ?_).trans (entriesKept_handed ..)
  rfl

theorem entriesKept_sweepDone (n : Nat) (s : State) (q : Nat) : EntriesKept s (sweepDone n s q) := by
  induction n generalizing s with
  | zero => exact .refl s
  | succ n ih =>
    unfold sweepDone
    dsimp only
    refine entriesKept_ite (.refl s) ?_
    split
    · exact entriesKept_ite ((entriesKept_ringDone ..).trans (ih _)) (.refl s)
    · exact .refl s

theorem entriesKept_slotWrite (s : State) (q k : Nat) (e : Entry) : EntriesKept s (slotWrite s q k e) := by
  unfold slotWrite
  exact entriesKept_ite (entriesKept_of_tt rfl) (.refl s)

theorem dmaKept_complete (s : State) (q : Nat) (e : Entry) (row : Nat) : DmaKept s (complete s q e row) := by
  unfold complete ringPost
  exact (dmaKept_setRing ..).trans ((entriesKept_slotWrite ..).toDmaKept.trans
    ((dmaKept_setRing ..).trans (entriesKept_handed ..).toDmaKept))

/-- An entry completed in place, in a ring whose producer is software. -/
theorem entryDone_inPlace {s : State} {q : Nat} (i : Nat) (e : Entry) (h : rPort s q = false) :
    EntriesKept (setRing s q (putSlot (ringOf s q) (slotOf s q i) e)) (entryDone s q i e) := by
  have hport : rPort (setRing s q (putSlot (ringOf s q) (slotOf s q i) e)) q = false := h
  unfold entryDone
  dsimp only
  rw [hport, if_neg Bool.false_ne_true]
  exact (entriesKept_slotWrite ..).trans (entriesKept_sweepDone ..)

/-- The completion form stands in the entry's slot (R377). -/
theorem slots_entryDone {s : State} {q : Nat} (i : Nat) (e : Entry) (h : rPort s q = false) :
    tabGet (ringOf (entryDone s q i e) q).slots (slotOf s q i) = some e := by
  rw [(entryDone_inPlace i e h).slots q, ringOf_setRing]
  exact tabGet_tabPut_self ..

theorem dmaKept_entryDone {s : State} {q : Nat} (i : Nat) (e : Entry) (h : rPort s q = false) : DmaKept s (entryDone s q i e) :=
  (dmaKept_setRing ..).trans (entryDone_inPlace i e h).toDmaKept

/-! ## A ring's configuration -/

@[simp] theorem ringOf_settle (s : State) (q : Nat) : ringOf (settle s) q = ringOf s q := rfl

/-- A ring's configuration is read from the store. -/
theorem fn_ring_congr {s t : State} (h : t.store = s.store) (q i : Nat) : t.fn 0x310010 q i = s.fn 0x310010 q i :=
  congrArg (fun st => vN (tabGetD st (okey 0x310010 q 0) (dfl s 0x310010 q)) i) h

theorem rPort_congr {s t : State} (h : t.store = s.store) (q : Nat) : rPort t q = rPort s q := by
  simp only [rPort, State.fb, fn_ring_congr h]

theorem slotOf_congr {s t : State} (h : t.store = s.store) (q i : Nat) : slotOf t q i = slotOf s q i := by
  unfold slotOf rSize
  rw [fn_ring_congr h]

theorem within_takeEntry (s : State) (q : Nat) : Within Comp.ring s (takeEntry s q) := within_setRing ..

end Sys2Proof.Machine
end

section
/-! PROOF. DMA (R382 to R385): what taking an entry leads to, the octets an operation moves, and the end of every operation of an engine. -/

open Sys2Proof Sys2Proof.Machine

namespace Sys2Proof.Machine

/-! ## Tables and lists -/

theorem mem_tabDel {α : Type} {t : Tab α} {k : Nat} {x : Nat × α} (h : x ∈ tabDel t k) : x.1 ≠ k ∧ x ∈ t := by
  induction t with
  | nil => simp [tabDel] at h
  | cons c r ih =>
    simp only [tabDel] at h
    split at h
    · exact (ih h).imp id (List.mem_cons_of_mem _)
    next hne =>
      rcases List.mem_cons.mp h with rfl | hr
      · exact ⟨by simpa using hne, List.mem_cons_self ..⟩
      · exact (ih hr).imp id (List.mem_cons_of_mem _)

theorem tabGet_tabMap {α β : Type} (f : Nat → α → β) (t : Tab α) (k : Nat) : tabGet (tabMap f t) k = (tabGet t k).map (f k) := by
  induction t with
  | nil => rfl
  | cons c r ih =>
    obtain ⟨j, a⟩ := c
    simp only [tabMap, List.map_cons, tabGet] at ih ⊢
    by_cases hj : j = k
    · simp [hj]
    · simpa [hj] using ih

theorem nth_mem {α : Type} {l : List α} {n : Nat} (d : α) (h : n < l.length) : nth l n d ∈ l := by
  simp [nth, List.getElem?_eq_getElem h]

/-! ## An entry taken -/

/-- The hub's engines take the next DMA entry of a ring while a tag is free (R383). -/
theorem exec_dmaEntry {dt ring i : Nat} {d : DmaDesc} {s : State} (htype : rType (advance dt s) ring = 2)
    (heng : rEngine (advance dt s) ring = 1) (hlive : hubLive (advance dt s) = true) (htags : dmaTags (advance dt s) < 256)
    (hnext : nextEntry (advance dt s) ring = some (i, .dma d)) :
    exec (.dmaEntry dt ring) s = done (dmaTake (takeEntry (advance dt s) ring) ring i (rOwner (advance dt s) ring) d) := by
  change execDmaEntry dt ring s = _
  unfold execDmaEntry
  dsimp only
  rw [if_neg (by simpa [htype, heng, hlive] using htags), hnext]

/-- A descriptor with a reserved field set is completed with BAD_DESC (R382, R383). -/
theorem dmaTake_malformed {s : State} {q i p : Nat} {d : DmaDesc} (h : d.reservedOk = false) :
    dmaTake s q i p d = entryDone s q i (.dmaDone d 5) := by
  unfold dmaTake
  dsimp only
  rw [if_pos (by simp [h])]

/-- An operation goes to one of the working engines (R385). -/
theorem dmaEngine_works {s : State} (h : (dmaWorking s).isEmpty = false) :
    ∃ e, dmaEngine s = some (e, (fresh s).2) ∧ (dmaWorking s).contains e = true := by
  unfold dmaEngine
  split
  next hw => simp [hw] at h
  next k ks hw =>
    refine ⟨_, rfl, List.contains_iff_mem.mpr ?_⟩
    rw [hw]
    exact nth_mem k (Nat.mod_lt _ (Nat.succ_pos _))

/-- The state with an operation o in flight under the next number, on an engine drawn from those that work. -/
def withDma (s : State) (o : DmaOp) : State :=
  { (fresh s).2 with tt := { s.tt with dma := tabPut s.tt.dma s.tt.nextDma o, nextDma := s.tt.nextDma + 1 } }

theorem within_withDma (s : State) (o : DmaOp) : Within [.freeCtr, .tt] s (withDma s o) :=
  ⟨fun c hc => by cases c <;> simp_all [Comp.same, withDma, fresh]⟩

/-- A good descriptor without COMPLETE starts an operation of its ring's partition on a working engine (R383, R385). -/
theorem dmaTake_starts {s : State} {q i p : Nat} {d : DmaDesc} (hres : d.reservedOk = true) (hop : d.op ≤ 2) (hlen : 1 ≤ d.len)
    (hmax : d.len ≤ 16777216) (hunit : unitTakes s 13 = true) (hrun : pst s p = .running) (hquota : dmaCount s p < pcfg s p 11)
    (hcomp : d.complete = false) (hwork : (dmaWorking s).isEmpty = false) :
    ∃ o, dmaTake s q i p d = entryDone (withDma s o) q i (.dmaDone d 0) ∧ (o.part, o.q, o.d) = (p, q, d) ∧
      (dmaWorking s).contains o.engine = true := by
  obtain ⟨e, heng, hin⟩ := dmaEngine_works hwork
  unfold dmaTake
  dsimp only
  rw [if_neg (by simp [hres, hop, hlen, hmax]), if_neg (by simp only [hunit, hrun]; decide), if_neg (by omega),
    if_neg (by simp [hcomp]), heng]
  dsimp only
  rw [hcomp, if_neg Bool.false_ne_true]
  exact ⟨_, rfl, rfl, hin⟩

/-! ## An operation's octets -/

/-- Octets written to an address are read back there. -/
theorem memRead_memWrite {s : State} {p a : Nat} (l : List Byte) (h : Memory.wf s.mem = true) :
    memRead (memWrite s p a l) p a l.length = l := by
  refine List.ext_getElem (by simp [memRead, upto]) fun i hi hl => ?_
  have hkey : memKey p (a + i) = memKey p a + i := by simp [memKey, Nat.add_assoc]
  simp only [memRead, upto, List.getElem_map, List.getElem_range, memByte, memWrite_mem, hkey, cellGet_cellsPut h]
  rw [if_pos (by omega), Nat.add_sub_cancel_left, List.getElem?_eq_getElem hl, Option.getD_some]

/-- What a copy that faulted nowhere leaves: its source octets at its destination, and its engine's octet count raised. -/
def dmaCopied (s : State) (o : DmaOp) : State :=
  bumpBy (memWrite s o.part o.d.dst (memRead s o.part o.d.src o.d.len)) 0x310042 o.engine o.d.len

theorem dmaMove_copy {s : State} {o : DmaOp} (hop : o.d.op = 0) (hfault : o.faulted = false) (hsupp : o.suppressed = false) :
    dmaMove s o = (dmaCopied s o, 0) := by
  simp only [dmaMove, hfault, hsupp, Bool.or_false, Bool.false_eq_true, if_false, hop, Nat.reduceBEq]
  rfl

theorem length_memRead (s : State) (p a n : Nat) : (memRead s p a n).length = n := by simp [memRead, upto]

theorem within_dmaCopied (s : State) (o : DmaOp) : Within [.ctrs, .mem, .dirty] s (dmaCopied s o) :=
  ⟨fun c hc => by cases c <;> simp_all [Comp.same, dmaCopied]⟩

/-- The copy's destination reads what its source read (R384). -/
theorem memRead_dmaCopied {s : State} (o : DmaOp) (h : Memory.wf s.mem = true) :
    memRead (dmaCopied s o) o.part o.d.dst o.d.len = memRead s o.part o.d.src o.d.len := by
  have hread := memRead_memWrite (a := o.d.dst) (p := o.part) (memRead s o.part o.d.src o.d.len) h
  rwa [length_memRead] at hread

/-- A copy changes no byte but those of its destination. -/
theorem cellGet_dmaCopied {s : State} (o : DmaOp) (h : Memory.wf s.mem = true) {k : Nat}
    (hk : ¬(memKey o.part o.d.dst ≤ k ∧ k < memKey o.part o.d.dst + o.d.len)) : cellGet (dmaCopied s o).mem k = cellGet s.mem k := by
  change cellGet (cellsPut s.mem _ _) k = _
  rw [cellGet_cellsPut h, length_memRead, if_neg hk]

/-! ## Operations that end -/

/-- An operation leaves the table; a fence that waited for it alone starts. -/
def dmaGone (s : State) (id : Nat) : State := dmaFences { s with tt := { s.tt with dma := tabDel s.tt.dma id } }

theorem within_dmaGone (s : State) (id : Nat) : Within [.tt] s (dmaGone s id) :=
  ⟨fun c hc => by cases c <;> simp_all [Comp.same, dmaGone, dmaFences]⟩

theorem tabGet_dmaGone (s : State) (id : Nat) : tabGet (dmaGone s id).tt.dma id = none := by
  simp only [dmaGone, dmaFences, tabGet_tabMap, tabGet_tabDel_self, Option.map_none]

/-- An operation in flight after another has left was in flight before, on the same engine. -/
theorem mem_dmaGone {s : State} {id k : Nat} {x : DmaOp} (h : (k, x) ∈ (dmaGone s id).tt.dma) :
    k ≠ id ∧ ∃ y, (k, y) ∈ s.tt.dma ∧ y.engine = x.engine := by
  obtain ⟨⟨j, y⟩, hy, hjx⟩ := List.mem_map.mp h
  obtain ⟨hne, hmem⟩ := mem_tabDel hy
  obtain ⟨rfl, hx⟩ := Prod.mk.inj hjx
  refine ⟨hne, y, hmem, ?_⟩
  dsimp only at hx
  rw [← hx]
  split <;> rfl

/-- The end of an operation is its leaving the table and, where one is asked for, its completion (R384). -/
theorem dmaEnd_eq (s : State) (id : Nat) (o : DmaOp) (status result : Nat) : dmaEnd s id o status result =
    if o.d.complete && !o.suppressed then
      complete (dmaGone s id) o.d.compRing (compE o.d.tag status 1 o.start (tai (dmaGone s id)) result o.q) 0
    else dmaGone s id := rfl

theorem dmaEnd_silent {s : State} {id : Nat} {o : DmaOp} (status result : Nat) (h : o.d.complete = false) :
    dmaEnd s id o status result = dmaGone s id := by
  rw [dmaEnd_eq, h, Bool.false_and, if_neg Bool.false_ne_true]

theorem within_dmaEnd (s : State) (id : Nat) (o : DmaOp) (status result : Nat) : Within Comp.ring s (dmaEnd s id o status result) := by
  have hgone : Within Comp.ring s (dmaGone s id) := (within_dmaGone s id).mono (by decide)
  rw [dmaEnd_eq]
  split
  · exact hgone.trans (within_complete ..)
  · exact hgone

/-- The completion of an operation leaves the others as they are. -/
theorem dmaKept_dmaEnd (s : State) (id : Nat) (o : DmaOp) (status result : Nat) :
    DmaKept (dmaGone s id) (dmaEnd s id o status result) := by
  rw [dmaEnd_eq]
  split
  · exact dmaKept_complete ..
  · exact .refl _

theorem dmaEnd_failed (s : State) (id : Nat) (o : DmaOp) (status result : Nat) :
    (dmaEnd s id o status result).tt.dmaFailed = s.tt.dmaFailed := (dmaKept_dmaEnd s id o status result).failed

theorem mem_dma_dmaEnd {s : State} {id : Nat} {o : DmaOp} {status result k : Nat} {x : DmaOp}
    (h : (k, x) ∈ (dmaEnd s id o status result).tt.dma) : k ≠ id ∧ ∃ y, (k, y) ∈ s.tt.dma ∧ y.engine = x.engine :=
  mem_dmaGone ((dmaKept_dmaEnd s id o status result).dma ▸ h)

/-- After several operations have ended, those in flight are others that were. -/
theorem mem_dma_foldl_dmaEnd {ops : List (Nat × DmaOp)} {s : State} {status result k : Nat} {x : DmaOp}
    (h : (k, x) ∈ (ops.foldl (fun s p => dmaEnd s p.1 p.2 status result) s).tt.dma) :
    k ∉ ops.map Prod.fst ∧ ∃ y, (k, y) ∈ s.tt.dma ∧ y.engine = x.engine := by
  induction ops generalizing s with
  | nil => exact ⟨List.not_mem_nil, x, h, rfl⟩
  | cons p ops ih =>
    obtain ⟨hrest, y, hy, hyx⟩ := ih h
    obtain ⟨hfirst, z, hz, hzy⟩ := mem_dma_dmaEnd hy
    exact ⟨by simpa [hfirst] using hrest, z, hz, hzy.trans hyx⟩

/-! ## An engine that fails -/

/-- The state in which an engine has failed and its operations have ended with ENGINE_FAULT. -/
def engineFailed (s : State) (engine : Nat) : State :=
  (s.tt.dma.filter fun p => p.2.engine == engine).foldl (fun s p => dmaEnd s p.1 p.2 7 0)
    { s with tt := { s.tt with dmaFailed := s.tt.dmaFailed ++ [engine] } }

theorem exec_dmaEngineFault {dt engine : Nat} {s : State} (hlt : engine < 8)
    (hworks : (advance dt s).tt.dmaFailed.contains engine = false) (hunit : unitOk (advance dt s) 13 = true) :
    exec (.dmaEngineFault dt engine) s = done (setUnit (engineFailed (advance dt s) engine) 13
      (if (engineFailed (advance dt s) engine).tt.dmaFailed.length ≥ 8 then .fault else .degraded)) := by
  change execDmaEngineFault dt engine s = _
  unfold execDmaEngineFault
  dsimp only
  rw [hworks, hunit, if_neg (by simpa using hlt)]
  rfl

theorem within_engineFailed (s : State) (engine : Nat) : Within Comp.ring s (engineFailed s engine) := by
  have hmark : Within Comp.ring s { s with tt := { s.tt with dmaFailed := s.tt.dmaFailed ++ [engine] } } :=
    ⟨fun c hc => by cases c <;> simp_all [Comp.same, Comp.ring]⟩
  exact hmark.trans (within_foldl (fun _ _ => within_dmaEnd ..) _ _)

/-- The engine is one more of those that failed. -/
theorem engineFailed_failed (s : State) (engine : Nat) : (engineFailed s engine).tt.dmaFailed = s.tt.dmaFailed ++ [engine] :=
  foldl_keeps (fun s t : State => t.tt.dmaFailed = s.tt.dmaFailed) (fun _ => rfl) (fun _ _ _ h k => k.trans h) _
    (fun _ _ => dmaEnd_failed ..) _ _

/-- No operation of the engine is left (R385). -/
theorem engineFailed_dma (s : State) (engine : Nat) : ((engineFailed s engine).tt.dma.any fun o => o.2.engine == engine) = false := by
  simp only [List.any_eq_false, beq_iff_eq]
  rintro ⟨k, x⟩ hx heng
  obtain ⟨hend, y, hy, hyx⟩ := mem_dma_foldl_dmaEnd hx
  refine hend (List.mem_map.mpr ⟨(k, y), List.mem_filter.mpr ⟨hy, ?_⟩, rfl⟩)
  simpa using hyx.trans heng

/-- An operation that faulted nowhere and asks for no completion copies its octets and leaves the table (R384). -/
theorem exec_dmaComplete_copy {dt id : Nat} {o : DmaOp} {s : State} (hget : tabGet (advance dt s).tt.dma id = some o)
    (hlive : hubLive (advance dt s) = true) (hfence : o.d.fence = false) (hop : o.d.op = 0) (hfault : o.faulted = false)
    (hsupp : o.suppressed = false) (hcomp : o.d.complete = false) :
    exec (.dmaComplete dt id) s = done (dmaGone (dmaCopied (advance dt s) o) id) := by
  change execDmaComplete dt id s = _
  unfold execDmaComplete
  dsimp only
  rw [hget]
  dsimp only
  rw [hlive, hfence, if_neg (by simp), dmaMove_copy hop hfault hsupp, dmaEnd_silent _ _ hcomp]

end Sys2Proof.Machine

/-- Settles O23: an entry taken is completed in place or put under the next number, a copy is one write of the octets read before it, and an
engine's fault ends its operations one by one. -/
theorem dmaMovesMemory : Obligations.DmaMovesMemory := by
  intro dt s a
  refine ⟨fun ring i d htype heng hport hlive htags hnext hbad => ?malformed,
    fun ring i d htype heng hport hlive htags hnext hres hop hlen hmax hunit hrun hquota hcomp hwork => ?starts,
    fun dmaId o hget hlive hfence hop hfault hsupp hcomp hwf => ?copy, fun engine hlt hworks hunit => ?fault⟩
  case malformed =>
    have hx := (exec_dmaEntry htype heng hlive htags hnext).trans (congrArg done (dmaTake_malformed hbad))
    have hp : rPort (takeEntry a ring) ring = false := (rPort_congr rfl ring).trans hport
    have hslot := slots_entryDone i (.dmaDone d 5) hp
    rw [slotOf_congr (s := a) (t := takeEntry a ring) rfl] at hslot
    have hdma := (dmaKept_entryDone i (.dmaDone d 5) hp).dma
    have hin := (within_takeEntry a ring).trans (within_entryDone _ ring i (.dmaDone d 5))
    refine does_within hx (hin.mono (by decide)) ?_
    rw [ringOf_settle, settle_tt]
    exact ⟨hslot, hdma⟩
  case starts =>
    obtain ⟨o, htake, hop, hin⟩ := dmaTake_starts (s := takeEntry a ring) (q := ring) (i := i) hres hop hlen hmax hunit hrun hquota
      hcomp hwork
    have hx := (exec_dmaEntry htype heng hlive htags hnext).trans (congrArg done htake)
    have hp : rPort (withDma (takeEntry a ring) o) ring = false := (rPort_congr rfl ring).trans hport
    have hslot := slots_entryDone i (.dmaDone d 0) hp
    rw [slotOf_congr (s := a) (t := withDma (takeEntry a ring) o) rfl] at hslot
    have hkept := dmaKept_entryDone i (.dmaDone d 0) hp
    have hwithin : Within [.freeCtr, .ctrs, .tt, .ph, .mem, .dirty] a _ := ((within_takeEntry a ring).mono (by decide)).trans
      (((within_withDma _ o).mono (by decide)).trans ((within_entryDone _ ring i (.dmaDone d 0)).mono (by decide)))
    have hnew : tabGet (entryDone (withDma (takeEntry a ring) o) ring i (.dmaDone d 0)).tt.dma a.tt.nextDma = some o := by
      rw [hkept.dma]
      exact tabGet_tabPut_self ..
    refine does_within hx hwithin ?_
    rw [ringOf_settle, settle_tt, hnew, Option.map_some, hop, Option.any_some]
    exact ⟨hkept.next, rfl, hin, hslot⟩
  case copy =>
    have hx := exec_dmaComplete_copy hget hlive hfence hop hfault hsupp hcomp
    have hgone := within_dmaGone (dmaCopied a o) dmaId
    have hmem : (dmaGone (dmaCopied a o) dmaId).mem = (dmaCopied a o).mem := hgone.agrees .mem (by decide)
    refine does_within hx (((within_dmaCopied a o).mono (by decide)).trans (hgone.mono (by decide))) ⟨?_, ?_, fun k hk => ?_⟩
    · exact tabGet_dmaGone ..
    · exact (congrArg (fun m => (upto o.d.len).map fun i => cellGet m (memKey o.part (o.d.dst + i))) hmem).trans (memRead_dmaCopied o hwf)
    · exact (congrArg (cellGet · k) hmem).trans (cellGet_dmaCopied o hwf hk)
  case fault =>
    have hfailed := engineFailed_failed a engine
    refine does_frame (exec_dmaEngineFault hlt hworks hunit) ?_ ⟨?_, ?_, ?_⟩
    · exact ((within_engineFailed a engine).frame.mono (by decide)).trans ((frame_setUnit ..).mono (by decide))
    · simpa only [settle_tt, setUnit_tt] using hfailed
    · simpa only [settle_tt, setUnit_tt] using engineFailed_dma a engine
    · rw [unitSt_settle, unitSt_setUnit _ _ _ rfl, hfailed, List.length_append, List.length_singleton]
      exact if_congr (by omega) rfl rfl
end

section
/-! PROOF. What the end of an item's row brings in a pair (R445, R446, R448): the digest sent and judged changes the pair, a counter and the
logbook. -/

open Sys2Proof Sys2Proof.Machine

namespace Sys2Proof.Machine

theorem within_ite {l : List Comp} {c : Prop} [Decidable c] {s t u : State} (h : Within l s t) (k : Within l s u) :
    Within l s (if c then t else u) := by
  split
  · exact h
  · exact k

theorem frame_ite {l : List Comp} {c : Prop} [Decidable c] {s t u : State} (h : Frame l s t) (k : Frame l s u) :
    Frame l s (if c then t else u) := by
  split
  · exact h
  · exact k

/-! ## The link to the partner -/

theorem within_sendFrame (s : State) (f : IulFrame) : Within [.pair] s (sendFrame s f) := by
  unfold sendFrame
  split
  · exact .refl ..
  · exact within_withPair ..

theorem within_sendIul (s : State) (m : IulMsg) : Within [.pair] s (sendIul s m) := by
  unfold sendIul
  extract_lets fs u
  have hu : Within [.pair] s u := within_foldl (fun _ _ => within_sendFrame ..) _ _
  refine within_ite (.refl ..) (hu.trans ?_)
  clear_value u
  split
  · exact .refl ..
  · exact within_withPair ..

theorem within_eqGiveUp (s : State) (r : Nat) : Within [.pair] s (eqGiveUp s r) := by
  unfold eqGiveUp noteRow
  exact ((within_withPair s _).trans (within_sendIul ..)).trans (within_withPair ..)

theorem within_eqStop (s : State) : Within [.pair] s (eqStop s) := by
  unfold eqStop
  exact (within_foldl (fun _ _ => within_eqGiveUp ..) _ _).trans (within_withPair ..)

theorem frame_withPair (s : State) (x : Pair) : Frame [.pair, .logb] s { s with pair := x } :=
  (within_withPair s x).frame.mono (by decide)

/-- The pair's state judged anew: a change of it is recorded and notified (R428). -/
theorem frame_pairEval (s : State) : Frame [.pair, .logb] s (pairEval s) := by
  unfold pairEval
  split
  extract_lets was o pair u v
  have hv : Frame [.pair, .logb] u v :=
    frame_ite (.refl ..) (((within_logRec ..).frame.mono (by decide)).trans ((frame_seeNow ..).mono (by decide)))
  refine ((frame_withPair s _).trans hv).trans ?_
  clear_value v
  exact frame_ite (frame_withPair ..) (frame_ite ((within_eqStop ..).frame.mono (by decide)) (.refl ..))

theorem frame_leaveStep (s : State) (reason : Nat) : Frame [.pair, .logb] s (leaveStep s reason) := by
  unfold leaveStep
  exact ((frame_withPair ..).trans (frame_pairEval ..)).trans (frame_ite (frame_withPair ..) (.refl ..))

/-! ## Digests -/

/-- The components a judged digest may change. -/
def Comp.digest : List Comp := [.ctrs, .pair, .logb]

theorem frame_digest_pair (s : State) (x : Pair) : Frame Comp.digest s { s with pair := x } := (frame_withPair s x).mono (by decide)

theorem frame_digJudge (s : State) (p row mine theirs : Nat) : Frame Comp.digest s (digJudge s p row mine theirs) := by
  unfold digJudge
  have hdel : Frame Comp.digest s (delDig s p row) := frame_digest_pair ..
  refine hdel.trans (frame_ite (.refl ..) (frame_ite (frame_ite (.refl ..) ?unequal) (frame_ite ?converging (.refl ..))))
  case unequal =>
    have hcount (u : State) : Frame Comp.digest u (logRec (bump u 0x400025 p) 0x01C4 (0x80 + 5) (ints [p, row])) :=
      ((within_bump ..).frame.mono (by decide)).trans ((within_logRec ..).frame.mono (by decide))
    exact ((hcount _).trans (((frame_digest_pair _ _).trans (frame_digest_pair _ _)).trans (frame_digest_pair _ _))).trans
      ((frame_leaveStep ..).mono (by decide))
  case converging =>
    exact frame_ite (frame_digest_pair ..) (frame_ite ((frame_digest_pair ..).trans (frame_digest_pair ..)) (frame_digest_pair ..))

theorem frame_digClose (s : State) (p row : Nat) : Frame Comp.digest s (digClose s p row) := by
  unfold digClose
  extract_lets d x u v
  have hu : Frame Comp.digest s u := frame_digest_pair ..
  have hset : Frame Comp.digest u (setDig u p row { d with closed := some u.now }) := frame_digest_pair ..
  have hv : Frame Comp.digest s v := (hu.trans hset).trans ((within_sendIul ..).frame.mono (by decide))
  refine frame_ite (.refl ..) (hv.trans ?_)
  clear_value v
  split
  · exact frame_ite (.refl ..) (frame_digJudge ..)
  · exact .refl ..

end Sys2Proof.Machine
end

section
/-! PROOF. Dispatch (R356, R362, R363): which item the next dispatch takes, what the core then runs, and what TT_DONE leaves. -/

open Sys2Proof Sys2Proof.Machine

namespace Sys2Proof.Machine

/-! ## The item taken -/

/-- An item that may be dispatched and has a core. -/
def dispatchable (s : State) (it : Item) : Prop := eligible s it = true ∧ (coreFor s it).isSome = true

/-- What the next dispatch is after one more ready item has been looked at. -/
def betterOf (s : State) (best : Option (Item × Nat)) (it : Item) : Option (Item × Nat) :=
  if !eligible s it then best
  else match coreFor s it, best with
    | some c, none => some (it, c)
    | some c, some (b, d) => if it.d.prio < b.d.prio then some (it, c) else some (b, d)
    | none, b => b

theorem nextDispatch_eq (s : State) : nextDispatch s = s.tt.ready.foldl (betterOf s) none := rfl

/-- Of the items seen none may be dispatched, or one of least PRIO among those that may is taken, with its core. -/
def LeastOf (s : State) (seen : List Item) : Option (Item × Nat) → Prop
  | none => ∀ j ∈ seen, ¬dispatchable s j
  | some (it, c) => it ∈ seen ∧ eligible s it = true ∧ coreFor s it = some c ∧ ∀ j ∈ seen, dispatchable s j → it.d.prio ≤ j.d.prio

/-- An item that cannot be dispatched takes no part. -/
theorem LeastOf.skip {s : State} {seen : List Item} {best : Option (Item × Nat)} {it : Item} (h : LeastOf s seen best)
    (hit : ¬dispatchable s it) : LeastOf s (seen ++ [it]) best := by
  match best with
  | none =>
    intro j hj
    rcases List.mem_append.mp hj with hj | hj
    · exact h j hj
    · rwa [List.mem_singleton.mp hj]
  | some (b, d) =>
    obtain ⟨hmem, helig, hcore, hleast⟩ := h
    refine ⟨List.mem_append_left _ hmem, helig, hcore, fun j hj hd => ?_⟩
    rcases List.mem_append.mp hj with hj | hj
    · exact hleast j hj hd
    · exact absurd (List.mem_singleton.mp hj ▸ hd) hit

/-- An item that can be dispatched is taken when its PRIO is less than what was taken before. -/
theorem LeastOf.take {s : State} {seen : List Item} {best : Option (Item × Nat)} {it : Item} {c : Nat} (h : LeastOf s seen best)
    (helig : eligible s it = true) (hcore : coreFor s it = some c) (hless : ∀ b d, best = some (b, d) → it.d.prio < b.d.prio) :
    LeastOf s (seen ++ [it]) (some (it, c)) := by
  refine ⟨by simp, helig, hcore, fun j hj hd => ?_⟩
  rcases List.mem_append.mp hj with hj | hj
  · match best with
    | none => exact absurd hd (h j hj)
    | some (b, d) =>
      obtain ⟨-, -, -, hleast⟩ := h
      exact (Nat.le_of_lt (hless b d rfl)).trans (hleast j hj hd)
  · rw [List.mem_singleton.mp hj]

theorem leastOf_betterOf {s : State} {seen : List Item} {best : Option (Item × Nat)} (it : Item) (h : LeastOf s seen best) :
    LeastOf s (seen ++ [it]) (betterOf s best it) := by
  unfold betterOf
  by_cases helig : eligible s it = true
  · rw [helig, if_neg (by simp)]
    cases hcore : coreFor s it with
    | none => exact h.skip fun ⟨_, hd⟩ => by simp [hcore] at hd
    | some c =>
      match best with
      | none => exact h.take helig hcore (by simp)
      | some (b, d) =>
        dsimp only
        split
        next hlt => exact h.take helig hcore (by rintro _ _ ⟨⟩; exact hlt)
        next hge =>
          obtain ⟨hmem, hb, hd, hleast⟩ := h
          refine ⟨List.mem_append_left _ hmem, hb, hd, fun j hj hdj => ?_⟩
          rcases List.mem_append.mp hj with hj | hj
          · exact hleast j hj hdj
          · rw [List.mem_singleton.mp hj]
            exact Nat.le_of_not_lt hge
  · rw [if_pos (by simpa using helig)]
    exact h.skip fun hd => helig hd.1

/-- The next dispatch takes an item of least PRIO among those that may be dispatched and have a core (R363). -/
theorem leastOf_nextDispatch (s : State) : LeastOf s s.tt.ready (nextDispatch s) := by
  rw [nextDispatch_eq]
  induction s.tt.ready using List.reverseRecOn with
  | nil => exact fun j hj => absurd hj List.not_mem_nil
  | append_singleton l it ih =>
    rw [List.foldl_append]
    exact leastOf_betterOf it ih

/-- The core an item goes to is idle (R362). -/
theorem coreFor_idle {s : State} {it : Item} {c : Nat} (h : coreFor s it = some c) : (tabGet s.tt.run c).isNone = true := by
  have hidle (hc : c ∈ (partCores s it.part).filter fun c => (tabGet s.tt.run c).isNone) : (tabGet s.tt.run c).isNone = true :=
    (List.mem_filter.mp hc).2
  unfold coreFor at h
  dsimp only at h
  split at h
  next hfind =>
    cases h
    exact hidle (List.mem_of_find?_eq_some hfind)
  · exact hidle (List.mem_of_mem_head? h)

/-! ## What a dispatch does -/

/-- Only a dispatch of a ring's trigger closes a path's measurement (R23). -/
theorem pathDispatch_other {s : State} {it : Item} (idleAt : Nat) (h : ∀ q i j, it.src ≠ .trigger q i j) :
    pathDispatch s it idleAt = s := by
  unfold pathDispatch
  split
  next hsrc => exact absurd hsrc (h _ _ _)
  · rfl

/-- The item on its core: from the present time, at ITEM_ENTRY, with the double words of its descriptor (R356). -/
def started (s : State) (it : Item) (reserved : Bool) : Run :=
  { item := it, start := tai s, startNow := s.now, reserved := reserved
    pc := s.fn 0x310020 it.part 0, args := [0, 8, 16, 24].map fun o => fieldN (itemBytes it.d it.d.stat) o 8 }

/-- A dispatch of anything but a trigger changes a counter and the timetable: the item leaves the ready list for its core. -/
theorem dispatch_other {s : State} {it : Item} (c : Nat) (h : ∀ q i j, it.src ≠ .trigger q i j) : ∃ tt reserved,
    dispatch s it c = bump { s with tt := tt } 0x310003 0 ∧ tt.ready = s.tt.ready.filter (fun j => j.num != it.num) ∧
      tabGet tt.run c = some (started s it reserved) := by
  unfold dispatch
  dsimp only
  rw [pathDispatch_other _ h]
  exact ⟨_, _, rfl, rfl, tabGet_tabPut_self ..⟩

theorem exec_ttDispatch_some {dt c : Nat} {s : State} {it : Item} (h : ttRuns (advance dt s) = true)
    (hnext : nextDispatch (advance dt s) = some (it, c)) : exec (.ttDispatch dt) s = done (dispatch (advance dt s) it c) := by
  change execTtDispatch dt s = _
  simp only [execTtDispatch, h, hnext, Bool.not_true, Bool.false_eq_true, if_false]

theorem exec_ttDispatch_none {dt : Nat} {s : State} (h : ttRuns (advance dt s) = true) (hnext : nextDispatch (advance dt s) = none) :
    exec (.ttDispatch dt) s = done (advance dt s) := by
  change execTtDispatch dt s = _
  simp only [execTtDispatch, h, hnext, Bool.not_true, Bool.false_eq_true, if_false]

/-! ## TT_DONE -/

/-- A partition that is not being moved owes no final set (R350). -/
theorem migSend_still {s : State} {p : Nat} (h : (partOf s p).mig.st = 0) : migSend s p = s := by
  unfold migSend
  dsimp only
  rw [h]
  exact if_neg (by simp)

/-- The end of an item of no flow that asks for no completion: its core is idle, and its row's digest may close. -/
theorem ttEnd_plain {s : State} {c result : Nat} {r : Run} (hsrc : r.item.src = .port) (hcomp : r.item.d.complete = false)
    (hflow : flowOf s r.item.d.flow = none) : ttEnd s c r result = digClose (coreIdle s c) r.item.part r.item.row := by
  have hflow' : flowOf (coreIdle s c) r.item.d.flow = none := hflow
  unfold ttEnd itemEnd afterItem itemComplete
  simp only [hflow', hcomp, hsrc, Bool.false_eq_true, if_false]

theorem within_coreIdle (s : State) (c : Nat) : Within [.tt] s (coreIdle s c) :=
  ⟨fun c hc => by cases c <;> simp_all [Comp.same, coreIdle]⟩

/-- TT_DONE of such an item of a partition that is not being moved ends there (R356). -/
theorem exec_ttDone_plain {dt core : Nat} {result : Word} {outputs : List (List Nat)} {s : State} {x : Run}
    (hrun : tabGet (advance dt s).tt.run core = some x) (hsrc : x.item.src = .port) (hcomp : x.item.d.complete = false)
    (hflow : flowOf (advance dt s) x.item.d.flow = none) (hstall : (coreOf (advance dt s) core).stall = none)
    (hlive : hubLive (advance dt s) = true) (hmig : (partOf (advance dt s) x.item.part).mig.st = 0) :
    exec (.ttDone dt core result outputs) s = done (digClose (coreIdle (advance dt s) core) x.item.part x.item.row) := by
  have hparts : (digClose (coreIdle (advance dt s) core) x.item.part x.item.row).parts = (advance dt s).parts :=
    (frame_digClose (coreIdle (advance dt s) core) ..).within.agrees .parts (by decide)
  have hstill : (partOf (digClose (coreIdle (advance dt s) core) x.item.part x.item.row) x.item.part).mig.st = 0 := by
    rw [partOf, hparts]
    exact hmig
  change done (ttDoneOp (advance dt s) core result.toNat outputs) = _
  unfold ttDoneOp
  rw [hrun]
  dsimp only
  rw [hstall, hlive, if_neg (by simp), hsrc]
  dsimp only
  rw [ttEnd_plain hsrc hcomp hflow, migSend_still hstill]

end Sys2Proof.Machine

/-- Settles O20: the fold over the ready list keeps an item of least PRIO, a dispatch moves it from the list to its idle core, and the end
of an item brings no more than the digest of its row. -/
theorem dispatchTakesTheLeastPriority : Obligations.DispatchTakesTheLeastPriority := by
  intro dt s a
  refine ⟨fun it c hruns hnext hsrc => ?dispatch, fun hruns hnext => ?nothing,
    fun core result outputs x hrun hsrc hcomp hflow hstall hlive hmig => ?finish⟩
  case dispatch =>
    have hother (q i j) : it.src ≠ .trigger q i j := fun h => by simp [h] at hsrc
    obtain ⟨tt, reserved, hdisp, hready, hrun⟩ := dispatch_other (s := a) c hother
    have hleast := leastOf_nextDispatch a
    rw [hnext] at hleast
    obtain ⟨hmem, helig, hcore, hprio⟩ := hleast
    have hx := (exec_ttDispatch_some hruns hnext).trans (congrArg done hdisp)
    have hwithin : Within [.ctrs, .tt] a (bump { a with tt := tt } 0x310003 0) :=
      ⟨fun c hc => by cases c <;> simp_all [Comp.same]⟩
    refine does_within hx (hwithin.mono (by decide)) ⟨hready, congrArg (Option.map _) hrun, congrArg (Option.map _) hrun, hmem,
      coreFor_idle hcore, helig, fun j hj he hc => hprio j hj ⟨he, hc⟩⟩
  case nothing => exact does_within (exec_ttDispatch_none hruns hnext) (Within.refl ..) rfl
  case finish =>
    have hidle := within_coreIdle a core
    have hdig := frame_digClose (coreIdle a core) x.item.part x.item.row
    have htt : (digClose (coreIdle a core) x.item.part x.item.row).tt = (coreIdle a core).tt := hdig.within.agrees .tt (by decide)
    refine does_frame (exec_ttDone_plain hrun hsrc hcomp hflow hstall hlive hmig)
      ((hidle.frame.mono (by decide)).trans (hdig.mono (by decide))) ?_
    rw [settle_tt, htt]
    exact ⟨tabGet_tabDel_self .., tabGet_tabPut_self .., rfl⟩
end

section
/-! PROOF. TRIGGER_PENDING_RELEASE of a trigger that check 1 now refuses (R358, R360): it is counted and not made ready. -/

open Sys2Proof Sys2Proof.Machine

namespace Sys2Proof.Machine

/-- Firmware runs and partition 0 takes items. Its ring 0 starts triggers in flow 5 and holds one that waits; the flow is no longer open. -/
def triggerFlowClosed : State where
  store := [(okey 0x300010 0 0, [.n 1, .o [1], .n 4, .n 8]),
    (okey 0x310010 0 0, [.n 0, .n 3, .n 64, .n 4, .n 0, .n 0, .n 0, .n 1, .n 0, .n 5, .n 0, .n 5000, .n 0, .n 255]),
    (okey 0x440032 0 0, [.n 1000000])]
  boot := { phase := .run, roll := [(12, { st := .ready })] }
  parts := { ps := [(0, { st := .running })] }
  tt := { rings := [(0, { pend := [(1, 1, 5)] })] }

/-- The trigger waits no longer, and no item is made of it. -/
theorem triggerPendingRelease_makes_none : (nextOf (.triggerPendingRelease 0 0) triggerFlowClosed).tt.ready = [] := by decide +kernel

end Sys2Proof.Machine

/-- Refutes O19: the clause on TRIGGER_PENDING_RELEASE asks for checks 2 and 3 of R358 alone, while a waiting trigger whose flow has been
closed fails check 1, and is then counted and not made ready (R360). -/
theorem not_itemsAreSubmittedAndCancelled : ¬ Obligations.ItemsAreSubmittedAndCancelled := by
  unfold Obligations.ItemsAreSubmittedAndCancelled
  intro h
  obtain ⟨-, -, -, -, htrigger, -⟩ := h 0 triggerFlowClosed
  have hdoes := htrigger 0 1 1 5 rfl rfl (by decide +kernel) (by decide +kernel) (by decide +kernel) (by decide +kernel)
  obtain ⟨-, -, hready⟩ := hdoes.nextOf
  rw [triggerPendingRelease_makes_none] at hready
  simp at hready
end

section
/-! PROOF. COMMIT_SLOT_FREE of a ring that an ended item names for its completion (R371, R373): the copied commit and the completion are two
advances of PROD. -/

open Sys2Proof Sys2Proof.Machine

namespace Sys2Proof.Machine

/-- An item of the ORDERED flow 1 that has ended and asks for its completion in ring 0. -/
def endedItem : Item where
  num := 7
  part := 0
  d := { arg0 := 0, arg1 := 0, tag := 0, flow := 1, prio := 0, complete := true, budget := 0, compRing := 0 }
  src := .port

/-- The commit of that item which waits for a slot of ring 0. -/
def waitingCommit : Held where
  item := 7
  part := 0
  q := 0
  comp := none
  entry := .pickup ⟨0, 0, 0, 0⟩
  row := 0

/-- Firmware runs. Ring 0, a SUBMIT ring of the capture engine with four free slots, has a commit waiting, and the completion of the item
that made it waits behind the commit. -/
def completionBehindCommit : State where
  store := [(okey 0x310010 0 0, [.n 0, .n 2, .n 64, .n 4, .n 0, .n 1, .n 4])]
  boot := { phase := .run }
  tt := { waitRel := [waitingCommit], flows := [(1, { owner := 0, typ := 2, fin := [⟨endedItem, 0, 0, 0, 0⟩] })] }

theorem commitSlotFree_advances_twice : (ringOf (nextOf (.commitSlotFree 0 0) completionBehindCommit) 0).prod = 2 := by decide +kernel

end Sys2Proof.Machine

/-- Refutes O21: the clause on COMMIT_SLOT_FREE ranges over every state and says nothing of ended items. Where the completion of the item
that made the commit waits for it (R373) and names the same ring, as check 4 of R358 would not have it, PROD advances once for the commit
and once for the completion. -/
theorem not_commitsEnterTheirRingInOrder : ¬ Obligations.CommitsEnterTheirRingInOrder := by
  unfold Obligations.CommitsEnterTheirRingInOrder
  intro h
  obtain ⟨-, -, -, -, hfree⟩ := h 0 completionBehindCommit
  have hdoes := hfree 0 waitingCommit rfl (by decide +kernel) (by decide +kernel) rfl rfl rfl (by decide +kernel) rfl
  obtain ⟨-, -, hprod, -⟩ := hdoes.nextOf
  rw [commitSlotFree_advances_twice] at hprod
  exact absurd hprod (by decide)
end

section
/-! PROOF. A doorbell of a TX ring whose frame's port first drops a late frame (R226, R376, R377): the late frame's completion goes to the
ring its entry names. -/

open Sys2Proof Sys2Proof.Machine

namespace Sys2Proof.Machine

/-- A partition's GOOSE frame, untagged. -/
def gooseFrame : OutFrame where
  len := 60
  dst := 0
  etype := 0x88B8
  vid := 0
  appid := 0
  bytes := []

/-- The request to send it on port 0. -/
def gooseRequest : TxReq where
  bufAddr := 0
  len := 60
  dest := 0
  cls := 4
  launch := false
  dropLate := true
  tsReq := false
  cookie := 0
  launchTime := 0
  frame := gooseFrame

/-- A launch frame of ring 1's entry 0, late by a second, to be dropped when late. -/
def lateLaunchFrame : TxFrame where
  job := 1
  cls := 4
  len := 64
  launch := some 0
  dropLate := true
  what := .ring gooseFrame

/-- OPERATIONAL, with partition 0 running, its frames allowed and port 0 up. Ring 0 is its TX ring of software; ring 1, one of the commit
port, has sent the late frame, whose completion is named to go to ring 0. -/
def lateFrameWaits : State where
  store := [(okey 0x310010 0 0, [.n 0, .n 1, .n 64, .n 4]), (okey 0x310010 1 0, [.n 0, .n 1, .n 64, .n 4, .n 0, .n 1]),
    (okey 0x440030 0 0, [.n 1, .n 1, .n 0x88B8, .o [0, 0, 0, 0, 0, 0], .n 0, .n 65535, .n 65535])]
  boot := { phase := .run, fuseComm := true, roll := [(2, { st := .ready })] }
  tm := { sec := 1 }
  parts := { ps := [(0, { st := .running })] }
  net := { ports := [(0, { st := 2, speed := 1000, lq := [lateLaunchFrame] })], jobs := [(1, { owner := .ring 1 0, copies := 1 })], nextJob := 2 }
  tt := { rings := [(1, { prod := 1, taken := 1, slots := [(0, .tx gooseRequest)], comps := [(0, 0)] })] }

theorem ringProdWrite_advances_twice : (ringOf (nextOf (.ringProdWrite 0 0 0 1 [.tx gooseRequest]) lateFrameWaits) 0).prod = 2 := by
  decide +kernel

end Sys2Proof.Machine

/-- Refutes O22: the clause on RING_PROD_WRITE ranges over every state and says nothing of what else the transmitter it starts does. Port 0
drops a late frame first (R226), and where that frame's completion names the ring rung, as R370 and R378 would not have it, PROD advances
once more. -/
theorem not_flowsAndRingIndices : ¬ Obligations.FlowsAndRingIndices := by
  unfold Obligations.FlowsAndRingIndices
  intro h
  obtain ⟨-, -, -, -, -, -, -, -, hring, -⟩ := h 0 lateFrameWaits
  have hdoes := hring 0 0 1 [.tx gooseRequest] (by decide +kernel) (by decide +kernel) (by decide +kernel) (by decide +kernel)
  obtain ⟨-, hprod, -⟩ := hdoes.nextOf
  rw [ringProdWrite_advances_twice] at hprod
  exact absurd hprod (by decide)
end

section
/-! PROOF. A take that makes room for a request of the gateway (R161 to R163, R394): the request waiting at the full channel is posted, and
the gateway's list of Jalyn notes it. -/

open Sys2Proof Sys2Proof.Machine

namespace Sys2Proof.Machine

/-- A session's READ of the area of partition 0, taken up by the gateway and not posted yet. -/
def waitingRequest : GwReq where
  sess := 0
  seq := 7
  idx := 0
  role := 0
  op := 1
  addr := ⟨0x80, 1, 0⟩
  typ := 0
  bytes := []
  due := some 100000000

/-- The message of an earlier request, which partition 0 has left untaken. -/
def untakenRequest : Msg where
  code := 0x0801
  len := 3
  words := List.replicate 15 0

/-- Firmware and the fabric run, and so does partition 0. Channel 5 brings it the gateway's requests as its receiver index 2 and is full; the
gateway's next request waits for room. -/
def requestBehindFullChannel : State where
  store := [(okey 0x340100 5 0, [.n 1, .n 65, .n 0, .n 0, .n 2, .n 0xFF, .n 0xFF, .n 1000000])]
  boot := { phase := .run, roll := [(14, { st := .ready })] }
  parts := { ps := [(0, { st := .running })] }
  ph := { chans := [(5, { q := List.replicate 4 untakenRequest })] }
  jal := { gw := [(0, [waitingRequest])] }

/-- The take lets the waiting request in, and the gateway's list shows it posted. -/
theorem phTake_posts_waitingRequest :
    gwQ (nextOf (.phTake 0 0 0 2) requestBehindFullChannel) 0 = [{ waitingRequest with posted := true }] := by decide +kernel

/-- Outside a frame that leaves Jalyn to the sessions' own entries, the gateway's requests stay. -/
theorem Frame.gwQ {but : List Comp} {a t : State} (h : Frame but a t) (hj : Comp.jal ∉ but) (p : Nat) : gwQ t p = gwQ a p := by
  have hsess : jalBut a t := h.1 hj
  rw [Machine.gwQ, hsess]
  rfl

end Sys2Proof.Machine

/-- Refutes O26: the clause on PH_TAKE of a message leaves room for what follows the take in the channel, while its frame lets nothing of Jalyn
change but the sessions' own entries. A take from the gateway's channel, full until then, posts the gateway's waiting request, and the gateway
marks that request as posted, so that it is posted once (R163). -/
theorem not_pigeonholesCarryMessages : ¬ Obligations.PigeonholesCarryMessages := by
  unfold Obligations.PigeonholesCarryMessages
  intro h
  obtain ⟨-, -, -, -, -, htake, -⟩ := h 0 requestBehindFullChannel
  obtain ⟨hframe, -⟩ := (htake 0 0 2 5 untakenRequest (List.replicate 3 untakenRequest) (by decide +kernel) (by decide +kernel)
    (by decide +kernel) (by decide +kernel)).nextOf
  have hstays : gwQ (nextOf (.phTake 0 0 0 2) requestBehindFullChannel) 0 = [waitingRequest] := hframe.gwQ (by decide) 0
  rw [phTake_posts_waitingRequest] at hstays
  exact absurd hstays (by decide)
end

section
/-! PROOF. FORCE_CLEAR_ALL on a store that holds the key of a force row twice (R420): the row reads as cleared, so nothing is put, and the
second entry stays valid. No command builds such a store; the statement speaks of every state. -/

set_option Elab.async false

open Sys2Proof Sys2Proof.Machine

namespace Sys2Proof.Machine

/-- Every unit of the roll call READY. -/
def readyRoll : Tab Roll := (upto 31).map fun n => (n, { st := .ready })

/-- Row 0 of the force table stands in the store twice: cleared, and behind it valid. -/
def forceRowTwice : State where
  store := [(okey 0x380041 0 0, [.n 0]), (okey 0x380041 0 0, [.n 1])]
  boot := { phase := .run, roll := readyRoll }
  jal := { sess := [(0, { role := .eng })] }

/-- The session may run FORCE_CLEAR_ALL. -/
theorem cmdRuns_forceRowTwice : cmdRuns (advance 0 forceRowTwice) firstRequest 0x380042 0 [] = true := by decide

/-- A row is still valid after it. -/
theorem forceClearAll_leaves_row : forcesAll (nextOf (.forceClearAll 0 firstRequest) forceRowTwice) = 1 := by decide

end Sys2Proof.Machine

/-- Refutes O28: the clause on FORCE_CLEAR_ALL leaves no row of any store valid, while a row whose key stands in the store twice, first with
a cleared value, is not put again, and its second entry stays valid. -/
theorem not_logicCommandsAndForces : ¬ Obligations.LogicCommandsAndForces := by
  unfold Obligations.LogicCommandsAndForces
  intro h
  obtain ⟨-, -, -, -, -, hclear, -⟩ := h 0 forceRowTwice
  obtain ⟨-, hnone, -⟩ := (hclear firstRequest cmdRuns_forceRowTwice).nextOf
  rw [forceClearAll_leaves_row] at hnone
  exact absurd hnone (by decide)
end

section
/-! PROOF. PAIR_HELLO of a partner without option M while a migration is under way whose command's session has closed (R11, R146, R354,
R431): the migration is aborted and its command's result recorded. -/

set_option Elab.async false

open Sys2Proof Sys2Proof.Machine

namespace Sys2Proof.Machine

/-- Outside a frame that leaves Jalyn to the sessions' own entries, the commands whose sessions have closed stay. -/
theorem Frame.orphans {but : List Comp} {a t : State} (h : Frame but a t) (hj : Comp.jal ∉ but) : t.jal.orphans = a.jal.orphans := by
  have hsess : jalBut a t := h.1 hj
  rw [hsess]

/-- Pairing is enabled, the link is up and this unit's hello has gone. The migration of partition 0 waits for its handshake, and session 3,
whose MIG_START began it, has closed. -/
def migratingUnsettled : State where
  ident := { optP := true, optM := true }
  store := [(okey 0x400001 0 0, [.n 1])]
  boot := { phase := .run }
  parts := { ps := [(0, { st := .running, mig := { hand := true, rq := some (3, 7) } })] }
  pair := { link := true, helloSent := true }
  jal := { orphans := [(3, 7, addrOf 0x300051 0)] }

/-- The hello of a partner that has none of the optional units. -/
def helloOf (digest : List Byte) : PairHello where
  pairId := 0
  unitB := true
  rank := 2
  serial := []
  units := 0
  seatCap := 0
  partCap := 0
  fcl := 0
  fclMin := 0
  baseRate := 0
  configDigest := digest

/-- The unit with its pair in some state. -/
def unsettledWith (x : Pair) : State := { advance 0 migratingUnsettled with pair := x }

/-- What is left to agree is the configuration. -/
theorem judgeHello_helloOf (digest : List Byte) (x : Pair) : judgeHello (unsettledWith x) (helloOf digest) =
    if digest != configDigest (unsettledWith x) then 5 else 0 := rfl

/-- The hello of a partner that agrees in that too. -/
def helloWithoutUnits : PairHello := helloOf (configDigest (unsettledWith migratingUnsettled.pair))

theorem judgeHello_agrees : judgeHello (unsettledWith migratingUnsettled.pair) helloWithoutUnits = 0 := by
  rw [helloWithoutUnits, judgeHello_helloOf, bne_self_eq_false]
  rfl

/-- The state with the hello noted. -/
def helloHeard : State := unsettledWith { migratingUnsettled.pair with partner := some helloWithoutUnits, heard := true, round := false }

/-- The hello settles the pair, whether or not the configurations then agree. -/
theorem judgeHello_helloHeard : judgeHello helloHeard helloWithoutUnits = 0 ∨ judgeHello helloHeard helloWithoutUnits = 5 := by
  rw [helloWithoutUnits, helloHeard, judgeHello_helloOf]
  split
  · exact .inr rfl
  · exact .inl rfl

/-- This unit's own hello has gone, and it settles. -/
theorem exec_pairHello : exec (.pairHello 0 helloWithoutUnits) migratingUnsettled =
    done (mirrorBack (settleWith helloHeard helloWithoutUnits)) := by
  have htry : trySettle helloHeard = mirrorBack (settleWith helloHeard helloWithoutUnits) := by
    unfold trySettle
    rw [if_neg (by decide)]
    rfl
  rw [← htry]
  change execPairHello 0 helloWithoutUnits migratingUnsettled = _
  unfold execPairHello
  dsimp only
  rw [if_neg (by decide), if_neg (by decide)]
  rfl

/-- The pair with a hello judged, before its partitions learn of it: the units that only one module has stop their migrations. -/
def settleJudged (s : State) (h : PairHello) (o : Nat) : State :=
  let s := logRec s 0x01C8 (0x80 + 5) (ints [o])
  let both := unitsPresent s &&& h.units
  let s := { s with pair := { s.pair with
    round := true, partner := some h, fail := if o ≤ 4 then o else 0, mismatch := o == 5, common := both
    unitB := s.vb 0x400003 0, rank := s.vn 0x400004 0
    settled := if o == 0 || o == 5 then some ⟨min h.fcl s.boot.runFcl, both, h.serial⟩ else none } }
  let s := selfBit s 9 (laneDown s)
  if pairUses s 2 then s else migStopAll s 7

theorem settleWith_orphans (s : State) (h : PairHello) :
    (settleWith s h).jal.orphans = (settleJudged s h (judgeHello s h)).jal.orphans := by
  have hsplit : ∃ u, settleWith s h = pairEval u ∧ Frame [.pair, .logb] (settleJudged s h (judgeHello s h)) u := by
    refine ⟨_, rfl, ?_⟩
    have htold (l : List Nat) (u : State) : Frame [.pair, .logb] u (l.foldl imageTell u) :=
      frame_foldl (fun v p => frame_ite ((within_sendIul ..).frame.mono (by decide)) (.refl ..)) l u
    exact frame_ite (htold ..) ((htold ..).trans (frame_withPair ..))
  obtain ⟨u, hu, hframe⟩ := hsplit
  rw [hu, (frame_pairEval u).orphans (by decide), hframe.orphans (by decide)]

theorem mirrorBack_orphans (s : State) : (mirrorBack s).jal.orphans = s.jal.orphans := by
  have hframe : Frame [.pair] s (mirrorBack s) := by
    unfold mirrorBack
    refine frame_ite (.refl ..) ((within_withPair ..).frame.trans (frame_foldl (fun v _ => ?_) _ _))
    exact ((within_withPair ..).trans (within_sendIul ..)).frame
  exact hframe.orphans (by decide)

/-- The migration's orphaned result is recorded as the hello is judged, and no longer waited for. -/
theorem settleJudged_drops_orphan {o : Nat} (h : o = 0 ∨ o = 5) :
    (settleJudged helloHeard helloWithoutUnits o).jal.orphans = [] := by
  obtain rfl | rfl := h
  · decide +kernel
  · decide +kernel

theorem settle_orphans (s : State) : (settle s).jal.orphans = s.jal.orphans := by
  have hsess : jalBut s (settle s) := jalBut_settle s
  rw [hsess]

/-- Settlement records the orphaned result, and it is no longer waited for. -/
theorem pairHello_drops_orphan : (nextOf (.pairHello 0 helloWithoutUnits) migratingUnsettled).jal.orphans = [] := by
  have hnext : nextOf (.pairHello 0 helloWithoutUnits) migratingUnsettled =
      settle (mirrorBack (settleWith helloHeard helloWithoutUnits)) := by
    unfold nextOf
    rw [exec_pairHello]
    rfl
  rw [hnext, settle_orphans, mirrorBack_orphans, settleWith_orphans]
  exact settleJudged_drops_orphan judgeHello_helloHeard

end Sys2Proof.Machine

/-- Refutes O29: settlement with a partner without option M aborts the migration under way (R11, R354), and where the session of its command
has closed the orphan is dropped (R146), while the clause's frame lets nothing of Jalyn change but the sessions' own entries. -/
theorem not_lanesTrainAndThePairSettles : ¬ Obligations.LanesTrainAndThePairSettles := by
  unfold Obligations.LanesTrainAndThePairSettles
  intro h
  obtain ⟨-, -, -, -, hagrees, -⟩ := h 0 migratingUnsettled
  obtain ⟨hframe, -⟩ := (hagrees _ rfl (by decide) rfl rfl rfl judgeHello_agrees).nextOf
  have hstays : _ = [(3, 7, addrOf 0x300051 0)] := hframe.orphans (by decide)
  rw [pairHello_drops_orphan] at hstays
  cases hstays
end

section
/-! PROOF. AGREE after the row's deadline (R438, R440): it comes too late to agree the row, which waits for EQ_DEADLINE_EXPIRY. -/

set_option Elab.async false

open Sys2Proof Sys2Proof.Machine

namespace Sys2Proof.Machine

/-- An equalisation in which both units received seat unit 4 alike and this unit has sent its AGREE, of an empty digest. -/
def agreeSent : Eq where
  own := [4]
  part := some ([4], [])
  asked := true
  final := some []

/-- Row 5 has closed and its deadline, at 0, has passed. -/
def deadlinePassed : State where
  now := 1
  ident := { optP := true }
  store := [(okey 0x400001 0 0, [.n 1])]
  plan := { lastClosed := some 5 }
  pair := { eqOn := true, eq := [(5, agreeSent)] }

/-- The partner's AGREE is noted, and the row stays in equalisation. -/
theorem agree_late_stays : eqOf (nextOf (.agree 0 5 []) deadlinePassed) 5 = some { agreeSent with agree := some [] } := by decide

end Sys2Proof.Machine

/-- Refutes O30: the clause on AGREE of the digest this unit sent ends the row as equalised whenever it comes, while an AGREE after the row's
deadline agrees nothing (R440). -/
theorem not_equalisationMessages : ¬ Obligations.EqualisationMessages := by
  unfold Obligations.EqualisationMessages
  intro h
  obtain ⟨-, -, -, -, -, -, -, -, hagree, -⟩ := h 0 deadlinePassed
  obtain ⟨-, hends, -⟩ := (hagree 5 [] agreeSent [4] [] (by decide) rfl (by decide) (by decide) rfl (by decide) rfl rfl rfl rfl).nextOf
  rw [agree_late_stays] at hends
  cases hends
end

section
/-! PROOF. A handover ends whose command's session has closed (R146, R460, R517): the command's result is recorded. -/

set_option Elab.async false

open Sys2Proof Sys2Proof.Machine

namespace Sys2Proof.Machine

/-- The handover of domain 0 waits for the partner's acknowledgement. Session 3, whose HANDOVER began it, has closed; session 0 has the role
SEC, and no partition belongs to the domain. -/
def handoverOrphaned : State where
  boot := { phase := .run, fuseComm := true, roll := readyRoll }
  pair := { claims := [(0, { handover := some (9, some 10000000, 3, 7) })] }
  jal := { sess := [(0, { role := .sec })], orphans := [(3, 7, addrOf 0x400021 0)] }

/-- The acknowledgement records the orphaned result, and it is no longer waited for. -/
theorem handoverAck_drops_orphan : (nextOf (.handoverAck 0 0 true) handoverOrphaned).jal.orphans = [] := by decide

/-- The session may run CLAIM_REARM of domain 0. -/
theorem cmdRuns_handoverOrphaned : cmdRuns (advance 0 handoverOrphaned) firstRequest 0x480050 0 [] = true := by decide

/-- The re-arm records the orphaned result, and it is no longer waited for. -/
theorem rearming_drops_orphan : (nextOf (.claimRearm 0 firstRequest 0) handoverOrphaned).jal.orphans = [] := by decide

end Sys2Proof.Machine

/-- Refutes O34: HANDOVER_ACK completes the HANDOVER of a session that has closed by dropping its orphan (R146, R460), while the clause's
frame lets nothing of Jalyn change but the sessions' own entries. -/
theorem not_claimsAreRaisedAndHandedOver : ¬ Obligations.ClaimsAreRaisedAndHandedOver := by
  unfold Obligations.ClaimsAreRaisedAndHandedOver
  intro h
  obtain ⟨-, -, -, -, -, -, -, -, -, -, -, hack, -⟩ := h 0 handoverOrphaned
  obtain ⟨hframe, -⟩ := (hack 0 9 (some 10000000) 3 7 rfl rfl).nextOf
  have hstays : (nextOf (.handoverAck 0 0 true) handoverOrphaned).jal.orphans = [(3, 7, addrOf 0x400021 0)] := hframe.orphans (by decide)
  rw [handoverAck_drops_orphan] at hstays
  cases hstays

/-- Refutes O38: CLAIM_REARM ends the handover under way (R517) and drops the orphan of a HANDOVER whose session has closed (R146), while the
clause's frame lets nothing of Jalyn change but the sessions' own entries. -/
theorem not_theWorkingKeyRegisterServesItsClasses : ¬ Obligations.TheWorkingKeyRegisterServesItsClasses := by
  unfold Obligations.TheWorkingKeyRegisterServesItsClasses
  intro h
  obtain ⟨-, -, -, -, -, -, -, -, -, -, -, -, -, -, -, -, hrearm⟩ := h 0 handoverOrphaned
  obtain ⟨hframe, -⟩ := (hrearm firstRequest 0 cmdRuns_handoverOrphaned (by decide)).nextOf
  have hstays : (nextOf (.claimRearm 0 firstRequest 0) handoverOrphaned).jal.orphans = [(3, 7, addrOf 0x400021 0)] :=
    hframe.orphans (by decide)
  rw [rearming_drops_orphan] at hstays
  cases hstays
end

section
/-! PROOF. LOG_MIRROR_WRITE with every slot of the mirror in use (R537, R538): the record takes the slot of one overwritten. -/

set_option Elab.async false

open Sys2Proof Sys2Proof.Machine

namespace Sys2Proof.Machine

/-- A record of a LOG_SEQ that is not protected. -/
def plainRec (n : Nat) : LogRec where
  num := n
  time := 0
  code := 0x0131
  src := 65
  prot := false
  rtcTime := false
  rtcOsf := false
  data := []

/-- Firmware runs, the first slot of the mirror holds an overwritten record, others follow, and record 2 waits for its slot. -/
def mirrorHolding (rest : List LogRec) : State where
  boot := { phase := .run, roll := readyRoll }
  logb := { seq := 2, recs := [plainRec 2], intake := [2], mirror := plainRec 1 :: rest }

theorem unit15_mirrorHolding (rest : List LogRec) : unitSt (advance 0 (mirrorHolding rest)) 15 = .ready := rfl

/-- Record 2 has left the intake and is written to the mirror next. -/
def takenFromIntake (rest : List LogRec) : State :=
  { advance 0 (mirrorHolding rest) with logb := { (advance 0 (mirrorHolding rest)).logb with intake := [] } }

theorem setUnit_mirror (s : State) (n : Nat) (st : USt) : (setUnit s n st).logb.mirror = s.logb.mirror := by
  unfold setUnit
  split
  · rfl
  · rfl

/-- The logbook's unit judged anew leaves the mirror. -/
theorem judgeLog_mirror (s : State) : (judgeLog s).logb.mirror = s.logb.mirror := by
  unfold judgeLog judgeUnit
  split
  · exact setUnit_mirror ..
  · rfl

/-- A full mirror that holds an overwritten record gives its slot up for the record it takes (R538). -/
theorem mirrorPut_mirror_length {s : State} {n : Nat} (hfull : 32768 ≤ s.logb.mirror.length)
    (hold : (s.logb.mirror.findIdx fun r => !s.logb.recs.any fun x => x.num == r.num) < s.logb.mirror.length) :
    (mirrorPut s n).logb.mirror.length + 1 = s.logb.mirror.length + (s.logb.recs.filter fun r => r.num == n).length := by
  simp only [mirrorPut, Nat.not_lt.mpr hfull, if_false, List.length_append, List.length_eraseIdx_of_lt hold]
  omega

/-- The record takes the slot of an overwritten one: a full mirror is as long as before. -/
theorem logMirrorWrite_keeps_length {rest : List LogRec} (hfull : rest.length = 32767) :
    (nextOf (.logMirrorWrite 0) (mirrorHolding rest)).logb.mirror.length = 32768 := by
  have hnext : nextOf (.logMirrorWrite 0) (mirrorHolding rest) = settle (judgeLog (logSuppDue (mirrorPut (takenFromIntake rest) 2))) := rfl
  have hmirror : (nextOf (.logMirrorWrite 0) (mirrorHolding rest)).logb.mirror = (mirrorPut (takenFromIntake rest) 2).logb.mirror := by
    rw [hnext]
    exact judgeLog_mirror _
  have hslots : (takenFromIntake rest).logb.mirror.length = 32768 := congrArg (· + 1) hfull
  have hfirst : ((takenFromIntake rest).logb.mirror.findIdx fun r => !(takenFromIntake rest).logb.recs.any fun x => x.num == r.num) = 0 :=
    rfl
  have hlen := mirrorPut_mirror_length (n := 2) hslots.ge (by rw [hfirst, hslots]; decide)
  have hone : ((takenFromIntake rest).logb.recs.filter fun r => r.num == 2).length = 1 := rfl
  rw [hmirror]
  omega

end Sys2Proof.Machine

/-- Refutes O41: the clause on LOG_MIRROR_WRITE appends the record to whatever the mirror holds, while in a mirror whose 32,768 slots are all
in use the record takes the slot of an overwritten one (R538). -/
theorem not_theLogbookTakesAndKeepsRecords : ¬ Obligations.TheLogbookTakesAndKeepsRecords := by
  unfold Obligations.TheLogbookTakesAndKeepsRecords
  intro h
  obtain ⟨rest, hrest⟩ : ∃ rest : List LogRec, rest.length = 32767 := ⟨List.replicate 32767 (plainRec 1), List.length_replicate ..⟩
  obtain ⟨-, -, -, hmirrored, -⟩ := h 0 (mirrorHolding rest)
  obtain ⟨-, -, hall, -⟩ := (hmirrored 2 [] rfl rfl (by rw [unit15_mirrorHolding]; decide) rfl rfl).nextOf
  have hlen : (nextOf (.logMirrorWrite 0) (mirrorHolding rest)).logb.mirror.length = 32768 + 1 := by
    rw [hall, List.length_append]
    exact congrArg (· + 2) hrest
  rw [logMirrorWrite_keeps_length hrest] at hlen
  omega
end

section
/-! PROOF. PICKUP_ENTRY on a module paired with one without option C (R11, R548): the engine lies outside the intersection and completes the
entry with NOT_READY. -/

set_option Elab.async false

open Sys2Proof Sys2Proof.Machine

namespace Sys2Proof.Machine

/-- An entry that raises bit 0 of the pickup word. -/
def raisesBit0 : PReq where
  row := 0
  mask := 1
  value := 1
  cookie := 0

/-- Paired and settled with a module that has none of the optional units. Ring 0, a SUBMIT ring of the capture engine, holds an entry. -/
def pairedWithoutC : State where
  ident := { optP := true, optC := true }
  store := [(okey 0x310010 0 0, [.n 0, .n 2, .n 64, .n 4, .n 0, .n 0, .n 4]), (okey 0x400001 0 0, [.n 1])]
  boot := { phase := .run, roll := readyRoll }
  parts := { ps := [(0, { st := .running })] }
  tt := { rings := [(0, { prod := 1, slots := [(0, .pickup raisesBit0)] })] }
  pair := { settled := some {} }

/-- The partition's word is not set. -/
theorem pickupEntry_refused : (nextOf (.pickupEntry 0 0) pairedWithoutC).cap.pickup = [] := by decide

end Sys2Proof.Machine

/-- Refutes O43: the clause on PICKUP_ENTRY asks for this unit's own capture engine alone, while on a module paired with one without option C
the engine is outside the intersection (R11): the entry completes with NOT_READY and the word stays. -/
theorem not_captureKeepsReleasesAndExports : ¬ Obligations.CaptureKeepsReleasesAndExports := by
  unfold Obligations.CaptureKeepsReleasesAndExports
  intro h
  obtain ⟨hpickup, -⟩ := h 0 pairedWithoutC
  have hdoes := hpickup 0 0 raisesBit0 (by decide) (by decide) (by decide) (by decide) (by decide)
    (by decide) (by decide) (.inl (by decide))
  obtain ⟨-, hword, -⟩ := hdoes.nextOf
  rw [pickupEntry_refused] at hword
  cases hword
end

section
/-! PROOF. Counters of type U64 (44.0060, 38.0016/j, 40.0026/p) at 2^32 - 1: the next count is 2^32, since such a counter saturates at
2^64 - 1 only (R30). -/

set_option Elab.async false

open Sys2Proof Sys2Proof.Machine

namespace Sys2Proof.Machine

/-- The table of counters with one that has counted 2^32 - 1. -/
def countedTo32 (ob : Nat) : Tab Ctr := [(okey ob 0 0, { v := 4294967295 })]

/-! ## BOOT_WRITE_REFUSED -/

/-- So many writes to the image loader's region have been refused. -/
def refusedTo32 : State where
  ctrs := countedTo32 0x440060

theorem imageLoaderRefused_counts_on :
    (nextOf (.imageLoaderWriteRefused 0 0) refusedTo32).ctr 0x440060 0 = 4294967296 := by decide

/-! ## CYCLE_OVERRUN -/

/-- Task 0 of partition 0, which runs, has a body that lives, so many boundaries skipped, and a period of 1 ms. -/
def skippedTo32 : State where
  store := [(okey 0x380011 0 0, [.n 1, .n 0, .n 0, .n 1000000, .n 0])]
  ctrs := countedTo32 0x380016
  boot := { phase := .run, roll := readyRoll }
  tm := { sec := 1 }
  parts := { ps := [(0, { st := .running })] }
  lg := { tasks := [(0, { body := true })] }

theorem cycleBoundary_counts_on : (nextOf (.cycleBoundary 0 0) skippedTo32).ctr 0x380016 0 = 4294967296 := by decide

/-! ## DIGEST_LATE -/

/-- Partition 0 is in step, so many digests of it have come late, and one that closed a second ago has not come. -/
def lateTo32 : State where
  now := 1000000000
  ctrs := countedTo32 0x400026
  parts := { ps := [(0, { st := .running })] }
  pair := { st := 3, settled := some {}, steps := [(0, { st := 4 })], digs := [(digKey 0 0, { closed := some 0 })] }

theorem digestWaitExpiry_counts_on : (nextOf (.digestWaitExpiry 0 0 0) lateTo32).ctr 0x400026 0 = 4294967296 := by decide

end Sys2Proof.Machine

/-- Refutes O44: the clause on IMAGE_LOADER_WRITE_REFUSED lets the count stop at 2^32 - 1, while BOOT_WRITE_REFUSED is a U64 (44.0060) and
counts on (R30). -/
theorem not_thePrefectRefillsAndRefuses : ¬ Obligations.ThePrefectRefillsAndRefuses := by
  unfold Obligations.ThePrefectRefillsAndRefuses
  intro h
  obtain ⟨-, -, hrefused⟩ := h 0 refusedTo32
  obtain ⟨-, hstops, -⟩ := (hrefused 0).nextOf
  rw [imageLoaderRefused_counts_on] at hstops
  exact absurd hstops (by decide)

/-- Refutes O27: the clause on a boundary with a body that lives lets the count stop at 2^32 - 1, while CYCLE_OVERRUN is a U64 (38.0016) and
counts on (R30, R406). -/
theorem not_logicCyclesStartOrAreSkipped : ¬ Obligations.LogicCyclesStartOrAreSkipped := by
  unfold Obligations.LogicCyclesStartOrAreSkipped
  intro h
  obtain ⟨-, hskip, -⟩ := h 0 skippedTo32
  obtain ⟨-, -, -, -, hstops, -⟩ := (hskip 0 (by decide) (by decide) (by decide) rfl (by decide)
    (by decide) (by decide) rfl rfl).nextOf
  rw [cycleBoundary_counts_on] at hstops
  exact absurd hstops (by decide)

/-- Refutes O31: the clause on DIGEST_WAIT_EXPIRY of a partition in step lets the count stop at 2^32 - 1, while DIGEST_LATE is a U64
(40.0026) and counts on (R30, R446). -/
theorem not_outputDigestsJudgeTheStep : ¬ Obligations.OutputDigestsJudgeTheStep := by
  unfold Obligations.OutputDigestsJudgeTheStep
  intro h
  obtain ⟨-, -, -, hlate, -⟩ := h 0 lateTo32
  obtain ⟨-, -, -, hinStep, -⟩ := (hlate 0 0 0 (by decide) (by decide) (by decide)).nextOf
  obtain ⟨hstops, -⟩ := hinStep (by decide)
  rw [digestWaitExpiry_counts_on] at hstops
  exact absurd hstops (by decide)
end

section
/-! PROOF. The real-time clock's second, its writes, its alarm, its latch and its trim window (R519 to R524). -/

set_option Elab.async false

open Sys2Proof Sys2Proof.Machine

namespace Sys2Proof.Machine

/-! ## The calendar's second -/

theorem calTick_of_sec {c : Cal} (h : c.sec < 59) : calTick c = ({ c with sec := c.sec + 1 }, false) := if_pos h

/-- Where the calendar rolls over, it was the last second of the last day of its range, or later. -/
theorem calTick_rolled {c : Cal} (h : (calTick c).2 = true) :
    59 ≤ c.sec ∧ c.year = 2399 ∧ c.month = 12 ∧ ∃ w, (calTick c).1 = ⟨2000, 1, 1, 0, 0, 0, w⟩ := by
  revert h
  simp only [calTick]
  generalize (if c.wday ≥ 6 then 0 else c.wday + 1) = w
  split
  · exact nofun
  split
  · exact nofun
  split
  · exact nofun
  split
  · next hlast =>
    simp only [calLast, Bool.and_eq_true, beq_iff_eq] at hlast
    obtain ⟨⟨hyear, hmonth⟩, -⟩ := hlast
    exact fun _ => ⟨by omega, hyear, hmonth, w, rfl⟩
  split
  · exact nofun
  split <;> exact nofun

/-- Where the second after a calendar's is one more than its own, the calendar has not rolled over. -/
theorem calTick_rolls_back {c : Cal} (h : calSecs c + 1 = calSecs (calTick c).1) : (calTick c).2 = false := by
  by_contra hroll
  obtain ⟨-, hyear, hmonth, w, hnext⟩ := calTick_rolled (by simpa using hroll)
  have hfirst : calSecs ⟨2000, 1, 1, 0, 0, 0, w⟩ = 946684800 := by
    simp only [calSecs]
    decide
  have hlast : daysTo c.year = 156689 := by
    rw [hyear]
    decide +kernel
  rw [hnext, hfirst] at h
  simp only [calSecs, hlast] at h
  omega

/-! ## The alarm -/

theorem alarmJudge_of_none {s : State} {old : Cal} {skip : Bool} (h : s.rtc.alarm = none) : alarmJudge s old skip = s := by
  simp only [alarmJudge, h]

/-- The alarm reached off backup supply: it has fired, and is recorded. -/
theorem alarmJudge_reached {s : State} {old c : Cal} {skip : Bool} (h : s.rtc.alarm = some c) (hv : s.rtc.vbak = false)
    (hold : calKey old < calKey c) (hnew : calKey c ≤ calKey s.rtc.cal) : alarmJudge s old skip =
      logRec (setRtc s { s.rtc with alarm := none, fired := true, skipped := s.rtc.skipped || skip }) 0x01F1 0x80 (calInts s.rtc.cal) := by
  simp only [alarmJudge, h, alarmFire, hv, decide_eq_true hold, decide_eq_true hnew]
  rfl

/-! ## The leap second -/

theorem leapStage_of_noLeap {s : State} (h : s.tm.leap = 0) : leapStage s = s := if_pos (by simp [h])

/-- The leap second is staged; nothing else changes. -/
theorem leapStage_keeps (s : State) :
    Within [.rtc] s (leapStage s) ∧ (leapStage s).rtc = { s.rtc with staged := (leapStage s).rtc.staged } := by
  unfold leapStage
  extract_lets c due
  split
  · exact ⟨Within.refl .., rfl⟩
  · exact ⟨within_setRtc .., rfl⟩

/-! ## Writes -/

/-- A write with no alarm armed: the calendar taken, and recorded. -/
theorem calApply_of_noAlarm {s : State} {c : Cal} (h : s.rtc.alarm = none) : calApply s c =
    logRec (setRtc s { s.rtc with cal := c }) 0x01F0 0x80 (calInts s.rtc.cal ++ calInts c) :=
  alarmJudge_of_none h

/-- An IMMEDIATE write with no alarm armed. -/
theorem calNow_keeps {s : State} {c : Cal} (h : s.rtc.alarm = none) : Within [.rtc, .logb] s (calNow s c) ∧
    (calNow s c).rtc.cal = c ∧ (calNow s c).rtc.staged = none ∧ (calNow s c).rtc.secBase = s.now := by
  unfold calNow
  extract_lets r r'
  rw [calApply_of_noAlarm (by exact h)]
  exact ⟨(((within_setRtc ..).trans (within_setRtc ..)).mono (by decide)).trans ((within_logRec ..).mono (by decide)), rfl, rfl, rfl⟩

/-- COMMIT of a valid date and time. -/
theorem calCommit_staged {s : State} {c : Cal} (hc : calOf s.rtc.stTime.toNat s.rtc.stDate.toNat = c) (h : calOk c = true) :
    calCommit s false = setRtc s { s.rtc with staged := some c } := by
  simp [calCommit, hc, h]

/-- COMMIT with IMMEDIATE of a valid date and time. -/
theorem calCommit_immediate {s : State} {c : Cal} (hc : calOf s.rtc.stTime.toNat s.rtc.stDate.toNat = c) (h : calOk c = true) :
    calCommit s true = calNow s c := by
  simp [calCommit, hc, h]

/-- A word written to RTC_CMD of a port that is not locked out. -/
theorem rtcWrite_cmd {s : State} {w : Word} (h : s.rtc.lockout = false) : rtcWrite s 0x18 w = rtcCmd s w.toNat := by
  simp [rtcWrite, h]

theorem rtcCmd_commit (s : State) : rtcCmd s (1 : Word).toNat = calCommit s false := rfl

theorem rtcCmd_commitImmediate (s : State) : rtcCmd s (3 : Word).toNat = calCommit s true := rfl

theorem rtcCmd_alarmArm (s : State) :
    rtcCmd s (4 : Word).toNat = alarmSet s (calOf s.rtc.alTime.toNat s.rtc.alDate.toNat) := rfl

/-! ## The second -/

/-- The RTC as its second begins: counted in its trim window, and in a service window of the vault. -/
def secondBegun (s : State) : State :=
  { setRtc s { s.rtc with secBase := s.now, trimSecs := s.rtc.trimSecs + 1 } with
    vault := { s.vault with service := s.vault.service.map (· - 1) } }

theorem within_secondBegun (s : State) : Within [.vault, .rtc, .logb] s (secondBegun s) :=
  ((within_setRtc ..).mono (by decide)).trans ((within_withVault ..).mono (by decide))

/-- The RTC after its second with nothing staged. -/
def secondTicked (s : State) : State :=
  let t := setRtc (secondBegun s) { (secondBegun s).rtc with cal := (calTick s.rtc.cal).1 }
  leapStage (alarmJudge (if (calTick s.rtc.cal).2 then setOsf t else t) s.rtc.cal false)

/-- The RTC after its second with a staged write. -/
def secondWritten (s : State) (c : Cal) : State := calApply (setRtc (secondBegun s) { (secondBegun s).rtc with staged := none }) c

theorem exec_rtcSecondBoundary_ticks {dt : Nat} {s : State} (hrun : (advance dt s).rtc.oscRun = true)
    (hc : (advance dt s).rtc.staged = none) : exec (.rtcSecondBoundary dt) s = done (secondTicked (advance dt s)) := by
  change execRtcSecondBoundary dt s = _
  unfold execRtcSecondBoundary
  generalize advance dt s = a at *
  dsimp only
  rw [if_neg (by simp [hrun])]
  split
  · next hsome => exact absurd (hc.symm.trans hsome) nofun
  · rfl

theorem exec_rtcSecondBoundary_writes {dt : Nat} {s : State} {c : Cal} (hrun : (advance dt s).rtc.oscRun = true)
    (hc : (advance dt s).rtc.staged = some c) : exec (.rtcSecondBoundary dt) s = done (secondWritten (advance dt s) c) := by
  change execRtcSecondBoundary dt s = _
  unfold execRtcSecondBoundary
  generalize advance dt s = a at *
  dsimp only
  rw [if_neg (by simp [hrun])]
  split
  · next hsome =>
    obtain rfl : _ = c := Option.some.inj (hsome.symm.trans hc)
    rfl
  · next hnone => exact absurd (hc.symm.trans hnone) nofun

/-- With a staged write and no alarm the second records the write. -/
theorem secondWritten_of_noAlarm {s : State} {c : Cal} (halarm : s.rtc.alarm = none) : secondWritten s c =
    logRec (setRtc (setRtc (secondBegun s) { (secondBegun s).rtc with staged := none })
      { (secondBegun s).rtc with staged := none, cal := c }) 0x01F0 0x80 (calInts s.rtc.cal ++ calInts c) :=
  calApply_of_noAlarm halarm

/-- Where the calendar does not roll over, nothing is set but its second. -/
theorem secondTicked_of_noRoll {s : State} (hroll : (calTick s.rtc.cal).2 = false) : secondTicked s =
    leapStage (alarmJudge (setRtc (secondBegun s) { (secondBegun s).rtc with cal := (calTick s.rtc.cal).1 }) s.rtc.cal false) := by
  simp only [secondTicked, hroll, Bool.false_eq_true, if_false]

/-- A second that reaches the alarm fires it. -/
theorem secondTicked_fires {s : State} {c : Cal} (htick : calTick s.rtc.cal = (c, false)) (halarm : s.rtc.alarm = some c)
    (hvbak : s.rtc.vbak = false) (hkey : calKey s.rtc.cal < calKey c) : Within [.vault, .rtc, .logb] s (secondTicked s) ∧
      (secondTicked s).rtc.fired = true ∧ (secondTicked s).rtc.alarm = none ∧ (secondTicked s).rtc.skipped = s.rtc.skipped ∧
      ⟨0x01F1, 0x80, calInts c⟩ ∈ (secondTicked s).logb.offered := by
  have hcal : (calTick s.rtc.cal).1 = c := by rw [htick]
  rw [secondTicked_of_noRoll (by rw [htick]), hcal]
  have hset : Within [.vault, .rtc, .logb] s (setRtc (secondBegun s) { (secondBegun s).rtc with cal := c }) :=
    (within_secondBegun s).trans ((within_setRtc ..).mono (by decide))
  have hrtc : (setRtc (secondBegun s) { (secondBegun s).rtc with cal := c }).rtc = { (secondBegun s).rtc with cal := c } := rfl
  generalize setRtc (secondBegun s) { (secondBegun s).rtc with cal := c } = t at *
  rw [alarmJudge_reached (c := c) (by rw [hrtc]; exact halarm) (by rw [hrtc]; exact hvbak) hkey (by rw [hrtc])]
  obtain ⟨hwithin, hstage⟩ := leapStage_keeps (logRec (setRtc t { t.rtc with
    alarm := none, fired := true, skipped := t.rtc.skipped || false }) 0x01F1 0x80 (calInts t.rtc.cal))
  refine ⟨hset.trans ((((within_setRtc ..).mono (by decide)).trans ((within_logRec ..).mono (by decide))).trans
    (hwithin.mono (by decide))), ?_⟩
  have hlog := hwithin.agrees .logb (by decide)
  simp only [Comp.same] at hlog
  rw [hstage, hlog]
  simp [hrtc, secondBegun]

/-! ## The latch -/

/-- The registers as RTC_LATCH_READ of a port that is not locked out leaves them. -/
def latchAfter (s : State) (offset : Nat) : Rtc :=
  match latchNow s with
  | some _ => { s.rtc with latchRead := adjoin s.rtc.latchRead offset }
  | none => { s.rtc with latch := some (s.rtc.cal, prescale s), latchDue := s.now + 1000000, latchRead := [offset] }

theorem exec_rtcLatchRead {dt offset : Nat} {s : State} (h : (advance dt s).rtc.lockout = false)
    (ho : offset = 0 ∨ offset = 4 ∨ offset = 8) : exec (.rtcLatchRead dt offset) s = done (setRtc (advance dt s)
      (if (latchAfter (advance dt s) offset).latchRead.length = 3 then
        { latchAfter (advance dt s) offset with latch := none, latchRead := [] } else latchAfter (advance dt s) offset)) := by
  change execRtcLatchRead dt offset s = _
  unfold execRtcLatchRead
  generalize advance dt s = a at *
  have hoff : (offset == 0 || offset == 4 || offset == 8) = true := by
    obtain rfl | rfl | rfl := ho <;> rfl
  dsimp only
  rw [if_neg (by simp [h, hoff])]
  simp only [beq_iff_eq]
  rfl

end Sys2Proof.Machine

/-- Settles O39: the second by whether a write is staged and the alarm reached, each write of a register by the word it writes, the latch by
whether one is held. -/
theorem theRealTimeClockTicks : Obligations.TheRealTimeClockTicks := by
  unfold Obligations.TheRealTimeClockTicks
  intro dt s a
  refine ⟨fun hrun hstaged halarm hleap hsecs => ?tick, fun c hrun hstaged halarm => ?staged,
    fun hrun hstaged hvbak hsec halarm => ?alarm, fun hlock hok => ?commit, fun hlock halarm hok => ?immediate, fun hlock => ?arm,
    fun offset hlock hoff hlatch => ?latch, fun offset hlock hoff hlatch => ?latched, fun hlatch hdue => ?expiry, fun hrun htrim => ?trim⟩
  case tick =>
    refine does_within (exec_rtcSecondBoundary_ticks hrun hstaged) ?_ ?_
    all_goals rw [secondTicked_of_noRoll (calTick_rolls_back hsecs), alarmJudge_of_none (by exact halarm),
      leapStage_of_noLeap (by exact hleap)]
    · exact (within_secondBegun _).trans ((within_setRtc ..).mono (by decide))
    · exact ⟨rfl, rfl, rfl, fun h => by rw [settle_rtc, setRtc_rtc, calTick_of_sec h]⟩
  case staged =>
    refine does_within (exec_rtcSecondBoundary_writes hrun hstaged) ?_ ?_
    all_goals rw [secondWritten_of_noAlarm halarm]
    · exact ((within_secondBegun _).mono (by decide)).trans
        ((((within_setRtc ..).trans (within_setRtc ..)).mono (by decide)).trans ((within_logRec ..).mono (by decide)))
    · exact ⟨rfl, rfl, rfl⟩
  case alarm =>
    obtain ⟨hwithin, heff⟩ := secondTicked_fires (calTick_of_sec hsec) halarm hvbak (Nat.lt_succ_self _)
    exact does_within (exec_rtcSecondBoundary_ticks hrun hstaged) hwithin heff
  case commit =>
    refine does_within (x := rtcWrite a 0x18 1) rfl ?_ ?_
    all_goals rw [rtcWrite_cmd hlock, rtcCmd_commit, calCommit_staged rfl hok]
    · exact within_setRtc ..
    · rfl
  case immediate =>
    obtain ⟨hwithin, heff⟩ := calNow_keeps (s := a) (c := calOf a.rtc.stTime.toNat a.rtc.stDate.toNat) halarm
    refine does_within (x := rtcWrite a 0x18 3) rfl ?_ ?_
    all_goals rw [rtcWrite_cmd hlock, rtcCmd_commitImmediate, calCommit_immediate rfl hok]
    · exact hwithin
    · exact heff
  case arm =>
    refine does_within (x := rtcWrite a 0x18 4) rfl ?_ ?_
    all_goals rw [rtcWrite_cmd hlock, rtcCmd_alarmArm]
    · exact within_setRtc ..
    · exact ⟨rfl, rfl, rfl, rfl⟩
  case latch =>
    have hafter : latchAfter a offset = { a.rtc with latch := some (a.rtc.cal, prescale a), latchDue := a.now + 1000000
                                                     latchRead := [offset] } := by simp only [latchAfter, hlatch]
    refine does_within (exec_rtcLatchRead hlock hoff) (within_setRtc ..) ?_
    change (settle (setRtc a (if (latchAfter a offset).latchRead.length = 3 then _ else latchAfter a offset))).rtc.latch = _ ∧ _
    rw [hafter]
    exact ⟨rfl, rfl, rfl, rfl⟩
  case latched =>
    obtain ⟨l, hl⟩ := Option.isSome_iff_exists.mp hlatch
    have hafter : latchAfter a offset = { a.rtc with latchRead := adjoin a.rtc.latchRead offset } := by simp only [latchAfter, hl]
    refine does_within (exec_rtcLatchRead hlock hoff) (within_setRtc ..) ?_
    change (if (latchAfter a offset).latchRead.length = 3 then _ else _) = _
    rw [hafter]
  case expiry =>
    refine does_within (x := setRtc a { a.rtc with latch := none, latchRead := [] }) ?_ (within_setRtc ..) rfl
    exact if_pos (Bool.and_eq_true_iff.mpr ⟨hlatch, decide_eq_true hdue⟩)
  case trim =>
    have hgo : ¬ (!a.rtc.oscRun || decide (a.rtc.trimSecs < 64)) = true := by simpa [hrun] using htrim
    exact does_within (x := setRtc a { a.rtc with trim := a.rtc.trimNext, trimBase := a.now, trimSecs := 0 }) (if_neg hgo)
      (within_setRtc ..) rfl
end

section
/-! PROOF. The commands of area 50, the discipline, the lockout and the supply switch (R522, R527, R528, R529, R531, R532). -/

set_option Elab.async false

open Sys2Proof Sys2Proof.Machine

namespace Sys2Proof.Machine

/-! ## The registers of a date and time -/

theorem monthLen_le (y m : Nat) : monthLen y m ≤ 31 := by
  unfold monthLen
  split
  · split <;> omega
  · split <;> omega

/-- A valid date and time comes back from the words of RTC_TIME and RTC_DATE. -/
theorem calOf_words {c : Cal} (h : calOk c = true) :
    calOf (BitVec.ofNat 32 (calTime c)).toNat (BitVec.ofNat 32 (calDate c)).toNat = c := by
  obtain ⟨y, mo, d, hr, mi, sc, wd⟩ := c
  have hlen := monthLen_le y mo
  simp only [calOk, Bool.and_eq_true, decide_eq_true_eq] at h
  simp only [calOf, calTime, calDate, bits, BitVec.toNat_ofNat, Cal.mk.injEq]
  omega

/-! ## Commands -/

/-- Date and time written to the staged registers. -/
def stagedRegs (r : Rtc) (time date : Word) : Rtc := { r with stTime := time, stDate := date, engWrite := true }

@[simp] theorem stagedRegs_cal (r : Rtc) (time date : Word) : (stagedRegs r time date).cal = r.cal := rfl

@[simp] theorem stagedRegs_alarm (r : Rtc) (time date : Word) : (stagedRegs r time date).alarm = r.alarm := rfl

@[simp] theorem stagedRegs_stTime (r : Rtc) (time date : Word) : (stagedRegs r time date).stTime = time := rfl

@[simp] theorem stagedRegs_stDate (r : Rtc) (time date : Word) : (stagedRegs r time date).stDate = date := rfl

/-- The staged registers as RTC_SET leaves them. -/
def setStaged (s : State) (c : Cal) : State :=
  setRtc s (stagedRegs s.rtc (BitVec.ofNat 32 (calTime c)) (BitVec.ofNat 32 (calDate c)))

theorem within_setStaged (s : State) (c : Cal) : Within [.rtc] s (setStaged s c) := within_setRtc ..

theorem setStaged_now (s : State) (c : Cal) : (setStaged s c).now = s.now := setRtc_now ..

theorem setStaged_rtc (s : State) (c : Cal) :
    (setStaged s c).rtc = stagedRegs s.rtc (BitVec.ofNat 32 (calTime c)) (BitVec.ofNat 32 (calDate c)) := rfl

/-- The staged registers read as the date and time set. -/
theorem calOf_setStaged (s : State) {c : Cal} (h : calOk c = true) :
    calOf (setStaged s c).rtc.stTime.toNat (setStaged s c).rtc.stDate.toNat = c := by
  rw [setStaged_rtc, stagedRegs_stTime, stagedRegs_stDate, calOf_words h]

theorem opRtcSet_of_bad {s : State} {c : Cal} {im : Bool} (h : calOk c = false) : opRtcSet s c im = deny s rangeS := by
  simp [opRtcSet, h]

theorem opRtcSet_of_disciplined {s : State} {c : Cal} {im : Bool} (h : calOk c = true) (hd : (s.vb 0x500020 0 && s.tm.quality == 0) = true) :
    opRtcSet s c im = deny s stateS := by
  simp only [opRtcSet, h, hd]
  rfl

theorem opRtcSet_of_ok {s : State} {c : Cal} {im : Bool} (h : calOk c = true) (hd : (s.vb 0x500020 0 && s.tm.quality == 0) = false)
    (hl : s.rtc.lockout = false) : opRtcSet s c im = good (calCommit (setStaged s c) im) := by
  unfold opRtcSet
  rw [if_neg (by simp [h]), if_neg (by simp [hd]), if_neg (by simp [hl])]
  rfl

/-- COMMIT of a valid date and time leaves the calendar. -/
theorem calCommit_stages {s : State} {c : Cal} (hc : calOf s.rtc.stTime.toNat s.rtc.stDate.toNat = c) (h : calOk c = true) :
    Within [.rtc] s (calCommit s false) ∧ (calCommit s false).rtc.staged = some c ∧ (calCommit s false).rtc.cal = s.rtc.cal := by
  rw [calCommit_staged hc h]
  exact ⟨within_setRtc .., rfl, rfl⟩

/-- RTC_SET of a valid date and time stages it. -/
theorem rtcSet_stages (s : State) {c : Cal} (h : calOk c = true) : Within [.rtc] s (calCommit (setStaged s c) false) ∧
    (calCommit (setStaged s c) false).rtc.staged = some c ∧ (calCommit (setStaged s c) false).rtc.cal = s.rtc.cal := by
  obtain ⟨hwithin, hstaged, hcal⟩ := calCommit_stages (calOf_setStaged s h) h
  exact ⟨(within_setStaged ..).trans hwithin, hstaged, by rw [hcal, setStaged_rtc, stagedRegs_cal]⟩

/-- RTC_SET of a valid date and time with IMMEDIATE takes it, with no alarm armed. -/
theorem rtcSet_writes (s : State) {c : Cal} (h : calOk c = true) (halarm : s.rtc.alarm = none) :
    Within [.rtc, .logb] s (calCommit (setStaged s c) true) ∧ (calCommit (setStaged s c) true).rtc.cal = c ∧
      (calCommit (setStaged s c) true).rtc.staged = none ∧ (calCommit (setStaged s c) true).rtc.secBase = s.now := by
  rw [calCommit_immediate (calOf_setStaged s h) h]
  obtain ⟨hwithin, hcal, hstaged, hbase⟩ := calNow_keeps (s := setStaged s c) (c := c)
    (by rw [setStaged_rtc, stagedRegs_alarm, halarm])
  exact ⟨((within_setStaged ..).mono (by decide)).trans hwithin, hcal, hstaged, hbase.trans (setStaged_now ..)⟩

/-! ## The discipline -/

theorem clamp32_of_small {v : Int} (h : v.natAbs ≤ 2000000) : clamp32 v = v := by
  simp only [clamp32]
  omega

/-- TRIM after a discipline by an error: it follows the drift since the last one, when that was within 2 h and no engineer has written. -/
def trimAfter (s : State) (err : Int) : Int :=
  match s.rtc.lastDisc with
  | some (t, _) => if s.now - t < 7200000000000 && s.now > t && !s.rtc.engWrite then
      trimFor s.rtc.trimNext (err - s.rtc.discLeft) (s.now - t) else s.rtc.trimNext
  | none => s.rtc.trimNext

/-- RTC_DISCIPLINE of an error within 2 ms. -/
theorem exec_rtcDiscipline_small {dt : Nat} {off : Int} {s : State} (hdue : discDue (advance dt s) = true)
    (herr : (discErr (advance dt s) off).natAbs ≤ 2000000) : exec (.rtcDiscipline dt off) s =
      done (logRec (setRtc (advance dt s) { (advance dt s).rtc with
        trimNext := trimAfter (advance dt s) (discErr (advance dt s) off), discLeft := discErr (advance dt s) off, engWrite := false
        lastDisc := some ((advance dt s).now, tai (advance dt s), discErr (advance dt s) off, (advance dt s).rtc.trimNext,
          trimAfter (advance dt s) (discErr (advance dt s) off), false) }) 0x01F3 64
        [discErr (advance dt s) off, (advance dt s).rtc.trimNext, trimAfter (advance dt s) (discErr (advance dt s) off), 0]) := by
  change execRtcDiscipline dt off s = _
  unfold execRtcDiscipline trimAfter
  have hbig : ¬ (discErr (advance dt s) off).natAbs > 2000000 := by omega
  generalize advance dt s = a at *
  simp only [hdue, hbig, clamp32_of_small herr, decide_false, Bool.not_true, Bool.false_and, Bool.or_false, Bool.false_eq_true, if_false]
  rfl

/-! ## The backup supply -/

/-- The RTC on backup supply from now on. -/
def onVbak (s : State) : State :=
  setRtc s { s.rtc with vbak := true, vbakSince := s.now, onBackup := s.rtc.onBackup || s.vn 0x500010 0 == 0 }

/-- VBAK_SWITCH to backup, counted unless TZC3_COMPAT is set. -/
theorem exec_vbakSwitch_toBackup {dt : Nat} {s : State} (hv : (advance dt s).rtc.vbak = false) (hl : (advance dt s).rtc.lockout = true)
    (ht : (advance dt s).rtc.lockAt + 100000 ≤ (advance dt s).now) (hg : (advance dt s).hw.vinGood = false) :
    exec (.vbakSwitch dt true) s = done (if (advance dt s).vn 0x500010 0 == 0 then bump (onVbak (advance dt s)) 0x500012 0 else
      onVbak (advance dt s)) := by
  change execVbakSwitch dt true s = _
  unfold execVbakSwitch
  generalize advance dt s = a at *
  dsimp only
  rw [if_pos rfl, if_neg (by simp [hv, hl, hg]; omega)]
  rfl

/-- VBAK_SWITCH back to the main rail. -/
theorem exec_vbakSwitch_toMain {dt : Nat} {s : State} (hv : (advance dt s).rtc.vbak = true) (hg : (advance dt s).hw.vinGood = true) :
    ∃ p, exec (.vbakSwitch dt false) s = done (setRtc (advance dt s) { (advance dt s).rtc with vbak := false, pendSwitch := p }) := by
  change ∃ p, execVbakSwitch dt false s = _
  unfold execVbakSwitch
  generalize advance dt s = a at *
  dsimp only
  rw [if_neg (by decide), if_neg (by simp [hv, hg])]
  exact ⟨_, rfl⟩

end Sys2Proof.Machine

/-- Settles O40: each command by the branch of its meaning that its hypotheses choose. -/
theorem theRealTimeClockIsCommanded : Obligations.TheRealTimeClockIsCommanded := by
  unfold Obligations.TheRealTimeClockIsCommanded
  intro dt s a
  refine ⟨fun rq y mo d h mi sc wd im hrun hbad => ?range, fun rq y mo d h mi sc wd hrun hok hdisc hlock => ?staged,
    fun rq y mo d h mi sc wd hrun hok hdisc hlock halarm => ?immediate, fun rq y mo d h mi sc wd im hrun hok hdisc => ?disciplined,
    fun rq hrun hosc => ?osfClear, fun rq hrun hosc => ?osfDenied, fun rq hrun => ?ack, fun off hdue herr => ?discipline, ?lockout,
    fun hv hl ht hg => ?backup, fun hv hg => ?main⟩
  case range =>
    refine does_completes rfl hrun fun x => ?_
    rw [opRtcSet_of_bad hbad]
    exact completes_deny (by decide) fun t ht ha => ha
  case staged =>
    refine does_completes rfl hrun fun x => ?_
    rw [opRtcSet_of_ok (s := setSess a rq.sess x) hok hdisc hlock]
    obtain ⟨hwithin, hstaged, hcal⟩ := rtcSet_stages (setSess a rq.sess x) hok
    refine completes_within (show okS ≠ pendingS by decide) hwithin (by decide) fun t ht ha => ?_
    have hrtc : t.rtc = _ := ht .rtc (by decide)
    rw [hrtc]
    exact ⟨hstaged, hcal, ha⟩
  case immediate =>
    refine does_completes rfl hrun fun x => ?_
    rw [opRtcSet_of_ok (s := setSess a rq.sess x) hok hdisc hlock]
    obtain ⟨hwithin, hcal, hstaged, hbase⟩ := rtcSet_writes (setSess a rq.sess x) hok halarm
    refine completes_within (show okS ≠ pendingS by decide) hwithin (by decide) fun t ht ha => ?_
    have hrtc : t.rtc = _ := ht .rtc (by decide)
    rw [hrtc]
    exact ⟨hcal, hstaged, hbase, ha⟩
  case disciplined =>
    refine does_completes rfl hrun fun x => ?_
    rw [opRtcSet_of_disciplined (s := setSess a rq.sess x) hok hdisc]
    exact completes_deny (by decide) fun t ht ha => ha
  case osfClear =>
    refine does_completes rfl hrun fun x => ?_
    rw [show opOsfClear (setSess a rq.sess x) = good (setRtc (setSess a rq.sess x) { a.rtc with osf := false }) from
      if_neg (by simpa using hosc)]
    exact completes_within (show okS ≠ pendingS by decide) (within_setRtc ..) (by decide) fun t ht ha => ⟨ht .rtc (by decide), ha⟩
  case osfDenied =>
    refine does_completes rfl hrun fun x => ?_
    rw [show opOsfClear (setSess a rq.sess x) = deny (setSess a rq.sess x) stateS from if_pos (by simpa using hosc)]
    exact completes_deny (by decide) fun t ht ha => ⟨ht .rtc (by decide), ha⟩
  case ack =>
    exact does_completes rfl hrun fun x => completes_within (show okS ≠ pendingS by decide) (within_setRtc ..) (by decide) fun t ht ha =>
      ⟨ht .rtc (by decide), ha⟩
  case discipline =>
    refine does_within (exec_rtcDiscipline_small hdue herr)
      (((within_setRtc ..).mono (by decide)).trans ((within_logRec ..).mono (by decide)))
      ⟨rfl, rfl, rfl, rfl, rfl, fun hnone => ?_, ?_⟩
    · change trimAfter a _ = _
      simp only [trimAfter, hnone]
    · rw [clamp32_of_small herr]
      rfl
  case lockout =>
    exact does_within (x := setRtc a { a.rtc with lockout := true, lockAt := if a.rtc.lockout then a.rtc.lockAt else a.now }) rfl
      (within_setRtc ..) ⟨rfl, rfl, rfl, fun hlock => if_neg (by simp [hlock])⟩
  case backup =>
    have hon : Within [.ctrs, .rtc] a (onVbak a) := (within_setRtc ..).mono (by decide)
    refine does_within (exec_vbakSwitch_toBackup hv hl ht hg) (within_ite (hon.trans ((within_bump ..).mono (by decide))) hon) ?_
    split <;> exact ⟨rfl, rfl, rfl⟩
  case main =>
    obtain ⟨p, hx⟩ := exec_vbakSwitch_toMain hv hg
    exact does_within hx (within_setRtc ..) ⟨rfl, rfl⟩
end

section
/-! PROOF. What the messages of the link and the judging of the pair leave of the pair (R428, R430, R448). -/

set_option Elab.async false

open Sys2Proof Sys2Proof.Machine

namespace Sys2Proof.Machine

/-! ## Messages -/

/-- A frame changes nothing of the pair but its lanes. -/
theorem sendFrame_pair (s : State) (f : IulFrame) : ∃ l, (sendFrame s f).pair = { s.pair with lanes := l } := by
  unfold sendFrame
  split
  · exact ⟨_, rfl⟩
  · exact ⟨_, rfl⟩

theorem sendFrames_pair (fs : List IulFrame) (s : State) : ∃ l, (fs.foldl sendFrame s).pair = { s.pair with lanes := l } :=
  foldl_keeps (fun s t => ∃ l, t.pair = { s.pair with lanes := l }) (fun _ => ⟨_, rfl⟩)
    (fun _ _ _ ⟨_, h⟩ ⟨l, k⟩ => ⟨l, by rw [k, h]⟩) sendFrame sendFrame_pair fs s

/-- A message changes nothing of the pair but its lanes and the number of the next frame. -/
theorem sendIul_pair (s : State) (m : IulMsg) : ∃ l n, (sendIul s m).pair = { s.pair with lanes := l, iulSeq := n } := by
  unfold sendIul
  split
  · exact ⟨_, _, rfl⟩
  · obtain ⟨l, h⟩ := sendFrames_pair (iulFrames s m) s
    dsimp only
    split
    · exact ⟨l, _, h⟩
    · exact ⟨l, _, by rw [h]⟩

/-! ## The pair judged -/

/-- The parts of the pair that neither a message nor the pair's judging changes. -/
structure LinkView where
  link : Bool
  round : Bool
  fail : Nat
  steps : Tab StepSt
  partRpt : Option (List Byte)
  rptAt : Nat

/-- The view of a pair. -/
def linkView (x : Pair) : LinkView := ⟨x.link, x.round, x.fail, x.steps, x.partRpt, x.rptAt⟩

/-- The state and the reason the pair was last judged to have. -/
def pairState (x : Pair) : Nat × Nat := (x.st, x.reason)

theorem sendIul_keeps (s : State) (m : IulMsg) :
    linkView (sendIul s m).pair = linkView s.pair ∧ pairState (sendIul s m).pair = pairState s.pair := by
  obtain ⟨l, n, h⟩ := sendIul_pair s m
  rw [h]
  exact ⟨rfl, rfl⟩

/-- The rows remembered are not seen. -/
theorem withRows_keeps (x : Pair) (eqd uneq : List Nat) : linkView { x with eqdRows := eqd, uneqRows := uneq } = linkView x ∧
    pairState { x with eqdRows := eqd, uneqRows := uneq } = pairState x := ⟨rfl, rfl⟩

theorem noteRow_keeps (s : State) (r : Nat) (eqd : Bool) :
    linkView (noteRow s r eqd).pair = linkView s.pair ∧ pairState (noteRow s r eqd).pair = pairState s.pair := by
  unfold noteRow
  split <;> exact withRows_keeps s.pair _ _

/-- Rows that leave equalisation are not seen. -/
theorem withEq_keeps (x : Pair) (eq : Tab Eq) : linkView { x with eq := eq } = linkView x ∧ pairState { x with eq := eq } = pairState x :=
  ⟨rfl, rfl⟩

theorem eqGiveUp_keeps (s : State) (r : Nat) :
    linkView (eqGiveUp s r).pair = linkView s.pair ∧ pairState (eqGiveUp s r).pair = pairState s.pair := by
  unfold eqGiveUp
  obtain ⟨hview, hstate⟩ := withEq_keeps s.pair (tabDel s.pair.eq r)
  rw [(noteRow_keeps ..).1, (noteRow_keeps ..).2, (sendIul_keeps ..).1, (sendIul_keeps ..).2]
  exact ⟨hview, hstate⟩

theorem eqStop_keeps (s : State) :
    linkView (eqStop s).pair = linkView s.pair ∧ pairState (eqStop s).pair = pairState s.pair :=
  foldl_keeps (fun s t => linkView t.pair = linkView s.pair ∧ pairState t.pair = pairState s.pair) (fun _ => ⟨rfl, rfl⟩)
    (fun _ _ _ h k => ⟨k.1.trans h.1, k.2.trans h.2⟩) eqGiveUp eqGiveUp_keeps (s.pair.eq.map Prod.fst) s

theorem seeNow_pair (s : State) (ob sub : Nat) : (seeNow s ob sub).pair = s.pair := (frame_seeNow s ob sub).within.agrees .pair (by decide)

/-- The pair judged has the state and reason that its link, settlement and step call for, and keeps its view. -/
theorem pairEval_judges (s : State) :
    linkView (pairEval s).pair = linkView s.pair ∧ pairState (pairEval s).pair = pairWant s := by
  unfold pairEval
  split
  next st rs hwant =>
  extract_lets was o pair u v
  have hv : v.pair = { s.pair with st := st, reason := rs } := by
    unfold v
    split
    · rfl
    · rw [seeNow_pair]
      rfl
  clear_value v
  have hjudged : linkView v.pair = linkView s.pair ∧ pairState v.pair = pairWant s := by
    rw [hv, hwant]
    exact ⟨rfl, rfl⟩
  split
  · exact hjudged
  split
  · obtain ⟨hview, hstate⟩ := eqStop_keeps v
    exact ⟨hview.trans hjudged.1, hstate.trans hjudged.2⟩
  · exact hjudged

/-- A partition that leaves step takes nothing of the partner's card. -/
theorem leaveStep_view (s : State) (reason : Nat) : linkView (leaveStep s reason).pair = linkView s.pair := by
  unfold leaveStep
  obtain ⟨hview, -⟩ := pairEval_judges { s with pair := { s.pair with allIn := false, outReason := reason } }
  dsimp only
  split
  · exact hview
  · exact hview

end Sys2Proof.Machine
end

section
/-! PROOF. The link is lost (R354, R433, R460, R473): every partition leaves step, and what waited for the partner ends. -/

set_option Elab.async false

open Sys2Proof Sys2Proof.Machine

namespace Sys2Proof.Machine

/-! ## What ends with it -/

/-- The components that what ends with the link may change. -/
def Comp.linkLoss : List Comp := [.freeCtr, .jal, .parts, .pair, .vault, .logb]

theorem within_orphanEnd (s : State) (n reqId status : Nat) : Within Comp.linkLoss s (orphanEnd s n reqId status) := by
  unfold orphanEnd
  split
  · exact .refl ..
  · exact (((within_withJal ..).mono (by decide)).trans ((within_fresh _).mono (by decide))).trans ((within_logRec ..).mono (by decide))

theorem within_execEnd (s : State) (n reqId status : Nat) (bytes : List Byte) :
    Within Comp.linkLoss s (execEnd s n reqId status bytes) := by
  unfold execEnd
  split
  · exact within_orphanEnd ..
  · split
    · exact within_orphanEnd ..
    · exact (within_setSess ..).mono (by decide)

theorem within_answerLate (s : State) (n seq idx : Nat) (e : RespE) : Within Comp.linkLoss s (answerLate s n seq idx e) := by
  unfold answerLate
  split
  · exact .refl ..
  · split
    · exact .refl ..
    · exact (within_setSess ..).mono (by decide)

theorem within_setClaim (s : State) (d : Nat) (c : Claim) : Within Comp.linkLoss s (setClaim s d c) :=
  (within_withPair ..).mono (by decide)

theorem hoEnd_keeps (s : State) (d status : Nat) :
    Within Comp.linkLoss s (hoEnd s d status) ∧ linkView (hoEnd s d status).pair = linkView s.pair := by
  unfold hoEnd
  split
  · split
    · exact ⟨within_setClaim .., rfl⟩
    · exact ⟨(within_setClaim ..).trans (within_execEnd ..), by rw [execEnd_pair]; rfl⟩
  · exact ⟨.refl .., rfl⟩

/-! ## Mirrored operations -/

theorem within_stageDrop (s : State) : Within Comp.linkLoss s (stageDrop s) := by
  have hdrop : Within Comp.linkLoss s
      { s with jal := { s.jal with stage := [], holder := none }, vault := { s.vault with bundlePend := none } } :=
    ⟨fun c hc => by cases c <;> simp_all [Comp.same, Comp.linkLoss]⟩
  exact hdrop.trans ((within_logRec ..).mono (by decide))

theorem commitRefused_keeps (s : State) (status : Nat) :
    Within Comp.linkLoss s (commitRefused s status) ∧ (commitRefused s status).pair = s.pair := by
  unfold commitRefused
  extract_lets rq jal u
  have hu : Within Comp.linkLoss s u := (within_withJal ..).mono (by decide)
  have hpair : u.pair = s.pair := rfl
  clear_value u rq
  split
  · split
    · exact ⟨hu.trans (within_stageDrop ..), hpair⟩
    · exact ⟨hu.trans (within_answerLate ..), (answerLate_pair ..).trans hpair⟩
  · exact ⟨hu, hpair⟩

theorem mirrorRefused_keeps (s : State) (m : Mirrored) (status : Nat) :
    Within Comp.linkLoss s (mirrorRefused s m status) ∧ linkView (mirrorRefused s m status).pair = linkView s.pair := by
  unfold mirrorRefused
  extract_lets pair u
  have hu : Within Comp.linkLoss s u := (within_withPair ..).mono (by decide)
  have hview : linkView u.pair = linkView s.pair := rfl
  clear_value u
  split
  · obtain ⟨hwithin, hpair⟩ := commitRefused_keeps u status
    exact ⟨hu.trans hwithin, by rw [hpair, hview]⟩
  · exact ⟨(hu.trans ((within_withJal ..).mono (by decide))).trans (within_answerLate ..), by rw [answerLate_pair, ← hview]⟩
  · exact ⟨hu.trans (within_answerLate ..), by rw [answerLate_pair, hview]⟩

theorem mirrorDrop_keeps (s : State) :
    Within Comp.linkLoss s (mirrorDrop s) ∧ linkView (mirrorDrop s).pair = linkView s.pair := by
  unfold mirrorDrop
  extract_lets l pair u
  obtain ⟨hwithin, hview⟩ := foldl_keeps (fun s t => Within Comp.linkLoss s t ∧ linkView t.pair = linkView s.pair)
    (fun _ => ⟨.refl .., rfl⟩) (fun _ _ _ h k => ⟨h.1.trans k.1, k.2.trans h.2⟩) (fun s m => mirrorRefused s m stateS)
    (fun s m => mirrorRefused_keeps s m stateS) (u.pair.mirrors.filter fun m => m.own && !m.acked) u
  exact ⟨((within_withPair ..).mono (by decide)).trans hwithin, hview⟩

/-! ## Imports -/

theorem within_setPart (s : State) (p : Nat) (x : Part) : Within Comp.linkLoss s (setPart s p x) :=
  ⟨fun c hc => by cases c <;> simp_all [Comp.same, Comp.linkLoss]⟩

theorem migEnd_keeps (s : State) (p status : Nat) :
    Within Comp.linkLoss s (migEnd s p status) ∧ (migEnd s p status).pair = s.pair := by
  unfold migEnd
  extract_lets m u
  have hu : Within Comp.linkLoss s u := ((within_withVault ..).mono (by decide)).trans (within_setPart ..)
  have hpair : u.pair = s.pair := rfl
  clear_value u
  split
  · exact ⟨hu.trans (within_execEnd ..), (execEnd_pair ..).trans hpair⟩
  · exact ⟨hu, hpair⟩

/-- A partition that was not RUNNING stops: the pair does not learn of it. -/
theorem toSt_stopped_keeps {s : State} {p : Nat} {why : Why} (h : (partOf s p).st = .restoring) :
    Within Comp.linkLoss s (toSt s p .stopped why) ∧ (toSt s p .stopped why).pair = s.pair := by
  unfold toSt
  extract_lets x u
  have hx : x.st = .restoring := h
  have hu : Within Comp.linkLoss s u :=
    ((within_setPart ..).trans ((within_logRec ..).mono (by decide))).trans ((frame_seeNow ..).within.mono (by decide))
  have hpair : u.pair = s.pair := seeNow_pair ..
  rw [if_neg (by rw [hx]; decide), if_neg (by rw [hx]; decide), if_neg (by decide)]
  exact ⟨hu, hpair⟩

/-- An import aborted without a word to its source: the pair does not change. -/
theorem migAbort_import_keeps {s : State} {p : Nat} (reason : Nat) (h : (partOf s p).mig.import_ = true) :
    Within Comp.linkLoss s (migAbort s p reason false) ∧ (migAbort s p reason false).pair = s.pair := by
  unfold migAbort
  extract_lets m u v mig w y
  have hv : v = s := by
    have hm : m.import_ = true := h
    simp [v, u, hm]
  have hw : Within Comp.linkLoss s w := hv ▸ within_setPart v p _
  obtain ⟨hend, hpair⟩ := migEnd_keeps (migLog w p 4 reason) p abortedS
  have hy : Within Comp.linkLoss s y := hw.trans (((within_logRec ..).mono (by decide)).trans hend)
  have hypair : y.pair = s.pair := hpair.trans (by rw [← hv]; rfl)
  clear_value y
  split
  · next hst =>
    obtain ⟨hstop, hstopPair⟩ := toSt_stopped_keeps (why := .migration) (eq_of_beq hst)
    exact ⟨hy.trans hstop, hstopPair.trans hypair⟩
  · exact ⟨hy, hypair⟩

/-! ## The link down -/

/-- The link counts as down, the pair is not failed, and no partition is in step. -/
def LinkLow (v : LinkView) : Prop := v.link = false ∧ v.round = false ∧ v.fail = 0 ∧ ∀ x ∈ v.steps, x.2.st ≤ 1

theorem stepOf_st_le {s : State} (h : LinkLow (linkView s.pair)) (p : Nat) : (stepOf s p).st ≤ 1 := by
  obtain ⟨-, -, -, hsteps⟩ := h
  unfold stepOf tabGetD
  cases hget : tabGet s.pair.steps p with
  | none => exact Nat.zero_le _
  | some x => exact hsteps _ (mem_of_tabGet hget)

theorem linkLow_setStep {s : State} {p : Nat} {x : StepSt} (h : LinkLow (linkView s.pair)) (hx : x.st ≤ 1) :
    LinkLow (linkView (setStep s p x).pair) := by
  obtain ⟨hlink, hround, hfail, hsteps⟩ := h
  refine ⟨hlink, hround, hfail, fun y hy => ?_⟩
  obtain rfl | hy := mem_tabPut hy
  · exact hx
  · exact hsteps y hy

/-- What the end of the imports keeps of a pair whose link is down. -/
def LowKept (s t : State) : Prop :=
  Within Comp.linkLoss s t ∧ (LinkLow (linkView s.pair) → LinkLow (linkView t.pair)) ∧ pairState t.pair = pairState s.pair

theorem importStop_lowKept (s : State) : LowKept s (importStop s) := by
  unfold importStop
  refine foldl_keeps LowKept (fun _ => ⟨.refl .., id, rfl⟩) (fun _ _ _ h k => ⟨h.1.trans k.1, k.2.1 ∘ h.2.1, k.2.2.trans h.2.2⟩) _
    (fun u p => ?_) (s.parts.ps.map Prod.fst) s
  dsimp only
  split
  · next hcond =>
    have himport : (partOf u p).mig.import_ = true := (Bool.and_eq_true_iff.mp hcond).1
    obtain ⟨hwithin, hpair⟩ := migAbort_import_keeps (s := setStep u p { stepOf u p with hold := false }) (p := p) 7 himport
    refine ⟨((within_withPair ..).mono (by decide)).trans hwithin, fun hlow => ?_, by rw [hpair]; rfl⟩
    rw [hpair]
    exact linkLow_setStep hlow (stepOf_st_le hlow p)
  · exact ⟨.refl .., id, rfl⟩

/-- The pair just after the loss of its link, every partition out of step. -/
def linkCut (s : State) : State :=
  allOut { s with pair := { s.pair with link := false, round := false, heard := false, helloSent := false } }

theorem linkCut_low {s : State} (h : s.pair.fail = 0) : LinkLow (linkView (linkCut s).pair) := by
  refine ⟨rfl, rfl, h, fun x hx => ?_⟩
  obtain ⟨y, -, rfl⟩ := List.mem_map.mp hx
  dsimp only
  split <;> decide

/-- The images the partner runs forgotten. -/
def imagesDrop (s : State) : State :=
  { s with pair := { s.pair with steps := tabMap (fun _ (x : StepSt) => { x with image := none }) s.pair.steps } }

theorem imagesDrop_low {s : State} (h : LinkLow (linkView s.pair)) : LinkLow (linkView (imagesDrop s).pair) := by
  obtain ⟨hlink, hround, hfail, hsteps⟩ := h
  refine ⟨hlink, hround, hfail, fun x hx => ?_⟩
  obtain ⟨y, hy, rfl⟩ := List.mem_map.mp hx
  exact hsteps y hy

/-- The handovers over the link end. -/
def handoversEnd (s : State) : State :=
  (s.pair.claims.map Prod.fst).foldl (fun s d => if hoPath s d == 0 then hoEnd s d stateS else s) s

theorem handoversEnd_keeps (s : State) :
    Within Comp.linkLoss s (handoversEnd s) ∧ linkView (handoversEnd s).pair = linkView s.pair := by
  refine foldl_keeps (fun s t => Within Comp.linkLoss s t ∧ linkView t.pair = linkView s.pair)
    (fun _ => ⟨.refl .., rfl⟩) (fun _ _ _ h k => ⟨h.1.trans k.1, k.2.trans h.2⟩) _ (fun u d => ?_) _ s
  split
  · exact hoEnd_keeps ..
  · exact ⟨.refl .., rfl⟩

theorem linkGone_of_up {s : State} (h : s.pair.link = true) :
    linkGone s = importStop (pairEval (handoversEnd (imagesDrop (mirrorDrop (linkCut s))))) := if_neg (by simp [h])

/-- Pairing is enabled whatever ends with the link. -/
theorem pairOn_within {l : List Comp} {s t : State} (h : Within l s t) (hi : Comp.ident ∉ l) (hs : Comp.store ∉ l) :
    pairOn t = pairOn s := by
  have hident : t.ident = s.ident := h.agrees .ident hi
  have hstore : t.store = s.store := h.agrees .store hs
  simp only [pairOn, State.vb, hident, vn_of_store hstore (ob := 0x400001) (sub := 0) fun _ _ => rfl]

/-- The link lost: it is down, the pair is DEGRADED for that reason, and no partition is in step. -/
theorem linkGone_falls {s : State} (hlink : s.pair.link = true) (hon : pairOn s = true) (hfail : s.pair.fail = 0) :
    Within Comp.linkLoss s (linkGone s) ∧ LinkLow (linkView (linkGone s).pair) ∧ pairState (linkGone s).pair = (2, 1) := by
  rw [linkGone_of_up hlink]
  have hcut : Within Comp.linkLoss s (linkCut s) := ((within_withPair ..).trans (within_withPair ..)).mono (by decide)
  obtain ⟨hdrop, hdropView⟩ := mirrorDrop_keeps (linkCut s)
  have himages : Within Comp.linkLoss (mirrorDrop (linkCut s)) (imagesDrop (mirrorDrop (linkCut s))) :=
    (within_withPair ..).mono (by decide)
  have hlow := imagesDrop_low (hdropView ▸ linkCut_low hfail)
  generalize imagesDrop (mirrorDrop (linkCut s)) = u at *
  obtain ⟨hends, hendsView⟩ := handoversEnd_keeps u
  have hu : Within Comp.linkLoss s (handoversEnd u) := ((hcut.trans hdrop).trans himages).trans hends
  rw [← hendsView] at hlow
  have honEnd : pairOn (handoversEnd u) = true := (pairOn_within hu (by decide) (by decide)).trans hon
  generalize handoversEnd u = v at *
  obtain ⟨hview, hstate⟩ := pairEval_judges v
  have hwant : pairWant v = (2, 1) := by
    obtain ⟨hdown, -, hok, -⟩ := hlow
    simp only [linkView] at hdown hok
    simp [pairWant, honEnd, hdown, hok]
  obtain ⟨hstop, hkept, hstopState⟩ := importStop_lowKept (pairEval v)
  exact ⟨(hu.trans ((frame_pairEval v).within.mono (by decide))).trans hstop, hkept (hview ▸ hlow),
    hstopState.trans (hstate.trans hwant)⟩

end Sys2Proof.Machine
end

section
/-! PROOF. Report cards, the cross-check and the self-test (R471, R472, R474). -/

set_option Elab.async false

open Sys2Proof Sys2Proof.Machine

namespace Sys2Proof.Machine

/-! ## The self-test -/

/-- A self-test bit that changes is set or cleared, and recorded. -/
theorem selfBit_of_change {s : State} {n : Nat} {fails : Bool} (h : s.pair.selfFail.contains n = !fails) : selfBit s n fails =
    logRec { s with pair := { s.pair with selfFail := if fails then adjoin s.pair.selfFail n else without s.pair.selfFail n } }
      0x01C7 0x85 (ints [n, b2n fails]) := by
  unfold selfBit
  rw [if_neg (by rw [h]; cases fails <;> decide)]

/-- SELFTEST_CHECK of a directly checked bit. -/
theorem exec_selftestCheck_direct {dt n : Nat} {pass : Bool} {s : State} (hn : n = 1 ∨ n = 2 ∨ n = 4 ∨ n = 8)
    (hl : hubLive (advance dt s) = true) :
    exec (.selftestCheck dt n pass) s = done (selfBit (selfRan (advance dt s) n) n !pass) := by
  change execSelftestCheck dt n pass s = _
  unfold execSelftestCheck
  generalize advance dt s = a at *
  dsimp only
  obtain rfl | rfl | rfl | rfl := hn <;> rw [if_neg (by simp [hl]), if_neg (by decide), if_neg (by decide)]

theorem within_selfRan (s : State) (k : Nat) : Within [.pair, .logb] s (selfRan s k) := (within_withPair ..).mono (by decide)

theorem within_selfState (s : State) : Within [.pair, .logb] s (selfState s) := by
  unfold selfState
  exact ((((within_selfBit ..).trans (within_selfBit ..)).trans (within_selfBit ..)).trans (within_selfBit ..)).trans (within_selfBit ..)

/-- A self-test bit changes nothing of the pair but the set of bits. -/
theorem selfBit_pair (s : State) (n : Nat) (fails : Bool) : ∃ l, (selfBit s n fails).pair = { s.pair with selfFail := l } := by
  unfold selfBit
  split
  · exact ⟨_, rfl⟩
  · exact ⟨_, rfl⟩

theorem selfState_pair (s : State) : ∃ l, (selfState s).pair = { s.pair with selfFail := l } := by
  unfold selfState
  extract_lets a b c d
  obtain ⟨_, ha⟩ := selfBit_pair s 0 (!s.parts.coreFailed.isEmpty)
  obtain ⟨_, hb⟩ := selfBit_pair a 3 (!a.cond.failed.isEmpty)
  obtain ⟨_, hc⟩ := selfBit_pair b 5 (xcheckBad b)
  obtain ⟨_, hd⟩ := selfBit_pair c 6 ((boards c).any fun x => !(boardOf c x).ok)
  obtain ⟨l, he⟩ := selfBit_pair d 9 (laneDown d)
  exact ⟨l, by rw [he, hd, hc, hb, ha]⟩

/-! ## Report cards -/

/-- The next card's number and the time from which it is due. -/
def cardNumbered (s : State) : State :=
  { s with pair := { s.pair with rptDue := s.now + 9000000, rptSeq := (s.pair.rptSeq + 1) % 4294967296 } }

/-- A card formed is kept, and sent while pairing is enabled. -/
def cardSent (s : State) (card : List Byte) : State :=
  let u := { s with pair := { s.pair with ownRpt := card } }
  if pairOn u then sendIul u (.report card) else u

/-- REPORT_TX when due. -/
theorem exec_reportTx_due {dt : Nat} {s : State} (hdue : (advance dt s).pair.rptDue ≤ (advance dt s).now)
    (hl : hubLive (advance dt s) = true) (hp : (advance dt s).ident.optP = true) : exec (.reportTx dt) s =
      done (cardSent (cardNumbered (selfState (advance dt s))) (ownReport (cardNumbered (selfState (advance dt s))))) := by
  change execReportTx dt s = _
  unfold execReportTx cardSent
  generalize advance dt s = a at *
  dsimp only
  rw [if_neg (by simp [hdue, hl, hp]), apply_ite done]
  simp only [cardNumbered]
  rfl

/-- Every card begins with MAGIC and VERSION. -/
theorem ownReport_head (s : State) : (ownReport s).take 3 = [0x43, 0x52, 1] := by
  have hhead : leN 2 0x5243 ++ leN 1 1 <+: ownReport s := by
    unfold ownReport
    extract_lets late body
    apply List.prefix_append_of_prefix
    unfold body
    iterate 26 apply List.prefix_append_of_prefix
    exact List.prefix_rfl
  exact (List.prefix_iff_eq_take.mp hhead).symm

theorem cardNumbered_keeps (s : State) : Within [.pair, .logb] s (cardNumbered (selfState s)) ∧
    (cardNumbered (selfState s)).pair.rptDue = s.now + 9000000 ∧
    (cardNumbered (selfState s)).pair.rptSeq = (s.pair.rptSeq + 1) % 4294967296 := by
  obtain ⟨l, hpair⟩ := selfState_pair s
  have hnow : (selfState s).now = s.now := (within_selfState s).agrees .now (by decide)
  refine ⟨(within_selfState s).trans ((within_withPair ..).mono (by decide)), ?_, ?_⟩
  · change (selfState s).now + 9000000 = _
    rw [hnow]
  · change ((selfState s).pair.rptSeq + 1) % 4294967296 = _
    rw [hpair]

theorem cardSent_keeps (s : State) (card : List Byte) : Within [.pair, .logb] s (cardSent s card) ∧
    (cardSent s card).pair.rptDue = s.pair.rptDue ∧ (cardSent s card).pair.rptSeq = s.pair.rptSeq ∧
    (cardSent s card).pair.ownRpt = card := by
  have hkept : Within [.pair, .logb] s { s with pair := { s.pair with ownRpt := card } } := (within_withPair ..).mono (by decide)
  unfold cardSent
  dsimp only
  split
  · obtain ⟨l, n, hsent⟩ := sendIul_pair { s with pair := { s.pair with ownRpt := card } } (.report card)
    refine ⟨hkept.trans ((within_sendIul ..).mono (by decide)), ?_⟩
    rw [hsent]
    exact ⟨rfl, rfl, rfl⟩
  · exact ⟨hkept, rfl, rfl, rfl⟩

/-- A card received is kept with its arrival. -/
def cardKept (s : State) (card : List Byte) : State := { s with pair := { s.pair with partRpt := some card, rptAt := s.now } }

/-- REPORT of a valid card. -/
theorem exec_report_valid {dt : Nat} {card : List Byte} {s : State} (hc : cardOk card = true) (hon : pairOn (advance dt s) = true)
    (hl : hubLive (advance dt s) = true) : exec (.report dt card) s = done (partnerStops
      (if (lanesUp (cardKept (advance dt s) card)).isEmpty then cardKept (advance dt s) card else
        linkBack (cardKept (advance dt s) card))) := by
  change execReport dt card s = _
  unfold execReport
  generalize advance dt s = a at *
  dsimp only
  rw [if_neg (by simp [hc, hon, hl])]
  rfl

/-- The card last received and its arrival. -/
def cardView (s : State) : Option (List Byte) × Nat := (s.pair.partRpt, s.pair.rptAt)

theorem cardView_of_linkView {s t : State} (h : linkView t.pair = linkView s.pair) : cardView t = cardView s :=
  Prod.ext (congrArg LinkView.partRpt h) (congrArg LinkView.rptAt h)

/-- The return of the link counts as an arrival. -/
theorem linkBack_keeps (s : State) : Frame [.pair, .logb] s (linkBack s) ∧
    (s.pair.rptAt = s.now → cardView (linkBack s) = cardView s) := by
  unfold linkBack
  split
  · exact ⟨.refl .., fun _ => rfl⟩
  · refine ⟨(frame_withPair ..).trans (frame_pairEval ..), fun h => ?_⟩
    rw [cardView_of_linkView (pairEval_judges _).1]
    exact Prod.ext rfl h.symm

theorem partnerStops_keeps (s : State) : Frame [.pair, .logb] s (partnerStops s) ∧ cardView (partnerStops s) = cardView s := by
  refine foldl_keeps (fun s t => Frame [.pair, .logb] s t ∧ cardView t = cardView s) (fun _ => ⟨.refl .., rfl⟩)
    (fun _ _ _ h k => ⟨h.1.trans k.1, k.2.trans h.2⟩) _ (fun u p => ?_) (created s) s
  split
  · refine ⟨((frame_withPair ..).trans (frame_withPair ..)).trans (frame_leaveStep ..), ?_⟩
    rw [cardView_of_linkView (leaveStep_view ..)]
    rfl
  · exact ⟨.refl .., rfl⟩

/-! ## The cross-check -/

/-- The offset measured is kept, and the next measurement is due 10 ms on. -/
def offsetKept (s : State) (offset : Int) : State :=
  { s with pair := { s.pair with xcheck := offset, xcheckOk := true, xcheckDue := s.now + 10000000 } }

/-- TIME_XCHECK when due. -/
theorem exec_timeXcheck_due {dt : Nat} {offset : Int} {s : State} (hlanes : (lanesUp (advance dt s)).isEmpty = false)
    (hon : pairOn (advance dt s) = true) (hdue : (advance dt s).pair.xcheckDue ≤ (advance dt s).now) :
    exec (.timeXcheck dt offset) s = done (selfBit (sendIul (offsetKept (advance dt s) offset) .xcheck) 5
      (xcheckBad (sendIul (offsetKept (advance dt s) offset) .xcheck))) := by
  change execTimeXcheck dt offset s = _
  unfold execTimeXcheck
  generalize advance dt s = a at *
  dsimp only
  rw [if_neg (by simp [hlanes, hon, hdue])]
  rfl

end Sys2Proof.Machine

/-- Settles O33: a card formed and one received by what messages and the pair's judging leave of the pair, the loss of the link by its steps in
order, a self-test bit by whether it changes. -/
theorem reportsSelfTestAndTheLink : Obligations.ReportsSelfTestAndTheLink := by
  unfold Obligations.ReportsSelfTestAndTheLink
  intro dt s a
  refine ⟨fun hdue hl hp => ?send, fun card hc hon hl => ?receive, fun hdown hlink hon hfail => ?down,
    fun offset hlanes hon hdue => ?xcheck, fun n hn hl hbit => ?fails, fun n hn hl hbit => ?passes⟩
  case send =>
    obtain ⟨hnumbered, hnext, hseq⟩ := cardNumbered_keeps a
    obtain ⟨hsent, hsentDue, hsentSeq, hcard⟩ := cardSent_keeps (cardNumbered (selfState a)) (ownReport (cardNumbered (selfState a)))
    refine does_within (exec_reportTx_due hdue hl hp) (hnumbered.trans hsent) ?_
    rw [settle_pair, hsentDue, hsentSeq, hcard]
    exact ⟨hnext, hseq, ownReport_head _⟩
  case receive =>
    have hkept : Frame [.pair, .logb] a (cardKept a card) := frame_withPair ..
    obtain ⟨hback, hbackView⟩ := linkBack_keeps (cardKept a card)
    obtain ⟨hstops, hview⟩ := partnerStops_keeps (if (lanesUp (cardKept a card)).isEmpty then cardKept a card else
      linkBack (cardKept a card))
    refine does_frame (exec_report_valid hc hon hl) ((frame_ite hkept (hkept.trans hback)).trans hstops) ?_
    have hcard : cardView (partnerStops (if (lanesUp (cardKept a card)).isEmpty then cardKept a card else
        linkBack (cardKept a card))) = (some card, a.now) := by
      rw [hview]
      split
      · rfl
      · exact hbackView rfl
    exact ⟨congrArg Prod.fst hcard, congrArg Prod.snd hcard⟩
  case down =>
    obtain ⟨hwithin, ⟨hlow, hround, -, hsteps⟩, hstate⟩ := linkGone_falls hlink hon hfail
    have hgone : ((lanesUp a).isEmpty || decide (a.pair.rptAt + 30000000 ≤ a.now)) = true := by simpa using hdown
    exact does_within (x := linkGone a) (if_pos hgone) (hwithin.mono (by decide))
      ⟨hlow, hround, congrArg Prod.fst hstate, congrArg Prod.snd hstate, hsteps⟩
  case xcheck =>
    have hkept : Within [.pair, .logb] a (offsetKept a offset) := (within_withPair ..).mono (by decide)
    refine does_within (exec_timeXcheck_due hlanes hon hdue)
      ((hkept.trans ((within_sendIul ..).mono (by decide))).trans (within_selfBit ..)) ?_
    obtain ⟨l, n, hsent⟩ := sendIul_pair (offsetKept a offset) .xcheck
    obtain ⟨f, hbit⟩ := selfBit_pair (sendIul (offsetKept a offset) .xcheck) 5 (xcheckBad (sendIul (offsetKept a offset) .xcheck))
    rw [settle_pair, hbit, hsent]
    exact ⟨rfl, rfl, rfl⟩
  case fails =>
    have hx := exec_selftestCheck_direct (pass := false) hn hl
    rw [selfBit_of_change (by exact hbit)] at hx
    exact does_within hx ((within_selfRan ..).trans (((within_withPair ..).mono (by decide)).trans ((within_logRec ..).mono (by decide))))
      ⟨rfl, rfl⟩
  case passes =>
    have hx := exec_selftestCheck_direct (pass := true) hn hl
    rw [selfBit_of_change (by exact hbit)] at hx
    exact does_within hx ((within_selfRan ..).trans (((within_withPair ..).mono (by decide)).trans ((within_logRec ..).mono (by decide))))
      ⟨rfl, rfl⟩
end
